-- ==== Sys2Proof/Word.lean ====
section
/-! DEFINITION. The smallest unit the device moves: a byte. Everything wider is a number that the byte
order of R8 (little-endian) spells over bytes; the helpers that do so stand in Machine/Bits.lean. -/

namespace Sys2Proof

/-- One byte (R7, R8). -/
abbrev Byte := BitVec 8

end Sys2Proof
end

