-- ==== Sys2Proof/Syntax.lean ====
section
/-! DEFINITION. The commands of the block: one constructor per row of spec/opcode_table.json, with the row's
operands. A command is a request that reaches the device (a dictionary request, a weir operation, a packet, a level
on a pin) or an event whose time has come (a window that ends, a time limit, a word that is due). Element numbers are
bounded by their types, so no term names an element that the device lacks. -/

namespace Sys2Proof

/-- Who makes a dictionary request (R464, R478, R480, R484): a mailbox of a host port, an Omtos session slot, an Omtos
source without a session (its address and UDP port), or a CAN FD controller. -/
inductive Requester where
  | mailbox (port : Fin 4) (m : Fin 4)
  | omtos (slot : Fin 2)
  | source (ip : Nat) (udp : Nat)
  | can (c : Fin 2)
  deriving DecidableEq, Repr

/-- One segment of a DOMAIN transfer (R474): its offset, its First and Last flags, its bytes. -/
structure Seg where
  offset : Nat
  first : Bool
  last : Bool
  data : List Byte
  deriving DecidableEq, Repr

/-- On whose behalf a weir operation is made (R341): a host's session, through the window or through WeirOp; a
cluster or steward core; a ferry; or a trigger, capture or detector, which acts for the owner of the weir's block (R99). -/
inductive WeirSource where
  | window (port : Fin 4)
  | request (q : Requester)
  | cluster (c : Fin 128)
  | ferry (f : Fin 40)
  | blockOwner
  deriving DecidableEq, Repr

/-- What a check code found: nothing, an error it corrected, or an error it could not correct (R120, R274, R300, R323). -/
inductive Check where
  | ok | corrected | uncorrectable
  deriving DecidableEq, Repr

/-- A dictionary request as it waits for a domain to wake or for a freeze to end (R534, R589): who makes it, its
operation code (R466), its object, its segment fields and its data; `seq` is the Sequence of the Omtos datagram that brought it (R482). -/
structure Request where
  q : Requester
  op : Nat
  idx : Nat
  sub : Nat
  offset : Nat := 0
  first : Bool := false
  last : Bool := false
  data : List Byte := []
  seq : Nat := 0
  deriving DecidableEq, Repr

/-- A sluice (R292): sluice `k` of cluster `c`, or sluice `k` of link `l` (R553) at its near end, the compute die of R552, or
at its far end. -/
inductive SluiceRef where
  | cluster (c : Fin 128) (k : Fin 8)
  | boundary (l : Fin 12) (k : Fin 32) (far : Bool)
  deriving DecidableEq, Repr

/-- What a writer puts into a sluice (R293, R301): a full-width word, or an item of 1, 2 or 4 bytes. -/
inductive SluiceItem where
  | word (data : BitVec 64) (poisoned : Bool)
  | item1 (data : BitVec 8)
  | item2 (data : BitVec 16)
  | item4 (data : BitVec 32)
  deriving DecidableEq, Repr

/-- A CSI-2 packet as it arrives (R119, R120): its virtual channel, its data type (below 0x10 a short packet), its payload, what
the header's code shows, and whether the payload's CRC holds. -/
structure CsiPacket where
  vc : Nat
  dt : Nat
  payload : List Byte
  header : Check
  crcOk : Bool
  deriving DecidableEq, Repr

/-- The other port writes the word that is being read, in the same cycle (R278): the data and byte mask it writes, and whether this read's
request was the later. -/
structure PortWrite where
  data : BitVec 64
  mask : BitVec 8
  readerLater : Bool
  deriving DecidableEq, Repr

/-- What a pass found in an element: failing columns, and whether a word could not be corrected. -/
structure MarchFound where
  elem : Fin 49
  columns : Nat
  word : Bool
  deriving DecidableEq, Repr

/-- Who makes a GDDR6 access (R327): a ferry for its chain, Inlet for a stream, Confluence, or Outfall for a channel. -/
inductive GddrMaster where
  | ferry (f : Fin 40)
  | stream (n : Fin 36)
  | confluence
  | channel (n : Fin 64)
  deriving DecidableEq, Repr

/-- A word at which a ferry's access meets port A (R278): its scratchpad address (R308), what port A writes there in the same cycle, data and
byte mask, none where it reads; and whether the ferry's request was the later. -/
structure Clash where
  addr : BitVec 27
  write : Option (BitVec 64 × BitVec 8)
  ferryLater : Bool
  deriving DecidableEq, Repr

/-- What a ferry meets on its way (R165, R278): how many cycles its requests waited at port B of each cluster, and the blocks and cells of a Mere
whose parity fails as it reads them. -/
structure FerryMeet where
  waited : List (Fin 128 × Nat)
  parity : List (BitVec 12 × BitVec 12)
  deriving DecidableEq, Repr

/-- What an event meets at the Eddy slice (R165, R168, R169): the cells of its neighbourhood whose parity fails, whether a hazard held it, and how
many ns it waited for the banks. -/
structure EddyMeet where
  bad : List (Fin 25)
  held : Bool
  bankWait : Nat
  deriving DecidableEq, Repr

/-- A unit that takes a tile, and how many ns it stood idle for a ferry transfer to or from GDDR6 before (R242). -/
structure UnitStall where
  unit : Fin 16
  gddr : Nat
  deriving DecidableEq, Repr

/-- What waits for a PCIe completion (R314, R430, R449). -/
inductive HostReader where
  | ferry (f : Fin 40)
  | consumer (n : Fin 64)
  deriving DecidableEq, Repr

/-- How an action record is written (R347, R348): at a weir's place in a host port's window, or through WeirAction. -/
inductive RecordPath where
  | window (port : Fin 4) (w : Fin 16384)
  | request (q : Requester)
  deriving DecidableEq, Repr

/-- The element that owes an acknowledge (R73): a lane stage, sequencer or register file counts as its unit; a steward core or cluster sluice as
its cluster. -/
inductive Watched where
  | unit (g : Fin 2048)
  | cluster (c : Fin 128)
  | region (r : Fin 16)
  | eddy (d : Fin 4)
  deriving DecidableEq, Repr

/-- What a detector found (R551, R553), with the element that it names. -/
inductive Detection where
  | residue (g : Fin 2048)
  | watchUnit (g : Fin 2048)
  | watchCluster (c : Fin 128)
  | watchRegion (r : Fin 16)
  | watchEddy (d : Fin 4)
  | marchSlot (g : Fin 2048)
  | marchBank (c : Fin 128)
  | clusterSluice (c : Fin 128) (k : Fin 8)
  | boundarySluice (l : Fin 12) (k : Fin 32)
  | lane (l : Fin 12) (n : Fin 64)
  | link (l : Fin 12)
  | channel (k : Fin 8)
  | mereBank (d : Fin 4) (b : Fin 64)
  | padWord (c : Fin 128)
  | gddrWord (k : Fin 8)
  | ferry (f : Fin 40)
  | rail (r : Fin 10)
  | timeBase
  | master (kind : Fin 9) (number : Fin 4096) (t : Fin 8)
  | hostPort (h : Fin 4)
  | manager (d : Fin 6)
  | dieLost (d : Fin 4)
  deriving DecidableEq, Repr

/-- The types of IEEE 1588 messages (R107). -/
inductive PtpType where
  | sync
  | delayReq
  | pdelayReq
  | pdelayResp
  | followUp
  | delayResp
  | pdelayFollowUp
  | announce
  | signaling
  | management
  deriving DecidableEq, Repr

/-- The event messages (R108): those that are time-stamped. -/
def PtpType.event : PtpType → Bool
  | .sync => true
  | .delayReq => true
  | .pdelayReq => true
  | .pdelayResp => true
  | _ => false

/-- What an Announce message says of its grandmaster, in the order in which IEEE 1588 compares it (R107): priority1, clock quality, priority2,
identity. -/
structure PtpRank where
  priority1 : BitVec 8
  quality : BitVec 32
  priority2 : BitVec 8
  identity : BitVec 64
  deriving DecidableEq, Repr

/-- An IEEE 1588 message (R107 to R109): its type, whether its sender works in two steps, its domain, the clockIdentity of its source and of the
requester it answers, its sequence number and its correctionField, the time that a response carries, what an Announce message says, its transport (0 IEEE 802.3, 1 UDP over IPv4,
2 UDP over IPv6), its UDP checksum and its trailing two bytes. -/
structure PtpMessage where
  type : PtpType
  twoStep : Bool
  domain : BitVec 8 := 0
  source : BitVec 64 := 0
  requester : BitVec 64 := 0
  number : BitVec 16
  correction : BitVec 64
  stamp : BitVec 80 := 0
  rank : Option PtpRank := none
  transport : Fin 3
  checksum : BitVec 16
  trailer : BitVec 16
  deriving DecidableEq, Repr

/-- What carries a dictionary request beside its fields (R478 to R483): the Tag of a mailbox's Issue and its Notify vector; the Sequence
of an Omtos datagram, its OmtosVersion, and whether its tag verifies. A requester reads the fields of its own transport only. With `bar`, a READ
by a host port is no request: it is a PCIe memory read at that byte offset of BAR 0 (false, R478) or BAR 2 (true, R347). -/
structure Envelope where
  tag : BitVec 16 := 0
  notify : Option (BitVec 8) := none
  seq : BitVec 32 := 0
  version : BitVec 16 := 0x0100
  tagOk : Bool := true
  bar : Option (Bool × BitVec 20) := none
  deriving DecidableEq, Repr

/-- Who sends a session message (R506): the host on a host port, through SessionIn, or an Omtos source by its address, its UDP port and
the 25 GbE port it is reached through. -/
inductive SessionPeer where
  | port (h : Fin 4)
  | omtos (ip udp : Nat) (eth : Fin 2)
  deriving DecidableEq, Repr

/-- On whose behalf a data-path access is made (R535, R341, R309): firmware of the device, or a tenant; none where a steward core, a
ferry or a weir acts for nobody. -/
inductive Accessor where
  | firmware
  | tenant (t : Fin 8)
  | nobody
  deriving DecidableEq, Repr

/-- A write to a partition object that has no command of its own (R440, R499). -/
inductive PartitionWrite where
  | hostKeys (t : Fin 8) (slot : Fin 4) (digest : List Byte)
  | streamTenant (n : Fin 36) (v : BitVec 8)
  | fusionOwner (v : BitVec 8)
  | tenantWeight (t : Fin 8) (v : BitVec 8)
  deriving DecidableEq, Repr

/-- A command of the device: one constructor per row of the table of operations and events. -/
inductive Instr where
  /-- POWER_ON_RESET (R607). A low PORST_N of at least 10 µs resets the device; its release starts F, samples the straps and runs the boot chain. -/
  | powerOnReset (straps : BitVec 8) (puf : Bool) (still : Bool) (cool : Bool)
  /-- WARM_RESET (R609). A low WARM_N of at least 1 µs resets most state and reruns the boot chain while keeping F, rails and soft repairs. -/
  | warmReset (puf : Bool)
  /-- HOLDOVER_ENTRY (R86). REFCLK has made no edge for 200 ns, so the PLL enters holdover, sets Holdover and clears Locked. -/
  | holdoverEntry
  /-- PLL_RELOCK (R86). After REFCLK returns the PLL relocks without a phase step and clears Holdover. -/
  | pllRelock
  /-- REFCLK_COMPARISON (R87). Each 1 s window compares REFCLK with the AON counter and sets or clears RefFault. -/
  | refclkComparison (ppb : BitVec 32)
  /-- SLEEP_ENTRY_LATCH (R88). At the next AON edge after entry the time base latches F0 and A0, then lets the clocked domain stop. -/
  | sleepEntryLatch
  /-- RE_BASING (R89). After relock at wake, at the next AON edge F is loaded from F0 plus the bridged AON interval, setting Coasted. -/
  | reBasing
  /-- UNBRIDGED_DETECT (R92). The AON count returns to A0 after 2^32 ticks and the sticky Unbridged bit is set. -/
  | unbridgedDetect
  /-- TIME_OFFSET_WRITE (R78). A HOST-mode write of TimeOffset steps device time, increments StepCount and clears Coasted. -/
  | timeOffsetWrite (q : Requester) (v : BitVec 64)
  /-- RATE_ADJUST_WRITE (R77). A HOST-mode write of RateAdjust changes the rate and compensates TimeOffset so that device time does not step. -/
  | rateAdjustWrite (q : Requester) (v : BitVec 32)
  /-- DISCIPLINE_MODE_WRITE (R85). A change of DisciplineMode keeps offset and rate, clears Locked and EpochPtp, and hands control to the new mode. -/
  | disciplineModeWrite (q : Requester) (v : BitVec 8)
  /-- SERVO_MEASUREMENT (R84). Each PTP or PPS offset measurement makes the servo either step TimeOffset or slew RateAdjust, and sets or clears Locked. -/
  | servoMeasurement (offset : BitVec 64) (delay : BitVec 32) (identity : List Byte)
  /-- TICK_SKIP (R192). A population's open tick lies more than 100 ms behind, or device time has stepped, so it closes and jumps to the present tick. -/
  | tickSkip (h : Fin 1024) (c : Fin 128) (bad : List (Fin 16))
  /-- TRIGGER_RECONVERT (R93). Within 1 µs of a rate change, step or re-basing, each armed trigger target is converted to F40 again. -/
  | triggerReconvert
  /-- TRIGGER_ARM (R95). A TrigControl write with Enable set arms the trigger, or fires a late one-shot, after checking that the target lies within 500 s. -/
  | triggerArm (q : Requester) (n : Fin 16) (v : BitVec 32)
  /-- TRIGGER_DISARM (R98). A TrigControl write with Enable clear disarms the trigger and lets a pulse in progress complete. -/
  | triggerDisarm (q : Requester) (n : Fin 16) (v : BitVec 32)
  /-- TRIGGER_FIRE (R93). F reaches an armed trigger's edge, so the pin changes, an optional weir add is made and the trigger may disarm with Done. -/
  | triggerFire (n : Fin 16)
  /-- TRIGGER_PULSE_END (R94). Width has elapsed in device time, so the trigger pin returns to its idle level. -/
  | triggerPulseEnd (n : Fin 16)
  /-- CAPTURE_TRANSITION (R100). A capture input accepts a filtered transition, then stamps it, queues a record, adds to a weir and makes a marker as configured. -/
  | captureTransition (m : Fin 8) (level : Bool) (age : Nat)
  /-- CAPTURE_STUCK (R103). A capture level has stayed unchanged longer than CapStuckTime, so Stuck is set and ALERT_N may be asserted. -/
  | captureStuck (m : Fin 8)
  /-- CAPTURE_FLOOD_END (R104). After 10 consecutive quiet milliseconds Flooded clears and CapFloodEpisodes increments. -/
  | captureFloodEnd (m : Fin 8)
  /-- CAP_POP (R105). A read of CapPop removes and returns the oldest capture record, or zeros when the FIFO is empty. -/
  | capPop (q : Requester) (m : Fin 8)
  /-- PTP_EVENT_MESSAGE (R108). The transparent clock forwards an IEEE 1588 event message and adds its residence time to the correctionField. -/
  | ptpEventMessage (ingress : Fin 3) (egress : Fin 3) (msg : PtpMessage) (residence : Nat) (link : Nat) (modifiable : Bool)
  /-- SYNC_MARK (R114). A sensor sync mark is paired with a reference edge, and the stream's clock map is re-anchored or stepped. -/
  | syncMark (n : Fin 36)
  /-- SYNC_AGE_EXPIRY (R115). StreamSyncAge exceeds eight mark intervals, so NoSync is set for the stream. -/
  | syncAgeExpiry (n : Fin 36)
  /-- PACE_CAP_WRITE (R64). A PaceCap write is applied, held PENDING or refused against the supported pace at the present voltage. -/
  | paceCapWrite (q : Requester) (d : Fin 4) (v : BitVec 8)
  /-- VOLTAGE_TARGET_WRITE (R64). A VoltageTarget write is refused or issues an AVSBus command to raise or lower the rail. -/
  | voltageTargetWrite (q : Requester) (d : Fin 4) (v : BitVec 16)
  /-- VOLTAGE_SETTLED (R65). The rail readback has stayed within ±10 mV of target for 20 µs, so the change ends DONE and a pending cap is applied. -/
  | voltageSettled (d : Fin 4)
  /-- VOLTAGE_TIMEOUT (R65). A voltage change has not settled 2 ms after its command, so it ends with VOLTAGE_TIMEOUT, discards a pending cap and raises a supply fault. -/
  | voltageTimeout (d : Fin 4)
  /-- TJ_READING (R616). Each 1 ms die temperature reading updates DieTemperature and may judge held writes, start throttling, set AboveLimit or trip the device. -/
  | tjReading (d : Fin 6) (t : BitVec 16)
  /-- THROTTLE_STEP (R67). Every 100 µs while a compute die is hot, its cap is lowered by one step. -/
  | throttleStep (d : Fin 4)
  /-- THROTTLE_RELEASE_STEP (R67). Every 1 ms after Tj falls below 95 °C, the cap is raised by one step until the accepted code is restored and Throttled clears. -/
  | throttleReleaseStep (d : Fin 4)
  /-- PACE_MEASURE_WINDOW (R60). At the end of each 1 ms window the die publishes its measured effective pace in PaceMeasured. -/
  | paceMeasureWindow (d : Fin 4) (cycles : BitVec 32)
  /-- HANDSHAKE_WATCHDOG (R73). A request has been pending 10 µs without hold, so the element that owes the acknowledge is declared faulty. -/
  | handshakeWatchdog (e : Watched)
  /-- LINK_ACTIVITY (R129). An HS burst or a datagram arrives at an EMPTY port, which enters IDENTIFY and addresses its sensor. -/
  | linkActivity (n : Fin 36) (source : List Byte) (nack : Option Nat)
  /-- IDENTITY_READ (R129). The sensor identity and profile match complete, and the port moves to READY, QUARANTINED or UNMATCHED. -/
  | identityRead (n : Fin 36) (pid : List Byte) (bcr : Byte) (dcr : Byte) (serial : List Byte) (nack : Option Nat)
  /-- I3C_TIMEOUT (R129). No I3C response arrives within 10 ms of an addressing or identity transfer, so the port enters FAULT. -/
  | i3cTimeout (n : Fin 36)
  /-- I3C_INTERRUPT (R124). An I3C in-band interrupt is acknowledged and counted. -/
  | i3cInterrupt (n : Fin 36)
  /-- HOT_JOIN (R124). An I3C Hot-Join request from a sensor is accepted. -/
  | hotJoin (n : Fin 36)
  /-- CONFIRM (R128). The Confirm command copies SeenIdentity into ExpectedIdentity and takes a QUARANTINED port to READY. -/
  | confirm (q : Requester) (n : Fin 36) (nack : Option Nat)
  /-- STREAM_START_COMMAND (R130). The Start command records Run intent and, after the checks, allocates Mere and spill and takes the stream to RUNNING. -/
  | streamStartCommand (q : Requester) (n : Fin 36) (nack : Option Nat)
  /-- AUTO_RESTART (R129). A sensor returns with the expected identity while AutoRestart and Run intent are set, so the stream goes back to RUNNING on its own. -/
  | autoRestart (n : Fin 36) (nack : Option Nat)
  /-- STREAM_STOP_COMMAND (R129). The Stop command clears Run intent, runs the StopSequence and moves the stream to DRAINING. -/
  | streamStopCommand (q : Requester) (n : Fin 36) (nack : Option Nat)
  /-- REBIND (R129). The Rebind command discards the queue and ring contents and returns the port to IDENTIFY. -/
  | rebind (q : Requester) (n : Fin 36)
  /-- LINK_LOST (R129). No burst or datagram arrives for LinkTimeout, or I3C fails three times, so the port drains or becomes EMPTY. -/
  | linkLost (n : Fin 36) (partialWords : Nat)
  /-- DRAIN_COMPLETE (R129). The queue and spill ring are empty, so STREAM_STOP is emitted, Mere blocks are freed and the port becomes READY or EMPTY. -/
  | drainComplete (n : Fin 36)
  /-- QUEUE_STALL (R152). An Inlet queue holds words that its sluice has not taken for QueueStallLimit, so the port enters FAULT. -/
  | queueStall (n : Fin 36)
  /-- CSI2_PACKET (R120). A CSI-2 packet is checked, and then decoded, re-timed, filtered and queued, or discarded with a GAP. -/
  | csi2Packet (n : Fin 36) (k : CsiPacket)
  /-- FLOW_DATAGRAM (R123). An Ethernet flow datagram is checked for source and sequence, and then decoded like a CSI-2 payload. -/
  | flowDatagram (port : Fin 2) (udp : Nat) (source : List Byte) (payload : List Byte) (fcsOk : Bool)
  /-- HOT_WINDOW_END (R138). At the end of each HotWindow the hot-pixel detector adds frequent candidates to the hot list and empties its table. -/
  | hotWindowEnd (n : Fin 36)
  /-- HOT_LIST_CLEAR_AUTO (R138). A HotListClear write of 1 removes the auto entries of the hot list. -/
  | hotListClearAuto (q : Requester) (n : Fin 36)
  /-- HOT_LIST_CLEAR_ALL (R138). A HotListClear write of 2 removes every entry of the hot list. -/
  | hotListClearAll (q : Requester) (n : Fin 36)
  /-- GRID_IMAGE_WRITE (R140). A GridImage write loads the undistortion grid, or is refused for its length or node count. -/
  | gridImageWrite (q : Requester) (n : Fin 36) (g : Seg)
  /-- PROFILE_VERSION_WRITE (R155). A ProfileVersion write checks the whole sensor profile and sets ProfileState, which may wake UNMATCHED ports. -/
  | profileVersionWrite (q : Requester) (p : Fin 16) (v : BitVec 16)
  /-- SPILL_READ_BACK (R149). When the queue has room the oldest ring word is read back, or dropped as aged or poisoned. -/
  | spillReadBack (n : Fin 36) (check : Check)
  /-- GYRO_SAMPLE (R143). A rate vector from Reedbed reaches a front end and is applied to the stream's orientation quaternion. -/
  | gyroSample (n : Fin 36)
  /-- QUEUE_EXIT (R143). An event leaves the queue head once a later gyro sample has arrived or DerotWait has passed, and is undistorted, de-rotated and sent to its home die. -/
  | queueExit (n : Fin 36)
  /-- EDDY_EVENT (R167). The Eddy slice serves one event: it reads the neighbourhood, applies the refractory gate, writes the cell, evaluates operators and emits records. -/
  | eddyEvent (d : Fin 4) (meet : EddyMeet)
  /-- SWEEP_VISIT (R161). The sweeper visits a block and writes the stale code into cells aged 60 ms or more. -/
  | sweepVisit (d : Fin 4) (bad : List (Fin 256))
  /-- FEATURE_HOLD_EXPIRY (R176). A route has accepted no word for FeatureHoldLimit, so its words are dropped until it accepts again. -/
  | featureHoldExpiry (p : Fin 16) (i : Nat)
  /-- SHOAL_INPUT (R186). A stream word or spike word reaches a population cluster and adds into the accumulators of its tick, the future buffer or the open tick as late. -/
  | shoalInput (h : Fin 1024) (c : Fin 128) (slot : Fin 64) (poisoned : Bool)
  /-- HORIZON_WORD (R187). A horizon word advances a source slot's horizon and may let the open tick close. -/
  | horizonWord (h : Fin 1024) (c : Fin 128) (slot : Fin 64)
  /-- TICK_CLOSE (R193). The open tick closes: each neuron leaks, thresholds and resets, spikes and horizon words are sent, and the next tick opens. -/
  | tickClose (h : Fin 1024) (c : Fin 128) (bad : List (Fin 16))
  /-- HORIZON_TIMEOUT (R189). Device time passes the end of the tick plus HorizonTimeout, so the tick closes without its horizons. -/
  | horizonTimeout (h : Fin 1024) (c : Fin 128) (bad : List (Fin 16))
  /-- BUILD_WORD (R230). A stream or spike word reaches a builder and is accumulated into the open window's tensor, or counted late. -/
  | buildWord (l : Fin 256)
  /-- BUILD_TIMEOUT (R228). Device time passes a window's end plus BuildTimeout, so the builder window closes. -/
  | buildTimeout (l : Fin 256)
  /-- BUILD_COUNT_COPY (R232). A BUILD_COUNT layer copies the count map once the population's CountWeir signals. -/
  | buildCountCopy (l : Fin 256)
  /-- TILE_ISSUE (R238). The steward core issues the first ready tile or group in its window to a free unit once its input rows are present. -/
  | tileIssue (l : Fin 256) (c : Fin 128) (u : UnitStall)
  /-- TILE_DRAIN (R222). A tile completes: its residue is checked, its accumulators are converted and written, and the completion weirs are signalled. -/
  | tileDrain (l : Fin 256) (c : Fin 128) (u : Fin 16) (bad : Bool)
  /-- SCRATCHPAD_READ (R274). A scratchpad read is checked by SEC-DED, then corrected and written back, or poisoned. -/
  | scratchpadRead (c : Fin 128) (master : Fin 19) (addr : BitVec 20) (check0 : Check) (check1 : Check) (meet : Option PortWrite × Option PortWrite) (waited : Fin 9)
  /-- MARCH_DESTRUCTIVE (R290). A MarchControl write with the destructive command starts a destructive march pass. -/
  | marchDestructive (q : Requester) (c : Fin 128) (soft : Bool) (files : Bool) (pad : Bool) (slot : Fin 32)
  /-- MARCH_PRESERVING (R290). A MarchControl write with the preserving command starts a preserving march pass over all elements or one slot. -/
  | marchPreserving (q : Requester) (c : Fin 128) (soft : Bool) (files : Bool) (pad : Bool) (slot : Fin 32)
  /-- MARCH_PASS_END (R291). A march pass completes, with soft repairs applied, and publishes passed or failed in MarchStatus. -/
  | marchPassEnd (c : Fin 128) (found : List MarchFound)
  /-- SLUICE_WRITE (R293). A writer writes a word or item into a sluice, and a word carrying Last commits the packet. -/
  | sluiceWrite (k : SluiceRef) (w : SluiceItem) (last : Bool)
  /-- SLUICE_READ (R296). A reader takes the oldest committed word with its check, or waits or polls empty. -/
  | sluiceRead (k : SluiceRef) (polling : Bool) (check : Check) (tagBad : Bool)
  /-- SLUICE_RELEASE (R297). The reader releases the n oldest read words, freeing their entries. -/
  | sluiceRelease (k : SluiceRef) (n : Nat)
  /-- SLUICE_REPLAY (R297). The read position moves back to the oldest unreleased word. -/
  | sluiceReplay (k : SluiceRef)
  /-- SLUICE_REWIND (R298). The writer's uncommitted words are discarded. -/
  | sluiceRewind (k : SluiceRef)
  /-- SLUICE_FLUSH (R299). Every occupied entry is discarded at one sequence point, and the rest of an open packet is discarded. -/
  | sluiceFlush (k : SluiceRef)
  /-- FERRY_START (R309). A chain start from a weir action or a phase start is queued at a ferry, or held when the queue is full. -/
  | ferryStart (f : Fin 40)
  /-- HELD_START_QUEUED (R309). A ferry start held at its weir is queued once the ferry's queue has room, and Held clears. -/
  | heldStartQueued (f : Fin 40)
  /-- DESCRIPTOR_RUN (R312). A ferry executes a descriptor: it waits, fences, moves the data and signals a weir, or refuses or stops the chain. -/
  | descriptorRun (f : Fin 40) (host : Option (List Byte)) (clash : List Clash) (meet : FerryMeet)
  /-- GDDR6_READ (R323). A GDDR6 block read is checked by inline ECC, then corrected and written back, or poisoned. -/
  | gddr6Read (m : GddrMaster) (addr : BitVec 34) (check : Check)
  /-- EDC_MISMATCH (R322). A burst fails its EDC checksum and is repeated, and a retrain starts after four failed repeats. -/
  | edcMismatch (k : Fin 8) (again : Bool)
  /-- CHANNEL_RETRAIN_END (R322). A channel retrain completes and the held requests are replayed, or the channel fails. -/
  | channelRetrainEnd (k : Fin 8) (ok : Bool)
  /-- CHANNEL_FAILURE (R333). A GDDR6 channel fails, so its units move into the repair reserve and its held requests are replayed. -/
  | channelFailure (k : Fin 8) (cause : Fin 3)
  /-- SCRUB_PASS (R323). The patrol scrub completes a pass over every block and counts it in ScrubPasses. -/
  | scrubPass (found : List (BitVec 28 × Bool))
  /-- GDDR6_TEMPERATURE_READ (R324). A 1 ms temperature reading sets or clears doubled refresh and throttling on a channel. -/
  | gddr6TemperatureRead (k : Fin 8) (v : BitVec 16)
  /-- LINK_TIMING_RETRAIN (R324). Every 100 ms the controller retrains its link timing, pausing the channel briefly. -/
  | linkTimingRetrain (k : Fin 8)
  /-- REGION_OWNER_WRITE (R325). A RegionOwner write assigns a region and zero-fills it under the owner's key, or unassigns it under the device key. -/
  | regionOwnerWrite (q : Requester) (r : Fin 32) (v : BitVec 8)
  /-- ADD (R340). ADD increases a weir's Count, may set Empty, completes waits and fires the armed action when the target is crossed. -/
  | addWeir (src : WeirSource) (w : Fin 16384) (n : BitVec 32) (empty : Bool)
  /-- WAIT (R344). WAIT registers with the weir's die and completes when Count reaches its value. -/
  | waitOn (src : WeirSource) (w : Fin 16384) (v : BitVec 32)
  /-- ARM (R340). ARM sets Base, Target, Rearm and the action kind, and fires at once if the target is already met. -/
  | armWeir (src : WeirSource) (w : Fin 16384) (v : BitVec 64)
  /-- DISARM (R340). DISARM clears Armed and Rearm. -/
  | disarmWeir (src : WeirSource) (w : Fin 16384)
  /-- RESET (R340). RESET zeroes Count and Base and clears Reached, Empty, Held and Lost. -/
  | resetWeir (src : WeirSource) (w : Fin 16384)
  /-- ACTION_RECORD_WRITE (R347). A write of a weir's action record is accepted, or refused while the weir is armed. -/
  | actionRecordWrite (path : RecordPath) (data : List Byte)
  /-- WEIR_BLOCK_OWNER_WRITE (R350). A WeirBlockOwner write assigns a block and resets all its weirs and action records. -/
  | weirBlockOwnerWrite (q : Requester) (b : Fin 128) (v : BitVec 8)
  /-- PLAN_IMAGE_WRITE (R365). A PlanImage segment is written into the owner's regions, and the last one runs the load checks and makes the slot LOADED or EMPTY. -/
  | planImageWrite (q : Requester) (p : Fin 16) (g : Seg)
  /-- PLAN_START (R366). The plan Start command starts the entry phase. -/
  | planStart (q : Requester) (p : Fin 16)
  /-- PHASE_START (R367). A phase starts: its weirs are reset and armed, its clusters are configured, populations and layers run and chains start. -/
  | phaseStart (p : Fin 16)
  /-- PLAN_STOP (R368). The plan Stop command stops populations, tiles and chains and disarms the plan's weirs. -/
  | planStop (q : Requester) (p : Fin 16)
  /-- PLAN_STOPPED (R366). Every cluster and chain of a STOPPING plan has stopped, so the plan becomes LOADED or FAULTED. -/
  | planStopped (p : Fin 16)
  /-- PLAN_UNLOAD (R366). The plan Unload command zero-fills and releases the plan's GDDR6 and empties the slot. -/
  | planUnload (q : Requester) (p : Fin 16)
  /-- PHASE_TIMEOUT (R366). PhaseTimeout expires, so the plan stops, becomes FAULTED and makes a plan-fault entry. -/
  | phaseTimeout (p : Fin 16)
  /-- STALL_TIMEOUT (R367). A WAIT of the running phase has been pending longer than StallTimeout, so the plan faults. -/
  | stallTimeout (p : Fin 16)
  /-- SPI_FRAME_TRIGGER (R371). A timer tick or capture transition starts an SPI frame, or is discarded as an overrun. -/
  | spiFrameTrigger (k : Fin 8)
  /-- SPI_FRAME_DONE (R370). An SPI frame completes and its fields feed their Reedbed channels as samples. -/
  | spiFrameDone (k : Fin 8) (data : List Byte)
  /-- CAN_FRAME (R370). A CAN FD frame with a configured identifier feeds its Reedbed channels. -/
  | canFrame (k : Fin 2) (id : BitVec 29) (extended : Bool) (data : List Byte) (age : Nat)
  /-- REEDBED_DATAGRAM (R372). A Reedbed datagram is accepted and feeds its slots to channels, or is discarded. -/
  | reedbedDatagram (port : Fin 2) (udp : Nat) (source : List Byte) (payload : List Byte) (fcsOk : Bool)
  /-- INTERNAL_SAMPLE (R373). A Reedbed timer samples an internal item for an internal channel. -/
  | internalSample (c : Fin 64)
  /-- GAP_FILL (R377). No sample is stamped within 1.5 T, so a fill sample is inserted, and LOST is entered after GapLimit fills. -/
  | gapFill (c : Fin 64)
  /-- CHANNEL_START (R380). The Reedbed channel Start command enters FILLING, or is refused with LastError. -/
  | channelStart (q : Requester) (c : Fin 64)
  /-- CHANNEL_STOP (R383). The Reedbed channel Stop command stops the channel and abandons any fade. -/
  | channelStop (q : Requester) (c : Fin 64)
  /-- PRESET_REQUEST (R383). A Preset write on a running channel starts a fade, is held pending, or is refused. -/
  | presetRequest (q : Requester) (c : Fin 64) (v : BitVec 8)
  /-- SPLAT_INPUT (R397). A stream word reaching Confluence is judged for its instant and splatted onto the panorama and ground grids. -/
  | splatInput
  /-- SPIKE_WORD (R408). A spike word at a SPIKES slot is held until its tick word arrives, or dropped when the buffer is full. -/
  | spikeWord
  /-- TICK_WORD (R408). A tick word releases the held spikes of its slot onto the grids. -/
  | tickWord
  /-- DELIVERY_READ (R409). A FEATURE or DETECT slot's ReadyWeir reaches its next count, so Confluence reads the delivery and adds to ReleaseWeir. -/
  | deliveryRead (n : Fin 96) (age : Nat)
  /-- EGO_RECORD (R411). A Reedbed ego-motion fine output is queued for its instant. -/
  | egoRecord
  /-- INSTANT_CLOSE (R404). Device time reaches an instant's end plus the hold-off, so the instant closes, ADRIFT is judged, Buoy runs and the drain starts. -/
  | instantClose
  /-- INSTANT_DRAIN_END (R405). The drain of an instant's event set into its fused slot completes, and the FUSED record is emitted. -/
  | instantDrainEnd (bad : List (BitVec 21))
  /-- FEATURE_CONVERSION_END (R407). The conversion of a feature instant into its slot completes, and the FEATURE record is emitted. -/
  | featureConversionEnd
  /-- FUSION_START (R415). The fusion Start command opens the present instants and empties Buoy, or is refused. -/
  | fusionStart (q : Requester)
  /-- FUSION_STOP (R415). The fusion Stop command closes every open instant, frees the GDDR6 it took and deletes every track. -/
  | fusionStop (q : Requester)
  /-- CALIBRATION_IMAGE_WRITE (R395). A CalibrationImage write places and checks a stream's calibration table. -/
  | calibrationImageWrite (q : Requester) (n : Fin 36) (g : Seg)
  /-- LINK_UP (R431). A PCIe link reaches DL_Active and the host port becomes LINKED. -/
  | linkUp (h : Fin 4) (speed : Fin 5)
  /-- LINK_DOWN (R433). A PCIe link leaves DL_Active, by surprise removal or a low PERST_N, so queued writes are discarded and the port goes DOWN. -/
  | linkDown (h : Fin 4) (queued : Nat)
  /-- DETACH (R431). The Detach command pauses the port's channels and starts DETACHING. -/
  | detach (q : Requester) (h : Fin 4)
  /-- DETACH_COMPLETE (R431). Device-issued writes complete, or 50 ms pass, so the session keys are destroyed and the port is LINKED. -/
  | detachComplete (h : Fin 4) (written : Bool)
  /-- TENANT_HOLD_EXPIRY (R442). No host of a HOLDING tenant binds within 2 s, so the device revokes the tenant's partitions in order. -/
  | tenantHoldExpiry (t : Fin 8)
  /-- ANNOUNCEMENT (R435). Each Ethernet port sends its announcement every second. -/
  | announcement (port : Fin 2) (lease : BitVec 32)
  /-- LLDP_TRANSMIT (R436). Each Ethernet port transmits LLDP every 30 s. -/
  | lldpTransmit (port : Fin 2) (lease : BitVec 32)
  /-- LLDP_RECEIVE (R436). A received LLDP frame is kept as the last neighbour. -/
  | lldpReceive (port : Fin 2) (data : List Byte) (fcsOk : Bool)
  /-- HEARTBEAT (R437). An Omtos heartbeat from a session host is answered with device time. -/
  | heartbeat (k : Fin 2) (e : Envelope)
  /-- HEARTBEAT_MISS (R437). A session host misses three heartbeat periods and is detached. -/
  | heartbeatMiss (k : Fin 2)
  /-- CAN_BUS_OFF_RECOVERY (R439). A CAN FD controller recovers from bus-off after 128 occurrences of 11 recessive bits. -/
  | canBusOffRecovery (k : Fin 2)
  /-- CLUSTER_OWNER_WRITE (R441). A ClusterOwner write reassigns a cluster and clears its scratchpad before it completes. -/
  | clusterOwnerWrite (q : Requester) (c : Fin 128) (v : BitVec 8)
  /-- CHANNEL_OWNER_WRITE (R441). A ChannelOwner write reassigns an Outfall channel, disabling it and resetting its objects. -/
  | channelOwnerWrite (q : Requester) (n : Fin 64) (v : BitVec 8)
  /-- ENABLE (R444). The Outfall Enable command starts a channel's ring after checking its parameters. -/
  | enable (q : Requester) (n : Fin 64)
  /-- DISABLE (R444). The Outfall Disable command stops a channel. -/
  | disable (q : Requester) (n : Fin 64)
  /-- RECORD_FORM (R452). A record is formed on a channel and queued, or dropped when the queue lacks room. -/
  | recordForm (n : Fin 64)
  /-- RECORD_DELIVER (R448). The head record is written into the host ring, with a PAD if needed, once the ring has room. -/
  | recordDeliver (n : Fin 64)
  /-- BATCH_TIME_EXPIRY (R451). BatchTime passes since an EVENTS or SPIKES record's first word, so the record closes. -/
  | batchTimeExpiry (n : Fin 64)
  /-- CONSUMER_INDEX_POLL (R449). The device reads the consumer index from host memory on its poll, watermark or stall schedule. -/
  | consumerIndexPoll (n : Fin 64)
  /-- CONSUMER_INDEX_RETURN (R449). A consumer index read returns and is accepted, or ignored as erroneous. -/
  | consumerIndexReturn (n : Fin 64) (v : Option (BitVec 64))
  /-- ETH_CONSUMER_INDEX_WRITE (R455). A host write of EthConsumerIndex is treated as a consumer index read. -/
  | ethConsumerIndexWrite (q : Requester) (n : Fin 64) (v : BitVec 64)
  /-- READ (R474). The READ operation returns a value, or one DOMAIN segment served from a snapshot taken at the first segment. -/
  | readObj (q : Requester) (e : Envelope) (idx : BitVec 16) (sub : BitVec 8) (offset : Nat) (first : Bool) (last : Bool) (room : Nat)
  /-- WRITE (R470). The WRITE operation writes a value or DOMAIN segment to an object that has no behaviour of its own. -/
  | writeObj (q : Requester) (e : Envelope) (idx : BitVec 16) (sub : BitVec 8) (g : Seg)
  /-- WRITE_IF (R473). WRITE_IF compares the present value with the expected one and writes, or returns MISMATCH. -/
  | writeIf (q : Requester) (e : Envelope) (idx : BitVec 16) (sub : BitVec 8) (data : List Byte)
  /-- READ_RECORD (R466). READ_RECORD returns every subindex of an ARRAY or RECORD sampled at one instant. -/
  | readRecord (q : Requester) (e : Envelope) (idx : BitVec 16) (sub : BitVec 8) (room : Nat)
  /-- DESCRIBE (R467). DESCRIBE returns an object's type, kind, access, rights and range. -/
  | describe (q : Requester) (e : Envelope) (idx : BitVec 16) (sub : BitVec 8) (room : Nat)
  /-- ABORT (R476). ABORT ends the requester's open DOMAIN transfer. -/
  | abortTransfer (q : Requester) (e : Envelope) (idx : BitVec 16) (sub : BitVec 8)
  /-- TRANSFER_IDLE_TIMEOUT (R476). An open DOMAIN transfer receives no segment for 1 s and is abandoned. -/
  | transferIdleTimeout (q : Requester)
  /-- HELLO (R507). A HELLO opens a session exchange, and the device answers with a CHALLENGE carrying a fresh encapsulation key and a report. -/
  | hello (p : SessionPeer) (data : List Byte)
  /-- FINISH (R508). A FINISH is checked, decapsulated and answered with ACCEPT, binding the host or refusing it. -/
  | finish (p : SessionPeer) (data : List Byte)
  /-- ATTEST_REPORT_READ (R501). A read of AttestReport signs and returns a fresh attestation report. -/
  | attestReportRead (q : Requester)
  /-- ROLLBACK_COMMIT (R493). A RollbackCommit write blows fuses up to the running images' Svn. -/
  | rollbackCommit (q : Requester)
  /-- PROVISIONING_COMMAND (R505). A ProvisioningCommand write fuses the next provisioning digest into a free slot. -/
  | provisioningCommand (q : Requester)
  /-- RECOVERY_IMAGE_WRITE (R494). In recovery, a RecoveryImage write writes the image sets to the boot flash. -/
  | recoveryImageWrite (q : Requester) (g : Seg)
  /-- RECORD_REKEY (R511). RekeyCommand 1 advances the session's record key epoch. -/
  | recordRekey (q : Requester)
  /-- LINK_REKEY (R511). RekeyCommand 2 installs the next link key beside the old one. -/
  | linkRekey (q : Requester)
  /-- LINK_KEY_SWITCH (R511). The host's next IDE key-set change or MACsec association number moves the link to the new key. -/
  | linkKeySwitch (p : Fin 6)
  /-- DEBUG_AUTHORISATION (R518). A debug authorisation is verified, extends M4 and grants its scopes, ending all sessions for Secrets. -/
  | debugAuthorisation (q : Requester) (g : Seg)
  /-- TRNG_HEALTH_BLOCK (R514). A TRNG health-test block sets TrngFault on failure, or counts towards clearing it. -/
  | trngHealthBlock (pass : Bool)
  /-- DOMAIN_ON (R533). DomainCommand 1 wakes a domain and its dependencies. -/
  | domainOn (q : Requester) (n : Fin 181)
  /-- DOMAIN_RETENTION (R525). DomainCommand 2 puts a domain into retention, or is refused or held. -/
  | domainRetention (q : Requester) (n : Fin 181)
  /-- DOMAIN_OFF (R526). DomainCommand 3 turns a domain off, or is refused or held. -/
  | domainOff (q : Requester) (n : Fin 181)
  /-- ENTRY_COMPLETE (R530). A domain finishes entering retention or off, having saved state, latched pads and lowered its switch. -/
  | entryComplete (n : Fin 181)
  /-- IOD0_BASE_OFF (R526). 1 ms after IOD0 base off is accepted, the device commits Sediment and turns off the endpoint, GDDR6 and IOD0 base. -/
  | iod0BaseOff
  /-- FIRST_ACCESS (R534). A request reaches a domain that is not on, and wakes it if it carries the wake right, or is refused. -/
  | firstAccess (n : Fin 181) (who : Accessor) (write : Bool) (master : Option (Fin 9 × Fin 4096)) (addr : BitVec 32)
  /-- WAKE_COMPLETE (R537). A domain completes its wake and releases the requests it held. -/
  | wakeComplete (n : Fin 181) (failed : List (Fin 17)) (puf : Bool)
  /-- WAKE_INPUT (R540). An accepted WAKE edge or level wakes its target domains. -/
  | wakeInput (i : Fin 4) (level : Bool)
  /-- WAKE_STUCK (R541). A level-mode wake input held for WakeStuckTime sets Stuck and stops waking. -/
  | wakeStuck (i : Fin 4)
  /-- PAD_RELEASE (R536). A PadRelease write releases a domain's latched output pads. -/
  | padRelease (q : Requester) (n : Fin 181)
  /-- RAIL_POWER_GOOD (R542). A rail reports POWER_GOOD after OPERATION on, and VDD_CORE is then set to its target. -/
  | railPowerGood (r : Fin 10)
  /-- RAIL_TIMEOUT (R542). A rail is not good within 5 ms, which is a supply fault. -/
  | railTimeout (r : Fin 10)
  /-- RAIL_READING (R544). A periodic rail reading, or its failed transaction, updates the rail and may raise a supply fault. -/
  | railReading (r : Fin 10) (reading : Option (BitVec 16 × BitVec 32))
  /-- LINK_CRC_ERROR (R551). A die-to-die link CRC error is retried, and repeated retries start a lane retrain. -/
  | linkCrcError (l : Fin 12)
  /-- LANE_RETRAIN_END (R562). A die-to-die retrain ends, repairing a lane or finding the link unusable. -/
  | laneRetrainEnd (l : Fin 12) (lane : Option (Fin 64))
  /-- FAULT_DETECTION (R553). A detector raises a fault-queue entry, merges it, escalates or triggers the safe state. -/
  | faultDetection (x : Detection) (detail : BitVec 32)
  /-- FAULT_HANDLE (R556). A handler takes the oldest entry, reports it or isolates the element and starts recovery. -/
  | faultHandle (q : Fin 6) (stuck : Bool)
  /-- RECOVERY_COMPLETE (R562). A remap, alternate placement or move completes, and the FAULT record is sent with the interruption. -/
  | recoveryComplete (q : Fin 6)
  /-- HANDLING_DEADLINE (R557). Handling misses its 50 µs isolation or 740 µs end limit, so the die enters the safe state. -/
  | handlingDeadline (q : Fin 6)
  /-- DIE_RECOVER (R559). DieCommand 1 reloads die-manager firmware, resets weirs and marches free clusters to recover a die from the safe state. -/
  | dieRecover (q : Requester) (d : Fin 4) (v : BitVec 8)
  /-- SLOT_RETEST (R568). A SlotRetest write starts a preserving pass with soft repair on a failed slot. -/
  | slotRetest (q : Requester) (c : Fin 128) (v : BitVec 8)
  /-- ALERT_CLEAR (R614). An AlertClear write deasserts ALERT_N for the fault causes of R558 and R565. -/
  | alertClear (q : Requester) (v : BitVec 8)
  /-- SEDIMENT_TICK (R579). The 1 Hz AON tick advances PowerOnSeconds and the histograms, and starts a commit every 600 s. -/
  | sedimentTick
  /-- COMMIT_COMPLETE (R584). A Sediment commit finishes writing its copy and clears the retired accumulator. -/
  | commitComplete
  /-- STILL_FREEZE (R587). A low STILL_N of 100 ns halts every handshake and gates every clocked domain. -/
  | stillFreeze
  /-- FREEZE_ACK (R588). Every element has halted or been gated, so STILL_ACK rises. -/
  | freezeAck
  /-- RIM_HOLD_EXPIRY (R589). A request held by the rim reaches 50 ms and is completed with all ones or discarded. -/
  | rimHoldExpiry
  /-- STILL_RESUME (R594). A high STILL_N of 100 ns ungates the domains and releases the handshakes. -/
  | stillResume
  /-- RESUME_COMPLETE (R594). Resumption completes, STILL_ACK falls and frozen time takes effect on the surfaces, ticks, instants and triggers. -/
  | resumeComplete
  /-- READOUT_DATA (R592). A Capture-DR of READOUT_DATA reads the addressed ring word and advances the address. -/
  | readoutData (addr : Option (BitVec 40))
  /-- PATH_RECALIBRATION_END (R79). The recalibration of IOD1's F path, started when the relay moves, completes within 300 µs and IOD1's copy of F returns from local-clock running to the ±2 ns bound. -/
  | pathRecalibrationEnd
  /-- I3C_STATIC_ADDRESS_WRITE (R125). A custodian write of I3cStaticAddress to a port with Ambiguous set lets the device address that sensor with SETDASA and resolve the ambiguity. -/
  | i3cStaticAddressWrite (q : Requester) (n : Fin 36) (v : BitVec 8)
  /-- CAP_CONTROL_WRITE (R104). A CapControl write that clears Enable clears Stuck and Flooded at once and discards the stuck time and flood counts in progress. -/
  | capControlWrite (q : Requester) (m : Fin 8) (v : BitVec 32)
  /-- WAKE_CONTROL_WRITE (R541). A write of WakeControl clears Flooded on a wake input and lets it wake domains again. -/
  | wakeControlWrite (q : Requester) (i : Fin 4) (v : BitVec 32)
  /-- CHANNEL_PATH_WRITE (R454). The owner writes a bound path to ChannelPath, and a paused Outfall channel resumes with Resumed set on its next record. -/
  | channelPathWrite (q : Requester) (n : Fin 64) (v : BitVec 8)
  /-- TENANT_HOST_KEYS_WRITE (R499). An accepted write to TenantHostKeys, or to a partition object of R440 that has no step of its own (stream Tenant, FusionOwner, TenantWeight), extends M5 and appends a log entry. -/
  | tenantHostKeysWrite (q : Requester) (x : PartitionWrite)
  /-- COMPLETION_TIMEOUT (R430). A read that the device issued over PCIe gets no completion within 50 ms, so a ferry chain stops with LastError 0x4 or a consumer-index read is treated as failed. -/
  | completionTimeout (r : HostReader)
  /-- LOSS_OF_SUPPLIES (R608). The module's supplies, VDD_AON included, are lost in any order, so all volatile state goes, TripLatched clears and the next boot counts an unorderly loss. -/
  | lossOfSupplies
  deriving DecidableEq, Repr

end Sys2Proof
end

