-- ==== Sys2Proof/Decode.lean ====
section
/-! DEFINITION. The command that a word spells by the bits of the table. No row of spec/opcode_table.json gives bits: the device is a
block whose commands are requests, packets and events, so no word spells one. -/

namespace Sys2Proof

/-- The command that `w` spells in `nbits` bits: none, since the table gives no row an encoding. [log 14 DESIGN CHOICE] -/
def decodeTableWord (_nbits _w : Nat) : Option Instr := none

end Sys2Proof
end

