-- ==== Sys2Proof/Machine/Bits.lean ====
section
/-! DEFINITION. Bit fields, two's complement and byte order: how the field maps of the manual read and
write the bits of a register (R11, R12), how a signed type is encoded (R462) and how a value lies in bytes
(R8, little-endian). -/

namespace Sys2Proof.Machine

/-- Bits [lo + w − 1 : lo] of `v`. -/
def field (v lo w : Nat) : Nat := v / 2 ^ lo % 2 ^ w

/-- `v` with bits [lo + w − 1 : lo] replaced by the low `w` bits of `x`. -/
def setField (v lo w x : Nat) : Nat := v - field v lo w * 2 ^ lo + x % 2 ^ w * 2 ^ lo

/-- Bit `i` of `v`. -/
def bitAt (v i : Nat) : Bool := v / 2 ^ i % 2 == 1

/-- A Bool as a one-bit field. -/
def b2n (b : Bool) : Nat := if b then 1 else 0

/-- The two's-complement number that the low `w` bits of `v` encode (R462). -/
def signed (w v : Nat) : Int :=
  if v % 2 ^ w < 2 ^ (w - 1) then (v % 2 ^ w : Nat) else ((v % 2 ^ w : Nat) : Int) - (2 ^ w : Nat)

/-- The low `w` bits of the two's complement of `i` (R462). -/
def unsigned (w : Nat) (i : Int) : Nat := (i % ((2 ^ w : Nat) : Int)).toNat

/-- `v` as `n` bytes, least significant first (R8). -/
def leBytes : Nat → Nat → List Byte
  | 0, _ => []
  | n + 1, v => BitVec.ofNat 8 v :: leBytes n (v / 256)

/-- The number that bytes spell, least significant first (R8). -/
def ofLe : List Byte → Nat
  | [] => 0
  | b :: bs => b.toNat + 256 * ofLe bs

/-- The number that bytes spell, most significant first. -/
def ofBe (bs : List Byte) : Nat := ofLe bs.reverse

/-- `n` zero bytes. -/
def zeros (n : Nat) : List Byte := List.replicate n 0

/-- The `n` bytes of `bs` from offset `o`; bytes beyond the end read as zero. -/
def bytesAt (bs : List Byte) (o n : Nat) : List Byte := ((bs.drop o).take n) ++ zeros (n - (bs.drop o).length)

/-- The little-endian number in bytes `o` to `o + n − 1`. -/
def leAt (bs : List Byte) (o n : Nat) : Nat := ofLe (bytesAt bs o n)

/-- `bs` with the bytes from offset `o` on replaced by `xs`. -/
def putBytes (bs : List Byte) (o : Nat) (xs : List Byte) : List Byte :=
  (bs.take o) ++ zeros (o - bs.length) ++ xs ++ bs.drop (o + xs.length)

/-- Bit `i` of a byte string: bit (i mod 8) of byte floor(i / 8) (R50). -/
def octetBit (bs : List Byte) (i : Nat) : Bool := bitAt (bs.getD (i / 8) 0).toNat (i % 8)

/-- A counter of `w` bits that wraps (R11). -/
def wrapAdd (w a b : Nat) : Nat := (a + b) % 2 ^ w

/-- A counter of `w` bits that saturates. -/
def satAdd (w a b : Nat) : Nat := min (a + b) (2 ^ w - 1)

/-- The signed difference `a − b` of two `w`-bit stamps (R10). -/
def stampDiff (w a b : Nat) : Int := signed w (unsigned w ((a : Int) - (b : Int)))

/-- `i` held within `lo` and `hi`. -/
def clampI (lo hi i : Int) : Int := max lo (min hi i)

/-- The least Nat whose double step reaches `n`: ceiling division. -/
def ceilDiv (a b : Nat) : Nat := (a + b - 1) / b

/-- Ceiling division of integers by a positive integer. -/
def ceilDivI (a : Int) (b : Int) : Int := -((-a) / b)

/-- The first `n` natural numbers from `a`. -/
def upFrom (a n : Nat) : List Nat := (List.range n).map (a + ·)

/-- Repeats `f` over the numbers `0 … n − 1`, threading a value. -/
def loop {α : Type} (n : Nat) (f : Nat → α → α) (a : α) : α := (List.range n).foldl (fun x i => f i x) a

/-- Insertion of `x` into a list sorted by `le`, after its equals. -/
def insertSorted {α : Type} (le : α → α → Bool) (x : α) : List α → List α
  | [] => [x]
  | y :: ys => if le y x then y :: insertSorted le x ys else x :: y :: ys

/-- A list sorted by `le`, equals kept in their order. -/
def sortBy {α : Type} (le : α → α → Bool) (xs : List α) : List α :=
  xs.foldl (fun acc x => insertSorted le x acc) []

/-! ### Residues (R268) -/

/-- The residue of an integer modulo 3. -/
def mod3 (z : Int) : Nat := (z % 3).toNat

/-- An accumulator with the residue beside it (R268). -/
structure ResAcc where
  value : Int := 0
  residue : Nat := 0
  deriving DecidableEq, Repr

/-- A term added, its residue with it: an accumulator that wraps at 32 bits adjusts the residue by the carry, since 2³² is 1 modulo 3 (R258, R268). -/
def ResAcc.add (a : ResAcc) (wraps : Bool) (t : Int) (r : Nat) : ResAcc :=
  let v := if wraps then signed 32 (unsigned 32 (a.value + t)) else a.value + t
  ⟨v, mod3 ((a.residue : Int) + r - (a.value + t - v) / 2 ^ 32)⟩

/-- The comparison of R269, with the residue read `off` too high. -/
def ResAcc.agrees (a : ResAcc) (off : Nat) : Bool := mod3 a.value == (a.residue + off) % 3

end Sys2Proof.Machine
end

