-- ==== Sys2Proof/Machine/ObjRow.lean ====
section
/-! DEFINITION. What the object dictionary says of an object (R460 to R465, R467): its type, access, range,
rights and owner, as one row of data. Machine/ObjTable.lean holds the rows. -/

namespace Sys2Proof.Machine

/-- The types of R462; a number is the size in bytes (fixed, or the maximum). -/
inductive Ty where
  | bool
  | u (bytes : Nat)
  | i (bytes : Nat)
  | f32
  | t80
  | vstring (max : Nat)
  | octets (bytes : Nat)
  | domain (max : Nat)
  deriving DecidableEq, Repr

/-- The access codes of R463. -/
inductive Acc where
  | ro | wo | rw | rws | const
  deriving DecidableEq, Repr

/-- The accepted values of an object. -/
inductive Rng where
  /-- every value of the type -/
  | any
  /-- the listed intervals, ends included (R462) -/
  | within (alts : List (Int × Int))
  /-- from `lo` to `hi` in steps of `step` -/
  | stepped (lo hi step : Int)
  /-- a field map: only the bits of `mask` are defined, and each listed field (lowest bit, width, least, greatest) is bounded -/
  | fields (mask : Nat) (lims : List (Nat × Nat × Nat × Nat))
  /-- a binary32 number between two limits given by their bits -/
  | floats (lo hi : Nat)
  /-- a T80 that is a whole number of microseconds -/
  | wholeMicros
  deriving DecidableEq, Repr

/-- Who may read or write an object (R464, R465). -/
inductive Rights where
  | anyone
  | custodian
  | owner
  | ownerOrCustodian
  | boundHostOrCustodian
  | selectedWeir
  | nobody
  deriving DecidableEq, Repr

/-- The resource an object belongs to; its tenant is the object's owner. -/
inductive Own where
  | none | stream | population | layer | cluster | plan | fusion | channel | tenant | hostPort | session | domain
  deriving DecidableEq, Repr

/-- What must be stopped while an RWS object is written (R463). -/
inductive Stop where
  | never | stream | population | layer | plan | reedbed | spi | fusion | channel | can
  deriving DecidableEq, Repr

/-- One row of the dictionary: indices `idx`, `idx + stride`, … (`n` of them), subindices `sub` to `sub + subs − 1`. -/
structure ObjRow where
  idx : Nat
  n : Nat
  stride : Nat
  sub : Nat
  subs : Nat
  ty : Ty
  acc : Acc
  dflt : Nat
  rng : Rng
  rdRights : Rights
  wrRights : Rights
  own : Own
  stop : Stop
  elem0 : Nat
  deriving DecidableEq, Repr

/-- Whether the row holds `idx.sub`. -/
def ObjRow.holds (r : ObjRow) (idx sub : Nat) : Bool :=
  r.idx ≤ idx && (idx - r.idx) % r.stride == 0 && (idx - r.idx) / r.stride < r.n && r.sub ≤ sub && sub < r.sub + r.subs

/-- The number of the element (stream, die, channel …) that `idx.sub` belongs to, counted from 0. -/
def ObjRow.elem (r : ObjRow) (idx sub : Nat) : Nat :=
  r.elem0 + (if r.n > 1 then (idx - r.idx) / r.stride else sub - r.sub)

/-- The size of a fixed-size type in bytes; the maximum of the others. -/
def Ty.size : Ty → Nat
  | .bool => 1
  | .u n => n
  | .i n => n
  | .f32 => 4
  | .t80 => 10
  | .vstring n => n
  | .octets n => n
  | .domain n => n

/-- Whether a value of the type is held as one number. -/
def Ty.scalar : Ty → Bool
  | .vstring _ => false
  | .octets _ => false
  | .domain _ => false
  | _ => true

/-- The type code of R462. -/
def Ty.code : Ty → Nat
  | .bool => 0x0001
  | .i 1 => 0x0002
  | .i 2 => 0x0003
  | .i 4 => 0x0004
  | .i _ => 0x0015
  | .u 1 => 0x0005
  | .u 2 => 0x0006
  | .u 4 => 0x0007
  | .u _ => 0x001B
  | .f32 => 0x0008
  | .vstring _ => 0x0009
  | .octets _ => 0x000A
  | .domain _ => 0x000F
  | .t80 => 0x0080

end Sys2Proof.Machine
end

