-- ==== Sys2Proof/Machine/ObjTable.lean ====
section
/-! DEFINITION. The object dictionary's rows, chapter by chapter as the object tables of the spec give them
(R461): where an object lies, its type, access code and default, the range its rule states, who may read and
write it, whose partition it belongs to and what must be stopped for an RWS write (R463, R465). A default
that the spec calls "From plan" or "Per part" stands as 0 here (notes/assumptions/6 and 7). -/

namespace Sys2Proof.Machine

/-- The objects from 0x1000 to 0x17FF. -/
def objRows1000 : List ObjRow := [
  ⟨0x1000, 1, 1, 0x01, 1, .vstring 255, .const, 0x0, .any, .anyone, .nobody, .none, .never, 0⟩,
  ⟨0x1000, 1, 1, 0x02, 1, .vstring 255, .const, 0x0, .any, .anyone, .nobody, .none, .never, 0⟩,
  ⟨0x1000, 1, 1, 0x03, 1, .vstring 255, .const, 0x0, .any, .anyone, .nobody, .none, .never, 0⟩,
  ⟨0x1000, 1, 1, 0x04, 1, .vstring 255, .const, 0x0, .any, .anyone, .nobody, .none, .never, 0⟩,
  ⟨0x1000, 1, 1, 0x05, 1, .u 1, .const, 0xB0, .any, .anyone, .nobody, .none, .never, 0⟩,
  ⟨0x1000, 1, 1, 0x06, 1, .octets 16, .const, 0x0, .any, .anyone, .nobody, .none, .never, 0⟩,
  ⟨0x1000, 1, 1, 0x07, 1, .octets 16, .const, 0x0, .any, .anyone, .nobody, .none, .never, 0⟩,
  ⟨0x1001, 1, 1, 0x01, 1, .u 4, .ro, 0x0, .any, .anyone, .nobody, .none, .never, 0⟩,
  ⟨0x1001, 1, 1, 0x02, 1, .u 4, .ro, 0x0, .any, .anyone, .nobody, .none, .never, 0⟩,
  ⟨0x1001, 1, 1, 0x03, 1, .u 4, .ro, 0x0, .any, .anyone, .nobody, .none, .never, 0⟩,
  ⟨0x1001, 1, 1, 0x04, 1, .u 4, .ro, 0x0, .any, .anyone, .nobody, .none, .never, 0⟩,
  ⟨0x1010, 1, 1, 0x01, 1, .u 1, .const, 0x4, .any, .anyone, .nobody, .none, .never, 0⟩,
  ⟨0x1010, 1, 1, 0x02, 1, .u 1, .const, 0x2, .any, .anyone, .nobody, .none, .never, 0⟩,
  ⟨0x1010, 1, 1, 0x03, 1, .u 1, .const, 0x4, .any, .anyone, .nobody, .none, .never, 0⟩,
  ⟨0x1010, 1, 1, 0x04, 1, .u 1, .const, 0x8, .any, .anyone, .nobody, .none, .never, 0⟩,
  ⟨0x1010, 1, 1, 0x05, 1, .u 1, .const, 0x10, .any, .anyone, .nobody, .none, .never, 0⟩,
  ⟨0x1010, 1, 1, 0x06, 1, .u 1, .const, 0x11, .any, .anyone, .nobody, .none, .never, 0⟩,
  ⟨0x1010, 1, 1, 0x07, 1, .u 1, .const, 0x40, .any, .anyone, .nobody, .none, .never, 0⟩,
  ⟨0x1010, 1, 1, 0x08, 1, .u 4, .const, 0x100000, .any, .anyone, .nobody, .none, .never, 0⟩,
  ⟨0x1010, 1, 1, 0x09, 1, .u 4, .const, 0x800000, .any, .anyone, .nobody, .none, .never, 0⟩,
  ⟨0x1010, 1, 1, 0x0A, 1, .u 1, .const, 0x8, .any, .anyone, .nobody, .none, .never, 0⟩,
  ⟨0x1010, 1, 1, 0x0B, 1, .u 8, .const, 0x3E0000000, .any, .anyone, .nobody, .none, .never, 0⟩,
  ⟨0x1010, 1, 1, 0x0C, 1, .u 1, .const, 0x24, .any, .anyone, .nobody, .none, .never, 0⟩,
  ⟨0x1010, 1, 1, 0x0D, 1, .u 1, .const, 0x2, .any, .anyone, .nobody, .none, .never, 0⟩,
  ⟨0x1010, 1, 1, 0x0E, 1, .u 1, .const, 0x2, .any, .anyone, .nobody, .none, .never, 0⟩,
  ⟨0x1010, 1, 1, 0x0F, 1, .u 2, .const, 0x4000, .any, .anyone, .nobody, .none, .never, 0⟩,
  ⟨0x1010, 1, 1, 0x10, 1, .u 1, .const, 0x28, .any, .anyone, .nobody, .none, .never, 0⟩,
  ⟨0x1010, 1, 1, 0x11, 1, .octets 16, .const, 0x0, .any, .anyone, .nobody, .none, .never, 0⟩,
  ⟨0x1010, 1, 1, 0x12, 1, .octets 16, .const, 0x0, .any, .anyone, .nobody, .none, .never, 0⟩,
  ⟨0x1020, 1, 1, 0x01, 1, .u 2, .const, 0x102, .any, .anyone, .nobody, .none, .never, 0⟩,
  ⟨0x1020, 1, 1, 0x02, 1, .u 2, .const, 0x100, .any, .anyone, .nobody, .none, .never, 0⟩,
  ⟨0x1020, 1, 1, 0x03, 1, .u 2, .const, 0x102, .any, .anyone, .nobody, .none, .never, 0⟩,
  ⟨0x1020, 1, 1, 0x04, 1, .u 2, .const, 0x100, .any, .anyone, .nobody, .none, .never, 0⟩,
  ⟨0x1020, 1, 1, 0x05, 1, .u 2, .const, 0x302, .any, .anyone, .nobody, .none, .never, 0⟩,
  ⟨0x1020, 1, 1, 0x06, 1, .u 2, .const, 0x300, .any, .anyone, .nobody, .none, .never, 0⟩,
  ⟨0x1020, 1, 1, 0x07, 1, .u 2, .const, 0x102, .any, .anyone, .nobody, .none, .never, 0⟩,
  ⟨0x1020, 1, 1, 0x08, 1, .u 2, .const, 0x100, .any, .anyone, .nobody, .none, .never, 0⟩,
  ⟨0x1020, 1, 1, 0x09, 1, .u 2, .const, 0x100, .any, .anyone, .nobody, .none, .never, 0⟩,
  ⟨0x1020, 1, 1, 0x0A, 1, .u 2, .const, 0x100, .any, .anyone, .nobody, .none, .never, 0⟩,
  ⟨0x1100, 1, 1, 0x01, 1, .u 2, .rw, 0x100, .any, .anyone, .anyone, .none, .never, 0⟩]

/-- The objects from 0x1000 to 0x17FF, continued. -/
def objRows1000b : List ObjRow := [
  ⟨0x1100, 1, 1, 0x02, 1, .u 2, .rw, 0x100, .any, .anyone, .anyone, .none, .never, 0⟩,
  ⟨0x1100, 1, 1, 0x03, 1, .u 2, .rw, 0x100, .any, .anyone, .anyone, .none, .never, 0⟩,
  ⟨0x1100, 1, 1, 0x04, 1, .u 2, .rw, 0x100, .any, .anyone, .anyone, .none, .never, 0⟩,
  ⟨0x1101, 1, 1, 0x01, 1, .u 2, .ro, 0x0, .any, .anyone, .nobody, .none, .never, 0⟩,
  ⟨0x1101, 1, 1, 0x02, 1, .u 2, .ro, 0x0, .any, .anyone, .nobody, .none, .never, 0⟩,
  ⟨0x1101, 1, 1, 0x03, 1, .u 1, .ro, 0x0, .any, .anyone, .nobody, .none, .never, 0⟩,
  ⟨0x1110, 1, 1, 0x01, 8, .u 8, .ro, 0x0, .any, .anyone, .nobody, .none, .never, 0⟩]

/-- The objects from 0x1800 to 0x1FFF. -/
def objRows1800 : List ObjRow := [
  ⟨0x1800, 1, 1, 0x01, 8, .u 1, .ro, 0x0, .any, .anyone, .nobody, .none, .never, 0⟩,
  ⟨0x1801, 1, 1, 0x01, 128, .u 1, .rw, 0xFF, .within [(0, 7), (255, 255)], .anyone, .custodian, .none, .never, 0⟩,
  ⟨0x1802, 1, 1, 0x01, 64, .u 1, .rw, 0xFF, .within [(0, 7), (255, 255)], .anyone, .custodian, .none, .never, 0⟩,
  ⟨0x1803, 1, 1, 0x01, 8, .u 1, .rw, 0xFF, .within [(0, 63), (255, 255)], .anyone, .ownerOrCustodian, .tenant, .never, 0⟩,
  ⟨0x1804, 1, 1, 0x01, 8, .u 1, .ro, 0x0, .any, .anyone, .nobody, .none, .never, 0⟩,
  ⟨0x1810, 1, 1, 0x01, 4, .u 4, .ro, 0xF00, .any, .anyone, .nobody, .none, .never, 0⟩,
  ⟨0x1811, 1, 1, 0x01, 4, .u 1, .wo, 0x0, .within [(1, 1)], .nobody, .boundHostOrCustodian, .hostPort, .never, 0⟩,
  ⟨0x1812, 1, 1, 0x01, 4, .u 8, .ro, 0x0, .any, .anyone, .nobody, .none, .never, 0⟩,
  ⟨0x1813, 1, 1, 0x01, 4, .u 2, .ro, 0x0, .any, .anyone, .nobody, .none, .never, 0⟩,
  ⟨0x1820, 1, 1, 0x01, 2, .u 4, .rw, 0x0, .any, .anyone, .custodian, .none, .never, 0⟩,
  ⟨0x1821, 1, 1, 0x01, 2, .u 1, .rw, 0x18, .within [(1, 30)], .anyone, .custodian, .none, .never, 0⟩,
  ⟨0x1822, 1, 1, 0x01, 2, .u 2, .ro, 0xFF, .any, .anyone, .nobody, .none, .never, 0⟩,
  ⟨0x1823, 1, 1, 0x00, 1, .u 2, .rw, 0x64, .within [(10, 1000)], .anyone, .custodian, .none, .never, 0⟩,
  ⟨0x1824, 1, 1, 0x01, 2, .u 2, .rw, 0xA004, .any, .anyone, .boundHostOrCustodian, .session, .never, 0⟩,
  ⟨0x1825, 1, 1, 0x00, 1, .u 4, .ro, 0x0, .any, .anyone, .nobody, .none, .never, 0⟩,
  ⟨0x1830, 1, 1, 0x01, 2, .u 4, .rws, 0x7A120, .within [(125000, 125000), (250000, 250000), (500000, 500000), (1000000, 1000000)], .anyone, .custodian, .none, .can, 0⟩,
  ⟨0x1831, 1, 1, 0x01, 2, .u 4, .rws, 0x1E8480, .within [(1000000, 1000000), (2000000, 2000000), (4000000, 4000000), (5000000, 5000000), (8000000, 8000000)], .anyone, .custodian, .none, .can, 0⟩,
  ⟨0x1832, 1, 1, 0x01, 2, .u 1, .rws, 0x1, .within [(1, 127)], .anyone, .custodian, .none, .can, 0⟩,
  ⟨0x1833, 1, 1, 0x01, 2, .u 1, .rw, 0xFF, .within [(0, 7), (255, 255)], .anyone, .custodian, .none, .never, 0⟩,
  ⟨0x1834, 1, 1, 0x01, 2, .u 4, .ro, 0x0, .any, .anyone, .nobody, .none, .never, 0⟩]

/-- The objects from 0x2000 to 0x27FF. -/
def objRows2000 : List ObjRow := [
  ⟨0x2000, 1, 1, 0x01, 181, .u 1, .wo, 0x0, .within [(1, 3)], .nobody, .ownerOrCustodian, .domain, .never, 0⟩,
  ⟨0x2001, 1, 1, 0x01, 181, .u 4, .ro, 0x0, .any, .anyone, .nobody, .none, .never, 0⟩,
  ⟨0x2002, 1, 1, 0x01, 181, .bool, .rw, 0x1, .any, .anyone, .ownerOrCustodian, .domain, .never, 0⟩,
  ⟨0x2003, 1, 1, 0x01, 181, .u 1, .wo, 0x0, .within [(1, 1)], .nobody, .custodian, .none, .never, 0⟩,
  ⟨0x2004, 1, 1, 0x01, 181, .u 8, .ro, 0x0, .any, .anyone, .nobody, .none, .never, 0⟩,
  ⟨0x2005, 1, 1, 0x01, 181, .u 8, .ro, 0x0, .any, .anyone, .nobody, .none, .never, 0⟩,
  ⟨0x2010, 4, 1, 0x01, 1, .u 4, .rw, 0x0, .fields 0xF [], .anyone, .custodian, .none, .never, 0⟩,
  ⟨0x2010, 4, 1, 0x02, 1, .octets 23, .rw, 0x0, .any, .anyone, .custodian, .none, .never, 0⟩,
  ⟨0x2010, 4, 1, 0x03, 1, .u 4, .ro, 0x0, .any, .anyone, .nobody, .none, .never, 0⟩,
  ⟨0x2010, 4, 1, 0x04, 1, .u 4, .rw, 0x3E8, .within [(10, 60000)], .anyone, .custodian, .none, .never, 0⟩,
  ⟨0x2010, 4, 1, 0x05, 1, .u 2, .rw, 0x40, .within [(1, 1000)], .anyone, .custodian, .none, .never, 0⟩,
  ⟨0x2010, 4, 1, 0x06, 1, .u 8, .ro, 0x0, .any, .anyone, .nobody, .none, .never, 0⟩,
  ⟨0x2010, 4, 1, 0x07, 1, .u 8, .ro, 0x0, .any, .anyone, .nobody, .none, .never, 0⟩,
  ⟨0x2020, 1, 1, 0x01, 10, .u 4, .ro, 0x2, .any, .anyone, .nobody, .none, .never, 0⟩,
  ⟨0x2021, 1, 1, 0x01, 1, .u 1, .rw, 0x40, .within [(0, 127)], .anyone, .custodian, .none, .never, 0⟩,
  ⟨0x2021, 1, 1, 0x02, 1, .u 1, .rw, 0x41, .within [(0, 127)], .anyone, .custodian, .none, .never, 1⟩,
  ⟨0x2021, 1, 1, 0x03, 1, .u 1, .rw, 0x42, .within [(0, 127)], .anyone, .custodian, .none, .never, 2⟩,
  ⟨0x2021, 1, 1, 0x04, 1, .u 1, .rw, 0x43, .within [(0, 127)], .anyone, .custodian, .none, .never, 3⟩,
  ⟨0x2021, 1, 1, 0x05, 1, .u 1, .rw, 0x44, .within [(0, 127)], .anyone, .custodian, .none, .never, 4⟩,
  ⟨0x2021, 1, 1, 0x06, 1, .u 1, .rw, 0x45, .within [(0, 127)], .anyone, .custodian, .none, .never, 5⟩,
  ⟨0x2021, 1, 1, 0x07, 1, .u 1, .rw, 0x46, .within [(0, 127)], .anyone, .custodian, .none, .never, 6⟩,
  ⟨0x2021, 1, 1, 0x08, 1, .u 1, .rw, 0x47, .within [(0, 127)], .anyone, .custodian, .none, .never, 7⟩,
  ⟨0x2021, 1, 1, 0x09, 1, .u 1, .rw, 0x48, .within [(0, 127)], .anyone, .custodian, .none, .never, 8⟩,
  ⟨0x2021, 1, 1, 0x0A, 1, .u 1, .rw, 0x49, .within [(0, 127)], .anyone, .custodian, .none, .never, 9⟩,
  ⟨0x2022, 1, 1, 0x01, 10, .u 4, .ro, 0x0, .any, .anyone, .nobody, .none, .never, 0⟩,
  ⟨0x2030, 1, 1, 0x00, 1, .u 4, .ro, 0x0, .any, .anyone, .nobody, .none, .never, 0⟩,
  ⟨0x2040, 1, 1, 0x01, 6, .i 2, .ro, 0x0, .any, .anyone, .nobody, .none, .never, 0⟩,
  ⟨0x2041, 1, 1, 0x00, 1, .u 4, .ro, 0x0, .any, .anyone, .nobody, .none, .never, 0⟩,
  ⟨0x2042, 1, 1, 0x00, 1, .u 1, .ro, 0x0, .any, .anyone, .nobody, .none, .never, 0⟩]

/-- The objects from 0x2800 to 0x2FFF. -/
def objRows2800 : List ObjRow := [
  ⟨0x2800, 1, 1, 0x01, 4, .u 1, .rw, 0x40, .within [(26, 80)], .anyone, .custodian, .none, .never, 0⟩,
  ⟨0x2801, 1, 1, 0x01, 4, .u 2, .rw, 0x2EE, .stepped 600 850 5, .anyone, .custodian, .none, .never, 0⟩,
  ⟨0x2802, 1, 1, 0x01, 4, .u 4, .ro, 0x40, .any, .anyone, .nobody, .none, .never, 0⟩,
  ⟨0x2803, 1, 1, 0x01, 4, .u 2, .ro, 0x0, .any, .anyone, .nobody, .none, .never, 0⟩]

/-- The objects from 0x3000 to 0x37FF. -/
def objRows3000 : List ObjRow := [
  ⟨0x3000, 1, 1, 0x01, 1, .t80, .ro, 0x0, .any, .anyone, .nobody, .none, .never, 0⟩,
  ⟨0x3000, 1, 1, 0x02, 1, .u 8, .ro, 0x0, .any, .anyone, .nobody, .none, .never, 0⟩,
  ⟨0x3000, 1, 1, 0x03, 1, .u 4, .ro, 0x0, .any, .anyone, .nobody, .none, .never, 0⟩,
  ⟨0x3001, 1, 1, 0x00, 1, .i 8, .rw, 0x0, .any, .anyone, .custodian, .none, .never, 0⟩,
  ⟨0x3002, 1, 1, 0x00, 1, .i 4, .rw, 0x0, .within [(-1073741824, 1073741824)], .anyone, .custodian, .none, .never, 0⟩,
  ⟨0x3003, 1, 1, 0x00, 1, .u 1, .rw, 0x0, .within [(0, 3)], .anyone, .custodian, .none, .never, 0⟩,
  ⟨0x3004, 1, 1, 0x00, 1, .u 4, .ro, 0x0, .any, .anyone, .nobody, .none, .never, 0⟩,
  ⟨0x3005, 1, 1, 0x00, 1, .u 4, .ro, 0x0, .any, .anyone, .nobody, .none, .never, 0⟩,
  ⟨0x3006, 1, 1, 0x00, 1, .u 4, .ro, 0x0, .any, .anyone, .nobody, .none, .never, 0⟩,
  ⟨0x3007, 1, 1, 0x00, 1, .u 2, .rw, 0x64, .within [(1, 1000)], .anyone, .custodian, .none, .never, 0⟩,
  ⟨0x3008, 1, 1, 0x00, 1, .u 1, .rw, 0x0, .within [(0, 7)], .anyone, .custodian, .none, .never, 0⟩,
  ⟨0x3009, 1, 1, 0x00, 1, .u 4, .rw, 0x186A0, .any, .anyone, .custodian, .none, .never, 0⟩,
  ⟨0x3010, 1, 1, 0x01, 1, .u 1, .rw, 0x0, .within [(0, 3)], .anyone, .custodian, .none, .never, 0⟩,
  ⟨0x3010, 1, 1, 0x02, 1, .u 1, .rw, 0x0, .within [(0, 127)], .anyone, .custodian, .none, .never, 0⟩,
  ⟨0x3010, 1, 1, 0x03, 1, .u 1, .rw, 0x0, .within [(0, 2)], .anyone, .custodian, .none, .never, 0⟩,
  ⟨0x3010, 1, 1, 0x04, 1, .u 1, .rw, 0x0, .within [(0, 1)], .anyone, .custodian, .none, .never, 0⟩,
  ⟨0x3010, 1, 1, 0x05, 1, .u 1, .rw, 0x80, .any, .anyone, .custodian, .none, .never, 0⟩,
  ⟨0x3010, 1, 1, 0x06, 1, .u 1, .rw, 0x80, .any, .anyone, .custodian, .none, .never, 0⟩,
  ⟨0x3010, 1, 1, 0x07, 1, .u 1, .rw, 0x0, .within [(0, 2)], .anyone, .custodian, .none, .never, 0⟩,
  ⟨0x3011, 1, 1, 0x01, 1, .u 1, .ro, 0x0, .any, .anyone, .nobody, .none, .never, 0⟩,
  ⟨0x3011, 1, 1, 0x02, 1, .i 8, .ro, 0x0, .any, .anyone, .nobody, .none, .never, 0⟩,
  ⟨0x3011, 1, 1, 0x03, 1, .u 4, .ro, 0x0, .any, .anyone, .nobody, .none, .never, 0⟩,
  ⟨0x3011, 1, 1, 0x04, 1, .octets 8, .ro, 0x0, .any, .anyone, .nobody, .none, .never, 0⟩,
  ⟨0x3011, 1, 1, 0x05, 1, .u 4, .ro, 0x0, .any, .anyone, .nobody, .none, .never, 0⟩,
  ⟨0x3011, 1, 1, 0x06, 1, .u 4, .ro, 0x0, .any, .anyone, .nobody, .none, .never, 0⟩,
  ⟨0x3020, 1, 1, 0x00, 1, .u 8, .ro, 0x0, .any, .anyone, .nobody, .none, .never, 0⟩,
  ⟨0x3040, 1, 1, 0x01, 36, .u 1, .rws, 0x0, .within [(0, 3)], .anyone, .ownerOrCustodian, .stream, .stream, 0⟩,
  ⟨0x3041, 1, 1, 0x01, 36, .u 1, .rws, 0x0, .within [(0, 15)], .anyone, .ownerOrCustodian, .stream, .stream, 0⟩,
  ⟨0x3042, 1, 1, 0x01, 36, .u 4, .rw, 0xC350, .any, .anyone, .ownerOrCustodian, .stream, .never, 0⟩,
  ⟨0x3043, 1, 1, 0x01, 36, .i 4, .ro, 0x0, .any, .anyone, .nobody, .stream, .never, 0⟩,
  ⟨0x3044, 1, 1, 0x01, 36, .i 4, .ro, 0x0, .any, .anyone, .nobody, .stream, .never, 0⟩,
  ⟨0x3045, 1, 1, 0x01, 36, .u 4, .ro, 0xFFFFFFFF, .any, .anyone, .nobody, .stream, .never, 0⟩,
  ⟨0x3046, 1, 1, 0x01, 36, .u 1, .ro, 0x1, .any, .anyone, .nobody, .stream, .never, 0⟩,
  ⟨0x3047, 1, 1, 0x01, 36, .u 4, .ro, 0x0, .any, .anyone, .nobody, .stream, .never, 0⟩,
  ⟨0x3048, 1, 1, 0x01, 36, .u 4, .ro, 0x0, .any, .anyone, .nobody, .stream, .never, 0⟩,
  ⟨0x3400, 16, 1, 0x01, 1, .u 4, .rw, 0x0, .fields 0x3FFFF [], .anyone, .custodian, .none, .never, 0⟩,
  ⟨0x3400, 16, 1, 0x02, 1, .t80, .rw, 0x0, .any, .anyone, .custodian, .none, .never, 0⟩,
  ⟨0x3400, 16, 1, 0x03, 1, .u 4, .rw, 0xF4240, .within [(8, 4294967295)], .anyone, .custodian, .none, .never, 0⟩,
  ⟨0x3400, 16, 1, 0x04, 1, .u 4, .rw, 0x3E8, .within [(4, 1000000000)], .anyone, .custodian, .none, .never, 0⟩,
  ⟨0x3400, 16, 1, 0x05, 1, .u 4, .rw, 0x0, .any, .anyone, .custodian, .none, .never, 0⟩]

/-- The objects from 0x3000 to 0x37FF, continued. -/
def objRows3000b : List ObjRow := [
  ⟨0x3400, 16, 1, 0x06, 1, .u 4, .ro, 0x0, .any, .anyone, .nobody, .none, .never, 0⟩,
  ⟨0x3400, 16, 1, 0x07, 1, .u 4, .ro, 0x0, .any, .anyone, .nobody, .none, .never, 0⟩,
  ⟨0x3420, 8, 1, 0x01, 1, .u 4, .rw, 0x2, .fields 0x3FFFFFF [(1, 2, 1, 3), (19, 6, 0, 35)], .anyone, .custodian, .none, .never, 0⟩,
  ⟨0x3420, 8, 1, 0x02, 1, .octets 16, .ro, 0x0, .any, .anyone, .nobody, .none, .never, 0⟩,
  ⟨0x3420, 8, 1, 0x03, 1, .u 4, .ro, 0x0, .any, .anyone, .nobody, .none, .never, 0⟩,
  ⟨0x3420, 8, 1, 0x04, 1, .u 4, .ro, 0x0, .any, .anyone, .nobody, .none, .never, 0⟩,
  ⟨0x3420, 8, 1, 0x05, 1, .u 4, .rw, 0x2710, .within [(1000, 60000000)], .anyone, .custodian, .none, .never, 0⟩,
  ⟨0x3420, 8, 1, 0x06, 1, .u 4, .rw, 0x3E8, .within [(8, 100000)], .anyone, .custodian, .none, .never, 0⟩,
  ⟨0x3420, 8, 1, 0x07, 1, .u 4, .ro, 0x0, .any, .anyone, .nobody, .none, .never, 0⟩,
  ⟨0x3420, 8, 1, 0x08, 1, .u 4, .ro, 0x0, .any, .anyone, .nobody, .none, .never, 0⟩]

/-- The objects from 0x4000 to 0x47FF. -/
def objRows4000 : List ObjRow := [
  ⟨0x4000, 36, 16, 0x01, 1, .u 1, .rws, 0x0, .within [(0, 1)], .anyone, .ownerOrCustodian, .stream, .stream, 0⟩,
  ⟨0x4000, 9, 16, 0x02, 1, .u 1, .rws, 0x0, .within [(0, 3)], .anyone, .custodian, .stream, .stream, 0⟩,
  ⟨0x4000, 36, 16, 0x03, 1, .u 1, .rws, 0xFF, .within [(0, 7), (255, 255)], .anyone, .custodian, .stream, .stream, 0⟩,
  ⟨0x4000, 36, 16, 0x04, 1, .u 1, .rws, 0xFF, .within [(0, 15), (255, 255)], .anyone, .ownerOrCustodian, .stream, .stream, 0⟩,
  ⟨0x4000, 36, 16, 0x05, 1, .u 2, .rws, 0x500, .within [(1, 4096)], .anyone, .ownerOrCustodian, .stream, .stream, 0⟩,
  ⟨0x4000, 36, 16, 0x06, 1, .u 2, .rws, 0x2D0, .within [(1, 4096)], .anyone, .ownerOrCustodian, .stream, .stream, 0⟩,
  ⟨0x4000, 36, 16, 0x07, 1, .u 1, .rws, 0x0, .within [(0, 0), (8, 119)], .anyone, .ownerOrCustodian, .stream, .stream, 0⟩,
  ⟨0x4000, 36, 16, 0x08, 1, .u 1, .rws, 0x4, .within [(1, 1), (2, 2), (4, 4)], .anyone, .ownerOrCustodian, .stream, .stream, 0⟩,
  ⟨0x4000, 36, 16, 0x09, 1, .u 1, .rws, 0x0, .within [(0, 15)], .anyone, .ownerOrCustodian, .stream, .stream, 0⟩,
  ⟨0x4000, 36, 16, 0x0A, 1, .u 1, .rws, 0x30, .within [(16, 63)], .anyone, .ownerOrCustodian, .stream, .stream, 0⟩,
  ⟨0x4000, 36, 16, 0x0B, 1, .u 2, .rws, 0x0, .any, .anyone, .ownerOrCustodian, .stream, .stream, 0⟩,
  ⟨0x4000, 36, 16, 0x0C, 1, .octets 16, .rws, 0x0, .any, .anyone, .ownerOrCustodian, .stream, .stream, 0⟩,
  ⟨0x4000, 36, 16, 0x0D, 1, .bool, .rw, 0x1, .any, .anyone, .ownerOrCustodian, .stream, .never, 0⟩,
  ⟨0x4001, 36, 16, 0x00, 1, .u 1, .wo, 0x0, .within [(1, 4)], .nobody, .ownerOrCustodian, .stream, .never, 0⟩,
  ⟨0x4002, 36, 16, 0x00, 1, .u 4, .ro, 0xFF0000, .any, .anyone, .nobody, .stream, .never, 0⟩,
  ⟨0x4003, 36, 16, 0x01, 1, .octets 16, .ro, 0x0, .any, .anyone, .nobody, .stream, .never, 0⟩,
  ⟨0x4003, 36, 16, 0x02, 1, .octets 16, .rw, 0x0, .any, .anyone, .custodian, .stream, .never, 0⟩,
  ⟨0x4003, 36, 16, 0x03, 1, .u 1, .ro, 0x0, .any, .anyone, .nobody, .stream, .never, 0⟩,
  ⟨0x4004, 36, 16, 0x01, 1, .bool, .rw, 0x1, .any, .anyone, .ownerOrCustodian, .stream, .never, 0⟩,
  ⟨0x4004, 36, 16, 0x02, 1, .u 2, .rw, 0xA, .within [(1, 1000)], .anyone, .ownerOrCustodian, .stream, .never, 0⟩,
  ⟨0x4004, 36, 16, 0x03, 1, .u 4, .rw, 0xC8, .within [(2, 1000000)], .anyone, .ownerOrCustodian, .stream, .never, 0⟩,
  ⟨0x4004, 36, 16, 0x04, 1, .u 1, .rw, 0x0, .any, .anyone, .ownerOrCustodian, .stream, .never, 0⟩,
  ⟨0x4004, 36, 16, 0x05, 1, .u 1, .rw, 0x0, .within [(0, 1)], .anyone, .ownerOrCustodian, .stream, .never, 0⟩,
  ⟨0x4004, 36, 16, 0x06, 1, .u 4, .rw, 0x186A0, .within [(1000, 100000)], .anyone, .ownerOrCustodian, .stream, .never, 0⟩,
  ⟨0x4005, 36, 16, 0x01, 1, .domain 4096, .rw, 0x0, .any, .anyone, .ownerOrCustodian, .stream, .never, 0⟩,
  ⟨0x4005, 36, 16, 0x02, 1, .u 2, .ro, 0x0, .any, .anyone, .nobody, .stream, .never, 0⟩,
  ⟨0x4005, 36, 16, 0x03, 1, .u 1, .wo, 0x0, .within [(1, 2)], .nobody, .ownerOrCustodian, .stream, .never, 0⟩,
  ⟨0x4006, 36, 16, 0x01, 1, .f32, .rws, 0x0, .any, .anyone, .ownerOrCustodian, .stream, .stream, 0⟩,
  ⟨0x4006, 36, 16, 0x02, 1, .f32, .rws, 0x0, .any, .anyone, .ownerOrCustodian, .stream, .stream, 0⟩,
  ⟨0x4006, 36, 16, 0x03, 1, .f32, .rws, 0x0, .any, .anyone, .ownerOrCustodian, .stream, .stream, 0⟩,
  ⟨0x4006, 36, 16, 0x04, 1, .f32, .rws, 0x0, .any, .anyone, .ownerOrCustodian, .stream, .stream, 0⟩,
  ⟨0x4006, 36, 16, 0x05, 1, .f32, .rws, 0x3F800000, .any, .anyone, .ownerOrCustodian, .stream, .stream, 0⟩,
  ⟨0x4006, 36, 16, 0x06, 1, .f32, .rws, 0x0, .any, .anyone, .ownerOrCustodian, .stream, .stream, 0⟩,
  ⟨0x4006, 36, 16, 0x07, 1, .f32, .rws, 0x0, .any, .anyone, .ownerOrCustodian, .stream, .stream, 0⟩,
  ⟨0x4006, 36, 16, 0x08, 1, .f32, .rws, 0x0, .any, .anyone, .ownerOrCustodian, .stream, .stream, 0⟩,
  ⟨0x4006, 36, 16, 0x09, 1, .u 1, .rws, 0xFF, .within [(0, 61), (255, 255)], .anyone, .ownerOrCustodian, .stream, .stream, 0⟩,
  ⟨0x4006, 36, 16, 0x0A, 1, .u 4, .rws, 0x30D40, .within [(10000, 10000000)], .anyone, .ownerOrCustodian, .stream, .stream, 0⟩,
  ⟨0x4006, 36, 16, 0x0B, 1, .u 2, .rw, 0x28, .within [(0, 200)], .anyone, .ownerOrCustodian, .stream, .never, 0⟩,
  ⟨0x4006, 36, 16, 0x0C, 1, .u 4, .rw, 0x3E8, .within [(10, 100000)], .anyone, .ownerOrCustodian, .stream, .never, 0⟩,
  ⟨0x4006, 36, 16, 0x0D, 1, .u 4, .rw, 0xC350, .within [(10, 1000000)], .anyone, .ownerOrCustodian, .stream, .never, 0⟩]

/-- The objects from 0x4000 to 0x47FF, continued. -/
def objRows4000b : List ObjRow := [
  ⟨0x4006, 36, 16, 0x0E, 1, .bool, .rws, 0x1, .any, .anyone, .ownerOrCustodian, .stream, .stream, 0⟩,
  ⟨0x4007, 36, 16, 0x01, 1, .domain 131072, .rws, 0x0, .any, .anyone, .ownerOrCustodian, .stream, .stream, 0⟩,
  ⟨0x4007, 36, 16, 0x02, 1, .u 1, .rws, 0x8, .within [(4, 4), (8, 8), (16, 16)], .anyone, .ownerOrCustodian, .stream, .stream, 0⟩,
  ⟨0x4007, 36, 16, 0x03, 1, .u 2, .ro, 0x0, .any, .anyone, .nobody, .stream, .never, 0⟩,
  ⟨0x4008, 36, 16, 0x01, 25, .u 8, .ro, 0x0, .any, .anyone, .nobody, .stream, .never, 0⟩,
  ⟨0x4009, 36, 16, 0x01, 1, .u 4, .ro, 0xFFFFFFFF, .any, .anyone, .nobody, .stream, .never, 0⟩,
  ⟨0x4009, 36, 16, 0x02, 1, .u 4, .ro, 0x0, .any, .anyone, .nobody, .stream, .never, 0⟩,
  ⟨0x4009, 36, 16, 0x03, 1, .t80, .ro, 0x0, .any, .anyone, .nobody, .stream, .never, 0⟩,
  ⟨0x4009, 36, 16, 0x04, 1, .u 4, .ro, 0x0, .any, .anyone, .nobody, .stream, .never, 0⟩,
  ⟨0x400A, 36, 16, 0x01, 1, .u 4, .rws, 0x10, .within [(0, 256)], .anyone, .ownerOrCustodian, .stream, .stream, 0⟩,
  ⟨0x400A, 36, 16, 0x02, 1, .u 4, .rw, 0xC350, .within [(1000, 60000)], .anyone, .ownerOrCustodian, .stream, .never, 0⟩,
  ⟨0x400A, 36, 16, 0x03, 1, .u 4, .ro, 0x0, .any, .anyone, .nobody, .stream, .never, 0⟩,
  ⟨0x400A, 36, 16, 0x04, 1, .u 4, .ro, 0x0, .any, .anyone, .nobody, .stream, .never, 0⟩,
  ⟨0x400A, 36, 16, 0x05, 1, .u 4, .ro, 0x0, .any, .anyone, .nobody, .stream, .never, 0⟩,
  ⟨0x400A, 36, 16, 0x06, 1, .u 4, .rw, 0x1388, .within [(100, 1000000)], .anyone, .ownerOrCustodian, .stream, .never, 0⟩,
  ⟨0x4090, 9, 16, 0x02, 1, .u 1, .rws, 0x1, .within [(0, 3)], .anyone, .custodian, .stream, .stream, 9⟩,
  ⟨0x4120, 9, 16, 0x02, 1, .u 1, .rws, 0x2, .within [(0, 3)], .anyone, .custodian, .stream, .stream, 18⟩,
  ⟨0x41B0, 9, 16, 0x02, 1, .u 1, .rws, 0x3, .within [(0, 3)], .anyone, .custodian, .stream, .stream, 27⟩]

/-- The objects from 0x4800 to 0x4FFF. -/
def objRows4800 : List ObjRow := [
  ⟨0x4800, 1, 1, 0x01, 1, .u 2, .const, 0x102, .any, .anyone, .nobody, .none, .never, 0⟩,
  ⟨0x4800, 1, 1, 0x02, 1, .u 2, .const, 0x100, .any, .anyone, .nobody, .none, .never, 0⟩,
  ⟨0x4800, 1, 1, 0x03, 1, .u 4, .ro, 0x0, .any, .anyone, .nobody, .none, .never, 0⟩,
  ⟨0x4800, 1, 1, 0x04, 1, .u 4, .const, 0x17700, .any, .anyone, .nobody, .none, .never, 0⟩,
  ⟨0x4800, 1, 1, 0x05, 1, .u 4, .rw, 0x186A0, .within [(1000, 10000000)], .anyone, .custodian, .none, .never, 0⟩,
  ⟨0x4810, 16, 1, 0x01, 1, .u 2, .rw, 0x0, .any, .anyone, .custodian, .none, .never, 0⟩,
  ⟨0x4810, 16, 1, 0x02, 1, .octets 6, .rw, 0x0, .any, .anyone, .custodian, .none, .never, 0⟩,
  ⟨0x4810, 16, 1, 0x03, 1, .octets 6, .rw, 0x0, .any, .anyone, .custodian, .none, .never, 0⟩,
  ⟨0x4810, 16, 1, 0x04, 1, .u 2, .rw, 0x500, .within [(1, 4096)], .anyone, .custodian, .none, .never, 0⟩,
  ⟨0x4810, 16, 1, 0x05, 1, .u 2, .rw, 0x2D0, .within [(1, 4096)], .anyone, .custodian, .none, .never, 0⟩,
  ⟨0x4810, 16, 1, 0x06, 1, .u 1, .rw, 0x20, .within [(16, 16), (32, 32)], .anyone, .custodian, .none, .never, 0⟩,
  ⟨0x4810, 16, 1, 0x07, 1, .u 1, .rw, 0x4, .within [(1, 4)], .anyone, .custodian, .none, .never, 0⟩,
  ⟨0x4810, 16, 1, 0x08, 1, .u 1, .rw, 0x1C, .any, .anyone, .custodian, .none, .never, 0⟩,
  ⟨0x4810, 16, 1, 0x09, 1, .u 4, .rw, 0xF4240, .any, .anyone, .custodian, .none, .never, 0⟩,
  ⟨0x4810, 16, 1, 0x0A, 1, .u 1, .rw, 0x20, .within [(16, 64)], .anyone, .custodian, .none, .never, 0⟩,
  ⟨0x4810, 16, 1, 0x0B, 1, .u 1, .rw, 0x0, .within [(0, 2)], .anyone, .custodian, .none, .never, 0⟩,
  ⟨0x4810, 16, 1, 0x0C, 1, .u 4, .rw, 0x0, .any, .anyone, .custodian, .none, .never, 0⟩,
  ⟨0x4810, 16, 1, 0x0D, 1, .octets 8, .rw, 0x0, .any, .anyone, .custodian, .none, .never, 0⟩,
  ⟨0x4810, 16, 1, 0x0E, 1, .domain 4096, .rw, 0x0, .any, .anyone, .custodian, .none, .never, 0⟩,
  ⟨0x4810, 16, 1, 0x0F, 1, .domain 4096, .rw, 0x0, .any, .anyone, .custodian, .none, .never, 0⟩,
  ⟨0x4810, 16, 1, 0x10, 1, .domain 4096, .rw, 0x0, .any, .anyone, .custodian, .none, .never, 0⟩,
  ⟨0x4810, 16, 1, 0x11, 1, .domain 128, .rw, 0x0, .any, .anyone, .custodian, .none, .never, 0⟩,
  ⟨0x4810, 16, 1, 0x12, 1, .u 1, .ro, 0x0, .any, .anyone, .nobody, .none, .never, 0⟩]

/-- The objects from 0x5000 to 0x57FF. -/
def objRows5000 : List ObjRow := [
  ⟨0x5000, 1, 1, 0x01, 4, .u 2, .ro, 0x8000, .any, .anyone, .nobody, .none, .never, 0⟩,
  ⟨0x5001, 1, 1, 0x01, 4, .u 2, .ro, 0x8000, .any, .anyone, .nobody, .none, .never, 0⟩,
  ⟨0x5002, 1, 1, 0x01, 4, .u 2, .ro, 0x0, .any, .anyone, .nobody, .none, .never, 0⟩,
  ⟨0x5003, 1, 1, 0x01, 4, .u 2, .ro, 0x0, .any, .anyone, .nobody, .none, .never, 0⟩,
  ⟨0x5004, 1, 1, 0x01, 4, .u 1, .rw, 0x1, .within [(0, 8)], .anyone, .custodian, .none, .never, 0⟩,
  ⟨0x5005, 1, 1, 0x01, 4, .u 4, .ro, 0x0, .any, .anyone, .nobody, .none, .never, 0⟩,
  ⟨0x5006, 1, 1, 0x01, 4, .u 4, .ro, 0x0, .any, .anyone, .nobody, .none, .never, 0⟩,
  ⟨0x5007, 1, 1, 0x01, 4, .u 4, .ro, 0x0, .any, .anyone, .nobody, .none, .never, 0⟩,
  ⟨0x5010, 1, 1, 0x01, 36, .u 2, .ro, 0xFFFF, .any, .anyone, .nobody, .none, .never, 0⟩,
  ⟨0x5011, 1, 1, 0x01, 36, .u 2, .ro, 0x0, .any, .anyone, .nobody, .none, .never, 0⟩,
  ⟨0x5012, 1, 1, 0x01, 36, .u 4, .rw, 0x2710, .within [(1000, 50000)], .anyone, .ownerOrCustodian, .stream, .never, 0⟩,
  ⟨0x5013, 1, 1, 0x01, 36, .u 4, .rw, 0x1F, .fields 0x3F [], .anyone, .ownerOrCustodian, .stream, .never, 0⟩,
  ⟨0x5014, 1, 1, 0x01, 36, .u 1, .rw, 0x5, .within [(3, 24)], .anyone, .ownerOrCustodian, .stream, .never, 0⟩,
  ⟨0x5015, 1, 1, 0x01, 36, .u 4, .rw, 0x1F4, .within [(4, 50000)], .anyone, .ownerOrCustodian, .stream, .never, 0⟩,
  ⟨0x5016, 1, 1, 0x01, 36, .u 2, .rw, 0x14, .within [(1, 1000)], .anyone, .ownerOrCustodian, .stream, .never, 0⟩,
  ⟨0x5017, 1, 1, 0x01, 36, .u 1, .rw, 0x8, .within [(0, 24)], .anyone, .ownerOrCustodian, .stream, .never, 0⟩,
  ⟨0x5018, 1, 1, 0x01, 36, .u 2, .rw, 0x100, .within [(0, 2304)], .anyone, .ownerOrCustodian, .stream, .never, 0⟩,
  ⟨0x5019, 1, 1, 0x01, 36, .u 2, .rw, 0x32, .within [(1, 1000)], .anyone, .ownerOrCustodian, .stream, .never, 0⟩,
  ⟨0x5040, 36, 1, 0x01, 13, .u 8, .ro, 0x0, .any, .anyone, .nobody, .none, .never, 0⟩]

/-- The objects from 0x5800 to 0x5FFF. -/
def objRows5800 : List ObjRow := [
  ⟨0x5800, 1, 1, 0x01, 1, .u 2, .rw, 0xA002, .any, .anyone, .custodian, .none, .never, 0⟩,
  ⟨0x5800, 1, 1, 0x02, 1, .octets 16, .rw, 0x0, .any, .anyone, .custodian, .none, .never, 0⟩,
  ⟨0x5800, 1, 1, 0x03, 1, .u 1, .ro, 0x0, .any, .anyone, .nobody, .none, .never, 0⟩,
  ⟨0x5800, 1, 1, 0x04, 1, .u 8, .ro, 0x0, .any, .anyone, .nobody, .none, .never, 0⟩,
  ⟨0x5810, 1, 1, 0x01, 64, .u 8, .rws, 0x0, .fields 0x3FFFFFFFFFFFF [(0, 4, 0, 4), (16, 2, 0, 2)], .anyone, .custodian, .none, .reedbed, 0⟩,
  ⟨0x5811, 1, 1, 0x01, 64, .u 4, .rws, 0x3E8, .within [(1, 32000)], .anyone, .custodian, .none, .reedbed, 0⟩,
  ⟨0x5812, 1, 1, 0x01, 64, .u 1, .rws, 0x1, .within [(1, 1), (2, 2), (4, 4), (8, 8), (16, 16), (32, 32)], .anyone, .custodian, .none, .reedbed, 0⟩,
  ⟨0x5813, 1, 1, 0x01, 64, .u 1, .rws, 0x20, .within [(4, 32)], .anyone, .custodian, .none, .reedbed, 0⟩,
  ⟨0x5814, 1, 1, 0x01, 64, .u 1, .rw, 0x2, .within [(0, 3)], .anyone, .custodian, .none, .never, 0⟩,
  ⟨0x5815, 1, 1, 0x01, 64, .u 2, .rw, 0x40, .within [(1, 1024)], .anyone, .custodian, .none, .never, 0⟩,
  ⟨0x5816, 1, 1, 0x01, 64, .u 2, .rws, 0x0, .any, .anyone, .custodian, .none, .reedbed, 0⟩,
  ⟨0x5817, 1, 1, 0x01, 64, .u 4, .rws, 0x0, .within [(0, 10000000)], .anyone, .custodian, .none, .reedbed, 0⟩,
  ⟨0x5818, 1, 1, 0x01, 64, .u 1, .rws, 0x0, .within [(0, 15)], .anyone, .custodian, .none, .reedbed, 0⟩,
  ⟨0x5819, 1, 1, 0x01, 64, .f32, .rws, 0x3F800000, .any, .anyone, .custodian, .none, .reedbed, 0⟩,
  ⟨0x581A, 1, 1, 0x01, 64, .u 1, .rws, 0x1, .within [(1, 1), (2, 2), (4, 4), (8, 8)], .anyone, .custodian, .none, .reedbed, 0⟩,
  ⟨0x581B, 1, 1, 0x01, 64, .u 1, .rws, 0x8, .within [(1, 255)], .anyone, .custodian, .none, .reedbed, 0⟩,
  ⟨0x581C, 1, 1, 0x01, 64, .u 1, .wo, 0x0, .within [(1, 2)], .nobody, .custodian, .none, .never, 0⟩,
  ⟨0x581D, 1, 1, 0x01, 64, .u 4, .ro, 0xA0, .any, .anyone, .nobody, .none, .never, 0⟩,
  ⟨0x581E, 1, 1, 0x01, 64, .u 4, .ro, 0x0, .any, .anyone, .nobody, .none, .never, 0⟩,
  ⟨0x581F, 1, 1, 0x01, 64, .u 2, .rw, 0x3E8, .within [(1, 65535)], .anyone, .custodian, .none, .never, 0⟩,
  ⟨0x5820, 1, 1, 0x01, 64, .u 4, .rw, 0x0, .fields 0x7FFFFF [], .anyone, .custodian, .none, .never, 0⟩,
  ⟨0x5821, 1, 1, 0x01, 64, .i 4, .rw, 0x400000, .any, .anyone, .custodian, .none, .never, 0⟩,
  ⟨0x5822, 1, 1, 0x01, 64, .i 4, .ro, 0x0, .any, .anyone, .nobody, .none, .never, 0⟩,
  ⟨0x5823, 1, 1, 0x01, 64, .i 4, .ro, 0x0, .any, .anyone, .nobody, .none, .never, 0⟩,
  ⟨0x5824, 1, 1, 0x01, 64, .i 4, .ro, 0x0, .any, .anyone, .nobody, .none, .never, 0⟩,
  ⟨0x5840, 8, 1, 0x01, 1, .u 4, .rws, 0x2710, .within [(100, 50000)], .anyone, .custodian, .none, .spi, 0⟩,
  ⟨0x5840, 8, 1, 0x02, 1, .u 1, .rws, 0x0, .within [(0, 3)], .anyone, .custodian, .none, .spi, 0⟩,
  ⟨0x5840, 8, 1, 0x03, 1, .u 1, .rws, 0xE, .within [(2, 64)], .anyone, .custodian, .none, .spi, 0⟩,
  ⟨0x5840, 8, 1, 0x04, 1, .octets 64, .rws, 0x0, .any, .anyone, .custodian, .none, .spi, 0⟩,
  ⟨0x5840, 8, 1, 0x05, 1, .u 1, .rws, 0xFF, .within [(0, 7), (255, 255)], .anyone, .custodian, .none, .spi, 0⟩,
  ⟨0x5840, 8, 1, 0x06, 1, .u 4, .rws, 0x3E8, .within [(1, 32000)], .anyone, .custodian, .none, .spi, 0⟩,
  ⟨0x5840, 8, 1, 0x07, 1, .u 8, .ro, 0x0, .any, .anyone, .nobody, .none, .never, 0⟩,
  ⟨0x5840, 8, 1, 0x08, 1, .u 8, .ro, 0x0, .any, .anyone, .nobody, .none, .never, 0⟩,
  ⟨0x5880, 64, 1, 0x01, 11, .u 8, .ro, 0x0, .any, .anyone, .nobody, .none, .never, 0⟩]

/-- The objects from 0x6000 to 0x67FF. -/
def objRows6000 : List ObjRow := [
  ⟨0x6000, 16, 1, 0x01, 1, .domain 1073741824, .wo, 0x0, .any, .nobody, .owner, .plan, .never, 0⟩,
  ⟨0x6000, 16, 1, 0x02, 1, .u 1, .wo, 0x0, .within [(1, 3)], .nobody, .owner, .plan, .never, 0⟩,
  ⟨0x6000, 16, 1, 0x03, 1, .u 1, .ro, 0x0, .any, .anyone, .nobody, .plan, .never, 0⟩,
  ⟨0x6000, 16, 1, 0x04, 1, .u 1, .ro, 0xFF, .any, .anyone, .nobody, .plan, .never, 0⟩,
  ⟨0x6000, 16, 1, 0x05, 1, .u 2, .ro, 0x0, .any, .anyone, .nobody, .plan, .never, 0⟩,
  ⟨0x6000, 16, 1, 0x06, 1, .octets 32, .ro, 0x0, .any, .anyone, .nobody, .plan, .never, 0⟩,
  ⟨0x6000, 16, 1, 0x07, 1, .u 1, .ro, 0x0, .any, .anyone, .nobody, .plan, .never, 0⟩,
  ⟨0x6000, 16, 1, 0x08, 1, .u 1, .ro, 0xFF, .any, .anyone, .nobody, .plan, .never, 0⟩,
  ⟨0x6000, 16, 1, 0x09, 1, .u 4, .rw, 0x186A0, .within [(1000, 10000000)], .anyone, .owner, .plan, .never, 0⟩,
  ⟨0x6000, 16, 1, 0x0A, 1, .u 4, .ro, 0x0, .any, .anyone, .nobody, .plan, .never, 0⟩,
  ⟨0x6000, 16, 1, 0x0B, 1, .u 4, .ro, 0x0, .any, .anyone, .nobody, .plan, .never, 0⟩,
  ⟨0x6000, 16, 1, 0x0C, 1, .u 4, .ro, 0x0, .any, .anyone, .nobody, .plan, .never, 0⟩,
  ⟨0x6010, 1, 1, 0x01, 1, .u 2, .const, 0x302, .any, .anyone, .nobody, .none, .never, 0⟩,
  ⟨0x6010, 1, 1, 0x02, 1, .u 2, .const, 0x300, .any, .anyone, .nobody, .none, .never, 0⟩,
  ⟨0x6010, 1, 1, 0x03, 1, .u 4, .const, 0x186A0, .any, .anyone, .nobody, .none, .never, 0⟩,
  ⟨0x6020, 1, 1, 0x01, 128, .u 8, .rw, 0x1, .any, .anyone, .ownerOrCustodian, .cluster, .never, 0⟩,
  ⟨0x6021, 1, 1, 0x01, 128, .u 8, .ro, 0x0, .any, .anyone, .nobody, .none, .never, 0⟩,
  ⟨0x6022, 1, 1, 0x01, 128, .u 8, .ro, 0x0, .any, .anyone, .nobody, .none, .never, 0⟩,
  ⟨0x6023, 1, 1, 0x01, 128, .u 8, .ro, 0x0, .any, .anyone, .nobody, .none, .never, 0⟩,
  ⟨0x6030, 1, 1, 0x01, 128, .u 8, .ro, 0x0, .any, .anyone, .nobody, .none, .never, 0⟩,
  ⟨0x6031, 1, 1, 0x01, 128, .u 8, .ro, 0x0, .any, .anyone, .nobody, .none, .never, 0⟩,
  ⟨0x6032, 1, 1, 0x01, 128, .u 8, .ro, 0x0, .any, .anyone, .nobody, .none, .never, 0⟩,
  ⟨0x6033, 1, 1, 0x01, 128, .u 8, .ro, 0x0, .any, .anyone, .nobody, .none, .never, 0⟩,
  ⟨0x6034, 1, 1, 0x01, 128, .u 8, .ro, 0x0, .any, .anyone, .nobody, .none, .never, 0⟩,
  ⟨0x6035, 1, 1, 0x01, 128, .u 8, .ro, 0x0, .any, .anyone, .nobody, .none, .never, 0⟩,
  ⟨0x6036, 1, 1, 0x01, 128, .u 4, .rw, 0x3F8, .fields 0x3FF [(0, 2, 0, 2)], .anyone, .custodian, .none, .never, 0⟩,
  ⟨0x6037, 1, 1, 0x01, 128, .u 4, .ro, 0x0, .any, .anyone, .nobody, .none, .never, 0⟩,
  ⟨0x6038, 1, 1, 0x01, 128, .u 8, .ro, 0x0, .any, .anyone, .nobody, .none, .never, 0⟩,
  ⟨0x6039, 1, 1, 0x01, 128, .u 8, .ro, 0x0, .any, .anyone, .nobody, .none, .never, 0⟩,
  ⟨0x603A, 1, 1, 0x01, 128, .u 8, .ro, 0x0, .any, .anyone, .nobody, .none, .never, 0⟩,
  ⟨0x603B, 1, 1, 0x01, 128, .u 8, .ro, 0x0, .any, .anyone, .nobody, .none, .never, 0⟩,
  ⟨0x6040, 8, 1, 0x01, 128, .u 4, .ro, 0x2000000, .any, .anyone, .nobody, .none, .never, 0⟩,
  ⟨0x6050, 1, 1, 0x01, 6, .u 8, .ro, 0x0, .any, .anyone, .nobody, .none, .never, 0⟩,
  ⟨0x6051, 1, 1, 0x01, 6, .u 8, .ro, 0x0, .any, .anyone, .nobody, .none, .never, 0⟩,
  ⟨0x6060, 1, 1, 0x01, 40, .u 4, .ro, 0x0, .any, .anyone, .nobody, .none, .never, 0⟩,
  ⟨0x6061, 1, 1, 0x01, 40, .u 8, .ro, 0x0, .any, .anyone, .nobody, .none, .never, 0⟩,
  ⟨0x6062, 1, 1, 0x01, 40, .u 8, .ro, 0x0, .any, .anyone, .nobody, .none, .never, 0⟩,
  ⟨0x6063, 1, 1, 0x01, 40, .u 8, .ro, 0x0, .any, .anyone, .nobody, .none, .never, 0⟩,
  ⟨0x6064, 1, 1, 0x01, 40, .u 8, .ro, 0x0, .any, .anyone, .nobody, .none, .never, 0⟩,
  ⟨0x6065, 1, 1, 0x01, 40, .u 8, .ro, 0x0, .any, .anyone, .nobody, .none, .never, 0⟩]

/-- The objects from 0x6000 to 0x67FF, continued. -/
def objRows6000b : List ObjRow := [
  ⟨0x6066, 1, 1, 0x01, 40, .u 8, .ro, 0x0, .any, .anyone, .nobody, .none, .never, 0⟩,
  ⟨0x6080, 1, 1, 0x01, 8, .u 4, .ro, 0x0, .any, .anyone, .nobody, .none, .never, 0⟩,
  ⟨0x6081, 1, 1, 0x01, 8, .u 8, .ro, 0x0, .any, .anyone, .nobody, .none, .never, 0⟩,
  ⟨0x6082, 1, 1, 0x01, 8, .u 8, .ro, 0x0, .any, .anyone, .nobody, .none, .never, 0⟩,
  ⟨0x6083, 1, 1, 0x01, 8, .u 8, .ro, 0x0, .any, .anyone, .nobody, .none, .never, 0⟩,
  ⟨0x6084, 1, 1, 0x01, 8, .i 2, .ro, 0x0, .any, .anyone, .nobody, .none, .never, 0⟩,
  ⟨0x6085, 1, 1, 0x01, 8, .u 8, .ro, 0x0, .any, .anyone, .nobody, .none, .never, 0⟩,
  ⟨0x6090, 1, 1, 0x00, 1, .u 2, .rw, 0x80, .within [(0, 256)], .anyone, .custodian, .none, .never, 0⟩,
  ⟨0x6091, 1, 1, 0x01, 8, .u 1, .rw, 0x10, .within [(1, 255)], .anyone, .custodian, .none, .never, 0⟩,
  ⟨0x6092, 1, 1, 0x01, 32, .u 4, .rw, 0x0, .any, .anyone, .custodian, .none, .never, 0⟩,
  ⟨0x6093, 1, 1, 0x01, 32, .u 4, .rw, 0x0, .any, .anyone, .custodian, .none, .never, 0⟩,
  ⟨0x6094, 1, 1, 0x01, 32, .u 1, .rw, 0xFF, .within [(0, 7), (255, 255)], .anyone, .custodian, .none, .never, 0⟩,
  ⟨0x6095, 1, 1, 0x01, 32, .bool, .rw, 0x0, .any, .anyone, .custodian, .none, .never, 0⟩,
  ⟨0x6096, 1, 1, 0x01, 32, .u 1, .ro, 0x0, .any, .anyone, .nobody, .none, .never, 0⟩,
  ⟨0x6097, 1, 1, 0x00, 1, .u 2, .ro, 0x0, .any, .anyone, .nobody, .none, .never, 0⟩,
  ⟨0x6098, 1, 1, 0x00, 1, .u 4, .ro, 0x0, .any, .anyone, .nobody, .none, .never, 0⟩,
  ⟨0x6100, 1, 1, 0x00, 1, .u 2, .ro, 0x0, .any, .anyone, .nobody, .none, .never, 0⟩,
  ⟨0x6101, 1, 1, 0x01, 16, .u 2, .ro, 0x0, .any, .anyone, .nobody, .none, .never, 0⟩,
  ⟨0x6102, 1, 1, 0x01, 16, .u 8, .ro, 0x0, .any, .anyone, .nobody, .none, .never, 0⟩,
  ⟨0x6200, 1, 1, 0x01, 1, .u 2, .ro, 0x0, .any, .anyone, .nobody, .none, .never, 0⟩,
  ⟨0x6201, 1, 1, 0x01, 128, .u 1, .ro, 0x0, .any, .anyone, .nobody, .none, .never, 0⟩,
  ⟨0x6202, 1, 1, 0x01, 128, .u 2, .ro, 0x0, .any, .anyone, .nobody, .none, .never, 0⟩,
  ⟨0x6300, 256, 1, 0x01, 1, .u 4, .ro, 0x0, .any, .anyone, .nobody, .layer, .never, 0⟩,
  ⟨0x6300, 256, 1, 0x02, 1, .u 1, .ro, 0xFF, .any, .anyone, .nobody, .layer, .never, 0⟩,
  ⟨0x6300, 256, 1, 0x03, 1, .u 2, .ro, 0xFFFF, .any, .anyone, .nobody, .layer, .never, 0⟩,
  ⟨0x6300, 256, 1, 0x04, 1, .u 1, .ro, 0x0, .any, .anyone, .nobody, .layer, .never, 0⟩,
  ⟨0x6300, 256, 1, 0x05, 1, .u 1, .ro, 0xFF, .any, .anyone, .nobody, .layer, .never, 0⟩,
  ⟨0x6300, 256, 1, 0x06, 1, .u 2, .ro, 0x0, .any, .anyone, .nobody, .layer, .never, 0⟩,
  ⟨0x6300, 256, 1, 0x07, 1, .u 2, .ro, 0x0, .any, .anyone, .nobody, .layer, .never, 0⟩,
  ⟨0x6300, 256, 1, 0x08, 1, .u 2, .ro, 0x0, .any, .anyone, .nobody, .layer, .never, 0⟩,
  ⟨0x6300, 256, 1, 0x09, 1, .u 1, .ro, 0x3, .any, .anyone, .nobody, .layer, .never, 0⟩,
  ⟨0x6300, 256, 1, 0x0A, 1, .u 1, .ro, 0x0, .any, .anyone, .nobody, .layer, .never, 0⟩,
  ⟨0x6300, 256, 1, 0x0B, 1, .u 2, .ro, 0x0, .any, .anyone, .nobody, .layer, .never, 0⟩,
  ⟨0x6300, 256, 1, 0x0C, 1, .u 1, .rw, 0x0, .within [(0, 2)], .anyone, .ownerOrCustodian, .layer, .never, 0⟩,
  ⟨0x6300, 256, 1, 0x0D, 1, .domain 520, .rw, 0x0, .any, .anyone, .ownerOrCustodian, .layer, .never, 0⟩,
  ⟨0x6300, 256, 1, 0x0E, 1, .u 2, .ro, 0xFFFF, .any, .anyone, .nobody, .layer, .never, 0⟩,
  ⟨0x6300, 256, 1, 0x0F, 1, .u 4, .rws, 0x0, .within [(100, 50000)], .anyone, .ownerOrCustodian, .layer, .layer, 0⟩,
  ⟨0x6300, 256, 1, 0x10, 1, .t80, .rws, 0x0, .wholeMicros, .anyone, .ownerOrCustodian, .layer, .layer, 0⟩,
  ⟨0x6300, 256, 1, 0x11, 1, .u 4, .rw, 0xC8, .within [(0, 65535)], .anyone, .ownerOrCustodian, .layer, .never, 0⟩,
  ⟨0x6300, 256, 1, 0x12, 1, .u 1, .rws, 0x5, .within [(1, 16)], .anyone, .ownerOrCustodian, .layer, .layer, 0⟩]

/-- The objects from 0x6000 to 0x67FF, continued. -/
def objRows6000c : List ObjRow := [
  ⟨0x6300, 256, 1, 0x13, 1, .u 4, .rws, 0x1, .fields 0x3F [(3, 2, 0, 2)], .anyone, .ownerOrCustodian, .layer, .layer, 0⟩,
  ⟨0x6300, 256, 1, 0x14, 1, .u 4, .rw, 0x4E20, .within [(100, 60000)], .anyone, .ownerOrCustodian, .layer, .never, 0⟩,
  ⟨0x6300, 256, 1, 0x18, 8, .u 8, .ro, 0x0, .any, .anyone, .nobody, .layer, .never, 0⟩,
  ⟨0x6400, 1024, 1, 0x01, 1, .u 4, .ro, 0x0, .any, .anyone, .nobody, .population, .never, 0⟩,
  ⟨0x6400, 1024, 1, 0x02, 1, .u 1, .ro, 0xFF, .any, .anyone, .nobody, .population, .never, 0⟩,
  ⟨0x6400, 1024, 1, 0x03, 1, .u 2, .ro, 0xFFFF, .any, .anyone, .nobody, .population, .never, 0⟩,
  ⟨0x6400, 1024, 1, 0x04, 1, .u 2, .ro, 0x0, .any, .anyone, .nobody, .population, .never, 0⟩,
  ⟨0x6400, 1024, 1, 0x05, 1, .u 2, .ro, 0x0, .any, .anyone, .nobody, .population, .never, 0⟩,
  ⟨0x6400, 1024, 1, 0x06, 1, .u 2, .ro, 0x0, .any, .anyone, .nobody, .population, .never, 0⟩,
  ⟨0x6400, 1024, 1, 0x07, 1, .u 4, .rws, 0x0, .within [(1, 1000)], .anyone, .ownerOrCustodian, .population, .population, 0⟩,
  ⟨0x6400, 1024, 1, 0x08, 1, .t80, .rws, 0x0, .wholeMicros, .anyone, .ownerOrCustodian, .population, .population, 0⟩,
  ⟨0x6400, 1024, 1, 0x09, 1, .u 4, .rw, 0xC8, .within [(0, 65535)], .anyone, .ownerOrCustodian, .population, .never, 0⟩,
  ⟨0x6400, 1024, 1, 0x0A, 1, .u 4, .rw, 0x0, .within [(1, 4194303)], .anyone, .ownerOrCustodian, .population, .never, 0⟩,
  ⟨0x6400, 1024, 1, 0x0B, 1, .u 1, .rw, 0x0, .any, .anyone, .ownerOrCustodian, .population, .never, 0⟩,
  ⟨0x6400, 1024, 1, 0x0C, 1, .u 4, .rw, 0x0, .within [(0, 4194303)], .anyone, .ownerOrCustodian, .population, .never, 0⟩,
  ⟨0x6400, 1024, 1, 0x0D, 1, .u 1, .rw, 0x0, .within [(0, 1)], .anyone, .ownerOrCustodian, .population, .never, 0⟩,
  ⟨0x6400, 1024, 1, 0x0E, 1, .bool, .rw, 0x0, .any, .anyone, .ownerOrCustodian, .population, .never, 0⟩,
  ⟨0x6400, 1024, 1, 0x0F, 1, .u 1, .rw, 0x0, .within [(0, 15)], .anyone, .ownerOrCustodian, .population, .never, 0⟩,
  ⟨0x6400, 1024, 1, 0x10, 1, .u 8, .rw, 0xFFFFFFFFFFFFFFFF, .any, .anyone, .ownerOrCustodian, .population, .never, 0⟩,
  ⟨0x6400, 1024, 1, 0x11, 1, .u 2, .rw, 0x0, .within [(0, 65535)], .anyone, .ownerOrCustodian, .population, .never, 0⟩,
  ⟨0x6400, 1024, 1, 0x12, 1, .u 1, .rws, 0x0, .within [(0, 3)], .anyone, .ownerOrCustodian, .population, .population, 0⟩,
  ⟨0x6400, 1024, 1, 0x13, 1, .u 1, .rws, 0x4, .within [(4, 5)], .anyone, .ownerOrCustodian, .population, .population, 0⟩,
  ⟨0x6400, 1024, 1, 0x14, 1, .u 2, .rw, 0x0, .within [(0, 16383)], .anyone, .ownerOrCustodian, .population, .never, 0⟩,
  ⟨0x6400, 1024, 1, 0x15, 1, .domain 8388608, .ro, 0x0, .any, .owner, .nobody, .population, .never, 0⟩,
  ⟨0x6400, 1024, 1, 0x16, 1, .u 8, .ro, 0x0, .any, .anyone, .nobody, .population, .never, 0⟩,
  ⟨0x6400, 1024, 1, 0x17, 1, .u 4, .ro, 0x0, .any, .anyone, .nobody, .population, .never, 0⟩,
  ⟨0x6400, 1024, 1, 0x20, 13, .u 8, .ro, 0x0, .any, .anyone, .nobody, .population, .never, 0⟩]

/-- The objects from 0x6800 to 0x6FFF. -/
def objRows6800 : List ObjRow := [
  ⟨0x6800, 1, 1, 0x01, 128, .u 1, .rw, 0xFF, .within [(0, 7), (255, 255)], .anyone, .custodian, .none, .never, 0⟩,
  ⟨0x6802, 1, 1, 0x01, 4, .u 2, .ro, 0x0, .any, .anyone, .nobody, .none, .never, 0⟩,
  ⟨0x6803, 1, 1, 0x01, 4, .u 2, .ro, 0x0, .any, .anyone, .nobody, .none, .never, 0⟩,
  ⟨0x6810, 1, 1, 0x00, 1, .octets 12, .wo, 0x0, .any, .nobody, .anyone, .none, .never, 0⟩,
  ⟨0x6811, 1, 1, 0x00, 1, .u 2, .rw, 0x0, .within [(0, 16383)], .anyone, .anyone, .none, .never, 0⟩,
  ⟨0x6812, 1, 1, 0x00, 1, .octets 16, .ro, 0x0, .any, .anyone, .nobody, .none, .never, 0⟩,
  ⟨0x6813, 1, 1, 0x00, 1, .octets 32, .rw, 0x0, .any, .selectedWeir, .selectedWeir, .none, .never, 0⟩]

/-- The objects from 0x7000 to 0x77FF. -/
def objRows7000 : List ObjRow := [
  ⟨0x7000, 1, 1, 0x01, 1, .u 1, .rw, 0xFF, .within [(0, 7), (255, 255)], .anyone, .custodian, .fusion, .never, 0⟩,
  ⟨0x7000, 1, 1, 0x02, 1, .u 1, .wo, 0x0, .within [(1, 2)], .nobody, .ownerOrCustodian, .fusion, .never, 0⟩,
  ⟨0x7000, 1, 1, 0x03, 1, .u 4, .ro, 0x0, .any, .anyone, .nobody, .fusion, .never, 0⟩,
  ⟨0x7000, 1, 1, 0x04, 1, .u 4, .rws, 0x3E8, .within [(250, 20000)], .anyone, .ownerOrCustodian, .fusion, .fusion, 0⟩,
  ⟨0x7000, 1, 1, 0x05, 1, .t80, .rws, 0x0, .wholeMicros, .anyone, .ownerOrCustodian, .fusion, .fusion, 0⟩,
  ⟨0x7000, 1, 1, 0x06, 1, .u 4, .rw, 0x96, .within [(0, 5000)], .anyone, .ownerOrCustodian, .fusion, .never, 0⟩,
  ⟨0x7000, 1, 1, 0x07, 1, .u 4, .rws, 0xB, .fields 0x1F [], .anyone, .ownerOrCustodian, .fusion, .fusion, 0⟩,
  ⟨0x7000, 1, 1, 0x08, 1, .u 1, .rws, 0xA, .within [(1, 64)], .anyone, .ownerOrCustodian, .fusion, .fusion, 0⟩,
  ⟨0x7000, 1, 1, 0x09, 1, .u 1, .rws, 0x4, .within [(2, 8)], .anyone, .ownerOrCustodian, .fusion, .fusion, 0⟩,
  ⟨0x7000, 1, 1, 0x0A, 1, .u 1, .rws, 0xFF, .within [(0, 63), (255, 255)], .anyone, .ownerOrCustodian, .fusion, .fusion, 0⟩,
  ⟨0x7000, 1, 1, 0x0B, 1, .u 2, .rw, 0xFFFF, .within [(0, 16383), (65535, 65535)], .anyone, .ownerOrCustodian, .fusion, .never, 0⟩,
  ⟨0x7000, 1, 1, 0x0C, 1, .u 8, .ro, 0x0, .any, .anyone, .nobody, .fusion, .never, 0⟩,
  ⟨0x7000, 1, 1, 0x0D, 1, .u 8, .ro, 0x0, .any, .anyone, .nobody, .fusion, .never, 0⟩,
  ⟨0x7000, 1, 1, 0x0E, 1, .u 8, .ro, 0x0, .any, .anyone, .nobody, .fusion, .never, 0⟩,
  ⟨0x7000, 1, 1, 0x0F, 1, .u 2, .ro, 0x0, .any, .anyone, .nobody, .fusion, .never, 0⟩,
  ⟨0x7000, 1, 1, 0x10, 1, .u 4, .rws, 0xFFFFFF, .fields 0xFFFFFF [], .anyone, .ownerOrCustodian, .fusion, .fusion, 0⟩,
  ⟨0x7001, 1, 1, 0x01, 10, .u 8, .ro, 0x0, .any, .anyone, .nobody, .none, .never, 0⟩,
  ⟨0x7100, 96, 1, 0x01, 1, .u 1, .rws, 0x0, .within [(0, 4)], .anyone, .ownerOrCustodian, .fusion, .fusion, 0⟩,
  ⟨0x7100, 96, 1, 0x02, 1, .u 2, .rws, 0x0, .any, .anyone, .ownerOrCustodian, .fusion, .fusion, 0⟩,
  ⟨0x7100, 96, 1, 0x03, 1, .u 1, .rws, 0x0, .within [(0, 35)], .anyone, .ownerOrCustodian, .fusion, .fusion, 0⟩,
  ⟨0x7100, 96, 1, 0x04, 1, .i 4, .rw, 0x0, .within [(-20000, 0)], .anyone, .ownerOrCustodian, .fusion, .never, 0⟩,
  ⟨0x7100, 96, 1, 0x05, 1, .u 4, .rws, 0x602, .fields 0x1FFF [(3, 2, 0, 2), (6, 3, 0, 5)], .anyone, .ownerOrCustodian, .fusion, .fusion, 0⟩,
  ⟨0x7100, 96, 1, 0x06, 1, .u 2, .rws, 0xFFFF, .within [(0, 16383), (65535, 65535)], .anyone, .ownerOrCustodian, .fusion, .fusion, 0⟩,
  ⟨0x7100, 96, 1, 0x07, 1, .u 2, .rws, 0xFFFF, .within [(0, 16383), (65535, 65535)], .anyone, .ownerOrCustodian, .fusion, .fusion, 0⟩,
  ⟨0x7100, 96, 1, 0x08, 1, .u 8, .rws, 0x0, .any, .anyone, .ownerOrCustodian, .fusion, .fusion, 0⟩,
  ⟨0x7100, 96, 1, 0x09, 1, .f32, .rw, 0x3F800000, .any, .anyone, .ownerOrCustodian, .fusion, .never, 0⟩,
  ⟨0x7100, 96, 1, 0x0A, 1, .domain 16384, .rw, 0x0, .any, .anyone, .ownerOrCustodian, .fusion, .never, 0⟩,
  ⟨0x7100, 96, 1, 0x0B, 1, .u 4, .ro, 0x0, .any, .anyone, .nobody, .fusion, .never, 0⟩,
  ⟨0x7180, 96, 1, 0x01, 7, .u 8, .ro, 0x0, .any, .anyone, .nobody, .none, .never, 0⟩,
  ⟨0x7200, 36, 1, 0x01, 1, .domain 134217728, .rws, 0x0, .any, .anyone, .ownerOrCustodian, .fusion, .never, 0⟩,
  ⟨0x7200, 36, 1, 0x02, 1, .u 1, .ro, 0x0, .any, .anyone, .nobody, .fusion, .never, 0⟩,
  ⟨0x7200, 36, 1, 0x03, 1, .u 8, .ro, 0x0, .any, .anyone, .nobody, .fusion, .never, 0⟩,
  ⟨0x7300, 1, 1, 0x01, 36, .u 1, .ro, 0x0, .any, .anyone, .nobody, .fusion, .never, 0⟩,
  ⟨0x7301, 1, 1, 0x01, 36, .i 4, .ro, 0x0, .any, .anyone, .nobody, .fusion, .never, 0⟩,
  ⟨0x7302, 1, 1, 0x01, 36, .u 4, .ro, 0x0, .any, .anyone, .nobody, .fusion, .never, 0⟩,
  ⟨0x7303, 1, 1, 0x01, 36, .u 1, .ro, 0x0, .any, .anyone, .nobody, .fusion, .never, 0⟩,
  ⟨0x7400, 1, 1, 0x01, 1, .u 4, .rws, 0x0, .fields 0x7 [], .anyone, .ownerOrCustodian, .fusion, .fusion, 0⟩,
  ⟨0x7400, 1, 1, 0x02, 1, .f32, .rw, 0x3F800000, .floats 0x3D4CCCCD 0x41200000, .anyone, .ownerOrCustodian, .fusion, .never, 0⟩,
  ⟨0x7400, 1, 1, 0x03, 1, .f32, .rw, 0x3F000000, .floats 0x0 0x3F800000, .anyone, .ownerOrCustodian, .fusion, .never, 0⟩,
  ⟨0x7400, 1, 1, 0x04, 1, .f32, .rw, 0x3E4CCCCD, .floats 0x0 0x3F800000, .anyone, .ownerOrCustodian, .fusion, .never, 0⟩]

/-- The objects from 0x7000 to 0x77FF, continued. -/
def objRows7000b : List ObjRow := [
  ⟨0x7400, 1, 1, 0x05, 1, .u 1, .rw, 0x3, .within [(1, 15)], .anyone, .ownerOrCustodian, .fusion, .never, 0⟩,
  ⟨0x7400, 1, 1, 0x06, 1, .u 1, .rw, 0xA, .any, .anyone, .ownerOrCustodian, .fusion, .never, 0⟩,
  ⟨0x7400, 1, 1, 0x07, 1, .f32, .rw, 0x3F000000, .floats 0x0 0x3F800000, .anyone, .ownerOrCustodian, .fusion, .never, 0⟩,
  ⟨0x7400, 1, 1, 0x08, 1, .f32, .rw, 0x414CCCCD, .floats 0x3F800000 0x42C80000, .anyone, .ownerOrCustodian, .fusion, .never, 0⟩,
  ⟨0x7400, 1, 1, 0x09, 1, .u 1, .rws, 0xFF, .within [(0, 63), (255, 255)], .anyone, .ownerOrCustodian, .fusion, .fusion, 0⟩,
  ⟨0x7400, 1, 1, 0x0A, 1, .u 2, .rw, 0xFFFF, .within [(0, 16383), (65535, 65535)], .anyone, .ownerOrCustodian, .fusion, .never, 0⟩,
  ⟨0x7400, 1, 1, 0x0B, 1, .u 2, .ro, 0x0, .any, .anyone, .nobody, .fusion, .never, 0⟩,
  ⟨0x7400, 1, 1, 0x0C, 1, .domain 524288, .ro, 0x0, .any, .owner, .nobody, .fusion, .never, 0⟩,
  ⟨0x7400, 1, 1, 0x0D, 1, .u 4, .ro, 0x1, .any, .anyone, .nobody, .fusion, .never, 0⟩,
  ⟨0x7401, 1, 1, 0x01, 8, .u 8, .ro, 0x0, .any, .anyone, .nobody, .none, .never, 0⟩]

/-- The objects from 0x7800 to 0x7FFF. -/
def objRows7800 : List ObjRow := [
  ⟨0x7800, 1, 1, 0x01, 1, .u 2, .const, 0x102, .any, .anyone, .nobody, .none, .never, 0⟩,
  ⟨0x7800, 1, 1, 0x02, 1, .u 2, .const, 0x100, .any, .anyone, .nobody, .none, .never, 0⟩,
  ⟨0x7801, 1, 1, 0x01, 64, .u 1, .rw, 0x0, .within [(0, 2)], .anyone, .ownerOrCustodian, .channel, .never, 0⟩,
  ⟨0x7802, 1, 1, 0x01, 64, .u 8, .rws, 0x0, .any, .ownerOrCustodian, .ownerOrCustodian, .channel, .channel, 0⟩,
  ⟨0x7803, 1, 1, 0x01, 64, .u 4, .rws, 0x100000, .any, .anyone, .ownerOrCustodian, .channel, .channel, 0⟩,
  ⟨0x7804, 1, 1, 0x01, 64, .u 8, .rws, 0x0, .any, .ownerOrCustodian, .ownerOrCustodian, .channel, .channel, 0⟩,
  ⟨0x7805, 1, 1, 0x01, 64, .u 8, .rws, 0x0, .any, .ownerOrCustodian, .ownerOrCustodian, .channel, .channel, 0⟩,
  ⟨0x7806, 1, 1, 0x01, 64, .u 4, .rw, 0x64, .within [(1, 100000)], .anyone, .ownerOrCustodian, .channel, .never, 0⟩,
  ⟨0x7807, 1, 1, 0x01, 64, .u 4, .rw, 0x40000, .any, .anyone, .ownerOrCustodian, .channel, .never, 0⟩,
  ⟨0x7808, 1, 1, 0x01, 64, .u 2, .rw, 0xFFFF, .within [(0, 16383), (65535, 65535)], .anyone, .ownerOrCustodian, .channel, .never, 0⟩,
  ⟨0x7809, 1, 1, 0x01, 64, .u 2, .rw, 0x100, .within [(2, 1024)], .anyone, .ownerOrCustodian, .channel, .never, 0⟩,
  ⟨0x780A, 1, 1, 0x01, 64, .u 4, .rw, 0x64, .within [(1, 10000)], .anyone, .ownerOrCustodian, .channel, .never, 0⟩,
  ⟨0x780B, 1, 1, 0x01, 64, .u 8, .rw, 0x0, .any, .anyone, .ownerOrCustodian, .channel, .never, 0⟩,
  ⟨0x780C, 1, 1, 0x01, 64, .u 2, .rws, 0x578, .within [(512, 8944)], .anyone, .ownerOrCustodian, .channel, .channel, 0⟩,
  ⟨0x780D, 1, 1, 0x01, 64, .u 2, .rws, 0xA003, .any, .anyone, .ownerOrCustodian, .channel, .channel, 0⟩,
  ⟨0x780E, 1, 1, 0x01, 64, .u 1, .wo, 0x0, .within [(1, 2)], .nobody, .ownerOrCustodian, .channel, .never, 0⟩,
  ⟨0x780F, 1, 1, 0x01, 64, .u 4, .ro, 0x0, .any, .anyone, .nobody, .channel, .never, 0⟩,
  ⟨0x7810, 1, 1, 0x01, 64, .u 8, .ro, 0x0, .any, .anyone, .nobody, .channel, .never, 0⟩,
  ⟨0x7811, 1, 1, 0x01, 64, .u 8, .ro, 0x0, .any, .anyone, .nobody, .channel, .never, 0⟩,
  ⟨0x7840, 64, 1, 0x01, 8, .u 8, .ro, 0x0, .any, .anyone, .nobody, .none, .never, 0⟩]

/-- The objects from 0x8000 to 0x87FF. -/
def objRows8000 : List ObjRow := [
  ⟨0x8000, 1, 1, 0x01, 6, .u 4, .ro, 0xF0000, .any, .anyone, .nobody, .none, .never, 0⟩,
  ⟨0x8001, 1, 1, 0x01, 6, .domain 4096, .ro, 0x0, .any, .custodian, .nobody, .none, .never, 0⟩,
  ⟨0x8002, 1, 1, 0x00, 1, .u 1, .wo, 0x0, .within [(1, 1)], .nobody, .custodian, .none, .never, 0⟩,
  ⟨0x8004, 1, 1, 0x01, 4, .u 1, .wo, 0x0, .within [(1, 1)], .nobody, .custodian, .none, .never, 0⟩,
  ⟨0x8010, 6, 1, 0x01, 11, .u 8, .ro, 0x0, .any, .anyone, .nobody, .none, .never, 0⟩,
  ⟨0x8030, 1, 1, 0x01, 128, .u 4, .ro, 0x0, .any, .anyone, .nobody, .none, .never, 0⟩,
  ⟨0x8031, 1, 1, 0x01, 16, .u 1, .ro, 0x0, .any, .anyone, .nobody, .none, .never, 0⟩,
  ⟨0x8032, 1, 1, 0x01, 12, .u 4, .ro, 0x8, .any, .anyone, .nobody, .none, .never, 0⟩,
  ⟨0x8033, 1, 1, 0x01, 6, .u 1, .ro, 0x0, .any, .anyone, .nobody, .none, .never, 0⟩,
  ⟨0x8034, 1, 1, 0x01, 128, .u 1, .wo, 0x0, .within [(0, 16)], .nobody, .custodian, .cluster, .never, 0⟩,
  ⟨0x8040, 1, 1, 0x01, 12, .u 8, .ro, 0x0, .any, .anyone, .nobody, .none, .never, 0⟩,
  ⟨0x8041, 1, 1, 0x01, 2, .u 8, .ro, 0x0, .any, .anyone, .nobody, .none, .never, 0⟩,
  ⟨0x8042, 1, 1, 0x00, 1, .u 8, .ro, 0x0, .any, .anyone, .nobody, .none, .never, 0⟩]

/-- The objects from 0x8800 to 0x8FFF. -/
def objRows8800 : List ObjRow := [
  ⟨0x8800, 1, 1, 0x01, 1, .domain 5392, .ro, 0x0, .any, .anyone, .nobody, .none, .never, 0⟩,
  ⟨0x8800, 1, 1, 0x02, 1, .u 4, .ro, 0x0, .any, .anyone, .nobody, .none, .never, 0⟩,
  ⟨0x8800, 1, 1, 0x03, 1, .u 4, .ro, 0x0, .any, .anyone, .nobody, .none, .never, 0⟩,
  ⟨0x8800, 1, 1, 0x04, 1, .u 4, .ro, 0x0, .any, .anyone, .nobody, .none, .never, 0⟩,
  ⟨0x8800, 1, 1, 0x05, 1, .t80, .ro, 0x0, .any, .anyone, .nobody, .none, .never, 0⟩,
  ⟨0x8800, 1, 1, 0x06, 1, .u 8, .ro, 0x0, .any, .anyone, .nobody, .none, .never, 0⟩,
  ⟨0x8800, 1, 1, 0x07, 1, .u 8, .ro, 0x0, .any, .anyone, .nobody, .none, .never, 0⟩]

/-- The objects from 0x9000 to 0x97FF. -/
def objRows9000 : List ObjRow := [
  ⟨0x9000, 1, 1, 0x01, 1, .u 4, .ro, 0xF000, .any, .anyone, .nobody, .none, .never, 0⟩,
  ⟨0x9001, 1, 1, 0x01, 3, .u 1, .ro, 0x0, .any, .anyone, .nobody, .none, .never, 0⟩,
  ⟨0x9003, 1, 1, 0x00, 1, .u 1, .wo, 0x0, .within [(1, 1)], .nobody, .custodian, .none, .never, 0⟩,
  ⟨0x9011, 1, 1, 0x00, 1, .domain 67108864, .wo, 0x0, .any, .nobody, .anyone, .none, .never, 0⟩,
  ⟨0x9020, 1, 1, 0x00, 1, .domain 1048576, .ro, 0x0, .any, .anyone, .nobody, .none, .never, 0⟩,
  ⟨0x9021, 1, 1, 0x01, 6, .octets 32, .ro, 0x0, .any, .anyone, .nobody, .none, .never, 0⟩,
  ⟨0x9022, 1, 1, 0x01, 8, .octets 32, .ro, 0x0, .any, .ownerOrCustodian, .nobody, .tenant, .never, 0⟩,
  ⟨0x9023, 1, 1, 0x00, 1, .domain 65536, .ro, 0x0, .any, .anyone, .nobody, .none, .never, 0⟩,
  ⟨0x9024, 1, 1, 0x00, 1, .octets 1312, .ro, 0x0, .any, .anyone, .nobody, .none, .never, 0⟩,
  ⟨0x9030, 1, 1, 0x00, 1, .octets 32, .rw, 0x0, .any, .anyone, .anyone, .none, .never, 0⟩,
  ⟨0x9031, 1, 1, 0x00, 1, .octets 2772, .ro, 0x0, .any, .anyone, .nobody, .none, .never, 0⟩,
  ⟨0x9040, 1, 1, 0x01, 4, .octets 32, .ro, 0x0, .any, .anyone, .nobody, .none, .never, 0⟩,
  ⟨0x9041, 1, 1, 0x00, 1, .u 1, .wo, 0x0, .within [(1, 1)], .nobody, .custodian, .none, .never, 0⟩,
  ⟨0x9042, 1, 1, 0x00, 1, .octets 32, .rw, 0x0, .any, .anyone, .custodian, .none, .never, 0⟩,
  ⟨0x9050, 8, 1, 0x01, 4, .octets 32, .rw, 0x0, .any, .anyone, .custodian, .none, .never, 0⟩,
  ⟨0x9060, 4, 1, 0x01, 1, .domain 16384, .wo, 0x0, .any, .nobody, .anyone, .hostPort, .never, 0⟩,
  ⟨0x9060, 4, 1, 0x02, 1, .domain 16384, .ro, 0x0, .any, .anyone, .nobody, .hostPort, .never, 0⟩,
  ⟨0x9060, 4, 1, 0x03, 1, .u 1, .ro, 0x0, .any, .anyone, .nobody, .hostPort, .never, 0⟩,
  ⟨0x9070, 1, 1, 0x00, 1, .u 1, .wo, 0x0, .within [(1, 2)], .nobody, .anyone, .none, .never, 0⟩,
  ⟨0x9071, 1, 1, 0x01, 2, .u 4, .ro, 0x0, .any, .anyone, .nobody, .none, .never, 0⟩,
  ⟨0x9080, 1, 1, 0x00, 1, .octets 32, .ro, 0x0, .any, .anyone, .nobody, .none, .never, 0⟩,
  ⟨0x9081, 1, 1, 0x00, 1, .domain 16384, .wo, 0x0, .any, .nobody, .anyone, .none, .never, 0⟩,
  ⟨0x9090, 1, 1, 0x01, 6, .u 8, .ro, 0x0, .any, .anyone, .nobody, .none, .never, 0⟩]

/-- The objects from 0xA000 to 0xA7FF. -/
def objRowsA000 : List ObjRow := [
  ⟨0xA000, 1, 1, 0x01, 1, .u 4, .rw, 0x0, .fields 0x1 [], .anyone, .custodian, .none, .never, 0⟩,
  ⟨0xA000, 1, 1, 0x02, 1, .u 4, .ro, 0x0, .any, .anyone, .nobody, .none, .never, 0⟩,
  ⟨0xA000, 1, 1, 0x03, 1, .t80, .ro, 0x0, .any, .anyone, .nobody, .none, .never, 0⟩,
  ⟨0xA000, 1, 1, 0x04, 1, .u 8, .ro, 0x0, .any, .anyone, .nobody, .none, .never, 0⟩,
  ⟨0xA000, 1, 1, 0x05, 1, .u 4, .ro, 0x0, .any, .anyone, .nobody, .none, .never, 0⟩,
  ⟨0xA000, 1, 1, 0x06, 1, .u 8, .ro, 0x0, .any, .anyone, .nobody, .none, .never, 0⟩]

/-- The rows that may hold index `idx` (R461). -/
def objRows (idx : Nat) : List ObjRow :=
  match idx / 0x800 with
  | 0x2 => objRows1000 ++ objRows1000b
  | 0x3 => objRows1800
  | 0x4 => objRows2000
  | 0x5 => objRows2800
  | 0x6 => objRows3000 ++ objRows3000b
  | 0x8 => objRows4000 ++ objRows4000b
  | 0x9 => objRows4800
  | 0xA => objRows5000
  | 0xB => objRows5800
  | 0xC => objRows6000 ++ objRows6000b ++ objRows6000c
  | 0xD => objRows6800
  | 0xE => objRows7000 ++ objRows7000b
  | 0xF => objRows7800
  | 0x10 => objRows8000
  | 0x11 => objRows8800
  | 0x12 => objRows9000
  | 0x14 => objRowsA000
  | _ => []

/-- Each index that a chapter defines: its first index, how many alike, their stride, its kind (0 VAR, 1 ARRAY,
2 RECORD; R460) and what its subindex 0x00 holds (R14). -/
def objKinds : List (Nat × Nat × Nat × Nat × Nat) := [
  (0x1000, 1, 1, 2, 7), (0x1001, 1, 1, 2, 4), (0x1010, 1, 1, 2, 18), (0x1020, 1, 1, 2, 10),
  (0x1100, 1, 1, 2, 4), (0x1101, 1, 1, 2, 3), (0x1110, 1, 1, 2, 8), (0x1800, 1, 1, 1, 8),
  (0x1801, 1, 1, 1, 128), (0x1802, 1, 1, 1, 64), (0x1803, 1, 1, 1, 8), (0x1804, 1, 1, 1, 8),
  (0x1810, 1, 1, 1, 4), (0x1811, 1, 1, 1, 4), (0x1812, 1, 1, 1, 4), (0x1813, 1, 1, 1, 4),
  (0x1820, 1, 1, 1, 2), (0x1821, 1, 1, 1, 2), (0x1822, 1, 1, 1, 2), (0x1823, 1, 1, 0, 0),
  (0x1824, 1, 1, 1, 2), (0x1825, 1, 1, 0, 0), (0x1830, 1, 1, 1, 2), (0x1831, 1, 1, 1, 2),
  (0x1832, 1, 1, 1, 2), (0x1833, 1, 1, 1, 2), (0x1834, 1, 1, 1, 2), (0x2000, 1, 1, 1, 181),
  (0x2001, 1, 1, 1, 181), (0x2002, 1, 1, 1, 181), (0x2003, 1, 1, 1, 181), (0x2004, 1, 1, 1, 181),
  (0x2005, 1, 1, 1, 181), (0x2010, 4, 1, 2, 7), (0x2020, 1, 1, 1, 10), (0x2021, 1, 1, 1, 10),
  (0x2022, 1, 1, 1, 10), (0x2030, 1, 1, 0, 0), (0x2040, 1, 1, 1, 6), (0x2041, 1, 1, 0, 0),
  (0x2042, 1, 1, 0, 0), (0x2800, 1, 1, 1, 4), (0x2801, 1, 1, 1, 4), (0x2802, 1, 1, 1, 4),
  (0x2803, 1, 1, 1, 4), (0x3000, 1, 1, 2, 3), (0x3001, 1, 1, 0, 0), (0x3002, 1, 1, 0, 0),
  (0x3003, 1, 1, 0, 0), (0x3004, 1, 1, 0, 0), (0x3005, 1, 1, 0, 0), (0x3006, 1, 1, 0, 0),
  (0x3007, 1, 1, 0, 0), (0x3008, 1, 1, 0, 0), (0x3009, 1, 1, 0, 0), (0x3010, 1, 1, 2, 7),
  (0x3011, 1, 1, 2, 6), (0x3020, 1, 1, 0, 0), (0x3040, 1, 1, 1, 36), (0x3041, 1, 1, 1, 36),
  (0x3042, 1, 1, 1, 36), (0x3043, 1, 1, 1, 36), (0x3044, 1, 1, 1, 36), (0x3045, 1, 1, 1, 36),
  (0x3046, 1, 1, 1, 36), (0x3047, 1, 1, 1, 36), (0x3048, 1, 1, 1, 36), (0x3400, 16, 1, 2, 7),
  (0x3420, 8, 1, 2, 8), (0x4000, 36, 16, 2, 13), (0x4001, 36, 16, 0, 0), (0x4002, 36, 16, 0, 0),
  (0x4003, 36, 16, 2, 3), (0x4004, 36, 16, 2, 6), (0x4005, 36, 16, 2, 3), (0x4006, 36, 16, 2, 14),
  (0x4007, 36, 16, 2, 3), (0x4008, 36, 16, 2, 25), (0x4009, 36, 16, 2, 4), (0x400A, 36, 16, 2, 6),
  (0x4800, 1, 1, 2, 5), (0x4810, 16, 1, 2, 18), (0x5000, 1, 1, 1, 4), (0x5001, 1, 1, 1, 4),
  (0x5002, 1, 1, 1, 4), (0x5003, 1, 1, 1, 4), (0x5004, 1, 1, 1, 4), (0x5005, 1, 1, 1, 4),
  (0x5006, 1, 1, 1, 4), (0x5007, 1, 1, 1, 4), (0x5010, 1, 1, 1, 36), (0x5011, 1, 1, 1, 36),
  (0x5012, 1, 1, 1, 36), (0x5013, 1, 1, 1, 36), (0x5014, 1, 1, 1, 36), (0x5015, 1, 1, 1, 36),
  (0x5016, 1, 1, 1, 36), (0x5017, 1, 1, 1, 36), (0x5018, 1, 1, 1, 36), (0x5019, 1, 1, 1, 36),
  (0x5040, 36, 1, 2, 13), (0x5800, 1, 1, 2, 4), (0x5810, 1, 1, 1, 64), (0x5811, 1, 1, 1, 64),
  (0x5812, 1, 1, 1, 64), (0x5813, 1, 1, 1, 64), (0x5814, 1, 1, 1, 64), (0x5815, 1, 1, 1, 64),
  (0x5816, 1, 1, 1, 64), (0x5817, 1, 1, 1, 64), (0x5818, 1, 1, 1, 64), (0x5819, 1, 1, 1, 64),
  (0x581A, 1, 1, 1, 64), (0x581B, 1, 1, 1, 64), (0x581C, 1, 1, 1, 64), (0x581D, 1, 1, 1, 64),
  (0x581E, 1, 1, 1, 64), (0x581F, 1, 1, 1, 64), (0x5820, 1, 1, 1, 64), (0x5821, 1, 1, 1, 64),
  (0x5822, 1, 1, 1, 64), (0x5823, 1, 1, 1, 64), (0x5824, 1, 1, 1, 64), (0x5840, 8, 1, 2, 8),
  (0x5880, 64, 1, 2, 11), (0x6000, 16, 1, 2, 12), (0x6010, 1, 1, 2, 3), (0x6020, 1, 1, 1, 128),
  (0x6021, 1, 1, 1, 128), (0x6022, 1, 1, 1, 128), (0x6023, 1, 1, 1, 128), (0x6030, 1, 1, 1, 128),
  (0x6031, 1, 1, 1, 128), (0x6032, 1, 1, 1, 128), (0x6033, 1, 1, 1, 128), (0x6034, 1, 1, 1, 128),
  (0x6035, 1, 1, 1, 128), (0x6036, 1, 1, 1, 128), (0x6037, 1, 1, 1, 128), (0x6038, 1, 1, 1, 128),
  (0x6039, 1, 1, 1, 128), (0x603A, 1, 1, 1, 128), (0x603B, 1, 1, 1, 128), (0x6040, 8, 1, 1, 128),
  (0x6050, 1, 1, 1, 6), (0x6051, 1, 1, 1, 6), (0x6060, 1, 1, 1, 40), (0x6061, 1, 1, 1, 40),
  (0x6062, 1, 1, 1, 40), (0x6063, 1, 1, 1, 40), (0x6064, 1, 1, 1, 40), (0x6065, 1, 1, 1, 40),
  (0x6066, 1, 1, 1, 40), (0x6080, 1, 1, 1, 8), (0x6081, 1, 1, 1, 8), (0x6082, 1, 1, 1, 8),
  (0x6083, 1, 1, 1, 8), (0x6084, 1, 1, 1, 8), (0x6085, 1, 1, 1, 8), (0x6090, 1, 1, 0, 0),
  (0x6091, 1, 1, 1, 8), (0x6092, 1, 1, 1, 32), (0x6093, 1, 1, 1, 32), (0x6094, 1, 1, 1, 32),
  (0x6095, 1, 1, 1, 32), (0x6096, 1, 1, 1, 32), (0x6097, 1, 1, 0, 0), (0x6098, 1, 1, 0, 0),
  (0x6100, 1, 1, 0, 0), (0x6101, 1, 1, 1, 16), (0x6102, 1, 1, 1, 16), (0x6200, 1, 1, 2, 1),
  (0x6201, 1, 1, 1, 128), (0x6202, 1, 1, 1, 128), (0x6300, 256, 1, 2, 31), (0x6400, 1024, 1, 2, 44),
  (0x6800, 1, 1, 1, 128), (0x6802, 1, 1, 1, 4), (0x6803, 1, 1, 1, 4), (0x6810, 1, 1, 0, 0),
  (0x6811, 1, 1, 0, 0), (0x6812, 1, 1, 0, 0), (0x6813, 1, 1, 0, 0), (0x7000, 1, 1, 2, 16),
  (0x7001, 1, 1, 2, 10), (0x7100, 96, 1, 2, 11), (0x7180, 96, 1, 2, 7), (0x7200, 36, 1, 2, 3),
  (0x7300, 1, 1, 1, 36), (0x7301, 1, 1, 1, 36), (0x7302, 1, 1, 1, 36), (0x7303, 1, 1, 1, 36),
  (0x7400, 1, 1, 2, 13), (0x7401, 1, 1, 2, 8), (0x7800, 1, 1, 2, 2), (0x7801, 1, 1, 1, 64),
  (0x7802, 1, 1, 1, 64), (0x7803, 1, 1, 1, 64), (0x7804, 1, 1, 1, 64), (0x7805, 1, 1, 1, 64),
  (0x7806, 1, 1, 1, 64), (0x7807, 1, 1, 1, 64), (0x7808, 1, 1, 1, 64), (0x7809, 1, 1, 1, 64),
  (0x780A, 1, 1, 1, 64), (0x780B, 1, 1, 1, 64), (0x780C, 1, 1, 1, 64), (0x780D, 1, 1, 1, 64),
  (0x780E, 1, 1, 1, 64), (0x780F, 1, 1, 1, 64), (0x7810, 1, 1, 1, 64), (0x7811, 1, 1, 1, 64),
  (0x7840, 64, 1, 2, 8), (0x8000, 1, 1, 1, 6), (0x8001, 1, 1, 1, 6), (0x8002, 1, 1, 0, 0),
  (0x8004, 1, 1, 1, 4), (0x8010, 6, 1, 2, 11), (0x8030, 1, 1, 1, 128), (0x8031, 1, 1, 1, 16),
  (0x8032, 1, 1, 1, 12), (0x8033, 1, 1, 1, 6), (0x8034, 1, 1, 1, 128), (0x8040, 1, 1, 1, 12),
  (0x8041, 1, 1, 1, 2), (0x8042, 1, 1, 0, 0), (0x8800, 1, 1, 2, 7), (0x9000, 1, 1, 2, 1),
  (0x9001, 1, 1, 1, 3), (0x9003, 1, 1, 0, 0), (0x9011, 1, 1, 0, 0), (0x9020, 1, 1, 0, 0),
  (0x9021, 1, 1, 1, 6), (0x9022, 1, 1, 1, 8), (0x9023, 1, 1, 0, 0), (0x9024, 1, 1, 0, 0),
  (0x9030, 1, 1, 0, 0), (0x9031, 1, 1, 0, 0), (0x9040, 1, 1, 1, 4), (0x9041, 1, 1, 0, 0),
  (0x9042, 1, 1, 0, 0), (0x9050, 8, 1, 2, 4), (0x9060, 4, 1, 2, 3), (0x9070, 1, 1, 0, 0),
  (0x9071, 1, 1, 1, 2), (0x9080, 1, 1, 0, 0), (0x9081, 1, 1, 0, 0), (0x9090, 1, 1, 2, 6),
  (0xA000, 1, 1, 2, 6)]

end Sys2Proof.Machine
end

