-- ==== Sys2Proof/Config.lean ====
section
/-! DEFINITION. What the spec leaves to the part or leaves open: constants with no body, so that no proof can see a value. -/

namespace Sys2Proof

/-- A fresh value where the spec leaves a value open: applied to the state's counter `free` (notes/assumptions/10). [log 10 DESIGN CHOICE] -/
opaque Config.freeValue : Nat → Nat

/-- A value that differs from part to part, by the key of the object that shows it: the registers that the object tables
call "Per part" or "Per image" (notes/assumptions/7). [log 7 DESIGN CHOICE] -/
opaque Config.partValue : Nat → Nat

/-- Byte `i` of a byte string that differs from part to part, by the key of the object that shows it (notes/assumptions/7). [log 7 DESIGN CHOICE] -/
opaque Config.partByte : Nat → Nat → BitVec 8

/-- The data that a read with Poison gives where nothing has been stored, by device address (R333). [log 66 DESIGN CHOICE] -/
opaque Config.poisonByte : Nat → BitVec 8

/-- A coefficient of Reedbed's ROM, by preset, decimation, fraction and tap (R378, R379). [log 78 DESIGN CHOICE] -/
opaque Config.firCoefficient : Nat → Nat

/-- How long a CAN FD frame of 64 data bytes takes at a nominal and a data rate, in ns (R382). [log 78 DESIGN CHOICE] -/
opaque Config.canFrameNs : Nat → Nat → Nat

/-- The check bits of a scratchpad word, whose code the spec does not give (R273); those of zero are zero. [log 99 DESIGN CHOICE] -/
opaque Config.checkBits : Nat → Nat

/-- Byte `i` of the boot flash as the board was made (R611). [log 7 DESIGN CHOICE] -/
opaque Config.flashByte : Nat → BitVec 8

/-- Whether a signature of FIPS 204 over a message verifies under a public key: key, message, signature (R491; notes/assumptions/8). [log 8 DESIGN CHOICE] -/
opaque Config.verify : List (BitVec 8) → List (BitVec 8) → List (BitVec 8) → Bool

/-- The Rosbied root public key that the boot ROM holds (R491). [log 8 DESIGN CHOICE] -/
opaque Config.rootKey : List (BitVec 8)

/-- The boot ROM's own constant digest (R499). [log 8 DESIGN CHOICE] -/
opaque Config.romDigest : List (BitVec 8)

/-- The SHA3-256 of the straps and fuse values read, from their bytes: how the ROM lays them out is not stated (R490). [log 8 DESIGN CHOICE] -/
opaque Config.strapDigest : List (BitVec 8) → List (BitVec 8)

/-- The signature of the identity key over a digest (R501; notes/assumptions/8). [log 8 DESIGN CHOICE] -/
opaque Config.sign : List (BitVec 8) → List (BitVec 8)

/-- The ML-KEM-768 encapsulation key of a draw of the generator, by the number of the draw (R507; notes/assumptions/8). [log 8 DESIGN CHOICE] -/
opaque Config.kemKey : Nat → List (BitVec 8)

/-- The shared secret that the key pair of a draw decapsulates from a ciphertext (R510; notes/assumptions/8). [log 8 DESIGN CHOICE] -/
opaque Config.kemSecret : Nat → List (BitVec 8) → List (BitVec 8)

end Sys2Proof
end

