-- ==== Sys2Proof/Machine/Objects.lean ====
section
/-! DEFINITION. The names of the dictionary's scalar objects: each name is the register at that index and
subindex (R14), with its width in bits (R462). Element numbers (a stream, a die, a channel) count from 0. -/

namespace Sys2Proof.Machine

/-- A dictionary register: its key (index × 256 + subindex) and its width. -/
structure Reg where
  key : Nat
  bits : Nat
  deriving DecidableEq, Repr

/-- The register at `idx.sub`. -/
def Reg.at (idx sub bits : Nat) : Reg := ⟨idx * 256 + sub, bits⟩

namespace Obj

/-- 0x1010.01 ComputeDies. -/
def computeDies : Reg := Reg.at 0x1010 0x01 8
/-- 0x1010.02 IoDies. -/
def ioDies : Reg := Reg.at 0x1010 0x02 8
/-- 0x1010.03 RegionsPerDie. -/
def regionsPerDie : Reg := Reg.at 0x1010 0x03 8
/-- 0x1010.04 ClustersPerRegion. -/
def clustersPerRegion : Reg := Reg.at 0x1010 0x04 8
/-- 0x1010.05 ActiveUnitsPerCluster. -/
def activeUnitsPerCluster : Reg := Reg.at 0x1010 0x05 8
/-- 0x1010.06 PhysicalUnitsPerCluster. -/
def physicalUnitsPerCluster : Reg := Reg.at 0x1010 0x06 8
/-- 0x1010.07 LanesPerUnit. -/
def lanesPerUnit : Reg := Reg.at 0x1010 0x07 8
/-- 0x1010.08 ScratchpadBytes. -/
def scratchpadBytes : Reg := Reg.at 0x1010 0x08 32
/-- 0x1010.09 MereCellsPerDie. -/
def mereCellsPerDie : Reg := Reg.at 0x1010 0x09 32
/-- 0x1010.0A Gddr6Sites. -/
def gddr6Sites : Reg := Reg.at 0x1010 0x0A 8
/-- 0x1010.0B Gddr6UsableBytes. -/
def gddr6UsableBytes : Reg := Reg.at 0x1010 0x0B 64
/-- 0x1010.0C SensorPorts. -/
def sensorPorts : Reg := Reg.at 0x1010 0x0C 8
/-- 0x1010.0D PcieEndpoints. -/
def pcieEndpoints : Reg := Reg.at 0x1010 0x0D 8
/-- 0x1010.0E EthernetPorts. -/
def ethernetPorts : Reg := Reg.at 0x1010 0x0E 8
/-- 0x1010.0F Weirs. -/
def weirs : Reg := Reg.at 0x1010 0x0F 16
/-- 0x1010.10 Ferries. -/
def ferries : Reg := Reg.at 0x1010 0x10 8
/-- 0x1010.11 ClusterPresentMap. -/
def clusterPresentMap : Reg := Reg.at 0x1010 0x11 0
/-- 0x1010.12 SpareConsumedMap. -/
def spareConsumedMap : Reg := Reg.at 0x1010 0x12 0
/-- 0x2800.01 PaceCap. -/
def paceCap (k : Nat) : Reg := Reg.at 0x2800 (k + 1) 8
/-- 0x2801.01 VoltageTarget. -/
def voltageTarget (k : Nat) : Reg := Reg.at 0x2801 (k + 1) 16
/-- 0x2802.01 PaceStatus. -/
def paceStatus (k : Nat) : Reg := Reg.at 0x2802 (k + 1) 32
/-- 0x2803.01 PaceMeasured. -/
def paceMeasured (k : Nat) : Reg := Reg.at 0x2803 (k + 1) 16
/-- 0x3400+.01 TrigControl. -/
def trigControl (n : Nat) : Reg := Reg.at (0x3400 + n) 0x01 32
/-- 0x3400+.02 TrigTarget. -/
def trigTarget (n : Nat) : Reg := Reg.at (0x3400 + n) 0x02 80
/-- 0x3400+.03 TrigPeriod. -/
def trigPeriod (n : Nat) : Reg := Reg.at (0x3400 + n) 0x03 32
/-- 0x3400+.04 TrigWidth. -/
def trigWidth (n : Nat) : Reg := Reg.at (0x3400 + n) 0x04 32
/-- 0x3400+.05 TrigCount. -/
def trigCount (n : Nat) : Reg := Reg.at (0x3400 + n) 0x05 32
/-- 0x3400+.06 TrigStatus. -/
def trigStatus (n : Nat) : Reg := Reg.at (0x3400 + n) 0x06 32
/-- 0x3400+.07 TrigFired. -/
def trigFired (n : Nat) : Reg := Reg.at (0x3400 + n) 0x07 32
/-- 0x3420+.01 CapControl. -/
def capControl (n : Nat) : Reg := Reg.at (0x3420 + n) 0x01 32
/-- 0x3420+.02 CapPop. -/
def capPop (n : Nat) : Reg := Reg.at (0x3420 + n) 0x02 0
/-- 0x3420+.03 CapStatus. -/
def capStatus (n : Nat) : Reg := Reg.at (0x3420 + n) 0x03 32
/-- 0x3420+.04 CapLost. -/
def capLost (n : Nat) : Reg := Reg.at (0x3420 + n) 0x04 32
/-- 0x3420+.05 CapStuckTime. -/
def capStuckTime (n : Nat) : Reg := Reg.at (0x3420 + n) 0x05 32
/-- 0x3420+.06 CapFloodLimit. -/
def capFloodLimit (n : Nat) : Reg := Reg.at (0x3420 + n) 0x06 32
/-- 0x3420+.07 CapFloodEdges. -/
def capFloodEdges (n : Nat) : Reg := Reg.at (0x3420 + n) 0x07 32
/-- 0x3420+.08 CapFloodEpisodes. -/
def capFloodEpisodes (n : Nat) : Reg := Reg.at (0x3420 + n) 0x08 32
/-- 0x3010.01 PtpRole. -/
def ptpRole : Reg := Reg.at 0x3010 0x01 8
/-- 0x3010.02 PtpDomain. -/
def ptpDomain : Reg := Reg.at 0x3010 0x02 8
/-- 0x3010.03 PtpTransport. -/
def ptpTransport : Reg := Reg.at 0x3010 0x03 8
/-- 0x3010.04 PtpDelayMech. -/
def ptpDelayMech : Reg := Reg.at 0x3010 0x04 8
/-- 0x3010.05 PtpPriority1. -/
def ptpPriority1 : Reg := Reg.at 0x3010 0x05 8
/-- 0x3010.06 PtpPriority2. -/
def ptpPriority2 : Reg := Reg.at 0x3010 0x06 8
/-- 0x3010.07 TcMode. -/
def tcMode : Reg := Reg.at 0x3010 0x07 8
/-- 0x3011.01 PortState. -/
def portState : Reg := Reg.at 0x3011 0x01 8
/-- 0x3011.02 OffsetFromTransmitter. -/
def offsetFromTransmitter : Reg := Reg.at 0x3011 0x02 64
/-- 0x3011.03 MeanPathDelay. -/
def meanPathDelay : Reg := Reg.at 0x3011 0x03 32
/-- 0x3011.04 TransmitterIdentity. -/
def transmitterIdentity : Reg := Reg.at 0x3011 0x04 0
/-- 0x3011.05 PpsRejected. -/
def ppsRejected : Reg := Reg.at 0x3011 0x05 32
/-- 0x3011.06 TcUnmodified. -/
def tcUnmodified : Reg := Reg.at 0x3011 0x06 32
/-- 0x3040.01 StreamSyncMethod. -/
def streamSyncMethod (k : Nat) : Reg := Reg.at 0x3040 (k + 1) 8
/-- 0x3041.01 StreamSyncSource. -/
def streamSyncSource (k : Nat) : Reg := Reg.at 0x3041 (k + 1) 8
/-- 0x3042.01 StreamStepLimit. -/
def streamStepLimit (k : Nat) : Reg := Reg.at 0x3042 (k + 1) 32
/-- 0x3043.01 StreamClockError. -/
def streamClockError (k : Nat) : Reg := Reg.at 0x3043 (k + 1) 32
/-- 0x3044.01 StreamClockSkew. -/
def streamClockSkew (k : Nat) : Reg := Reg.at 0x3044 (k + 1) 32
/-- 0x3045.01 StreamSyncAge. -/
def streamSyncAge (k : Nat) : Reg := Reg.at 0x3045 (k + 1) 32
/-- 0x3046.01 StreamSyncFlags. -/
def streamSyncFlags (k : Nat) : Reg := Reg.at 0x3046 (k + 1) 8
/-- 0x3047.01 StreamSteps. -/
def streamSteps (k : Nat) : Reg := Reg.at 0x3047 (k + 1) 32
/-- 0x3048.01 StreamSyncUnpaired. -/
def streamSyncUnpaired (k : Nat) : Reg := Reg.at 0x3048 (k + 1) 32
/-- 0x3000.01 DeviceTime. -/
def deviceTime : Reg := Reg.at 0x3000 0x01 80
/-- 0x3000.02 CounterF. -/
def counterF : Reg := Reg.at 0x3000 0x02 64
/-- 0x3000.03 NowT31. -/
def nowT31 : Reg := Reg.at 0x3000 0x03 32
/-- 0x3001.00 TimeOffset. -/
def timeOffset : Reg := Reg.at 0x3001 0x00 64
/-- 0x3002.00 RateAdjust. -/
def rateAdjust : Reg := Reg.at 0x3002 0x00 32
/-- 0x3003.00 DisciplineMode. -/
def disciplineMode : Reg := Reg.at 0x3003 0x00 8
/-- 0x3004.00 TimeStatus. -/
def timeStatus : Reg := Reg.at 0x3004 0x00 32
/-- 0x3005.00 Uncertainty. -/
def uncertainty : Reg := Reg.at 0x3005 0x00 32
/-- 0x3006.00 StepCount. -/
def stepCount : Reg := Reg.at 0x3006 0x00 32
/-- 0x3007.00 AonCrystalPpm. -/
def aonCrystalPpm : Reg := Reg.at 0x3007 0x00 16
/-- 0x3008.00 PpsCapture. -/
def ppsCapture : Reg := Reg.at 0x3008 0x00 8
/-- 0x3009.00 StepLimit. -/
def stepLimit : Reg := Reg.at 0x3009 0x00 32
/-- 0x3020.00 LastCoast. -/
def lastCoast : Reg := Reg.at 0x3020 0x00 64
/-- 0x4000+.01 Source. -/
def streamSource (n : Nat) : Reg := Reg.at (0x4000 + 16 * n) 0x01 8
/-- 0x4000+.02 HomeDie. -/
def homeDie (n : Nat) : Reg := Reg.at (0x4000 + 16 * n) 0x02 8
/-- 0x4000+.03 Tenant. -/
def streamTenant (n : Nat) : Reg := Reg.at (0x4000 + 16 * n) 0x03 8
/-- 0x4000+.04 ProfileSlot. -/
def profileSlot (n : Nat) : Reg := Reg.at (0x4000 + 16 * n) 0x04 8
/-- 0x4000+.05 OutputWidth. -/
def outputWidth (n : Nat) : Reg := Reg.at (0x4000 + 16 * n) 0x05 16
/-- 0x4000+.06 OutputHeight. -/
def outputHeight (n : Nat) : Reg := Reg.at (0x4000 + 16 * n) 0x06 16
/-- 0x4000+.07 I3cStaticAddress. -/
def i3cStaticAddress (n : Nat) : Reg := Reg.at (0x4000 + 16 * n) 0x07 8
/-- 0x4000+.08 DataLanes. -/
def dataLanes (n : Nat) : Reg := Reg.at (0x4000 + 16 * n) 0x08 8
/-- 0x4000+.09 VirtualChannel. -/
def virtualChannel (n : Nat) : Reg := Reg.at (0x4000 + 16 * n) 0x09 8
/-- 0x4000+.0A DataType. -/
def dataType (n : Nat) : Reg := Reg.at (0x4000 + 16 * n) 0x0A 8
/-- 0x4000+.0B FlowPort. -/
def flowPort (n : Nat) : Reg := Reg.at (0x4000 + 16 * n) 0x0B 16
/-- 0x4000+.0C FlowSource. -/
def flowSource (n : Nat) : Reg := Reg.at (0x4000 + 16 * n) 0x0C 0
/-- 0x4000+.0D AutoRestart. -/
def autoRestart (n : Nat) : Reg := Reg.at (0x4000 + 16 * n) 0x0D 8
/-- 0x4001+.00 StreamCommand. -/
def streamCommand (n : Nat) : Reg := Reg.at (0x4001 + 16 * n) 0x00 8
/-- 0x4002+.00 StreamState. -/
def streamState (n : Nat) : Reg := Reg.at (0x4002 + 16 * n) 0x00 32
/-- 0x4003+.01 SeenIdentity. -/
def seenIdentity (n : Nat) : Reg := Reg.at (0x4003 + 16 * n) 0x01 0
/-- 0x4003+.02 ExpectedIdentity. -/
def expectedIdentity (n : Nat) : Reg := Reg.at (0x4003 + 16 * n) 0x02 0
/-- 0x4003+.03 DynamicAddress. -/
def dynamicAddress (n : Nat) : Reg := Reg.at (0x4003 + 16 * n) 0x03 8
/-- 0x4004+.01 HotEnable. -/
def hotEnable (n : Nat) : Reg := Reg.at (0x4004 + 16 * n) 0x01 8
/-- 0x4004+.02 HotWindow. -/
def hotWindow (n : Nat) : Reg := Reg.at (0x4004 + 16 * n) 0x02 16
/-- 0x4004+.03 HotCount. -/
def hotCount (n : Nat) : Reg := Reg.at (0x4004 + 16 * n) 0x03 32
/-- 0x4004+.04 RefractoryPeriod. -/
def refractoryPeriod (n : Nat) : Reg := Reg.at (0x4004 + 16 * n) 0x04 8
/-- 0x4004+.05 RefractoryMode. -/
def refractoryMode (n : Nat) : Reg := Reg.at (0x4004 + 16 * n) 0x05 8
/-- 0x4004+.06 FloodCeiling. -/
def floodCeiling (n : Nat) : Reg := Reg.at (0x4004 + 16 * n) 0x06 32
/-- 0x4005+.01 HotListImage. -/
def hotListImage (n : Nat) : Reg := Reg.at (0x4005 + 16 * n) 0x01 0
/-- 0x4005+.02 HotListCount. -/
def hotListCount (n : Nat) : Reg := Reg.at (0x4005 + 16 * n) 0x02 16
/-- 0x4005+.03 HotListClear. -/
def hotListClear (n : Nat) : Reg := Reg.at (0x4005 + 16 * n) 0x03 8
/-- 0x4006+.01 Fx. -/
def fx (n : Nat) : Reg := Reg.at (0x4006 + 16 * n) 0x01 32
/-- 0x4006+.02 Fy. -/
def fy (n : Nat) : Reg := Reg.at (0x4006 + 16 * n) 0x02 32
/-- 0x4006+.03 Cx. -/
def cx (n : Nat) : Reg := Reg.at (0x4006 + 16 * n) 0x03 32
/-- 0x4006+.04 Cy. -/
def cy (n : Nat) : Reg := Reg.at (0x4006 + 16 * n) 0x04 32
/-- 0x4006+.05 imuW. -/
def imuW (n : Nat) : Reg := Reg.at (0x4006 + 16 * n) 0x05 32
/-- 0x4006+.06 imuX. -/
def imuX (n : Nat) : Reg := Reg.at (0x4006 + 16 * n) 0x06 32
/-- 0x4006+.07 imuY. -/
def imuY (n : Nat) : Reg := Reg.at (0x4006 + 16 * n) 0x07 32
/-- 0x4006+.08 imuZ. -/
def imuZ (n : Nat) : Reg := Reg.at (0x4006 + 16 * n) 0x08 32
/-- 0x4006+.09 GyroChannel. -/
def gyroChannel (n : Nat) : Reg := Reg.at (0x4006 + 16 * n) 0x09 8
/-- 0x4006+.0A AnchorTau. -/
def anchorTau (n : Nat) : Reg := Reg.at (0x4006 + 16 * n) 0x0A 32
/-- 0x4006+.0B DerotWait. -/
def derotWait (n : Nat) : Reg := Reg.at (0x4006 + 16 * n) 0x0B 16
/-- 0x4006+.0C StaleLimit. -/
def staleLimit (n : Nat) : Reg := Reg.at (0x4006 + 16 * n) 0x0C 32
/-- 0x4006+.0D GyroLossLimit. -/
def gyroLossLimit (n : Nat) : Reg := Reg.at (0x4006 + 16 * n) 0x0D 32
/-- 0x4006+.0E DerotEnable. -/
def derotEnable (n : Nat) : Reg := Reg.at (0x4006 + 16 * n) 0x0E 8
/-- 0x4007+.01 GridImage. -/
def gridImage (n : Nat) : Reg := Reg.at (0x4007 + 16 * n) 0x01 0
/-- 0x4007+.02 GridStep. -/
def gridStep (n : Nat) : Reg := Reg.at (0x4007 + 16 * n) 0x02 8
/-- 0x4007+.03 GridNodes. -/
def gridNodes (n : Nat) : Reg := Reg.at (0x4007 + 16 * n) 0x03 16
/-- 0x4008+.01 Counters. -/
def streamCounter (n k : Nat) : Reg := Reg.at (0x4008 + 16 * n) (k + 1) 64
/-- 0x4009+.01 StaleAgeNow. -/
def staleAgeNow (n : Nat) : Reg := Reg.at (0x4009 + 16 * n) 0x01 32
/-- 0x4009+.02 StaleAgeMax. -/
def staleAgeMax (n : Nat) : Reg := Reg.at (0x4009 + 16 * n) 0x02 32
/-- 0x4009+.03 LastGyroStamp. -/
def lastGyroStamp (n : Nat) : Reg := Reg.at (0x4009 + 16 * n) 0x03 80
/-- 0x4009+.04 AnchorAngle. -/
def anchorAngle (n : Nat) : Reg := Reg.at (0x4009 + 16 * n) 0x04 32
/-- 0x400A+.01 SpillBytes. -/
def spillBytes (n : Nat) : Reg := Reg.at (0x400A + 16 * n) 0x01 32
/-- 0x400A+.02 SpillAgeLimit. -/
def spillAgeLimit (n : Nat) : Reg := Reg.at (0x400A + 16 * n) 0x02 32
/-- 0x400A+.03 SpillLevel. -/
def spillLevel (n : Nat) : Reg := Reg.at (0x400A + 16 * n) 0x03 32
/-- 0x400A+.04 SpillPeak. -/
def spillPeak (n : Nat) : Reg := Reg.at (0x400A + 16 * n) 0x04 32
/-- 0x400A+.05 QueueLevel. -/
def queueLevel (n : Nat) : Reg := Reg.at (0x400A + 16 * n) 0x05 32
/-- 0x400A+.06 QueueStallLimit. -/
def queueStallLimit (n : Nat) : Reg := Reg.at (0x400A + 16 * n) 0x06 32
/-- 0x4800.01 ProfileVersionCurrent. -/
def profileVersionCurrent : Reg := Reg.at 0x4800 0x01 16
/-- 0x4800.02 ProfileVersionOldest. -/
def profileVersionOldest : Reg := Reg.at 0x4800 0x02 16
/-- 0x4800.03 SpillTraffic. -/
def spillTraffic : Reg := Reg.at 0x4800 0x03 32
/-- 0x4800.04 SpillCap. -/
def spillCap : Reg := Reg.at 0x4800 0x04 32
/-- 0x4800.05 LinkTimeout. -/
def linkTimeout : Reg := Reg.at 0x4800 0x05 32
/-- 0x4810+.01 ProfileVersion. -/
def profileVersion (n : Nat) : Reg := Reg.at (0x4810 + n) 0x01 16
/-- 0x4810+.02 PidMatch. -/
def pidMatch (n : Nat) : Reg := Reg.at (0x4810 + n) 0x02 0
/-- 0x4810+.03 PidMask. -/
def pidMask (n : Nat) : Reg := Reg.at (0x4810 + n) 0x03 0
/-- 0x4810+.04 PixelWidth. -/
def pixelWidth (n : Nat) : Reg := Reg.at (0x4810 + n) 0x04 16
/-- 0x4810+.05 PixelHeight. -/
def pixelHeight (n : Nat) : Reg := Reg.at (0x4810 + n) 0x05 16
/-- 0x4810+.06 WordBits. -/
def wordBits (n : Nat) : Reg := Reg.at (0x4810 + n) 0x06 8
/-- 0x4810+.07 TypeBits. -/
def typeBits (n : Nat) : Reg := Reg.at (0x4810 + n) 0x07 8
/-- 0x4810+.08 TypeLsb. -/
def typeLsb (n : Nat) : Reg := Reg.at (0x4810 + n) 0x08 8
/-- 0x4810+.09 TickPs. -/
def tickPs (n : Nat) : Reg := Reg.at (0x4810 + n) 0x09 32
/-- 0x4810+.0A SensorTimeBits. -/
def sensorTimeBits (n : Nat) : Reg := Reg.at (0x4810 + n) 0x0A 8
/-- 0x4810+.0B SyncMarkType. -/
def syncMarkType (n : Nat) : Reg := Reg.at (0x4810 + n) 0x0B 8
/-- 0x4810+.0C LinkLatency. -/
def linkLatency (n : Nat) : Reg := Reg.at (0x4810 + n) 0x0C 32
/-- 0x4810+.0D SerialRegs. -/
def serialRegs (n : Nat) : Reg := Reg.at (0x4810 + n) 0x0D 0
/-- 0x4810+.0E InitSequence. -/
def initSequence (n : Nat) : Reg := Reg.at (0x4810 + n) 0x0E 0
/-- 0x4810+.0F StartSequence. -/
def startSequence (n : Nat) : Reg := Reg.at (0x4810 + n) 0x0F 0
/-- 0x4810+.10 StopSequence. -/
def stopSequence (n : Nat) : Reg := Reg.at (0x4810 + n) 0x10 0
/-- 0x4810+.11 DecodeTable. -/
def decodeTable (n : Nat) : Reg := Reg.at (0x4810 + n) 0x11 0
/-- 0x4810+.12 ProfileState. -/
def profileState (n : Nat) : Reg := Reg.at (0x4810 + n) 0x12 8
/-- 0x5000.01 MereBlocksFree. -/
def mereBlocksFree (k : Nat) : Reg := Reg.at 0x5000 (k + 1) 16
/-- 0x5001.01 MereLargestFree. -/
def mereLargestFree (k : Nat) : Reg := Reg.at 0x5001 (k + 1) 16
/-- 0x5002.01 MereLoad. -/
def mereLoad (k : Nat) : Reg := Reg.at 0x5002 (k + 1) 16
/-- 0x5003.01 EddyLoad. -/
def eddyLoad (k : Nat) : Reg := Reg.at 0x5003 (k + 1) 16
/-- 0x5004.01 SnapshotShare. -/
def snapshotShare (k : Nat) : Reg := Reg.at 0x5004 (k + 1) 8
/-- 0x5005.01 MereParityErrors. -/
def mereParityErrors (k : Nat) : Reg := Reg.at 0x5005 (k + 1) 32
/-- 0x5006.01 SweepPasses. -/
def sweepPasses (k : Nat) : Reg := Reg.at 0x5006 (k + 1) 32
/-- 0x5007.01 DieWipes. -/
def dieWipes (k : Nat) : Reg := Reg.at 0x5007 (k + 1) 32
/-- 0x5010.01 MereBase. -/
def mereBase (k : Nat) : Reg := Reg.at 0x5010 (k + 1) 16
/-- 0x5011.01 MereBlocks. -/
def mereBlocks (k : Nat) : Reg := Reg.at 0x5011 (k + 1) 16
/-- 0x5012.01 EddyWindow. -/
def eddyWindow (k : Nat) : Reg := Reg.at 0x5012 (k + 1) 32
/-- 0x5013.01 EddyControl. -/
def eddyControl (k : Nat) : Reg := Reg.at 0x5013 (k + 1) 32
/-- 0x5014.01 FlowMinNeighbours. -/
def flowMinNeighbours (k : Nat) : Reg := Reg.at 0x5014 (k + 1) 8
/-- 0x5015.01 FitResidualMax. -/
def fitResidualMax (k : Nat) : Reg := Reg.at 0x5015 (k + 1) 32
/-- 0x5016.01 FlowMaxSpeed. -/
def flowMaxSpeed (k : Nat) : Reg := Reg.at 0x5016 (k + 1) 16
/-- 0x5017.01 CornerMinNeighbours. -/
def cornerMinNeighbours (k : Nat) : Reg := Reg.at 0x5017 (k + 1) 8
/-- 0x5018.01 CornerThreshold. -/
def cornerThreshold (k : Nat) : Reg := Reg.at 0x5018 (k + 1) 16
/-- 0x5019.01 FeatureHoldLimit. -/
def featureHoldLimit (k : Nat) : Reg := Reg.at 0x5019 (k + 1) 16
/-- 0x6400+.01 PopState. -/
def popState (n : Nat) : Reg := Reg.at (0x6400 + n) 0x01 32
/-- 0x6400+.02 Owner. -/
def popOwner (n : Nat) : Reg := Reg.at (0x6400 + n) 0x02 8
/-- 0x6400+.03 PlanPopulation. -/
def planPopulation (n : Nat) : Reg := Reg.at (0x6400 + n) 0x03 16
/-- 0x6400+.04 Width. -/
def popWidth (n : Nat) : Reg := Reg.at (0x6400 + n) 0x04 16
/-- 0x6400+.05 Height. -/
def popHeight (n : Nat) : Reg := Reg.at (0x6400 + n) 0x05 16
/-- 0x6400+.06 Channels. -/
def popChannels (n : Nat) : Reg := Reg.at (0x6400 + n) 0x06 16
/-- 0x6400+.07 TickLength. -/
def tickLength (n : Nat) : Reg := Reg.at (0x6400 + n) 0x07 32
/-- 0x6400+.08 TickOrigin. -/
def tickOrigin (n : Nat) : Reg := Reg.at (0x6400 + n) 0x08 80
/-- 0x6400+.09 HorizonTimeout. -/
def horizonTimeout (n : Nat) : Reg := Reg.at (0x6400 + n) 0x09 32
/-- 0x6400+.0A Threshold. -/
def threshold (n : Nat) : Reg := Reg.at (0x6400 + n) 0x0A 32
/-- 0x6400+.0B LeakMode. -/
def leakMode (n : Nat) : Reg := Reg.at (0x6400 + n) 0x0B 8
/-- 0x6400+.0C LeakParam. -/
def leakParam (n : Nat) : Reg := Reg.at (0x6400 + n) 0x0C 32
/-- 0x6400+.0D ResetMode. -/
def resetMode (n : Nat) : Reg := Reg.at (0x6400 + n) 0x0D 8
/-- 0x6400+.0E Multiplicity. -/
def multiplicity (n : Nat) : Reg := Reg.at (0x6400 + n) 0x0E 8
/-- 0x6400+.0F RefractoryTicks. -/
def refractoryTicks (n : Nat) : Reg := Reg.at (0x6400 + n) 0x0F 8
/-- 0x6400+.10 GateMask. -/
def gateMask (n : Nat) : Reg := Reg.at (0x6400 + n) 0x10 64
/-- 0x6400+.11 CountWindowTicks. -/
def countWindowTicks (n : Nat) : Reg := Reg.at (0x6400 + n) 0x11 16
/-- 0x6400+.12 CountPool. -/
def countPool (n : Nat) : Reg := Reg.at (0x6400 + n) 0x12 8
/-- 0x6400+.13 CountFormat. -/
def countFormat (n : Nat) : Reg := Reg.at (0x6400 + n) 0x13 8
/-- 0x6400+.14 CountWeir. -/
def countWeir (n : Nat) : Reg := Reg.at (0x6400 + n) 0x14 16
/-- 0x6400+.15 CountSnapshot. -/
def countSnapshot (n : Nat) : Reg := Reg.at (0x6400 + n) 0x15 0
/-- 0x6400+.16 LastClosedTick. -/
def lastClosedTick (n : Nat) : Reg := Reg.at (0x6400 + n) 0x16 64
/-- 0x6400+.17 CloseLagMax. -/
def closeLagMax (n : Nat) : Reg := Reg.at (0x6400 + n) 0x17 32
/-- 0x6400+.20 Counters. -/
def popCounter (n k : Nat) : Reg := Reg.at (0x6400 + n) (k + 32) 64
/-- 0x6100.00 PopulationsLoaded. -/
def populationsLoaded : Reg := Reg.at 0x6100 0x00 16
/-- 0x6101.01 RouterSpikeLoad. -/
def routerSpikeLoad (k : Nat) : Reg := Reg.at 0x6101 (k + 1) 16
/-- 0x6102.01 RouterStallMicroseconds. -/
def routerStallMicroseconds (k : Nat) : Reg := Reg.at 0x6102 (k + 1) 64
/-- 0x6200.01 LayersLoaded. -/
def layersLoaded : Reg := Reg.at 0x6200 0x01 16
/-- 0x6201.01 ClusterMode. -/
def clusterMode (k : Nat) : Reg := Reg.at 0x6201 (k + 1) 8
/-- 0x6202.01 BasinLoad. -/
def basinLoad (k : Nat) : Reg := Reg.at 0x6202 (k + 1) 16
/-- 0x6300+.01 LayerState. -/
def layerState (n : Nat) : Reg := Reg.at (0x6300 + n) 0x01 32
/-- 0x6300+.02 Owner. -/
def layerOwner (n : Nat) : Reg := Reg.at (0x6300 + n) 0x02 8
/-- 0x6300+.03 PlanLayer. -/
def planLayer (n : Nat) : Reg := Reg.at (0x6300 + n) 0x03 16
/-- 0x6300+.04 Operator. -/
def layerOperator (n : Nat) : Reg := Reg.at (0x6300 + n) 0x04 8
/-- 0x6300+.05 Mapping. -/
def layerMapping (n : Nat) : Reg := Reg.at (0x6300 + n) 0x05 8
/-- 0x6300+.06 OutWidth. -/
def outWidth (n : Nat) : Reg := Reg.at (0x6300 + n) 0x06 16
/-- 0x6300+.07 OutHeight. -/
def outHeight (n : Nat) : Reg := Reg.at (0x6300 + n) 0x07 16
/-- 0x6300+.08 OutChannels. -/
def outChannels (n : Nat) : Reg := Reg.at (0x6300 + n) 0x08 16
/-- 0x6300+.09 OutFormat. -/
def outFormat (n : Nat) : Reg := Reg.at (0x6300 + n) 0x09 8
/-- 0x6300+.0A Stripes. -/
def layerStripes (n : Nat) : Reg := Reg.at (0x6300 + n) 0x0A 8
/-- 0x6300+.0B CompletionWeir. -/
def completionWeir (n : Nat) : Reg := Reg.at (0x6300 + n) 0x0B 16
/-- 0x6300+.0C RoundingMode. -/
def roundingMode (n : Nat) : Reg := Reg.at (0x6300 + n) 0x0C 8
/-- 0x6300+.0D ActivationTable. -/
def activationTable (n : Nat) : Reg := Reg.at (0x6300 + n) 0x0D 0
/-- 0x6300+.0E BuildSource. -/
def buildSource (n : Nat) : Reg := Reg.at (0x6300 + n) 0x0E 16
/-- 0x6300+.0F BuildWindow. -/
def buildWindow (n : Nat) : Reg := Reg.at (0x6300 + n) 0x0F 32
/-- 0x6300+.10 BuildOrigin. -/
def buildOrigin (n : Nat) : Reg := Reg.at (0x6300 + n) 0x10 80
/-- 0x6300+.11 BuildTimeout. -/
def buildTimeout (n : Nat) : Reg := Reg.at (0x6300 + n) 0x11 32
/-- 0x6300+.12 BuildBins. -/
def buildBins (n : Nat) : Reg := Reg.at (0x6300 + n) 0x12 8
/-- 0x6300+.13 BuildControl. -/
def buildControl (n : Nat) : Reg := Reg.at (0x6300 + n) 0x13 32
/-- 0x6300+.14 SurfaceSpan. -/
def surfaceSpan (n : Nat) : Reg := Reg.at (0x6300 + n) 0x14 32
/-- 0x6300+.18 Counters. -/
def layerCounter (n k : Nat) : Reg := Reg.at (0x6300 + n) (k + 24) 64
/-- 0x6020.01 StochasticSeed. -/
def stochasticSeed (k : Nat) : Reg := Reg.at 0x6020 (k + 1) 64
/-- 0x6021.01 Saturations. -/
def saturations (k : Nat) : Reg := Reg.at 0x6021 (k + 1) 64
/-- 0x6022.01 NaNConversions. -/
def naNConversions (k : Nat) : Reg := Reg.at 0x6022 (k + 1) 64
/-- 0x6023.01 ResidueMismatches. -/
def residueMismatches (k : Nat) : Reg := Reg.at 0x6023 (k + 1) 64
/-- 0x6030.01 ScratchCorrected. -/
def scratchCorrected (k : Nat) : Reg := Reg.at 0x6030 (k + 1) 64
/-- 0x6031.01 ScratchUncorrectable. -/
def scratchUncorrectable (k : Nat) : Reg := Reg.at 0x6031 (k + 1) 64
/-- 0x6032.01 WriteCollisions. -/
def writeCollisions (k : Nat) : Reg := Reg.at 0x6032 (k + 1) 64
/-- 0x6033.01 ReadCollisions. -/
def readCollisions (k : Nat) : Reg := Reg.at 0x6033 (k + 1) 64
/-- 0x6034.01 PortBWaits. -/
def portBWaits (k : Nat) : Reg := Reg.at 0x6034 (k + 1) 64
/-- 0x6035.01 RegionViolations. -/
def regionViolations (k : Nat) : Reg := Reg.at 0x6035 (k + 1) 64
/-- 0x6036.01 MarchControl. -/
def marchControl (k : Nat) : Reg := Reg.at 0x6036 (k + 1) 32
/-- 0x6037.01 MarchStatus. -/
def marchStatus (k : Nat) : Reg := Reg.at 0x6037 (k + 1) 32
/-- 0x6038.01 SluiceCorrected. -/
def sluiceCorrected (k : Nat) : Reg := Reg.at 0x6038 (k + 1) 64
/-- 0x6039.01 SluiceUncorrectable. -/
def sluiceUncorrectable (k : Nat) : Reg := Reg.at 0x6039 (k + 1) 64
/-- 0x603A.01 SluiceDiscardedWords. -/
def sluiceDiscardedWords (k : Nat) : Reg := Reg.at 0x603A (k + 1) 64
/-- 0x603B.01 SluiceFlushes. -/
def sluiceFlushes (k : Nat) : Reg := Reg.at 0x603B (k + 1) 64
/-- 0x6040+.01 SluiceStatus. -/
def sluiceStatus (n k : Nat) : Reg := Reg.at (0x6040 + n) (k + 1) 32
/-- 0x6050.01 BoundaryCorrected. -/
def boundaryCorrected (k : Nat) : Reg := Reg.at 0x6050 (k + 1) 64
/-- 0x6051.01 BoundaryUncorrectable. -/
def boundaryUncorrectable (k : Nat) : Reg := Reg.at 0x6051 (k + 1) 64
/-- 0x6060.01 FerryState. -/
def ferryState (k : Nat) : Reg := Reg.at 0x6060 (k + 1) 32
/-- 0x6061.01 FerryBytes. -/
def ferryBytes (k : Nat) : Reg := Reg.at 0x6061 (k + 1) 64
/-- 0x6062.01 FerryChains. -/
def ferryChains (k : Nat) : Reg := Reg.at 0x6062 (k + 1) 64
/-- 0x6063.01 FerryBusy. -/
def ferryBusy (k : Nat) : Reg := Reg.at 0x6063 (k + 1) 64
/-- 0x6064.01 FerryPoison. -/
def ferryPoison (k : Nat) : Reg := Reg.at 0x6064 (k + 1) 64
/-- 0x6065.01 LostUnitWrites. -/
def lostUnitWrites (k : Nat) : Reg := Reg.at 0x6065 (k + 1) 64
/-- 0x6066.01 FerryErrorDescriptor. -/
def ferryErrorDescriptor (k : Nat) : Reg := Reg.at 0x6066 (k + 1) 64
/-- 0x6080.01 ChannelState. -/
def gddrChannelState (k : Nat) : Reg := Reg.at 0x6080 (k + 1) 32
/-- 0x6081.01 Gddr6Corrected. -/
def gddr6Corrected (k : Nat) : Reg := Reg.at 0x6081 (k + 1) 64
/-- 0x6082.01 Gddr6Uncorrectable. -/
def gddr6Uncorrectable (k : Nat) : Reg := Reg.at 0x6082 (k + 1) 64
/-- 0x6083.01 EdcRetries. -/
def edcRetries (k : Nat) : Reg := Reg.at 0x6083 (k + 1) 64
/-- 0x6084.01 Gddr6Temperature. -/
def gddr6Temperature (k : Nat) : Reg := Reg.at 0x6084 (k + 1) 16
/-- 0x6085.01 RegionRefusals. -/
def regionRefusals (k : Nat) : Reg := Reg.at 0x6085 (k + 1) 64
/-- 0x6090.00 RepairReserve. -/
def repairReserve : Reg := Reg.at 0x6090 0x00 16
/-- 0x6091.01 TenantWeight. -/
def tenantWeight (k : Nat) : Reg := Reg.at 0x6091 (k + 1) 8
/-- 0x6092.01 RegionBase. -/
def regionBase (k : Nat) : Reg := Reg.at 0x6092 (k + 1) 32
/-- 0x6093.01 RegionSize. -/
def regionSize (k : Nat) : Reg := Reg.at 0x6093 (k + 1) 32
/-- 0x6094.01 RegionOwner. -/
def regionOwner (k : Nat) : Reg := Reg.at 0x6094 (k + 1) 8
/-- 0x6095.01 RegionMirrored. -/
def regionMirrored (k : Nat) : Reg := Reg.at 0x6095 (k + 1) 8
/-- 0x6096.01 RegionState. -/
def regionState (k : Nat) : Reg := Reg.at 0x6096 (k + 1) 8
/-- 0x6097.00 Gddr6Load. -/
def gddr6Load : Reg := Reg.at 0x6097 0x00 16
/-- 0x6098.00 ScrubPasses. -/
def scrubPasses : Reg := Reg.at 0x6098 0x00 32
/-- 0x6800.01 WeirBlockOwner. -/
def weirBlockOwner (k : Nat) : Reg := Reg.at 0x6800 (k + 1) 8
/-- 0x6802.01 WeirOpLoad. -/
def weirOpLoad (k : Nat) : Reg := Reg.at 0x6802 (k + 1) 16
/-- 0x6803.01 PendingWaits. -/
def pendingWaits (k : Nat) : Reg := Reg.at 0x6803 (k + 1) 16
/-- 0x6810.00 WeirOp. -/
def weirOp : Reg := Reg.at 0x6810 0x00 0
/-- 0x6811.00 WeirSelect. -/
def weirSelect : Reg := Reg.at 0x6811 0x00 16
/-- 0x6812.00 WeirState. -/
def weirState : Reg := Reg.at 0x6812 0x00 0
/-- 0x6813.00 WeirAction. -/
def weirAction : Reg := Reg.at 0x6813 0x00 0
/-- 0x6010.01 PlanVersionCurrent. -/
def planVersionCurrent : Reg := Reg.at 0x6010 0x01 16
/-- 0x6010.02 PlanVersionOldest. -/
def planVersionOldest : Reg := Reg.at 0x6010 0x02 16
/-- 0x6010.03 StallTimeoutDefault. -/
def stallTimeoutDefault : Reg := Reg.at 0x6010 0x03 32
/-- 0x6000+.01 PlanImage. -/
def planImage (n : Nat) : Reg := Reg.at (0x6000 + n) 0x01 0
/-- 0x6000+.02 PlanCommand. -/
def planCommand (n : Nat) : Reg := Reg.at (0x6000 + n) 0x02 8
/-- 0x6000+.03 PlanState. -/
def planState (n : Nat) : Reg := Reg.at (0x6000 + n) 0x03 8
/-- 0x6000+.04 Owner. -/
def planOwner (n : Nat) : Reg := Reg.at (0x6000 + n) 0x04 8
/-- 0x6000+.05 PlanVersion. -/
def planVersion (n : Nat) : Reg := Reg.at (0x6000 + n) 0x05 16
/-- 0x6000+.06 PlanDigest. -/
def planDigest (n : Nat) : Reg := Reg.at (0x6000 + n) 0x06 0
/-- 0x6000+.07 LastRefusal. -/
def planRefusal (n : Nat) : Reg := Reg.at (0x6000 + n) 0x07 8
/-- 0x6000+.08 PhaseNow. -/
def phaseNow (n : Nat) : Reg := Reg.at (0x6000 + n) 0x08 8
/-- 0x6000+.09 StallTimeout. -/
def stallTimeout (n : Nat) : Reg := Reg.at (0x6000 + n) 0x09 32
/-- 0x6000+.0A PhaseTimeouts. -/
def phaseTimeouts (n : Nat) : Reg := Reg.at (0x6000 + n) 0x0A 32
/-- 0x6000+.0B StallTimeouts. -/
def stallTimeouts (n : Nat) : Reg := Reg.at (0x6000 + n) 0x0B 32
/-- 0x6000+.0C PhaseRequestsReplaced. -/
def phaseRequestsReplaced (n : Nat) : Reg := Reg.at (0x6000 + n) 0x0C 32
/-- 0x5800.01 ReedbedPort. -/
def reedbedPort : Reg := Reg.at 0x5800 0x01 16
/-- 0x5800.02 ReedbedSource. -/
def reedbedSource : Reg := Reg.at 0x5800 0x02 0
/-- 0x5800.03 ChannelsRunning. -/
def channelsRunning : Reg := Reg.at 0x5800 0x03 8
/-- 0x5800.04 DatagramsDiscarded. -/
def datagramsDiscarded : Reg := Reg.at 0x5800 0x04 64
/-- 0x5810.01 SourceSpec. -/
def sourceSpec (k : Nat) : Reg := Reg.at 0x5810 (k + 1) 64
/-- 0x5811.01 InputRate. -/
def inputRate (k : Nat) : Reg := Reg.at 0x5811 (k + 1) 32
/-- 0x5812.01 Decimation. -/
def decimation (k : Nat) : Reg := Reg.at 0x5812 (k + 1) 8
/-- 0x5813.01 ChannelDelay. -/
def channelDelay (k : Nat) : Reg := Reg.at 0x5813 (k + 1) 8
/-- 0x5814.01 Preset. -/
def preset (k : Nat) : Reg := Reg.at 0x5814 (k + 1) 8
/-- 0x5815.01 FadeLength. -/
def fadeLength (k : Nat) : Reg := Reg.at 0x5815 (k + 1) 16
/-- 0x5816.01 PhaseDelay. -/
def phaseDelay (k : Nat) : Reg := Reg.at 0x5816 (k + 1) 16
/-- 0x5817.01 SourceLatency. -/
def sourceLatency (k : Nat) : Reg := Reg.at 0x5817 (k + 1) 32
/-- 0x5818.01 InputShift. -/
def inputShift (k : Nat) : Reg := Reg.at 0x5818 (k + 1) 8
/-- 0x5819.01 FullScale. -/
def fullScale (k : Nat) : Reg := Reg.at 0x5819 (k + 1) 32
/-- 0x581A.01 FastTaps. -/
def fastTaps (k : Nat) : Reg := Reg.at 0x581A (k + 1) 8
/-- 0x581B.01 GapLimit. -/
def gapLimit (k : Nat) : Reg := Reg.at 0x581B (k + 1) 8
/-- 0x581C.01 ChannelCommand. -/
def reedbedCommand (k : Nat) : Reg := Reg.at 0x581C (k + 1) 8
/-- 0x581D.01 ChannelStatus. -/
def reedbedStatus (k : Nat) : Reg := Reg.at 0x581D (k + 1) 32
/-- 0x581E.01 FineLatency. -/
def fineLatency (k : Nat) : Reg := Reg.at 0x581E (k + 1) 32
/-- 0x581F.01 DetectWindow. -/
def detectWindow (k : Nat) : Reg := Reg.at 0x581F (k + 1) 16
/-- 0x5820.01 DetectControl. -/
def detectControl (k : Nat) : Reg := Reg.at 0x5820 (k + 1) 32
/-- 0x5821.01 DetectThreshold. -/
def detectThreshold (k : Nat) : Reg := Reg.at 0x5821 (k + 1) 32
/-- 0x5822.01 Peak. -/
def peak (k : Nat) : Reg := Reg.at 0x5822 (k + 1) 32
/-- 0x5823.01 Rms. -/
def rms (k : Nat) : Reg := Reg.at 0x5823 (k + 1) 32
/-- 0x5824.01 Envelope. -/
def envelope (k : Nat) : Reg := Reg.at 0x5824 (k + 1) 32
/-- 0x5840+.01 SpiClock. -/
def spiClock (n : Nat) : Reg := Reg.at (0x5840 + n) 0x01 32
/-- 0x5840+.02 SpiMode. -/
def spiMode (n : Nat) : Reg := Reg.at (0x5840 + n) 0x02 8
/-- 0x5840+.03 FrameBytes. -/
def frameBytes (n : Nat) : Reg := Reg.at (0x5840 + n) 0x03 8
/-- 0x5840+.04 FrameCommand. -/
def frameCommand (n : Nat) : Reg := Reg.at (0x5840 + n) 0x04 0
/-- 0x5840+.05 SpiTrigger. -/
def spiTrigger (n : Nat) : Reg := Reg.at (0x5840 + n) 0x05 8
/-- 0x5840+.06 FrameRate. -/
def frameRate (n : Nat) : Reg := Reg.at (0x5840 + n) 0x06 32
/-- 0x5840+.07 FramesDone. -/
def framesDone (n : Nat) : Reg := Reg.at (0x5840 + n) 0x07 64
/-- 0x5840+.08 FrameOverruns. -/
def frameOverruns (n : Nat) : Reg := Reg.at (0x5840 + n) 0x08 64
/-- 0x7000.01 FusionOwner. -/
def fusionOwner : Reg := Reg.at 0x7000 0x01 8
/-- 0x7000.02 FusionCommand. -/
def fusionCommand : Reg := Reg.at 0x7000 0x02 8
/-- 0x7000.03 FusionState. -/
def fusionState : Reg := Reg.at 0x7000 0x03 32
/-- 0x7000.04 FusionWindow. -/
def fusionWindow : Reg := Reg.at 0x7000 0x04 32
/-- 0x7000.05 FusionOrigin. -/
def fusionOrigin : Reg := Reg.at 0x7000 0x05 80
/-- 0x7000.06 CloseHoldoff. -/
def closeHoldoff : Reg := Reg.at 0x7000 0x06 32
/-- 0x7000.07 GridControl. -/
def gridControl : Reg := Reg.at 0x7000 0x07 32
/-- 0x7000.08 FeatureInstants. -/
def featureInstants : Reg := Reg.at 0x7000 0x08 8
/-- 0x7000.09 FusedSlots. -/
def fusedSlots : Reg := Reg.at 0x7000 0x09 8
/-- 0x7000.0A FusedChannel. -/
def fusedChannel : Reg := Reg.at 0x7000 0x0A 8
/-- 0x7000.0B FusedWeir. -/
def fusedWeir : Reg := Reg.at 0x7000 0x0B 16
/-- 0x7000.0C EventSlotBase. -/
def eventSlotBase : Reg := Reg.at 0x7000 0x0C 64
/-- 0x7000.0D FeatureSlotBase. -/
def featureSlotBase : Reg := Reg.at 0x7000 0x0D 64
/-- 0x7000.0E InstantNow. -/
def instantNow : Reg := Reg.at 0x7000 0x0E 64
/-- 0x7000.0F GridLoad. -/
def gridLoad : Reg := Reg.at 0x7000 0x0F 16
/-- 0x7000.10 EgoChannels. -/
def egoChannels : Reg := Reg.at 0x7000 0x10 32
/-- 0x7100+.01 SourceKind. -/
def sourceKind (n : Nat) : Reg := Reg.at (0x7100 + n) 0x01 8
/-- 0x7100+.02 SourceRef. -/
def sourceRef (n : Nat) : Reg := Reg.at (0x7100 + n) 0x02 16
/-- 0x7100+.03 SourceStream. -/
def sourceStream (n : Nat) : Reg := Reg.at (0x7100 + n) 0x03 8
/-- 0x7100+.04 SourceOffset. -/
def sourceOffset (n : Nat) : Reg := Reg.at (0x7100 + n) 0x04 32
/-- 0x7100+.05 SourceControl. -/
def sourceControl (n : Nat) : Reg := Reg.at (0x7100 + n) 0x05 32
/-- 0x7100+.06 ReadyWeir. -/
def readyWeir (n : Nat) : Reg := Reg.at (0x7100 + n) 0x06 16
/-- 0x7100+.07 ReleaseWeir. -/
def releaseWeir (n : Nat) : Reg := Reg.at (0x7100 + n) 0x07 16
/-- 0x7100+.08 DeliveryAddress. -/
def deliveryAddress (n : Nat) : Reg := Reg.at (0x7100 + n) 0x08 64
/-- 0x7100+.09 FeatureScale. -/
def featureScale (n : Nat) : Reg := Reg.at (0x7100 + n) 0x09 32
/-- 0x7100+.0A FeatureWeights. -/
def featureWeights (n : Nat) : Reg := Reg.at (0x7100 + n) 0x0A 0
/-- 0x7100+.0B SourceStatus. -/
def sourceStatus (n : Nat) : Reg := Reg.at (0x7100 + n) 0x0B 32
/-- 0x7200+.01 CalibrationImage. -/
def calibrationImage (n : Nat) : Reg := Reg.at (0x7200 + n) 0x01 0
/-- 0x7200+.02 CalibrationState. -/
def calibrationState (n : Nat) : Reg := Reg.at (0x7200 + n) 0x02 8
/-- 0x7200+.03 CalibrationAddress. -/
def calibrationAddress (n : Nat) : Reg := Reg.at (0x7200 + n) 0x03 64
/-- 0x7300.01 FusionStreamState. -/
def fusionStreamState (k : Nat) : Reg := Reg.at 0x7300 (k + 1) 8
/-- 0x7301.01 OffsetEstimate. -/
def offsetEstimate (k : Nat) : Reg := Reg.at 0x7301 (k + 1) 32
/-- 0x7302.01 AdriftEntries. -/
def adriftEntries (k : Nat) : Reg := Reg.at 0x7302 (k + 1) 32
/-- 0x7303.01 ReadmitProgress. -/
def readmitProgress (k : Nat) : Reg := Reg.at 0x7303 (k + 1) 8
/-- 0x7400.01 BuoyControl. -/
def buoyControl : Reg := Reg.at 0x7400 0x01 32
/-- 0x7400.02 GateDistance. -/
def gateDistance : Reg := Reg.at 0x7400 0x02 32
/-- 0x7400.03 Alpha. -/
def alpha : Reg := Reg.at 0x7400 0x03 32
/-- 0x7400.04 Beta. -/
def beta : Reg := Reg.at 0x7400 0x04 32
/-- 0x7400.05 ConfirmHits. -/
def confirmHits : Reg := Reg.at 0x7400 0x05 8
/-- 0x7400.06 MaxMisses. -/
def maxMisses : Reg := Reg.at 0x7400 0x06 8
/-- 0x7400.07 CreateScore. -/
def createScore : Reg := Reg.at 0x7400 0x07 32
/-- 0x7400.08 TrackRange. -/
def trackRange : Reg := Reg.at 0x7400 0x08 32
/-- 0x7400.09 TrackChannel. -/
def trackChannel : Reg := Reg.at 0x7400 0x09 8
/-- 0x7400.0A TrackWeir. -/
def trackWeir : Reg := Reg.at 0x7400 0x0A 16
/-- 0x7400.0B TracksActive. -/
def tracksActive : Reg := Reg.at 0x7400 0x0B 16
/-- 0x7400.0C TrackTable. -/
def trackTable : Reg := Reg.at 0x7400 0x0C 0
/-- 0x7400.0D NextTrackId. -/
def nextTrackId : Reg := Reg.at 0x7400 0x0D 32
/-- 0x1800.01 TenantState. -/
def tenantState (k : Nat) : Reg := Reg.at 0x1800 (k + 1) 8
/-- 0x1801.01 ClusterOwner. -/
def clusterOwner (k : Nat) : Reg := Reg.at 0x1801 (k + 1) 8
/-- 0x1802.01 ChannelOwner. -/
def channelOwner (k : Nat) : Reg := Reg.at 0x1802 (k + 1) 8
/-- 0x1803.01 FaultChannel. -/
def faultChannel (k : Nat) : Reg := Reg.at 0x1803 (k + 1) 8
/-- 0x1804.01 TenantHosts. -/
def tenantHosts (k : Nat) : Reg := Reg.at 0x1804 (k + 1) 8
/-- 0x1810.01 AttachState. -/
def attachState (k : Nat) : Reg := Reg.at 0x1810 (k + 1) 32
/-- 0x1811.01 AttachCommand. -/
def attachCommand (k : Nat) : Reg := Reg.at 0x1811 (k + 1) 8
/-- 0x1812.01 SurpriseWrites. -/
def surpriseWrites (k : Nat) : Reg := Reg.at 0x1812 (k + 1) 64
/-- 0x1813.01 LinkLoad. -/
def linkLoad (k : Nat) : Reg := Reg.at 0x1813 (k + 1) 16
/-- 0x1820.01 Ipv4Address. -/
def ipv4Address (k : Nat) : Reg := Reg.at 0x1820 (k + 1) 32
/-- 0x1821.01 Ipv4Prefix. -/
def ipv4Prefix (k : Nat) : Reg := Reg.at 0x1821 (k + 1) 8
/-- 0x1822.01 SessionState. -/
def sessionState (k : Nat) : Reg := Reg.at 0x1822 (k + 1) 16
/-- 0x1823.00 HeartbeatPeriod. -/
def heartbeatPeriod : Reg := Reg.at 0x1823 0x00 16
/-- 0x1824.01 NotifyPort. -/
def notifyPort (k : Nat) : Reg := Reg.at 0x1824 (k + 1) 16
/-- 0x1825.00 MissedHeartbeatDetaches. -/
def missedHeartbeatDetaches : Reg := Reg.at 0x1825 0x00 32
/-- 0x1830.01 CanNominalRate. -/
def canNominalRate (k : Nat) : Reg := Reg.at 0x1830 (k + 1) 32
/-- 0x1831.01 CanDataRate. -/
def canDataRate (k : Nat) : Reg := Reg.at 0x1831 (k + 1) 32
/-- 0x1832.01 CanNodeId. -/
def canNodeId (k : Nat) : Reg := Reg.at 0x1832 (k + 1) 8
/-- 0x1833.01 CanRights. -/
def canRights (k : Nat) : Reg := Reg.at 0x1833 (k + 1) 8
/-- 0x1834.01 CanBusOff. -/
def canBusOff (k : Nat) : Reg := Reg.at 0x1834 (k + 1) 32
/-- 0x7800.01 OutfallVersionCurrent. -/
def outfallVersionCurrent : Reg := Reg.at 0x7800 0x01 16
/-- 0x7800.02 OutfallVersionOldest. -/
def outfallVersionOldest : Reg := Reg.at 0x7800 0x02 16
/-- 0x7801.01 ChannelPath. -/
def channelPath (k : Nat) : Reg := Reg.at 0x7801 (k + 1) 8
/-- 0x7802.01 RingBase. -/
def ringBase (k : Nat) : Reg := Reg.at 0x7802 (k + 1) 64
/-- 0x7803.01 RingBytes. -/
def ringBytes (k : Nat) : Reg := Reg.at 0x7803 (k + 1) 32
/-- 0x7804.01 ConsumerAddress. -/
def consumerAddress (k : Nat) : Reg := Reg.at 0x7804 (k + 1) 64
/-- 0x7805.01 ProducerAddress. -/
def producerAddress (k : Nat) : Reg := Reg.at 0x7805 (k + 1) 64
/-- 0x7806.01 PollInterval. -/
def pollInterval (k : Nat) : Reg := Reg.at 0x7806 (k + 1) 32
/-- 0x7807.01 Watermark. -/
def watermark (k : Nat) : Reg := Reg.at 0x7807 (k + 1) 32
/-- 0x7808.01 NotifyWeir. -/
def notifyWeir (k : Nat) : Reg := Reg.at 0x7808 (k + 1) 16
/-- 0x7809.01 BatchWords. -/
def batchWords (k : Nat) : Reg := Reg.at 0x7809 (k + 1) 16
/-- 0x780A.01 BatchTime. -/
def batchTime (k : Nat) : Reg := Reg.at 0x780A (k + 1) 32
/-- 0x780B.01 EthConsumerIndex. -/
def ethConsumerIndex (k : Nat) : Reg := Reg.at 0x780B (k + 1) 64
/-- 0x780C.01 SegmentBytes. -/
def segmentBytes (k : Nat) : Reg := Reg.at 0x780C (k + 1) 16
/-- 0x780D.01 ResultPort. -/
def resultPort (k : Nat) : Reg := Reg.at 0x780D (k + 1) 16
/-- 0x780E.01 ChannelCommand. -/
def outfallCommand (k : Nat) : Reg := Reg.at 0x780E (k + 1) 8
/-- 0x780F.01 ChannelStatus. -/
def outfallStatus (k : Nat) : Reg := Reg.at 0x780F (k + 1) 32
/-- 0x7810.01 ProducerIndex. -/
def producerIndex (k : Nat) : Reg := Reg.at 0x7810 (k + 1) 64
/-- 0x7811.01 ConsumerIndexSeen. -/
def consumerIndexSeen (k : Nat) : Reg := Reg.at 0x7811 (k + 1) 64
/-- 0x1000.01 VendorName. -/
def vendorName : Reg := Reg.at 0x1000 0x01 0
/-- 0x1000.02 FamilyName. -/
def familyName : Reg := Reg.at 0x1000 0x02 0
/-- 0x1000.03 ProductName. -/
def productName : Reg := Reg.at 0x1000 0x03 0
/-- 0x1000.04 PartNumber. -/
def partNumber : Reg := Reg.at 0x1000 0x04 0
/-- 0x1000.05 SiliconRevision. -/
def siliconRevision : Reg := Reg.at 0x1000 0x05 8
/-- 0x1000.06 SerialNumber. -/
def serialNumber : Reg := Reg.at 0x1000 0x06 0
/-- 0x1000.07 DeviceId. -/
def deviceId : Reg := Reg.at 0x1000 0x07 0
/-- 0x1001.01 RomVersion. -/
def romVersion : Reg := Reg.at 0x1001 0x01 32
/-- 0x1001.02 WellspringVersion. -/
def wellspringVersion : Reg := Reg.at 0x1001 0x02 32
/-- 0x1001.03 DieManagerVersion. -/
def dieManagerVersion : Reg := Reg.at 0x1001 0x03 32
/-- 0x1001.04 StewardVersion. -/
def stewardVersion : Reg := Reg.at 0x1001 0x04 32
/-- 0x1020.01 SensorProfileCurrent. -/
def ifaceProfileCurrent : Reg := Reg.at 0x1020 0x01 16
/-- 0x1020.02 SensorProfileOldest. -/
def ifaceProfileOldest : Reg := Reg.at 0x1020 0x02 16
/-- 0x1020.03 OmtosCurrent. -/
def omtosCurrent : Reg := Reg.at 0x1020 0x03 16
/-- 0x1020.04 OmtosOldest. -/
def ifaceOmtosOldest : Reg := Reg.at 0x1020 0x04 16
/-- 0x1020.05 PlanImageCurrent. -/
def planImageCurrent : Reg := Reg.at 0x1020 0x05 16
/-- 0x1020.06 PlanImageOldest. -/
def ifacePlanOldest : Reg := Reg.at 0x1020 0x06 16
/-- 0x1020.07 OutfallCurrent. -/
def ifaceOutfallCurrent : Reg := Reg.at 0x1020 0x07 16
/-- 0x1020.08 OutfallOldest. -/
def ifaceOutfallOldest : Reg := Reg.at 0x1020 0x08 16
/-- 0x1020.09 SedimentRecordCurrent. -/
def sedimentRecordCurrent : Reg := Reg.at 0x1020 0x09 16
/-- 0x1020.0A SedimentRecordOldest. -/
def sedimentRecordOldest : Reg := Reg.at 0x1020 0x0A 16
/-- 0x1100.01 OmtosHighest. -/
def offerOmtosHighest : Reg := Reg.at 0x1100 0x01 16
/-- 0x1100.02 OmtosOldest. -/
def offerOmtosOldest : Reg := Reg.at 0x1100 0x02 16
/-- 0x1100.03 OutfallHighest. -/
def offerOutfallHighest : Reg := Reg.at 0x1100 0x03 16
/-- 0x1100.04 OutfallOldest. -/
def offerOutfallOldest : Reg := Reg.at 0x1100 0x04 16
/-- 0x1101.01 OmtosAgreed. -/
def omtosAgreed : Reg := Reg.at 0x1101 0x01 16
/-- 0x1101.02 OutfallAgreed. -/
def outfallAgreed : Reg := Reg.at 0x1101 0x02 16
/-- 0x1101.03 Result. -/
def negotiationResult : Reg := Reg.at 0x1101 0x03 8
/-- 0x9000.01 SecurityState. -/
def securityState : Reg := Reg.at 0x9000 0x01 32
/-- 0x9001.01 FuseSvn. -/
def fuseSvn (k : Nat) : Reg := Reg.at 0x9001 (k + 1) 8
/-- 0x9003.00 RollbackCommit. -/
def rollbackCommit : Reg := Reg.at 0x9003 0x00 8
/-- 0x9011.00 RecoveryImage. -/
def recoveryImage : Reg := Reg.at 0x9011 0x00 0
/-- 0x9020.00 MeasurementLog. -/
def measurementLog : Reg := Reg.at 0x9020 0x00 0
/-- 0x9021.01 MeasurementRegister. -/
def measurementRegister (k : Nat) : Reg := Reg.at 0x9021 (k + 1) 0
/-- 0x9022.01 TenantRegister. -/
def tenantRegister (k : Nat) : Reg := Reg.at 0x9022 (k + 1) 0
/-- 0x9023.00 IdentityCertChain. -/
def identityCertChain : Reg := Reg.at 0x9023 0x00 0
/-- 0x9024.00 IdentityPublicKey. -/
def identityPublicKey : Reg := Reg.at 0x9024 0x00 0
/-- 0x9030.00 AttestNonce. -/
def attestNonce : Reg := Reg.at 0x9030 0x00 0
/-- 0x9031.00 AttestReport. -/
def attestReport : Reg := Reg.at 0x9031 0x00 0
/-- 0x9040.01 ProvisioningKeyDigest. -/
def provisioningKeyDigest (k : Nat) : Reg := Reg.at 0x9040 (k + 1) 0
/-- 0x9041.00 ProvisioningCommand. -/
def provisioningCommand : Reg := Reg.at 0x9041 0x00 8
/-- 0x9042.00 NextProvisioningDigest. -/
def nextProvisioningDigest : Reg := Reg.at 0x9042 0x00 0
/-- 0x9050+.01 TenantHostKeys. -/
def tenantHostKeys (n k : Nat) : Reg := Reg.at (0x9050 + n) (k + 1) 0
/-- 0x9060+.01 SessionIn. -/
def sessionIn (n : Nat) : Reg := Reg.at (0x9060 + n) 0x01 0
/-- 0x9060+.02 SessionOut. -/
def sessionOut (n : Nat) : Reg := Reg.at (0x9060 + n) 0x02 0
/-- 0x9060+.03 SessionStep. -/
def sessionStep (n : Nat) : Reg := Reg.at (0x9060 + n) 0x03 8
/-- 0x9070.00 RekeyCommand. -/
def rekeyCommand : Reg := Reg.at 0x9070 0x00 8
/-- 0x9071.01 KeyEpochNow. -/
def keyEpochNow (k : Nat) : Reg := Reg.at 0x9071 (k + 1) 32
/-- 0x9080.00 DebugNonce. -/
def debugNonce : Reg := Reg.at 0x9080 0x00 0
/-- 0x9081.00 DebugAuthorisation. -/
def debugAuthorisation : Reg := Reg.at 0x9081 0x00 0
/-- 0x9090.01 SecurityCounters. -/
def securityCounter (k : Nat) : Reg := Reg.at 0x9090 (k + 1) 64
/-- 0x2000.01 DomainCommand. -/
def domainCommand (k : Nat) : Reg := Reg.at 0x2000 (k + 1) 8
/-- 0x2001.01 DomainState. -/
def domainState (k : Nat) : Reg := Reg.at 0x2001 (k + 1) 32
/-- 0x2002.01 WakeOnAccess. -/
def wakeOnAccess (k : Nat) : Reg := Reg.at 0x2002 (k + 1) 8
/-- 0x2003.01 PadRelease. -/
def padRelease (k : Nat) : Reg := Reg.at 0x2003 (k + 1) 8
/-- 0x2004.01 WakesOnAccess. -/
def wakesOnAccess (k : Nat) : Reg := Reg.at 0x2004 (k + 1) 64
/-- 0x2005.01 AccessRefused. -/
def accessRefused (k : Nat) : Reg := Reg.at 0x2005 (k + 1) 64
/-- 0x2030.00 AonSaveUsed. -/
def aonSaveUsed : Reg := Reg.at 0x2030 0x00 32
/-- 0x2010+.01 WakeControl. -/
def wakeControl (n : Nat) : Reg := Reg.at (0x2010 + n) 0x01 32
/-- 0x2010+.02 WakeTargets. -/
def wakeTargets (n : Nat) : Reg := Reg.at (0x2010 + n) 0x02 0
/-- 0x2010+.03 WakeStatus. -/
def wakeStatus (n : Nat) : Reg := Reg.at (0x2010 + n) 0x03 32
/-- 0x2010+.04 WakeStuckTime. -/
def wakeStuckTime (n : Nat) : Reg := Reg.at (0x2010 + n) 0x04 32
/-- 0x2010+.05 WakeFloodLimit. -/
def wakeFloodLimit (n : Nat) : Reg := Reg.at (0x2010 + n) 0x05 16
/-- 0x2010+.06 WakesIssued. -/
def wakesIssued (n : Nat) : Reg := Reg.at (0x2010 + n) 0x06 64
/-- 0x2010+.07 EntryWindowEdges. -/
def entryWindowEdges (n : Nat) : Reg := Reg.at (0x2010 + n) 0x07 64
/-- 0x2020.01 RailState. -/
def railState (k : Nat) : Reg := Reg.at 0x2020 (k + 1) 32
/-- 0x2021.01 RailAddress. -/
def railAddress (k : Nat) : Reg := Reg.at 0x2021 (k + 1) 8
/-- 0x2022.01 RailCurrent. -/
def railCurrent (k : Nat) : Reg := Reg.at 0x2022 (k + 1) 32
/-- 0x8000.01 FaultEngineState. -/
def faultEngineState (k : Nat) : Reg := Reg.at 0x8000 (k + 1) 32
/-- 0x8001.01 FaultLog. -/
def faultLog (k : Nat) : Reg := Reg.at 0x8001 (k + 1) 0
/-- 0x8002.00 AlertClear. -/
def alertClear : Reg := Reg.at 0x8002 0x00 8
/-- 0x8004.01 DieCommand. -/
def dieCommand (k : Nat) : Reg := Reg.at 0x8004 (k + 1) 8
/-- 0x8010+.01 FaultCounters. -/
def faultCounter (n k : Nat) : Reg := Reg.at (0x8010 + n) (k + 1) 64
/-- 0x8030.01 ClusterHealth. -/
def clusterHealth (k : Nat) : Reg := Reg.at 0x8030 (k + 1) 32
/-- 0x8031.01 RegionHealth. -/
def regionHealth (k : Nat) : Reg := Reg.at 0x8031 (k + 1) 8
/-- 0x8032.01 LinkHealth. -/
def linkHealth (k : Nat) : Reg := Reg.at 0x8032 (k + 1) 32
/-- 0x8033.01 DieHealth. -/
def dieHealth (k : Nat) : Reg := Reg.at 0x8033 (k + 1) 8
/-- 0x8034.01 SlotRetest. -/
def slotRetest (k : Nat) : Reg := Reg.at 0x8034 (k + 1) 8
/-- 0x8040.01 LinkRetries. -/
def linkRetries (k : Nat) : Reg := Reg.at 0x8040 (k + 1) 64
/-- 0x8041.01 FcsErrors. -/
def fcsErrors (k : Nat) : Reg := Reg.at 0x8041 (k + 1) 64
/-- 0x8042.00 GridUncorrectable. -/
def gridUncorrectable : Reg := Reg.at 0x8042 0x00 64
/-- 0x8800.01 SedimentRecord. -/
def sedimentRecord : Reg := Reg.at 0x8800 0x01 0
/-- 0x8800.02 SedimentState. -/
def sedimentState : Reg := Reg.at 0x8800 0x02 32
/-- 0x8800.03 Epoch. -/
def sedimentEpoch : Reg := Reg.at 0x8800 0x03 32
/-- 0x8800.04 PowerOnHours. -/
def powerOnHours : Reg := Reg.at 0x8800 0x04 32
/-- 0x8800.05 LastCommitTime. -/
def lastCommitTime : Reg := Reg.at 0x8800 0x05 80
/-- 0x8800.06 MramCorrected. -/
def mramCorrected : Reg := Reg.at 0x8800 0x06 64
/-- 0x8800.07 CommitsDone. -/
def commitsDone : Reg := Reg.at 0x8800 0x07 64
/-- 0xA000.01 FreezeControl. -/
def freezeControl : Reg := Reg.at 0xA000 0x01 32
/-- 0xA000.02 FreezeState. -/
def freezeState : Reg := Reg.at 0xA000 0x02 32
/-- 0xA000.03 LastFreezeStart. -/
def lastFreezeStart : Reg := Reg.at 0xA000 0x03 80
/-- 0xA000.04 LastFreezeDuration. -/
def lastFreezeDuration : Reg := Reg.at 0xA000 0x04 64
/-- 0xA000.05 Freezes. -/
def freezes : Reg := Reg.at 0xA000 0x05 32
/-- 0xA000.06 RimDiscards. -/
def rimDiscards : Reg := Reg.at 0xA000 0x06 64
/-- 0x2040.01 DieTemperature. -/
def dieTemperature (k : Nat) : Reg := Reg.at 0x2040 (k + 1) 16
/-- 0x2041.00 ThermalStatus. -/
def thermalStatus : Reg := Reg.at 0x2041 0x00 32
/-- 0x2042.00 StrapValues. -/
def strapValues : Reg := Reg.at 0x2042 0x00 8
/-- 0x5040+.01 eddyCounter. -/
def eddyCounter (n k : Nat) : Reg := Reg.at (0x5040 + n) (k + 1) 64
/-- 0x5880+.01 reedbedCounter. -/
def reedbedCounter (n k : Nat) : Reg := Reg.at (0x5880 + n) (k + 1) 64
/-- 0x1110.01 transportCounter. -/
def transportCounter (k : Nat) : Reg := Reg.at 0x1110 (k + 1) 64
/-- 0x7001.01 confluenceCounter. -/
def confluenceCounter (k : Nat) : Reg := Reg.at 0x7001 (k + 1) 64
/-- 0x7180+.01 sourceCounter. -/
def sourceCounter (n k : Nat) : Reg := Reg.at (0x7180 + n) (k + 1) 64
/-- 0x7401.01 buoyCounter. -/
def buoyCounter (k : Nat) : Reg := Reg.at 0x7401 (k + 1) 64
/-- 0x7840+.01 outfallCounter. -/
def outfallCounter (n k : Nat) : Reg := Reg.at (0x7840 + n) (k + 1) 64

end Obj

end Sys2Proof.Machine
end

