-- ==== Sys2Proof/Machine/Tab.lean ====
section
/-! DEFINITION. A sparse table: entries by number, in one canonical form (keys strictly rising, no entry
equal to what an unlisted key reads as). The dictionary, the weirs, the memories and every other set of
numbered elements are held so: an element at its value of rest is not listed, so equal contents are equal
data. The laws are in Laws/Tab.lean. -/

namespace Sys2Proof.Machine

/-- Entries by number. -/
abbrev Tab (α : Type) := List (Nat × α)

/-- The entry of `k`; `d` where none is listed. -/
def Tab.get {α : Type} (d : α) : Tab α → Nat → α
  | [], _ => d
  | (j, a) :: t, k => if j = k then a else Tab.get d t k

/-- The table without an entry for `k`. -/
def Tab.erase {α : Type} : Tab α → Nat → Tab α
  | [], _ => []
  | (j, a) :: t, k => if j = k then Tab.erase t k else (j, a) :: Tab.erase t k

/-- The table with the entry (k, a) placed in key order. `k` must not be listed. -/
def Tab.insert {α : Type} : Tab α → Nat → α → Tab α
  | [], k, a => [(k, a)]
  | (j, b) :: t, k, a => if k < j then (k, a) :: (j, b) :: t else (j, b) :: Tab.insert t k a

/-- The table with `k` at `a`: an entry equal to the value of rest `d` is dropped. -/
def Tab.put {α : Type} [DecidableEq α] (d : α) (t : Tab α) (k : Nat) (a : α) : Tab α :=
  if a = d then Tab.erase t k else Tab.insert (Tab.erase t k) k a

/-- The table with `f` applied to the entry of `k`. -/
def Tab.upd {α : Type} [DecidableEq α] (d : α) (t : Tab α) (k : Nat) (f : α → α) : Tab α :=
  Tab.put d t k (f (Tab.get d t k))

/-- The keys of a table rise strictly from above `lo`, and no entry is at rest. -/
def Tab.wfFrom {α : Type} [DecidableEq α] (d : α) : Option Nat → Tab α → Bool
  | _, [] => true
  | lo, (j, a) :: t => (match lo with | none => true | some l => decide (l < j)) && decide (a ≠ d) && Tab.wfFrom d (some j) t

/-- The canonical form. -/
def Tab.wf {α : Type} [DecidableEq α] (d : α) (t : Tab α) : Bool := Tab.wfFrom d none t

end Sys2Proof.Machine
end

