-- ==== Sys2Proof/Machine/State.lean ====
section
/-! DEFINITION. The state of the device, as plain data: the object dictionary's registers in one sparse table, what each
unit keeps beyond them, the memories, and the queue of commands that wait. INVENTORY.md lists every piece with the rule
that names it and its reset value. -/

namespace Sys2Proof.Machine

open Sys2Proof


/-! ### Time base (R75 to R117) -/

/-- A trigger beyond its objects (R93 to R98): the number of the next edge, the F40 value it was last converted to, the device
time at which a pulse in progress ends, the level of the pin, and whether it has been armed since PORST_N (R615). -/
structure Trig where
  edge : Nat := 0
  f40 : Nat := 0
  pulseEnd : Option Int := none
  pin : Bool := false
  used : Bool := false
  deriving DecidableEq, Repr

/-- A capture record in an input's FIFO (R105): its stamp, its edge, its flags, its Sequence. -/
structure CapRec where
  stamp : Int
  edge : Nat
  flags : Nat
  seq : Nat
  deriving DecidableEq, Repr

/-- A capture input beyond its objects (R100 to R106): FIFO, next Sequence, CapLost at the last record, the count F of the last
accepted transition, the running time since which the level has held (R103), and the transitions counted in the present 1 ms window and in the quiet windows before it (R104). -/
structure Cap where
  level : Bool := false
  fifo : List CapRec := []
  seq : Nat := 1
  lostSeen : Nat := 0
  lastF : Nat := 0
  restF : Nat := 0
  win : Nat := 0
  count : Nat := 0
  quiet : Nat := 0
  deriving DecidableEq, Repr

/-- A stream's clock map, device = base + (1 + skew) × (sensor − sensorBase), with device times in ns and sensor times in ps
(R112 to R116): whether it has been set, the reference edges not yet paired, the sensor time of the last mark, the last mark
interval in ns, the count F of the last paired mark, and the marks that await pairing with their sensor time and arrival. -/
structure ClockMap where
  set : Bool := false
  base : Rat := 0
  sensorBase : Nat := 0
  skew : Rat := 0
  edges : List Int := []
  lastMark : Option Nat := none
  interval : Rat := 0
  pairF : Option Nat := none
  marks : List (Nat × Int) := []
  deriving DecidableEq, Repr

/-- What made the armed triggers' targets due for conversion again (R93, R97). -/
inductive Reconvert where
  | none | rate | step
  deriving DecidableEq, Repr


/-- A count over aligned 1 ms windows of F (R622): the present window, its count so far, and the window before it. -/
structure Meter where
  win : Nat := 0
  cur : Nat := 0
  prev : Nat := 0
  deriving DecidableEq, Repr


/-- A request that the device holds: since which count F, for which domain (R534; 181 stands for the rim during a freeze,
R589), and the request. -/
structure Held where
  sinceF : Nat
  domain : Nat
  req : Request
  deriving DecidableEq, Repr

/-- A DOMAIN transfer that is open (R474, R475): its requester, its object, whether it writes, the bytes written so far or
the snapshot being read, the offset of the next segment, and the count F of its last segment. -/
structure Transfer where
  q : Requester
  key : Nat
  writing : Bool
  data : List Byte
  next : Nat
  lastF : Nat
  deriving DecidableEq, Repr


/-- A mailbox of a host port (R478, R479): whether a request is in progress, the Tag and the Notify vector of its Issue, and what Status
and the result show: Code, Tag, and the bytes that ResultLength counts; the 16 bytes of the last request's registers, and the data buffer (R478). -/
structure Mailbox where
  busy : Bool := false
  tag : Nat := 0
  notify : Option Nat := none
  code : Nat := 0
  shownTag : Nat := 0
  result : List Byte := []
  regs : List Byte := []
  buffer : List Byte := []
  deriving DecidableEq, Repr


/-! ### Ferries (R306 to R315) -/

/-- A chain start: the ferry, the GDDR6 address of the first descriptor, the chain's tenant (R309), the weir that issued
it (16384 for a phase start), and, of a chain that a failed ferry left, the address of the descriptor to go on at (R315). -/
structure ChainStart where
  ferry : Nat
  addr : Nat
  tenant : Nat
  weir : Nat
  resume : Nat := 0
  deriving DecidableEq, Repr

/-- A ferry: its queued starts, the chain it runs, the address of the descriptor it executes, and whether the wait of that
descriptor has been registered (R312) or refused (R341), and whether a fault has taken the ferry out of service (R315). -/
structure Ferry where
  starts : List ChainStart := []
  cur : Option ChainStart := none
  pc : Nat := 0
  waiting : Bool := false
  refused : Bool := false
  failed : Bool := false
  deriving DecidableEq, Repr


/-! ### Plan slots (R351 to R368) -/

/-- A WEIRMAP entry (R353). -/
structure WeirEntry where
  weir : Nat
  phaseMask : Nat
  target : Nat
  armFlags : Nat
  action : List Byte
  deriving DecidableEq, Repr

/-- A PHASES entry with its continuation entries gathered (R354): starts are pairs of ferry and descriptor index. -/
structure PhaseEntry where
  phase : Nat
  timeout : Nat
  starts : List (Nat × Nat)
  deriving DecidableEq, Repr

/-- An ALTERNATES entry (R355). -/
structure AltEntry where
  cluster : Nat
  alternate : Nat
  phaseMask : Nat
  firstDesc : Nat
  descCount : Nat
  weirCount : Nat
  firstWeir : Nat
  firstPlace : Nat
  placeCount : Nat
  startCount : Nat
  starts : List (Nat × Nat)
  deriving DecidableEq, Repr

/-- A PLACEMENT entry with its window records (R357): windows are triples of master, window and value. -/
structure PlaceEntry where
  phase : Nat
  mode : Nat
  cluster : Nat
  objectSeed : Bool
  steward : Nat
  unitBlob : Nat
  seed : Nat
  windows : List (Nat × Nat × Nat)
  deriving DecidableEq, Repr

/-- A KERNELS entry with its blob (R358). -/
structure Blob where
  kind : Nat
  format : Nat
  bytes : List Byte
  deriving DecidableEq, Repr

/-- A ROUTES entry (R360). -/
structure RouteEntry where
  stream : Nat
  sel : Nat
  kind : Nat
  slot : Nat
  dest : Nat
  phaseMask : Nat
  deriving DecidableEq, Repr

/-- A CHANNELS entry (R363). -/
structure ChannelEntry where
  channel : Nat
  kind : Nat
  sel : Nat
  stream : Nat
  population : Nat
  phaseMask : Nat
  deriving DecidableEq, Repr

/-- A neuron map record (R361). -/
structure NeuronMap where
  cluster : Nat
  unit : Nat
  firstIndex : Nat
  firstNeuron : Nat
  count : Nat
  deriving DecidableEq, Repr

/-- A source slot record (R361). -/
structure SourceSlot where
  slot : Nat
  kind : Nat
  source : Nat
  cluster : Nat
  deriving DecidableEq, Repr

/-- A projection record (R361). -/
structure Projection where
  projection : Nat
  kind : Nat
  inputChannel : Nat
  sourcePop : Nat
  sourceStream : Nat
  sourceSlot : Nat
  k : Nat
  s : Nat
  weightFormat : Nat
  shift : Nat
  inputShift : Nat
  weightBits : Nat
  blob : Nat
  sourceChannels : Nat
  deriving DecidableEq, Repr

/-- A POPULATIONS entry (R361). -/
structure PopEntry where
  number : Nat
  width : Nat
  height : Nat
  channels : Nat
  tickLength : Nat
  tickOrigin : Nat
  threshold : Nat
  leakMode : Nat
  resetMode : Nat
  multiplicity : Nat
  refractory : Nat
  leakParam : Nat
  horizonTimeout : Nat
  gateMask : Nat
  countTicks : Nat
  countPool : Nat
  countFormat : Nat
  countWeir : Nat
  phaseMask : Nat
  map : List NeuronMap
  routes : List (Nat × Nat)
  projections : List Projection
  slots : List SourceSlot
  deriving DecidableEq, Repr

/-- A stripe record (R362). -/
structure Stripe where
  cluster : Nat
  firstRow : Nat
  rows : Nat
  input : Nat
  output : Nat
  deriving DecidableEq, Repr

/-- A halo record (R362). -/
structure Halo where
  consumer : Nat
  producer : Nat
  row : Nat
  position : Nat
  fillWeir : Nat
  freeWeir : Nat
  buffer : Nat
  deriving DecidableEq, Repr

/-- A LAYERS entry (R362). -/
structure LayerEntry where
  number : Nat
  op : Nat
  mapping : Nat
  inC : Nat
  inH : Nat
  inW : Nat
  inFormat : Nat
  outFormat : Nat
  outC : Nat
  kh : Nat
  kw : Nat
  sy : Nat
  sx : Nat
  dy : Nat
  dx : Nat
  groups : Nat
  padMode : Nat
  padT : Nat
  padB : Nat
  padL : Nat
  padR : Nat
  rounding : Nat
  param : Nat
  weightFormat : Nat
  weir : Nat
  weights : Nat
  convert : Nat
  activation : Nat
  phaseMask : Nat
  input : Nat
  input2 : Nat
  output : Nat
  inLayer : Nat
  inLayer2 : Nat
  stripes : List Stripe
  halos : List Halo
  buildSource : Nat
  buildBins : Nat
  buildWindow : Nat
  buildOrigin : Nat
  buildTimeout : Nat
  buildControl : Nat
  surfaceSpan : Nat
  inFormat2 : Nat := 3
  deriving DecidableEq, Repr

/-- A range of GDDR6 that the device has taken in an owner's region (R365, R330, R331, R405): for what (plan slot p as p, stream
n's spill ring as 64 + n, the calibration table of stream n as 128 + n, fused slots as 192, feature slots as 193), its
address and its bytes, as the owner addresses them. -/
structure Alloc where
  tag : Nat
  addr : Nat
  bytes : Nat
  deriving DecidableEq, Repr

/-- A plan slot beyond its objects (R351 to R368): the tables of the loaded image, those of WEIRMAP and PLACEMENT whole and as they are in force
(without the replacement entries of alternates not taken, R355); the address of its CHAINS section, and the weirs and clusters its descriptors
name; while it loads, where the parts of the image go, as offset in the image, bytes and address (R365); the handles of its populations and
layers (R182, R244), in the order of their entries; EntryPhase; when the running phase started; whether it stops into FAULTED;
1 + the phase that has begun to start (R367, step 1) and waits for its clusters, 0 for none; and the alternates taken (R355). -/
structure PlanSlot where
  weirs : List WeirEntry := []
  allWeirs : List WeirEntry := []
  phases : List PhaseEntry := []
  alternates : List AltEntry := []
  places : List PlaceEntry := []
  allPlaces : List PlaceEntry := []
  blobs : List Blob := []
  routes : List RouteEntry := []
  channels : List ChannelEntry := []
  stalls : List (Nat × Nat) := []
  pops : List PopEntry := []
  layers : List LayerEntry := []
  descriptors : Nat := 0
  chainsBase : Nat := 0
  chainWeirs : List Nat := []
  chainClusters : List Nat := []
  parts : List (Nat × Nat × Nat) := []
  popHandles : List Nat := []
  layerHandles : List Nat := []
  entry : Nat := 0
  phaseF : Nat := 0
  faulting : Bool := false
  starting : Nat := 0
  taken : List Nat := []
  deriving DecidableEq, Repr


/-! ### Populations and layers (R181 to R246) -/

/-- An input held in a future buffer (R191): its tick and the word that brought it. -/
structure FutureInput where
  tick : Int
  slot : Nat
  word : Nat
  second : Nat
  poisoned : Bool
  deriving DecidableEq, Repr

/-- An input that waits for units that do not work (R198): the units, and whether it has been counted as late. -/
structure WaitingInput where
  input : FutureInput
  units : List Nat
  late : Bool := false
  deriving DecidableEq, Repr

/-- A population on one cluster (R186 to R193): its open tick, the horizons of its source slots, its future buffer, the closes
of the present count window, whether that window passed over ticks, the count windows it has completed and whether the last of them was
skipped over, whether a step or a re-basing of device time is still to be followed (R192), the inputs that wait for units (R198), and the ticks
closed here, from the last that every cluster has closed on (R213). -/
structure PopCluster where
  cluster : Nat
  tick : Int := 0
  horizons : List (Nat × Int) := []
  future : List FutureInput := []
  closes : Nat := 0
  skipped : Bool := false
  windows : Nat := 0
  mapSkipped : Bool := false
  stepped : Bool := false
  waiting : List WaitingInput := []
  closed : List Int := []
  deriving DecidableEq, Repr

/-- The shape of a count map (R210): channels, rows, columns and number format. -/
structure CountShape where
  channels : Nat
  height : Nat
  width : Nat
  format : Nat
  deriving DecidableEq, Repr

/-- A population with a handle (R182): its plan slot, its entry there, its clusters, the count maps completed since the phase start, and the shape of
the last one, which stays readable (R209, R211). -/
structure Pop where
  slot : Nat := 0
  entry : Nat := 0
  clusters : List PopCluster := []
  maps : Nat := 0
  map : Option CountShape := none
  deriving DecidableEq, Repr

/-- A tile or group in progress (R217, R238): its unit, its stripe, its number in the stripe's raster order. -/
structure Tile where
  cluster : Nat
  unit : Nat
  stripe : Nat
  tile : Nat
  deriving DecidableEq, Repr

/-- A builder's windows (R228 to R233): the open window (for BUILD_COUNT, the count maps copied), how many windows have closed and
been kept since the phase start (window n lies in buffer n mod 2), by how many layers each of its two buffers is still to be read, and
whether the open window is being skipped; the BuildTimeout and the SurfaceSpan of the open window (R244). -/
structure Build where
  window : Int := 0
  closed : Nat := 0
  held0 : Nat := 0
  held1 : Nat := 0
  skipping : Bool := false
  timeout : Nat := 0
  span : Nat := 0
  deriving DecidableEq, Repr

/-- A unit, cluster × 16 + logical unit, that stands idle because every tile in its window is held on a fill weir (R246): the weir, the count F since
which its steward core waits there, and the limit of that wait in ns, 0 for none (R240, R367). -/
structure HaloWait where
  unit : Nat
  weir : Nat
  sinceF : Nat
  limit : Nat
  deriving DecidableEq, Repr

/-- A basin layer with a handle (R244): its plan slot, its entry there, its tiles in progress, the tiles drained in the present
run as stripe × 2²⁰ + tile, the runs it has completed since the phase start, whether the present run has started, the rounding mode and
the activation table of that run (R223, R244), a builder's windows, the units that wait at fill weirs with the count F to which their waiting
has been counted and the ns beyond whole microseconds (R246), and the ns beyond whole microseconds of GddrStallMicroseconds. -/
structure Layer where
  slot : Nat := 0
  entry : Nat := 0
  tiles : List Tile := []
  drained : List Nat := []
  runs : Nat := 0
  started : Bool := false
  rounding : Nat := 0
  table : List Byte := []
  build : Build := {}
  halo : List HaloWait := []
  haloF : Nat := 0
  haloNs : Nat := 0
  gddrNs : Nat := 0
  deriving DecidableEq, Repr


/-! ### Sediment (R577 to R585) -/

/-- An accumulator of the recorder (R584): the U32 counts, by their byte offset in the record of R582, and the extremes with the
PowerOnSeconds at which each was reached, by the same offset (R581). -/
structure Sed where
  counts : Tab Nat := []
  extremes : Tab (Option (Int × Nat)) := []
  deriving DecidableEq, Repr



/-! ### Elements, faults and what leaves the device -/

/-- The elements a detector can name (R551, R553). -/
inductive Elem where
  | unit (g : Nat)
  | cluster (c : Nat)
  | clusterSluice (c k : Nat)
  | region (r : Nat)
  | die (d : Nat)
  | link (l : Nat)
  | boundarySluice (l k : Nat)
  | lane (l n : Nat)
  | gddrChannel (ch : Nat)
  | ferry (f : Nat)
  | mereBank (d b : Nat)
  | eddy (d : Nat)
  | rail (r : Nat)
  | timeBase
  | hostPort (h : Nat)
  | master (kind number : Nat)
  deriving DecidableEq, Repr

/-- How far the handling of a fault entry has come (R556). -/
inductive FaultPhase where
  | queued
  | taken
  | isolated
  deriving DecidableEq, Repr

/-- A fault-queue entry (R553). `interruption` is 0xFFFF_FFFF while pending or not applicable; `takenF` is the count F
at which its handler took it. -/
structure FaultEntry where
  seq : Nat
  cls : Nat
  elem : Elem
  detail : Nat
  time : Int
  merged : Nat := 0
  outcome : Nat := 0
  interruption : Nat := 0xFFFFFFFF
  phase : FaultPhase := .queued
  detectF : Nat := 0
  takenF : Nat := 0
  resume : Int := 0
  owner : Nat := 0xFF
  deriving DecidableEq, Repr

/-- One of the six fault queues (R552): the entries held, oldest first (the one being handled stays first until its
outcome), and the last 64 entries taken (R573). -/
structure FaultQueue where
  entries : List FaultEntry := []
  log : List FaultEntry := []
  nextSeq : Nat := 1
  deriving DecidableEq, Repr

/-- What the device sends to the outside in the course of one command. -/
inductive Out where
  /-- the answer to a dictionary request: its status code (R468) and its data -/
  | response (q : Requester) (status : Nat) (data : List Byte)
  /-- a posted write into host memory through host port `port` -/
  | hostWrite (port addr : Nat) (data : List Byte) (poisoned : Bool)
  /-- what a PCIe memory read through host port `port` returns (R347, R478) -/
  | completion (port : Nat) (data : List Byte)
  /-- a read of host memory that the device issues -/
  | hostRead (port addr bytes : Nat)
  /-- an MSI-X message -/
  | msix (port vector : Nat)
  /-- a datagram to the host of Ethernet session `session`, to UDP port `udp` -/
  | datagram (session udp : Nat) (data : List Byte)
  /-- a UDP datagram sent from 25 GbE port `port` to address `ip`, UDP port `udp` -/
  | udp (port ip udp : Nat) (data : List Byte)
  /-- a frame sent on 25 GbE port `port` -/
  | frame (port : Nat) (data : List Byte)
  /-- an I3C transfer at sensor port `port`: 1 SETDASA, 2 ENTDAA, 3 identity read, 4 register read, 5 private
  write, 6 acknowledge of an in-band interrupt or a Hot-Join -/
  | i3c (port op address : Nat) (data : List Byte)
  /-- an AVSBus command: rail and millivolts -/
  | avs (rail mv : Nat)
  /-- a PMBus OPERATION command: rail, on or off -/
  | pmbus (rail : Nat) (on : Bool)
  /-- AER Uncorrectable Internal Error on a host port (R558) -/
  | aer (port : Nat)
  /-- an IEEE 1588 message that the transparent clock forwards to port `port` of the switch core (R108) -/
  | ptp (port : Nat) (m : PtpMessage)
  /-- an SPI frame started on controller `k`: the bytes sent -/
  | spi (k : Nat) (data : List Byte)
  /-- what a scratchpad read gives its master (R274, R278, R283): cluster, master, data, Poison, Busy, AccessError -/
  | padData (c master data : Nat) (poisoned busy accessError : Bool)
  /-- what a read of a sluice gives its reader (R296, R300): the sluice's number, the 64 data bits, the tag's bits [8:0], Valid, Poison -/
  | sluiceData (key data tag : Nat) (valid poisoned : Bool)
  /-- a word shifted out of the debug TAP (R592) -/
  | tap (word : Nat)
  deriving DecidableEq, Repr

/-! ### Weirs (R338, R345) -/

/-- A weir's state record and action record. Its owner is its block's (R350). -/
structure Weir where
  count : Nat := 0
  base : Nat := 0
  target : Nat := 0
  armed : Bool := false
  rearm : Bool := false
  reached : Bool := false
  empty : Bool := false
  held : Bool := false
  lost : Bool := false
  actionKind : Nat := 0
  refusals : Nat := 0
  action : List Byte := []
  deriving DecidableEq, Repr

/-- Who waits on a weir: steward cores and ferries (R344). -/
inductive Waiter where
  | steward (cluster : Nat)
  | ferry (f : Nat)
  deriving DecidableEq, Repr

/-- A WAIT that has not completed: its weir, its value, its waiter, the count F at which it was issued, whether the
weir's die has taken it into its 2,048 or holds it at the requester (R344), and the stall limit that held when it began, in ns, 0 without one (R367, R369). -/
structure PendingWait where
  weir : Nat
  value : Nat
  waiter : Waiter
  sinceF : Nat
  registered : Bool
  limit : Nat := 0
  deriving DecidableEq, Repr


/-! ### Sessions, host ports and Outfall channels -/

/-- What one session keeps: a host port (0 to 3), an Omtos session slot (4, 5), a CAN FD controller (6, 7) or an Omtos
source without a session (8 and up). Versions, keys and the objects kept per session (R348, R487, R508, R511). -/
structure Session where
  bound : Bool := false
  recordKey : List Byte := []
  firstKey : List Byte := []
  requestKey : List Byte := []
  linkKey : List Byte := []
  nextLinkKey : List Byte := []
  keyEpoch : Nat := 0
  linkEpoch : Nat := 0
  secret : List Byte := []
  omtosVersion : Nat := 0x0100
  outfallVersion : Nat := 0x0100
  offer : List Nat := [0x0100, 0x0100, 0x0100, 0x0100]
  result : List Nat := [0, 0, 0]
  weirSelect : Nat := 0
  attestNonce : List Byte := zeros 32
  notifySeq : Nat := 1
  sessionId : Nat := 0
  highSeq : Nat := 0
  executed : List (Nat × List Byte) := []
  lastBeatF : Nat := 0
  curSeq : Nat := 0
  hostIp : Nat := 0
  hostUdp : Nat := 0
  ethPort : Nat := 0
  custodian : Bool := false
  deriving DecidableEq, Repr

/-- The record key that a record is formed under (R511): the first key of its session, which names the session, and the key and the epoch in force. -/
structure RecordKey where
  first : List Byte := []
  key : List Byte := []
  epoch : Nat := 0
  deriving DecidableEq, Repr

/-- A record on its way to a ring: type, Sequence, payload, formed at, its length, the key it is formed under. -/
structure Rec where
  type : Nat
  seq : Nat
  payload : List Byte
  time : Int
  length : Nat
  key : RecordKey
  deriving DecidableEq, Repr

/-- An EVENTS or SPIKES record being filled: the record type, its source (a route or a population), its words and the
count F of its first word (R451). -/
structure Batch where
  type : Nat
  source : Nat
  words : List Nat
  firstF : Nat
  poisoned : Bool
  deriving DecidableEq, Repr

/-- A payload handed to a channel and not yet formed into a record (R446, R451): its type, its bytes, whether a word of it
carries Poison (R564). -/
structure Ready where
  type : Nat
  payload : List Byte
  poisoned : Bool := false
  deriving DecidableEq, Repr

/-- An Outfall channel beyond its dictionary objects (R444 to R455). `nextSeq` is the Sequence of the next record formed,
`expectSeq` the one after the last delivered. -/
structure Chan where
  ready : List Ready := []
  queue : List Rec := []
  batches : List Batch := []
  nextSeq : Nat := 0
  expectSeq : Nat := 0
  resumed : Bool := false
  consumer : Nat := 0
  reading : Bool := false
  wantRead : Bool := false
  lastReadF : Nat := 0
  lastPollF : Nat := 0
  stallF : Nat := 0
  pauseF : Nat := 0
  lastDropF : Nat := 0
  dropped : Bool := false
  deriving DecidableEq, Repr



/-! ### The fault engines (R548 to R576) -/



/-! ### Inlet (R118 to R155) -/

/-- A gyro sample received and not yet applied (R143): its stamp and the three rates, binary32. -/
structure GyroSample where
  stamp : Int
  x : Nat
  y : Nat
  z : Nat
  deriving DecidableEq, Repr

/-- An entry of a stream's hot list (R138). -/
structure HotEntry where
  x : Nat
  y : Nat
  auto : Bool
  deriving DecidableEq, Repr

/-- A stream's front end beyond its objects (R118 to R153): the decode registers Tr, Y, Xb, P, the epoch of Tr and the last sensor time formed (R134, R135);
the device time of the last event (R136); the hot list, the candidate table as pairs of pixel and count, and the window
it counts (R138); the flood window with its count, whether it has dropped and whether the window before it did (R139); events lost since the last GAP and
the window of that GAP, those lost as words were read back counted apart (R148); the Inlet queue, the time its head has waited from, the spill ring, its
place and room in words, the place in it of its oldest word and the places whose words carry Poison (R149 to R151, R330); the quaternion as four binary32 numbers w, x, y, z, the samples on
their way, those received and not yet applied, the latest stamp received, tg, why de-rotation is off, and whether a DEROT_ON is owed (R143 to R146); the words its home die's sluice holds and when it last took
one (R152); the sequence of the last flow datagram (R123); the identity as read (R126), whether an I3C transfer is
outstanding, since when, and how many went unanswered running (R125, R129); the last link activity; where the drain ends
(R129); the causes of the SURFACE_WIPED markers still owed, oldest first (R162); whether the last de-rotation marker that passed the Eddy slice was
DEROT_OFF (R175); since when the word at the head of its sluice has waited, and how long its words have waited there for the banks, in ns (R180); and
the pixels of its last 63 events, newest first, which may be in flight (R168, R177). -/
structure Stream where
  tr : Nat := 0
  epoch : Nat := 0
  trSeen : Nat := 0
  y : Nat := 0
  xb : Nat := 0
  pol : Nat := 0
  lastT : Option Int := none
  hot : List HotEntry := []
  cand : List (Nat × Nat) := []
  hotWin : Int := 0
  floodWin : Int := 0
  floodCount : Nat := 0
  floodNow : Bool := false
  floodLast : Bool := false
  lost : Nat := 0
  lostBack : Nat := 0
  gapWin : Option Int := none
  queue : List Nat := []
  headF : Nat := 0
  ring : List Nat := []
  ringBase : Nat := 0
  ringWords : Nat := 0
  ringAt : Nat := 0
  ringBad : List Nat := []
  dropF : Option Nat := none
  quat : Nat × Nat × Nat × Nat := (0x3F800000, 0, 0, 0)
  gyroIn : List GyroSample := []
  gyro : List GyroSample := []
  gyroSeen : Option Int := none
  tg : Option Int := none
  derotOff : Nat := 0
  onMark : Bool := false
  sluice : List Nat := []
  takenF : Nat := 0
  flowSeq : Option Nat := none
  identity : List Byte := []
  i3cOut : Bool := false
  i3cF : Nat := 0
  i3cMissed : Nat := 0
  activeF : Nat := 0
  drainEmpty : Bool := false
  wiped : List Nat := []
  sliceOff : Bool := false
  servedF : Nat := 0
  heldNs : Nat := 0
  recent : List (Nat × Nat) := []
  deriving DecidableEq, Repr


/-! ### Mere and Eddy (R156 to R180) -/

/-- Where a word of a route or of a routing table goes (R360, R203): source slot `slot` of population `h` on a cluster, a builder,
or Confluence, for a word of stream `ref` (kind 1) or of population `ref` (kind 2, R398). -/
inductive Dest where
  | population (h cluster slot : Nat)
  | builder (layer : Nat)
  | fusion (kind ref : Nat)
  deriving DecidableEq, Repr

/-- A word on its way from an Eddy slice or a population to its consumer (R176, R203). `route` is plan slot × 65,536 + the entry
of ROUTES for a stream word; a feature record has its word 1 in `second`. -/
structure Transit where
  dest : Dest
  route : Nat
  word : Nat
  second : Nat := 0
  poisoned : Bool := false
  deriving DecidableEq, Repr

/-- A route's acceptance (R176): the count F of the last word it accepted, and whether words for it are being dropped. -/
structure RouteHold where
  acceptF : Nat := 0
  dropping : Bool := false
  deriving DecidableEq, Repr


/-! ### Scratchpads and sluices (R272 to R305) -/

/-- An entry of a sluice (R292): its word, ValidBytes, Last, TagParity as stored, and Poison. -/
structure SluiceWord where
  data : Nat
  valid : Nat
  last : Bool
  parity : Bool
  poisoned : Bool := false
  deriving DecidableEq, Repr

/-- A sluice (R292 to R301): the committed words, of which the first `taken` have been read and not released; the words of the
open packet; the partly packed word and the byte at which its next item may start; whether the writer's words are being
discarded and why words were last discarded; a waiting read that is held, with what the check of its word will show; and the rate of uncorrectable reads, as 1 + window and
count, over 1 ms and over 1 s (R551). -/
structure Sluice where
  words : List SluiceWord := []
  taken : Nat := 0
  opened : List SluiceWord := []
  part : Option (Nat × Nat × Nat) := none
  discarding : Bool := false
  reason : Nat := 0
  readWaits : Option (Check × Bool) := none
  badMs : Nat × Nat := (0, 0)
  badS : Nat × Nat := (0, 0)
  deriving DecidableEq, Repr

/-- A march pass that runs on a cluster (R287 to R291, R567): as MarchControl asked, and whether it is a retest (R568). -/
structure March where
  control : Nat
  retest : Bool := false
  deriving DecidableEq, Repr



/-! ### Power domains (R522 to R547) -/

/-- A power domain beyond DomainState (R525, R530 to R534): the state an entry leads to, the state a wake began from, whether a wake input
fired during the entry, the count of the entry's sequence point, whether a first access woke the domain, and the data-path accesses that wait for
the entry to end (R530): on whose behalf, whether a write, the master's kind and number, 1 + the kind, 0 for a read of the weir window, and the address. -/
structure Domain where
  target : Nat := 0
  source : Nat := 0
  wakeAfter : Bool := false
  entryF : Nat := 0
  byAccess : Bool := false
  waiters : List (Accessor × Bool × Nat × Nat × Nat) := []
  deriving DecidableEq, Repr


/-- A wake input beyond its objects (R540, R541): the AON count at which its present assertion began, the AON second that it counts wakes in,
and the wakes issued in it. -/
structure WakeIn where
  sinceAon : Nat := 0
  second : Nat := 0
  count : Nat := 0
  deriving DecidableEq, Repr


/-! ### Pace and rails (R57 to R68, R542 to R544) -/

/-- The governor and the VDD_CORE rail of a compute die beyond their objects (R64, R65, R67): the present voltage in mV, 1 + the running time
at which a change began, a code held as PENDING, the last code accepted beside it, the running time of the last throttle step, the
writes that wait for the first Tj reading, whether a write asked for the change, and the 1 ms window in which the pace was last published. -/
structure Pace where
  volt : Nat := 750
  changeF : Nat := 0
  pending : Nat := 0
  code : Nat := 64
  stepF : Nat := 0
  waiting : List Request := []
  asked : Bool := false
  measWin : Nat := 0
  deriving DecidableEq, Repr

/-- A rail beyond its objects (R542, R544): the running time at which it was turned on, and whether its last reading was out of tolerance. -/
structure Rail where
  onF : Nat := 0
  onAon : Nat := 0
  bad : Bool := false
  deriving DecidableEq, Repr


/-! ### Wellspring (R489 to R521) -/

/-- A session exchange that is not complete (R506 to R508): its HELLO, the CHALLENGE sent, the number of the key-pair draw, when the CHALLENGE
was ready. -/
structure Exchange where
  hello : List Byte := []
  challenge : List Byte := []
  draw : Nat := 0
  readyF : Nat := 0
  slot : Nat := 2
  deriving DecidableEq, Repr


/-! ### Reedbed (R370 to R391) -/

/-- A Reedbed channel beyond its objects (R375 to R387): the history, newest first, as Q1.23 values with whether each is a fill; the samples
since FILLING began and since the last output; the last stamp, when there is one to order by; fills in a row; the 100 ms window and the samples in
it; the last fast output; fade outputs made; the detectors' window, its largest value and sum of squares, and its count. -/
structure Reed where
  hist : List (Int × Bool) := []
  filled : Nat := 0
  since : Nat := 0
  stamp : Option Rat := none
  fills : Nat := 0
  win : Int := 0
  inWin : Nat := 0
  fast : Option Nat := none
  fadeK : Nat := 0
  peakNow : Nat := 0
  squares : Nat := 0
  seen : Nat := 0
  deriving DecidableEq, Repr

/-- An SPI controller (R371): the stamp of the frame that runs, and the count F of the capture transition that started the last one. -/
structure Spi where
  frame : Option Int := none
  usedF : Nat := 0
  deriving DecidableEq, Repr

/-- A fine output on its way to Confluence (R388). -/
structure FineRec where
  channel : Nat
  flags : Nat
  value : Int
  stamp : Int
  deriving DecidableEq, Repr



/-! ### Confluence and Buoy (R392 to R428) -/

/-- A detection held for its instant (R419): its class, x, y, length, width, heading and score, binary32. -/
structure Detect where
  cls : Nat
  x : Nat
  y : Nat
  len : Nat
  wid : Nat
  heading : Nat
  score : Nat
  deriving DecidableEq, Repr

/-- An open instant (R401 to R404): its index, its event set, the hold-off in µs taken when it opened, the inputs counted late against it and
applied to it, the streams that contributed, whether it holds carried inputs, its detections, and its ego records as pairs of ego channel
and value. -/
structure Instant where
  k : Int
  set : Nat
  hold : Nat := 150
  late : Nat := 0
  applied : Nat := 0
  contrib : Nat := 0
  carried : Bool := false
  dets : List Detect := []
  ego : List (Nat × Nat) := []
  deriving DecidableEq, Repr

/-- A closed instant or feature instant on its way to its slot (R405, R407): its index, its event set, its record's flags, counts and masks. -/
structure Draining where
  k : Int
  set : Nat
  flags : Nat
  late : Nat
  applied : Nat
  contrib : Nat
  adrift : Nat
  deriving DecidableEq, Repr

/-- What the deliveries of an open feature instant come to (R406, R407). -/
structure FeatureSum where
  j : Int
  late : Nat := 0
  applied : Nat := 0
  contrib : Nat := 0
  carried : Bool := false
  deriving DecidableEq, Repr

/-- A track (R418, R422, R423): its slot, identifier, state, class, position, speed, size, heading and score as binary32, hits, misses, age in
instants, and the closes since its last hit. -/
structure Track where
  slot : Nat
  id : Nat
  state : Nat
  cls : Nat
  x : Nat
  y : Nat
  vx : Nat
  vy : Nat
  len : Nat
  wid : Nat
  heading : Nat
  score : Nat
  hits : Nat
  misses : Nat
  age : Nat
  gap : Nat
  deriving DecidableEq, Repr

/-- Confluence and Buoy beyond their objects: the open instants, lowest first; the instant that drains; the feature instants open and the one being
converted; the grid store, set × 2²² + cell, with the panorama from 0 and the ground grid from 2²¹ (R405); the spikes held, as slot, route and word
(R408); ego records whose instant is not open, as ego channel, instant and value, and each ego channel's last value (R411); by slot the deliveries
taken (R409); and the tracks in slot order. -/
structure Fusion where
  opened : List Instant := []
  drains : List Draining := []
  sums : List FeatureSum := []
  jobs : List Draining := []
  grids : Tab Nat := []
  spikes : List (Nat × Nat × Nat) := []
  egoWait : List (Nat × Int × Nat) := []
  egoLast : Tab Nat := []
  taken : Tab Nat := []
  tracks : List Track := []
  deriving DecidableEq, Repr


/-! ### The whole -/

/-- The device beyond its two addressed memories: every register and every other piece of state the spec names. -/
structure Dev where
  /-- the scalar objects of the dictionary: key index × 256 + subindex, the bits as a number (R460, R462) -/
  dict : Tab Nat := []
  /-- the OCTETS, VSTRING and DOMAIN objects, by the same key -/
  blobs : Tab (List Byte) := []
  /-- what left the device in the course of the latest command (notes/assumptions/3) -/
  out : List Out := []
  /-- the number of open values drawn so far: the model's own field (notes/assumptions/10) -/
  free : Nat := 0
  /-- the counter F (R75) -/
  f : Nat := 0
  /-- the AON counter (R87, R89); it has no reset value in the spec (notes/assumptions/4) -/
  aon : Nat := 0
  /-- time since the last AON edge, in 1/512 ns (R88) -/
  aonPhase : Nat := 0
  /-- F0 in AON retention memory (R88) -/
  f0 : Nat := 0
  /-- A0 in AON retention memory (R88) -/
  a0 : Nat := 0
  /-- the sticky Unbridged bit in AON retention memory (R92) -/
  unbridged : Bool := false
  /-- sleep entry waits for the next AON edge (R88) -/
  entryWait : Bool := false
  /-- the clocked domain has stopped, and F with it (R88) -/
  stopped : Bool := false
  /-- the count F at which holdover began (R86) -/
  holdoverF : Nat := 0
  /-- the first whole 1 s comparison window begins here (R87) -/
  cmpFromF : Nat := 0
  /-- consecutive measurements within ±100 ns (R84) -/
  lockRun : Nat := 0
  /-- the triggers TRIG0 to TRIG15 -/
  trigs : Tab Trig := []
  /-- the capture inputs CAP0 to CAP7 -/
  caps : Tab Cap := []
  /-- the streams' clock maps (R112) -/
  clocks : Tab ClockMap := []
  /-- the armed targets wait to be converted again (R93) -/
  reconvert : Reconvert := .none
  /-- event messages whose residence time awaits its Follow_Up or Delay_Resp (R108): ((kind × 4 + egress) × 2⁶⁴ + clockIdentity) × 2¹⁶ + number -/
  residence : Tab Nat := []
  /-- the time transmitter that the ordinary clock follows: its clockIdentity and what it announced (R107) -/
  ptpParent : Option (BitVec 64 × PtpRank) := none
  /-- by die: the open value from which its copy of F takes its difference, by number, since its path was last calibrated (R79) -/
  skewDraws : Tab Nat := []
  /-- what the load objects count over 1 ms windows, by the load object's key -/
  meters : Tab Meter := []
  /-- the device is powered, out of reset and not shut down (R607, R608, R617) -/
  alive : Bool := true
  /-- a STILL freeze is in force (R587) -/
  frozen : Bool := false
  /-- the count F at which STILL_N was taken (R587) -/
  freezeF : Nat := 0
  /-- the freezes that have ended: the counts F of their beginning and end (R591) -/
  freezes : List (Nat × Nat) := []
  /-- the frozen time of the freezes that have ended, in ns (R591) -/
  frozenNs : Nat := 0
  /-- requests that wait for a domain to wake or a freeze to end (R534, R589) -/
  held : List Held := []
  /-- open DOMAIN transfers, at most 16 (R475) -/
  transfers : List Transfer := []
  /-- requesters whose transfer was abandoned and whose next segment says so (R476) -/
  abandoned : List Requester := []
  /-- the mailboxes, host port × 4 + mailbox (R478) -/
  mailboxes : Tab Mailbox := []
  /-- mailbox requests that the rim discarded, shown as FROZEN once the device resumes (R589) -/
  discarded : List Request := []
  /-- STILL_ACK (R588) -/
  stillAck : Bool := false
  /-- 1 + the count F at which resumption began; 0 while none runs (R594) -/
  resumeF : Nat := 0
  /-- the boot chain waits for a freeze to end or for the dies to cool (R594, R617) -/
  bootWait : Bool := false
  /-- whether PUF correction succeeds at this boot (R498) -/
  pufOk : Bool := true
  /-- READOUT_ADDR (R592) -/
  tapAddr : Nat := 0
  /-- the 40 ferries (R306) -/
  ferries : Tab Ferry := []
  /-- chain starts issued and not yet at their ferry (R309, R345) -/
  starts : List ChainStart := []
  /-- chain starts held at their weir while the ferry's queue is full (R309) -/
  heldStarts : List ChainStart := []
  /-- by GDDR6 channel: repeats of the burst that mismatched last (R322) -/
  edcRepeats : Tab Nat := []
  /-- by GDDR6 channel: 1 + the 1 s window and its uncorrectable reads (R332) -/
  gddrUncorr : Tab (Nat × Nat) := []
  /-- by GDDR6 channel × 2 + setting: consecutive readings 5 °C below the threshold (R324) -/
  coolMs : Tab Nat := []
  /-- 1 + the running time of the last tick of a timer: of SPI controller k (k), of Reedbed channel c (64 + c), of the announcements (128) and the LLDP
  frames (130) of an Ethernet port (R370, R371, R435, R436). -/
  lastTick : Tab Nat := []
  /-- 1 + the running time from which Confluence's input queue has been full, 0 while it is not, and how long it was full before, in ns (R426). -/
  confFullF : Nat := 0
  confFullNs : Nat := 0
  /-- 64-byte blocks moved into the repair reserve that have been written since (R333), by device address / 64 -/
  moved : Tab Bool := []
  /-- device addresses filled with zeros since a channel failed (R325, R333), as ranges -/
  filled : List (Nat × Nat) := []
  /-- 1 + the GDDR6 channel that failed first (R333, R334); 0 none -/
  failedFirst : Nat := 0
  /-- which copy the next mirrored read takes (R326) -/
  mirrorTurn : Nat := 0
  /-- the 16 plan slots (R351) -/
  plans : Tab PlanSlot := []
  /-- by plan slot: 1 + the phase asked for, 256 for a stop (R345, R366) -/
  phaseReq : Tab Nat := []
  /-- by plan slot: the number of phases of its plan (R351) -/
  planPhases : Tab Nat := []
  /-- GDDR6 ranges taken in owners' regions (R365, R330, R331, R405) -/
  allocs : List Alloc := []
  /-- the populations with a handle (R182) -/
  pops : Tab Pop := []
  /-- neuron state words (R184): (cluster × 16 + logical unit) × 4096 + index -/
  neurons : Tab Nat := []
  /-- accumulators of the same neurons, 32 bits (R183, R199) -/
  accs : Tab Nat := []
  /-- the residues, modulo 3, beside those accumulators (R268) -/
  residues : Tab Nat := []
  /-- neurons whose inputs carried Poison (R564) -/
  neuronBad : Tab Bool := []
  /-- count window buffers (R209): (handle × 3 + buffer) × 2³⁹ + cluster × 2³² + element; buffer 0 is active, 1 completed, 2 the last completed count map -/
  counts : Tab Nat := []
  /-- the basin layers with a handle (R244) -/
  layers : Tab Layer := []
  /-- stochastic generators (R266): cluster × 16 + logical unit -/
  lfsr : Tab Nat := []
  /-- the seeds that those generators took at the phase start (R267), by cluster -/
  phaseSeed : Tab Nat := []
  /-- count F at which each unit's last tile drained, cluster × 16 + logical unit (R246) -/
  unitF : Tab Nat := []
  /-- the live accumulator (R584) -/
  sedLive : Sed := {}
  /-- the accumulator being written, or at rest (R584) -/
  sedShadow : Sed := {}
  /-- PowerOnSeconds (R579) -/
  powerOn : Nat := 0
  /-- copy 0 of the lifetime record in MRAM (R577); a part's first record is not given: empty (notes/assumptions/12) -/
  mram0 : List Byte := []
  /-- copy 1 (R577) -/
  mram1 : List Byte := []
  /-- the one-time fuse of R585: every record since has Restarted -/
  sedFuse : Bool := false
  /-- the Reason of the commit in progress (R582) -/
  commitReason : Nat := 1
  /-- by stream: EventsDecoded at the last tick (R579) -/
  rateSeen : Tab Nat := []
  /-- the AON count of the last tick of the recorder (R579) -/
  sedTickAon : Nat := 0
  /-- the count F at which the commit in progress began (R583) -/
  commitF : Nat := 0
  /-- the record that the commit in progress writes (R582) -/
  commitBytes : List Byte := []
  /-- the 16,384 weirs, each away from reset (R338) -/
  weirs : Tab Weir := []
  /-- waits not yet complete, oldest first (R344) -/
  waits : List PendingWait := []
  /-- sessions and what each keeps (R487, R508) -/
  sess : Tab Session := []
  /-- Outfall channels (R444) -/
  chans : Tab Chan := []
  /-- the count F at which each tenant began HOLDING (R442) -/
  tenantHoldF : Tab Nat := []
  /-- the last LLDP neighbour of each port (R436) -/
  lldpNeighbour : Tab (List Byte) := []
  /-- the count F at which each host port began DETACHING (R431) -/
  detachF : Tab Nat := []
  /-- the six fault queues (R552) -/
  faultQ : Tab FaultQueue := []
  /-- by master: 1 + the 1 ms window of its last plan-fault detection (R555) -/
  planFaultMs : Tab Nat := []
  /-- ALERT_N is asserted for a fault cause (R558, R565, R614) -/
  alertFault : Bool := false
  /-- 1 + the physical slot of a remapped logical unit, by global unit number (R25, R28) -/
  unitMap : Tab Nat := []
  /-- by exit: 1 + the 1 ms window of the last class 0x0B report (R564) -/
  poisonMs : Tab Nat := []
  /-- 1 + the count F at which the recalibration of IOD1's path began; 0 none (R79) -/
  pathRecalF : Nat := 0
  /-- by link: 1 + the 1 ms window and the retries counted in it (R551) -/
  linkMs : Tab (Nat × Nat) := []
  /-- by link: 1 + the count F at which its retrain began; 0 none (R551) -/
  linkRetrainF : Tab Nat := []
  /-- the 36 front ends (R118) -/
  streams : Tab Stream := []
  /-- the 1 µs window in which spill bytes were moved last (R151) -/
  spillWin : Nat := 0
  /-- by stream: the spill bytes moved in it (R151) -/
  spillMoved : Tab Nat := []
  /-- Mere cells away from stale: die × 2²³ + block × 256 + row × 32 + column (R156, R159); 0x7FFF is at rest -/
  mere : Tab Nat := []
  /-- cells whose parity error awaits the next sweeper visit (R165) -/
  mereBad : Tab Bool := []
  /-- by die × 64 + bank: 1 + the 1 s window and its parity errors (R165) -/
  parityRun : Tab (Nat × Nat) := []
  /-- by die: the next block of the sweeper (R161) -/
  sweepPos : Tab Nat := []
  /-- words on their routes, oldest first (R176, R203) -/
  transit : List Transit := []
  /-- by route (R176) -/
  routeHold : Tab RouteHold := []
  /-- by die: the stream served last (R169) -/
  eddyTurn : Tab Nat := []
  /-- cluster sluices c × 8 + k, then boundary sluices 1024 + (link × 32 + k) × 2 + end (R292) -/
  sluices : Tab Sluice := []
  /-- region registers: (cluster × 19 + master) × 8 + window (R281) -/
  regions : Tab Nat := []
  /-- the march pass running on a cluster (R290) -/
  marches : Tab (Option March) := []
  /-- by cluster × 32 + bank: 1 + the 1 s window and its uncorrectable reads (R551) -/
  padUncorr : Tab (Nat × Nat) := []
  /-- silted slots: cluster × 17 + physical slot (R29, R539) -/
  silted : Tab Bool := []
  /-- soft repairs made in an element: cluster × 49 + element (R291) -/
  spareBits : Tab Nat := []
  /-- the power domains (R522) -/
  doms : Tab Domain := []
  /-- WAKE0 to WAKE3 (R540) -/
  wakeIns : Tab WakeIn := []
  /-- IOD0 base goes off (R526): 1 + the endpoint that carried the command, and the count F of its acceptance -/
  baseOff : Nat × Nat := (0, 0)
  /-- THERMTRIP_N is asserted (R617) -/
  thermtrip : Bool := false
  /-- dies that have yet to read below 95 °C before the boot ROM may run, a bit for each (R617) -/
  hotDies : Nat := 0
  /-- the last Tj reading of each die, in 1/128 °C (R616) -/
  tjLast : Tab Int := []
  /-- ALERT_N is asserted for R494 (R614) -/
  alertRecovery : Bool := false
  /-- what the rim holds beside dictionary requests: its arrival, as a count F, and the command (R589) -/
  rimFrames : List (Nat × Instr) := []
  /-- by compute die (R61 to R67) -/
  paces : Tab Pace := []
  /-- the ten rails, from 0 (R542) -/
  rails : Tab Rail := []
  /-- the device-region key (R319, R514) -/
  deviceKey : List Byte := []
  /-- the tenants' data keys (R512) -/
  dataKeys : Tab (List Byte) := []
  /-- by host port 0 to 3 and session slot 4, 5 (R506) -/
  exchanges : Tab Exchange := []
  /-- consecutive passing test blocks since the last failure (R514) -/
  trngPass : Nat := 0
  /-- the 64 Reedbed channels (R370) -/
  reeds : Tab Reed := []
  /-- the 8 SPI controllers (R371) -/
  spis : Tab Spi := []
  /-- fine outputs on their way to Confluence, oldest first (R388) -/
  fines : List FineRec := []
  /-- Confluence and Buoy (R392) -/
  fusion : Fusion := {}
  deriving DecidableEq, Repr

/-- The two byte-addressed memories: GDDR6 by device address (R316, R319), and the scratchpads by cluster × 2²⁰ + byte
address (R272). Both lists hold only bytes that are not zero, in rising address order; what is not listed reads as
zero (notes/assumptions/11). `gddrBad` and `padBad` hold the numbers of the 64-byte GDDR6 blocks and of the 64-bit scratchpad
words that carry Poison (R274, R323), `gddrErr` those of blocks with an error that cannot be corrected (R323). -/
structure Mem where
  gddr : List Host.Cell := []
  pad : List Host.Cell := []
  gddrBad : Tab Bool := []
  gddrErr : Tab Bool := []
  padBad : Tab Bool := []
  deriving DecidableEq, Repr

/-- The block: the device, its memories, and the commands that wait, first in, first out. -/
structure State where
  dev : Dev := {}
  mem : Mem := {}
  pending : List Instr := []
  deriving DecidableEq, Repr

/-- Why the device would stop. The spec gives every command of the table an effect, so no meaning raises one; the type is
closed. `halted` is kept for a state in which no command is defined. It would be safe: the model stops. -/
inductive Fault where
  | halted
  deriving DecidableEq, Repr

/-- Why a command would have no meaning. `notModelled` stands in a dispatch arm that awaits its meaning; no meaning raises
it. It is safe: the model stops. -/
inductive Refusal where
  | notModelled (mnemonic : String)
  deriving DecidableEq, Repr

/-- The device after the release of PORST_N with nothing yet done (R607): every register at the default its object table
gives, every element at rest, F at zero (R75), the boot chain not yet run. [log 4 DESIGN CHOICE, 5 DESIGN CHOICE, 12 PRESUMED, 13 DESIGN CHOICE, 27 DEDUCED] -/
def State.reset : State := {}

end Sys2Proof.Machine
end

