-- ==== Sys2Proof/Machine/Ops.lean ====
section
/-! DEFINITION. The named operations over the device's registers and clocks: reading and writing a dictionary register,
its fields, counters that wrap or saturate, device time and its formats, windows aligned to F. Every meaning reads and
writes registers through these. -/

namespace Sys2Proof.Machine

open Sys2Proof

/-! ### Registers -/

/-- The row of `idx.sub` (R460); none where no chapter defines it. -/
def objRow? (idx sub : Nat) : Option ObjRow := (objRows idx).find? (fun r => r.holds idx sub)

/-- ClusterHealth as the part leaves manufacture (R26, R575): a part value names the slot that is the spare, or none with one slot
consumed. [log 7 DESIGN CHOICE] -/
def partHealth (v : Nat) : Nat :=
  if v % 18 < 17 then 2 ^ 2 + v % 18 * 2 ^ 20 else 2 ^ (3 + v / 18 % 17) + 0x1F * 2 ^ 20

/-- The spare columns that element `e` of a cluster's march has: 2 for each of 32 banks, 1 for each of 17 register files (R291). -/
def spareCap (e : Nat) : Nat := if e < 32 then 2 else 1

/-- The spare columns that manufacture left in element `e`; `key` is the cluster's MarchStatus (R291). [log 7 DESIGN CHOICE] -/
def partSpare (key e : Nat) : Nat := (Config.partByte key e).toNat % (spareCap e + 1)

/-- MarchStatus before any pass (R303): no failing element, and the part's count of spare columns. [log 7 DESIGN CHOICE] -/
def partMarch (key : Nat) : Nat := 0xFF * 2 ^ 8 + ((List.range 49).map (partSpare key)).sum * 2 ^ 24

/-- What a scalar register reads as before anything writes it: the default of its object table; the part's own value where the
table gives none. [log 6 DESIGN CHOICE, 92 DEDUCED] -/
def objDefault (key : Nat) : Nat :=
  if key / 256 = 0x8030 then partHealth (Config.partValue key)
  else if key / 256 = 0x6037 then partMarch key
  else if key / 256 = 0x1001 then Config.partValue key % 2 ^ 32
  else if key / 256 = 0x9001 then Config.partValue key % 65
  else if key = 0x181001 ∨ key = 0x181003 then 0xF08
  else match objRow? (key / 256) (key % 256) with
    | some r => r.dflt
    | none => 0

/-- The value of a dictionary register. -/
def Dev.rd (s : Dev) (r : Reg) : Nat := Tab.get (objDefault r.key) s.dict r.key

/-- The device with a register at `v`, cut to the register's width. -/
def Dev.wr (s : Dev) (r : Reg) (v : Nat) : Dev :=
  { s with dict := Tab.put (objDefault r.key) s.dict r.key (v % 2 ^ r.bits) }

/-- A register read as two's complement (R462). -/
def Dev.rdI (s : Dev) (r : Reg) : Int := signed r.bits (s.rd r)

/-- A register written with a signed number (R462). -/
def Dev.wrI (s : Dev) (r : Reg) (i : Int) : Dev := s.wr r (unsigned r.bits i)

/-- A flag register or a field at least one: true. -/
def Dev.on (s : Dev) (r : Reg) : Bool := s.rd r != 0

/-- Bits [lo + w − 1 : lo] of a register. -/
def Dev.getF (s : Dev) (r : Reg) (lo w : Nat) : Nat := field (s.rd r) lo w

/-- The device with bits [lo + w − 1 : lo] of a register at `v`. -/
def Dev.setF (s : Dev) (r : Reg) (lo w v : Nat) : Dev := s.wr r (setField (s.rd r) lo w v)

/-- Bit `i` of a register. -/
def Dev.bit (s : Dev) (r : Reg) (i : Nat) : Bool := bitAt (s.rd r) i

/-- The device with bit `i` of a register at `b`. -/
def Dev.setBit (s : Dev) (r : Reg) (i : Nat) (b : Bool) : Dev := s.setF r i 1 (b2n b)

/-- A register with `n` added; it wraps at its width. -/
def Dev.bumpBy (s : Dev) (r : Reg) (n : Nat) : Dev := s.wr r (wrapAdd r.bits (s.rd r) n)

/-- A register with 1 added; it wraps at its width. -/
def Dev.bump (s : Dev) (r : Reg) : Dev := s.bumpBy r 1

/-- A register with `n` added; it saturates at its greatest value. -/
def Dev.bumpSat (s : Dev) (r : Reg) (n : Nat) : Dev := s.wr r (satAdd r.bits (s.rd r) n)

/-- A register raised to `v` where it is below. -/
def Dev.raiseTo (s : Dev) (r : Reg) (v : Nat) : Dev := if s.rd r < v then s.wr r v else s

/-- A register returned to its default. -/
def Dev.clear (s : Dev) (r : Reg) : Dev := { s with dict := Tab.erase s.dict r.key }

/-- `n` bytes of a string that differs from part to part. [log 7 DESIGN CHOICE] -/
def partBytes (key n : Nat) : List Byte := (List.range n).map (Config.partByte key)

/-- SpareConsumedMap (R35, R575): bit c set where manufacture left cluster c no spare slot. -/
def spareConsumed : List Byte :=
  (List.range 16).map (fun i => BitVec.ofNat 8 ((List.range 8).foldl (fun a k =>
    a + (if field (objDefault (0x8030 * 256 + (8 * i + k) + 1)) 20 5 = 0x1F then 2 ^ k else 0)) 0))

/-- The content a byte-string object has before anything writes it; DeviceId, which is a digest, is formed where it is read. -/
def blobDefault (key : Nat) : List Byte :=
  if key = 0x100006 then partBytes key 16
  else if key = 0x902400 then partBytes key 1312
  else if key = 0x902300 then partBytes key (Config.partValue key % 2 ^ 16)
  else if key = 0x101012 then spareConsumed
  else match objRow? (key / 256) (key % 256) with
  | some { ty := .octets n, .. } => zeros n
  | _ => []

/-- The bytes of an OCTETS, VSTRING or DOMAIN object. -/
def Dev.blob (s : Dev) (r : Reg) : List Byte := Tab.get (blobDefault r.key) s.blobs r.key

/-- The device with a byte-string object at `bs`. -/
def Dev.setBlob (s : Dev) (r : Reg) (bs : List Byte) : Dev :=
  { s with blobs := Tab.put (blobDefault r.key) s.blobs r.key bs }

/-- Something leaves the device. [log 3 DESIGN CHOICE, 97 DESIGN CHOICE] -/
def Dev.emit (s : Dev) (o : Out) : Dev := { s with out := s.out ++ [o] }

/-- An open value of the spec: the free value of the present draw (notes/assumptions/10). [log 10 DESIGN CHOICE] -/
def Dev.open_ (s : Dev) : Nat := Config.freeValue s.free

/-- The device after an open value has been drawn. [log 10 DESIGN CHOICE] -/
def Dev.drawn (s : Dev) : Dev := { s with free := s.free + 1 }

/-- `f` over the numbers `0 … n − 1`, threading the device. -/
def Dev.each (s : Dev) (n : Nat) (f : Nat → Dev → Dev) : Dev := loop n f s

/-! ### Time -/

/-- RateAdjust × F / 2⁴⁰, rounded down (R76). -/
def rateTerm (rate : Int) (f : Nat) : Int := rate * (f : Int) / 2 ^ 40

/-- Device time in ns (R76, R9). [log 46 DEDUCED] -/
def Dev.dtAt (s : Dev) (f : Nat) : Int := s.rdI Obj.timeOffset + (f : Int) + rateTerm (s.rdI Obj.rateAdjust) f

/-- Present device time (R76). -/
def Dev.dt (s : Dev) : Int := s.dtAt s.f

/-- One AON period, in 1/512 ns (R89). -/
def aonPeriod : Nat := 15625000

/-- How far the local copy of F on die `d` lies from IOD0's (R79): within ±2 ns, and on IOD1 within ±4 ns while its path is calibrated again. The
value is open. [log 120 DESIGN CHOICE] -/
def Dev.skew (s : Dev) (d : Nat) : Int :=
  if d = 4 then 0
  else
    let b : Int := if d = 5 ∧ s.pathRecalF ≠ 0 then 4 else 2
    (Config.freeValue (Tab.get (2 ^ 64 + d) s.skewDraws d) : Int) % (2 * b + 1) - b

/-- The local copy of F on die `d`: 0 to 3 the compute dies, 4 IOD0, 5 IOD1 (R79). -/
def Dev.localF (s : Dev) (d : Nat) : Nat := unsigned 64 ((s.f : Int) + s.skew d)

/-- The paths to some dies are calibrated (R79). [log 120 DESIGN CHOICE] -/
def Dev.calibrate (s : Dev) (ds : List Nat) : Dev :=
  ds.foldl (fun (s : Dev) d => { s with skewDraws := Tab.put (2 ^ 64 + d) s.skewDraws d s.free, free := s.free + 1 }) s

/-- The die that holds sensor port `n` (R522). -/
def sensorDie (n : Nat) : Nat := if n < 18 then 4 else 5

/-- Device time as it stands at sensor port `n`, one of the timestamping points (R79). -/
def Dev.portDt (s : Dev) (n : Nat) : Int := s.dtAt (s.localF (sensorDie n))

/-- The T80 value of a device time: nanoseconds in bits [31:0], seconds modulo 2⁴⁸ in bits [79:32] (R80). -/
def t80 (dt : Int) : Nat := (dt % 1000000000).toNat + unsigned 48 (dt / 1000000000) * 2 ^ 32

/-- The T31 stamp of a device time (R80). -/
def t31 (dt : Int) : Nat := unsigned 31 (dt / 250)

/-- The device time, within ±2⁴⁷ s of present device time, whose T80 value is `v` (R80). -/
def Dev.ofT80 (s : Dev) (v : Nat) : Int :=
  let nowSec := s.dt / 1000000000
  let sec := nowSec + signed 48 (unsigned 48 (((v / 2 ^ 32 % 2 ^ 48 : Nat) : Int) - nowSec))
  sec * 1000000000 + ((v % 2 ^ 32 : Nat) : Int)

/-- The device time nearest to present device time whose T31 stamp is `v`, at the stamp's 250 ns (R10, R80). -/
def Dev.ofT31 (s : Dev) (v : Nat) : Int :=
  let now := s.dt / 250
  (now + signed 31 (unsigned 31 ((v : Int) - now))) * 250

/-- The least F at which device time reaches `dt` under the present offset and rate (R76, R93). -/
def Dev.fOf (s : Dev) (dt : Int) : Int :=
  ceilDivI ((dt - s.rdI Obj.timeOffset) * 2 ^ 40) (2 ^ 40 + s.rdI Obj.rateAdjust)

/-- The device time stored in a T80 register. -/
def Dev.rdT (s : Dev) (r : Reg) : Int := s.ofT80 (s.rd r)

/-- A T80 register written with a device time. -/
def Dev.wrT (s : Dev) (r : Reg) (dt : Int) : Dev := s.wr r (t80 dt)

/-- The window of length `len` ns of F that the present lies in (R622). -/
def Dev.win (s : Dev) (len : Nat) : Nat := s.f / len

/-! ### Load meters (R622) -/

/-- A meter brought to the present window. -/
def Meter.roll (m : Meter) (w : Nat) : Meter :=
  if m.win = w then m else if m.win + 1 = w then ⟨w, 0, m.cur⟩ else ⟨w, 0, 0⟩

/-- `n` more counted on the meter of a load object. [log 25 DESIGN CHOICE, 103 DESIGN CHOICE] -/
def Dev.meter (s : Dev) (r : Reg) (n : Nat) : Dev :=
  { s with meters := Tab.upd {} s.meters r.key (fun m => let m := m.roll (s.win 1000000); { m with cur := m.cur + n }) }

/-- What a load object counted over the last complete 1 ms. [log 25 DESIGN CHOICE] -/
def Dev.metered (s : Dev) (r : Reg) : Nat := ((Tab.get {} s.meters r.key).roll (s.win 1000000)).prev

end Sys2Proof.Machine
end

