-- ==== Sys2Proof/Machine/GddrMap.lean ====
section
/-! DEFINITION. The address map of the GDDR6 array (R317, R318), where the bytes of a failed channel stand (R333, R334), and the regions (R325, R327). -/

namespace Sys2Proof.Machine

open Sys2Proof

/-! ### The address map (R318) -/

/-- The channel of a device address. -/
def gddrChan (a : Nat) : Nat := field a 8 3 ^^^ field a 12 3 ^^^ field a 18 3

/-- The offset within the channel. -/
def gddrOff (a : Nat) : Nat := a / 2048 * 256 + a % 256

/-- The data block of a device address within its channel. -/
def gddrBlock (a : Nat) : Nat := gddrOff a / 64

/-- The page that holds it: 31 data blocks and the block of their codes (R317). -/
def gddrPage (a : Nat) : Nat := gddrBlock a / 31

/-- Its slot in the page. -/
def gddrSlot (a : Nat) : Nat := gddrBlock a % 31

/-- The bank of a device address. -/
def gddrBank (a : Nat) : Nat := gddrPage a % 16

/-- The row of a device address. -/
def gddrRow (a : Nat) : Nat := gddrPage a / 16

/-- The device address at offset `o` of channel `c`. -/
def gddrAddr (c o : Nat) : Nat :=
  let hi := o / 256 * 2048
  hi + (c ^^^ field hi 12 3 ^^^ field hi 18 3) * 256 + o % 256

/-- Whether a channel has failed (R337). -/
def Dev.chanFailed (s : Dev) (k : Nat) : Bool := s.getF (Obj.gddrChannelState k) 0 2 == 2

/-- Whether a channel's requests are held while it retrains (R322). -/
def Dev.retraining (s : Dev) (k : Nat) : Bool := s.bit (Obj.gddrChannelState k) 4

/-- The first byte, within a channel, that the repair reserve does not cover (R333). [log 71 DEDUCED] -/
def Dev.reserveLimit (s : Dev) : Nat := 7 * s.rd Obj.repairReserve * 2 ^ 20

/-- The first offset of a channel's share of the repair reserve (R333). -/
def Dev.reserveBase (s : Dev) : Nat := (1920 - s.rd Obj.repairReserve) * 2 ^ 20

/-- The channels that survived the first failure, in ascending order (R333). -/
def survivors (f : Nat) : List Nat := (List.range 8).filter (· != f)

/-- Whether a byte of a plain region on a failed channel has moved into the reserve (R333, R334). [log 71 DEDUCED] -/
def Dev.movedByte (s : Dev) (a : Nat) : Bool := s.failedFirst == gddrChan a + 1 && decide (gddrOff a < s.reserveLimit)

/-- Where a moved byte lands (R333). -/
def Dev.landing (s : Dev) (a : Nat) : Nat :=
  let u := gddrOff a / 256
  gddrAddr ((survivors (gddrChan a)).getD (u % 7) 0) (s.reserveBase + u / 7 * 256 + gddrOff a % 256)

/-- The byte that lands at an address of the reserve; none elsewhere (R333). -/
def Dev.origin (s : Dev) (x : Nat) : Option Nat :=
  match s.failedFirst with
  | 0 => none
  | f + 1 =>
    let o := gddrOff x
    if gddrChan x = f ∨ o < s.reserveBase ∨ 1920 * 2 ^ 20 ≤ o then none
    else some (gddrAddr f (((o - s.reserveBase) / 256 * 7 + (survivors f).idxOf (gddrChan x)) * 256 + o % 256))

/-- Where a copy of a byte stands: at its own address, or where its unit has moved; none where it is lost (R333, R334). [log 71 DEDUCED] -/
def Dev.placeOf (s : Dev) (mirrored : Bool) (a : Nat) : Option Nat :=
  if !s.chanFailed (gddrChan a) then some a
  else if mirrored || !s.movedByte a || s.chanFailed (gddrChan (s.landing a)) then none
  else some (s.landing a)

/-- Whether a copy of a byte is lost (R333, R334). [log 71 DEDUCED] -/
def Dev.lostByte (s : Dev) (mirrored : Bool) (a : Nat) : Bool := (s.placeOf mirrored a).isNone

/-! ### Regions (R325, R327) -/

/-- The first byte of region `r`. -/
def Dev.regionLo (s : Dev) (r : Nat) : Nat := s.rd (Obj.regionBase r) * 2 ^ 20

/-- The byte after the last visible byte of region `r`. -/
def Dev.regionHi (s : Dev) (r : Nat) : Nat := (s.rd (Obj.regionBase r) + s.rd (Obj.regionSize r)) * 2 ^ 20

/-- Whether region `r` is mirrored (R326). -/
def Dev.regionMirror (s : Dev) (r : Nat) : Bool := s.rd (Obj.regionMirrored r) == 1

/-- The region of tenant `t` that holds byte `a` (R327). -/
def Dev.regionAt (s : Dev) (t a : Nat) : Option Nat :=
  (List.range 32).find? (fun r => t < 8 && s.rd (Obj.regionOwner r) == t && decide (s.regionLo r ≤ a) && decide (a < s.regionHi r))

end Sys2Proof.Machine
end

