-- ==== Sys2Proof/Machine/Alloc.lean ====
section
/-! DEFINITION. GDDR6 regions as partitions (R325, R327) and the ranges that the device takes in them (R330, R331, R365, R405). -/

namespace Sys2Proof.Machine

open Sys2Proof

/-- The region of tenant `t` that holds the whole range (R327). -/
def Dev.regionOf (s : Dev) (t addr bytes : Nat) : Option Nat :=
  (List.range 32).find? (fun r => t < 8 && s.rd (Obj.regionOwner r) == t && decide (s.regionLo r ≤ addr) && decide (addr + bytes ≤ s.regionHi r))

/-- The ranges taken that overlap [a, a + n). -/
def Dev.taken (s : Dev) (a n : Nat) : Bool := s.allocs.any (fun x => decide (x.addr < a + n) && decide (a < x.addr + x.bytes))

/-- The lowest free address in region `r` with room for `n` bytes, 64-byte aligned: at the region's start or just after a range taken. [log 76 DEDUCED] -/
def Dev.roomIn (s : Dev) (r n : Nat) : Option Nat :=
  let starts := s.regionLo r :: (s.allocs.map (fun x => ceilDiv (x.addr + x.bytes) 64 * 64))
  (starts.filter (fun a => decide (s.regionLo r ≤ a) && decide (a + n ≤ s.regionHi r) && !s.taken a n)).min?

/-- The lowest address that fits in the regions of tenant `t`, mirrored or plain (R330, R365). [log 76 DEDUCED] -/
def Dev.roomFor (s : Dev) (t n : Nat) (mirrored : Bool) : Option Nat :=
  ((List.range 32).filterMap (fun r =>
    if t < 8 && s.rd (Obj.regionOwner r) == t && s.regionMirror r == mirrored then s.roomIn r n else none)).min?

/-- A range taken. [log 76 DEDUCED] -/
def Dev.take (s : Dev) (tag addr n : Nat) : Dev := { s with allocs := s.allocs ++ [⟨tag, addr, n⟩] }

/-- The ranges of a tag returned. -/
def Dev.untake (s : Dev) (tag : Nat) : Dev := { s with allocs := s.allocs.filter (fun x => x.tag != tag) }

end Sys2Proof.Machine
end

