-- ==== Sys2Proof/Machine/MereCore.lean ====
section
/-! DEFINITION. Mere's cells, their allocation to streams, and wipes (R156 to R162). -/

namespace Sys2Proof.Machine

open Sys2Proof

/-- The stale code (R156). -/
def staleCell : Nat := 0x7FFF

/-- The key of cell `i` of block `b` on die `d`: 256 cells a block. [log 55 DEDUCED] -/
def mereKey (d b i : Nat) : Nat := d * 2 ^ 23 + b * 256 + i

/-- A cell. -/
def Dev.cell (s : Dev) (key : Nat) : Nat := Tab.get staleCell s.mere key

/-- A cell written. -/
def Dev.setCell (s : Dev) (key v : Nat) : Dev := { s with mere := Tab.put staleCell s.mere key v, mereBad := Tab.put false s.mereBad key false }

/-- Every cell of the blocks [b, b + n) of die `d` made stale (R160, R162). -/
def Dev.wipeBlocks (s : Dev) (d b n : Nat) : Dev :=
  let lo := mereKey d b 0
  let hi := mereKey d (b + n) 0
  { s with mere := s.mere.filter (fun x => decide (x.1 < lo) || decide (hi ≤ x.1)),
           mereBad := s.mereBad.filter (fun x => decide (x.1 < lo) || decide (hi ≤ x.1)) }

/-- The Mere arrays that stand on die `d`: first block and length, in rising order. -/
def Dev.mereArrays (s : Dev) (d : Nat) : List (Nat × Nat) :=
  sortBy (fun a b => decide (a.1 ≤ b.1))
    (((List.range 36).filter (fun n => s.rd (Obj.mereBase n) != 0xFFFF && s.rd (Obj.homeDie n) == d)).map
      (fun n => (s.rd (Obj.mereBase n), s.rd (Obj.mereBlocks n))))

/-- The free runs of blocks on a die: start and length. -/
def freeRuns (from_ : Nat) : List (Nat × Nat) → List (Nat × Nat)
  | [] => if from_ < 32768 then [(from_, 32768 - from_)] else []
  | (b, n) :: rest => (if from_ < b then [(from_, b - from_)] else []) ++ freeRuns (b + n) rest

/-- MereBlocksFree and MereLargestFree of die `d` brought up to date (R160). -/
def Dev.mereCount (s : Dev) (d : Nat) : Dev :=
  let runs := freeRuns 0 (s.mereArrays d)
  (s.wr (Obj.mereBlocksFree d) (runs.map (·.2)).sum).wr (Obj.mereLargestFree d) ((runs.map (·.2)).foldl max 0)

/-- The blocks that an output array needs (R160). -/
def Dev.mereNeed (s : Dev) (n : Nat) : Nat := ceilDiv (s.rd (Obj.outputWidth n)) 32 * ceilDiv (s.rd (Obj.outputHeight n)) 8

/-- The lowest free run long enough for stream `n` on its home die (R160). -/
def Dev.mereRoom (s : Dev) (n : Nat) : Option Nat :=
  ((freeRuns 0 (s.mereArrays (s.rd (Obj.homeDie n)))).find? (fun r => decide (s.mereNeed n ≤ r.2))).map (·.1)

/-- MERE_ALLOCATE (R160): blocks taken and wiped. -/
def Dev.mereTake (s : Dev) (n b : Nat) : Dev :=
  let k := s.mereNeed n
  let s := ((s.wr (Obj.mereBase n) b).wr (Obj.mereBlocks n) k).wipeBlocks (s.rd (Obj.homeDie n)) b k
  (s.mereCount (s.rd (Obj.homeDie n))).meter (Obj.mereLoad (s.rd (Obj.homeDie n))) (64 * k)

/-- The blocks of a stream return to the pool (R160). -/
def Dev.mereFree (s : Dev) (n : Nat) : Dev :=
  ((s.wr (Obj.mereBase n) 0xFFFF).wr (Obj.mereBlocks n) 0).mereCount (s.rd (Obj.homeDie n))

/-- The Eddy counter `k` (from 0) of stream `n`. -/
def eddyCtr (n k : Nat) : Reg := Obj.eddyCounter n k

/-- The front end of stream `n`. -/
def Dev.str (s : Dev) (n : Nat) : Stream := Tab.get {} s.streams n

/-- The device with a front end changed. -/
def Dev.updStr (s : Dev) (n : Nat) (f : Stream → Stream) : Dev := { s with streams := Tab.upd {} s.streams n f }

/-- What a stream holds is given back as it leaves DRAINING (R160, R330). -/
def Dev.streamRelease (s : Dev) (n : Nat) : Dev :=
  let s := if s.rd (Obj.mereBase n) = 0xFFFF then s else s.mereFree n
  ((s.untake (64 + n)).updStr n (fun x => { x with ring := [], ringWords := 0, ringAt := 0, ringBad := [] })).setBit (Obj.streamState n) 8 false

/-- SURFACE_WIPED's wipe of die `d` with its cause (R162): every allocated cell, and one more marker owed to each running stream; the wipe writes
every word of the blocks. [log 57 DEDUCED] -/
def Dev.wipeDie (s : Dev) (d cause : Nat) : Dev :=
  let s := (s.mereArrays d).foldl (fun s a => s.wipeBlocks d a.1 a.2) s
  let s := (s.bump (Obj.dieWipes d)).meter (Obj.mereLoad d) (64 * ((s.mereArrays d).map (·.2)).sum)
  s.each 36 (fun n s =>
    if s.rd (Obj.homeDie n) = d ∧ s.rd (Obj.mereBase n) ≠ 0xFFFF then
      let s := s.bump (eddyCtr n 0xB)
      if s.getF (Obj.streamState n) 0 4 = 5 ∨ s.getF (Obj.streamState n) 0 4 = 6 then s.updStr n (fun x => { x with wiped := x.wiped ++ [cause] }) else s
    else s)

/-- A wipe of every die that holds an array (R162). [log 57 DEDUCED] -/
def Dev.wipeAll (s : Dev) (cause : Nat) : Dev := s.each 4 (fun d s => if s.mereArrays d = [] then s else s.wipeDie d cause)

end Sys2Proof.Machine
end

