-- ==== Sys2Proof/Machine/Access.lean ====
section
/-! DEFINITION. Who may do what to an object: the rights classes of a requester, the tenant that owns an object, the
checks of a request in the order of R469, and the answer a request gets. -/

namespace Sys2Proof.Machine

open Sys2Proof

/-- The status codes of R468. ABSENT and ACCESS stand twice, for their two abort codes: `noSub` where the index is there, `writeOnly` for a read of WO. -/
inductive Status where
  | ok | range | state | rights | absent | access | type | busy | sequence | abandoned | version | noSession
  | unavailable | frozen | mismatch | noSub | writeOnly
  deriving DecidableEq, Repr

/-- The number of a status code (R468). -/
def Status.code : Status → Nat
  | .ok => 0x00
  | .range => 0x01
  | .state => 0x02
  | .rights => 0x03
  | .absent => 0x04
  | .access => 0x05
  | .type => 0x06
  | .busy => 0x07
  | .sequence => 0x08
  | .abandoned => 0x09
  | .version => 0x0A
  | .noSession => 0x0B
  | .unavailable => 0x0C
  | .frozen => 0x0D
  | .mismatch => 0x0E
  | .noSub => 0x04
  | .writeOnly => 0x05

/-- The CANopen abort code of a status (R468); none for OK and for what no CAN FD request meets. Of the two codes of ABSENT, 0x0602_0000 says that there is no
such index. [log 134 PRESUMED] -/
def Status.abort : Status → Option Nat
  | .ok => none
  | .range => some 0x06090030
  | .state => some 0x08000022
  | .rights => some 0x06010000
  | .absent => some 0x06020000
  | .access => some 0x06010002
  | .type => some 0x06070010
  | .busy => some 0x08000020
  | .sequence => some 0x05040003
  | .abandoned => some 0x05040000
  | .version => none
  | .noSession => none
  | .unavailable => some 0x06060000
  | .frozen => some 0x06060000
  | .mismatch => some 0x08000020
  | .noSub => some 0x06090011
  | .writeOnly => some 0x06010001

/-- What a response shows beside its status where it carries no value: to a CAN FD requester the abort code (R468, R484), to any other nothing. -/
def Status.shown (st : Status) (q : Requester) : List Byte :=
  match q, st.abort with
  | .can _, some a => leBytes 4 a
  | _, _ => []

/-- The number of a requester's session among the sessions (R487): host ports 0 to 3, Omtos slots 4 and 5, CAN FD
controllers 6 and 7, sources without a session from 8 on. -/
def sessOf : Requester → Nat
  | .mailbox p _ => p.val
  | .omtos k => 4 + k.val
  | .can c => 6 + c.val
  | .source ip udp => 8 + ip * 65536 + udp

/-- What a session keeps. -/
def Dev.session (s : Dev) (n : Nat) : Session := Tab.get {} s.sess n

/-- The device with what a session keeps changed. -/
def Dev.updSession (s : Dev) (n : Nat) (f : Session → Session) : Dev := { s with sess := Tab.upd {} s.sess n f }

/-- The state of a host port (R431). -/
def Dev.portState (s : Dev) (h : Nat) : Nat := s.getF (Obj.attachState h) 0 3

/-- Whether a host port is bound to a tenant or a custodian (R431): BOUND or DETACHING. -/
def Dev.portBound (s : Dev) (h : Nat) : Bool := s.portState h == 2 || s.portState h == 3

/-- Whether an Omtos session slot holds an attached session (R437). -/
def Dev.slotAttached (s : Dev) (k : Nat) : Bool := s.getF (Obj.sessionState k) 8 2 == 2

/-- The tenant a requester is bound to (R464): 0 to 7; none otherwise. -/
def Dev.tenantOf (s : Dev) (q : Requester) : Option Nat :=
  match q with
  | .mailbox p _ =>
    let t := s.getF (Obj.attachState p.val) 8 4
    if s.portBound p.val && t < 8 then some t else none
  | .omtos k =>
    let t := s.getF (Obj.sessionState k.val) 0 8
    if s.slotAttached k.val && t < 8 then some t else none
  | .can c => let t := s.rd (Obj.canRights c.val); if t < 8 then some t else none
  | .source _ _ => none

/-- Whether a requester holds the custodian class (R464, R439). -/
def Dev.isCustodian (s : Dev) (q : Requester) : Bool :=
  match q with
  | .mailbox p _ => s.portBound p.val && s.bit (Obj.attachState p.val) 13
  | .omtos k => s.slotAttached k.val && (s.session (4 + k.val)).custodian
  | _ => false

/-- The tenant of a domain's cluster (R545); 0xFF for the other domains. -/
def Dev.domainTenant (s : Dev) (n : Nat) : Nat := if n < 128 then s.rd (Obj.clusterOwner n) else 0xFF

/-- The tenant that owns the resource an object belongs to; 0xFF for none. -/
def Dev.ownerOf (s : Dev) (o : Own) (e : Nat) : Nat :=
  match o with
  | .none => 0xFF
  | .stream => s.rd (Obj.streamTenant e)
  | .population => s.rd (Obj.popOwner e)
  | .layer => s.rd (Obj.layerOwner e)
  | .cluster => s.rd (Obj.clusterOwner e)
  | .plan => s.rd (Obj.planOwner e)
  | .fusion => s.rd Obj.fusionOwner
  | .channel => s.rd (Obj.channelOwner e)
  | .tenant => e
  | .hostPort => if s.portBound e then s.getF (Obj.attachState e) 8 4 else 0xFF
  | .session => if s.slotAttached e then s.getF (Obj.sessionState e) 0 8 else 0xFF
  | .domain => s.domainTenant e

/-- The tenant that owns a weir: its block's owner (R350). -/
def Dev.weirOwner (s : Dev) (w : Nat) : Nat := s.rd (Obj.weirBlockOwner (w / 128))

/-- Whether the requester acts for tenant `t`. -/
def Dev.actsFor (s : Dev) (q : Requester) (t : Nat) : Bool := decide (s.tenantOf q = some t)

/-- Whether a requester's classes include the right (R464, R465, R349). -/
def Dev.hasRight (s : Dev) (q : Requester) (r : Rights) (o : Own) (e : Nat) : Bool :=
  match r with
  | .anyone => true
  | .nobody => false
  | .custodian => s.isCustodian q
  | .owner => s.actsFor q (s.ownerOf o e)
  | .ownerOrCustodian => s.isCustodian q || s.actsFor q (s.ownerOf o e)
  | .boundHostOrCustodian =>
    s.isCustodian q || (match q with
      | .mailbox p _ => decide (o = .hostPort) && p.val == e && s.portBound e
      | .omtos k => decide (o = .session) && k.val == e && s.slotAttached e
      | _ => false)
  | .selectedWeir => s.isCustodian q || s.actsFor q (s.weirOwner (s.session (sessOf q)).weirSelect)

/-- Whether a value lies in an object's range (R462, R12, R11): `v` holds the bits. -/
def Rng.ok (g : Rng) (ty : Ty) (v : Nat) : Bool :=
  let n : Int := match ty with | .i k => signed (8 * k) v | _ => v
  match g with
  | .any => true
  | .within alts => alts.any (fun a => decide (a.1 ≤ n) && decide (n ≤ a.2))
  | .stepped lo hi step => decide (lo ≤ n) && decide (n ≤ hi) && decide ((n - lo) % step = 0)
  | .fields mask lims =>
    decide (v &&& mask = v) && lims.all (fun l => decide (l.2.2.1 ≤ field v l.1 l.2.1) && decide (field v l.1 l.2.1 ≤ l.2.2.2))
  | .floats lo hi =>
    let k : Int := if v < 2 ^ 31 then v else -((v : Int) - 2 ^ 31)
    decide ((lo : Int) ≤ k) && decide (k ≤ hi)
  | .wholeMicros => decide (v % 2 ^ 32 % 1000 = 0)

/-- The type's own rule for a written value (R462). -/
def Ty.valueOk (ty : Ty) (v : Nat) : Bool :=
  match ty with
  | .bool => decide (v ≤ 1)
  | .f32 => decide (field v 23 8 ≠ 255)
  | .t80 => decide (v % 2 ^ 32 ≤ 999999999)
  | _ => true

/-- Whether LeakParam `p` lies in the range that LeakMode `m` gives it (R194, R621). -/
def leakOk (m p : Nat) : Bool :=
  match m with
  | 0 => decide (p ≤ 4194303)
  | 1 => decide (1 ≤ p) && decide (p ≤ 23)
  | 2 => decide (p ≤ 4194303)
  | _ => false

/-- The ranges that depend on another object (R621, R94, R402, R444). -/
def Dev.pairOk (s : Dev) (idx sub v : Nat) : Bool :=
  let e := idx - 0x3400
  if 0x3400 ≤ idx && idx < 0x3410 && sub == 3 then decide (2 * s.rd (Obj.trigWidth e) ≤ v)
  else if 0x3400 ≤ idx && idx < 0x3410 && sub == 4 then decide (2 * v ≤ s.rd (Obj.trigPeriod e))
  else if 0x6400 ≤ idx && idx < 0x6800 && sub == 0x0B then leakOk v (s.rd (Obj.leakParam (idx - 0x6400)))
  else if 0x6400 ≤ idx && idx < 0x6800 && sub == 0x0C then leakOk (s.rd (Obj.leakMode (idx - 0x6400))) v
  else if 0x6400 ≤ idx && idx < 0x6800 && sub == 0x14 then s.weirOwner v == s.rd (Obj.popOwner (idx - 0x6400))
  else if idx == 0x7807 then decide (v < s.rd (Obj.ringBytes (sub - 1)))
  else if idx == 0x7803 then decide (s.rd (Obj.watermark (sub - 1)) < v)
  else if 0x4000 ≤ idx && idx < 0x4240 && idx % 16 == 6 && sub == 0x0C then decide (v ≤ s.rd (Obj.gyroLossLimit ((idx - 0x4000) / 16)))
  else if 0x4000 ≤ idx && idx < 0x4240 && idx % 16 == 6 && sub == 0x0D then decide (s.rd (Obj.staleLimit ((idx - 0x4000) / 16)) ≤ v)
  else if idx == 0x5811 then decide (field (s.rd (Obj.sourceSpec (sub - 1))) 0 4 ≠ 4 ∨ v ≤ 1000)
  else if idx == 0x5810 then
    decide (field v 0 4 ≠ 4 ∨ s.rd (Obj.inputRate (sub - 1)) ≤ 1000) && decide (field v 4 4 ≤ (if field v 0 4 = 1 then 7 else if field v 0 4 = 2 then 1 else 0))
  else if 0x7100 ≤ idx && idx < 0x7160 && sub == 5 then [3, 7, 8, 9, 10, 11].contains (field v 9 4)
  else if idx == 0x7000 && sub == 6 then decide (v + 50 ≤ s.rd Obj.fusionWindow)
  else if idx == 0x7000 && sub == 4 then decide (s.rd Obj.closeHoldoff + 50 ≤ v)
  else true

/-- Whether the plan of slot `p` is stopped (R212, R244, R366): neither RUNNING nor STOPPING. -/
def Dev.slotStopped (s : Dev) (p : Nat) : Bool := s.rd (Obj.planState p) != 3 && s.rd (Obj.planState p) != 4

/-- Whether the engine that owns an RWS object is stopped (R463): the stream is in none of RUNNING and DRAINING, the plan does
not run, the channel or fusion is stopped. -/
def Dev.isStopped (s : Dev) (p : Stop) (e : Nat) : Bool :=
  match p with
  | .never => true
  | .stream => !(s.getF (Obj.streamState e) 0 4 == 5 || s.getF (Obj.streamState e) 0 4 == 6)
  | .population => s.slotStopped (Tab.get {} s.pops e).slot
  | .layer => s.slotStopped (Tab.get {} s.layers e).slot
  | .plan => true
  | .reedbed => s.getF (Obj.reedbedStatus e) 0 2 == 0
  | .spi => (List.range 64).all (fun c =>
      s.getF (Obj.reedbedStatus c) 0 2 == 0 || !(s.getF (Obj.sourceSpec c) 0 4 == 1 && s.getF (Obj.sourceSpec c) 4 4 == e))
  | .fusion => !(s.bit Obj.fusionState 0)
  | .channel => s.getF (Obj.outfallStatus e) 0 2 == 0
  | .can => true

/-- An operation that a session's Omtos version has (R483): DESCRIBE from 1.1, WRITE_IF from 1.2. -/
def Dev.versionOk (s : Dev) (q : Requester) (op : Nat) : Bool :=
  match q with
  | .omtos _ | .source _ _ =>
    let v := (s.session (sessOf q)).omtosVersion
    if op == 5 then decide (0x0101 ≤ v) else if op == 3 then decide (0x0102 ≤ v) else true
  | .can _ => op == 1 || op == 2
  | .mailbox _ _ => true

/-- Whether a requester outside a session may make the request at all (R481). -/
def Dev.sessionOk (q : Requester) (op idx : Nat) : Bool :=
  match q with
  | .source _ _ =>
    ((op == 1 || op == 4 || op == 5) && 0x1000 ≤ idx && idx ≤ 0x10FF) || ((op == 1 || op == 2) && (idx == 0x1100 || idx == 0x1101))
  | _ => true

/-- The row of a kind of index that holds `idx` (R460): its kind and what subindex 0x00 of an ARRAY or RECORD holds. -/
def indexKind (idx : Nat) : Option (Nat × Nat) :=
  (objKinds.find? (fun k => k.1 ≤ idx && (idx - k.1) % k.2.2.1 == 0 && (idx - k.1) / k.2.2.1 < k.2.1)).map (fun k => (k.2.2.2.1, k.2.2.2.2))

/-- The checks of a read in the order of R469, up to RIGHTS. -/
def Dev.judgeRead (s : Dev) (q : Requester) (op idx sub : Nat) : Status :=
  if !Dev.sessionOk q op idx then .noSession
  else match objRow? idx sub with
    | none =>
      if sub == 0 && (match indexKind idx with | some k => k.1 != 0 | none => false) then
        (if s.versionOk q op then .ok else .version)
      else if (indexKind idx).isSome then .noSub
      else .absent
    | some r =>
      if r.acc == .wo then .writeOnly
      else if !s.versionOk q op then .version
      else if !s.hasRight q r.rdRights r.own (r.elem idx sub) then .rights
      else .ok

/-- Whether IdentityFault leaves a write unserved (R498): only reads are served, and the messages of a session, which is then refused. -/
def Dev.readsOnly (s : Dev) (idx : Nat) : Bool := s.bit Obj.securityState 3 && !(decide (0x9060 ≤ idx) && decide (idx < 0x9064))

/-- The checks of a write of `data` to an object that holds one value or a fixed string, in the order of R469, the STATE of
its owning chapter excepted. -/
def Dev.judgeWrite (s : Dev) (q : Requester) (op idx sub : Nat) (data : List Byte) : Status :=
  if !Dev.sessionOk q op idx then .noSession
  else match objRow? idx sub with
    | none => if (indexKind idx).isSome then (if sub == 0 then .access else .noSub) else .absent
    | some r =>
      let v := ofLe data
      if r.acc == .ro || r.acc == .const then .access
      else if !s.versionOk q op then .version
      else if !s.hasRight q r.wrRights r.own (r.elem idx sub) then .rights
      else if (match r.ty with | .domain _ => false | .vstring m => decide (m < data.length) | t => decide (data.length ≠ t.size)) then .type
      else if r.ty.scalar && !(r.ty.valueOk v && r.rng.ok r.ty v && s.pairOk idx sub v) then .range
      else if s.readsOnly idx || (r.acc == .rws && !s.isStopped r.stop (r.elem idx sub)) then .state
      else .ok

/-- The checks of a write of value `v` to a scalar register, at the register's own length. -/
def Dev.judge (s : Dev) (q : Requester) (r : Reg) (v : Nat) : Status :=
  s.judgeWrite q 2 (r.key / 256) (r.key % 256) (leBytes (r.bits / 8) v)

/-- Whether Omtos Sequence `x` lies within the 64 that the device remembers below the highest, `hi` (R482). [log 87 DEDUCED] -/
def seqNear (hi x : Nat) : Bool := decide (-64 < stampDiff 32 x hi) && decide (stampDiff 32 x hi ≤ 0)

/-- A mailbox's request completes (R479): Code and Tag show, Busy clears, and MSI-X goes out where Notify asked for it. -/
def Dev.mailboxDone (s : Dev) (p m : Nat) (code : Nat) (data : List Byte) : Dev :=
  let b := Tab.get {} s.mailboxes (p * 4 + m)
  let s := { s with mailboxes := Tab.upd {} s.mailboxes (p * 4 + m) (fun b =>
    { b with busy := false, notify := none, code := code, shownTag := b.tag, result := data, buffer := data ++ b.buffer.drop data.length }) }
  match b.notify with
  | some v => s.emit (.msix p v)
  | none => s

/-- A response is kept under its Sequence among the last 64 (R482). -/
def Session.keep (x : Session) (code : Nat) (data : List Byte) : Session :=
  if x.curSeq = 0 then x
  else { x with curSeq := 0, executed := x.executed.filter (fun (e : Nat × List Byte) => seqNear x.highSeq e.1 && e.1 != x.curSeq)
                                           ++ ([(x.curSeq, leBytes 1 code ++ data)] : List (Nat × List Byte)) }

/-- What the transport of a requester keeps of an answer (R479, R482). -/
def Dev.delivered (s : Dev) (q : Requester) (code : Nat) (data : List Byte) : Dev :=
  match q with
  | .mailbox p m => s.mailboxDone p.val m.val code data
  | .omtos k => s.updSession (4 + k.val) (fun x => x.keep code data)
  | _ => s

/-- The answer to a request leaves the device, and it is counted (R468, R488). [log 90 DESIGN CHOICE] -/
def Dev.answer (s : Dev) (q : Requester) (st : Status) (data : List Byte) : Dev :=
  ((s.emit (.response q st.code data)).bump (Obj.transportCounter (if st = .ok then 0 else 1))).delivered q st.code data

/-- A request as it is held: with the Sequence it came under. -/
def Dev.marked (s : Dev) (r : Request) : Request := { r with seq := (s.session (sessOf r.q)).curSeq }

/-- An answer that is its status alone (R468). -/
def Dev.replyStatus (s : Dev) (q : Requester) (st : Status) : Dev := s.answer q st (st.shown q)

/-- A request that is refused changes nothing else (R469). -/
def Dev.refuse (s : Dev) (q : Requester) (st : Status) : Dev :=
  (if st = .noSession then s.bump (Obj.transportCounter 6) else s).replyStatus q st

/-- The abort of a CAN FD transfer, which answers no request (R484, R589). [log 93 DEDUCED] -/
def Dev.sdoAbort (s : Dev) (q : Requester) (st : Status) : Dev :=
  match q with
  | .can _ => s.emit (.response q st.code (st.shown q))
  | _ => s

/-- A write that is accepted: its effect, then the answer (R471). -/
def Dev.accept (s : Dev) (q : Requester) : Dev := s.answer q .ok []

/-- A scalar write: refused by the checks of R469, or else given to `k`. -/
def Dev.ask (s : Dev) (q : Requester) (r : Reg) (v : Nat) (k : Dev → Dev) : Dev :=
  if s.judge q r v = .ok then k s else s.refuse q (s.judge q r v)

end Sys2Proof.Machine
end

