-- ==== Sys2Proof/Machine/Act.lean ====
section
/-! DEFINITION. How a command acts on the state: what a device that is off, frozen or asleep does with it, and how every
meaning answers a next state. -/

namespace Sys2Proof.Machine

open Sys2Proof

/-- The device with nothing sent yet in the course of this command. [log 3 DESIGN CHOICE] -/
def Dev.fresh (s : Dev) : Dev := { s with out := [] }

/-- An effect of the AON domain or of a pin: it takes place whenever the device is powered and out of reset. [log 2 DESIGN CHOICE] -/
def State.act (s : State) (f : Dev → Dev) : Host.Outcome State Fault Refusal :=
  .next (if s.dev.alive then { s with dev := f s.dev.fresh } else s)

/-- Whether the clocked and the clockless blocks work: the device is on, no freeze halts them (R587), and the clocked domain
has not stopped (R88). -/
def Dev.working (s : Dev) : Bool := s.alive && !s.frozen && !s.stopped

/-- An effect of a clocked or a clockless block. [log 2 DESIGN CHOICE] -/
def State.run (s : State) (f : Dev → Dev) : Host.Outcome State Fault Refusal :=
  .next (if s.dev.working then { s with dev := f s.dev.fresh } else s)

/-- An effect of such a block that also reaches the memories. -/
def State.runM (s : State) (f : State → State) : Host.Outcome State Fault Refusal :=
  .next (if s.dev.working then f { s with dev := s.dev.fresh } else s)

/-- Whether power domain `n` is on (R522, R546). -/
def Dev.domOn (s : Dev) (n : Nat) : Bool := s.getF (Obj.domainState n) 0 3 == 0

/-- An effect of a block of power domain `n`: it takes place while the domain is on. [log 2 DESIGN CHOICE] -/
def State.runIn (s : State) (n : Nat) (f : Dev → Dev) : Host.Outcome State Fault Refusal :=
  s.run (fun d => if d.domOn n then f d else d)

/-- The same for an effect that also reaches the memories. [log 2 DESIGN CHOICE] -/
def State.runInM (s : State) (n : Nat) (f : State → State) : Host.Outcome State Fault Refusal :=
  s.runM (fun s => if s.dev.domOn n then f s else s)

/-- Running time: F less the frozen time, the clock of every timeout that R591 names. -/
def Dev.rf (s : Dev) : Nat := s.f - s.frozenNs - (if s.frozen then s.f - s.freezeF else 0)

/-- Whether timer `k` of a device that ticks `rate` times a second ticks (R370, R371): no tick since its last one, or none at all, has this number. [log 133 DESIGN CHOICE] -/
def Dev.tickDue (s : Dev) (k rate : Nat) : Bool :=
  match Tab.get 0 s.lastTick k with
  | 0 => true
  | l + 1 => s.rf * rate / 1000000000 != l * rate / 1000000000

/-- Whether timer `k`, which runs again `ns` after its last tick, ticks (R435, R436). [log 133 DESIGN CHOICE] -/
def Dev.spanDue (s : Dev) (k ns : Nat) : Bool :=
  match Tab.get 0 s.lastTick k with
  | 0 => true
  | l + 1 => decide (l + ns ≤ s.rf)

/-- Timer `k` has ticked. -/
def Dev.ticked (s : Dev) (k : Nat) : Dev := { s with lastTick := Tab.put 0 s.lastTick k (s.rf + 1) }

/-- The number that stands for the rim among the domains that hold requests (R589). -/
def rimDomain : Nat := 181

/-- Whether the transports are open (R490): the boot chain has run. -/
def Dev.serves (s : Dev) : Bool := !s.bootWait && !s.bit Obj.securityState 2

/-- Whether recovery serves a request at all (R494): through mailbox 0 of H0. [log 89 DEDUCED] -/
def recoveryHears (q : Requester) : Bool := match q with | .mailbox p m => p == 0 && m == 0 | _ => false

/-- The objects that recovery serves (R494). [log 89 DEDUCED] -/
def recoveryServes (idx : Nat) : Bool := idx == 0x1000 || idx == 0x9000 || idx == 0x9011

/-- The operation code that stands for a write in the PCIe weir window among the requests held (R347, R589). -/
def windowOp : Nat := 0x80

/-- The operation code that stands for a PCIe memory read among the requests held (R347, R478, R589). -/
def windowReadOp : Nat := 0x81

/-- A request meets the device: before the transports open there is no answer; recovery serves its three objects alone, and no weir (R494). -/
def State.meet (s : State) (r : Request) (f : State → State) : State :=
  if r.op = windowReadOp then f s
  else if s.dev.bootWait then s
  else if s.dev.bit Obj.securityState 2 then
    (if !recoveryHears r.q || r.op == windowOp then s else if recoveryServes r.idx then f s else { s with dev := s.dev.refuse r.q .absent })
  else f s

/-- A dictionary request reaches the device: during a freeze the rim holds it (R589), but a CAN FD controller is gated and
takes nothing; otherwise it takes effect. -/
def State.request (s : State) (r : Request) (f : State → State) : Host.Outcome State Fault Refusal :=
  .next (if s.dev.working then ({ s with dev := s.dev.fresh } : State).meet r f
         else if s.dev.alive && s.dev.frozen && !s.dev.stopped && !s.dev.bit Obj.freezeState 2 then
           (match r.q with
            | .can _ => s
            | _ => { s with dev := { s.dev.fresh with held := s.dev.held ++ [⟨s.dev.f, rimDomain, s.dev.marked r⟩] } })
         else s)

/-- Whether the rim serves during the freeze in force: RimFreeze was clear as it was taken (R589, R590). -/
def Dev.rimOpen (s : Dev) : Bool := s.alive && s.frozen && !s.stopped && !s.bootWait && !s.bit Obj.freezeState 2

/-- A datagram or a posted write that is no dictionary request reaches the device: the rim holds it during a freeze (R589). -/
def State.framed (s : State) (i : Instr) (f : State → State) : Host.Outcome State Fault Refusal :=
  .next (if s.dev.working then f { s with dev := s.dev.fresh }
         else if s.dev.rimOpen then { s with dev := { s.dev.fresh with rimFrames := s.dev.rimFrames ++ [(s.dev.f, i)] } }
         else s)

/-- Any other Ethernet frame: the rim discards it at once during a freeze (R589). -/
def State.unheld (s : State) (f : State → State) : Host.Outcome State Fault Refusal :=
  .next (if s.dev.working then f { s with dev := s.dev.fresh }
         else if s.dev.rimOpen then { s with dev := s.dev.fresh.bump Obj.rimDiscards }
         else s)

/-- A scalar write as a request. -/
def writeReq (q : Requester) (r : Reg) (v : Nat) : Request :=
  { q := q, op := 2, idx := r.key / 256, sub := r.key % 256, data := leBytes (r.bits / 8) v }

end Sys2Proof.Machine
end

