-- ==== Sys2Proof/Machine/SedCore.lean ====
section
/-! DEFINITION. What the lifetime recorder counts as things happen (R580, R581, R584). -/

namespace Sys2Proof.Machine

open Sys2Proof

/-- One more on the live accumulator's count at byte offset `off` of the record (R580): U32, saturating. [log 98 DEDUCED] -/
def Dev.sedCount (s : Dev) (off : Nat) : Dev :=
  { s with sedLive := { s.sedLive with counts := Tab.upd 0 s.sedLive.counts off (fun v => satAdd 32 v 1) } }

/-- Error count entry `c` (R580). -/
def Dev.sedError (s : Dev) (c : Nat) : Dev := s.sedCount (0x0EC0 + 4 * c)

/-- A frame with a bad FCS on 25 GbE port `port` is discarded (R562, R580). [log 45 PRESUMED] -/
def Dev.badFrame (s : Dev) (port : Nat) : Dev := (s.bump (Obj.fcsErrors port)).sedError 0x47

/-- A value offered to the extreme at byte offset `off` (R581): it replaces the entry when it lies strictly beyond it. -/
def Dev.sedExtreme (s : Dev) (off : Nat) (least : Bool) (v : Int) : Dev :=
  let beyond : Bool := match Tab.get none s.sedLive.extremes off with
    | none => if least then decide (v < 2 ^ 31 - 1) else decide (-(2 ^ 31) < v)
    | some x => if least then decide (v < x.1) else decide (x.1 < v)
  if beyond then
    { s with sedLive := { s.sedLive with extremes := Tab.put none s.sedLive.extremes off (some (v, s.powerOn)) } }
  else s

/-- The Interruption histogram and its longest entry (R580, R581). -/
def Dev.sedInterruption (s : Dev) (us : Nat) : Dev :=
  (s.sedCount (0x10C0 + 4 * min 15 (us / 50))).sedExtreme (0x1100 + 16 * 52) false us

end Sys2Proof.Machine
end

