-- ==== Sys2Proof/Machine/Domains.lean ====
section
/-! DEFINITION. Power domains as the other blocks meet them (R533 to R535): which tenant may wake one, how a wake begins, and what
a request for a domain that is not on comes to. The commands stand in Machine/Power.lean. -/

namespace Sys2Proof.Machine

open Sys2Proof

/-- The slot that manufacture left out of the part's numbering of cluster `c`: its spare, or the slot that repair consumed (R26). -/
def partSlotOut (c : Nat) : Nat :=
  let h := objDefault (Obj.clusterHealth c).key
  if field h 20 5 < 17 then field h 20 5 else ((List.range 17).find? (fun k => bitAt h (3 + k))).getD 16

/-- The physical slot of logical unit `g` (R25, R28). -/
def Dev.slotOf (s : Dev) (g : Nat) : Nat :=
  match Tab.get 0 s.unitMap g with
  | 0 => if g % 16 < partSlotOut (g / 16) then g % 16 else g % 16 + 1
  | n + 1 => n

/-- Domain `n` beyond its register. -/
def Dev.dom (s : Dev) (n : Nat) : Domain := Tab.get {} s.doms n

/-- The device with a domain changed. -/
def Dev.updDom (s : Dev) (n : Nat) (f : Domain → Domain) : Dev := { s with doms := Tab.upd {} s.doms n f }

/-- DomainState's State (R546): 0 on, 1 retention, 2 off, 3 entering, 4 waking. -/
def Dev.domState (s : Dev) (n : Nat) : Nat := s.getF (Obj.domainState n) 0 3

/-- Whether domain `n` lies on IOD1 (R522): what the IOD1 base serves. -/
def onIod1 (n : Nat) : Bool := (154 ≤ n && n ≤ 171) || n == 174 || n == 176 || n == 178

/-- Whether the router of region `r` is on (R37): while any of its eight clusters is on or in retention. [log 126 DEDUCED] -/
def Dev.routerOn (s : Dev) (r : Nat) : Bool := (List.range 8).any (fun k => s.domState (r * 8 + k) != 2)

/-- The compute die whose rail feeds domain `n`; none for the others. -/
def domDie (n : Nat) : Option Nat := if n < 128 then some (n / 32) else if n < 132 then some (n - 128) else if n < 136 then some (n - 132) else none

/-- Whether tenant `t` owns a resource held in domain `n` (R535). -/
def Dev.ownsInDomain (s : Dev) (t n : Nat) : Bool :=
  if n < 128 then s.rd (Obj.clusterOwner n) == t
  else if n < 132 then (List.range 36).any (fun k => s.rd (Obj.streamTenant k) == t && s.rd (Obj.homeDie k) == n - 128)
  else if n < 136 then
    (List.range 32).any (fun k => s.rd (Obj.clusterOwner ((n - 132) * 32 + k)) == t || s.rd (Obj.weirBlockOwner ((n - 132) * 32 + k)) == t)
  else if n < 172 then s.rd (Obj.streamTenant (n - 136)) == t
  else if n = 172 then (List.range 32).any (fun r => s.rd (Obj.regionOwner r) == t)
  else if n < 175 then (List.range 4).any (fun h => h / 2 == n - 173 && s.portBound h && s.getF (Obj.attachState h) 8 4 == t)
  else if n < 177 then (List.range 2).any (fun k => s.slotAttached k && s.getF (Obj.sessionState k) 0 8 == t && (s.session (4 + k)).ethPort == n - 175)
  else if n = 178 then s.rd Obj.fusionOwner == t
  else n == 180 && (List.range 64).any (fun k => s.rd (Obj.channelOwner k) == t)

/-- Whether a request of `q` carries the wake right of domain `n` (R535). -/
def Dev.wakeRight (s : Dev) (q : Requester) (n : Nat) : Bool :=
  s.isCustodian q || (match s.tenantOf q with | some t => s.ownsInDomain t n | none => false)

/-- AON time in 1/512 ns (R87, R89). -/
def Dev.aonTime (s : Dev) : Nat := s.aon * 15625000 + s.aonPhase

/-- A rail is turned on (R542). [log 31 DEDUCED] -/
def Dev.railOn (s : Dev) (r : Nat) : Dev :=
  if s.getF (Obj.railState r) 0 2 = 0 then
    ({ s with rails := Tab.upd {} s.rails r (fun x => { x with onF := s.rf, onAon := s.aonTime }) } : Dev).setF (Obj.railState r) 0 2 1 |>.emit (.pmbus r true)
  else s

/-- The order in which the rails of IOD0 base rise (R606): VDD_IO18, VDD_IOD, VDD_PHY 0.9 V and 1.2 V, VPP_G6, VDDQ_G6. -/
def riseOrder : List Nat := [9, 4, 5, 6, 8, 7]

/-- The rail that rises once rail `r` is good, while IOD0 base wakes (R542, R606). [log 31 DEDUCED] -/
def Dev.nextRail (s : Dev) (r : Nat) : Dev :=
  if s.domState 179 = 4 then
    match ((riseOrder.dropWhile (fun x => x != r)).drop 1).head? with
    | some x => s.railOn x
    | none => s
  else s

/-- Every unit slot in service of cluster `c` becomes silted (R539). -/
def Dev.silt (s : Dev) (c : Nat) : Dev := s.each 16 (fun u s => { s with silted := Tab.put false s.silted (c * 17 + s.slotOf (c * 16 + u)) true })

/-- The wake of one domain begins (R533, R538): what it depends on is woken by `wake`. -/
def Dev.wakeOne (s : Dev) (n : Nat) : Dev :=
  let st := s.domState n
  if st = 3 then s.updDom n (fun x => { x with wakeAfter := true })
  else if st = 1 ∨ st = 2 then
    let s := (s.setF (Obj.domainState n) 0 3 4).updDom n (fun x => { x with source := st })
    let s := match domDie n with | some d => s.railOn d | none => s
    let s := if n = 179 then s.railOn (riseOrder.headD 0) else s
    if n < 128 then s.silt n else s
  else s

/-- Domain `n` wakes, its dependencies first (R533). Nothing wakes while IOD0 base is not on but IOD0 base itself (R527). [log 36 DEDUCED] -/
def Dev.wake (s : Dev) (n : Nat) : Dev :=
  if n ≠ 179 ∧ s.domOn 179 = false then s
  else
    let s := if onIod1 n then s.wakeOne 180 else s
    s.wakeOne n

/-- A first access that carries the wake right (R534): the domain wakes when its WakeOnAccess is set. -/
def Dev.firstWake (s : Dev) (n : Nat) : Dev :=
  let st := s.domState n
  if (st = 1 ∨ st = 2 ∨ st = 3) ∧ s.on (Obj.wakeOnAccess n) = true then (s.wake n).updDom n (fun x => { x with byAccess := true }) else s

/-- The completion of a PCIe memory read. -/
def Dev.completed (s : Dev) (r : Request) (bs : List Byte) : Dev :=
  match r.q with
  | .mailbox p _ => s.emit (.completion p.val bs)
  | _ => s

/-- The answer to a request that a domain refuses (R535): a window write gets none, and a window read returns zero. -/
def Dev.answerHeld (s : Dev) (r : Request) (st : Status) : Dev :=
  if r.op = windowOp then s
  else if r.op = windowReadOp then s.completed r (zeros (ofLe r.data))
  else s.refuse r.q st

/-- A dictionary request, or a window write, that needs domain `n` (R534, R535): it acts while the domain is on, is held while the domain
enters or wakes, wakes it with the wake right, and is refused otherwise. -/
def State.reach (s : State) (r : Request) (n : Nat) (f : State → State) : State :=
  let st := s.dev.domState n
  let hold (d : Dev) : Dev := { d with held := d.held ++ [⟨d.f, n, d.marked r⟩] }
  if st = 0 then f s
  else if st = 3 ∨ st = 4 then { s with dev := hold s.dev }
  else if s.dev.on (Obj.wakeOnAccess n) && s.dev.wakeRight r.q n then { s with dev := hold (s.dev.firstWake n) }
  else { s with dev := (s.dev.bump (Obj.accessRefused n)).answerHeld r .unavailable }

/-- Several domains, each in turn. -/
def State.reachAll (s : State) (r : Request) (ns : List Nat) (f : State → State) : State :=
  match ns with
  | [] => f s
  | n :: rest => s.reach r n (fun s => s.reachAll r rest f)

/-- The domains that a request needs (R535): those whose hardware it commands, or whose contents it reads. Every other object is served
from the dictionary store (R528). -/
def Dev.needs (s : Dev) (r : Request) : List Nat :=
  let e := r.sub - 1
  let chosen := (s.session (sessOf r.q)).weirSelect
  if r.op = windowOp then [132 + r.idx / 4096]
  else if r.op = windowReadOp then (if r.sub = 1 then [132 + r.idx / 4096 % 4] else [])
  else if r.op = 4 then (if r.idx = 0x6036 then List.range 128 else [])
  else if r.op = 1 ∧ (r.idx = 0x1801 ∨ r.idx = 0x6800 ∨ r.idx = 0x6094) then []
  else if r.idx = 0x6036 ∨ r.idx = 0x8034 ∨ r.idx = 0x1801 then (if r.sub = 0 then [] else [e])
  else if r.idx = 0x6800 then [132 + e / 32]
  else if r.idx = 0x6810 then [132 + leAt r.data 0 2 % 16384 / 4096]
  else if r.idx = 0x6812 ∨ r.idx = 0x6813 then [132 + chosen / 4096]
  else if r.idx = 0x6094 ∨ (0x6000 ≤ r.idx ∧ r.idx < 0x6010 ∧ r.sub = 1) ∨ (0x7200 ≤ r.idx ∧ r.idx < 0x7224 ∧ r.sub = 1) then [172]
  else if 0x6400 ≤ r.idx ∧ r.idx < 0x6800 ∧ r.sub = 0x15 then (Tab.get {} s.pops (r.idx - 0x6400)).clusters.map (·.cluster)
  else if 0x4000 ≤ r.idx ∧ r.idx < 0x4240 ∧ r.idx % 16 = 1 then [136 + (r.idx - 0x4000) / 16]
  else if r.idx = 0x7000 ∧ r.sub = 2 then [178]
  else if r.idx = 0x581C then [177]
  else if r.idx = 0x780E then [180]
  else []

/-- A write of `v` to the register `r` reaches the device and, when accepted by the checks of R469 and its domains are on, has the effect `k`. -/
def State.askedM (s : State) (q : Requester) (r : Reg) (v : Nat) (k : State → State) : Host.Outcome State Fault Refusal :=
  let req := writeReq q r v
  s.request req (fun s =>
    if s.dev.judge q r v = .ok then s.reachAll req (s.dev.needs req) k else { s with dev := s.dev.refuse q (s.dev.judge q r v) })

/-- The same for an effect on the device alone. [log 90 DESIGN CHOICE] -/
def State.asked (s : State) (q : Requester) (r : Reg) (v : Nat) (k : Dev → Dev) : Host.Outcome State Fault Refusal :=
  s.askedM q r v (fun s => { s with dev := k s.dev })

end Sys2Proof.Machine
end

