-- ==== Sys2Proof/Machine/Hash.lean ====
section
/-! DEFINITION. The hash functions the device uses: SHA3-256 (FIPS 202) for digests and measurements, and KMAC256
(SP 800-185) for tags. The spec names them by their standards; they are written out here so that a digest can be
checked. Lanes are 64-bit numbers, lane (x, y) at place x + 5y. -/

namespace Sys2Proof.Machine

/-- Rotation of a 64-bit lane to the left. -/
def rotl64 (v n : Nat) : Nat := (v * 2 ^ n % 2 ^ 64) ||| (v / 2 ^ (64 - n))

/-- The shift register of ι, eight bits with feedback x⁸ + x⁶ + x⁵ + x⁴ + 1 (FIPS 202, 3.2.5), one step on. -/
def iotaStep (r : Nat) : Nat := if r < 128 then 2 * r else (2 * r - 256) ^^^ 0x71

/-- Seven output bits of the register placed at bits 2ʲ − 1 of a round constant, and the register after them. -/
def iotaConst (r : Nat) : Nat × Nat :=
  (List.range 7).foldl (fun z j => (z.1 + z.2 % 2 * 2 ^ (2 ^ j - 1), iotaStep z.2)) (0, r)

/-- The round constants of `n` rounds of Keccak-f[1600] from register value `r` on. -/
def iotaConsts : Nat → Nat → List Nat
  | 0, _ => []
  | n + 1, r => (iotaConst r).1 :: iotaConsts n (iotaConst r).2

/-- ρ: the lanes met by the walk (x, y) → (y, 2x + 3y) from place `i`, each with its rotation: step t turns by (t + 1)(t + 2) / 2 (FIPS 202, 3.2.2). -/
def rhoWalk : Nat → Nat → Nat → List (Nat × Nat)
  | 0, _, _ => []
  | n + 1, t, i => (i, (t + 1) * (t + 2) / 2 % 64) :: rhoWalk n (t + 1) (i / 5 + 5 * ((2 * (i % 5) + 3 * (i / 5)) % 5))

/-- The rotations by place; lane 0 is not on the walk and is not turned. -/
def rhoTurns : List Nat :=
  let walk := rhoWalk 24 0 1
  (List.range 25).map (fun i => match walk.find? (fun w => w.1 == i) with | some w => w.2 | none => 0)

/-- Lane `i` of a Keccak state. -/
def lane (a : List Nat) (i : Nat) : Nat := a.getD i 0

/-- One round of Keccak-f[1600]: θ, ρ and π, χ, ι. `turns` are the rotations of ρ. -/
def keccakRound (turns a : List Nat) (rc : Nat) : List Nat :=
  let c := (List.range 5).map (fun x => lane a x ^^^ lane a (x + 5) ^^^ lane a (x + 10) ^^^ lane a (x + 15) ^^^ lane a (x + 20))
  let d := (List.range 5).map (fun x => lane c ((x + 4) % 5) ^^^ rotl64 (lane c ((x + 1) % 5)) 1)
  let t := (List.range 25).map (fun i => rotl64 (lane a i ^^^ lane d (i % 5)) (turns.getD i 0))
  -- π: lane (x, y) of the result is lane ((x + 3y) mod 5, x) of the input
  let b := (List.range 25).map (fun i => lane t ((i % 5 + 3 * (i / 5)) % 5 + 5 * (i % 5)))
  let e := (List.range 25).map (fun i =>
    let x := i % 5
    let y := i / 5
    lane b i ^^^ ((2 ^ 64 - 1 - lane b ((x + 1) % 5 + 5 * y)) &&& lane b ((x + 2) % 5 + 5 * y)))
  match e with
  | [] => []
  | z :: zs => (z ^^^ rc) :: zs

/-- Keccak-f[1600]. -/
def keccakF (a : List Nat) : List Nat := (iotaConsts 24 1).foldl (keccakRound rhoTurns) a

/-- A block of 136 bytes taken into the state (the rate of SHA3-256 and KMAC256). -/
def absorb (a : List Nat) (block : List Byte) : List Nat :=
  keccakF ((List.range 25).map (fun i => lane a i ^^^ (if i < 17 then leAt block (8 * i) 8 else 0)))

/-- The sponge over whole blocks; `fuel` bounds their number. -/
def absorbAll : Nat → List Nat → List Byte → List Nat
  | 0, a, _ => a
  | fuel + 1, a, bs => if bs.length < 136 then a else absorbAll fuel (absorb a (bs.take 136)) (bs.drop 136)

/-- The padding of FIPS 202 with domain bits `dom`: `dom` in the byte after the message, the last bit of the block set. -/
def padSponge (bs : List Byte) (dom : Byte) : List Byte :=
  let n := 136 - bs.length % 136
  if n = 1 then bs ++ [dom ||| 0x80] else bs ++ [dom] ++ zeros (n - 2) ++ [0x80]

/-- The first `n` bytes (at most 136) of a Keccak state. -/
def squeeze (a : List Nat) (n : Nat) : List Byte := ((a.take 17).flatMap (leBytes 8)).take n

/-- The sponge of rate 136 bytes with domain bits `dom`, giving `n` bytes (at most 136). -/
def sponge (bs : List Byte) (dom : Byte) (n : Nat) : List Byte :=
  let p := padSponge bs dom
  squeeze (absorbAll (p.length / 136) (List.replicate 25 0) p) n

/-- SHA3-256. [log 8 DESIGN CHOICE] -/
def sha3 (bs : List Byte) : List Byte := sponge bs 0x06 32

/-- The bytes of `n`, most significant first, at least one. -/
def beBytes : Nat → Nat → List Byte
  | 0, _ => []
  | fuel + 1, n => if n < 256 then [BitVec.ofNat 8 n] else beBytes fuel (n / 256) ++ [BitVec.ofNat 8 n]

/-- left_encode of SP 800-185. -/
def leftEncode (n : Nat) : List Byte := let b := beBytes 8 n; BitVec.ofNat 8 b.length :: b

/-- right_encode of SP 800-185. -/
def rightEncode (n : Nat) : List Byte := let b := beBytes 8 n; b ++ [BitVec.ofNat 8 b.length]

/-- encode_string of SP 800-185. -/
def encodeString (bs : List Byte) : List Byte := leftEncode (8 * bs.length) ++ bs

/-- bytepad of SP 800-185 at the rate of 136 bytes. -/
def bytepad (bs : List Byte) : List Byte :=
  let x := leftEncode 136 ++ bs
  x ++ zeros ((136 - x.length % 136) % 136)

/-- The ASCII bytes of a string. -/
def ascii (x : String) : List Byte := x.toList.map (fun c => BitVec.ofNat 8 c.toNat)

/-- KMAC256 under customisation string `cust`, giving `n` bytes (at most 136). [log 8 DESIGN CHOICE] -/
def kmac256 (key msg : List Byte) (cust : String) (n : Nat) : List Byte :=
  sponge (bytepad (encodeString (ascii "KMAC") ++ encodeString (ascii cust)) ++ bytepad (encodeString key) ++ msg ++ rightEncode (8 * n)) 0x04 n

end Sys2Proof.Machine
end

