-- ==== Sys2Proof/Machine/Weirs.lean ====
section
/-! DEFINITION. Weirs (R338 to R350): the state record, the operations at a weir's sequence point, firing and the armed
actions. -/

namespace Sys2Proof.Machine

open Sys2Proof

/-- Weir `w`. -/
def Dev.weir (s : Dev) (w : Nat) : Weir := Tab.get {} s.weirs w

/-- The device with weir `w` changed. -/
def Dev.updWeir (s : Dev) (w : Nat) (f : Weir → Weir) : Dev := { s with weirs := Tab.upd {} s.weirs w f }

/-- The 32 bytes of a weir's action record (R345); a record never written is zero. -/
def Weir.actionBytes (w : Weir) : List Byte := bytesAt w.action 0 32

/-- An action record as it is held: a record of zeros is the record at rest. -/
def actionHeld (bs : List Byte) : List Byte := if bs.all (· == 0) then [] else bytesAt bs 0 32

/-- Whether 32 bytes hold an action record of an ActionKind, every other byte zero (R345). -/
def actionGood (kind : Nat) (bs : List Byte) : Bool :=
  let zero (lo n : Nat) : Bool := leAt bs lo n == 0
  match kind with
  | 1 => leAt bs 0 8 % 8 == 0 && decide (leAt bs 18 1 ≤ 2) && decide (leAt bs 19 1 < 8) && zero 20 12
  | 2 => decide (leAt bs 0 1 < 40) && zero 1 7 && leAt bs 8 8 % 64 == 0 && zero 16 16
  | 3 => decide (leAt bs 0 1 < 16) && (decide (leAt bs 1 1 < 16) || leAt bs 1 1 == 0xFF) && zero 2 30
  | _ => false

/-- Whether a record is one of some ActionKind: any other carries a reserved encoding (R12, R345). -/
def actionOk (bs : List Byte) : Bool := actionGood 1 bs || actionGood 2 bs || actionGood 3 bs

/-- The armed difference d = Count − Base, by signed 32-bit difference (R339). -/
def Weir.diff (w : Weir) : Int := stampDiff 32 w.count w.base

/-- The 16-byte state record (R338). -/
def Dev.weirRecord (s : Dev) (n : Nat) : List Byte :=
  let w := s.weir n
  let o := s.weirOwner n
  leBytes 4 w.count ++ leBytes 4 w.base ++ leBytes 3 w.target ++
  leBytes 1 (b2n w.armed + 2 * b2n w.rearm + 4 * b2n w.reached + 8 * b2n w.empty + 16 * b2n w.held + 32 * b2n w.lost) ++
  leBytes 2 ((if o < 8 then o else 0xF) + 16 * w.actionKind) ++ leBytes 2 w.refusals

/-- Where a path of a tenant leads (R345, R432, R437): host port `h` for an attachment, 4 + slot for its Ethernet session. -/
def Dev.pathOf (s : Dev) (t path : Nat) : Option Nat :=
  if path < 2 then
    (List.range 4).find? (fun h => s.portState h == 2 && s.getF (Obj.attachState h) 8 4 == t && s.getF (Obj.attachState h) 12 1 == path)
  else
    ((List.range 2).find? (fun k => s.slotAttached k && s.getF (Obj.sessionState k) 0 8 == t)).map (4 + ·)

/-- The interrupt datagram of a host notify on path 2 (R345, R438), sent to session slot `k`. -/
def Dev.notifyDatagram (s : Dev) (w k vector value : Nat) : Dev :=
  let ss := s.session (4 + k)
  let body := leBytes 2 0x0100 ++ leBytes 2 w ++ leBytes 2 vector ++ zeros 2 ++ leBytes 8 value ++
    leBytes 10 (t80 s.dt) ++ leBytes 4 ss.notifySeq ++ zeros 2
  let next := if ss.notifySeq = 0xFFFFFFFF then 1 else ss.notifySeq + 1
  (s.emit (.datagram k (s.rd (Obj.notifyPort k)) (body ++ kmac256 ss.recordKey body "NOTIFY" 16))).updSession (4 + k)
    (fun x => { x with notifySeq := next })

/-- Whether die `d` is in the safe state or lost: a compute die then takes no weir operation, an I/O die gives no output (R558, R560). [log 41 DEDUCED, 74 DESIGN CHOICE] -/
def Dev.dieOut (s : Dev) (d : Nat) : Bool := s.rd (Obj.dieHealth d) != 0

/-- Whether the output pads of IOD0 base (179) or IOD1 base (180) stand still: latched (R536), or their die in the safe state (R558). [log 41 DEDUCED] -/
def Dev.padsHeld (s : Dev) (n : Nat) : Bool := s.bit (Obj.domainState n) 3 || s.dieOut (n - 175)

/-- The I/O die that carries a path: the endpoint of a host port, or the Ethernet port of a session. -/
def Dev.pathDie (s : Dev) (p : Nat) : Nat := if p < 4 then 4 + p / 2 else 4 + (s.session p).ethPort

/-- The host notify of weir `w` (R345): the write, then the MSI-X message; on path 2 one datagram; without a path, or
with the die of the path in the safe state (R558), it is dropped and Lost is set. [log 41 DEDUCED, 95 DEDUCED] -/
def Dev.hostNotify (s : Dev) (w : Nat) : Dev :=
  let a := (s.weir w).actionBytes
  let fl := leAt a 19 1
  let wantWrite := bitAt fl 0
  let wantMsix := bitAt fl 1
  let value := if bitAt fl 2 then (s.weir w).count else leAt a 8 8
  match (s.pathOf (s.weirOwner w) (leAt a 18 1)).filter (fun p => !s.dieOut (s.pathDie p)) with
  | none => s.updWeir w (fun x => { x with lost := true })
  | some p =>
    let s := s.updWeir w (fun x => { x with lost := false })
    if p < 4 then
      let s := if wantWrite then s.emit (.hostWrite p (leAt a 0 8) (leBytes 8 value) false) else s
      if wantMsix then s.emit (.msix p (leAt a 16 2)) else s
    else if wantWrite || wantMsix then
      s.notifyDatagram w (p - 4) (if wantMsix then leAt a 16 2 else 0xFFFF) (if wantWrite then value else 0)
    else s

/-- The ferry start of weir `w` (R345, R309): it is on its way to the ferry under the weir owner's rights. -/
def Dev.weirFerryStart (s : Dev) (w : Nat) : Dev :=
  let a := (s.weir w).actionBytes
  { s.updWeir w (fun x => { x with lost := false }) with
    starts := s.starts ++ [{ ferry := leAt a 0 1, addr := leAt a 8 8, tenant := s.weirOwner w, weir := w }] }

/-- A plan-phase request (R366): it waits at the slot; a request that still waits is replaced and counted. [log 75 DEDUCED] -/
def Dev.requestPhase (s : Dev) (slot phase : Nat) : Dev :=
  let had := Tab.get 0 s.phaseReq slot != 0
  let s := { s with phaseReq := Tab.put 0 s.phaseReq slot (phase + 1) }
  if had then s.bump (Obj.phaseRequestsReplaced slot) else s

/-- The plan-phase action of weir `w` (R345): a slot that the weir's owner does not hold, or a phase that its plan does not
have, makes it undeliverable. -/
def Dev.weirPhase (s : Dev) (w : Nat) : Dev :=
  let a := (s.weir w).actionBytes
  let slot := leAt a 0 1
  let phase := leAt a 1 1
  if slot < 16 && s.rd (Obj.planOwner slot) == s.weirOwner w && s.rd (Obj.planState slot) != 0 &&
      (phase == 0xFF || phase < Tab.get 0 s.planPhases slot) then
    (s.updWeir w (fun x => { x with lost := false })).requestPhase slot phase
  else s.updWeir w (fun x => { x with lost := true })

/-- The armed action of weir `w` is issued (R345). -/
def Dev.weirAction (s : Dev) (w : Nat) : Dev :=
  match (s.weir w).actionKind with
  | 1 => s.hostNotify w
  | 2 => s.weirFerryStart w
  | 3 => s.weirPhase w
  | _ => s

/-- WEIR_FIRE (R342): a weir left armed with d ≥ Target sets Reached, issues its action, and advances Base over every target
crossed or, without Rearm, disarms. -/
def Dev.weirSettle (s : Dev) (w : Nat) : Dev :=
  let x := s.weir w
  if x.armed && decide ((x.target : Int) ≤ x.diff) then
    let d := x.diff.toNat
    let s := (s.updWeir w (fun y => { y with reached := true })).weirAction w
    s.updWeir w (fun y =>
      if x.rearm then { y with base := wrapAdd 32 y.base (x.target * (d / x.target)) } else { y with armed := false })
  else s

/-- A WAIT's condition: Count − Value ≥ 0 by signed difference (R340, R339). -/
def Dev.waitMet (s : Dev) (w v : Nat) : Bool := decide (0 ≤ stampDiff 32 (s.weir w).count v)

/-- Waits held at their requesters are taken by a die as long as it holds fewer than 2,048; one whose condition `met` already holds completes
at once (R344). [log 69 DEDUCED] -/
def admitWaits (met : PendingWait → Bool) (d : Nat) : Nat → List PendingWait → List PendingWait
  | _, [] => []
  | n, p :: ps =>
    if p.weir / 4096 = d then
      if p.registered then p :: admitWaits met d n ps
      else if 0 < n then
        if met p then admitWaits met d n ps else { p with registered := true } :: admitWaits met d (n - 1) ps
      else p :: admitWaits met d n ps
    else p :: admitWaits met d n ps

/-- The waits registered with compute die `d` (R344). -/
def Dev.waitsOn (s : Dev) (d : Nat) : Nat := (s.waits.filter (fun p => p.registered && p.weir / 4096 == d)).length

/-- Die `d` takes waits that were held (R344). -/
def Dev.admitDie (s : Dev) (d : Nat) : Dev :=
  { s with waits := admitWaits (fun p => s.waitMet p.weir p.value) d (2048 - s.waitsOn d) s.waits }

/-- The waits on weir `w` whose condition now holds complete, and the die takes waits that were held (R344). -/
def Dev.completeWaits (s : Dev) (w : Nat) : Dev :=
  { s with waits := s.waits.filter (fun p => !(p.weir == w && p.registered && s.waitMet w p.value)) }.admitDie (w / 4096)

/-- The waits that `p` picks are no more; each die takes waits that were held (R344). -/
def Dev.dropWaits (s : Dev) (p : PendingWait → Bool) : Dev :=
  (List.range 4).foldl (fun (s : Dev) d => s.admitDie d) { s with waits := s.waits.filter (fun w => !p w) }

/-- The Count a weir's operation leaves, the firing it makes and the waits it completes, as one operation (R342, R344). -/
def Dev.weirApply (s : Dev) (w : Nat) (f : Weir → Weir) : Dev :=
  (((s.updWeir w f).weirSettle w).completeWaits w).meter (Obj.weirOpLoad (w / 4096)) 1

/-- The tenant on whose behalf a weir operation is made (R341); none where no tenant is (R99). -/
def Dev.weirActor (s : Dev) (src : WeirSource) (w : Nat) : Option Nat :=
  match src with
  | .window p => s.tenantOf (.mailbox p 0)
  | .request q => s.tenantOf q
  | .cluster c => some (s.rd (Obj.clusterOwner c.val))
  | .ferry f => ((Tab.get {} s.ferries f.val).cur).map (·.tenant)
  | .blockOwner => some (s.weirOwner w)

/-- Whether an operation's source is the custodian, who may operate any weir (R341); never a trigger's or a capture's add (R99). -/
def Dev.weirCustodian (s : Dev) (src : WeirSource) : Bool :=
  match src with
  | .window p => s.isCustodian (.mailbox p 0)
  | .request q => s.isCustodian q
  | _ => false

/-- Whether weir `w` may be operated by `src` (R341, R99): the custodian, or the tenant that owns it. -/
def Dev.mayOperate (s : Dev) (src : WeirSource) (w : Nat) : Bool :=
  s.weirCustodian src || (s.weirOwner w < 8 && decide (s.weirActor src w = some (s.weirOwner w)))

/-- A refused operation changes nothing but Refusals (R338, R341). -/
def Dev.weirRefuse (s : Dev) (w : Nat) : Dev :=
  s.updWeir w (fun x => { x with refusals := satAdd 16 x.refusals 1 })

/-- The fault counter `k` (from 0) of queue `q` (R573). -/
def faultCtr (q k : Nat) : Reg := Obj.faultCounter q k

/-- An operation reaches the weir's die: in the safe state it is discarded and counted (R558); from a source without rights it
is refused (R341); otherwise it takes effect. The status is what WeirOp returns. [log 73 DEDUCED] -/
def Dev.weirOp (s : Dev) (src : WeirSource) (w : Nat) (valid : Bool) (f : Weir → Weir) : Dev × Status :=
  if s.dieOut (w / 4096) then (s.bump (faultCtr (w / 4096) 9), .unavailable)
  else if !s.mayOperate src w then (s.weirRefuse w, .rights)
  else if !valid then (s.weirRefuse w, .range)
  else ((s.firstWake (132 + w / 4096)).weirApply w f, .ok)

/-- The effect of ADD n, with or without the empty mark (R340). -/
def Weir.add (n : Nat) (empty : Bool) (x : Weir) : Weir :=
  { x with count := wrapAdd 32 x.count n, empty := x.empty || empty }

/-- The effect of ARM (R340): `v` is laid out as the window's ARM word (R347). -/
def Weir.arm (v : Nat) (x : Weir) : Weir :=
  { x with base := (if bitAt v 24 then 0 else x.count), target := field v 0 24, rearm := bitAt v 25,
           actionKind := field v 26 2, armed := true }

/-- An ARM word that is accepted: a Target, an ActionKind, and no reserved bit (R340, R347, R12). -/
def armValid (v : Nat) : Bool := field v 0 24 != 0 && field v 26 2 != 0 && decide (v < 2 ^ 28)

/-- The effect of DISARM (R340). -/
def Weir.disarm (x : Weir) : Weir := { x with armed := false, rearm := false }

/-- The effect of RESET (R340): the arming and the action record stay. -/
def Weir.reset (x : Weir) : Weir :=
  { x with count := 0, base := 0, reached := false, empty := false, held := false, lost := false }

/-- Adds made by a unit of the device with the rights of the weir's owner (R99), or by a cluster, a ferry or Confluence. -/
def Dev.weirAdd (s : Dev) (src : WeirSource) (w n : Nat) (empty : Bool) : Dev := (s.weirOp src w true (Weir.add n empty)).1

/-- An add on behalf of tenant `t` (a phase's own adds, Outfall's and Confluence's): it takes effect only where `t` owns the
weir (R341). [log 73 DEDUCED] -/
def Dev.weirAddFor (s : Dev) (t w n : Nat) (empty : Bool) : Dev :=
  if s.dieOut (w / 4096) then s.bump (faultCtr (w / 4096) 9)
  else if t < 8 && s.weirOwner w == t then (s.firstWake (132 + w / 4096)).weirApply w (Weir.add n empty)
  else s.weirRefuse w

/-- A weir in its reset state with a zero action record (R338, R350). -/
def Dev.weirClear (s : Dev) (w : Nat) : Dev := { s with weirs := Tab.erase s.weirs w }

/-- The answer of an operation made through WeirOp; a window write returns nothing (R347, R348). [log 74 DESIGN CHOICE] -/
def Dev.weirReply (s : Dev) (src : WeirSource) (st : Status) : Dev :=
  match src with
  | .request q => s.replyStatus q st
  | _ => s

end Sys2Proof.Machine
end

