-- ==== Sys2Proof/Machine/Emit.lean ====
section
/-! DEFINITION. How a source hands its output to an Outfall channel (R444, R451): EVENTS and SPIKES words gather in a batch
per source, and a payload that is whole waits for its record to be formed. -/

namespace Sys2Proof.Machine

open Sys2Proof

/-- Outfall channel `n`. -/
def Dev.chan (s : Dev) (n : Nat) : Chan := Tab.get {} s.chans n

/-- The device with channel `n` changed. -/
def Dev.updChan (s : Dev) (n : Nat) (f : Chan → Chan) : Dev := { s with chans := Tab.upd {} s.chans n f }

/-- The state of a channel (R459): 0 disabled, 1 running, 2 paused. -/
def Dev.chanState (s : Dev) (n : Nat) : Nat := s.getF (Obj.outfallStatus n) 0 2

/-- A payload handed to channel `n` (R444): a disabled channel takes none. -/
def Dev.emitRecord (s : Dev) (n type : Nat) (payload : List Byte) (poisoned : Bool) : Dev :=
  if n < 64 && s.chanState n != 0 then s.updChan n (fun c => { c with ready := c.ready ++ [⟨type, payload, poisoned⟩] }) else s

/-- The payload of a batch: its words in order, 8 bytes each (R447). -/
def Batch.payload (b : Batch) : List Byte := (b.words.map (leBytes 8)).flatten

/-- A batch closes (R451): it waits to be formed. -/
def Dev.closeBatch (s : Dev) (n type source : Nat) : Dev :=
  match (s.chan n).batches.find? (fun b => b.type == type && b.source == source) with
  | none => s
  | some b => (s.updChan n (fun c => { c with batches := c.batches.filter (fun x => !(x.type == type && x.source == source)) })).emitRecord
      n type b.payload b.poisoned

/-- The words of a batch, none where it is not open. -/
def Dev.batchSize (s : Dev) (n type source : Nat) : Nat :=
  match (s.chan n).batches.find? (fun b => b.type == type && b.source == source) with
  | none => 0
  | some b => b.words.length

/-- Words that belong together added to an EVENTS or SPIKES batch (R451): the record closes when it holds BatchWords words, and
words of one feature record are never split between two. -/
def Dev.addWords (s : Dev) (n type source : Nat) (ws : List Nat) (poisoned : Bool) : Dev :=
  if n < 64 && s.chanState n != 0 then
    let limit := s.rd (Obj.batchWords n)
    let s := if s.batchSize n type source + ws.length > limit then s.closeBatch n type source else s
    let s := s.updChan n (fun c =>
      if c.batches.any (fun b => b.type == type && b.source == source) then
        { c with batches := c.batches.map (fun b =>
            if b.type == type && b.source == source then { b with words := b.words ++ ws, poisoned := b.poisoned || poisoned } else b) }
      else { c with batches := c.batches ++ [⟨type, source, ws, s.rf, poisoned⟩] })
    if s.batchSize n type source ≥ limit then s.closeBatch n type source else s
  else s

end Sys2Proof.Machine
end

