-- ==== Sys2Proof/Machine/Sluices.lean ====
section
/-! DEFINITION. Sluices (R292 to R302): the queue between a writer and a reader, packets, replay, rewind and flush. The
commands stand in Machine/SluiceOps.lean, after the fault engine that a failing read reports to. -/

namespace Sys2Proof.Machine

open Sys2Proof

/-- The number a sluice has in the state. -/
def sluiceKey : SluiceRef → Nat
  | .cluster c k => c.val * 8 + k.val
  | .boundary l k far => 1024 + (l.val * 32 + k.val) * 2 + b2n far

/-- The entries of a sluice (R292, R71). -/
def sluiceDepth (key : Nat) : Nat := if key < 1024 then 128 else 32

/-- The die at whose end a boundary sluice lies: link 2d + i joins CDd to IODi, hop 8 + d joins CDd to its neighbour (R553). -/
def linkDie (l : Nat) (far : Bool) : Nat :=
  if l < 8 then (if far then 4 + l % 2 else l / 2) else (if far then (l - 7) % 4 else l - 8)

/-- The die that holds a sluice. -/
def sluiceDie (key : Nat) : Nat :=
  if key < 1024 then key / 256 else linkDie ((key - 1024) / 64) ((key - 1024) % 2 == 1)

/-- Sluice `key`. -/
def Dev.sluice (s : Dev) (key : Nat) : Sluice := Tab.get {} s.sluices key

/-- The device with a sluice changed. -/
def Dev.updSluice (s : Dev) (key : Nat) (f : Sluice → Sluice) : Dev := { s with sluices := Tab.upd {} s.sluices key f }

/-- Uncommitted entries (R302): the words of the open packet, with the partly packed one; while the writer's words are discarded, none. -/
def Sluice.uncommitted (x : Sluice) : Nat := x.opened.length + (if x.part.isSome && !x.discarding then 1 else 0)

/-- Occupied entries (R295): committed, read and unreleased, or uncommitted. -/
def Sluice.occupied (x : Sluice) : Nat := x.words.length + x.uncommitted

/-- Whether the writer is held (R295). -/
def Sluice.full (x : Sluice) (depth : Nat) : Bool := decide (depth ≤ x.occupied)

/-- Words committed and not yet read (R302). -/
def Sluice.waiting (x : Sluice) : Nat := x.words.length - x.taken

/-- SluiceStatus (R302). -/
def Sluice.status (x : Sluice) (depth : Nat) : Nat :=
  x.waiting + x.uncommitted * 2 ^ 8 + x.taken * 2 ^ 16 + b2n (x.full depth) * 2 ^ 24 +
  b2n (x.waiting == 0) * 2 ^ 25 + b2n (x.uncommitted != 0) * 2 ^ 26 + b2n x.discarding * 2 ^ 27 + x.reason * 2 ^ 28

/-- Words that a sluice discards (R294, R298, R299): cluster sluices count them in their cluster. -/
def Dev.sluiceDiscard (s : Dev) (key n : Nat) : Dev :=
  if key < 1024 then s.bumpBy (Obj.sluiceDiscardedWords (key / 8)) n else s

/-- Even parity over bits [8:0] of a tag (R292). -/
def tagParity (t : Nat) : Bool := (List.range 9).foldl (fun p i => p != bitAt t i) false

/-- The word of an entry as it is written, with its parity (R292). -/
def SluiceWord.of (data valid : Nat) (last poisoned : Bool) : SluiceWord :=
  { data := data, valid := valid, last := last, parity := tagParity (valid + b2n last * 2 ^ 8), poisoned := poisoned }

/-- The ten bits of a tag (R292). -/
def SluiceWord.tag (w : SluiceWord) : Nat := w.valid + b2n w.last * 2 ^ 8 + b2n w.parity * 2 ^ 9

/-- A read of sluice `key` completes (R296): its reader receives a word. [log 68 DEDUCED] -/
def Dev.sluiceGive (s : Dev) (key : Nat) (w : SluiceWord) : Dev := s.emit (.sluiceData key w.data w.tag true w.poisoned)

/-- A polling read of sluice `key` that finds nothing (R296): Valid clear, data and tag zero. -/
def Dev.sluiceNothing (s : Dev) (key : Nat) : Dev := s.emit (.sluiceData key 0 0 false false)

/-- A flush (R299): every occupied entry goes; a writer in mid-packet is discarded up to its next Last. [log 68 DEDUCED] -/
def Dev.sluiceFlush (s : Dev) (key : Nat) : Dev :=
  let x := s.sluice key
  let mid : Bool := x.uncommitted != 0
  let s := (s.updSluice key (fun x => { x with words := [], taken := 0, opened := [], part := none,
                                               discarding := x.discarding || mid, reason := 2 })).sluiceDiscard key x.occupied
  if key < 1024 then s.bump (Obj.sluiceFlushes (key / 8)) else s

/-- The eight sluices of a cluster flushed (R558, R563). [log 68 DEDUCED] -/
def Dev.flushCluster (s : Dev) (c : Nat) : Dev := s.each 8 (fun k s => s.sluiceFlush (c * 8 + k))

/-- A rewind (R298): the words of the open packet go. -/
def Dev.sluiceRewind (s : Dev) (key : Nat) : Dev :=
  let x := s.sluice key
  (s.updSluice key (fun x => { x with opened := [], part := if x.discarding then x.part else none, reason := 1 })).sluiceDiscard key x.uncommitted

/-- A unit of cluster `c` whose tile is abandoned rewinds its output packet (R298, R243). Which outbound sluice holds that unit's open packet, if
any does, no rule says: an open value for each that is in mid-packet. [log 112 DESIGN CHOICE] -/
def Dev.rewindUnit (s : Dev) (c : Nat) : Dev :=
  s.each 4 (fun k s =>
    let key := c * 8 + 4 + k
    if (s.sluice key).uncommitted = 0 then s else (if s.open_ % 2 = 1 then s.sluiceRewind key else s).drawn)

/-- The words of a sluice that are not released become unread again, and the read that its reader held ends with that reader (R24, R297). -/
def Dev.sluiceAgain (s : Dev) (key : Nat) : Dev := s.updSluice key (fun x => { x with taken := 0, readWaits := none })

end Sys2Proof.Machine
end

