-- ==== Sys2Proof/Machine/PlanCore.lean ====
section
/-! DEFINITION. Plan slots as the rest of the device sees them: what a loaded plan names, what runs in its present phase,
and how a plan stops (R366, R368, R213). -/

namespace Sys2Proof.Machine

open Sys2Proof

/-- Plan slot `p`. -/
def Dev.plan (s : Dev) (p : Nat) : PlanSlot := Tab.get {} s.plans p

/-- The device with a plan slot changed. -/
def Dev.updPlan (s : Dev) (p : Nat) (f : PlanSlot → PlanSlot) : Dev := { s with plans := Tab.upd {} s.plans p f }

/-- Whether slot `p` holds a loaded plan (R366): LOADED, RUNNING, STOPPING or FAULTED. -/
def Dev.planLoaded (s : Dev) (p : Nat) : Bool := decide (2 ≤ s.rd (Obj.planState p))

/-- Whether slot `p` runs (R366). -/
def Dev.planRuns (s : Dev) (p : Nat) : Bool := s.rd (Obj.planState p) == 3

/-- The loaded slots. -/
def Dev.loadedPlans (s : Dev) : List Nat := (List.range 16).filter s.planLoaded

/-- Whether a phase mask names phase `q`. -/
def inPhase (mask q : Nat) : Bool := decide (q < 16) && bitAt mask q

/-- Whether a cluster is named by a plan: placed, or taken as an alternate. -/
def PlanSlot.namesCluster (x : PlanSlot) (c : Nat) : Bool := x.places.any (fun e => e.cluster == c)

/-- Every weir a plan names: in its WEIRMAP, in its descriptors, as a count weir, and in its layers (R310, R361, R365). -/
def PlanSlot.weirNames (x : PlanSlot) : List Nat :=
  x.allWeirs.map (·.weir) ++ x.chainWeirs ++ x.pops.map (·.countWeir) ++
  x.layers.flatMap (fun e => e.weir :: (e.halos.map (·.fillWeir) ++ (e.halos.map (·.freeWeir)).filter (· != 0xFFFF)))

/-- Whether a channel is named by a plan. -/
def PlanSlot.namesChannel (x : PlanSlot) (n : Nat) : Bool := x.channels.any (fun e => e.channel == n)

/-- Whether a plan starts a chain on a ferry, in a phase, in an alternate or from a weir. -/
def PlanSlot.namesFerry (x : PlanSlot) (f : Nat) : Bool :=
  x.phases.any (fun e => e.starts.any (fun p => p.1 == f)) || x.alternates.any (fun e => e.starts.any (fun p => p.1 == f)) ||
  x.weirs.any (fun e => field e.armFlags 2 2 == 2 && leAt e.action 0 1 == f)

/-- The die of a ferry (R306). -/
def ferryDie (f : Nat) : Nat := if f < 32 then f / 8 else if f < 36 then 4 else 5

/-- Whether a plan holds a cluster or a ferry of die `d` (R558). -/
def PlanSlot.holdsDie (x : PlanSlot) (d : Nat) : Bool :=
  x.places.any (fun e => e.cluster / 32 == d) || (List.range 40).any (fun f => ferryDie f == d && x.namesFerry f)

/-- The clusters a plan places in phase `q`. -/
def PlanSlot.phaseClusters (x : PlanSlot) (q : Nat) : List Nat := ((x.places.filter (fun e => e.phase == q)).map (·.cluster)).eraseDups

/-- Whether a cluster carries work: a running plan's present phase places it (R290, R561). -/
def Dev.clusterBusy (s : Dev) (c : Nat) : Bool :=
  (List.range 16).any (fun p => (s.planRuns p || s.rd (Obj.planState p) == 4) &&
    ((s.plan p).phaseClusters (s.rd (Obj.phaseNow p))).contains c)

/-- Whether an address lies in a plan's CHAINS section as it is placed (R359). -/
def PlanSlot.ownsChain (x : PlanSlot) (a : Nat) : Bool := decide (x.chainsBase ≤ a) && decide (a < x.chainsBase + 64 * x.descriptors)

/-- Population `h`. -/
def Dev.pop (s : Dev) (h : Nat) : Pop := Tab.get {} s.pops h

/-- The device with a population changed. -/
def Dev.updPop (s : Dev) (h : Nat) (f : Pop → Pop) : Dev := { s with pops := Tab.upd {} s.pops h f }

/-- The plan's entry of population `h`. -/
def Dev.popEntry (s : Dev) (h : Nat) : Option PopEntry := (s.plan (s.pop h).slot).pops[(s.pop h).entry]?

/-- The neurons of a population: their keys in `neurons`, with neuron numbers, on cluster `c`. -/
def PopEntry.unitsOn (e : PopEntry) (c : Nat) : List NeuronMap := e.map.filter (fun m => m.cluster == c)

/-- The key of a neuron. -/
def neuronKey (c u i : Nat) : Nat := (c * 16 + u) * 4096 + i

/-- Whether a cluster is in shoal mode (R181). -/
def Dev.shoalMode (s : Dev) (c : Nat) : Bool := s.rd (Obj.clusterMode c) == 1

/-- Whether a cluster is in basin mode (R181). -/
def Dev.basinMode (s : Dev) (c : Nat) : Bool := s.rd (Obj.clusterMode c) == 2

/-- The accumulators of a population's neurons on cluster `c` cleared, with their residues (R213, R268). -/
def Dev.clearAccs (s : Dev) (e : PopEntry) (c : Nat) : Dev :=
  let keep (x : Nat × Nat) : Bool := !((e.unitsOn c).any (fun m =>
    decide (neuronKey m.cluster m.unit m.firstIndex ≤ x.1) && decide (x.1 < neuronKey m.cluster m.unit m.firstIndex + m.count)))
  { s with accs := s.accs.filter keep, residues := s.residues.filter keep }

/-- The clusters that hold neurons of a population. -/
def PopEntry.clusters (e : PopEntry) : List Nat := (e.map.map (·.cluster)).eraseDups

/-- A population stops (R213): the open tick's accumulators are discarded and counted, and it enters STOPPED. -/
def Dev.popStop (s : Dev) (h : Nat) : Dev :=
  if s.getF (Obj.popState h) 0 2 == 2 then
    match s.popEntry h with
    | none => s
    | some e =>
      let s := e.clusters.foldl (fun s c => s.clearAccs e c) s
      ((s.bump (Obj.popCounter h 10)).setF (Obj.popState h) 0 2 1).setF (Obj.popState h) 2 2 0
  else s

/-- Layer `l`. -/
def Dev.layer (s : Dev) (l : Nat) : Layer := Tab.get {} s.layers l

/-- The device with a layer changed. -/
def Dev.updLayer (s : Dev) (l : Nat) (f : Layer → Layer) : Dev := { s with layers := Tab.upd {} s.layers l f }

/-- Counter `k` (from 0) of layer `l` (R246). -/
def layerCtr (l k : Nat) : Reg := Obj.layerCounter l k

/-- HaloWaitMicroseconds of layer `l` brought up to the present (R246). -/
def Dev.haloSettle (s : Dev) (l : Nat) : Dev :=
  let z := s.layer l
  let ns := z.haloNs + (if z.halo = [] then 0 else s.rf - z.haloF)
  (s.bumpBy (layerCtr l 2) (ns / 1000)).updLayer l (fun z => { z with haloNs := ns % 1000, haloF := s.rf })

/-- A layer stops (R368): tiles in progress complete, none is issued after them, no unit waits for one, and no window is open. -/
def Dev.layerStop (s : Dev) (l : Nat) : Dev :=
  if s.getF (Obj.layerState l) 0 2 == 2 then
    (((s.haloSettle l).updLayer l (fun z => { z with halo := [] })).setF (Obj.layerState l) 0 2 1).setBit (Obj.layerState l) 4 false
  else s

/-- Ferry `f`. -/
def Dev.ferry (s : Dev) (f : Nat) : Ferry := Tab.get {} s.ferries f

/-- The device with a ferry changed; FerryState shows its queued starts (R336). -/
def Dev.updFerry (s : Dev) (f : Nat) (g : Ferry → Ferry) : Dev :=
  let s := { s with ferries := Tab.upd {} s.ferries f g }
  s.setF (Obj.ferryState f) 2 5 (s.ferry f).starts.length

/-- The running plan to whose present phase a waiter belongs (R367): a steward core of a cluster that it places, or a ferry that runs its chain. -/
def Dev.waiterPlan (s : Dev) (who : Waiter) : Option Nat :=
  (List.range 16).find? (fun p => s.planRuns p && (match who with
    | .steward c => ((s.plan p).phaseClusters (s.rd (Obj.phaseNow p))).contains c
    | .ferry f => (match (s.ferry f).cur with | some c => (s.plan p).ownsChain c.addr | none => false)))

/-- The stall limit of a wait that begins now, in ns (R364, R367): 0 outside a running phase. -/
def Dev.stallLimit (s : Dev) (who : Waiter) : Nat :=
  match s.waiterPlan who with
  | none => 0
  | some p =>
    1000 * (match (s.plan p).stalls.find? (fun z => z.1 == s.rd (Obj.phaseNow p) && z.2 != 0) with
      | some z => z.2
      | none => s.rd (Obj.stallTimeout p))

/-- A chain of the plan that runs on ferry `f`, and its queued starts, end (R368). -/
def Dev.ferryStop (s : Dev) (x : PlanSlot) (f : Nat) : Dev :=
  let ends := match (s.ferry f).cur with | some c => x.ownsChain c.addr | none => false
  let s := s.updFerry f (fun y => { y with starts := y.starts.filter (fun c => !x.ownsChain c.addr) })
  if ends then
    let s := (s.updFerry f (fun y => { y with cur := none, pc := 0, waiting := false, refused := false })).setF (Obj.ferryState f) 0 2 0
    s.dropWaits (fun w => decide (w.waiter = Waiter.ferry f))
  else s

/-- The plan of slot `p` stops (R368) and is STOPPING; `faulting` when it will be FAULTED (R366). -/
def Dev.planStop (s : Dev) (p : Nat) (faulting : Bool) : Dev :=
  let x := s.plan p
  let s := s.wr (Obj.planState p) 4
  let s := s.updPlan p (fun x => { x with faulting := x.faulting || faulting, starting := 0 })
  let s := x.popHandles.foldl (fun s h => s.popStop h) s
  let s := x.layerHandles.foldl (fun s l => s.layerStop l) s
  let s := (s.heldStarts.filter (fun c => x.ownsChain c.addr)).foldl (fun s c => s.updWeir c.weir (fun w => { w with held := false })) s
  let s := { s with starts := s.starts.filter (fun c => !x.ownsChain c.addr),
                    heldStarts := s.heldStarts.filter (fun c => !x.ownsChain c.addr) }
  let s := s.each 40 (fun f s => s.ferryStop x f)
  x.weirs.foldl (fun s e => s.updWeir e.weir Weir.disarm) s

/-- A loaded plan enters STOPPING on its way to FAULTED; one that stops already will be FAULTED (R366, R558). -/
def Dev.planFault (s : Dev) (p : Nat) : Dev :=
  if s.planRuns p || s.rd (Obj.planState p) == 2 then s.planStop p true
  else if s.rd (Obj.planState p) == 4 then s.updPlan p (fun x => { x with faulting := true })
  else s

end Sys2Proof.Machine
end

