-- ==== Sys2Proof/Machine/Faults.lean ====
section
/-! DEFINITION. The fault engines (R551 to R574): which queue an element's entry goes to, merging, escalation, isolation,
the safe state, and the FAULT and TERMINAL records. The handling commands stand in Machine/Recovery.lean. -/

namespace Sys2Proof.Machine

open Sys2Proof

/-! ### Elements -/

/-- The value of an element in an entry (R553). -/
def Elem.value : Elem → Nat
  | .unit g => g
  | .cluster c => c
  | .clusterSluice c k => c * 8 + k
  | .region r => r
  | .die d => d
  | .link l => l
  | .boundarySluice l k => l * 32 + k
  | .lane l n => l * 64 + n
  | .gddrChannel ch => ch
  | .ferry f => f
  | .mereBank d b => d * 64 + b
  | .eddy d => d
  | .rail r => r
  | .timeBase => 4
  | .hostPort h => h
  | .master k n => k * 4096 + n

/-- The level of an element (R553): 1 to 6, or 0 outside the hierarchy. -/
def Elem.level : Elem → Nat
  | .unit _ => 2
  | .cluster _ => 3
  | .clusterSluice _ _ => 3
  | .region _ => 4
  | .die d => if d < 4 then 5 else 0
  | .master k _ => if k = 0 then 2 else if k = 1 ∨ k = 2 then 3 else 0
  | _ => 0

/-- The parent of an element in the chain of R556; none at the top. -/
def Elem.parent : Elem → Option Elem
  | .unit g => some (.cluster (g / 16))
  | .clusterSluice c _ => some (.cluster c)
  | .cluster c => some (.region (c / 8))
  | .region r => some (.die (r / 4))
  | .boundarySluice l _ => some (.link l)
  | .lane l _ => some (.link l)
  | .link l => some (.die (linkDie l false))
  | .gddrChannel ch => some (.die (if ch < 4 then 4 else 5))
  | .ferry f => some (.die (ferryDie f))
  | .mereBank d _ => some (.die d)
  | .eddy d => some (.die d)
  | _ => none

/-- Whether `x` is `e` or a descendant of it within `n` generations. -/
def within : Nat → Elem → Elem → Bool
  | 0, x, e => decide (x = e)
  | n + 1, x, e => decide (x = e) || (match x.parent with | some p => within n p e | none => false)

/-- Whether `x` is `e` or a descendant of it. -/
def Elem.under (x e : Elem) : Bool := within 5 x e

/-- The host port's I/O die: endpoint 0, with H0 and H1, lies on IOD0 and endpoint 1 on IOD1 (R429). -/
def portDie (h : Nat) : Nat := if h < 2 then 4 else 5

/-- The queue that an element's entries go to (R552, R366). [log 42 DEDUCED] -/
def Elem.queue : Elem → Nat
  | .unit g => g / 512
  | .cluster c => c / 32
  | .clusterSluice c _ => c / 32
  | .region r => r / 4
  | .die d => d
  | .link l => linkDie l false
  | .boundarySluice l _ => linkDie l false
  | .lane l _ => linkDie l false
  | .gddrChannel ch => if ch < 4 then 4 else 5
  | .ferry f => ferryDie f
  | .mereBank d _ => d
  | .eddy d => d
  | .rail _ => 4
  | .timeBase => 4
  | .hostPort h => portDie h
  | .master k n =>
    match k with
    | 0 => n / 512
    | 1 => n / 32
    | 2 => n / 64
    | 3 => ferryDie n
    | 5 => if n < 18 then 4 else 5
    | 8 => if n < 4 then portDie n else n
    | _ => 5

/-- The classes that are reported only (R554). -/
def reportOnly (cls : Nat) : Bool := [0x0A, 0x0B, 0x0E, 0x0F, 0x20, 0x21].contains cls

/-! ### Records -/

/-- Fault queue `q`. [log 42 DEDUCED] -/
def Dev.queueOf (s : Dev) (q : Nat) : FaultQueue := Tab.get {} s.faultQ q

/-- The device with a fault queue changed. -/
def Dev.updQueue (s : Dev) (q : Nat) (f : FaultQueue → FaultQueue) : Dev := { s with faultQ := Tab.upd {} s.faultQ q f }

/-- An entry as its 32 bytes (R553). -/
def FaultEntry.bytes (e : FaultEntry) (q : Nat) : List Byte :=
  leBytes 4 e.seq ++ leBytes 1 q ++ leBytes 1 e.cls ++ leBytes 1 e.elem.level ++ leBytes 1 e.outcome ++ leBytes 2 e.elem.value ++
  zeros 2 ++ leBytes 4 e.detail ++ leBytes 10 (t80 e.time) ++ leBytes 2 (satAdd 16 e.merged 0) ++ leBytes 4 e.interruption

/-- Whether tenant `t` owns a resource in an element (R571). -/
def Dev.ownsIn (s : Dev) (t : Nat) (e : Elem) : Bool :=
  (List.range 128).any (fun c => s.rd (Obj.clusterOwner c) == t && (Elem.under (.cluster c) e || Elem.under e (.cluster c))) ||
  (match e with
   | .die d =>
     if d < 4 then (List.range 36).any (fun n => s.rd (Obj.streamTenant n) == t && s.rd (Obj.homeDie n) == d) ||
                   (List.range 32).any (fun b => s.rd (Obj.weirBlockOwner (d * 32 + b)) == t)
     else (List.range 36).any (fun n => s.rd (Obj.streamTenant n) == t && n / 18 + 4 == d) ||
          (List.range 64).any (fun n => d == 5 && s.rd (Obj.channelOwner n) == t) ||
          (List.range 4).any (fun h => portDie h == d && s.portBound h && s.getF (Obj.attachState h) 8 4 == t) ||
          (List.range 32).any (fun r => s.rd (Obj.regionOwner r) == t)
   | .eddy d => (List.range 36).any (fun n => s.rd (Obj.streamTenant n) == t && s.rd (Obj.homeDie n) == d)
   | _ => false)

/-- Whether the plan of slot `p` is affected by an element: it places a cluster in it, or starts chains on it. -/
def Dev.planAffected (s : Dev) (p : Nat) (e : Elem) : Bool :=
  s.planLoaded p &&
  ((s.plan p).places.any (fun x => Elem.under (.cluster x.cluster) e || Elem.under e (.cluster x.cluster)) ||
   (match e with
    | .ferry f => (s.plan p).namesFerry f
    | .die d => (s.plan p).holdsDie d
    | .master 7 n => n == p
    | _ => false))

/-- Whether stream `n` is affected by an element: it is homed on the die, or enters by it. -/
def Dev.streamAffected (s : Dev) (n : Nat) (e : Elem) : Bool :=
  match e with
  | .die d => if d < 4 then s.rd (Obj.homeDie n) == d else n / 18 + 4 == d
  | .eddy d => s.rd (Obj.homeDie n) == d
  | .mereBank d _ => s.rd (Obj.homeDie n) == d
  | .master 5 k => k == n
  | _ => false

/-- A set of numbers below `n` as a bit map. -/
def bitmap (n : Nat) (p : Nat → Bool) : Nat := (List.range n).foldl (fun a i => a + b2n (p i) * 2 ^ i) 0

/-- The plan slots of tenant `t` that an element affects. -/
def Dev.plansHit (s : Dev) (t : Nat) (e : Elem) : Nat := bitmap 16 (fun p => s.rd (Obj.planOwner p) == t && s.planAffected p e)

/-- The streams of tenant `t` that an element affects. -/
def Dev.streamsHit (s : Dev) (t : Nat) (e : Elem) : Nat := bitmap 36 (fun n => s.rd (Obj.streamTenant n) == t && s.streamAffected n e)

/-- Whether an element belongs to tenants at all (R571): links, channels, rails, Eddy slices and the like do not. -/
def Elem.hasTenant : Elem → Bool
  | .unit _ | .cluster _ | .clusterSluice _ _ | .region _ | .die _ => true
  | _ => false

/-- Whether tenant `t` gets the FAULT record of an entry (R571). -/
def Dev.faultTo (s : Dev) (e : FaultEntry) (t : Nat) : Bool :=
  if e.cls = 0x20 ∨ e.cls = 0x21 then e.owner == t
  else if e.elem.hasTenant then s.ownsIn t e.elem || (List.range 16).any (fun p => s.rd (Obj.planOwner p) == t && s.planAffected p e.elem)
  else true

/-- The FAULT payload of an entry for tenant `t` (R571). -/
def Dev.faultPayload (s : Dev) (q : Nat) (e : FaultEntry) (t : Nat) : List Byte :=
  e.bytes q ++ leBytes 2 (s.plansHit t e.elem) ++ leBytes 6 (s.streamsHit t e.elem) ++
  (if e.outcome = 5 ∨ e.outcome = 7 then zeros 10 else leBytes 10 (t80 e.resume)) ++ zeros 14

/-- The FAULT record of an entry that has its outcome (R571). -/
def Dev.sendFault (s : Dev) (q : Nat) (e : FaultEntry) : Dev :=
  s.each 8 (fun t s => if s.faultTo e t then s.emitRecord (s.rd (Obj.faultChannel t)) 6 (s.faultPayload q e t) false else s)

/-- The Sequence of the last entry taken from queue `q` (R572): that of the entry being handled, or of the log's last; 0 for none. -/
def Dev.lastTaken (s : Dev) (q : Nat) : Nat :=
  match (s.queueOf q).entries with
  | e :: _ => if e.phase = .queued then (((s.queueOf q).log.getLast?).map (·.seq)).getD 0 else e.seq
  | [] => (((s.queueOf q).log.getLast?).map (·.seq)).getD 0

/-- The TERMINAL payload of die `d` for tenant `t` (R572). -/
def Dev.terminalPayload (s : Dev) (d cause t : Nat) : List Byte :=
  leBytes 1 d ++ leBytes 1 cause ++ zeros 2 ++ leBytes 4 (s.lastTaken d) ++ leBytes 10 (t80 s.dt) ++
  leBytes 6 (s.streamsHit t (.die d)) ++ leBytes 2 (s.plansHit t (.die d)) ++ zeros 6

/-! ### Isolation and the safe state -/

/-- What a stream holds is given back as it leaves DRAINING otherwise than by its end (R160, R330): the words of its ring are gone. [log 131 DEDUCED] -/
def Dev.leaveDraining (s : Dev) (n : Nat) : Dev :=
  if s.getF (Obj.streamState n) 0 4 = 6 then (s.bumpBy (Obj.streamCounter n 0x10) (s.str n).ring.length).streamRelease n else s

/-- Stream `n` reaches FAULT with a LastError (R129, R152). -/
def Dev.streamFault (s : Dev) (n err : Nat) : Dev :=
  let s := s.leaveDraining n
  let s := { s with streams := Tab.upd {} s.streams n (fun x => { x with hot := x.hot.filter (fun e => !e.auto) }) }
  let x : Sys2Proof.Machine.Stream := Tab.get {} s.streams n
  let s := s.wr (Obj.hotListCount n) x.hot.length
  (s.setF (Obj.streamState n) 0 4 7).setF (Obj.streamState n) 24 8 err

/-- Slot `k` of cluster `c` marked failed (R575); a spare that fails is a spare no longer. -/
def Dev.slotFail (s : Dev) (c k : Nat) : Dev :=
  let s := s.setBit (Obj.clusterHealth c) (3 + k) true
  if s.getF (Obj.clusterHealth c) 20 5 = k then (s.setF (Obj.clusterHealth c) 2 1 0).setF (Obj.clusterHealth c) 20 5 0x1F else s

/-- Tiles in progress on the units that `p` picks are discarded and run again (R243); each of these units rewinds its output packet (R298). -/
def Dev.dropTiles (s : Dev) (p : Tile → Bool) : Dev :=
  let gone := s.layers.flatMap (fun x => x.2.tiles.filter p)
  gone.foldl (fun (s : Dev) t => s.rewindUnit t.cluster)
    { s with layers := s.layers.map (fun x => (x.1, { x.2 with tiles := x.2.tiles.filter (fun t => !p t) })) }

/-- Step 1 of R563: cluster `c` stops issue, its sluices are flushed, it takes no further work; its state becomes `st` (R575). -/
def Dev.fence (s : Dev) (c st : Nat) : Dev :=
  let s := (s.dropTiles (fun t => t.cluster == c)).flushCluster c
  let s := s.dropWaits (fun w => decide (w.waiter = Waiter.steward c))
  if s.getF (Obj.clusterHealth c) 0 2 = 0 then s.setF (Obj.clusterHealth c) 0 2 st else s

/-- A ferry that fails gives its queued starts, and its chain from the descriptor it was executing, to the next ferry of its
die (R315). -/
def nextFerry (f : Nat) : Nat := if f < 32 then f / 8 * 8 + (f + 1) % 8 else f / 4 * 4 + (f + 1) % 4

/-- The next ferry in service after `f` on its die, within `n` steps. -/
def Dev.freeFerry (s : Dev) : Nat → Nat → Nat
  | 0, f => f
  | n + 1, f => if (s.ferry (nextFerry f)).failed then s.freeFerry n (nextFerry f) else nextFerry f

/-- A start arrives at the queue of ferry `f`; one that meets a full queue is held at the weir that issued it (R309). -/
def Dev.startQueue (s : Dev) (f : Nat) (c : ChainStart) : Dev :=
  if (s.ferry f).starts.length < 16 && !s.heldStarts.any (fun x => x.ferry == f) then s.updFerry f (fun y => { y with starts := y.starts ++ [c] })
  else { s.updWeir c.weir (fun w => if c.weir < 16384 then { w with held := true } else w) with heldStarts := s.heldStarts ++ [c] }

/-- R315: the failed ferry's work moves. -/
def Dev.ferryFail (s : Dev) (f : Nat) : Dev :=
  let x := s.ferry f
  let g := s.freeFerry 8 f
  if x.failed || g = f then s.updFerry f (fun y => { y with failed := true })
  else
    let again := match x.cur with | some c => [{ c with resume := x.pc }] | none => []
    let s := (s.updFerry f (fun _ => ({ failed := true } : Ferry))).setF (Obj.ferryState f) 0 2 0
    let s := s.dropWaits (fun w => decide (w.waiter = Waiter.ferry f))
    (again ++ x.starts).foldl (fun (s : Dev) c => s.startQueue g { c with ferry := g }) s

/-- The isolation point of an element (R556, R562, R563). -/
def Dev.isolate (s : Dev) (e : Elem) : Dev :=
  match e with
  | .unit g => (s.dropTiles (fun t => t.cluster == g / 16 && t.unit == g % 16)).slotFail (g / 16) (s.slotOf g)
  | .cluster c => s.fence c 1
  | .clusterSluice c _ => s.fence c 1
  | .region r => (s.wr (Obj.regionHealth r) 1).each 8 (fun k s => s.fence (r * 8 + k) 2)
  | .ferry f => s.ferryFail f
  | _ => s

/-- Whether a link is usable (R576). -/
def Dev.linkUp (s : Dev) (l : Nat) : Bool := s.getF (Obj.linkHealth l) 0 2 != 2

/-- The relay die (R23): the lowest-numbered compute die in service whose links to both I/O dies are up; none where none qualifies. [log 36 DEDUCED] -/
def Dev.relay (s : Dev) : Option Nat :=
  (List.range 4).find? (fun d => s.rd (Obj.dieHealth d) != 2 && s.getF (Obj.railState d) 0 2 != 0 && s.domState (132 + d) == 0 && s.linkUp (2 * d) && s.linkUp (2 * d + 1))

/-- What was in flight on the lost relay is replayed from the sending sluices, those at the I/O dies' ends of its two links (R24). [log 114 DEDUCED] -/
def Dev.relayReplay (s : Dev) (d : Nat) : Dev := s.each 64 (fun i s => s.sluiceAgain (1024 + (2 * d * 32 + i) * 2 + 1))

/-- When the relay has moved, the lost relay's traffic is replayed, and the recalibration of IOD1's path of F begins (R24, R79). [log 46 DEDUCED] -/
def Dev.relayMoved (s : Dev) (before : Option Nat) : Dev :=
  if s.relay = before then s
  else
    let s := match before with | some d => s.relayReplay d | none => s
    ({ s with pathRecalF := s.f + 1 } : Dev).calibrate [5]

/-- TERMINAL records to every tenant that owns a resource on die `d` (R558). -/
def Dev.sendTerminal (s : Dev) (d cause : Nat) : Dev :=
  s.each 8 (fun t s => if s.ownsIn t (.die d) then s.emitRecord (s.rd (Obj.faultChannel t)) 7 (s.terminalPayload d cause t) false else s)

/-- The work of compute die `d` stops (R558, rows 1, 2 and 4). [log 41 DEDUCED] -/
def Dev.dieStop (s : Dev) (d : Nat) : Dev :=
  let s := s.dropTiles (fun t => t.cluster / 32 == d)
  let s := s.each 32 (fun k s => s.flushCluster (d * 32 + k))
  let s := s.each 36 (fun n s =>
    if s.rd (Obj.homeDie n) = d ∧ (s.getF (Obj.streamState n) 0 4 = 5 ∨ s.getF (Obj.streamState n) 0 4 = 6) then s.streamFault n 8 else s)
  s.each 16 (fun p s => if s.planLoaded p && (s.plan p).holdsDie d then s.planFault p else s)

/-- The head entry of queue `q` gets its outcome: it leaves the queue for the log (R573) and its FAULT record is sent. [log 41 DEDUCED, 105 DEDUCED] -/
def Dev.finishFault (s : Dev) (q : Nat) (f : FaultEntry → FaultEntry) : Dev :=
  match (s.queueOf q).entries with
  | [] => s
  | e :: es =>
    let e := f e
    let s := s.updQueue q (fun x => { x with entries := es, log := (x.log ++ [e]).drop ((x.log.length + 1) - 64) })
    s.sendFault q e

/-- The entry that the handler of queue `q` had taken ends in the safe state (R553, R557). -/
def Dev.dropHead (s : Dev) (q : Nat) : Dev :=
  match (s.queueOf q).entries with
  | e :: _ => if e.phase = .queued then s else s.finishFault q (fun e => { e with outcome := 7 })
  | [] => s

/-- Die `d` enters the safe state with a cause, or is lost with `health` 2 (R557, R558, R560). A die already in it is lost without more, and a supply
fault holds it there (R565). [log 41 DEDUCED] -/
def Dev.safeState (s : Dev) (d cause health : Nat) : Dev :=
  if s.rd (Obj.dieHealth d) = 2 then s
  else if s.rd (Obj.dieHealth d) = 1 then
    let before := s.relay
    let s := if health = 2 ∨ cause = 5 then (s.wr (Obj.dieHealth d) health).setF (Obj.faultEngineState d) 9 3 cause else s
    s.relayMoved before
  else
    let before := s.relay
    let s := s.dropHead d
    let s := (s.wr (Obj.dieHealth d) health).bump (faultCtr d 8)
    let s := (s.setF (Obj.faultEngineState d) 8 1 1).setF (Obj.faultEngineState d) 9 3 cause
    let s := if d < 4 then s.dieStop d else s
    let s := s.sendTerminal d cause
    let s := { s with alertFault := true }
    let s := if d < 4 then s else s.each 4 (fun h s => if s.portBound h then s.emit (.aer h) else s)
    s.relayMoved before

/-! ### Detection -/

/-- An entry put last in its queue. -/
def Dev.pushFault (s : Dev) (q cls : Nat) (e : Elem) (detail owner : Nat) : Dev :=
  s.updQueue q (fun x => { x with
    entries := x.entries ++ [{ seq := x.nextSeq, cls := cls, elem := e, detail := detail, time := s.dt, detectF := s.rf, owner := owner }],
    nextSeq := wrapAdd 32 x.nextSeq 1 })

/-- The first entry that `p` picks takes one more detection (R554). [log 40 DEDUCED] -/
def Dev.mergeFault (s : Dev) (q : Nat) (p : FaultEntry → Bool) : Dev :=
  match (s.queueOf q).entries.findIdx? p with
  | none => s
  | some i => (s.updQueue q (fun x => { x with entries := x.entries.modify i (fun e => { e with merged := satAdd 16 e.merged 1 }) })).bump (faultCtr q 1)

/-- The entry at the head of queue `q` that has been taken. -/
def Dev.handling (s : Dev) (q : Nat) : Option FaultEntry :=
  match (s.queueOf q).entries with
  | e :: _ => if e.phase = .isolated then some e else none
  | [] => none

/-- Whether the entry at the head of queue `q` has been taken, is not isolated yet and names an element under `e` (R556). -/
def Dev.takenUnder (s : Dev) (q : Nat) (e : Elem) : Bool :=
  match (s.queueOf q).entries with
  | h :: _ => h.phase == .taken && Elem.under h.elem e
  | [] => false

/-- Escalation of the entry being handled to `p` (R556): recovery starts again at p's level; a die is the safe state. [log 40 DEDUCED] -/
def Dev.escalate (s : Dev) (q : Nat) (p : Elem) : Dev :=
  let s := s.bump (faultCtr q 2)
  let old := (s.handling q).map (·.elem)
  let s := match old with
    | some (.unit g) => if s.bit (Obj.clusterHealth (g / 16)) 2 then s.slotFail (g / 16) (s.getF (Obj.clusterHealth (g / 16)) 20 5) else s
    | _ => s
  let s := s.updQueue q (fun x => { x with entries := x.entries.modify 0 (fun e => { e with elem := p, phase := .isolated }) })
  match p with
  | .die d => (s.finishFault q (fun e => { e with outcome := 7 })).safeState d 3 1
  | _ => s.isolate p

/-- Whether an element already failed and isolated holds `e` (R554). [log 40 DEDUCED] -/
def Dev.alreadyOut (s : Dev) (e : Elem) : Bool :=
  (List.range 128).any (fun c => s.getF (Obj.clusterHealth c) 0 2 != 0 && Elem.under e (.cluster c)) ||
  (List.range 16).any (fun r => s.rd (Obj.regionHealth r) != 0 && Elem.under e (.region r)) ||
  (List.range 6).any (fun d => s.rd (Obj.dieHealth d) != 0 && Elem.under e (.die d))

/-- A detection on what is already isolated merges into the last entry of the log that names it (R554). [log 40 DEDUCED] -/
def Dev.mergeDone (s : Dev) (q : Nat) (e : Elem) : Dev :=
  (s.updQueue q (fun x =>
    match x.log.reverse.findIdx? (fun y => !reportOnly y.cls && Elem.under e y.elem) with
    | some i => { x with log := (x.log.reverse.modify i (fun y => { y with merged := satAdd 16 y.merged 1 })).reverse }
    | none => x)).bump (faultCtr q 1)

/-- A detection of a class that is not report-only (R554, R556, R557). [log 40 DEDUCED] -/
def Dev.detectMain (s : Dev) (q cls : Nat) (e : Elem) (detail : Nat) : Dev :=
  let mergeInto : FaultEntry → Bool := fun x => x.phase != .isolated && !reportOnly x.cls && Elem.under e x.elem
  if (s.queueOf q).entries.any mergeInto then s.mergeFault q mergeInto
  else if s.takenUnder q e then s.escalate q e
  else match s.handling q with
    | some h =>
      if Elem.under e h.elem then (match h.elem.parent with | some p => s.escalate q p | none => s.mergeFault q (fun x => x.phase == .isolated))
      else if Elem.under h.elem e then s.escalate q e
      else if s.alreadyOut e then s.mergeDone q e
      else if 64 ≤ (s.queueOf q).entries.length then (if q < 4 then s.safeState q 2 1 else s)
      else s.pushFault q cls e detail 0xFF
    | none =>
      if s.alreadyOut e then s.mergeDone q e
      else if 64 ≤ (s.queueOf q).entries.length then (if q < 4 then s.safeState q 2 1 else s)
      else s.pushFault q cls e detail 0xFF

/-- A detection of a report-only class (R554): it merges only into a queued entry of its class and element. -/
def Dev.detectReport (s : Dev) (q cls : Nat) (e : Elem) (detail owner : Nat) : Dev :=
  let same : FaultEntry → Bool := fun x => x.phase == .queued && x.cls == cls && decide (x.elem = e)
  if (s.queueOf q).entries.any same then s.mergeFault q same
  else if 64 ≤ (s.queueOf q).entries.length then (if q < 4 then s.safeState q 2 1 else s)
  else s.pushFault q cls e detail owner

/-- A number of its own for each element that can make a plan fault (R555). -/
def Elem.masterKey (e : Elem) : Nat :=
  match e with
  | .hostPort h => 0x10000 + h
  | _ => e.value

/-- Compute die `d` is lost (R40, R558): every die still in service holds an entry of class 0x31 that names it. [log 40 DEDUCED] -/
def Dev.dieLost (s : Dev) (d detail : Nat) : Dev :=
  if s.rd (Obj.dieHealth d) = 2 then s
  else (s.safeState d 4 2).each 6 (fun q s =>
    if q = d ∨ s.rd (Obj.dieHealth q) ≠ 0 then s
    else if 64 ≤ (s.queueOf q).entries.length then (if q < 4 then s.safeState q 2 1 else s)
    else s.pushFault q 0x31 (.die d) detail 0xFF)

/-- FAULT_DETECTION (R551 to R557): a detector names an element. Plan faults are limited by R555; class 0x30 puts the die of
the queue into the safe state and class 0x31 means that its compute die is lost. -/
def Dev.detectFor (s : Dev) (q cls : Nat) (e : Elem) (detail owner : Nat) : Dev :=
  let s := (s.bump (faultCtr q 0)).sedError cls
  if cls = 0x20 ∨ cls = 0x21 then
    let ms := s.win 1000000 + 1
    if 48 ≤ (s.queueOf q).entries.length ∨ Tab.get 0 s.planFaultMs e.masterKey = ms then s.bump (faultCtr q 3)
    else { s with planFaultMs := Tab.put 0 s.planFaultMs e.masterKey ms }.detectReport q cls e detail owner
  else if cls = 0x30 then s.safeState q 1 1
  else if cls = 0x31 then s.dieLost q detail
  else if reportOnly cls then s.detectReport q cls e detail 0xFF
  else s.detectMain q cls e detail

/-- A detection in the queue of the element's own die (R552). [log 40 DEDUCED] -/
def Dev.detect (s : Dev) (cls : Nat) (e : Elem) (detail : Nat) : Dev := s.detectFor e.queue cls e detail 0xFF

/-- A plan fault of a master on behalf of tenant `t` (R551, R571). -/
def Dev.planFaultEntry (s : Dev) (kind number detail t : Nat) : Dev :=
  let e : Elem := .master kind number
  s.detectFor e.queue 0x20 e detail t

/-- A refused access (R327). -/
def Dev.regionRefuse (s : Dev) (t kind number a : Nat) : Dev := (s.bump (Obj.regionRefusals (gddrChan (a % 2 ^ 34)))).planFaultEntry kind number (a % 2 ^ 32) t

/-- Poisoned data that leaves the device at an exit of die `d` (R564): counted but for a PCIe write, and reported once for each
element and millisecond. [log 42 DEDUCED] -/
def Dev.poisonExit (s : Dev) (d : Nat) (e : Elem) (counted : Bool) : Dev :=
  let s := if counted then s.bump (faultCtr d 10) else s
  let key := e.queue * 2 ^ 20 + e.value
  let ms := s.win 1000000 + 1
  if Tab.get 0 s.poisonMs key = ms then s else { s with poisonMs := Tab.put 0 s.poisonMs key ms }.detect 0x0B e 0

end Sys2Proof.Machine
end

