-- ==== Sys2Proof/Machine/Outfall.lean ====
section
/-! DEFINITION. Outfall (R443 to R456): records, queues, rings, the consumer index, pauses. -/

namespace Sys2Proof.Machine

open Sys2Proof

/-! ### Channels -/

/-- The session that carries a channel (R444, R454): the host port or Omtos slot that its path leads to; none while unbound. -/
def Dev.chanPath (s : Dev) (n : Nat) : Option Nat :=
  if s.rd (Obj.channelOwner n) < 8 then s.pathOf (s.rd (Obj.channelOwner n)) (s.rd (Obj.channelPath n)) else none

/-- A stall ends (R452): its length is counted. -/
def Dev.endStall (s : Dev) (n : Nat) : Dev :=
  if s.bit (Obj.outfallStatus n) 2 then
    (s.setBit (Obj.outfallStatus n) 2 false).bumpBy (Obj.outfallCounter n 3) ((s.rf - (s.chan n).stallF) / 1000)
  else s

/-- A pause ends (R454): its length is counted. -/
def Dev.endPause (s : Dev) (n : Nat) : Dev :=
  if s.chanState n = 2 then s.bumpBy (Obj.outfallCounter n 7) ((s.rf - (s.chan n).pauseF) / 1000) else s

/-- A running channel is paused (R454). [log 94 DEDUCED] -/
def Dev.pauseChan (s : Dev) (n : Nat) : Dev :=
  if s.chanState n = 1 then ((s.endStall n).setF (Obj.outfallStatus n) 0 2 2).updChan n (fun c => { c with pauseF := s.rf, reading := false })
  else s

/-- The minor of the record version that a channel's session has negotiated (R443, R459). -/
def Dev.chanVersion (s : Dev) (n p : Nat) : Dev := s.setF (Obj.outfallStatus n) 16 8 ((s.session p).outfallVersion % 256)

/-- A channel follows its path (R454): it pauses when the path is not bound and resumes when it is, the next record with Resumed. [log 94 DEDUCED] -/
def Dev.repath (s : Dev) (n : Nat) : Dev :=
  match s.chanPath n with
  | none => s.pauseChan n
  | some p =>
    if s.chanState n = 2 then
      (((s.endPause n).setF (Obj.outfallStatus n) 0 2 1).chanVersion n p).updChan n (fun c => { c with resumed := true })
    else s

/-- Every channel of a tenant follows its path (R442, R454). -/
def Dev.repathTenant (s : Dev) (t : Nat) : Dev := s.each 64 (fun n s => if s.rd (Obj.channelOwner n) = t then s.repath n else s)

/-- A channel stops (R444). -/
def Dev.disableChan (s : Dev) (n : Nat) : Dev :=
  if s.chanState n = 0 then s
  else (((s.endStall n).endPause n).setF (Obj.outfallStatus n) 0 2 0).updChan n (fun c =>
    { c with ready := [], queue := [], batches := [], reading := false, wantRead := false, resumed := false })

/-- Whether ring parameters are good (R444). -/
def Dev.ringOk (s : Dev) (n : Nat) : Bool :=
  let b := s.rd (Obj.ringBytes n)
  s.rd (Obj.ringBase n) % 4096 == 0 && s.rd (Obj.consumerAddress n) % 8 == 0 && decide (4096 ≤ b) && decide (b ≤ 2 ^ 30) && 2 ^ (Nat.log2 b) == b

/-- Why Enable is refused (R444, R459): 0 where it is not. -/
def Dev.enableError (s : Dev) (n : Nat) : Nat :=
  if s.chanState n ≠ 0 then 4
  else if !s.ringOk n then 1
  else if 8 ≤ s.rd (Obj.channelOwner n) then 3
  else if s.chanPath n = none then 2
  else 0

/-- Enable (R444, R445): the ring's indices and the Sequence start from 0. -/
def Dev.enableChan (s : Dev) (n : Nat) : Dev :=
  let s := s.setF (Obj.outfallStatus n) 24 8 0
  let s := ((s.setF (Obj.outfallStatus n) 0 2 1).setBit (Obj.outfallStatus n) 4 false).chanVersion n ((s.chanPath n).getD 0)
  let s := (s.wr (Obj.producerIndex n) 0).wr (Obj.consumerIndexSeen n) 0
  s.updChan n (fun c => { ({} : Chan) with lastDropF := c.lastDropF, dropped := c.dropped, lastPollF := s.rf })

/-- A ChannelCommand that passed the checks of R469: 1 Enable, 2 Disable. -/
def Dev.channelCommand (s : Dev) (q : Requester) (n v : Nat) : Dev :=
  if v = 2 then (s.disableChan n).accept q
  else
    let e := s.enableError n
    if e = 0 then (s.enableChan n).accept q
    else (s.setF (Obj.outfallStatus n) 24 8 e).refuse q .state

/-! ### Forming (R446, R447, R452) -/

/-- LengthBytes of a record (R446): header, padded payload and tag, padded to a multiple of 64. -/
def recordLength (payload : Nat) : Nat := ceilDiv (64 + ceilDiv payload 16 * 16 + 16) 64 * 64

/-- The least minor version that has a record type (R447). -/
def typeMinor (type : Nat) : Nat := if type = 4 then 1 else 0

/-- A record dropped on its channel (R452, R459). -/
def Dev.dropRecord (s : Dev) (n : Nat) : Dev :=
  (s.bump (Obj.outfallCounter n 2)).updChan n (fun c => { c with dropped := true, lastDropF := s.f })

/-- The bytes that a channel's queue holds (R452). -/
def Chan.queueBytes (c : Chan) : Nat := (c.queue.map (·.length)).sum

/-- Whether Outfall works: IOD1 is in service, or TERMINAL records of its own stop are still to be sent (R558). -/
def Dev.outfallWorks (s : Dev) (n : Nat) : Bool :=
  s.rd (Obj.dieHealth 5) == 0 || (s.chan n).ready.any (fun r => r.type == 7) || (s.chan n).queue.any (fun r => r.type == 7)

/-- The record key of session `p` (R511). -/
def Dev.recordKeyOf (s : Dev) (p : Nat) : RecordKey := ⟨(s.session p).firstKey, (s.session p).recordKey, (s.session p).keyEpoch⟩

/-- The key that a record of channel `n` is formed under (R511); none while its path leads nowhere. -/
def Dev.mintKey (s : Dev) (n : Nat) : RecordKey := match s.chanPath n with | some p => s.recordKeyOf p | none => {}

/-- The key that tags a record on path `p` (R446, R511, R513): the one it was formed under while its session lasts, else the present one of the session that
now takes it. -/
def Dev.keyOf (s : Dev) (p : Nat) (r : Rec) : RecordKey := if r.key.first = (s.session p).firstKey then r.key else s.recordKeyOf p

/-- The oldest waiting payload of a channel becomes a record (R446): it takes its Sequence, and is queued, or dropped as poisoned
(R564), too long for the ring (R445) or without room in the queue (R452), or held back by its version (R447). -/
def Dev.formRecord (s : Dev) (n : Nat) : Dev :=
  match (s.chan n).ready with
  | [] => s
  | r :: rs =>
    let seq := (s.chan n).nextSeq
    let len := recordLength r.payload.length
    let s := s.updChan n (fun c => { c with ready := rs, nextSeq := wrapAdd 64 seq 1 })
    if r.poisoned then (s.dropRecord n).poisonExit 5 (.master 6 n) true
    else if s.getF (Obj.outfallStatus n) 16 8 < typeMinor r.type then s.bump (Obj.outfallCounter n 6)
    else if s.rd (Obj.ringBytes n) / 2 < len ∨ 262144 < (s.chan n).queueBytes + len then s.dropRecord n
    else s.updChan n (fun c => { c with queue := c.queue ++ [⟨r.type, seq, r.payload, s.dt, len, s.mintKey n⟩] })

/-! ### Delivery (R445, R448, R455) -/

/-- A record header (R446). -/
def Dev.header (s : Dev) (n epoch type flags seq len payload lost : Nat) (time : Int) : List Byte :=
  leBytes 4 0x4C46544F ++ leBytes 2 (0x0100 + s.getF (Obj.outfallStatus n) 16 8) ++ leBytes 1 type ++ leBytes 1 flags ++ leBytes 8 seq ++
  leBytes 4 len ++ leBytes 4 payload ++ leBytes 1 n ++ leBytes 1 (s.rd (Obj.channelOwner n)) ++ zeros 2 ++ leBytes 4 lost ++
  leBytes 10 (t80 time) ++ zeros 6 ++
  leBytes 4 (if 2 ≤ s.getF (Obj.outfallStatus n) 16 8 then epoch else 0) ++ zeros 12

/-- The key that tags a session's records (R446, R456): before version 1.2 the session's first. [log 72 DESIGN CHOICE] -/
def Dev.tagKey (s : Dev) (n : Nat) (k : RecordKey) : List Byte :=
  if 2 ≤ s.getF (Obj.outfallStatus n) 16 8 then k.key else k.first

/-- A record as its bytes: header, payload padded to 16 bytes, tag, and zeros to LengthBytes (R446). -/
def Dev.recordBytes (s : Dev) (n p : Nat) (r : Rec) : List Byte :=
  let lost := satAdd 32 (r.seq - (s.chan n).expectSeq) 0
  let k := s.keyOf p r
  let body := s.header n k.epoch r.type (b2n (s.chan n).resumed) r.seq r.length r.payload.length lost r.time ++ bytesAt r.payload 0 (ceilDiv r.payload.length 16 * 16)
  bytesAt (body ++ kmac256 (s.tagKey n k) body "OUTFALL" 16) 0 r.length

/-- A PAD record (R445, R446): a header alone, with the Sequence of the record that follows. -/
def Dev.padBytes (s : Dev) (n p seq len : Nat) : List Byte := bytesAt (s.header n (s.session p).keyEpoch 0 0 seq len 0 0 s.dt) 0 len

/-- One record sent on path `p` at ring index `i` (R448, R455): over PCIe bytes 16 to the end first, then bytes 0 to 15; over
Ethernet in segments. [log 94 DEDUCED] -/
def Dev.sendRecord (s : Dev) (n p i seq : Nat) (bs : List Byte) : Dev :=
  if p < 4 then
    let a := s.rd (Obj.ringBase n) + i % s.rd (Obj.ringBytes n)
    ((s.emit (.hostWrite p (a + 16) (bs.drop 16) false)).emit (.hostWrite p a (bs.take 16) false)).meter (Obj.linkLoad p) bs.length
  else
    let m := s.rd (Obj.segmentBytes n)
    let count := ceilDiv bs.length m
    s.each count (fun k s => s.emit (.datagram (p - 4) (s.rd (Obj.resultPort n))
      (leBytes 2 n ++ leBytes 2 k ++ leBytes 2 count ++ zeros 2 ++ leBytes 8 seq ++ (bs.drop (k * m)).take m)))

/-- Free space of a channel's ring (R445). -/
def Dev.ringFree (s : Dev) (n : Nat) : Nat := s.rd (Obj.ringBytes n) - (s.rd (Obj.producerIndex n) - (s.chan n).consumer)

/-- The head record of a channel is delivered (R445, R448, R450), or waits and stalls the channel (R452); what leaves through IOD0 waits while
IOD0 is in the safe state (R558). [log 41 DEDUCED, 94 DEDUCED] -/
def Dev.deliverRecord (s : Dev) (n : Nat) : Dev :=
  match s.chanPath n, (s.chan n).queue with
  | some p, r :: rs =>
    if s.chanState n = 1 ∧ (s.pathDie p = 4 → s.dieOut 4 = false) then
      let ring := s.rd (Obj.ringBytes n)
      let at_ := s.rd (Obj.producerIndex n)
      let pad := if ring < at_ % ring + r.length then ring - at_ % ring else 0
      if s.ringFree n < pad + r.length then
        if s.bit (Obj.outfallStatus n) 2 then s
        else (s.setBit (Obj.outfallStatus n) 2 true).updChan n (fun c => { c with stallF := s.rf })
      else
        let s := if s.bit (Obj.outfallStatus n) 2 then (s.endStall n).updChan n (fun c => { c with resumed := true }) else s
        let s := if pad = 0 then s else s.sendRecord n p at_ r.seq (s.padBytes n p r.seq pad)
        let s := s.sendRecord n p (at_ + pad) r.seq (s.recordBytes n p r)
        let s := s.bumpBy (Obj.producerIndex n) (pad + r.length)
        let s := s.updChan n (fun c => { c with queue := rs, expectSeq := wrapAdd 64 r.seq 1, resumed := false })
        let s := (s.bump (Obj.outfallCounter n 0)).bumpBy (Obj.outfallCounter n 1) r.length
        let s := if p < 4 ∧ s.rd (Obj.producerAddress n) ≠ 0 then
          s.emit (.hostWrite p (s.rd (Obj.producerAddress n)) (leBytes 8 (s.rd (Obj.producerIndex n))) false) else s
        let w := s.rd (Obj.notifyWeir n)
        let s := if w < 16384 ∧ s.weirOwner w = s.rd (Obj.channelOwner n) then s.weirAddFor (s.rd (Obj.channelOwner n)) w 1 false else s
        if s.ringFree n < s.rd (Obj.watermark n) then s.updChan n (fun c => { c with wantRead := true }) else s
    else s
  | _, _ => s

/-! ### The consumer index (R449) -/

/-- Whether a read of the consumer index is due (R449). -/
def Dev.readDue (s : Dev) (n : Nat) : Bool :=
  let c := s.chan n
  s.chanState n == 1 && !c.reading &&
  (decide (s.rd (Obj.pollInterval n) * 1000 ≤ s.rf - c.lastPollF) ||
   (c.wantRead && decide (2000 ≤ s.rf - c.lastReadF)) ||
   (s.bit (Obj.outfallStatus n) 2 && decide (10000 ≤ s.rf - max c.lastReadF c.stallF)))

/-- The device reads the U64 at ConsumerAddress (R449). -/
def Dev.pollConsumer (s : Dev) (n : Nat) : Dev :=
  match s.chanPath n with
  | some p =>
    if p < 4 ∧ s.readDue n = true then
      let poll : Bool := decide (s.rd (Obj.pollInterval n) * 1000 ≤ s.rf - (s.chan n).lastPollF)
      ((s.emit (.hostRead p (s.rd (Obj.consumerAddress n)) 8)).bump (Obj.outfallCounter n 4)).updChan n (fun c =>
        { c with reading := true, wantRead := false, lastReadF := s.rf, lastPollF := if poll then s.rf else c.lastPollF })
    else s
  | none => s

/-- A consumer index reaches the device (R449): below the last accepted or above ProducerIndex it is ignored and counted. -/
def Dev.takeConsumer (s : Dev) (n v : Nat) : Dev :=
  if v < (s.chan n).consumer ∨ s.rd (Obj.producerIndex n) < v then
    (s.bump (Obj.outfallCounter n 5)).setBit (Obj.outfallStatus n) 4 true
  else ((s.updChan n (fun c => { c with consumer := v })).wr (Obj.consumerIndexSeen n) v).setBit (Obj.outfallStatus n) 4 false

/-- A read of the consumer index returns; a completion error leaves the index unchanged (R449). [log 94 DEDUCED] -/
def Dev.consumerReturn (s : Dev) (n : Nat) (v : Option Nat) : Dev :=
  if (s.chan n).reading then
    let s := s.updChan n (fun c => { c with reading := false })
    match v with
    | some v => s.takeConsumer n v
    | none => s
  else s

/-- A write of EthConsumerIndex that passed the checks of R469 (R455). -/
def Dev.ethConsumer (s : Dev) (q : Requester) (n v : Nat) : Dev :=
  let s := s.wr (Obj.ethConsumerIndex n) v
  (if s.chanState n ≠ 0 then s.takeConsumer n v else s).accept q

/-- A write of ChannelPath that passed the checks of R469 (R454). -/
def Dev.channelPathWrite (s : Dev) (q : Requester) (n v : Nat) : Dev := ((s.wr (Obj.channelPath n) v).repath n).accept q

/-! ### The commands -/

/-- ENABLE (R444). -/
def execEnable (q : Requester) (n : Fin 64) (s : State) : Host.Outcome State Fault Refusal :=
  s.asked q (Obj.outfallCommand n.val) 1 (fun d => d.channelCommand q n.val 1)

/-- DISABLE (R444). -/
def execDisable (q : Requester) (n : Fin 64) (s : State) : Host.Outcome State Fault Refusal :=
  s.asked q (Obj.outfallCommand n.val) 2 (fun d => d.channelCommand q n.val 2)

/-- RECORD_FORM (R446, R452). -/
def execRecordForm (n : Fin 64) (s : State) : Host.Outcome State Fault Refusal :=
  s.runIn 180 (fun d => if d.outfallWorks n.val then d.formRecord n.val else d)

/-- RECORD_DELIVER (R445, R448). -/
def execRecordDeliver (n : Fin 64) (s : State) : Host.Outcome State Fault Refusal :=
  s.runIn 180 (fun d => if d.outfallWorks n.val then d.deliverRecord n.val else d)

/-- BATCH_TIME_EXPIRY (R451): the batches of channel `n` whose first word is BatchTime old close. -/
def execBatchTimeExpiry (n : Fin 64) (s : State) : Host.Outcome State Fault Refusal :=
  s.runIn 180 (fun d =>
    ((d.chan n.val).batches.filter (fun b => decide (d.rd (Obj.batchTime n.val) * 1000 ≤ d.rf - b.firstF))).foldl
      (fun d b => d.closeBatch n.val b.type b.source) d)

/-- CONSUMER_INDEX_POLL (R449). -/
def execConsumerIndexPoll (n : Fin 64) (s : State) : Host.Outcome State Fault Refusal :=
  s.runIn 180 (fun d => if d.rd (Obj.dieHealth 5) == 0 then d.pollConsumer n.val else d)

/-- CONSUMER_INDEX_RETURN (R449): `v` is what the read returned, none for a completion error. -/
def execConsumerIndexReturn (n : Fin 64) (v : Option (BitVec 64)) (s : State) : Host.Outcome State Fault Refusal :=
  s.runIn 180 (fun d => d.consumerReturn n.val (v.map BitVec.toNat))

/-- ETH_CONSUMER_INDEX_WRITE (R455). -/
def execEthConsumerIndexWrite (q : Requester) (n : Fin 64) (v : BitVec 64) (s : State) : Host.Outcome State Fault Refusal :=
  s.asked q (Obj.ethConsumerIndex n.val) v.toNat (fun d => d.ethConsumer q n.val v.toNat)

/-- CHANNEL_PATH_WRITE (R454). -/
def execChannelPathWrite (q : Requester) (n : Fin 64) (v : BitVec 8) (s : State) : Host.Outcome State Fault Refusal :=
  s.asked q (Obj.channelPath n.val) v.toNat (fun d => d.channelPathWrite q n.val v.toNat)

end Sys2Proof.Machine
end

