-- ==== Sys2Proof/Machine/SluiceOps.lean ====
section
/-! DEFINITION. The sluice commands (R293 to R301): write, read, release, replay, rewind, flush. -/

namespace Sys2Proof.Machine

open Sys2Proof

/-- The core domain of a die (R522): 132 + d for CDd, 179 and 180 for the I/O bases. -/
def dieDomain (d : Nat) : Nat := if d < 4 then 132 + d else 175 + d

/-- The power domain that holds a sluice: its cluster, or the core of its die. -/
def sluiceDomain (key : Nat) : Nat := if key < 1024 then key / 8 else dieDomain (sluiceDie key)

/-- The element that a sluice is (R553). -/
def sluiceElem (key : Nat) : Elem :=
  if key < 1024 then .clusterSluice (key / 8) (key % 8) else .boundarySluice ((key - 1024) / 64) ((key - 1024) / 2 % 32)

/-- One more event in a rate held as 1 + window and count (R622). -/
def rateUp (x : Nat × Nat) (win : Nat) : Nat × Nat := if x.1 = win + 1 then (x.1, x.2 + 1) else (win + 1, 1)

/-- An uncorrectable or tag-parity read (R300, R551): counted, and reported at the 4th within 1 ms or the 16th within 1 s. [log 56 DESIGN CHOICE, 68 DEDUCED] -/
def Dev.sluiceBad (s : Dev) (key : Nat) : Dev :=
  let s := if key < 1024 then s.bump (Obj.sluiceUncorrectable (key / 8)) else s.bump (Obj.boundaryUncorrectable (sluiceDie key))
  let s := s.updSluice key (fun x => { x with badMs := rateUp x.badMs (s.win 1000000), badS := rateUp x.badS (s.win 1000000000) })
  if (s.sluice key).badMs.2 = 4 ∨ (s.sluice key).badS.2 = 16 then s.detect 0x05 (sluiceElem key) 0 else s

/-- The oldest committed word not yet read goes to the reader (R296, R300): `check` is what the word's code shows, `tagBad` a tag parity
error. An uncorrectable word carries Poison; a tag parity error reads Last as 1, and which of the tag's bits is wrong is not stated: its parity bit
reads as an open value. [log 113 DESIGN CHOICE] -/
def Dev.sluiceTake (s : Dev) (key : Nat) (check : Check) (tagBad : Bool) : Dev :=
  let x := s.sluice key
  let bad : Bool := tagBad || check == .uncorrectable
  let p := bitAt s.open_ 0
  let s := if tagBad then s.drawn else s
  let s := s.updSluice key (fun x => { x with
    taken := x.taken + 1,
    words := x.words.modify x.taken (fun w =>
      { w with poisoned := w.poisoned || bad, last := w.last || tagBad, parity := if tagBad then p else w.parity }) })
  let s := match (s.sluice key).words[x.taken]? with | some w => s.sluiceGive key w | none => s
  if bad then s.sluiceBad key
  else if check = .corrected then
    (if key < 1024 then (s.bump (Obj.sluiceCorrected (key / 8))).sedError 0x41 else s.bump (Obj.boundaryCorrected (sluiceDie key)))
  else s

/-- A waiting read that is held completes once a word is there (R296). -/
def Dev.sluiceServe (s : Dev) (key : Nat) : Dev :=
  match (s.sluice key).readWaits with
  | some r => if (s.sluice key).waiting = 0 then s else (s.updSluice key (fun x => { x with readWaits := none })).sluiceTake key r.1 r.2
  | none => s

/-- A read of a sluice (R296): a waiting one that finds nothing is held. -/
def Dev.sluiceRead (s : Dev) (key : Nat) (polling : Bool) (check : Check) (tagBad : Bool) : Dev :=
  if (s.sluice key).waiting = 0 then
    (if polling then s.sluiceNothing key else s.updSluice key (fun x => { x with readWaits := some (check, tagBad) }))
  else s.sluiceTake key check tagBad

/-- A replay (R297): every word that is not released is unread again. -/
def Dev.sluiceReplay (s : Dev) (key : Nat) : Dev := (s.updSluice key (fun x => { x with taken := 0 })).sluiceServe key

/-- A whole word reaches the sluice (R293, R294). -/
def Dev.sluicePut (s : Dev) (key : Nat) (w : SluiceWord) : Dev :=
  let x := s.sluice key
  if x.discarding then
    (s.updSluice key (fun x => { x with discarding := !w.last })).sluiceDiscard key 1
  else if x.opened.length = 64 then
    (s.updSluice key (fun x => { x with opened := [], discarding := !w.last, reason := 3 })).sluiceDiscard key 65
  else if w.last then
    (s.updSluice key (fun x => { x with words := x.words ++ x.opened ++ [w], opened := [] })).sluiceServe key
  else s.updSluice key (fun x => { x with opened := x.opened ++ [w] })

/-- The word that a partly packed word becomes when it closes (R301). -/
def packed (p : Nat × Nat × Nat) (last : Bool) : SluiceWord := SluiceWord.of p.1 p.2.1 last false

/-- A partly packed word closes and reaches the sluice (R301). -/
def Dev.sluiceClose (s : Dev) (key : Nat) : Dev :=
  match (s.sluice key).part with
  | some p => (s.updSluice key (fun x => { x with part := none })).sluicePut key (packed p false)
  | none => s

/-- An item of `n` bytes reaches the sluice (R301): it goes to the lowest aligned offset at or above the previous item's end;
the open word closes first when it does not fit, and after it when byte 7 is written or it carries Last. -/
def Dev.sluicePack (s : Dev) (key n v : Nat) (last : Bool) : Dev :=
  let p := (s.sluice key).part.getD (0, 0, 0)
  let fits : Bool := decide (ceilDiv p.2.2 n * n + n ≤ 8)
  let s := if fits then s else s.sluiceClose key
  let p := if fits then p else (0, 0, 0)
  let off := ceilDiv p.2.2 n * n
  let q : Nat × Nat × Nat := (p.1 + v * 2 ^ (8 * off), p.2.1 + (2 ^ n - 1) * 2 ^ off, off + n)
  if last || q.2.2 = 8 then (s.updSluice key (fun x => { x with part := none })).sluicePut key (packed q last)
  else s.updSluice key (fun x => { x with part := some q })

/-- A write that finds room, or whose words are being discarded (R293 to R295, R301). -/
def Dev.sluiceWrite (s : Dev) (key : Nat) (w : SluiceItem) (last : Bool) : Dev :=
  let x := s.sluice key
  if x.full (sluiceDepth key) && !x.discarding then s
  else match w with
    | .word v poisoned => (s.sluiceClose key).sluicePut key (SluiceWord.of v.toNat 0xFF last poisoned)
    | .item1 v => s.sluicePack key 1 v.toNat last
    | .item2 v => s.sluicePack key 2 v.toNat last
    | .item4 v => s.sluicePack key 4 v.toNat last

/-- The `n` oldest words that have been read are released (R297). -/
def Dev.sluiceRelease (s : Dev) (key n : Nat) : Dev :=
  s.updSluice key (fun x => { x with words := x.words.drop (min n x.taken), taken := x.taken - n })

/-- SLUICE_WRITE (R293 to R295, R301). -/
def execSluiceWrite (k : SluiceRef) (w : SluiceItem) (last : Bool) (s : State) : Host.Outcome State Fault Refusal :=
  s.runIn (sluiceDomain (sluiceKey k)) (fun d => d.sluiceWrite (sluiceKey k) w last)

/-- SLUICE_READ (R296, R300). -/
def execSluiceRead (k : SluiceRef) (polling : Bool) (check : Check) (tagBad : Bool) (s : State) : Host.Outcome State Fault Refusal :=
  s.runIn (sluiceDomain (sluiceKey k)) (fun d => d.sluiceRead (sluiceKey k) polling check tagBad)

/-- SLUICE_RELEASE (R297). -/
def execSluiceRelease (k : SluiceRef) (n : Nat) (s : State) : Host.Outcome State Fault Refusal :=
  s.runIn (sluiceDomain (sluiceKey k)) (fun d => d.sluiceRelease (sluiceKey k) n)

/-- SLUICE_REPLAY (R297). -/
def execSluiceReplay (k : SluiceRef) (s : State) : Host.Outcome State Fault Refusal :=
  s.runIn (sluiceDomain (sluiceKey k)) (fun d => d.sluiceReplay (sluiceKey k))

/-- SLUICE_REWIND (R298). -/
def execSluiceRewind (k : SluiceRef) (s : State) : Host.Outcome State Fault Refusal :=
  s.runIn (sluiceDomain (sluiceKey k)) (fun d => d.sluiceRewind (sluiceKey k))

/-- SLUICE_FLUSH (R299). -/
def execSluiceFlush (k : SluiceRef) (s : State) : Host.Outcome State Fault Refusal :=
  s.runIn (sluiceDomain (sluiceKey k)) (fun d => d.sluiceFlush (sluiceKey k))

end Sys2Proof.Machine
end

