-- ==== Sys2Proof/Machine/Clock.lean ====
section
/-! DEFINITION. The streams' clock maps (R112 to R116): from sensor time to device time, and how sync marks correct them. -/

namespace Sys2Proof.Machine

open Sys2Proof

/-- The clock map of stream `n`. -/
def Dev.clock (s : Dev) (n : Nat) : ClockMap := Tab.get {} s.clocks n

/-- The device with a clock map changed. -/
def Dev.updClock (s : Dev) (n : Nat) (f : ClockMap → ClockMap) : Dev := { s with clocks := Tab.upd {} s.clocks n f }

/-- The map's device time, in ns, of a sensor time in ps (R112, R136). -/
def ClockMap.predict (m : ClockMap) (ps : Nat) : Rat := m.base + (1 + m.skew) * (((ps : Int) - (m.sensorBase : Int) : Int) : Rat) / 1000

/-- The map set from the first packet's arrival (R112). -/
def Dev.clockStart (s : Dev) (n ps : Nat) : Dev :=
  if (s.clock n).set then s
  else s.updClock n (fun m => { m with set := true, base := (s.portDt n : Rat), sensorBase := ps, skew := 0 })

/-- The device time of a sensor time (R136). -/
def Dev.clockTime (s : Dev) (n ps : Nat) : Int := ((s.clock n).predict ps).floor

/-- A reference edge for the streams whose map it feeds (R112): method 1 from trigger `src`, method 2 from capture `src`. [log 23 DEDUCED] -/
def Dev.refEdge (s : Dev) (method src : Nat) (dt : Int) : Dev :=
  s.each 36 (fun n s =>
    if s.rd (Obj.streamSyncMethod n) = method ∧ s.rd (Obj.streamSyncSource n) = src then
      s.updClock n (fun m => { m with edges := m.edges ++ [dt] })
    else s)

/-- A sync mark waits to be paired (R113): its sensor time and its arrival. The first sensor time of a Start sets the map, an event's or a
mark's (R112). [log 23 DEDUCED] -/
def Dev.markArrives (s : Dev) (n ps : Nat) : Dev :=
  if s.rd (Obj.streamSyncMethod n) = 0 then s else (s.clockStart n ps).updClock n (fun m => { m with marks := m.marks ++ [(ps, s.portDt n)] })

/-- The greatest skew: 1,000 ppm (R114). -/
def skewLimit : Rat := 1 / 1000

/-- A mark at sensor time `ps` paired with the reference time `ref` (R114, R115). [log 23 DEDUCED] -/
def Dev.pairMark (s : Dev) (n ps : Nat) (ref : Int) (interval : Rat) : Dev :=
  let m := s.clock n
  let pred := m.predict ps
  let e : Rat := (ref : Rat) - pred
  let s :=
    if (s.rd (Obj.streamStepLimit n) : Rat) < |e| then
      (s.updClock n (fun m => { m with base := (ref : Rat), sensorBase := ps })).bump (Obj.streamSteps n)
    else
      let skew := if interval = 0 then m.skew else max (-skewLimit) (min skewLimit (m.skew + e / (16 * interval)))
      s.updClock n (fun m => { m with base := pred + e / 4, sensorBase := ps, skew := skew })
  let s := s.wrI (Obj.streamClockError n) (clampI (-(2 ^ 31)) (2 ^ 31 - 1) e.floor)
  let s := s.wrI (Obj.streamClockSkew n) (((s.clock n).skew * 1000000000).floor)
  (s.updClock n (fun m => { m with pairF := some s.f })).setBit (Obj.streamSyncFlags n) 0 false

/-- Reference edges too old for a window that begins at `lo` are left unpaired and counted (R113). [log 23 DEDUCED] -/
def Dev.dropEdges (s : Dev) (n : Nat) (lo : Rat) : Dev :=
  let old := (s.clock n).edges.takeWhile (fun e => decide ((e : Rat) < lo))
  (s.updClock n (fun m => { m with edges := m.edges.drop old.length })).bumpBy (Obj.streamSyncUnpaired n) old.length

/-- The mark at sensor time `ps` is taken: the spacing of the last two marks is the mark interval (R113). [log 128 DESIGN CHOICE] -/
def ClockMap.mark (m : ClockMap) (ps : Nat) (interval : Rat) : ClockMap :=
  { m with marks := m.marks.drop 1, lastMark := some ps, interval := if 0 < interval then interval else m.interval }

/-- The oldest waiting mark of stream `n`, which came in at sensor time `ps`, is paired or left unpaired (R113): the device after, and whether it goes on waiting
for a reference edge, which can still come while half an interval past the prediction has not gone by. A first mark has no interval before it: it takes the
oldest edge there is. With method 3 the edge is the mark's own arrival less the link latency (R112). [log 23 DEDUCED, 128 DESIGN CHOICE] -/
def Dev.markTry (s : Dev) (n ps : Nat) (arrival : Int) : Dev × Bool :=
  let m := s.clock n
  let interval : Rat := match m.lastMark with | some l => ((ps : Int) - (l : Int) : Int) / 1000 | none => 0
  let known : Bool := decide (0 < interval)
  let pred := m.predict ps
  let taken := s.updClock n (fun m => m.mark ps interval)
  match s.rd (Obj.streamSyncMethod n) with
  | 0 => (taken, false)
  | 3 =>
    let ref := arrival - (s.rd (Obj.linkLatency (s.getF (Obj.streamState n) 16 8)) : Nat)
    (if !known || decide (|(ref : Rat) - pred| ≤ interval / 2) then taken.pairMark n ps ref (if known then interval else 0)
     else taken.bump (Obj.streamSyncUnpaired n), false)
  | _ =>
    let s := if known then s.dropEdges n (pred - interval / 2) else s
    let taken := s.updClock n (fun m => m.mark ps interval)
    match (s.clock n).edges with
    | e :: es =>
      (if !known || decide ((e : Rat) ≤ pred + interval / 2) then
        (taken.updClock n (fun m => { m with edges := es })).pairMark n ps e (if known then interval else 0)
       else taken.bump (Obj.streamSyncUnpaired n), false)
    | [] => if known && decide ((s.dt : Rat) ≤ pred + interval / 2) then (s, true) else (taken.bump (Obj.streamSyncUnpaired n), false)

/-- The waiting marks of stream `n`, the oldest first, up to `fuel` of them, until one goes on waiting (R113). -/
def Dev.syncMarks (n : Nat) : Nat → Dev → Dev
  | 0, s => s
  | fuel + 1, s =>
    match (s.clock n).marks with
    | [] => s
    | (ps, arrival) :: _ =>
      let r := s.markTry n ps arrival
      if r.2 then r.1 else Dev.syncMarks n fuel r.1

/-- SYNC_MARK: the marks that wait are paired or left unpaired (R113). [log 23 DEDUCED, 128 DESIGN CHOICE] -/
def Dev.syncMark (s : Dev) (n : Nat) : Dev := Dev.syncMarks n (s.clock n).marks.length s

/-- StreamSyncAge in µs (R115): saturated before the first paired mark. -/
def Dev.syncAge (s : Dev) (n : Nat) : Nat :=
  match (s.clock n).pairF with
  | some f => satAdd 32 ((s.f - f) / 1000) 0
  | none => 0xFFFFFFFF

/-- NoSync once the age exceeds eight mark intervals (R115): both as exact times; before a second mark the interval is 0. [log 128 DESIGN CHOICE] -/
def Dev.syncExpire (s : Dev) (n : Nat) : Dev :=
  match (s.clock n).pairF with
  | some f => if 8 * (s.clock n).interval < ((s.f - f : Nat) : Rat) then s.setBit (Obj.streamSyncFlags n) 0 true else s
  | none => s

/-- SYNC_MARK (R113, R114). -/
def execSyncMark (n : Fin 36) (s : State) : Host.Outcome State Fault Refusal := s.runIn 179 (fun d => d.syncMark n.val)

/-- SYNC_AGE_EXPIRY (R115). -/
def execSyncAgeExpiry (n : Fin 36) (s : State) : Host.Outcome State Fault Refusal := s.runIn 179 (fun d => d.syncExpire n.val)

end Sys2Proof.Machine
end

