-- ==== Sys2Proof/Machine/Float.lean ====
section
/-! DEFINITION. Floating point, exactly: a finite value is a rational, an operation is exact and is rounded once to the
format (IEEE 754, round to nearest even or toward zero). The formats are those of R247: binary32, binary16, BF16 and the
two FP8 formats. -/

namespace Sys2Proof.Machine

/-- A floating format: exponent bits, stored mantissa bits, and whether the greatest exponent code holds infinities and
NaNs (IEEE) or, as in FP8 E4M3, only one NaN. -/
structure FFmt where
  eb : Nat
  mb : Nat
  ieee : Bool
  deriving DecidableEq, Repr

/-- IEEE binary32. -/
def fp32 : FFmt := ⟨8, 23, true⟩
/-- IEEE binary16. -/
def fp16 : FFmt := ⟨5, 10, true⟩
/-- bfloat16. -/
def bf16 : FFmt := ⟨8, 7, true⟩
/-- FP8 E5M2. -/
def e5m2 : FFmt := ⟨5, 2, true⟩
/-- FP8 E4M3. -/
def e4m3 : FFmt := ⟨4, 3, false⟩

/-- A floating value: a NaN, an infinity with its sign, or a finite number with the sign that a zero carries. -/
inductive FVal where
  | nan
  | inf (neg : Bool)
  | fin (neg : Bool) (r : Rat)
  deriving DecidableEq, Repr

/-- The exponent bias. -/
def FFmt.bias (f : FFmt) : Nat := 2 ^ (f.eb - 1) - 1

/-- 2 to an integer power. -/
def pow2 (e : Int) : Rat := if 0 ≤ e then ((2 ^ e.toNat : Nat) : Rat) else 1 / ((2 ^ (-e).toNat : Nat) : Rat)

/-- The bits of the greatest finite magnitude. -/
def FFmt.maxBits (f : FFmt) : Nat :=
  if f.ieee then (2 ^ f.eb - 1) * 2 ^ f.mb - 1 else 2 ^ (f.eb + f.mb) - 2

/-- The value that the bits of a format stand for. -/
def FFmt.toVal (f : FFmt) (v : Nat) : FVal :=
  let m := v % 2 ^ f.mb
  let e := v / 2 ^ f.mb % 2 ^ f.eb
  let neg := bitAt v (f.eb + f.mb)
  if f.ieee && e == 2 ^ f.eb - 1 then (if m == 0 then .inf neg else .nan)
  else if !f.ieee && v % 2 ^ (f.eb + f.mb) == 2 ^ (f.eb + f.mb) - 1 then .nan
  else
    let r : Rat := if e == 0 then (m : Rat) * pow2 (1 - (f.bias : Int) - f.mb)
                   else ((2 ^ f.mb + m : Nat) : Rat) * pow2 ((e : Int) - f.bias - f.mb)
    .fin neg (if neg then -r else r)

/-- How a result is rounded (R266). -/
inductive Round where
  | nearestEven | towardZero
  | stochastic (u : Nat) (bits : Nat)
  deriving DecidableEq, Repr

/-- A non-negative rational rounded to an integer. Stochastic rounding adds u / 2^bits and rounds down. -/
def Round.int (m : Round) (r : Rat) : Nat :=
  let fl := r.floor.toNat
  let rem := r - (fl : Rat)
  match m with
  | .towardZero => fl
  | .stochastic u bits => (r + (u : Rat) / ((2 ^ bits : Nat) : Rat)).floor.toNat
  | .nearestEven => if rem < 1 / 2 then fl else if 1 / 2 < rem then fl + 1 else if fl % 2 = 0 then fl else fl + 1

/-- floor(log2 r) of a positive rational. -/
def ratLog2 (r : Rat) : Int :=
  let e : Int := (Nat.log2 r.num.natAbs : Int) - (Nat.log2 r.den : Int)
  if pow2 e ≤ r then (if pow2 (e + 1) ≤ r then e + 1 else e) else e - 1

/-- The bits of a format nearest to a magnitude under a rounding; above the greatest finite value, infinity where the
format has one and the rounding reaches it. [log 107 PRESUMED] -/
def FFmt.roundMag (f : FFmt) (m : Round) (r : Rat) : Nat :=
  if r = 0 then 0 else
    let e := max (ratLog2 r) (1 - (f.bias : Int))
    let q := m.int (r / pow2 (e - f.mb))
    let bits := q + (e + f.bias - 1).toNat * 2 ^ f.mb
    if bits ≤ f.maxBits then bits
    else match m with
      | .towardZero => f.maxBits
      | _ => if f.ieee then (2 ^ f.eb - 1) * 2 ^ f.mb else 2 ^ (f.eb + f.mb) - 1

/-- The canonical NaN of a format (R249). -/
def FFmt.nanBits (f : FFmt) : Nat :=
  if f = e5m2 then 0x7F else if f.ieee then (2 ^ f.eb - 1) * 2 ^ f.mb + 2 ^ (f.mb - 1) else 2 ^ (f.eb + f.mb) - 1

/-- The bits of a value in a format, rounded. [log 107 PRESUMED] -/
def FFmt.ofVal (f : FFmt) (m : Round) (v : FVal) : Nat :=
  match v with
  | .nan => f.nanBits
  | .inf neg => b2n neg * 2 ^ (f.eb + f.mb) + (if f.ieee then (2 ^ f.eb - 1) * 2 ^ f.mb else f.nanBits)
  | .fin neg r => b2n (if r = 0 then neg else decide (r < 0)) * 2 ^ (f.eb + f.mb) + f.roundMag m (if r < 0 then -r else r)

/-- The sum of two values; opposite infinities give a NaN. -/
def FVal.add : FVal → FVal → FVal
  | .nan, _ => .nan
  | _, .nan => .nan
  | .inf a, .inf b => if a = b then .inf a else .nan
  | .inf a, _ => .inf a
  | _, .inf b => .inf b
  | .fin a x, .fin b y => .fin (a && b) (x + y)

/-- The negative of a value. -/
def FVal.neg : FVal → FVal
  | .nan => .nan
  | .inf a => .inf (!a)
  | .fin a x => .fin (!a) (-x)

/-- The sign of a finite value: its own, or that which a zero carries. -/
def finSign (neg : Bool) (r : Rat) : Bool := if r = 0 then neg else decide (r < 0)

/-- The product of two values. -/
def FVal.mul : FVal → FVal → FVal
  | .nan, _ => .nan
  | _, .nan => .nan
  | .inf a, .inf b => .inf (a != b)
  | .inf a, .fin b y => if y = 0 then .nan else .inf (a != finSign b y)
  | .fin a x, .inf b => if x = 0 then .nan else .inf (finSign a x != b)
  | .fin a x, .fin b y => .fin (finSign a x != finSign b y) (x * y)

/-- The quotient of two values. -/
def FVal.div : FVal → FVal → FVal
  | .nan, _ => .nan
  | _, .nan => .nan
  | .inf _, .inf _ => .nan
  | .inf a, .fin b _ => .inf (a != b)
  | .fin a _, .inf b => .fin (a != b) 0
  | .fin a x, .fin b y => if y = 0 then (if x = 0 then .nan else .inf (a != b)) else .fin (a != b) (x / y)

/-- `a ≤ b` of two values; false of a NaN. -/
def FVal.le : FVal → FVal → Bool
  | .nan, _ => false
  | _, .nan => false
  | .inf true, _ => true
  | _, .inf false => true
  | .inf false, _ => false
  | _, .inf true => false
  | .fin _ x, .fin _ y => decide (x ≤ y)

/-- `a < b` of two values; false of a NaN. -/
def FVal.lt (a b : FVal) : Bool := a.le b && !(b.le a)

/-- The rational a finite value is; zero for the others. -/
def FVal.rat : FVal → Rat
  | .fin _ r => r
  | _ => 0

/-! ### binary32, by its bits -/

/-- The value of binary32 bits. -/
def fval (v : Nat) : FVal := fp32.toVal v
/-- A value rounded to binary32, nearest even. -/
def fbits (v : FVal) : Nat := fp32.ofVal .nearestEven v
/-- A rational as binary32. -/
def fOfRat (r : Rat) : Nat := fbits (.fin (decide (r < 0)) r)
/-- binary32 addition. -/
def fadd (a b : Nat) : Nat := fbits ((fval a).add (fval b))
/-- binary32 subtraction. -/
def fsub (a b : Nat) : Nat := fbits ((fval a).add (fval b).neg)
/-- binary32 multiplication. -/
def fmul (a b : Nat) : Nat := fbits ((fval a).mul (fval b))
/-- binary32 division. [log 107 PRESUMED] -/
def fdiv (a b : Nat) : Nat := fbits ((fval a).div (fval b))
/-- binary32 negation: the sign bit changes. -/
def fneg (a : Nat) : Nat := setField a 31 1 (1 - field a 31 1)
/-- binary32 comparison. -/
def fle (a b : Nat) : Bool := (fval a).le (fval b)
/-- binary32 comparison. -/
def flt (a b : Nat) : Bool := (fval a).lt (fval b)
/-- The greatest integer at or below a binary32 value; zero of a NaN or an infinity. -/
def ffloor (a : Nat) : Int := (fval a).rat.floor
/-- An integer as binary32. -/
def fOfInt (i : Int) : Nat := fOfRat (i : Rat)
/-- 1.0. -/
def fone : Nat := 0x3F800000
/-- 0.5. -/
def fhalf : Nat := 0x3F000000

/-- The integer square root, by bisection on the bits from `n` down. -/
def isqrtAux : Nat → Nat → Nat → Nat
  | 0, _, r => r
  | n + 1, v, r => let c := r + 2 ^ n; isqrtAux n v (if c * c ≤ v then c else r)

/-- The greatest integer whose square is at most `v`. -/
def isqrt (v : Nat) : Nat := isqrtAux (Nat.log2 v / 2 + 1) v 0

/-- The square root of a non-negative rational to 2⁻ᵏ, with a last half unit where it is not exact, so that a single
rounding to fewer bits is the rounding of the true root. -/
def ratSqrt (k : Nat) (r : Rat) : Rat :=
  let n := (r * ((2 ^ (2 * k) : Nat) : Rat)).floor.toNat
  let q := isqrt n
  let exact := decide (((q * q : Nat) : Rat) = r * ((2 ^ (2 * k) : Nat) : Rat))
  ((q : Rat) + (if exact then 0 else 1 / 2)) / ((2 ^ k : Nat) : Rat)

/-- The binary32 square root; a NaN of a negative number. [log 107 PRESUMED] -/
def fsqrt (a : Nat) : Nat :=
  match fval a with
  | .fin n r => if r < 0 then fp32.nanBits else if r = 0 then b2n n * 2 ^ 31 else fOfRat (ratSqrt 180 r)
  | .inf false => 0x7F800000
  | _ => fp32.nanBits

/-! ### Angles

The spec gives angles (of a quaternion, of an edge) without a method. They are computed here from the arctangent series to
2⁻⁶⁰, far below the units they are rounded to. -/

/-- The series arctan x = x − x³/3 + …, `n` terms, of a fixed-point x (unit 2⁻⁶⁴). -/
def atanSeries : Nat → Nat → Int → Int → Int → Int
  | 0, _, _, _, acc => acc
  | n + 1, k, p, x2, acc => atanSeries n (k + 1) (-(p * x2 / 2 ^ 64)) x2 (acc + p / (2 * (k : Int) + 1))

/-- arctan of num/den, both non-negative and num ≤ den, in units of 2⁻⁶⁴ rad; halved twice by
arctan x = 2 arctan(x / (1 + √(1 + x²))) before the series. -/
def atanUnit (num den : Nat) : Int :=
  let x : Nat := num * 2 ^ 64 / den
  let half (x : Nat) : Nat := x * 2 ^ 64 / (2 ^ 64 + isqrt (2 ^ 128 + x * x))
  let y := half (half x)
  4 * atanSeries 24 0 y ((y * y / 2 ^ 64 : Nat) : Int) 0

/-- π in units of 2⁻⁶⁴. -/
def piFix : Int := 57952155664616982739

/-- The angle of the vector (x, y) in units of 2⁻⁶⁴ rad, from −π to π; 0 of the zero vector. [log 51 DEDUCED] -/
def atan2Fix (y x : Int) : Int :=
  let ay := y.natAbs
  let ax := x.natAbs
  let a : Int := if ax = 0 ∧ ay = 0 then 0 else if ay ≤ ax then atanUnit ay ax else piFix / 2 - atanUnit ax ay
  let b : Int := if x < 0 then piFix - a else a
  if y < 0 then -b else b

end Sys2Proof.Machine
end

