-- ==== Sys2Proof/Machine/InletCore.lean ====
section
/-! DEFINITION. The Inlet front end up to its queue (R118 to R153): the event word, the decode table, re-timing, hot-pixel
suppression, the flood ceiling, GAP markers, the queue and the spill ring. -/

namespace Sys2Proof.Machine

open Sys2Proof

/-! ### The canonical event word (R137) -/

/-- A word of the fields of R137. -/
def mkWord (stream x y pol kind t : Nat) : Nat :=
  t % 2 ^ 31 + kind % 4 * 2 ^ 31 + pol % 2 * 2 ^ 33 + y % 4096 * 2 ^ 34 + x % 4096 * 2 ^ 46 + stream % 64 * 2 ^ 58

/-- The stream of a word. -/
def wStream (w : Nat) : Nat := field w 58 6
/-- The x of a word. -/
def wX (w : Nat) : Nat := field w 46 12
/-- The y of a word. -/
def wY (w : Nat) : Nat := field w 34 12
/-- The polarity of a word. -/
def wPol (w : Nat) : Nat := field w 33 1
/-- The kind of a word: 0 brightness, 1 feature, 2 marker, 3 tick or horizon. -/
def wKind (w : Nat) : Nat := field w 31 2
/-- The T31 stamp of a word. -/
def wT (w : Nat) : Nat := field w 0 31

/-- A marker (R147): kind 0b10, polarity 0. -/
def marker (stream x y t : Nat) : Nat := mkWord stream x y 0 2 t

/-! ### State and counters -/

/-- Counter `k` (from 0) of stream `n` (R154). -/
def stCtr (n k : Nat) : Reg := Obj.streamCounter n k

/-- The state code of stream `n` (R129). -/
def Dev.stState (s : Dev) (n : Nat) : Nat := s.getF (Obj.streamState n) 0 4

/-- The device with stream `n` in a state. -/
def Dev.setSt (s : Dev) (n st : Nat) : Dev := s.setF (Obj.streamState n) 0 4 st

/-- LastError of stream `n` set (R154). -/
def Dev.stError (s : Dev) (n e : Nat) : Dev := s.setF (Obj.streamState n) 24 8 e

/-- The profile slot that stream `n` uses. -/
def Dev.profileOf (s : Dev) (n : Nat) : Nat := s.getF (Obj.streamState n) 16 8

/-- The present window of `len` ns of device time (R622). -/
def Dev.dtWin (s : Dev) (len : Int) : Int := s.dt / len

/-! ### Queue and ring (R149 to R151) -/

/-- The words of an Inlet queue (R148). [log 53 DESIGN CHOICE] -/
def queueWords : Nat := 65536

/-- The spill bytes that fit into a 1 µs window (R151): 96 GB/s. -/
def spillRoom : Nat := 96000

/-- The spill bytes of each stream in the present window, by stream. -/
def Dev.spillNow (s : Dev) : Tab Nat := if s.spillWin = s.win 1000 then s.spillMoved else []

/-- The spill bytes moved so far in the present window. -/
def Dev.spillUsed (s : Dev) : Nat := (s.spillNow.map (·.2)).sum

/-- Whether stream `n` may move eight more bytes (R151): the cap leaves room for them and for every other spilling stream to have as many turns. [log 53 DESIGN CHOICE] -/
def Dev.spillTurn (s : Dev) (n : Nat) : Bool :=
  let k := Tab.get 0 s.spillNow n + 8
  let others := (List.range 36).filter (fun m => m != n && s.bit (Obj.streamState m) 8)
  decide (s.spillUsed + 8 + (others.map (fun m => k - Tab.get 0 s.spillNow m)).sum ≤ spillRoom)

/-- Eight more bytes of spill traffic of stream `n` (R151). -/
def Dev.spillMove (s : Dev) (n : Nat) : Dev :=
  { s with spillWin := s.win 1000, spillMoved := Tab.put 0 s.spillNow n (Tab.get 0 s.spillNow n + 8) }.meter Obj.spillTraffic 8

/-- Whether a word would find room: in the queue while the stream does not spill, else in the ring (R149, R151). -/
def Dev.hasRoom (s : Dev) (n : Nat) : Bool :=
  let x := s.str n
  if x.ring.isEmpty && decide (x.queue.length < queueWords) then true
  else decide (x.ring.length < x.ringWords) && s.spillTurn n

/-- Events lost on stream `n` since its last GAP (R148). -/
def Dev.lose (s : Dev) (n k : Nat) : Dev := s.updStr n (fun x => { x with lost := x.lost + k })

/-- A word dropped for want of room (R149, R151). -/
def Dev.queueDrop (s : Dev) (n : Nat) : Dev :=
  ((s.bump (stCtr n 0x10)).lose n 1).updStr n (fun x => { x with dropF := some s.f })

/-- A word written to the end of stream `n`'s ring (R327, R330): outside the owner's regions the write is discarded, and on a lost unit too. -/
def Dev.ringPut (s : Dev) (n w : Nat) : Dev :=
  let x := s.str n
  let p := (x.ringAt + x.ring.length) % x.ringWords
  let a := x.ringBase + 8 * p
  let t := s.rd (Obj.streamTenant n)
  match s.regionAt t a with
  | none => (s.updStr n (fun x => { x with ring := x.ring ++ [0] })).regionRefuse t 5 n a
  | some r =>
    let bad := s.lostByte (s.regionMirror r) a
    s.updStr n (fun x => { x with ring := x.ring ++ [w], ringBad := (x.ringBad.filter (· != p)) ++ (if bad then [p] else []) })

/-- A word enters the queue, or the spill ring behind it, or is dropped (R149). [log 53 DESIGN CHOICE] -/
def Dev.pushWord (s : Dev) (n w : Nat) : Dev :=
  let x := s.str n
  if x.ring.isEmpty && decide (x.queue.length < queueWords) then
    s.updStr n (fun x => { x with queue := x.queue ++ [w], headF := if x.queue.isEmpty then s.rf else x.headF })
  else if s.hasRoom n then
    let s := (s.ringPut n w).spillMove n
    let s := (s.bump (stCtr n 0x0E)).setBit (Obj.streamState n) 8 true
    s.raiseTo (Obj.spillPeak n) (s.str n).ring.length
  else s.queueDrop n

/-- A GAP marker ahead of the next accepted event (R148): at most one in each 100 µs window of device time. What was lost as words were read back
from the ring is reported ahead of the words behind it. -/
def Dev.gap (s : Dev) (n t : Nat) : Dev :=
  let x := s.str n
  let w := s.dtWin 100000
  let lost := x.lost + (if x.ring.isEmpty then x.lostBack else 0)
  if lost ≠ 0 ∧ x.gapWin ≠ some w ∧ s.hasRoom n then
    ((s.updStr n (fun x => { x with lost := 0, lostBack := if x.ring.isEmpty then 0 else x.lostBack, gapWin := some w })).pushWord n
      (marker n (min lost 4095) 7 t)).bump (stCtr n 0x17)
  else s

/-- An event accepted into the queue (R148, R149). -/
def Dev.acceptEvent (s : Dev) (n w : Nat) : Dev := (s.gap n (wT w)).pushWord n w

/-- A marker of the present instant queued in order with the stream's events (R147). -/
def Dev.queueMarker (s : Dev) (n x y t : Nat) : Dev := s.pushWord n (marker n x y t)

/-! ### Hot pixels (R138) -/

/-- HotListCount follows the list (R138). -/
def Dev.hotCounted (s : Dev) (n : Nat) : Dev := s.wr (Obj.hotListCount n) (s.str n).hot.length

/-- One candidate judged at the end of a window: added as an auto entry, or counted where the list is full. [log 48 DESIGN CHOICE] -/
def Dev.hotAdd (s : Dev) (n : Nat) (c : Nat × Nat) : Dev :=
  if c.2 < s.rd (Obj.hotCount n) ∨ (s.str n).hot.any (fun e => e.x == c.1 / 4096 && e.y == c.1 % 4096) then s
  else if (s.str n).hot.length < 1024 then
    (s.updStr n (fun x => { x with hot := x.hot ++ [⟨c.1 / 4096, c.1 % 4096, true⟩] })).hotCounted n
  else s.bump (stCtr n 8)

/-- The window that stream `n` counts ends (R138): the candidates, the 256 most frequent pixels, are judged and the table is emptied.
[log 48 DESIGN CHOICE] -/
def Dev.hotClose (s : Dev) (n : Nat) : Dev :=
  let w := s.dtWin (s.rd (Obj.hotWindow n) * 1000000 : Nat)
  let best := (sortBy (fun a b => decide (b.2 ≤ a.2)) (s.str n).cand).take 256
  let s := if s.rd (Obj.hotEnable n) = 1 then best.foldl (fun s c => s.hotAdd n c) s else s
  s.updStr n (fun x => { x with cand := [], hotWin := w })

/-- The window that stream `n` counts ends when device time has left it: the candidates, the 256 most frequent pixels, are judged and
the table is emptied (R138). [log 48 DESIGN CHOICE] -/
def Dev.hotRoll (s : Dev) (n : Nat) : Dev :=
  let w := s.dtWin (s.rd (Obj.hotWindow n) * 1000000 : Nat)
  if (s.str n).hotWin = w then s else s.hotClose n

/-- One more event of a pixel counted by the detector (R138). [log 48 DESIGN CHOICE] -/
def bumpCand (k : Nat) : List (Nat × Nat) → List (Nat × Nat)
  | [] => [(k, 1)]
  | c :: cs => if c.1 = k then (c.1, c.2 + 1) :: cs else c :: bumpCand k cs

/-! ### The path of one decoded event (R118) -/

/-- Stream `n`'s flood count in the 100 µs window that contains the present device time (R139): an earlier window's is closed. -/
def Dev.floodRoll (s : Dev) (n : Nat) : Dev :=
  let w := s.dtWin 100000
  s.updStr n (fun x =>
    if x.floodWin = w then x else { x with floodWin := w, floodCount := 0, floodLast := x.floodNow && x.floodWin + 1 == w, floodNow := false })

/-- Flooded (R154): the last complete 100 µs window of device time dropped under R139. -/
def Dev.flooded (s : Dev) (n : Nat) : Bool := ((s.floodRoll n).str n).floodLast

/-- Dropping (R154, R622): a word was dropped in the present 100 µs window or in the last complete one. -/
def Dev.dropping (s : Dev) (n : Nat) : Bool :=
  match (s.str n).dropF with
  | some f => decide (s.win 100000 ≤ f / 100000 + 1)
  | none => false

/-- The flood ceiling (R139): whether one more event goes on in the present window of 100 µs. -/
def Dev.floodGate (s : Dev) (n : Nat) : Dev × Bool :=
  let s := s.floodRoll n
  if (s.str n).floodCount < s.rd (Obj.floodCeiling n) then (s.updStr n (fun x => { x with floodCount := x.floodCount + 1 }), true)
  else (((s.bump (stCtr n 9)).lose n 1).updStr n (fun x => { x with floodNow := true }), false)

/-- Before a step of device time or a re-basing: the window of R139 that it ends is the one in progress (R622). -/
def Dev.windowsMark (s : Dev) : Dev := s.each 36 (fun n s => s.floodRoll n)

/-- After it (R622): the windows of device time in progress have ended, and each stream is in the one that contains the new device time. -/
def Dev.windowsStepped (s : Dev) : Dev :=
  s.each 36 (fun n s => (s.hotClose n).updStr n (fun x =>
    { x with floodWin := s.dtWin 100000, floodCount := 0, floodLast := x.floodNow, floodNow := false, gapWin := none }))

/-- A decoded event counted over 1 ms (R373), and the last window's rate in Mev/s offered to the recorder (R581). -/
def Dev.countRate (s : Dev) (n : Nat) : Dev :=
  let m : Meter := Tab.get {} s.meters (stCtr n 0).key
  let s := if m.win ≠ s.win 1000000 ∧ m.cur ≠ 0 then s.sedExtreme (0x1100 + 16 * (16 + n)) false ((m.cur / 1000 : Nat) : Int) else s
  s.meter (stCtr n 0) 1

/-- Re-timing (R136): the device time of sensor time `ps`, never before the stream's previous event. -/
def Dev.retime (s : Dev) (n ps : Nat) : Dev × Int :=
  let s := s.clockStart n ps
  let t := s.clockTime n ps
  match (s.str n).lastT with
  | some l =>
    if t < l then (s.bump (stCtr n 6), l) else (s.updStr n (fun x => { x with lastT := some t }), t)
  | none => (s.updStr n (fun x => { x with lastT := some t }), t)

/-- One event emitted by the decoder (R118 stages 2 to 6): bounds, re-timing, hot list, flood ceiling, queue. -/
def Dev.emitEvent (s : Dev) (n x y pol ps : Nat) : Dev :=
  let p := s.profileOf n
  if 4096 ≤ x ∨ s.rd (Obj.pixelWidth p) ≤ x ∨ s.rd (Obj.pixelHeight p) ≤ y then s.bump (stCtr n 5)
  else
    let s := (s.bump (stCtr n 0)).countRate n
    let (s, t) := s.retime n ps
    let s := s.hotRoll n
    if (s.str n).hot.any (fun e => e.x == x && e.y == y) then s.bump (stCtr n 7)
    else
      let s := if s.rd (Obj.hotEnable n) = 1 then s.updStr n (fun z => { z with cand := bumpCand (x * 4096 + y) z.cand }) else s
      let (s, go) := s.floodGate n
      if go then s.acceptEvent n (mkWord n x y pol 0 (t31 t)) else s

/-! ### Decode tables (R134, R135) -/

/-- A field of a sensor word; a width of 0 is absent and reads 0. -/
def wordField (w lsb width : Nat) : Nat := if width = 0 then 0 else field w lsb width

/-- A sensor time of `SensorTimeBits` bits extended without wrap (R135). -/
def Dev.extendTr (s : Dev) (n v : Nat) : Dev × Nat :=
  let bits := s.rd (Obj.sensorTimeBits (s.profileOf n))
  let v := v % 2 ^ bits
  let x := s.str n
  let epoch := if v + 2 ^ (bits - 1) < x.trSeen then x.epoch + 2 ^ bits else x.epoch
  (s.updStr n (fun z => { z with epoch := epoch, trSeen := v }), epoch + v)

/-- The sensor time in ps of a Tr value (R136). -/
def Dev.sensorPs (s : Dev) (n v : Nat) : Dev × Nat :=
  let (s, e) := s.extendTr n v
  (s, e * s.rd (Obj.tickPs (s.profileOf n)))

/-- The set bits of a vector, lowest first, as events (R134, EMIT_VECTOR). -/
def Dev.emitVector (s : Dev) (n a width xb y pol ps : Nat) : Dev :=
  s.each width (fun i s => if bitAt a i then s.emitEvent n (xb + i) y pol ps else s)

/-- DECODE_WORD (R134): one sensor word performs the action of its table entry. -/
def Dev.decodeWord (s : Dev) (n w : Nat) : Dev :=
  let p := s.profileOf n
  let k := field w (s.rd (Obj.typeLsb p)) (s.rd (Obj.typeBits p))
  let e := leAt (s.blob (Obj.decodeTable p)) (8 * k) 8
  let a := wordField w (field e 4 5) (field e 9 5)
  let bw := field e 19 5
  let b := wordField w (field e 14 5) bw
  let cw := field e 29 5
  let c := wordField w (field e 24 5) cw
  let shift := field e 34 6
  let pol := if bitAt e 45 then field w (field e 40 5) 1 else field e 46 1
  let x := s.str n
  match field e 0 4 with
  | 1 =>
    let tr := setField x.tr shift (field e 9 5) a
    let tr := if bitAt e 53 then tr / 2 ^ shift * 2 ^ shift else tr
    ((s.updStr n (fun z => { z with tr := tr })).extendTr n tr).1
  | 2 => s.updStr n (fun z => { z with y := a % 4096 })
  | 3 => s.updStr n (fun z => { z with xb := a % 4096, pol := pol })
  | 4 =>
    let (s, ps) := s.sensorPs n (if cw = 0 then x.tr else setField x.tr shift cw c)
    s.emitEvent n a (if bw = 0 then x.y else b) pol ps
  | 5 =>
    let (s, ps) := s.sensorPs n x.tr
    (s.emitVector n a (field e 9 5) x.xb x.y x.pol ps).updStr n (fun z => { z with xb := (z.xb + field e 47 6) % 4096 })
  | 6 =>
    let (s, ps) := s.sensorPs n x.tr
    if s.rd (Obj.syncMarkType p) = 1 then s.markArrives n ps else s
  | 7 => s.bump (stCtr n 5)
  | _ => s

/-- The whole sensor words of a payload (R134): WordBits bits each, little-endian. -/
def Dev.wordsIn (s : Dev) (n : Nat) (payload : List Byte) : Nat := payload.length / (s.rd (Obj.wordBits (s.profileOf n)) / 8)

/-- A payload decoded word by word. [log 47 DEDUCED] -/
def Dev.decodePayload (s : Dev) (n : Nat) (payload : List Byte) (count : Nat) : Dev :=
  let b := s.rd (Obj.wordBits (s.profileOf n)) / 8
  s.each (min count (s.wordsIn n payload)) (fun i s => s.decodeWord n (leAt payload (i * b) b))

/-- The words of a discarded packet are lost (R120, R148). -/
def Dev.losePacket (s : Dev) (n : Nat) (payload : List Byte) : Dev :=
  (s.bumpBy (stCtr n 0x18) (s.wordsIn n payload)).lose n (s.wordsIn n payload)

/-- A CSI-2 packet on port `n` (R119, R120): checked and counted in every state, decoded while the stream runs (R129). [log 47 DEDUCED] -/
def Dev.csiPacket (s : Dev) (n : Nat) (k : CsiPacket) : Dev :=
  let runs : Bool := s.stState n == 5
  let lose (s : Dev) (payload : List Byte) : Dev := if runs then s.losePacket n payload else s
  if k.header = .uncorrectable then lose (s.bump (stCtr n 2)) k.payload
  else
    let s := if k.header = .corrected then s.bump (stCtr n 3) else s
    if k.vc ≠ s.rd (Obj.virtualChannel n) then lose (s.bump (stCtr n 0x15)) (if k.dt < 0x10 then [] else k.payload)
    else if k.dt < 8 then s
    else if k.dt < 0x10 then
      if runs then
        let (s, ps) := s.sensorPs n (s.str n).tr
        if s.rd (Obj.syncMarkType (s.profileOf n)) = 2 then s.markArrives n ps else s
      else s
    else if k.dt ≠ s.rd (Obj.dataType n) then lose (s.bump (stCtr n 0x15)) k.payload
    else if !k.crcOk then lose ((s.bump (stCtr n 4)).sedError 0x45) k.payload
    else if runs then s.decodePayload n k.payload (s.wordsIn n k.payload) else s

/-- Whether a datagram's source is another than the one in FlowSource (R123). [log 47 DEDUCED] -/
def Dev.flowForeign (s : Dev) (n : Nat) (source : List Byte) : Bool :=
  let want := s.blob (Obj.flowSource n)
  want.any (· != 0) && want != source

/-- A flow datagram of its own source for a RUNNING stream (R122, R123). [log 47 DEDUCED] -/
def Dev.flowDatagram (s : Dev) (n : Nat) (payload : List Byte) : Dev :=
  if leAt payload 0 2 ≠ 0x0100 then s.bump (stCtr n 5)
  else
    let seq := leAt payload 4 4
    let d := match (s.str n).flowSeq with | none => 0 | some p => stampDiff 32 seq (wrapAdd 32 p 1)
    if d < 0 then s.bump (stCtr n 0x11)
    else
      let s := (s.bumpBy (stCtr n 0x11) d.toNat).updStr n (fun x => { x with flowSeq := some seq })
      s.decodePayload n (payload.drop 16) (leAt payload 2 2)

end Sys2Proof.Machine
end

