-- ==== Sys2Proof/Machine/Inlet.lean ====
section
/-! DEFINITION. Inlet's commands (R118 to R155): binding a sensor, starting and stopping a stream, packets, filters, spill
read-back, ego-rotation compensation and the queue exit. -/

namespace Sys2Proof.Machine

open Sys2Proof

/-! ### Sequences and I3C (R124, R125, R133) -/

/-- The entries of a sequence up to its end: address, value and op (R133). -/
def sequenceOf (bs : List Byte) : List (Nat × Nat × Nat) :=
  ((List.range (bs.length / 4)).map (fun i => (leAt bs (4 * i) 2, leAt bs (4 * i + 2) 1, leAt bs (4 * i + 3) 1))).takeWhile (fun e => e.2.2 != 0)

/-- The writes of a sequence (R133). -/
def sequenceWrites (bs : List Byte) : List (Nat × Nat) := ((sequenceOf bs).filter (fun e => e.2.2 == 1)).map (fun e => (e.1, e.2.1))

/-- SerialRegs of profile slot `p` as the device uses them: the default below minor 1 (R132). [log 129 DEDUCED] -/
def Dev.serialRegsOf (s : Dev) (p : Nat) : List Byte := if s.rd (Obj.profileVersion p) < 0x0101 then zeros 8 else s.blob (Obj.serialRegs p)

/-- StopSequence of profile slot `p` as the device uses it: the default below minor 2 (R132). [log 129 DEDUCED] -/
def Dev.stopSequenceOf (s : Dev) (p : Nat) : List Byte := if s.rd (Obj.profileVersion p) < 0x0102 then [] else s.blob (Obj.stopSequence p)

/-- I3C transfers to the sensor of port `n`: `acks` of them acknowledged, the one after them not where `missed` (R129). -/
def Dev.i3cAnswered (s : Dev) (n acks : Nat) (missed : Bool) : Dev :=
  s.updStr n (fun x => { x with i3cMissed := (if acks = 0 then x.i3cMissed else 0) + b2n missed })

/-- A sequence of the profile runs over I3C (R133): `nack` is the first write that the sensor does not acknowledge. True when it ran
to its end. An Ethernet stream has no I3C (R125). -/
def Dev.runSequence (s : Dev) (n : Nat) (bytes : List Byte) (nack : Option Nat) : Dev × Bool :=
  if s.rd (Obj.streamSource n) = 1 then (s, true)
  else
    let ws := sequenceWrites bytes
    let bad := match nack with | some i => if i < ws.length then some i else none | none => none
    let sent := match bad with | some i => ws.take (i + 1) | none => ws
    let s := sent.foldl (fun s w => s.emit (.i3c n 5 (s.rd (Obj.dynamicAddress n)) (leBytes 2 w.1 ++ leBytes 1 w.2))) s
    let s := s.i3cAnswered n (match bad with | some i => i | none => ws.length) bad.isSome
    match bad with
    | some _ => (s.streamFault n 7, false)
    | none => (s, true)

/-- An I3C transfer of identification is under way (R129). -/
def Dev.i3cBegin (s : Dev) (n : Nat) : Dev := s.updStr n (fun x => { x with i3cOut := true, i3cF := s.rf })

/-- The other port on the I3C bus of port `n` (R124). -/
def busMate (n : Nat) : Nat := if n % 2 = 0 then n + 1 else n - 1

/-- Whether a port in IDENTIFY needs ENTDAA (R125). -/
def Dev.needsEntdaa (s : Dev) (n : Nat) : Bool :=
  s.stState n == 1 && s.rd (Obj.streamSource n) == 0 && s.rd (Obj.i3cStaticAddress n) == 0

/-- The device addresses the sensor of port `n` (R124, R125). -/
def Dev.addressSensor (s : Dev) (n : Nat) : Dev :=
  let dyn := 0x30 + n % 2
  let s := s.wr (Obj.dynamicAddress n) dyn
  if s.rd (Obj.i3cStaticAddress n) ≠ 0 then (s.emit (.i3c n 1 (s.rd (Obj.i3cStaticAddress n)) (leBytes 1 dyn))).i3cBegin n
  else if s.needsEntdaa (busMate n) then
    let s := (s.setBit (Obj.streamState n) 10 true).setBit (Obj.streamState (busMate n)) 10 true
    (s.updStr n (fun x => { x with i3cOut := false })).updStr (busMate n) (fun x => { x with i3cOut := false })
  else (s.emit (.i3c n 2 0 (leBytes 1 dyn))).i3cBegin n

/-! ### Identification (R126 to R129) -/

/-- Whether a Provisioned ID matches a profile slot (R127). -/
def Dev.pidMatches (s : Dev) (p : Nat) (pid : List Byte) : Bool :=
  (List.range 6).all (fun i =>
    let m := (s.blob (Obj.pidMask p)).getD i 0
    (pid.getD i 0 &&& m) == ((s.blob (Obj.pidMatch p)).getD i 0 &&& m))

/-- The profile slot that a stream takes (R127): the forced one, or the lowest valid slot that matches. A forced slot that is not valid gives none. [log 130 DESIGN CHOICE] -/
def Dev.matchProfile (s : Dev) (n : Nat) (pid : Option (List Byte)) : Option Nat :=
  let forced := s.rd (Obj.profileSlot n)
  if forced < 16 then (if s.rd (Obj.profileState forced) = 1 then some forced else none)
  else match pid with
    | some pid => (List.range 16).find? (fun p => s.rd (Obj.profileState p) == 1 && s.pidMatches p pid)
    | none => none

/-- A port has read its sensor's identity (R128, R129): it is READY, QUARANTINED or UNMATCHED. -/
def Dev.identified (s : Dev) (n : Nat) (slot : Option Nat) (id : List Byte) (nack : Option Nat) : Dev :=
  let s := (s.updStr n (fun x => { x with i3cOut := false, i3cMissed := 0 })).setBit (Obj.streamState n) 10 false
  let s := s.setBlob (Obj.seenIdentity n) id
  match slot with
  | none => s.setSt n 3
  | some p =>
    let s := s.setF (Obj.streamState n) 16 8 p
    if s.blob (Obj.expectedIdentity n) = id then
      let (s, ok) := s.runSequence n (s.blob (Obj.initSequence p)) nack
      if ok then s.setSt n 4 else s
    else ((s.setSt n 2).bump (stCtr n 0x14)).sedCount (0x1460 + 4 * n)

/-- An Ethernet stream takes its identity from the source of its first datagram and its profile from the forced slot (R125). [log 50 DEDUCED] -/
def Dev.identifyFlow (s : Dev) (n : Nat) (source : List Byte) (nack : Option Nat) : Dev :=
  s.identified n (s.matchProfile n none) source nack

/-- A port enters IDENTIFY (R125, R129). -/
def Dev.enterIdentify (s : Dev) (n : Nat) : Dev :=
  let s := (s.setSt n 1).setF (Obj.streamState n) 16 8 0xFF
  let s := s.updStr n (fun x => { x with flowSeq := none, i3cOut := false, i3cMissed := 0 })
  if s.rd (Obj.streamSource n) = 1 then s else s.addressSensor n

/-- The identity bytes of R126: the serial registers that the profile names, zero where none are named. -/
def Dev.identityBytes (s : Dev) (slot : Option Nat) (pid : List Byte) (bcr dcr : Byte) (serial : List Byte) : List Byte :=
  bytesAt pid 0 6 ++ [bcr, dcr] ++
  (match slot with
   | none => zeros 8
   | some p => (List.range 4).flatMap (fun i => if leAt (s.serialRegsOf p) (2 * i) 2 = 0 then zeros 2 else bytesAt serial (2 * i) 2))

/-! ### Starting and stopping (R129, R130) -/

/-- The nodes that a stream's undistortion grid must have (R140). -/
def Dev.gridNeed (s : Dev) (n : Nat) : Nat :=
  let p := s.profileOf n
  let g := s.rd (Obj.gridStep n)
  (ceilDiv (s.rd (Obj.pixelWidth p) - 1) g + 1) * (ceilDiv (s.rd (Obj.pixelHeight p) - 1) g + 1)

/-- The streams that are RUNNING or DRAINING on die `d` (R130). -/
def Dev.streamsOn (s : Dev) (d : Nat) : Nat :=
  ((List.range 36).filter (fun n => s.rd (Obj.homeDie n) == d && (s.stState n == 5 || s.stState n == 6))).length

/-- The bytes of a stream's spill ring (R149, R330). -/
def Dev.spillNeed (s : Dev) (n : Nat) : Nat := s.rd (Obj.spillBytes n) * 2 ^ 20

/-- Where a stream's spill ring would lie (R330). -/
def Dev.spillPlace (s : Dev) (n : Nat) : Option Nat :=
  if s.spillNeed n = 0 then some 0 else s.roomFor (s.rd (Obj.streamTenant n)) (s.spillNeed n) false

/-- Why a Start is refused (R130): 0 where it is not. -/
def Dev.startError (s : Dev) (n : Nat) : Nat :=
  if 8 ≤ s.rd (Obj.streamTenant n) then 1
  else if 9 ≤ s.streamsOn (s.rd (Obj.homeDie n)) then 2
  else if s.spillPlace n = none then 3
  else if s.mereRoom n = none then 9
  else if s.rd (Obj.gridNodes n) ≠ 0 ∧ s.rd (Obj.gridNodes n) ≠ s.gridNeed n then 0x0A
  else 0

/-- Why de-rotation is off as a stream starts (R146). -/
def Dev.startReason (s : Dev) (n : Nat) : Nat :=
  if s.rd (Obj.fx n) % 2 ^ 31 = 0 ∨ s.rd (Obj.fy n) % 2 ^ 31 = 0 ∨ s.rd (Obj.gyroChannel n) = 0xFF then 3
  else if s.rd (Obj.derotEnable n) = 0 then 4 else 1

/-- The DEROT_OFF of a stream's state (R146). -/
def Dev.derotOff (s : Dev) (n reason : Nat) : Dev :=
  ((s.updStr n (fun x => { x with derotOff := reason, onMark := false })).setBit (Obj.streamState n) 4 false).setBit (Obj.streamState n) 5 (reason == 1)

/-- A stream passes from READY to RUNNING (R129, R130, R147, R160, R330). Losses not yet reported stay to be reported (R148), and so do the time of
the last paired mark and NoSync (R115). [log 128 DESIGN CHOICE] -/
def Dev.startStream (s : Dev) (n : Nat) (nack : Option Nat) : Dev :=
  let (s, ok) := s.runSequence n (s.blob (Obj.startSequence (s.profileOf n))) nack
  if !ok then s
  else
    let place := (s.spillPlace n).getD 0
    let s := if s.spillNeed n = 0 then s else s.take (64 + n) place (s.spillNeed n)
    let s := s.mereTake n ((s.mereRoom n).getD 0)
    let s := (s.wr (Obj.spillPeak n) 0).wr (Obj.staleAgeMax n) 0
    let s := s.setBit (Obj.streamState n) 6 false
    let s := s.updClock n (fun m => { m with set := false, marks := [], edges := [], lastMark := none })
    let s := s.updStr n (fun x => { x with flowSeq := none, lastT := none, ring := [], ringBase := place, ringWords := s.spillNeed n / 8,
                                           ringAt := 0, ringBad := [], gapWin := none, drainEmpty := false, takenF := s.rf, wiped := [],
                                           gyro := [], gyroSeen := none, tg := none, quat := (fone, 0, 0, 0), recent := [] })
    let s := s.setSt n 5
    let t := t31 (s.portDt n)
    let reason := s.startReason n
    let s := (s.derotOff n reason).queueMarker n 0 1 t
    s.queueMarker n reason 4 t

/-- A Start command that passed the checks of R469 (R130). [log 50 DEDUCED] -/
def Dev.startCommand (s : Dev) (q : Requester) (n : Nat) (nack : Option Nat) : Dev :=
  if s.stState n = 4 then
    let e := s.startError n
    if e = 0 then ((s.setBit (Obj.streamState n) 11 true).startStream n nack).accept q
    else (s.stError n e).refuse q .state
  else (s.setBit (Obj.streamState n) 11 true).accept q

/-- A Stop command that passed the checks of R469 (R129). -/
def Dev.stopCommand (s : Dev) (q : Requester) (n : Nat) (nack : Option Nat) : Dev :=
  let s := s.setBit (Obj.streamState n) 11 false
  if s.stState n = 5 then
    let (s, ok) := s.runSequence n (s.stopSequenceOf (s.profileOf n)) nack
    (if ok then (s.setSt n 6).updStr n (fun x => { x with drainEmpty := false }) else s).accept q
  else s.accept q

/-- A Confirm command that passed the checks of R469 (R128, R131). -/
def Dev.confirmCommand (s : Dev) (q : Requester) (n : Nat) (nack : Option Nat) : Dev :=
  if !s.isCustodian q then s.refuse q .rights
  else if s.stState n ≠ 2 then s.refuse q .state
  else
    let s := s.setBlob (Obj.expectedIdentity n) (s.blob (Obj.seenIdentity n))
    let (s, ok) := s.runSequence n (s.blob (Obj.initSequence (s.profileOf n))) nack
    (if ok then s.setSt n 4 else s).accept q

/-- A Rebind command that passed the checks of R469 (R129). [log 50 DEDUCED] -/
def Dev.rebindCommand (s : Dev) (q : Requester) (n : Nat) : Dev :=
  if !s.isCustodian q then s.refuse q .rights
  else if s.stState n = 0 then s.refuse q .state
  else
    let x := s.str n
    let s := s.bumpBy (stCtr n 0x10) (x.queue.length + x.ring.length)
    let s := ((s.updStr n (fun x => { x with queue := [], hot := x.hot.filter (fun e => !e.auto) })).hotCounted n).streamRelease n
    let s := if s.stState n = 7 then s.stError n 0 else s
    let s := s.enterIdentify n
    (if s.rd (Obj.streamSource n) = 1 ∧ x.identity ≠ [] then s.identifyFlow n x.identity none else s).accept q

/-- A StreamCommand by its value. -/
def Dev.streamCommand (s : Dev) (q : Requester) (n v : Nat) (nack : Option Nat) : Dev :=
  match v with
  | 1 => s.startCommand q n nack
  | 2 => s.stopCommand q n nack
  | 3 => s.confirmCommand q n nack
  | _ => s.rebindCommand q n

/-! ### Link events -/

/-- A burst or a datagram at port `n` (R129): an EMPTY port enters IDENTIFY. `source` is the IPv6 source of a datagram. -/
def Dev.linkActivity (s : Dev) (n : Nat) (source : List Byte) (nack : Option Nat) : Dev :=
  let s := s.updStr n (fun x => { x with activeF := s.rf })
  if s.stState n = 0 then
    let s := (s.bump (stCtr n 0x13)).enterIdentify n
    if s.rd (Obj.streamSource n) = 1 then (s.updStr n (fun x => { x with identity := source })).identifyFlow n source nack else s
  else s

/-- The identity of a sensor has been read over I3C (R125 to R129). -/
def Dev.identityRead (s : Dev) (n : Nat) (pid : List Byte) (bcr dcr : Byte) (serial : List Byte) (nack : Option Nat) : Dev :=
  if s.stState n = 1 ∧ s.rd (Obj.streamSource n) = 0 ∧ (s.str n).i3cOut = true then
    if s.rd (Obj.i3cStaticAddress n) = 0 ∧ s.stState (busMate n) = 1 then s
    else
      let slot := s.matchProfile n (some pid)
      let id := s.identityBytes slot pid bcr dcr serial
      (s.updStr n (fun x => { x with identity := id })).identified n slot id nack
  else s

/-- No I3C answer for 10 ms (R129); outside IDENTIFY an unanswered transfer is one of three (R129). -/
def Dev.i3cTimeout (s : Dev) (n : Nat) : Dev :=
  if s.stState n = 1 then
    if (s.str n).i3cOut ∧ 10000000 ≤ s.rf - (s.str n).i3cF then
      (s.updStr n (fun x => { x with i3cOut := false })).streamFault n 6
    else s
  else s.updStr n (fun x => { x with i3cMissed := x.i3cMissed + 1 })

/-- The link of port `n` is gone (R129): `partialWords` words of a packet in progress are discarded. [log 50 DEDUCED] -/
def Dev.linkGone (s : Dev) (n partialWords : Nat) : Dev :=
  let s := s.updStr n (fun x => { x with i3cMissed := 0 })
  match s.stState n with
  | 0 => s
  | 5 => (((s.bumpBy (stCtr n 0x18) partialWords).lose n partialWords).setSt n 6).updStr n (fun x => { x with drainEmpty := true })
  | 6 => s.updStr n (fun x => { x with drainEmpty := true })
  | _ => (((s.streamRelease n).setSt n 0).setF (Obj.streamState n) 16 8 0xFF).setBit (Obj.streamState n) 10 false

/-- LINK_LOST (R129): LinkTimeout has passed without activity, or three I3C transfers went unanswered. [log 50 DEDUCED] -/
def Dev.linkLost (s : Dev) (n partialWords : Nat) : Dev :=
  let x := s.str n
  if s.rd Obj.linkTimeout * 1000 ≤ s.rf - x.activeF ∨ 3 ≤ x.i3cMissed then s.linkGone n partialWords else s

/-- The drain of stream `n` is over (R129, R138, R147): the queue, the ring and the home die's sluice are empty. [log 50 DEDUCED] -/
def Dev.drainComplete (s : Dev) (n : Nat) : Dev :=
  let x := s.str n
  if s.stState n = 6 ∧ x.queue = [] ∧ x.ring = [] ∧ x.sluice = [] then
    let s := s.updStr n (fun x => { x with sluice := [marker n 0 2 (t31 (s.portDt n))], servedF := s.rf, takenF := s.rf, hot := x.hot.filter (fun e => !e.auto) })
    let s := (s.hotCounted n).streamRelease n
    if x.drainEmpty then (s.setSt n 0).setF (Obj.streamState n) 16 8 0xFF else s.setSt n 4
  else s

/-- The words of a queue have waited on its sluice for QueueStallLimit (R152). -/
def Dev.queueStall (s : Dev) (n : Nat) : Dev :=
  let x := s.str n
  if s.stState n = 5 ∧ x.queue ≠ [] ∧ s.rd (Obj.queueStallLimit n) * 1000 ≤ s.rf - max x.takenF x.headF then s.streamFault n 8 else s

/-- AUTO_RESTART (R129, R130). -/
def Dev.autoRestartOn (s : Dev) (n : Nat) (nack : Option Nat) : Dev :=
  if s.stState n = 4 ∧ s.rd (Obj.autoRestart n) = 1 ∧ s.bit (Obj.streamState n) 11 = true then
    let e := s.startError n
    if e = 0 then s.startStream n nack else s.stError n e
  else s

/-- One word lost as it was read back (R148, R150, R330). -/
def Dev.loseBack (s : Dev) (n : Nat) : Dev := s.updStr n (fun x => { x with lostBack := x.lostBack + 1 })

/-- The oldest ring word read back (R149, R150, R322, R327, R330): `bad` when its code finds an error. [log 53 DESIGN CHOICE] -/
def Dev.spillBack (s : Dev) (n : Nat) (bad : Bool) : Dev :=
  let x := s.str n
  match x.ring with
  | [] => s
  | w :: ws =>
    let a := x.ringBase + 8 * x.ringAt
    let t := s.rd (Obj.streamTenant n)
    if x.queue.length < queueWords ∧ s.spillTurn n = true ∧ s.retraining (gddrChan a) = false then
      let inside := (s.regionAt t a).isSome
      let w := if inside then w else 0
      let s := if inside then s else s.regionRefuse t 5 n a
      let s := (s.updStr n (fun x => { x with ring := ws, ringAt := (x.ringAt + 1) % x.ringWords, ringBad := x.ringBad.filter (· != x.ringAt) })).spillMove n
      let s := if ws = [] then s.setBit (Obj.streamState n) 8 false else s
      if bad || x.ringBad.contains x.ringAt then (s.bump (stCtr n 0x10)).loseBack n
      else if (s.rd (Obj.spillAgeLimit n) * 1000 : Nat) < s.dt - s.ofT31 (wT w) then (s.bump (stCtr n 0x0F)).loseBack n
      else
        let y := s.str n
        let g := s.dtWin 100000
        let gapNow : Bool := wKind w == 0 && y.lostBack != 0 && decide (y.gapWin ≠ some g) && decide (y.queue.length + 1 < queueWords)
        let front := if gapNow then [marker n (min y.lostBack 4095) 7 (wT w), w] else [w]
        let s := if gapNow then s.bump (stCtr n 0x17) else s
        s.updStr n (fun x => { x with queue := x.queue ++ front, headF := if x.queue.isEmpty then s.rf else x.headF,
                                      lostBack := if gapNow then 0 else x.lostBack, gapWin := if gapNow then some g else x.gapWin })
    else s

/-! ### Ego-rotation (R142 to R146) -/

/-- A quaternion of four binary32 numbers w, x, y, z. -/
abbrev Quat := Nat × Nat × Nat × Nat

/-- The product of two quaternions, in binary32 (R144), sums from left to right. [log 49 DESIGN CHOICE] -/
def qmul (a b : Quat) : Quat :=
  (fsub (fsub (fsub (fmul a.1 b.1) (fmul a.2.1 b.2.1)) (fmul a.2.2.1 b.2.2.1)) (fmul a.2.2.2 b.2.2.2),
   fsub (fadd (fadd (fmul a.1 b.2.1) (fmul a.2.1 b.1)) (fmul a.2.2.1 b.2.2.2)) (fmul a.2.2.2 b.2.2.1),
   fadd (fadd (fsub (fmul a.1 b.2.2.1) (fmul a.2.1 b.2.2.2)) (fmul a.2.2.1 b.1)) (fmul a.2.2.2 b.2.1),
   fadd (fsub (fadd (fmul a.1 b.2.2.2) (fmul a.2.1 b.2.2.1)) (fmul a.2.2.1 b.2.1)) (fmul a.2.2.2 b.1))

/-- A quaternion divided by its length. [log 49 DESIGN CHOICE] -/
def qnorm (a : Quat) : Quat :=
  let m := fsqrt (fadd (fadd (fadd (fmul a.1 a.1) (fmul a.2.1 a.2.1)) (fmul a.2.2.1 a.2.2.1)) (fmul a.2.2.2 a.2.2.2))
  (fdiv a.1 m, fdiv a.2.1 m, fdiv a.2.2.1 m, fdiv a.2.2.2 m)

/-- A vector rotated by a unit quaternion. [log 49 DESIGN CHOICE] -/
def qrotate (q : Quat) (v : Nat × Nat × Nat) : Nat × Nat × Nat :=
  (qmul (qmul q (0, v.1, v.2.1, v.2.2)) (q.1, fneg q.2.1, fneg q.2.2.1, fneg q.2.2.2)).2

/-- A sample applied to the quaternion (R143): `dt` and `tau` in seconds, binary32. [log 49 DESIGN CHOICE] -/
def qstep (imu q : Quat) (w : Nat × Nat × Nat) (dt tau : Nat) : Quat :=
  let two := 0x40000000
  let wc := qrotate imu w
  let q := qnorm (qmul q (fone, fdiv (fmul wc.1 dt) two, fdiv (fmul wc.2.1 dt) two, fdiv (fmul wc.2.2 dt) two))
  let a := fdiv dt tau
  let k := fsub fone a
  let q := qnorm (fadd (fmul k q.1) a, fmul k q.2.1, fmul k q.2.2.1, fmul k q.2.2.2)
  if flt q.1 0 then (fneg q.1, fneg q.2.1, fneg q.2.2.1, fneg q.2.2.2) else q

/-- A time in ns as binary32 seconds. -/
def secs (ns : Int) : Nat := fOfRat ((ns : Rat) / 1000000000)

/-- De-rotation starts again at a sample (R146): the quaternion is the identity and tg the sample's stamp. -/
def Dev.derotStart (s : Dev) (n : Nat) (t : Int) : Dev :=
  ((s.updStr n (fun x => { x with derotOff := 0, onMark := true, quat := (fone, 0, 0, 0), tg := some t })).wrT (Obj.lastGyroStamp n) t
    |>.setBit (Obj.streamState n) 4 true).setBit (Obj.streamState n) 5 false

/-- One sample applied (R143); one not after the last is passed over. [log 49 DESIGN CHOICE] -/
def Dev.applySample (s : Dev) (n : Nat) (g : GyroSample) : Dev :=
  let x := s.str n
  if x.derotOff = 1 then s.derotStart n g.stamp
  else match x.tg with
    | some tg =>
      if tg < g.stamp then
        let imu : Quat := (s.rd (Obj.imuW n), s.rd (Obj.imuX n), s.rd (Obj.imuY n), s.rd (Obj.imuZ n))
        let q := qstep imu x.quat (g.x, g.y, g.z) (secs (g.stamp - tg)) (secs (s.rd (Obj.anchorTau n) * 1000 : Nat))
        (s.updStr n (fun x => { x with quat := q, tg := some g.stamp })).wrT (Obj.lastGyroStamp n) g.stamp
      else s
    | none => s

/-- Every sample stamped at or before `te` applied in stamp order (R143). -/
def Dev.applySamples (s : Dev) (n : Nat) (te : Int) : Dev :=
  let due := sortBy (fun (a b : GyroSample) => decide (a.stamp ≤ b.stamp)) ((s.str n).gyro.filter (fun g => decide (g.stamp ≤ te)))
  let s := s.updStr n (fun x => { x with gyro := x.gyro.filter (fun g => decide (te < g.stamp)) })
  due.foldl (fun s g => s.applySample n g) s

/-- A rate vector reaches the front end (R142, R146): a sample with a new stamp ends reason 2. -/
def Dev.gyroSample (s : Dev) (n : Nat) : Dev :=
  match (s.str n).gyroIn with
  | [] => s
  | g :: gs =>
    let s := s.updStr n (fun x => { x with gyroIn := gs })
    let fresh : Bool := match (s.str n).tg with | some t => decide (t < g.stamp) | none => true
    if s.stState n ≠ 5 ∧ s.stState n ≠ 6 then s
    else
      let s := s.updStr n (fun x => { x with gyroSeen := some (match x.gyroSeen with | some t => max t g.stamp | none => g.stamp) })
      if (s.str n).derotOff = 2 ∧ fresh = true then s.derotStart n g.stamp
      else s.updStr n (fun x => { x with gyro := x.gyro ++ [g] })

/-! ### Undistortion (R140) -/

/-- The displacement of a grid node in 1/16 pixel. -/
def nodeAt (bs : List Byte) (i : Nat) : Int × Int := (signed 16 (leAt bs (4 * i) 2), signed 16 (leAt bs (4 * i + 2) 2))

/-- The bilinear displacement of raw pixel (x, y), in pixels, binary32 (R140). -/
def Dev.displace (s : Dev) (n x y : Nat) : Nat × Nat :=
  if s.rd (Obj.gridNodes n) = 0 then (0, 0)
  else
    let bs := s.blob (Obj.gridImage n)
    let g := s.rd (Obj.gridStep n)
    let cols := ceilDiv (s.rd (Obj.pixelWidth (s.profileOf n)) - 1) g + 1
    let i := y / g * cols + x / g
    let a : Rat := ((x % g : Nat) : Rat) / g
    let b : Rat := ((y % g : Nat) : Rat) / g
    let mix (f : Int × Int → Int) : Rat :=
      ((1 - b) * ((1 - a) * f (nodeAt bs i) + (if a = 0 then 0 else a * f (nodeAt bs (i + 1)))) +
       (if b = 0 then 0 else b * ((1 - a) * f (nodeAt bs (i + cols)) + (if a = 0 then 0 else a * f (nodeAt bs (i + cols + 1)))))) / 16
    (fOfRat (mix (·.1)), fOfRat (mix (·.2)))

/-- A pixel of the output array, or none (R143). -/
def Dev.inOutput (s : Dev) (n : Nat) (x y : Int) : Option (Nat × Nat) :=
  if 0 ≤ x ∧ x < s.rd (Obj.outputWidth n) ∧ 0 ≤ y ∧ y < s.rd (Obj.outputHeight n) then some (x.toNat, y.toNat) else none

/-- floor(v + 0.5) in binary32 (R143, R144). -/
def fround (v : Nat) : Int := ffloor (fadd v fhalf)

/-- The output pixel of an undistorted position (R143, R144): de-rotated, or rounded as it is. [log 49 DESIGN CHOICE] -/
def Dev.outputPixel (s : Dev) (n : Nat) (u v : Nat) : Option (Nat × Nat) :=
  if (s.str n).derotOff = 0 then
    let (fx, fy, cx, cy) := (s.rd (Obj.fx n), s.rd (Obj.fy n), s.rd (Obj.cx n), s.rd (Obj.cy n))
    let e := qrotate (s.str n).quat (fdiv (fsub u cx) fx, fdiv (fsub v cy) fy, fone)
    if fle e.2.2 0 then none
    else s.inOutput n (fround (fadd (fdiv (fmul fx e.1) e.2.2) cx)) (fround (fadd (fdiv (fmul fy e.2.1) e.2.2) cy))
  else s.inOutput n (fround u) (fround v)

/-! ### The queue exit (R143 to R146) -/

/-- The events' share of the exit: stale age, GyroLossLimit, the markers that go ahead, and the output word if the event stays in
view. -/
def Dev.exitEvent (s : Dev) (n w : Nat) (te : Int) : Dev × List Nat :=
  let t := wT w
  let on : List Nat := if (s.str n).onMark then [marker n 0 3 t] else []
  let s := s.updStr n (fun x => { x with onMark := false })
  let age : Int := match (s.str n).tg with | some g => te - g | none => 0
  let active : Bool := (s.str n).derotOff == 0
  let gone : Bool := active && decide ((s.rd (Obj.gyroLossLimit n) * 1000 : Nat) < age)
  let s := if gone then s.derotOff n 2 else s
  let off : List Nat := if gone then [marker n 2 4 t] else []
  let live : Bool := active && !gone
  let s := if (s.str n).tg = none then s else s.raiseTo (Obj.staleAgeMax n) (satAdd 32 (age / 1000).toNat 0)
  let s := if live then s else s.bump (stCtr n 0x0D)
  let old : Bool := live && decide ((s.rd (Obj.staleLimit n) * 1000 : Nat) < age)
  let was := s.bit (Obj.streamState n) 6
  let mark : List Nat := if old && !was then [marker n 0 5 t] else if live && !old && was then [marker n 0 6 t] else []
  let s := if old then s.bump (stCtr n 0x0C) else s
  let s := if live then s.setBit (Obj.streamState n) 6 old else s
  let d := s.displace n (wX w) (wY w)
  match s.outputPixel n (fadd (fOfInt (wX w)) d.1) (fadd (fOfInt (wY w)) d.2) with
  | some (x, y) => (s.bump (stCtr n 1), on ++ off ++ mark ++ [mkWord n x y (wPol w) 0 t])
  | none => (s.bump (stCtr n 0x0A), on ++ off ++ mark)

/-- The head of the queue leaves it (R143, R147) when its sluice has room: a marker at once; an event when a sample stamped after it has
arrived or DerotWait has passed, and at once when de-rotation is off for reasons 3 and 4. -/
def Dev.queueExit (s : Dev) (n : Nat) : Dev :=
  match (s.str n).queue with
  | [] => s
  | w :: ws =>
    if s.stState n ≠ 5 ∧ s.stState n ≠ 6 then s
    else
      let te := s.ofT31 (wT w)
      let x := s.str n
      let ready : Bool := wKind w != 0 || x.derotOff == 3 || x.derotOff == 4 ||
        (match x.gyroSeen with | some t => decide (te < t) | none => false) || decide (s.rd (Obj.derotWait n) * 1000 ≤ s.rf - x.headF)
      if !ready then s
      else
        let r : Dev × List Nat := if wKind w = 0 then (s.applySamples n te).exitEvent n w te else (s, [w])
        if 32 < x.sluice.length + r.2.length then s
        else r.1.updStr n (fun x => { x with queue := ws, headF := s.rf, servedF := if x.sluice.isEmpty then s.rf else x.servedF,
                                                  sluice := x.sluice ++ r.2, takenF := s.rf })

/-! ### Profiles (R132 to R134, R155) -/

/-- Whether a profile slot is used by a running stream (R155). [log 52 DEDUCED] -/
def Dev.profileUsed (s : Dev) (p : Nat) : Bool :=
  (List.range 36).any (fun n => (s.stState n == 5 || s.stState n == 6) && s.profileOf n == p)

/-- Whether a decode-table entry is good (R134). -/
def entryOk (e wordBits : Nat) : Bool :=
  let act := field e 0 4
  let inWord (lsb width : Nat) : Bool := width == 0 || decide (lsb + width ≤ wordBits)
  decide (act < 8) &&
  inWord (field e 4 5) (field e 9 5) && inWord (field e 14 5) (field e 19 5) && inWord (field e 24 5) (field e 29 5) &&
  (!bitAt e 45 || decide (field e 40 5 < wordBits)) &&
  (act != 1 || decide (field e 34 6 + field e 9 5 ≤ 64)) && (act != 4 || field e 29 5 == 0 || decide (field e 34 6 + field e 29 5 ≤ 64))

/-- Whether the ops of a sequence are known (R133). -/
def sequenceOk (bs : List Byte) : Bool := bs.length % 4 == 0 && (sequenceOf bs).all (fun e => e.2.2 == 1 || e.2.2 == 2)

/-- ProfileState of slot `p` at a version (R132, R134): 0 empty, 1 valid, 2 version refused, 3 table refused. -/
def Dev.profileCheck (s : Dev) (p v : Nat) : Nat :=
  if v = 0 then 0
  else if v < 0x0100 ∨ 0x0102 < v then 2
  else
    let bits := s.rd (Obj.wordBits p)
    let t := s.blob (Obj.decodeTable p)
    let k := 2 ^ s.rd (Obj.typeBits p)
    if t.length = 8 * k ∧ s.rd (Obj.typeLsb p) + s.rd (Obj.typeBits p) ≤ bits ∧ (List.range k).all (fun i => entryOk (leAt t (8 * i) 8) bits) = true ∧
       sequenceOk (s.blob (Obj.initSequence p)) = true ∧ sequenceOk (s.blob (Obj.startSequence p)) = true ∧
       (v < 0x0102 ∨ sequenceOk (s.blob (Obj.stopSequence p)) = true) then 1
    else 3

/-- An UNMATCHED port tries again when a slot becomes valid (R129). -/
def Dev.retryMatch (s : Dev) (n : Nat) : Dev :=
  if s.stState n = 3 then
    if s.rd (Obj.streamSource n) = 1 then (s.setSt n 1).identifyFlow n (s.str n).identity none
    else (s.setSt n 1).i3cBegin n
  else s

/-- A write of ProfileVersion that passed the checks of R469 (R132, R155). -/
def Dev.profileVersionWrite (s : Dev) (q : Requester) (p v : Nat) : Dev :=
  if s.profileUsed p then s.refuse q .state
  else
    let s := s.wr (Obj.profileVersion p) v
    let st := s.profileCheck p v
    let s := s.wr (Obj.profileState p) st
    (if st = 1 then s.each 36 (fun n s => s.retryMatch n) else s).accept q

/-- A write of I3cStaticAddress that passed the checks of R469 (R125): on a port with Ambiguous set it lets the device address both
sensors of the bus. -/
def Dev.staticAddressWrite (s : Dev) (q : Requester) (n v : Nat) : Dev :=
  let s := s.wr (Obj.i3cStaticAddress n) v
  if s.bit (Obj.streamState n) 10 = true ∧ v ≠ 0 then
    let m := busMate n
    let s := (s.setBit (Obj.streamState n) 10 false).addressSensor n
    let s := s.setBit (Obj.streamState m) 10 false
    (if s.needsEntdaa m then s.addressSensor m else s).accept q
  else s.accept q

/-- HotListClear (R138): 1 the auto entries, 2 all. -/
def Dev.hotClear (s : Dev) (q : Requester) (n v : Nat) : Dev :=
  ((s.updStr n (fun x => { x with hot := if v = 1 then x.hot.filter (fun e => !e.auto) else [] })).hotCounted n).accept q

/-! ### The commands -/

/-- The power domain of sensor port `n` (R522). -/
def portDomain (n : Nat) : Nat := 136 + n

/-- LINK_ACTIVITY (R129). -/
def execLinkActivity (n : Fin 36) (source : List Byte) (nack : Option Nat) (s : State) : Host.Outcome State Fault Refusal :=
  s.runIn (portDomain n.val) (fun d => d.linkActivity n.val (bytesAt source 0 16) nack)

/-- The pads of I3C are latched (R536), or stopped with IOD1 (R558): what needs them waits. -/
def Dev.i3cLatched (s : Dev) : Bool := s.padsHeld 180

/-- IDENTITY_READ (R126 to R129). -/
def execIdentityRead (n : Fin 36) (pid : List Byte) (bcr dcr : Byte) (serial : List Byte) (nack : Option Nat) (s : State) : Host.Outcome State Fault Refusal :=
  s.runIn (portDomain n.val) (fun d => if d.i3cLatched then d else d.identityRead n.val pid bcr dcr serial nack)

/-- I3C_TIMEOUT (R129). -/
def execI3cTimeout (n : Fin 36) (s : State) : Host.Outcome State Fault Refusal := s.runIn (portDomain n.val) (fun d => if d.i3cLatched then d else d.i3cTimeout n.val)

/-- I3C_INTERRUPT (R124). -/
def execI3cInterrupt (n : Fin 36) (s : State) : Host.Outcome State Fault Refusal :=
  s.runIn 180 (fun d => if d.i3cLatched then d else (d.emit (.i3c n.val 6 (d.rd (Obj.dynamicAddress n.val)) [])).bump (stCtr n.val 0x16))

/-- HOT_JOIN (R124): the request is accepted. -/
def execHotJoin (n : Fin 36) (s : State) : Host.Outcome State Fault Refusal :=
  s.runIn 180 (fun d => if d.i3cLatched then d else d.emit (.i3c n.val 6 2 []))

/-- CONFIRM (R128). -/
def execConfirm (q : Requester) (n : Fin 36) (nack : Option Nat) (s : State) : Host.Outcome State Fault Refusal :=
  s.asked q (Obj.streamCommand n.val) 3 (fun d => d.streamCommand q n.val 3 nack)

/-- STREAM_START_COMMAND (R130). -/
def execStreamStartCommand (q : Requester) (n : Fin 36) (nack : Option Nat) (s : State) : Host.Outcome State Fault Refusal :=
  s.asked q (Obj.streamCommand n.val) 1 (fun d => d.streamCommand q n.val 1 nack)

/-- AUTO_RESTART (R129). -/
def execAutoRestart (n : Fin 36) (nack : Option Nat) (s : State) : Host.Outcome State Fault Refusal :=
  s.runIn (portDomain n.val) (fun d => d.autoRestartOn n.val nack)

/-- STREAM_STOP_COMMAND (R129). -/
def execStreamStopCommand (q : Requester) (n : Fin 36) (nack : Option Nat) (s : State) : Host.Outcome State Fault Refusal :=
  s.asked q (Obj.streamCommand n.val) 2 (fun d => d.streamCommand q n.val 2 nack)

/-- REBIND (R129). -/
def execRebind (q : Requester) (n : Fin 36) (s : State) : Host.Outcome State Fault Refusal :=
  s.asked q (Obj.streamCommand n.val) 4 (fun d => d.streamCommand q n.val 4 none)

/-- LINK_LOST (R129). -/
def execLinkLost (n : Fin 36) (partialWords : Nat) (s : State) : Host.Outcome State Fault Refusal :=
  s.runIn (portDomain n.val) (fun d => d.linkLost n.val partialWords)

/-- DRAIN_COMPLETE (R129). -/
def execDrainComplete (n : Fin 36) (s : State) : Host.Outcome State Fault Refusal := s.runIn (portDomain n.val) (fun d => d.drainComplete n.val)

/-- QUEUE_STALL (R152). -/
def execQueueStall (n : Fin 36) (s : State) : Host.Outcome State Fault Refusal := s.runIn (portDomain n.val) (fun d => d.queueStall n.val)

/-- CSI2_PACKET (R119, R120): decoded while the stream runs (R129). -/
def execCsi2Packet (n : Fin 36) (k : CsiPacket) (s : State) : Host.Outcome State Fault Refusal :=
  let mine (d : Dev) : Bool := d.domOn (portDomain n.val) && d.rd (Obj.streamSource n.val) == 0
  if s.dev.rimOpen && mine s.dev && s.dev.stState n.val == 5 then .next { s with dev := s.dev.fresh.losePacket n.val k.payload }
  else s.runIn (portDomain n.val) (fun d =>
    let d := if d.stState n.val = 0 then d else d.updStr n.val (fun x => { x with activeF := d.rf })
    if mine d then d.csiPacket n.val k else d)

/-- A datagram on a 25 GbE port for every stream fed from its destination port (R122, R123). -/
def Dev.flowArrives (d : Dev) (udp : Nat) (source payload : List Byte) : Dev :=
  d.each 36 (fun n d =>
    if d.domOn (portDomain n) = true ∧ d.rd (Obj.streamSource n) = 1 ∧ udp ≠ 0 ∧ d.rd (Obj.flowPort n) = udp then
      let d := if d.stState n = 0 then d else d.updStr n (fun x => { x with activeF := d.rf })
      if d.flowForeign n (bytesAt source 0 16) then d.bump (stCtr n 0x12)
      else if d.stState n = 5 then d.flowDatagram n payload else d
    else d)

/-- FLOW_DATAGRAM (R122, R123, R589); `fcsOk` is false for a frame that fails its FCS (R562). -/
def execFlowDatagram (port : Fin 2) (udp : Nat) (source payload : List Byte) (fcsOk : Bool) (s : State) : Host.Outcome State Fault Refusal :=
  s.framed (.flowDatagram port udp source payload fcsOk) (fun s =>
    if s.dev.domOn (175 + port.val) then { s with dev := if fcsOk then s.dev.flowArrives udp source payload else s.dev.badFrame port.val } else s)

/-- HOT_WINDOW_END (R138). -/
def execHotWindowEnd (n : Fin 36) (s : State) : Host.Outcome State Fault Refusal := s.runIn (portDomain n.val) (fun d => d.hotRoll n.val)

/-- HOT_LIST_CLEAR_AUTO (R138). -/
def execHotListClearAuto (q : Requester) (n : Fin 36) (s : State) : Host.Outcome State Fault Refusal :=
  s.asked q (Obj.hotListClear n.val) 1 (fun d => d.hotClear q n.val 1)

/-- HOT_LIST_CLEAR_ALL (R138). -/
def execHotListClearAll (q : Requester) (n : Fin 36) (s : State) : Host.Outcome State Fault Refusal :=
  s.asked q (Obj.hotListClear n.val) 2 (fun d => d.hotClear q n.val 2)

/-- PROFILE_VERSION_WRITE (R132). -/
def execProfileVersionWrite (q : Requester) (p : Fin 16) (v : BitVec 16) (s : State) : Host.Outcome State Fault Refusal :=
  s.asked q (Obj.profileVersion p.val) v.toNat (fun d => d.profileVersionWrite q p.val v.toNat)

/-- SPILL_READ_BACK (R149, R150). -/
def execSpillReadBack (n : Fin 36) (check : Check) (s : State) : Host.Outcome State Fault Refusal :=
  s.runIn (portDomain n.val) (fun d => if d.domOn 172 then d.spillBack n.val (check == .uncorrectable) else d)

/-- GYRO_SAMPLE (R142, R143): the oldest rate vector on its way to the stream arrives. -/
def execGyroSample (n : Fin 36) (s : State) : Host.Outcome State Fault Refusal := s.runIn (portDomain n.val) (fun d => d.gyroSample n.val)

/-- QUEUE_EXIT (R143). -/
def execQueueExit (n : Fin 36) (s : State) : Host.Outcome State Fault Refusal := s.runIn (portDomain n.val) (fun d => d.queueExit n.val)

/-- I3C_STATIC_ADDRESS_WRITE (R125). -/
def execI3cStaticAddressWrite (q : Requester) (n : Fin 36) (v : BitVec 8) (s : State) : Host.Outcome State Fault Refusal :=
  s.asked q (Obj.i3cStaticAddress n.val) v.toNat (fun d => d.staticAddressWrite q n.val v.toNat)

end Sys2Proof.Machine
end

