-- ==== Sys2Proof/Machine/EddyCore.lean ====
section
/-! DEFINITION. The Eddy slice (R156 to R176): the neighbourhood of an event, the refractory gate, the plane fit, the corner
score, the feature record, and the routes that its words take. -/

namespace Sys2Proof.Machine

open Sys2Proof

/-! ### Cells (R156 to R159) -/

/-- The time code of a T31 stamp (R157). -/
def timeCode (t : Nat) : Nat := t / 16 % 2 ^ 15

/-- The signed 15-bit difference `tr` − Time (R158). -/
def cellAge (tr cell : Nat) : Int := stampDiff 15 tr (cell % 2 ^ 15)

/-- Whether a cell is stale (R157). -/
def cellStale (cell : Nat) : Bool := cell % 2 ^ 15 == staleCell

/-- Whether a cell is live against `tr` (R158). -/
def cellLive (tr cell : Nat) : Bool := !cellStale cell && decide (0 ≤ cellAge tr cell) && decide (cellAge tr cell ≤ 15000)

/-- The key of the cell of output pixel (x, y) of stream `n` (R159, R160): blocks of 32 × 8, row by row. -/
def Dev.cellKey (s : Dev) (n x y : Nat) : Nat :=
  mereKey (s.rd (Obj.homeDie n)) (s.rd (Obj.mereBase n) + y / 8 * ceilDiv (s.rd (Obj.outputWidth n)) 32 + x / 32) (y % 8 * 32 + x % 32)

/-- The bank of cell `i` of a block (R159). [log 55 DEDUCED] -/
def cellBank (i : Nat) : Nat := i % 32 / 4 % 8 + 8 * (i / 32 % 8)

/-- A parity error read in cell `i` of a block on die `d`, of stream `n` (R165): counted, and a bank with more than 64 in one second is
reported (R551). [log 56 DESIGN CHOICE] -/
def Dev.parityError (s : Dev) (d n i : Nat) : Dev :=
  let s := ((s.bump (Obj.mereParityErrors d)).bump (eddyCtr n 9)).sedError 0x46
  let k := d * 64 + cellBank i
  let x := Tab.get (0, 0) s.parityRun k
  let w := s.win 1000000000
  let c := if x.1 = w + 1 then x.2 + 1 else 1
  let s := { s with parityRun := Tab.put (0, 0) s.parityRun k (w + 1, c) }
  if c = 65 then s.detect 0x0A (.mereBank d (cellBank i)) (cellBank i) else s

/-! ### The neighbourhood (R167, R170) -/

/-- A position of the neighbourhood as read in step 1 of R167: its offsets, whether it lies in the array, and its cell, stale where
parity failed. -/
structure Nbr where
  i : Int
  j : Int
  inside : Bool
  cell : Nat
  deriving DecidableEq, Repr

/-- Position `k`, 0 to 24, of the neighbourhood of (x, y), row by row. `bad` are the positions whose parity fails. -/
def Dev.nbr (s : Dev) (n x y : Nat) (bad : List (Fin 25)) (k : Nat) : Nbr :=
  let i : Int := ((k % 5 : Nat) : Int) - 2
  let j : Int := ((k / 5 : Nat) : Int) - 2
  let px := (x : Int) + i
  let py := (y : Int) + j
  let ok : Bool := decide (0 ≤ px) && decide (px < (s.rd (Obj.outputWidth n) : Nat)) && decide (0 ≤ py) && decide (py < (s.rd (Obj.outputHeight n) : Nat))
  let key := s.cellKey n px.toNat py.toNat
  let broken : Bool := bad.any (fun b => b.val == k) || Tab.get false s.mereBad key
  ⟨i, j, ok, if ok && !broken then s.cell key else staleCell⟩

/-- The parity errors of step 1 counted; a cell other than the centre awaits the sweeper (R165). [log 56 DESIGN CHOICE] -/
def Dev.readParity (s : Dev) (n x y : Nat) (bad : List (Fin 25)) : Dev :=
  s.each 25 (fun k s =>
    let px := (x : Int) + ((k % 5 : Nat) : Int) - 2
    let py := (y : Int) + ((k / 5 : Nat) : Int) - 2
    if 0 ≤ px ∧ px < (s.rd (Obj.outputWidth n) : Nat) ∧ 0 ≤ py ∧ py < (s.rd (Obj.outputHeight n) : Nat) then
      let key := s.cellKey n px.toNat py.toNat
      if (bad.any (fun b => b.val == k) || Tab.get false s.mereBad key) = true then
        ({ s with mereBad := Tab.put false s.mereBad key true }).parityError (s.rd (Obj.homeDie n)) n (key % 256)
      else s
    else s)

/-- Whether position `p` is a valid neighbour (R170): `w` is the window, `pol` the event's polarity. -/
def Nbr.valid (p : Nbr) (tc w pol : Nat) (same : Bool) : Bool :=
  p.inside && (p.i != 0 || p.j != 0) && cellLive tc p.cell && decide (cellAge tc p.cell ≤ (w : Nat)) && (!same || p.cell / 2 ^ 15 == pol)

/-- Whether the refractory gate drops an event (R141). -/
def Dev.gated (s : Dev) (n tc pol cell : Nat) : Bool :=
  let p := s.rd (Obj.refractoryPeriod n)
  p != 0 && !cellStale cell && decide (0 ≤ cellAge tc cell) && decide (cellAge tc cell < (p : Nat)) &&
    (s.rd (Obj.refractoryMode n) != 1 || cell / 2 ^ 15 == pol)

/-! ### Plane fit (R171) -/

/-- The sum of `f` over points. -/
def sumI (ps : List (Int × Int × Int)) (f : Int × Int × Int → Int) : Int := (ps.map f).foldl (· + ·) 0

/-- The determinant of three rows. [log 54 DESIGN CHOICE] -/
def det3 (a b c d e f g h i : Int) : Int := a * (e * i - f * h) - b * (d * i - f * g) + c * (d * h - e * g)

/-- A quotient of exact integers in binary32. [log 54 DESIGN CHOICE] -/
def fquot (a b : Int) : Nat := fOfRat ((a : Rat) / (b : Rat))

/-- The fit of R171 over points (i, j, age), the centre among them: the reason, vx and vy as binary16. The solution of the normal
equations is the exact one rounded to binary32. [log 54 DESIGN CHOICE] -/
def planeFit (ps : List (Int × Int × Int)) (minN fitMax speed : Nat) : Nat × Nat × Nat :=
  let n : Int := (ps.length : Nat)
  let si := sumI ps (fun p => p.1)
  let sj := sumI ps (fun p => p.2.1)
  let sii := sumI ps (fun p => p.1 * p.1)
  let sjj := sumI ps (fun p => p.2.1 * p.2.1)
  let sij := sumI ps (fun p => p.1 * p.2.1)
  let sa := sumI ps (fun p => p.2.2)
  let sia := sumI ps (fun p => p.1 * p.2.2)
  let sja := sumI ps (fun p => p.2.1 * p.2.2)
  let saa := sumI ps (fun p => p.2.2 * p.2.2)
  let d := det3 sii sij si sij sjj sj si sj n
  if ps.length - 1 < minN then (1, 0, 0)
  else if d = 0 then (2, 0, 0)
  else
    let al := fquot (det3 sia sij si sja sjj sj sa sj n) d
    let be := fquot (det3 sii sia si sij sja sj si sa n) d
    let ga := fquot (det3 sii sij sia sij sjj sja si sj sa) d
    let e := fsub (fsub (fsub (fOfInt saa) (fmul al (fOfInt sia))) (fmul be (fOfInt sja))) (fmul ga (fOfInt sa))
    let mse := fdiv e (fOfInt n)
    let rms := fmul (fOfInt 4) (fsqrt (if fle mse 0 then 0 else mse))
    let c := fOfRat (-(4 : Rat) / 1000)
    let gx := fmul c al
    let gy := fmul c be
    let m := fadd (fmul gx gx) (fmul gy gy)
    if flt (fOfInt (fitMax : Nat)) rms then (3, 0, 0)
    else if m % 2 ^ 31 = 0 ∨ flt (fOfInt (speed : Nat)) (fdiv fone (fsqrt m)) = true then (4, 0, 0)
    else (0, fp16.ofVal .nearestEven (fval (fdiv gx m)), fp16.ofVal .nearestEven (fval (fdiv gy m)))

/-! ### Corner score and orientation (R172) -/

/-- The score matrix's sums Mxx, Myy, Mxy over s, a table of 25 values row by row. -/
def cornerSums (sv : List Int) : Int × Int × Int :=
  let at' (i j : Int) : Int := sv.getD ((j + 2) * 5 + (i + 2)).toNat 0
  let w (k : Int) : Int := if k = 0 then 2 else 1
  let r : List Int := [-1, 0, 1]
  let gx (i j : Int) : Int := (r.map (fun k => w k * (at' (i + 1) (j + k) - at' (i - 1) (j + k)))).foldl (· + ·) 0
  let gy (i j : Int) : Int := (r.map (fun k => w k * (at' (i + k) (j + 1) - at' (i + k) (j - 1)))).foldl (· + ·) 0
  (r.flatMap (fun i => r.map (fun j => (i, j)))).foldl
    (fun m p => (m.1 + gx p.1 p.2 * gx p.1 p.2, m.2.1 + gy p.1 p.2 * gy p.1 p.2, m.2.2 + gx p.1 p.2 * gy p.1 p.2)) (0, 0, 0)

/-- π in binary32. -/
def fpi : Nat := 0x40490FDB

/-- atan2 in binary32 within 2 ulp (R173): the exact angle rounded, moved by a free −2 to 2 units in the last place. [log 54 DESIGN CHOICE] -/
def atan2Near (y x : Int) (free : Nat) : Nat :=
  let a := fOfRat ((atan2Fix y x : Rat) / 2 ^ 64)
  if a % 2 ^ 31 < 4 then a else a + free % 5 - 2

/-- Score and orientation of R172; none where there is no structure. `free` is the free part of atan2, whose operands are binary32 numbers, whole multiples
of 2⁻³⁰. [log 54 DESIGN CHOICE] -/
def cornerOf (sv : List Int) (free : Nat) : Option (Nat × Nat) :=
  let m := cornerSums sv
  let sc (i : Int) : Nat := fOfRat ((fval (fOfInt i)).rat / 2 ^ 30)
  let xx := sc m.1
  let yy := sc m.2.1
  let xy := sc m.2.2
  if fadd xx yy % 2 ^ 31 = 0 then none
  else
    let h := fmul (fsub xx yy) fhalf
    let l := fsub (fmul (fadd xx yy) fhalf) (fsqrt (fadd (fmul h h) (fmul xy xy)))
    let score := min 4095 (ffloor (fmul (fOfInt 16) l)).toNat
    let whole (v : Nat) : Int := ((fval v).rat * 2 ^ 30).floor
    let th := fadd (fmul (atan2Near (whole (fadd xy xy)) (whole (fsub xx yy)) free) fhalf) (fmul fpi fhalf)
    let th := if flt th 0 then fadd th fpi else th
    let th := if fle fpi th then fsub th fpi else th
    some (score, (ffloor (fdiv (fmul th (fOfInt 256)) fpi)).toNat % 256)

/-! ### Routes (R176, R360, R363) -/

/-- The plan's number of a route, as `Transit.route` has it. -/
def routeId (p i : Nat) : Nat := p * 65536 + i

/-- The words of Confluence's input queue that a word on its way takes (R170, R426): a feature record has two. -/
def Transit.queueWords (t : Transit) : Nat :=
  match t.dest with
  | .fusion kind _ => if kind ≠ 2 ∧ wKind t.word = 1 then 2 else 1
  | _ => 0

/-- The words on their way that no consumer has accepted: Confluence has accepted those that its input queue of 65,536 words holds (R176, R426); `n` words
of the queue are taken. -/
def waiting : List Transit → Nat → List Transit
  | [], _ => []
  | t :: ts, n =>
    let m := n + t.queueWords
    if 0 < t.queueWords ∧ m ≤ 65536 then waiting ts m else t :: waiting ts m

/-- Whether Confluence's input queue is full (R426). -/
def Dev.confFull (s : Dev) : Bool := decide (65536 ≤ (s.transit.map Transit.queueWords).sum)

/-- How long Confluence's input queue has been full, in ns (R426). -/
def Dev.confFullTime (s : Dev) : Nat := s.confFullNs + (if s.confFullF = 0 then 0 else s.rf - (s.confFullF - 1))

/-- The device after a change of what is on its way: the input queue of Confluence has become full, or is so no longer (R426). -/
def Dev.confWatch (s : Dev) : Dev :=
  if s.confFull then (if s.confFullF = 0 then { s with confFullF := s.rf + 1 } else s) else { s with confFullNs := s.confFullTime, confFullF := 0 }

/-- What is on its way becomes `rest`, of whose words a consumer has accepted some (R176): each of the routes `rs` that waits for fewer words has been served. -/
def Dev.accepting (s : Dev) (rs : List Nat) (rest : List Transit) : Dev :=
  let before := waiting s.transit 0
  let after := waiting rest 0
  let count (l : List Transit) (r : Nat) : Nat := (l.filter (fun t => t.route == r)).length
  let hold := rs.foldl (fun z r =>
    if count after r < count before r then Tab.put {} z r (if after.any (fun t => t.route == r) then { acceptF := s.rf } else {}) else z) s.routeHold
  ({ s with transit := rest, routeHold := hold } : Dev).confWatch

/-- Words that a stream sends to one consumer: dropped while the route takes none (R176), else on their way. -/
def Dev.routeWord (s : Dev) (n rid : Nat) (ds : List Dest) (w second : Nat) : Dev :=
  let h := Tab.get {} s.routeHold rid
  if h.dropping then s.bumpBy (eddyCtr n 7) (if wKind w = 1 then 2 else 1)
  else
    let s := if (waiting s.transit 0).any (fun t => t.route == rid) then s else { s with routeHold := Tab.put {} s.routeHold rid { h with acceptF := s.rf } }
    ({ s with transit := s.transit ++ ds.map (fun d => { dest := d, route := rid, word := w, second := second }) } : Dev).confWatch

/-- The consumers of a ROUTES entry in a plan (R360). -/
def PlanSlot.routeDests (x : PlanSlot) (e : RouteEntry) : List Dest :=
  match e.kind with
  | 0 => match (x.pops.zip x.popHandles).find? (fun q => q.1.number == e.dest) with
    | some q => q.1.clusters.map (fun c => .population q.2 c e.slot)
    | none => []
  | 1 => match (x.layers.zip x.layerHandles).find? (fun q => q.1.number == e.dest) with
    | some q => [.builder q.2]
    | none => []
  | _ => [.fusion 1 e.stream]

/-- A word of stream `n` leaves the slice on every route and channel binding of the running plans that selects its kind. -/
def Dev.sendWord (s : Dev) (n w second : Nat) : Dev :=
  let kind := wKind w
  s.each 16 (fun p s =>
    if s.planRuns p then
      let x := s.plan p
      let ph := s.rd (Obj.phaseNow p)
      let s := x.routes.zipIdx.foldl (fun s q =>
        if q.1.stream = n ∧ inPhase q.1.phaseMask ph = true ∧ bitAt q.1.sel kind = true then s.routeWord n (routeId p q.2) (x.routeDests q.1) w second else s) s
      x.channels.zipIdx.foldl (fun s q =>
        if q.1.kind = 0 ∧ q.1.stream = n ∧ inPhase q.1.phaseMask ph = true ∧ bitAt q.1.sel kind = true then
          s.addWords q.1.channel 1 (routeId p q.2) (if kind = 1 then [w, second] else [w]) false
        else s) s
    else s)

/-- The EVENTS records of stream `n` close at its STREAM_STOP marker (R451). -/
def Dev.closeStream (s : Dev) (n : Nat) : Dev :=
  s.each 16 (fun p s => (s.plan p).channels.zipIdx.foldl (fun s q =>
    if q.1.kind = 0 ∧ q.1.stream = n then s.closeBatch q.1.channel 1 (routeId p q.2) else s) s)

/-! ### One word through the slice -/

/-- A marker passes (R169): it touches no cell. -/
def Dev.eddyMarker (s : Dev) (n w : Nat) : Dev :=
  let s := s.sendWord n w 0
  let s := if wY w = 4 then s.updStr n (fun x => { x with sliceOff := true })
           else if wY w = 3 then s.updStr n (fun x => { x with sliceOff := false }) else s
  if wY w = 2 then s.closeStream n else s

/-- The SURFACE_WIPED markers that stream `n` is owed go ahead of its next word `w`, one for each wipe (R162). -/
def Dev.payWiped (s : Dev) (n w : Nat) : Dev :=
  let cs := (s.str n).wiped
  if cs = [] then s else cs.foldl (fun (s : Dev) c => s.sendWord n (marker n c 16 (wT w)) 0) (s.updStr n (fun x => { x with wiped := [] }))

/-- Counter of a flow reason (R180): FlowFew, FlowDegenerate, FlowResidual, FlowSpeed. -/
def Dev.countReason (s : Dev) (n reason : Nat) : Dev := if 1 ≤ reason ∧ reason ≤ 4 then s.bump (eddyCtr n (2 + reason)) else s

/-- Steps 4 and 5 of R167 on the values read in step 1. -/
def Dev.eddyOperators (s : Dev) (n w : Nat) (ps : List Nbr) : Dev :=
  let ctl := s.rd (Obj.eddyControl n)
  let tc := timeCode (wT w)
  let win := s.rd (Obj.eddyWindow n) / 4
  let ok (p : Nbr) : Bool := p.valid tc win (wPol w) (bitAt ctl 2)
  let vs := ps.filter ok
  let border := ps.any (fun p => !p.inside)
  let pts : List (Int × Int × Int) := ((0, 0, 0) : Int × Int × Int) :: vs.map (fun p => (p.i, p.j, cellAge tc p.cell))
  let fit := if bitAt ctl 0 then planeFit pts (s.rd (Obj.flowMinNeighbours n)) (s.rd (Obj.fitResidualMax n)) (s.rd (Obj.flowMaxSpeed n)) else (5, 0, 0)
  let s := s.countReason n fit.1
  let s := if border then s.bump (eddyCtr n 10) else s
  let tried : Bool := bitAt ctl 1 && !border && decide (s.rd (Obj.cornerMinNeighbours n) ≤ vs.length)
  let sv : List Int := ps.map (fun p => if p.i = 0 ∧ p.j = 0 then 32768 else if ok p then ((win : Int) - cellAge tc p.cell) * 32768 / (win : Nat) else 0)
  let corner := if tried then cornerOf sv s.open_ else none
  let s := if tried then s.drawn else s
  let sc := match corner with | some c => c.1 | none => 0
  let orient := match corner with | some c => c.2 | none => 0
  let strong : Bool := corner.isSome && decide (s.rd (Obj.cornerThreshold n) ≤ sc)
  if bitAt ctl 5 || (bitAt ctl 3 && fit.1 == 0) || (bitAt ctl 4 && strong) then
    let s := if fit.1 = 0 then s.bump (eddyCtr n 1) else s
    let s := if strong then s.bump (eddyCtr n 2) else s
    let word1 := fit.2.1 + fit.2.2 * 2 ^ 16 + sc * 2 ^ 32 + orient * 2 ^ 44 + vs.length * 2 ^ 52 + fit.1 * 2 ^ 57 +
      b2n corner.isSome * 2 ^ 60 + b2n border * 2 ^ 61 + b2n (s.str n).sliceOff * 2 ^ 62
    s.sendWord n (mkWord n (wX w) (wY w) (wPol w) 1 (wT w)) word1
  else s

/-- The bank accesses of an event at (x, y) of stream `n` (R163, R167): the words of its neighbourhood that do not lie wholly outside the array, 10 in its
middle; the read and the write of the centre word are one. -/
def Dev.nbrWords (s : Dev) (n x y : Nat) : Nat :=
  let cols := min ((x + 2) / 4) (ceilDiv (s.rd (Obj.outputWidth n)) 4 - 1) + 1 - (x - 2) / 4
  let rows := min (y + 2) (s.rd (Obj.outputHeight n) - 1) + 1 - (y - 2)
  cols * rows

/-- An event at (x, y) that has been held for a hazard (R168): it was where one of the stream's earlier events that may be in flight lies in its
neighbourhood. The event takes its place among those. [log 44 DESIGN CHOICE] -/
def Dev.hazard (s : Dev) (n x y : Nat) (held : Bool) : Dev :=
  let near (p : Nat × Nat) : Bool := decide (p.1 ≤ x + 2) && decide (x ≤ p.1 + 2) && decide (p.2 ≤ y + 2) && decide (y ≤ p.2 + 2)
  let s := if held && (s.str n).recent.any near then s.bump (eddyCtr n 8) else s
  s.updStr n (fun z => { z with recent := ((x, y) :: z.recent).take 63 })

/-- A brightness event (R167): read, gate, write, operators. -/
def Dev.eddyBright (s : Dev) (n w : Nat) (bad : List (Fin 25)) (held : Bool) : Dev :=
  let d := s.rd (Obj.homeDie n)
  let x := wX w
  let y := wY w
  let tc := timeCode (wT w)
  let key := s.cellKey n x y
  let ps := (List.range 25).map (s.nbr n x y bad)
  let s := ((s.hazard n x y held).readParity n x y bad).meter (Obj.mereLoad d) (s.nbrWords n x y)
  let old := (ps.getD 12 ⟨0, 0, true, staleCell⟩).cell
  if s.gated n tc (wPol w) old then
    let s := s.bump (stCtr n 0x0B)
    if Tab.get false s.mereBad key then s.setCell key staleCell else s
  else
    let s := ((s.meter (Obj.eddyLoad d) 1).setCell key (wPol w * 2 ^ 15 + (if tc = 0x7FFF then 0x7FFE else tc))).bump (eddyCtr n 0)
    (s.sendWord n w 0).eddyOperators n w ps

/-- One word taken from stream `n`'s sluice. A STREAM_STOP passes when the stream's blocks have gone (R129, R160); an event then has no cell. -/
def Dev.eddyWord (s : Dev) (n w : Nat) (bad : List (Fin 25)) (held : Bool) : Dev :=
  let s := s.payWiped n w
  if wKind w = 2 then s.eddyMarker n w else if s.rd (Obj.mereBase n) = 0xFFFF then s else s.eddyBright n w bad held

/-- The words of a turn: the markers at the front and the first event after them. -/
def turnWords : List Nat → List Nat
  | [] => []
  | w :: ws => if wKind w = 2 then w :: turnWords ws else [w]

/-- The stream whose turn it is on die `d` (R169): the next after the one served last with a word at its sluice. -/
def Dev.eddyNext (s : Dev) (d : Nat) : Option Nat :=
  let last := Tab.get 0 s.eddyTurn d
  ((List.range 36).map (fun i => (last + 1 + i) % 36)).find? (fun n => s.rd (Obj.homeDie n) == d && (s.str n).sluice != [])

/-- The word of stream `n` that is taken now has waited at its sluice for `ns` because the banks were fully granted (R178, R180): at most since it came to
the sluice's head; HeldMicroseconds counts whole microseconds. [log 44 DESIGN CHOICE] -/
def Dev.bankHeld (s : Dev) (n ns : Nat) : Dev :=
  let x := s.str n
  let ns := min ns (s.rf - x.servedF)
  (s.bumpBy (eddyCtr n 0xC) ((x.heldNs + ns) / 1000)).updStr n (fun x => { x with heldNs := (x.heldNs + ns) % 1000 })

/-- The Eddy slice of die `d` serves the next stream. -/
def Dev.eddyServe (s : Dev) (d : Nat) (bad : List (Fin 25)) (held : Bool) (bankWait : Nat) : Dev :=
  match s.eddyNext d with
  | none => s
  | some n =>
    let ws := turnWords (s.str n).sluice
    let s := (s.bankHeld n bankWait).updStr n (fun x => { x with sluice := x.sluice.drop ws.length, servedF := s.rf })
    let s := { s with eddyTurn := Tab.put 0 s.eddyTurn d n }
    ws.foldl (fun s w => s.eddyWord n w bad held) s

/-! ### The sweeper (R161) -/

/-- The allocated blocks of die `d` with their streams, in rising order. -/
def Dev.blockOwners (s : Dev) (d : Nat) : List (Nat × Nat × Nat) :=
  ((List.range 36).filter (fun n => s.rd (Obj.mereBase n) != 0xFFFF && s.rd (Obj.homeDie n) == d)).map
    (fun n => (s.rd (Obj.mereBase n), s.rd (Obj.mereBlocks n), n))

/-- The first allocated block at or above `b`, with its stream. [log 57 DEDUCED] -/
def Dev.nextBlock (s : Dev) (d b : Nat) : Option (Nat × Nat) :=
  (s.blockOwners d).foldl (fun best a =>
    let c := max b a.1
    if a.1 + a.2.1 ≤ c then best
    else match best with
      | some m => if m.1 ≤ c then best else some (c, a.2.2)
      | none => some (c, a.2.2)) none

/-- Whether the sweeper makes a cell stale at time code `tr` (R161). -/
def Dev.cellOld (s : Dev) (tr key : Nat) : Bool :=
  let c := s.cell key
  !cellStale c && decide (15000 ≤ unsigned 15 ((tr : Int) - ((c % 2 ^ 15 : Nat) : Int)))

/-- The sweeper visits the cells of one block (R161, R165). `bad` are the cells whose parity fails at this visit. -/
def Dev.sweepBlock (s : Dev) (d b n : Nat) (bad : List (Fin 256)) : Dev :=
  let tr := timeCode (t31 s.dt)
  s.each 256 (fun i s =>
    let key := mereKey d b i
    if (bad.any (fun x => x.val == i) || Tab.get false s.mereBad key) = true then (s.parityError d n i).setCell key staleCell
    else if s.cellOld tr key then s.setCell key staleCell else s)

/-- The words of a block that the sweeper writes back: those in which a cell changes (R161). -/
def Dev.sweepWrites (s : Dev) (d b : Nat) (bad : List (Fin 256)) : Nat :=
  let tr := timeCode (t31 s.dt)
  ((List.range 64).filter (fun w => (List.range 4).any (fun i =>
    let c := w / 8 * 32 + w % 8 * 4 + i
    bad.any (fun x => x.val == c) || Tab.get false s.mereBad (mereKey d b c) || s.cellOld tr (mereKey d b c)))).length

/-- A visit of the sweeper of die `d` to its next block; the last one completes a pass. [log 57 DEDUCED] -/
def Dev.sweep (s : Dev) (d : Nat) (bad : List (Fin 256)) : Dev :=
  let pos := Tab.get 0 s.sweepPos d
  let first := match s.nextBlock d pos with | some r => some r | none => s.nextBlock d 0
  match first with
  | none => s
  | some (b, n) =>
    let s := (s.sweepBlock d b n bad).meter (Obj.mereLoad d) (64 + s.sweepWrites d b bad)
    match s.nextBlock d (b + 1) with
    | some _ => { s with sweepPos := Tab.put 0 s.sweepPos d (b + 1) }
    | none => ({ s with sweepPos := Tab.put 0 s.sweepPos d 0 }).bump (Obj.sweepPasses d)

end Sys2Proof.Machine
end

