-- ==== Sys2Proof/Machine/Eddy.lean ====
section
/-! DEFINITION. The Mere and Eddy commands (R161, R167, R176). -/

namespace Sys2Proof.Machine

open Sys2Proof

/-- The power domain of the Mere and Eddy of die `d` (R522). -/
def mereDomain (d : Nat) : Nat := 128 + d

/-- EDDY_EVENT (R167): the slice of die `d` takes a turn. `meet.bad` are the positions of the event's neighbourhood, row by row, that fail parity;
`meet.held` says that the event was held for a hazard (R168), and `meet.bankWait` how many ns the stream's word waited for the banks (R180). -/
def execEddyEvent (d : Fin 4) (meet : EddyMeet) (s : State) : Host.Outcome State Fault Refusal :=
  s.runIn (mereDomain d.val) (fun x => if x.dieOut d.val then x else x.eddyServe d.val meet.bad meet.held meet.bankWait)

/-- SWEEP_VISIT (R161): the sweeper of die `d` visits its next block. `bad` are the cells of the block that fail parity. -/
def execSweepVisit (d : Fin 4) (bad : List (Fin 256)) (s : State) : Host.Outcome State Fault Refusal :=
  s.runIn (mereDomain d.val) (fun x => x.sweep d.val bad)

/-- The stream of a route, by the plan's number of it. -/
def Dev.routeStream (s : Dev) (p i : Nat) : Nat := match (s.plan p).routes[i]? with | some e => e.stream | none => 0

/-- FEATURE_HOLD_EXPIRY (R176): route `i` of plan slot `p` has taken no word that waits for it for FeatureHoldLimit. -/
def execFeatureHoldExpiry (p : Fin 16) (i : Nat) (s : State) : Host.Outcome State Fault Refusal :=
  s.run (fun x =>
    let rid := routeId p.val i
    let h := Tab.get {} x.routeHold rid
    if (waiting x.transit 0).any (fun t => t.route == rid) = true ∧ x.rd (Obj.featureHoldLimit (x.routeStream p.val i)) * 1000 ≤ x.rf - h.acceptF then
      { x with routeHold := Tab.put {} x.routeHold rid { h with dropping := true } }
    else x)

end Sys2Proof.Machine
end

