-- ==== Sys2Proof/Machine/ShoalCore.lean ====
section
/-! DEFINITION. Shoal mode (R181 to R214): inputs, horizons, the close of a tick, skips, count windows. -/

namespace Sys2Proof.Machine

open Sys2Proof

/-! ### Words on their way -/

/-- The number of spike and horizon words of population `h` from cluster `c`, as `Transit.route` has it: above every route. -/
def spikeRoute (h c : Nat) : Nat := 2 ^ 24 + h * 128 + c

/-- Takes the oldest word on its way that `p` picks: the words left and the word. [log 59 DEDUCED] -/
def takeFirst (p : Transit → Bool) : List Transit → Option (Transit × List Transit)
  | [] => none
  | t :: ts => if p t then some (t, ts) else (takeFirst p ts).map (fun r => (r.1, t :: r.2))

/-- A consumer takes the word `t`, and `rest` stays on its way (R176): the consumer of `t` accepts it, and Confluence's input queue the oldest word that waits for
it (R426). -/
def Dev.tookWord (s : Dev) (t : Transit) (rest : List Transit) : Dev :=
  s.accepting (t.route :: (((waiting s.transit 0).filter (fun x => decide (0 < x.queueWords))).take 2).map (·.route)) rest

/-- The frozen time of F since count `f`, in ns (R591). -/
def Dev.frozenSince (s : Dev) (f : Int) : Int :=
  let part (a b : Nat) : Int := max 0 ((b : Int) - max f (a : Int))
  (s.freezes.map (fun z => part z.1 z.2)).foldl (· + ·) 0 + (if s.frozen then part s.freezeF s.f else 0)

/-- Device time `dt` plus `us` microseconds has passed, frozen time not counted (R591). -/
def Dev.passed (s : Dev) (dt : Int) (us : Nat) : Bool := decide (dt + (us * 1000 : Nat) + s.frozenSince (s.fOf dt) ≤ s.dt)

/-! ### Populations on clusters -/

/-- Population `h` on cluster `c`. -/
def Pop.on (p : Pop) (c : Nat) : Option PopCluster := p.clusters.find? (fun x => x.cluster == c)

/-- The device with population `h` on cluster `c` changed. -/
def Dev.updPopOn (s : Dev) (h c : Nat) (f : PopCluster → PopCluster) : Dev :=
  s.updPop h (fun p => { p with clusters := p.clusters.map (fun x => if x.cluster = c then f x else x) })

/-- Whether population `h` runs (R214). -/
def Dev.popRuns (s : Dev) (h : Nat) : Bool := s.getF (Obj.popState h) 0 2 == 2

/-- Counter `k` (from 0) of population `h` (R214). -/
def popCtr (h k : Nat) : Reg := Obj.popCounter h k

/-- The tick of population `h` that contains device time `dt` (R185). -/
def Dev.tickOf (s : Dev) (h : Nat) (dt : Int) : Int := (dt - s.rdT (Obj.tickOrigin h)) / (s.rd (Obj.tickLength h) * 1000 : Nat)

/-- The end of tick `k`. -/
def Dev.tickEnd (s : Dev) (h : Nat) (k : Int) : Int := s.rdT (Obj.tickOrigin h) + (k + 1) * (s.rd (Obj.tickLength h) * 1000 : Nat)

/-- Whether logical unit `g` works: its cluster is in service, its slot has not failed and is not silted (R28, R29). -/
def Dev.unitWorks (s : Dev) (g : Nat) : Bool :=
  s.getF (Obj.clusterHealth (g / 16)) 0 2 == 0 && !s.bit (Obj.clusterHealth (g / 16)) (3 + s.slotOf g) &&
    !Tab.get false s.silted (g / 16 * 17 + s.slotOf g)

/-- Whether population `h` runs on cluster `c`, which its phase has put in shoal mode (R181). -/
def Dev.popActive (s : Dev) (h c : Nat) : Bool := s.popRuns h && s.shoalMode c

/-- The neuron numbered `n` on cluster `c`: its key. -/
def PopEntry.place (e : PopEntry) (c n : Nat) : Option Nat :=
  ((e.unitsOn c).find? (fun m => decide (m.firstNeuron ≤ n) && decide (n < m.firstNeuron + m.count))).map
    (fun m => neuronKey c m.unit (m.firstIndex + (n - m.firstNeuron)))

/-! ### Synapses (R199 to R202) -/

/-- A synapse that an input reaches: the neuron's key, the weight, the multiplicity and the shift. -/
structure Synapse where
  key : Nat
  weight : Int
  mult : Nat
  shift : Nat
  deriving DecidableEq, Repr

/-- The logical unit of a synapse's neuron. -/
def Synapse.unit (y : Synapse) : Nat := y.key / 4096

/-- What a synapse adds (R199): weight × multiplicity × 2^shift. -/
def Synapse.term (y : Synapse) : Int := y.weight * ((y.mult * 2 ^ y.shift : Nat) : Int)

/-- The residue of that term, from those of its factors: 2^shift counts as 1 for an even shift and 2 for an odd one (R268). -/
def Synapse.residue (y : Synapse) : Nat := mod3 (mod3 y.weight * mod3 y.mult * (if y.shift % 2 = 0 then 1 else 2) : Nat)

/-- A neuron's accumulator with its residue (R268). -/
def Dev.accRes (s : Dev) (key : Nat) : ResAcc := ⟨signed 32 (Tab.get 0 s.accs key), Tab.get 0 s.residues key⟩

/-- A synapse's term added to its neuron's accumulator modulo 2³² (R199), and to its residue (R268). -/
def Dev.synapse (s : Dev) (h : Nat) (y : Synapse) (poisoned : Bool) : Dev :=
  let a := (s.accRes y.key).add true y.term y.residue
  let s := ({ s with accs := Tab.put 0 s.accs y.key (unsigned 32 a.value), residues := Tab.put 0 s.residues y.key a.residue }).bump (popCtr h 2)
  if poisoned then { s with neuronBad := Tab.put false s.neuronBad y.key true } else s

/-- Element `e` of a packed tensor of integers of format code 0 to 5 (R247, R215). -/
def intElem (fmt : Nat) (bs : List Byte) (e : Nat) : Int :=
  match fmt with
  | 0 => if bitAt (leAt bs (e / 8) 1) (e % 8) then 1 else -1
  | 1 => signed 2 (leAt bs (e / 4) 1 / 2 ^ (2 * (e % 4)))
  | 2 => signed 4 (leAt bs (e / 2) 1 / 2 ^ (4 * (e % 2)))
  | 3 => signed 8 (leAt bs e 1)
  | 4 => (leAt bs e 1 : Nat)
  | 5 => signed 16 (leAt bs (2 * e) 2)
  | _ => signed 32 (leAt bs (4 * e) 4)

/-- The destination coordinates along one axis that a source coordinate reaches (R200): pairs of destination and kernel index. -/
def kernelAxis (src k stride size : Nat) : List (Nat × Nat) :=
  let half := (k - 1) / 2
  let lo := ceilDiv (src + half + 1 - k) stride
  let hi := (src + half) / stride
  ((upFrom lo (hi + 1 - lo)).filter (fun d => decide (d < size))).map (fun d => (d, src + half - stride * d))

/-- The bytes of a blob of the population's plan. -/
def Dev.blobOf (s : Dev) (slot i : Nat) : List Byte := match (s.plan slot).blobs[i]? with | some b => b.bytes | none => []

/-- The synapses of a source spike at (xs, ys, cs) on a shared-kernel projection, on cluster `c` (R200). -/
def Dev.kernelSynapses (s : Dev) (h c : Nat) (e : PopEntry) (p : Projection) (xs ys cs mult : Nat) : List Synapse :=
  if p.sourceChannels ≤ cs then []
  else
    let bs := s.blobOf (s.pop h).slot p.blob
    (kernelAxis ys p.k p.s e.height).flatMap (fun y =>
      (kernelAxis xs p.k p.s e.width).flatMap (fun x =>
        (List.range e.channels).filterMap (fun cd =>
          (e.place c (cd + e.channels * (x.1 + e.width * y.1))).map (fun key =>
            ⟨key, intElem p.weightFormat bs (((cd * p.sourceChannels + cs) * p.k + y.2) * p.k + x.2), mult, p.shift⟩))))

/-- The entries of the sparse lists of source neuron `n` in a blob: those that cluster `c` holds (R201, R358). -/
def sparseList (bs : List Byte) (c n : Nat) : List Nat :=
  ((List.range (leAt bs 0 4)).filter (fun i => leAt bs (8 + 8 * i) 1 == c)).flatMap (fun i =>
    let base := leAt bs (12 + 8 * i) 4
    let a := leAt bs (base + 4 * n) 4
    let b := leAt bs (base + 4 * n + 4) 4
    (List.range ((b - a) / 4)).map (fun k => leAt bs (base + a + 4 * k) 4))

/-- A sparse weight (R201). -/
def sparseWeight (entry bits : Nat) : Int :=
  if bits = 1 then (if bitAt entry 16 then 1 else -1) else signed bits (field entry 16 bits)

/-- The synapses of a source spike of neuron `n` on a sparse projection, on cluster `c` (R201). -/
def Dev.sparseSynapses (s : Dev) (h c : Nat) (p : Projection) (n mult : Nat) : List Synapse :=
  (sparseList (s.blobOf (s.pop h).slot p.blob) c n).map (fun en =>
    ⟨neuronKey c (field en 12 4) (field en 0 12), sparseWeight en p.weightBits, mult, field en 24 4⟩)

/-- The octant of a flow (R202), decided from signs and magnitudes. -/
def octant (vx vy : Rat) : Nat :=
  if 0 ≤ vy ∧ 0 < vx then (if vy < vx then 0 else 1)
  else if vx ≤ 0 ∧ 0 < vy then (if -vx < vy then 2 else 3)
  else if vx < 0 ∧ vy ≤ 0 then (if -vy < -vx then 4 else 5)
  else if vy < 0 then (if vx < -vy then 6 else 7)
  else 0

/-- The channel of a stream word for an InputChannel (R202); none where the word does not count. -/
def inputChannel (ic w second : Nat) : Option Nat :=
  let feature : Bool := wKind w == 1
  match ic with
  | 0 => some (wPol w)
  | 1 => if feature && bitAt second 60 then some (field second 44 8 / 32) else none
  | 2 => if feature && field second 57 3 == 0 then some (octant (fp16.toVal (field second 0 16)).rat (fp16.toVal (field second 16 16)).rat) else none
  | _ => some 0

/-- The synapses that an input reaches on cluster `c`: a spike word, or a stream word of source slot `slot` (R199 to R202). [log 59 DEDUCED] -/
def Dev.inputSynapses (s : Dev) (h c : Nat) (e : PopEntry) (slot : Nat) (spike : Bool) (w second : Nat) : List Synapse :=
  if spike then
    match e.projections.find? (fun p => p.projection == field w 52 12) with
    | none => []
    | some p =>
      let x := field w 40 12
      let y := field w 28 12
      let ch := field w 20 8
      if p.kind = 0 then s.kernelSynapses h c e p x y ch (field w 18 2)
      else
        match (s.plan (s.pop h).slot).pops.find? (fun q => q.number == p.sourcePop) with
        | some src => s.sparseSynapses h c p (ch + src.channels * (x + src.width * y)) (field w 18 2)
        | none => []
  else
    (e.projections.filter (fun p => p.kind == 0 && p.sourceSlot == slot && p.sourceStream == wStream w)).flatMap (fun p =>
      match inputChannel p.inputChannel w second with
      | some ch => s.kernelSynapses h c e p (wX w / 2 ^ p.inputShift) (wY w / 2 ^ p.inputShift) ch 1
      | none => [])

/-- Whether source slot `slot` is a cluster of a population, whose words are spike words (R361). -/
def PopEntry.spikeSlot (e : PopEntry) (slot : Nat) : Bool := e.slots.any (fun z => z.slot == slot && z.kind == 1)

/-- The synapses of an input that has been held. -/
def Dev.heldSynapses (s : Dev) (h c : Nat) (y : FutureInput) : List Synapse :=
  match s.popEntry h with
  | none => []
  | some e => s.inputSynapses h c e y.slot (e.spikeSlot y.slot) y.word y.second

/-- An input of tick `y.tick` added into the open tick's accumulators, late if that tick has closed (R190, R199): what it gives to units that do not
work waits for them (R198). [log 59 DEDUCED] -/
def Dev.applyInput (s : Dev) (h c : Nat) (y : FutureInput) (late : Bool) : Dev :=
  let ys := s.heldSynapses h c y
  let units := ((ys.map (·.unit)).filter (fun g => !s.unitWorks g)).eraseDups
  let s := if late then s.bump (popCtr h 3) else s
  let s := (ys.filter (fun z => !units.contains z.unit)).foldl (fun s z => s.synapse h z y.poisoned) s
  if units = [] then s else s.updPopOn h c (fun x => { x with waiting := x.waiting ++ [⟨y, units, late⟩] })

/-- One input that has waited: the units that work by now take it, late where its tick has closed meanwhile (R198, R190). -/
def Dev.applyWaiting (s : Dev) (h c : Nat) (tick : Int) (w : WaitingInput) : Dev :=
  let ready := w.units.filter s.unitWorks
  let left := w.units.filter (fun g => !s.unitWorks g)
  let late : Bool := ready != [] && !w.late && decide (w.input.tick < tick)
  let s := if late then s.bump (popCtr h 3) else s
  let s := ((s.heldSynapses h c w.input).filter (fun z => ready.contains z.unit)).foldl (fun s z => s.synapse h z w.input.poisoned) s
  if left = [] then s else s.updPopOn h c (fun x => { x with waiting := x.waiting ++ [{ w with units := left, late := w.late || late }] })

/-- The inputs that wait on cluster `c` reach the units that work by now, in their order (R198). -/
def Dev.serveWaiting (s : Dev) (h c : Nat) : Dev :=
  match (s.pop h).on c with
  | none => s
  | some x =>
    if x.waiting = [] then s
    else x.waiting.foldl (fun s w => s.applyWaiting h c x.tick w) (s.updPopOn h c (fun x => { x with waiting := [] }))

/-- The population's horizon of a slot raised to `j` (R187): it never moves backwards. -/
def raiseHorizon (hs : List (Nat × Int)) (slot : Nat) (j : Int) : List (Nat × Int) :=
  match hs.find? (fun z => z.1 == slot) with
  | none => hs ++ [(slot, j)]
  | some z => if z.2 < j then hs.map (fun y => if y.1 = slot then (slot, j) else y) else hs

/-- Whether slot's horizon has reached `k`. -/
def PopCluster.reached (x : PopCluster) (slot : Nat) (k : Int) : Bool := x.horizons.any (fun z => z.1 == slot && decide (k ≤ z.2))

/-- Whether a transit word is a horizon word (R204). -/
def Transit.horizon (t : Transit) : Bool := decide (2 ^ 24 ≤ t.route) && field t.word 18 2 == 0

/-- The tick that a word belongs to (R186, R204). [log 59 DEDUCED] -/
def Dev.wordTick (s : Dev) (h : Nat) (x : PopCluster) (t : Transit) : Int :=
  if 2 ^ 24 ≤ t.route then x.tick + stampDiff 18 (field t.word 0 18) (unsigned 18 x.tick) else s.tickOf h (s.ofT31 (wT t.word))

/-- A stream or spike word reaches population `h` on cluster `c` (R186, R187, R190, R191). [log 59 DEDUCED] -/
def Dev.shoalInput (s : Dev) (h c slot : Nat) (poisoned : Bool) : Dev :=
  match takeFirst (fun t => decide (t.dest = .population h c slot)) s.transit with
  | none => s
  | some (t, rest) =>
    match s.popEntry h, (s.pop h).on c with
    | some _, some x =>
      if !s.popRuns h then s.tookWord t rest
      else if t.horizon || !s.shoalMode c then s
      else
        let j := s.wordTick h x t
        let stream : Bool := decide (t.route < 2 ^ 24)
        let input : Bool := !stream || decide (wKind t.word ≤ 1)
        let bad := poisoned || t.poisoned
        if input && decide (x.tick < j) && decide (4096 ≤ x.future.length) then s
        else
          let s := (s.tookWord t rest).serveWaiting h c
          let s := if stream then s.updPopOn h c (fun x => { x with horizons := raiseHorizon x.horizons slot (j - 1) }) else s
          if !input then s
          else if x.tick < j then
            (s.updPopOn h c (fun x => { x with future := x.future ++ [⟨j, slot, t.word, t.second, bad⟩] })).bump (popCtr h 12)
          else s.applyInput h c ⟨j, slot, t.word, t.second, bad⟩ (decide (j < x.tick))
    | _, _ => s.tookWord t rest

/-- A horizon word reaches population `h` on cluster `c` (R187). -/
def Dev.horizonWord (s : Dev) (h c slot : Nat) : Dev :=
  match takeFirst (fun t => decide (t.dest = .population h c slot)) s.transit with
  | none => s
  | some (t, rest) =>
    match (s.pop h).on c with
    | some x =>
      if !t.horizon then s
      else if !s.popRuns h then s.tookWord t rest
      else (s.tookWord t rest).updPopOn h c (fun y => { y with horizons := raiseHorizon y.horizons slot (s.wordTick h x t) })
    | none => s.tookWord t rest

/-! ### The close (R193 to R197) -/

/-- Leak (R194): a right shift of an integer rounds towards minus infinity. -/
def leak (mode param : Nat) (m : Int) : Int :=
  match mode with
  | 1 => m - m / ((2 ^ param : Nat) : Int)
  | 2 => if m < 0 then m + min (-m) (param : Nat) else m - min m (param : Nat)
  | _ => m

/-- What the close of a neuron gives. -/
structure Closed where
  m : Int
  r : Nat
  spikes : Nat := 0
  excess : Bool := false
  floor : Bool := false
  dropped : Bool := false
  deriving DecidableEq, Repr

/-- The parameters of a close (R193). -/
structure CloseParams where
  t : Nat
  mode : Nat
  param : Nat
  subtract : Bool
  multi : Bool
  refractory : Nat
  deriving DecidableEq, Repr

/-- close_neuron of R193. -/
def closeNeuron (p : CloseParams) (m : Int) (r : Nat) (a : Int) : Closed :=
  let t : Int := (p.t : Nat)
  if 0 < r then { m := m, r := r - 1, dropped := decide (a ≠ 0) }
  else
    let v := leak p.mode p.param m + a
    if t ≤ v then
      let n : Int := if p.multi then min 3 (v / t) else 1
      let rem := if p.subtract then v - n * t else 0
      { m := clampI (-t) (2 * t) rem, r := p.refractory, spikes := n.toNat,
        excess := decide (2 * t < rem) || (!p.subtract && decide ((n + 1) * t ≤ v)) }
    else { m := clampI (-t) (2 * t) v, r := 0, floor := decide (v < -t) }

/-- A neuron state word (R184): active. -/
def neuronWord (c : Closed) : Nat :=
  unsigned 24 c.m + c.r % 16 * 2 ^ 24 + b2n (decide (0 < c.spikes)) * 2 ^ 28 + b2n c.excess * 2 ^ 29 + b2n c.floor * 2 ^ 30 + 2 ^ 31

/-- The parameters of population `h` as its objects stand. -/
def Dev.closeParams (s : Dev) (h : Nat) : CloseParams :=
  { t := s.rd (Obj.threshold h), mode := s.rd (Obj.leakMode h), param := s.rd (Obj.leakParam h), subtract := s.rd (Obj.resetMode h) == 1,
    multi := s.on (Obj.multiplicity h), refractory := s.rd (Obj.refractoryTicks h) }

/-- Key of a count window element (R209). -/
def countKey (h buf c el : Nat) : Nat := (h * 3 + buf) * 2 ^ 39 + c * 2 ^ 32 + el

/-- The greatest count of a CountFormat (R210). -/
def countMax (fmt : Nat) : Nat := if fmt = 4 then 255 else 32767

/-- The element of a count map that neuron `n` counts into (R209, R210). -/
def Dev.countElem (s : Dev) (h : Nat) (e : PopEntry) (n : Nat) : Nat :=
  let q := 2 ^ s.rd (Obj.countPool h)
  let x := n / e.channels % e.width
  let y := n / e.channels / e.width
  (n % e.channels * ceilDiv e.height q + y / q) * ceilDiv e.width q + x / q

/-- Spikes counted in the active buffer (R209): a count beyond the format's greatest stays one above it. -/
def Dev.countSpikes (s : Dev) (h c : Nat) (e : PopEntry) (n spikes : Nat) : Dev :=
  if s.rd (Obj.countWindowTicks h) = 0 ∨ spikes = 0 then s
  else
    let key := countKey h 0 c (s.countElem h e n)
    let top := countMax (s.rd (Obj.countFormat h))
    let old := Tab.get 0 s.counts key
    { s with counts := Tab.put 0 s.counts key (min (top + 1) (old + spikes)) }

/-- A spike: the neuron's number, its count and whether it carries Poison. -/
structure Spike where
  n : Nat
  mult : Nat
  poisoned : Bool
  deriving DecidableEq, Repr

/-- One active neuron closed: the device and the spikes so far. -/
def Dev.closeOne (s : Dev) (h c : Nat) (e : PopEntry) (p : CloseParams) (key n : Nat) (out : List Spike) : Dev × List Spike :=
  let w := Tab.get 0 s.neurons key
  if !bitAt w 31 then (s, out)
  else
    let a := signed 32 (Tab.get 0 s.accs key)
    let r := closeNeuron p (signed 24 w) (field w 24 4) a
    let s := { s with neurons := Tab.put 0 s.neurons key (neuronWord r), accs := Tab.put 0 s.accs key 0, residues := Tab.put 0 s.residues key 0 }
    let s := if r.dropped then s.bump (popCtr h 7) else s
    let s := if r.excess then s.bump (popCtr h 5) else s
    let s := if r.floor then s.bump (popCtr h 6) else s
    let s := (s.bumpBy (popCtr h 1) r.spikes).countSpikes h c e n r.spikes
    (s, if r.spikes = 0 then out else out ++ [⟨n, r.spikes, Tab.get false s.neuronBad key⟩])

/-- The neurons of one map record closed in index order. -/
def Dev.closeMap (s : Dev) (h c : Nat) (e : PopEntry) (p : CloseParams) (m : NeuronMap) (out : List Spike) : Dev × List Spike :=
  loop m.count (fun i z => z.1.closeOne h c e p (neuronKey c m.unit (m.firstIndex + i)) (m.firstNeuron + i) z.2) (s, out)

/-- A residue mismatch in unit `u` of cluster `c` (R269). [log 61 DEDUCED] -/
def Dev.residueFault (s : Dev) (c u : Nat) : Dev :=
  (s.bump (Obj.residueMismatches c)).detect 0x01 (.unit (c * 16 + u)) (s.slotOf (c * 16 + u))

/-! ### Spike and horizon words (R203 to R205) -/

/-- A spike or horizon word (R204). -/
def spikeWord (proj x y ch mult : Nat) (tick : Int) : Nat :=
  unsigned 18 tick + mult % 4 * 2 ^ 18 + ch % 256 * 2 ^ 20 + y % 4096 * 2 ^ 28 + x % 4096 * 2 ^ 40 + proj % 4096 * 2 ^ 52

/-- The running populations that take words of population number `num` from cluster `c0` on cluster `c`: handle, source slot, and the
numbers of their projections from it. [log 58 DEDUCED] -/
def Dev.spikeTargets (s : Dev) (p num c0 c : Nat) : List (Nat × Nat × List Nat) :=
  let x := s.plan p
  (x.pops.zip x.popHandles).filterMap (fun q =>
    if s.popRuns q.2 && q.1.map.any (fun m => m.cluster == c) then
      match q.1.slots.find? (fun z => z.kind == 1 && z.source == num && z.cluster == c0) with
      | some z => some (q.2, z.slot, (q.1.projections.filter (fun r => r.sourcePop == num)).map (·.projection))
      | none => none
    else none)

/-- `n` spike or horizon words leave cluster `c0` through its region's router (R207, R214). [log 58 DEDUCED] -/
def Dev.spikeMeter (s : Dev) (c0 n : Nat) : Dev := s.meter (Obj.routerSpikeLoad (c0 / 8)) n

/-- A word handed to the network from cluster `c0` (R207). [log 58 DEDUCED] -/
def Dev.sendSpike (s : Dev) (h c0 : Nat) (d : Dest) (w : Nat) (poisoned : Bool) : Dev :=
  let t : Transit := { dest := d, route := spikeRoute h c0, word := w, poisoned := poisoned }
  ({ s with transit := s.transit ++ [t] } : Dev).confWatch

/-- The coordinates of neuron `n` (R361): x, y, c. -/
def PopEntry.coords (e : PopEntry) (n : Nat) : Nat × Nat × Nat := (n / e.channels % e.width, n / e.channels / e.width, n % e.channels)

/-- The spikes and the horizon of a close of tick `k` sent to cluster `c` (R203). -/
def Dev.sendTo (s : Dev) (h c0 : Nat) (e : PopEntry) (k : Int) (out : List Spike) (c : Nat) : Dev :=
  let ts := s.spikeTargets (s.pop h).slot e.number c0 c
  let s := s.spikeMeter c0 ((out.map (fun _ => (ts.map (fun t => t.2.2.length)).sum)).sum + ts.length)
  let s := out.foldl (fun s z =>
    let q := e.coords z.n
    ts.foldl (fun s t => t.2.2.foldl (fun s pr => s.sendSpike h c0 (.population t.1 c t.2.1) (spikeWord pr q.1 q.2.1 q.2.2 z.mult (k + 1)) z.poisoned) s) s) s
  ts.foldl (fun s t => s.sendSpike h c0 (.population t.1 c t.2.1) (spikeWord (t.2.2.headD 0) 0 0 0 0 (k + 1)) false) s

/-- The tick word of a close (R205). -/
def Dev.tickWord (s : Dev) (h : Nat) (k : Int) : Nat := mkWord 63 h 0 1 3 (t31 (s.tickEnd h k))

/-- The close of tick `k` reported to Confluence and to the Outfall channels bound to the population (R205, R363). -/
def Dev.sendOut (s : Dev) (h c0 : Nat) (e : PopEntry) (k : Int) (out : List Spike) : Dev :=
  let words : List (Nat × Bool) := out.map (fun z => let q := e.coords z.n; (spikeWord 0 q.1 q.2.1 q.2.2 z.mult (k + 1), z.poisoned)) ++ [(s.tickWord h k, false)]
  let s := if e.routes.any (fun r => r.1 == 1) then words.foldl (fun s w => s.sendSpike h c0 (.fusion 2 h) w.1 w.2) (s.spikeMeter c0 out.length) else s
  let p := (s.pop h).slot
  (s.plan p).channels.foldl (fun (s : Dev) (q : ChannelEntry) =>
    if q.kind = 1 ∧ q.population = e.number ∧ inPhase q.phaseMask (s.rd (Obj.phaseNow p)) = true then
      words.foldl (fun s w => s.addWords q.channel 2 h [w.1] w.2) (s.spikeMeter c0 out.length)
    else s) s

/-- A population's consumer builders (R228): layers of its plan whose source is the population take its spike and tick words. -/
def Dev.sendBuilders (s : Dev) (h c0 : Nat) (e : PopEntry) (k : Int) (out : List Spike) : Dev :=
  let x := s.plan (s.pop h).slot
  (x.layers.zip x.layerHandles).foldl (fun s q =>
    if q.1.op = 0x10 ∧ q.1.buildSource = 0x400 + e.number then
      let s := out.foldl (fun s z => let p := e.coords z.n; s.sendSpike h c0 (.builder q.2) (spikeWord 0 p.1 p.2.1 p.2.2 z.mult (k + 1)) z.poisoned) (s.spikeMeter c0 out.length)
      s.sendSpike h c0 (.builder q.2) (s.tickWord h k) false
    else s) s

/-! ### Count windows (R209 to R211) -/

/-- Cluster `c` ends a count window: its buffers swap and CountWeir takes 1. [log 60 DEDUCED] -/
def Dev.countSwap (s : Dev) (h c : Nat) : Dev :=
  let lo := countKey h 0 c 0
  let inside (b : Nat) (k : Nat) : Bool := decide (countKey h b c 0 ≤ k) && decide (k < countKey h b c 0 + 2 ^ 32)
  let done := s.counts.filter (fun z => inside 0 z.1)
  let s := { s with counts := s.counts.filter (fun z => !inside 0 z.1 && !inside 1 z.1) }
  let s := { s with counts := done.foldl (fun (t : Tab Nat) (z : Nat × Nat) => Tab.put 0 t (countKey h 1 c 0 + (z.1 - lo)) z.2) s.counts }
  let s := s.updPopOn h c (fun x => { x with closes := 0, windows := x.windows + 1, mapSkipped := x.skipped, skipped := false })
  s.weirAdd (.cluster (Fin.ofNat 128 c)) (s.rd (Obj.countWeir h)) 1 false

/-- When every cluster has completed a window, the completed buffers form the count map (R209); an element that saturates, on one cluster or over
several, is counted once (R210). [log 60 DEDUCED] -/
def Dev.countPublish (s : Dev) (h : Nat) (e : PopEntry) : Dev :=
  let p := s.pop h
  if p.clusters ≠ [] ∧ p.clusters.all (fun x => decide (p.maps < x.windows)) = true then
    let fmt := s.rd (Obj.countFormat h)
    let top := countMax fmt
    let q := 2 ^ s.rd (Obj.countPool h)
    let isMap (k : Nat) : Bool := decide (countKey h 2 0 0 ≤ k) && decide (k < countKey h 3 0 0)
    let done := s.counts.filter (fun z => decide (countKey h 1 0 0 ≤ z.1) && decide (z.1 < countKey h 2 0 0))
    let sum : Tab Nat := done.foldl (fun t z => Tab.upd 0 t (countKey h 2 0 (z.1 % 2 ^ 32)) (fun v => v + z.2)) []
    let s := s.bumpBy (popCtr h 11) (sum.filter (fun (z : Nat × Nat) => decide (top < z.2))).length
    let s := { s with counts := sum.foldl (fun (t : Tab Nat) (z : Nat × Nat) => Tab.put 0 t z.1 (min top z.2)) (s.counts.filter (fun z => !isMap z.1)) }
    let s := s.updPop h (fun p => { p with maps := p.maps + 1, map := some ⟨e.channels, ceilDiv e.height q, ceilDiv e.width q, fmt⟩ })
    s.setBit (Obj.popState h) 4 (p.clusters.any (fun x => x.mapSkipped))
  else s

/-- The count window after one more close of cluster `c`. -/
def Dev.countClose (s : Dev) (h c : Nat) (e : PopEntry) : Dev :=
  let n := s.rd (Obj.countWindowTicks h)
  if n = 0 then s
  else
    let s := s.updPopOn h c (fun x => { x with closes := x.closes + 1 })
    match (s.pop h).on c with
    | some x => if n ≤ x.closes then (s.countSwap h c).countPublish h e else s
    | none => s

/-! ### One tick -/

/-- The greatest tick that every one of some clusters has closed (R213); none before there is one. -/
def lastCommon (cs : List PopCluster) : Option Int :=
  match cs with
  | [] => none
  | x :: xs => (x.closed.filter (fun k => xs.all (fun y => y.closed.contains k))).max?

/-- LastClosedTick: the tick last closed on every cluster (R213); the ticks before it are no longer needed. -/
def Dev.lastClosed (s : Dev) (h : Nat) : Dev :=
  match lastCommon (s.pop h).clusters with
  | none => s
  | some k =>
    (s.wrI (Obj.lastClosedTick h) k).updPop h (fun p =>
      { p with clusters := p.clusters.map (fun x => { x with closed := x.closed.filter (fun j => decide (k ≤ j)) }) })

/-- Tick `k` opens on cluster `c`: the inputs held for it are applied (R191), and those of ticks passed over, late (R190). -/
def Dev.openTick (s : Dev) (h c : Nat) (k : Int) : Dev :=
  match (s.pop h).on c with
  | none => s
  | some x =>
    let s := s.updPopOn h c (fun x => { x with tick := k, future := x.future.filter (fun y => decide (k < y.tick)) })
    (x.future.filter (fun y => decide (y.tick ≤ k))).foldl (fun s y => s.applyInput h c y (decide (y.tick < k))) s

/-- The neurons of a population on unit `u` of cluster `c`, in the order of its map. -/
def PopEntry.unitKeys (e : PopEntry) (c u : Nat) : List Nat :=
  ((e.unitsOn c).filter (fun m => m.unit == u)).flatMap (fun m => (List.range m.count).map (fun i => neuronKey c m.unit (m.firstIndex + i)))

/-- Whether a residue does not match among the accumulators that unit `u` of cluster `c` reads at a close (R198, R269): `upset` where its residue store
has suffered a fault, in the first of them. [log 61 DEDUCED] -/
def Dev.residueOff (s : Dev) (e : PopEntry) (c u : Nat) (upset : Bool) : Bool :=
  (e.unitKeys c u).zipIdx.any (fun z => bitAt (Tab.get 0 s.neurons z.1) 31 && !(s.accRes z.1).agrees (b2n (upset && z.2 == 0)))

/-- The open tick of population `h` on cluster `c` closes (R193, R203, R205, R209): `bad` are the units whose residue store has suffered a fault
(R198, R269). [log 61 DEDUCED] -/
def Dev.closeTick (s : Dev) (h c : Nat) (bad : List (Fin 16)) : Dev :=
  match s.popEntry h, (s.pop h).on c with
  | some e, some x =>
    let s := (s.serveWaiting h c).updPopOn h c (fun x => { x with closed := x.closed ++ [x.tick] })
    let p := s.closeParams h
    let broken (u : Nat) : Bool := s.residueOff e c u (bad.any (fun b => b.val == u))
    let works : List NeuronMap := (e.unitsOn c).filter (fun m => !broken m.unit && s.unitWorks (c * 16 + m.unit))
    let r := works.foldl (fun z m => z.1.closeMap h c e p m z.2) (s, [])
    let s := ((e.unitsOn c).map (·.unit)).eraseDups.foldl (fun s u => if broken u then s.residueFault c u else s) r.1
    let s := (e.routes.filter (fun z => z.1 == 0)).foldl (fun s z => s.sendTo h c e x.tick r.2 z.2) s
    let s := (s.sendOut h c e x.tick r.2).sendBuilders h c e x.tick r.2
    let s := s.bump (popCtr h 0)
    let s := s.raiseTo (Obj.closeLagMax h) (((s.dt - s.tickEnd h x.tick) / 1000).toNat % 2 ^ 32)
    s.countClose h c e
  | _, _ => s

/-- The gating slots of a population (R188). -/
def Dev.gating (s : Dev) (h : Nat) (e : PopEntry) : List Nat := (e.slots.map (·.slot)).filter (fun i => s.bit (Obj.gateMask h) i)

/-- The first condition of R189. -/
def Dev.gatesOpen (s : Dev) (h : Nat) (e : PopEntry) (x : PopCluster) : Bool :=
  match s.gating h e with
  | [] => decide (s.tickEnd h x.tick ≤ s.dt)
  | gs => gs.all (fun i => x.reached i x.tick)

/-- A close and the opening of the tick after it. [log 58 DEDUCED] -/
def Dev.closeNext (s : Dev) (h c : Nat) (bad : List (Fin 16)) : Dev :=
  match (s.pop h).on c with
  | none => s
  | some x => ((s.closeTick h c bad).openTick h c (x.tick + 1)).lastClosed h

/-- TICK_CLOSE (R189, condition 1). -/
def Dev.tickClose (s : Dev) (h c : Nat) (bad : List (Fin 16)) : Dev :=
  match s.popEntry h, (s.pop h).on c with
  | some e, some x => if s.popActive h c && s.gatesOpen h e x then s.closeNext h c bad else s
  | _, _ => s

/-- HORIZON_TIMEOUT (R189, condition 2). -/
def Dev.tickTimeout (s : Dev) (h c : Nat) (bad : List (Fin 16)) : Dev :=
  match (s.pop h).on c with
  | some x =>
    if s.popActive h c && s.passed (s.tickEnd h x.tick) (s.rd (Obj.horizonTimeout h)) then (s.bump (popCtr h 4)).closeNext h c bad else s
  | none => s

/-- TICK_SKIP (R192). [log 58 DEDUCED] -/
def Dev.tickSkip (s : Dev) (h c : Nat) (bad : List (Fin 16)) : Dev :=
  match s.popEntry h, (s.pop h).on c with
  | some e, some x =>
    if s.popActive h c && (x.stepped || decide (s.tickEnd h x.tick + 100000000 < s.dt)) then
      let s := (s.bump (popCtr h 4)).closeTick h c bad
      let new := max (x.tick + 1) (s.tickOf h s.dt)
      let skipped := (new - (x.tick + 1)).toNat
      let s := s.bumpBy (popCtr h 8) skipped
      let s := s.updPopOn h c (fun x => { x with stepped := false, skipped := x.skipped || decide (0 < skipped) })
      let s := (s.openTick h c new).lastClosed h
      (e.routes.filter (fun z => z.1 == 0)).foldl (fun s z => s.sendTo h c e (new - 2) [] z.2) s
    else s
  | _, _ => s

/-- A step or a re-basing of device time: every running population is to follow it (R192). -/
def Dev.popsStepped (s : Dev) : Dev :=
  { s with pops := s.pops.map (fun p => (p.1, { p.2 with clusters := p.2.clusters.map (fun x => { x with stepped := true }) })) }

/-! ### Start and restart -/

/-- The neurons of map record `m` take the reset state (R184, R198). -/
def Dev.resetMap (s : Dev) (m : NeuronMap) : Dev :=
  s.each m.count (fun i s =>
    let key := neuronKey m.cluster m.unit (m.firstIndex + i)
    { s with neurons := Tab.put 0 s.neurons key (2 ^ 31), neuronBad := Tab.put false s.neuronBad key false, accs := Tab.put 0 s.accs key 0,
             residues := Tab.put 0 s.residues key 0 })

/-- Population `h` starts with its phase (R213). -/
def Dev.popStart (s : Dev) (h : Nat) : Dev :=
  match s.popEntry h with
  | none => s
  | some e =>
    let s := e.map.foldl (fun s m => s.resetMap m) s
    let k := s.tickOf h s.dt
    let s := s.updPop h (fun p => { p with clusters := e.clusters.map (fun c => { cluster := c, tick := k }), maps := 0 })
    let s := { s with counts := s.counts.filter (fun z => z.1 / 2 ^ 39 / 3 != h || z.1 / 2 ^ 39 % 3 == 2) }
    ((s.setF (Obj.popState h) 0 2 2).setBit (Obj.popState h) 5 false).wr (Obj.closeLagMax h) 0

/-- The neurons on logical unit `g` restart after a remap or a move (R198). -/
def Dev.restartUnit (s : Dev) (g : Nat) : Dev :=
  s.each 1024 (fun h s =>
    if s.popRuns h then
      match s.popEntry h with
      | none => s
      | some e =>
        let ms := e.map.filter (fun m => m.cluster == g / 16 && m.unit == g % 16)
        if ms = [] then s
        else (((ms.foldl (fun s m => s.resetMap m) s).bumpBy (popCtr h 9) (ms.map (·.count)).sum).setBit (Obj.popState h) 5 true).serveWaiting h (g / 16)
    else s)

end Sys2Proof.Machine
end

