-- ==== Sys2Proof/Machine/Shoal.lean ====
section
/-! DEFINITION. The shoal commands (R186 to R193). -/

namespace Sys2Proof.Machine

open Sys2Proof

/-- SHOAL_INPUT (R186): the oldest word on its way to source slot `slot` of population `h` on cluster `c` arrives. `poisoned`: the cluster's
sluice or a weight delivered it with Poison (R564). -/
def execShoalInput (h : Fin 1024) (c : Fin 128) (slot : Fin 64) (poisoned : Bool) (s : State) : Host.Outcome State Fault Refusal :=
  s.runIn c.val (fun d => d.shoalInput h.val c.val slot.val poisoned)

/-- HORIZON_WORD (R187). -/
def execHorizonWord (h : Fin 1024) (c : Fin 128) (slot : Fin 64) (s : State) : Host.Outcome State Fault Refusal :=
  s.runIn c.val (fun d => d.horizonWord h.val c.val slot.val)

/-- TICK_CLOSE (R189, R193). `bad` are the logical units whose residue store has suffered a fault (R269). -/
def execTickClose (h : Fin 1024) (c : Fin 128) (bad : List (Fin 16)) (s : State) : Host.Outcome State Fault Refusal :=
  s.runIn c.val (fun d => d.tickClose h.val c.val bad)

/-- HORIZON_TIMEOUT (R189). -/
def execHorizonTimeout (h : Fin 1024) (c : Fin 128) (bad : List (Fin 16)) (s : State) : Host.Outcome State Fault Refusal :=
  s.runIn c.val (fun d => d.tickTimeout h.val c.val bad)

/-- TICK_SKIP (R192). -/
def execTickSkip (h : Fin 1024) (c : Fin 128) (bad : List (Fin 16)) (s : State) : Host.Outcome State Fault Refusal :=
  s.runIn c.val (fun d => d.tickSkip h.val c.val bad)

end Sys2Proof.Machine
end

