-- ==== Sys2Proof/Machine/Mem.lean ====
section
/-! DEFINITION. The two addressed memories: reading and writing bytes of a scratchpad (R272) and of GDDR6 (R316), Poison (R274, R323), and
the canonical form. -/

namespace Sys2Proof.Machine

open Sys2Proof

/-- What an address that no entry lists reads as (notes/assumptions/11). [log 11 DESIGN CHOICE] -/
def unlisted : Byte := 0

/-- The canonical form of a memory: addresses strictly rising, no entry equal to what an unlisted address reads as. -/
abbrev Memory.wf (m : List Host.Cell) : Prop := Tab.wf unlisted m = true

/-- The canonical form of both memories and of their marks of Poison. -/
abbrev Mem.wf (m : Mem) : Prop := Memory.wf m.gddr ∧ Memory.wf m.pad ∧ Tab.wf false m.gddrBad = true ∧ Tab.wf false m.gddrErr = true ∧ Tab.wf false m.padBad = true

/-- One byte. [log 11 DESIGN CHOICE] -/
def Memory.byte (m : List Host.Cell) (a : Nat) : Byte := Tab.get unlisted m a

/-- `n` bytes from address `a`. -/
def Memory.read (m : List Host.Cell) (a n : Nat) : List Byte := (upFrom a n).map (Memory.byte m)

/-- One byte written. [log 11 DESIGN CHOICE] -/
def Memory.put (m : List Host.Cell) (a : Nat) (b : Byte) : List Host.Cell := Tab.put unlisted m a b

/-- Bytes written from address `a` on. -/
def Memory.write (m : List Host.Cell) (a : Nat) : List Byte → List Host.Cell
  | [] => m
  | b :: bs => Memory.write (Memory.put m a b) (a + 1) bs

/-- Addresses [lo, hi) returned to what they read as unlisted. [log 11 DESIGN CHOICE] -/
def Memory.wipe (m : List Host.Cell) (lo hi : Nat) : List Host.Cell := m.filter (fun x => decide (x.1 < lo) || decide (hi ≤ x.1))

/-- Marks of Poison in [lo, hi) removed. -/
def wipeMarks (t : Tab Bool) (lo hi : Nat) : Tab Bool := t.filter (fun x => decide (x.1 < lo) || decide (hi ≤ x.1))

/-! ### Scratchpads (R272) -/

/-- The key of byte address `a` of cluster `c`'s scratchpad. -/
def padKey (c a : Nat) : Nat := c * 2 ^ 20 + a % 2 ^ 20

/-- The number of the 64-bit word that holds byte `a`. -/
def padWordKey (c a : Nat) : Nat := padKey c a / 8

/-- The bank of byte address `a`. -/
def padBank (a : Nat) : Nat := a / 8 % 32

/-- `n` bytes of a scratchpad. -/
def Mem.padRead (m : Mem) (c a n : Nat) : List Byte := (upFrom a n).map (fun x => Memory.byte m.pad (padKey c x))

/-- Bytes written into a scratchpad. -/
def Mem.padPut (m : Mem) (c a : Nat) (bs : List Byte) : Mem :=
  { m with pad := bs.zipIdx.foldl (fun p b => Memory.put p (padKey c (a + b.2)) b.1) m.pad }

/-- Whether any 64-bit word of the extent carries Poison. -/
def Mem.padPoisoned (m : Mem) (c a n : Nat) : Bool :=
  (List.range ((a + n + 7) / 8 - a / 8)).any (fun i => Tab.get false m.padBad (padWordKey c (a / 8 * 8 + 8 * i)))

/-- The words of an extent marked: a word written whole takes the mark; of a word written in part a mark stays (R275). -/
def Mem.padMark (m : Mem) (c a n : Nat) (bad : Bool) : Mem :=
  { m with padBad := (List.range ((a + n + 7) / 8 - a / 8)).foldl (fun t i =>
      let w := a / 8 * 8 + 8 * i
      let whole : Bool := decide (a ≤ w) && decide (w + 8 ≤ a + n)
      if whole || bad then Tab.put false t (padWordKey c w) bad else t) m.padBad }

/-- A write of an extent, with its Poison. -/
def Mem.padWrite (m : Mem) (c a : Nat) (bs : List Byte) (bad : Bool) : Mem := (m.padPut c a bs).padMark c a bs.length bad

/-- A scratchpad all zero (R284). -/
def Mem.padClear (m : Mem) (c : Nat) : Mem :=
  { m with pad := Memory.wipe m.pad (padKey c 0) (padKey c 0 + 2 ^ 20), padBad := wipeMarks m.padBad (padWordKey c 0) (padWordKey c 0 + 2 ^ 17) }

end Sys2Proof.Machine
end

