-- ==== Sys2Proof/Machine/Scratch.lean ====
section
/-! DEFINITION. Scratchpads (R272 to R291, R303 to R305): reads with their checks, windows, the hardware clear, and march passes. -/

namespace Sys2Proof.Machine

open Sys2Proof

/-! ### Region registers (R281 to R283) -/

/-- The masters of a scratchpad: 0 to 15 the unit row ports, 16 and 17 the ferry ports, 18 the steward core. -/
def stewardMaster : Nat := 18

/-- The key of a region register. -/
def regionKey (c m w : Nat) : Nat := (c * 19 + m) * 8 + w

/-- Whether a window grants an access of `n` bytes at `a` (R281). -/
def windowGrants (r a n : Nat) (write : Bool) : Bool :=
  bitAt r 26 && bitAt r (if write then 25 else 24) && decide (field r 0 12 ≤ a / 256) && decide ((a + n - 1) / 256 ≤ field r 12 12)

/-- Whether master `m` of cluster `c` may make an access (R281). -/
def Dev.padAllowed (s : Dev) (c m a n : Nat) (write : Bool) : Bool :=
  (List.range 8).any (fun w => windowGrants (Tab.get 0 s.regions (regionKey c m w)) a n write)

/-- The kind and number that a master has in a plan-fault entry (R553). -/
def padMaster (c m : Nat) : Nat × Nat := if m < 16 then (0, c * 16 + m) else if m < 18 then (2, c * 2 + (m - 16)) else (1, c)

/-- An access that no window allows (R283). -/
def Dev.padViolation (s : Dev) (c m a : Nat) : Dev :=
  (s.bump (Obj.regionViolations c)).planFaultEntry (padMaster c m).1 (padMaster c m).2 a (s.rd (Obj.clusterOwner c))

/-! ### Reads (R274) -/

/-- A word read from a scratchpad with one bit in error. -/
def Dev.padCorrected (s : Dev) (c : Nat) : Dev := (s.bump (Obj.scratchCorrected c)).sedError 0x40

/-- A word read with an uncorrectable error (R274, R551): class 0x0B, and class 0x04 at the fourth in one bank within 1 s. [log 56 DESIGN CHOICE] -/
def Dev.padUncorrectable (s : Dev) (c a : Nat) : Dev :=
  let s := s.bump (Obj.scratchUncorrectable c)
  let s := s.detect 0x0B (.cluster c) a
  let k := c * 32 + padBank a
  let x := rateUp (Tab.get (0, 0) s.padUncorr k) (s.win 1000000000)
  let s := { s with padUncorr := Tab.put (0, 0) s.padUncorr k x }
  if x.2 = 4 then s.detect 0x04 (.cluster c) (padBank a) else s

/-- A 64-bit word with the bytes that a mask names replaced. -/
def maskedWord (old : List Byte) (data mask : Nat) : List Byte :=
  (List.range 8).map (fun i => if bitAt mask i then BitVec.ofNat 8 (data / 2 ^ (8 * i)) else old.getD i 0)

/-- A write of one 64-bit word through a byte mask (R275): a mark of Poison stays but for a word written whole. -/
def Mem.padMasked (m : Mem) (c a data mask : Nat) : Mem :=
  let m' := m.padPut c a (maskedWord (m.padRead c a 8) data mask)
  if mask = 255 then m'.padMark c a 8 false else m'

/-- One 64-bit word of an access checked on the way out: the state after, the data, whether they carry Poison. -/
def State.padWord (s : State) (c a : Nat) (check : Check) : State × Nat × Bool :=
  let data := ofLe (s.mem.padRead c a 8)
  if Tab.get false s.mem.padBad (padWordKey c a) || check == .uncorrectable then
    ({ s with dev := s.dev.padUncorrectable c a, mem := { s.mem with padBad := Tab.put false s.mem.padBad (padWordKey c a) true } }, data, true)
  else if check = .corrected then ({ s with dev := s.dev.padCorrected c }, data, false)
  else (s, data, false)

/-- Whether the masters of cluster `c` have its ports: a pass over the scratchpad has both alone (R276). -/
def Dev.padFree (s : Dev) (c : Nat) : Bool := match Tab.get none s.marches c with | some m => !bitAt m.control 4 | none => true

/-- What one half of a read gives: the state after, the data, whether they carry Poison, whether Busy goes to the reader. -/
structure HalfRead where
  s : State
  data : Nat
  poisoned : Bool := false
  busy : Bool := false

/-- One 64-bit word of a read (R274, R278, R279): a word that the other port writes in the same cycle reads as an open value, holds what was
written, and is not checked; Busy goes to the later port. -/
def State.padHalf (s : State) (c a : Nat) (check : Check) (meet : Option PortWrite) : HalfRead :=
  match meet with
  | some w =>
    { s := { s with dev := (s.dev.bump (Obj.readCollisions c)).drawn, mem := s.mem.padMasked c a w.data.toNat w.mask.toNat },
      data := s.dev.open_ % 2 ^ 64, busy := w.readerLater }
  | none => let r := s.padWord c a check; { s := r.1, data := r.2.1, poisoned := r.2.2 }

/-- A read by master `m` of cluster `c` (R274, R278 to R283): 8 bytes for the steward core, 16 in two halves for the others. During a pass over
the scratchpad it is held, and comes again (R276). [log 115 DEDUCED] -/
def State.padAccess (s : State) (c m a : Nat) (check0 check1 : Check) (meet0 meet1 : Option PortWrite) (waited : Nat) : State :=
  let n := if m = stewardMaster then 8 else 16
  let a := a / n * n
  if !s.dev.padFree c then s
  else if !s.dev.padAllowed c m a n false then
    { s with dev := (s.dev.padViolation c m a).emit (.padData c m 0 false false true) }
  else
    let s := if m = 16 ∨ m = 17 then { s with dev := s.dev.bumpBy (Obj.portBWaits c) waited } else s
    let r0 := s.padHalf c a check0 meet0
    let r1 : HalfRead := if n = 16 then r0.s.padHalf c (a + 8) check1 meet1 else { s := r0.s, data := 0 }
    { r1.s with dev := r1.s.dev.emit (.padData c m (r0.data + r1.data * 2 ^ 64) (r0.poisoned || r1.poisoned) (r0.busy || r1.busy) false) }

/-! ### The clear (R284) -/

/-- The region registers of cluster `c` at reset (R284). -/
def Dev.clearRegions (s : Dev) (c : Nat) : Dev :=
  { s with regions := s.regions.filter (fun x => decide (x.1 < regionKey c 0 0) || decide (regionKey (c + 1) 0 0 ≤ x.1)) }

/-- The hardware clear of cluster `c` (R284, R285). -/
def State.clearPad (s : State) (c : Nat) : State := { s with dev := s.dev.clearRegions c, mem := s.mem.padClear c }

/-! ### March passes (R287 to R291) -/

/-- March pass of cluster `c`. [log 67 DEDUCED] -/
def Dev.march (s : Dev) (c : Nat) : Option March := Tab.get none s.marches c

/-- The logical unit that physical slot `k` of cluster `c` carries; none for a spare, a failed or a silted slot. -/
def Dev.slotUnit (s : Dev) (c k : Nat) : Option Nat := (List.range 16).find? (fun u => s.slotOf (c * 16 + u) == k && s.unitWorks (c * 16 + u))

/-- The command of a MarchControl word with Command 1 or 2: its Slot is a slot or all. -/
def marchValid (v : Nat) : Bool := field v 0 2 != 3 && (field v 5 5 ≤ 16 || field v 5 5 == 0x1F)

/-- Why a pass does not start (R290): true where it is refused. [log 67 DEDUCED] -/
def Dev.marchRefused (s : Dev) (c v : Nat) : Bool :=
  (s.march c).isSome ||
    (if field v 0 2 = 1 then s.rd (Obj.clusterOwner c) != 0xFF
     else if !bitAt v 4 && field v 5 5 != 0x1F then (s.slotUnit c (field v 5 5)).isSome
     else s.clusterBusy c)

/-- A pass starts. [log 67 DEDUCED] -/
def Dev.marchStart (s : Dev) (c v : Nat) (retest : Bool) : Dev := { s with marches := Tab.put none s.marches c (some ⟨v, retest⟩) }

/-- MarchStatus as it reads (R305): while a pass runs, State is running and Destructive its kind. -/
def Dev.marchNow (s : Dev) (c : Nat) : Nat :=
  match s.march c with
  | some m => setField (setField (s.rd (Obj.marchStatus c)) 0 2 1) 2 1 (b2n (decide (field m.control 0 2 = 1)))
  | none => s.rd (Obj.marchStatus c)

/-- A write of MarchControl that passed the checks of R469 (R290, R304): Command 0 changes nothing. -/
def Dev.marchWrite (s : Dev) (q : Requester) (c v : Nat) : Dev :=
  if !marchValid v then s.refuse q .range
  else if field v 0 2 = 0 then s.accept q
  else if s.marchRefused c v then s.refuse q .state
  else ((s.wr (Obj.marchControl c) v).marchStart c v false).accept q

/-- Whether a pass tests element `e`: a bank below 32, else slot `e` − 32. -/
def marchTests (v e : Nat) : Bool :=
  if e < 32 then bitAt v 4 else bitAt v 3 && (field v 5 5 == 0x1F || field v 5 5 == e - 32)

/-- The spare columns still free in an element (R291). -/
def Dev.sparesOf (s : Dev) (c e : Nat) : Nat := partSpare (Obj.marchStatus c).key e - Tab.get 0 s.spareBits (c * 49 + e)

/-- Failing columns mapped onto spares as long as one is free (R291): the device and whether the element passes. -/
def Dev.marchElem (s : Dev) (c v : Nat) (x : MarchFound) : Dev × Bool :=
  let e := x.elem.val
  if !marchTests v e then (s, true)
  else
    let n := if bitAt v 2 then min x.columns (s.sparesOf c e) else 0
    let s := { s with spareBits := Tab.upd 0 s.spareBits (c * 49 + e) (· + n) }
    let s := s.setF (Obj.marchStatus c) 16 8 (s.getF (Obj.marchStatus c) 16 8 + n)
    let s := s.setF (Obj.marchStatus c) 24 8 (s.getF (Obj.marchStatus c) 24 8 - n)
    (s, x.columns == n && !x.word)

/-- The logical unit mapped onto slot `k`, in service or silted. -/
def Dev.mappedUnit (s : Dev) (c k : Nat) : Option Nat := (List.range 16).find? (fun u => s.slotOf (c * 16 + u) == k)

/-- A failing element reported (R291, R551): a bank is a fault of its cluster, a register file of its unit. -/
def Dev.marchFault (s : Dev) (c e : Nat) : Dev :=
  if e < 32 then s.detect 0x04 (.cluster c) e
  else if s.bit (Obj.clusterHealth c) (3 + (e - 32)) then s
  else match s.mappedUnit c (e - 32) with
    | some u => s.detect 0x03 (.unit (c * 16 + u)) (e - 32)
    | none => s.slotFail c (e - 32)

/-- The register file of slot `k` all zero (R287): a unit mapped onto it holds nothing. -/
def Dev.slotZero (s : Dev) (c k : Nat) : Dev :=
  match s.mappedUnit c k with
  | none => s
  | some u =>
    let lo := neuronKey c u 0
    let out (x : Nat) : Bool := decide (x < lo) || decide (lo + 4096 ≤ x)
    { s with neurons := s.neurons.filter (fun x => out x.1), accs := s.accs.filter (fun x => out x.1), residues := s.residues.filter (fun x => out x.1), neuronBad := s.neuronBad.filter (fun x => out x.1) }

/-- The end of a pass on the registers (R287, R291, R567, R568). [log 67 DEDUCED] -/
def Dev.marchEnd (s : Dev) (c : Nat) (m : March) (found : List MarchFound) : Dev :=
  let v := m.control
  let destructive : Bool := field v 0 2 == 1
  let r := found.foldl (fun z x => let y := z.1.marchElem c v x; (y.1, if y.2 then z.2 else z.2 ++ [x.elem.val])) ((s, []) : Dev × List Nat)
  let bad := sortBy (fun a b => decide (a ≤ b)) r.2
  let s := (r.1.setF (Obj.marchStatus c) 0 2 (if bad = [] then 2 else 3)).setF (Obj.marchStatus c) 2 1 (b2n destructive)
  let s := s.setF (Obj.marchStatus c) 8 8 (bad.headD 0xFF)
  let s := { s with marches := Tab.put none s.marches c none }
  let s := s.each 17 (fun k s =>
    if !marchTests v (32 + k) then s
    else
      let s := if destructive then s.slotZero c k else s
      if !bad.contains (32 + k) && (destructive || field v 5 5 == k) then { s with silted := Tab.put false s.silted (c * 17 + k) false } else s)
  let s := if destructive && bad.isEmpty && s.rd (Obj.clusterOwner c) == 0xFF && s.getF (Obj.clusterHealth c) 0 2 == 1 then
      s.setF (Obj.clusterHealth c) 0 2 0 else s
  if m.retest then
    let k := field v 5 5
    if bad = [] then (((s.setBit (Obj.clusterHealth c) (3 + k) false).setF (Obj.clusterHealth c) 2 1 1).setF (Obj.clusterHealth c) 20 5 k) else s
  else bad.foldl (fun s e => s.marchFault c e) s

/-- The banks of cluster `c` that hold a word with an uncorrectable error, as a preserving pass over them finds (R287). -/
def State.badBanks (s : State) (c : Nat) : List MarchFound :=
  ((List.finRange 49).filter (fun e => decide (e.val < 32) && s.mem.padBad.any (fun x =>
    x.2 && x.1 / 2 ^ 17 == c && x.1 % 32 == e.val))).map (fun e => ⟨e, 0, true⟩)

/-- The end of a pass: a destructive one ends with the clear (R284); a preserving one fails on a word that stands uncorrectable (R287). [log 67 DEDUCED] -/
def State.marchEnd (s : State) (c : Nat) (found : List MarchFound) : State :=
  match s.dev.march c with
  | none => s
  | some m =>
    if field m.control 0 2 = 1 then ({ s with dev := s.dev.marchEnd c m found } : State).clearPad c
    else { s with dev := s.dev.marchEnd c m (found ++ (s.badBanks c).filter (fun x => !found.any (fun y => y.elem == x.elem && y.word))) }

/-- The pass that each cluster runs after PORST_N (R289): destructive, with soft repair, over its scratchpad and every register file. -/
def Dev.marchAll (s : Dev) : Dev := { s with marches := (List.range 128).map (fun c => (c, some ⟨1 + 4 + 8 + 16 + 0x1F * 32, false⟩)) }

/-! ### The commands -/

/-- SCRATCHPAD_READ (R274). `master`: 0 to 15 a unit row port, 16 and 17 a ferry port, 18 the steward core; `check0` and `check1` are the
words' checks; `meet` holds the writes of the two words by the other port; `waited` the cycles that a ferry port waited (R278). -/
def execScratchpadRead (c : Fin 128) (master : Fin 19) (addr : BitVec 20) (check0 check1 : Check)
    (meet : Option PortWrite × Option PortWrite) (waited : Fin 9) (s : State) : Host.Outcome State Fault Refusal :=
  s.runInM c.val (fun s => s.padAccess c.val master.val addr.toNat check0 check1 meet.1 meet.2 waited.val)

/-- A MarchControl word (R304). -/
def marchWord (command : Nat) (soft files pad : Bool) (slot : Nat) : Nat := command + b2n soft * 4 + b2n files * 8 + b2n pad * 16 + slot * 32

/-- MARCH_DESTRUCTIVE (R287, R290). -/
def execMarchDestructive (q : Requester) (c : Fin 128) (soft files pad : Bool) (slot : Fin 32) (s : State) : Host.Outcome State Fault Refusal :=
  s.asked q (Obj.marchControl c.val) (marchWord 1 soft files pad slot.val) (fun d => d.marchWrite q c.val (marchWord 1 soft files pad slot.val))

/-- MARCH_PRESERVING (R287, R290). -/
def execMarchPreserving (q : Requester) (c : Fin 128) (soft files pad : Bool) (slot : Fin 32) (s : State) : Host.Outcome State Fault Refusal :=
  s.asked q (Obj.marchControl c.val) (marchWord 2 soft files pad slot.val) (fun d => d.marchWrite q c.val (marchWord 2 soft files pad slot.val))

/-- MARCH_PASS_END (R288, R291): what the pass of cluster `c` found. -/
def execMarchPassEnd (c : Fin 128) (found : List MarchFound) (s : State) : Host.Outcome State Fault Refusal :=
  s.runInM c.val (fun s => s.marchEnd c.val found)

end Sys2Proof.Machine
end

