-- ==== Sys2Proof/Machine/Arith.lean ====
section
/-! DEFINITION. Number formats (R247 to R267): codes, elements, the floating accumulator, rounding modes, conversion to an output format with
its counters, and the stochastic generator. -/

namespace Sys2Proof.Machine

open Sys2Proof

/-! ### Codes (R247) -/

/-- The floating format of a code; none for the others. -/
def fmtFloat (code : Nat) : Option FFmt :=
  match code with
  | 7 => some e4m3
  | 8 => some e5m2
  | 9 => some fp16
  | 10 => some bf16
  | 11 => some fp32
  | _ => none

/-- The bits of an element; a block-scaled element without its scale. -/
def fmtBits (code : Nat) : Nat :=
  match code with
  | 0 => 1
  | 1 => 2
  | 2 => 4
  | 3 | 4 | 7 | 8 | 13 => 8
  | 5 | 9 | 10 => 16
  | 12 => 4
  | _ => 32

/-- Whether a format takes the even lanes (R48, R257). -/
def fmtWide (code : Nat) : Bool := code == 9 || code == 10 || code == 11

/-- The row pitch of R215 in bytes. -/
def rowPitch (w code : Nat) : Nat := ceilDiv (w * fmtBits code) 128 * 16

/-- Element `i` of a packed row, as its bits. -/
def elemBits (code : Nat) (row : List Byte) (i : Nat) : Nat :=
  let b := fmtBits code
  if b < 8 then leAt row (i * b / 8) 1 / 2 ^ (i * b % 8) % 2 ^ b else leAt row (i * (b / 8)) (b / 8)

/-- The integer that element bits stand for, of an integer format (R247, R248). -/
def elemInt (code v : Nat) : Int :=
  match code with
  | 0 => if v = 0 then -1 else 1
  | 4 => (v : Nat)
  | c => signed (fmtBits c) v

/-- The value of element bits (R247 to R249). -/
def elemVal (code v : Nat) : FVal :=
  match fmtFloat code with
  | some f => f.toVal v
  | none => .fin false (elemInt code v : Rat)

/-- The integer of element bits that enters a residue (R268): the integer itself, or the significand with its implicit bit and its sign. [log 61 DEDUCED] -/
def elemSig (code v : Nat) : Int :=
  match fmtFloat code with
  | some f =>
    let m := v % 2 ^ f.mb
    let i : Nat := if v / 2 ^ f.mb % 2 ^ f.eb = 0 then m else 2 ^ f.mb + m
    if bitAt v (f.eb + f.mb) then -(i : Int) else i
  | none => elemInt code v

/-- Rows of packed element bits as bytes: sub-byte elements lowest first (R215). -/
def packRow (code : Nat) (vs : List Nat) : List Byte :=
  let b := fmtBits code
  let n := vs.zipIdx.foldl (fun a x => a + x.1 % 2 ^ b * 2 ^ (b * x.2)) 0
  leBytes (ceilDiv (vs.length * b) 8) n

/-! ### Accumulation (R258 to R260) -/

/-- The floating accumulator: 10-bit exponent, 48-bit significand (R259). -/
def accFmt : FFmt := ⟨10, 47, true⟩

/-- One exact term added with one rounding to 48 bits (R259). -/
def accAdd (a t : FVal) : FVal := accFmt.toVal (accFmt.ofVal .nearestEven (a.add t))

/-- A sum of integer terms modulo 2³² as a signed number (R258). -/
def accInt (ts : List FVal) : Int := signed 32 (unsigned 32 ((ts.map (fun t => t.rat.floor)).foldl (· + ·) 0))

/-- Terms accumulated in order: integers modulo 2³², floating terms with a rounding at each addition. The first floating term is the sum so far: a
negative zero is kept (R250). -/
def accumulate (integer : Bool) (ts : List FVal) : FVal :=
  if integer then .fin false (accInt ts : Rat)
  else match ts with
    | [] => .fin false 0
    | t :: ts => ts.foldl accAdd (accFmt.toVal (accFmt.ofVal .nearestEven t))

/-- The residue of a tile's accumulator over its integer terms, in order (R268). -/
def residueOver (integer : Bool) (ts : List Int) : ResAcc := ts.foldl (fun a t => a.add integer t (mod3 t)) {}

/-! ### Rounding and conversion (R262 to R264) -/

/-- A rounding mode of R262 with the lane's draw. -/
def roundMode (code draw : Nat) : Round :=
  match code with
  | 1 => .towardZero
  | 2 => .stochastic draw 16
  | _ => .nearestEven

/-- A rational rounded to an integer (R262): stochastic rounding judges x − floor(x). -/
def roundInt (m : Round) (x : Rat) : Int :=
  match m with
  | .stochastic u b => (x + (u : Rat) / ((2 ^ b : Nat) : Rat)).floor
  | m => if x < 0 then -((m.int (-x) : Nat) : Int) else (m.int x : Nat)

/-- The bits that a magnitude rounds to were the format's range unbounded. -/
def FFmt.rawMag (f : FFmt) (m : Round) (r : Rat) : Nat :=
  if r = 0 then 0
  else
    let e := max (ratLog2 r) (1 - (f.bias : Int))
    m.int (r / pow2 (e - f.mb)) + (e + f.bias - 1).toNat * 2 ^ f.mb

/-- A converted element: its bits, and whether it counts in Saturations and in NaNConversions. -/
structure Conv where
  bits : Nat
  sat : Bool := false
  nan : Bool := false
  deriving DecidableEq, Repr

/-- The least and greatest integer of an integer format. -/
def intRange (code : Nat) : Int × Int :=
  if code = 4 then (0, 255) else (-(2 ^ (fmtBits code - 1) : Nat), (2 ^ (fmtBits code - 1) : Nat) - 1)

/-- Conversion to an integer format (R263). -/
def convInt (code : Nat) (m : Round) (v : FVal) : Conv :=
  let r := intRange code
  let put (i : Int) : Nat := unsigned (fmtBits code) i
  match v with
  | .nan => { bits := 0, nan := true }
  | .inf neg => { bits := put (if neg then r.1 else r.2), sat := true }
  | .fin _ x =>
    let i := roundInt m x
    { bits := put (clampI r.1 r.2 i), sat := decide (i < r.1) || decide (r.2 < i) }

/-- Conversion to a floating format (R263, R264). [log 107 PRESUMED] -/
def convFloat (f : FFmt) (m : Round) (v : FVal) : Conv :=
  let top := 2 ^ (f.eb + f.mb)
  let eight : Bool := decide (f = e4m3) || decide (f = e5m2)
  match v with
  | .nan => { bits := f.nanBits, nan := true }
  | .inf neg => if f = e4m3 then { bits := b2n neg * top + f.maxBits, sat := true } else { bits := b2n neg * top + (2 ^ f.eb - 1) * 2 ^ f.mb }
  | .fin neg x =>
    let sign := b2n (if x = 0 then neg else decide (x < 0)) * top
    let raw := f.rawMag m (if x < 0 then -x else x)
    if raw ≤ f.maxBits then { bits := sign + raw }
    else { bits := sign + (if eight || m == .towardZero then f.maxBits else (2 ^ f.eb - 1) * 2 ^ f.mb), sat := true }

/-- Conversion of a value to an output format (R263). -/
def convert (code : Nat) (m : Round) (v : FVal) : Conv :=
  match fmtFloat code with
  | some f => convFloat f m v
  | none =>
    if code = 0 then
      match v with
      | .nan => { bits := 1, nan := true }
      | .inf neg => { bits := b2n (!neg) }
      | .fin _ x => { bits := b2n (decide (0 ≤ x)) }
    else convInt code m v

/-! ### The stochastic generator (R266, R267) -/

/-- Steps of the LFSR: the register and the bits that left it, the first of them most significant. [log 62 DEDUCED] -/
def lfsrSteps : Nat → Nat → Nat → Nat × Nat
  | 0, r, out => (r, out)
  | n + 1, r, out =>
    let fb := (b2n (bitAt r 63) + b2n (bitAt r 62) + b2n (bitAt r 60) + b2n (bitAt r 59)) % 2
    lfsrSteps n (r * 2 % 2 ^ 64 + fb) (out * 2 + b2n (bitAt r 63))

/-- A handshake cycle with stochastic rounding (R266): the register after 1,024 steps, and the 1,024 bits that left it. [log 62 DEDUCED] -/
def lfsrCycle (r : Nat) : Nat × Nat := lfsrSteps 1024 r 0

/-- The draw of lane `l`. [log 62 DEDUCED] -/
def laneDraw (out l : Nat) : Nat := out / 2 ^ (1024 - 16 * (l % 64 + 1)) % 2 ^ 16

/-- The register of logical unit `u` at a phase start, from a seed (R267). -/
def lfsrSeed (seed u : Nat) : Nat :=
  let v := seed ^^^ ((u + 1) * 0x9E3779B97F4A7C15 % 2 ^ 64)
  if v = 0 then 1 else v

/-- The generators of cluster `c` loaded at a phase start, with the seed kept for the slots that take units over (R267). -/
def Dev.lfsrLoad (s : Dev) (c : Nat) : Dev :=
  let seed := s.rd (Obj.stochasticSeed c)
  ({ s with phaseSeed := Tab.put 0 s.phaseSeed c seed } : Dev).each 16 (fun u s => { s with lfsr := Tab.put 0 s.lfsr (c * 16 + u) (lfsrSeed seed u) })

end Sys2Proof.Machine
end

