-- ==== Sys2Proof/Machine/Tiles.lean ====
section
/-! DEFINITION. The tiles of a basin layer (R215 to R227): shapes, padding, stripes, operands in the scratchpad, accumulators and their
conversion. -/

namespace Sys2Proof.Machine

open Sys2Proof

/-! ### Shapes (R221, R224 to R226) -/

/-- The factor of an UPSAMPLE axis field (R362). -/
def upFactor (v : Nat) : Nat := if v = 1 then 2 else if v = 2 then 4 else 1

/-- One axis of a layer: input size, kernel, stride, dilation, padding before and after. -/
structure Axis where
  size : Nat
  k : Nat
  s : Nat
  d : Nat
  pa : Nat
  pb : Nat
  deriving DecidableEq, Repr

/-- The effective kernel (R224). -/
def Axis.keff (a : Axis) : Int := (a.d : Int) * ((a.k : Int) - 1) + 1

/-- The output size of an axis (R224). -/
def Axis.out (a : Axis) : Int := ((a.size : Int) + a.pa + a.pb - a.keff) / (a.s : Int) + 1

/-- SAME padding of an axis (R225): before and after. -/
def samePad (size k s d : Nat) : Nat × Nat :=
  let keff := d * (k - 1) + 1
  let t := (ceilDiv size s - 1) * s + keff - size
  (t / 2, t - t / 2)

/-- An axis of a layer with its padding. -/
def LayerEntry.axis (e : LayerEntry) (rows : Bool) : Axis :=
  let size := if rows then e.inH else e.inW
  let k := if rows then e.kh else e.kw
  let s := if rows then e.sy else e.sx
  let d := if e.op = 1 then (if rows then e.dy else e.dx) else 1
  let p := if e.padMode = 1 then samePad size k s d else if rows then (e.padT, e.padB) else (e.padL, e.padR)
  ⟨size, k, s, d, p.1, p.2⟩

/-- The output rows and columns of a layer, as integers before R226. MATMUL gives M rows of N. -/
def LayerEntry.outSize (e : LayerEntry) : Int × Int :=
  match e.op with
  | 1 | 2 | 3 => ((e.axis true).out, (e.axis false).out)
  | 4 => (1, 1)
  | 5 => ((e.inH : Nat), (e.outC : Nat))
  | 8 => ((e.inH * upFactor (e.param / 4 % 4) : Nat), (e.inW * upFactor (e.param % 4) : Nat))
  | _ => ((e.inH : Nat), (e.inW : Nat))

/-- The channel planes of the output. -/
def LayerEntry.planes (e : LayerEntry) : Nat := match e.op with | 1 => e.outC | 5 => 1 | _ => e.inC

/-- The records of the conversion table (R222): one per output channel, for MATMUL per output column. -/
def LayerEntry.convChannels (e : LayerEntry) : Nat := if e.op = 5 then e.outC else e.planes

/-- Whether a layer is a builder. -/
def LayerEntry.builder (e : LayerEntry) : Bool := decide (16 ≤ e.op)

/-- Whether a layer is empty by its own shape (R226). -/
def LayerEntry.emptyShape (e : LayerEntry) : Bool :=
  decide (e.inC = 0) || decide (e.inH = 0) || decide (e.inW = 0) || decide (e.outSize.1 ≤ 0) || decide (e.outSize.2 ≤ 0) || decide (e.planes = 0)

/-- The layer of a plan with a number. -/
def PlanSlot.layerNum (x : PlanSlot) (n : Nat) : Option LayerEntry := if n = 0xFFFF then none else x.layers.find? (fun e => e.number == n)

/-- Whether a layer is empty, its inputs included (R226), following at most `fuel` layers back. -/
def PlanSlot.isEmpty (x : PlanSlot) : Nat → LayerEntry → Bool
  | 0, e => !e.builder && e.emptyShape
  | fuel + 1, e =>
    if e.builder then false
    else e.emptyShape || (match x.layerNum e.inLayer with | some p => x.isEmpty fuel p | none => false) ||
      (match x.layerNum e.inLayer2 with | some p => x.isEmpty fuel p | none => false)

/-- Whether the layer accumulates integers (R216). -/
def LayerEntry.integer (e : LayerEntry) : Bool := (fmtFloat e.inFormat).isNone

/-- The lanes of a unit that the layer uses (R217). -/
def LayerEntry.lanes (e : LayerEntry) : Nat :=
  if fmtWide e.inFormat || ((e.op == 1 || e.op == 5) && fmtWide e.weightFormat) || (e.op == 6 && fmtWide e.inFormat2) then 32 else 64

/-! ### Tiles (R217) -/

/-- What a tile covers: rows, columns and channels of the output. -/
structure TileSpan where
  row : Nat
  rows : Nat
  col : Nat
  cols : Nat
  chan : Nat
  chans : Nat
  deriving DecidableEq, Repr

/-- The channel blocks of a layer: groups of CONV each in blocks of the lanes; single channels in position mapping. -/
def LayerEntry.chanBlocks (e : LayerEntry) : List (Nat × Nat) :=
  let blocks (base n w : Nat) : List (Nat × Nat) := (List.range (ceilDiv n w)).map (fun i => (base + i * w, min w (n - i * w)))
  if e.op = 1 ∧ e.mapping = 0 then
    let per := e.outC / e.groups
    (List.range e.groups).flatMap (fun g => blocks (g * per) per e.lanes)
  else blocks 0 e.planes 1

/-- The tiles of a stripe in raster order: rows, then column blocks, then channel blocks. In MATMUL a tile takes up to 64 rows of A and a
block of columns. -/
def LayerEntry.tiles (e : LayerEntry) (t : Stripe) : List TileSpan :=
  let w := e.outSize.2.toNat
  if e.op = 5 then
    (List.range (ceilDiv t.rows 64)).flatMap (fun r =>
      (List.range (ceilDiv w e.lanes)).map (fun b =>
        ⟨t.firstRow + 64 * r, min 64 (t.rows - 64 * r), b * e.lanes, min e.lanes (w - b * e.lanes), 0, 1⟩))
  else
    let block := if e.mapping = 0 then 64 else e.lanes
    (List.range t.rows).flatMap (fun r =>
      (List.range (ceilDiv w block)).flatMap (fun b =>
        e.chanBlocks.map (fun c => ⟨t.firstRow + r, 1, b * block, min block (w - b * block), c.1, c.2⟩)))

/-- The input rows that output rows [r, r + n) read, clipped to the input (R236). -/
def LayerEntry.inputRows (e : LayerEntry) (r n : Nat) : List Nat :=
  if n = 0 then []
  else match e.op with
  | 1 | 2 | 3 =>
    let a := e.axis true
    let lo := (r : Int) * a.s - a.pa
    let hi := ((r + n - 1 : Nat) : Int) * a.s - a.pa + a.keff - 1
    let lo := max 0 lo
    let hi := min hi ((e.inH : Int) - 1)
    let read (y : Nat) : Bool := (List.range n).any (fun i =>
      let d := (y : Int) + a.pa - ((r + i : Nat) : Int) * a.s
      decide (0 ≤ d) && decide (d < a.keff) && d % a.d == 0)
    let edge : Bool := e.padMode == 2 && (e.op == 1 || (e.op == 3 && e.param % 2 == 1))
    (upFrom lo.toNat (hi + 1 - lo).toNat).filter (fun y => read y || (edge && (y == 0 || y + 1 == e.inH)))
  | 4 => List.range e.inH
  | 8 => ((upFrom r n).map (fun y => y / upFactor (e.param / 4 % 4))).eraseDups
  | _ => upFrom r n

/-! ### Operands in the scratchpad -/

/-- Where input rows of a cluster lie: the first row, the rows of a plane, the base address. -/
structure Block where
  first : Nat
  rows : Nat
  base : Nat
  deriving DecidableEq, Repr

/-- The address of row `y` of channel `ch` in a block. -/
def Block.addr (b : Block) (pitch ch y : Nat) : Nat := b.base + (ch * b.rows + (y - b.first)) * pitch

/-- The stripe of a layer on cluster `c`. -/
def LayerEntry.stripeOn (e : LayerEntry) (c : Nat) : Option (Nat × Stripe) := (e.stripes.zipIdx.find? (fun t => t.1.cluster == c)).map (fun t => (t.2, t.1))

/-- The buffer of a builder's kept window `n` in a stripe: its two addresses alternate. -/
def buildBase (t : Stripe) (n : Nat) : Nat := if n % 2 = 0 then t.input else t.output

/-- Where cluster `c` holds the rows of a layer's first input for its run `run`: the rows of the producing layer's stripe there, else the
rows that the stripe reads and no halo record brings (R236). -/
def PlanSlot.inBlock (x : PlanSlot) (e : LayerEntry) (c run : Nat) (t : Stripe) : Block :=
  match (x.layerNum e.inLayer).bind (fun p => (p.stripeOn c).map (fun z => (p, z.2))) with
  | some (p, z) => ⟨z.firstRow, z.rows, if p.builder then buildBase z run else t.input⟩
  | none =>
    let own := (e.inputRows t.firstRow t.rows).filter (fun y => !e.halos.any (fun h => h.consumer == c && h.row == y))
    let first := own.headD 0
    ⟨first, own.getLastD 0 + 1 - first, t.input⟩

/-- Where the rows of the second input lie (ELTWISE): the producing layer's output on the cluster, else behind the first input. -/
def PlanSlot.inBlock2 (x : PlanSlot) (e : LayerEntry) (c run : Nat) (t : Stripe) : Block :=
  let bcast := bitAt e.param 7
  match (x.layerNum e.inLayer2).bind (fun p => (p.stripeOn c).map (fun z => (p, z.2))) with
  | some (p, z) => ⟨z.firstRow, z.rows, if p.builder then buildBase z run else z.output⟩
  | none =>
    let b := x.inBlock e c run t
    ⟨if bcast then 0 else t.firstRow, if bcast then 1 else t.rows, b.base + e.inC * b.rows * rowPitch e.inW e.inFormat⟩

/-- What a row port reads: a value, the integer of it that enters a residue (R268), the 64-bit word that gave it with Poison, the address of an access
that was refused. -/
structure Read where
  v : FVal
  sig : Int := 0
  bad : Option Nat := none
  refused : Option Nat := none
  deriving DecidableEq, Repr

/-- Element `i` of a row at an address, read through the row port of unit `u` (R218, R281, R283). -/
def State.rowElem (s : State) (c u fmt addr i : Nat) : Read :=
  let b := fmtBits fmt
  let a := addr + i * b / 8
  let n := if b < 8 then 1 else b / 8
  if s.dev.padAllowed c u (a / 16 * 16) 16 false then
    let x := if b < 8 then leAt (s.mem.padRead c a 1) 0 1 / 2 ^ (i * b % 8) % 2 ^ b else ofLe (s.mem.padRead c a n)
    ⟨elemVal fmt x, elemSig fmt x, if s.mem.padPoisoned c a n then some (a / 8 * 8) else none, none⟩
  else ⟨elemVal fmt 0, elemSig fmt 0, none, some (a / 16 * 16)⟩

/-- Everything that the operands of a tile need. -/
structure TileEnv where
  e : LayerEntry
  c : Nat
  u : Nat
  t : Stripe
  b : Block
  b2 : Block
  weights : List Byte
  deriving DecidableEq, Repr

/-- The address of the row `y` of channel `ch` of the first input: a halo buffer, else the cluster's own rows (R236). -/
def TileEnv.inRow (v : TileEnv) (ch y : Nat) : Nat :=
  let pitch := rowPitch v.e.inW v.e.inFormat
  match v.e.halos.find? (fun h => h.consumer == v.c && h.row == y) with
  | some h => h.buffer + ch * pitch
  | none => v.b.addr pitch ch y

/-- An element of the first input. [log 63 DEDUCED] -/
def State.input (s : State) (v : TileEnv) (ch y x : Nat) : Read := s.rowElem v.c v.u v.e.inFormat (v.inRow ch y) x

/-- An element of the first input at padded coordinates (R225): zero or the nearest edge element; none where POOL_MAX and POOL_AVG see padding. -/
def State.tap (s : State) (v : TileEnv) (ch : Nat) (y x : Int) : Option Read :=
  let inside : Bool := decide (0 ≤ y) && decide (y < (v.e.inH : Nat)) && decide (0 ≤ x) && decide (x < (v.e.inW : Nat))
  if inside then some (s.input v ch y.toNat x.toNat)
  else if v.e.padMode = 2 then
    some (s.input v ch (clampI 0 ((v.e.inH : Int) - 1) y).toNat (clampI 0 ((v.e.inW : Int) - 1) x).toNat)
  else none

/-- Weight `k` of output channel `co`, of a reduction of `r` (R215, R253, R358), with its integer in a residue (R268): one row per output channel; MATMUL's B
by rows of K, or transposed. -/
def TileEnv.weight (v : TileEnv) (r co k : Nat) : FVal × Int :=
  let f := v.e.weightFormat
  if f = 12 ∨ f = 13 then
    let nb := ceilDiv r 32
    let el := if f = 12 then 16 else 32
    let pitch := ceilDiv ((el + 1) * nb) 16 * 16
    let row := co * pitch
    let sc := leAt v.weights (row + nb * el + k / 32) 1
    let i : Int := if f = 12 then signed 4 (leAt v.weights (row + k / 2) 1 / 2 ^ (4 * (k % 2))) else signed 8 (leAt v.weights (row + k) 1)
    (if sc = 255 then .nan else .fin (decide (i < 0)) ((i : Rat) * pow2 ((sc : Int) - 127)), i)
  else
    let x := if v.e.op = 5 ∧ v.e.param % 2 = 0 then elemBits f (v.weights.drop (k * rowPitch v.e.outC f)) co
      else elemBits f (v.weights.drop (co * rowPitch r f)) k
    (elemVal f x, elemSig f x)

/-- A read operand multiplied by a weight. -/
def Read.times (r : Read) (w : FVal × Int) : Read := { r with v := r.v.mul w.1, sig := r.sig * w.2 }

/-- The terms of one output element of CONV (R221), reduction order ci, kh, kw; padding is a zero, and multiplied as one (R225, R260). [log 63 DEDUCED] -/
def State.convTerms (s : State) (v : TileEnv) (co oy ox : Nat) : List Read :=
  let e := v.e
  let per := e.inC / e.groups
  let g := co / (e.outC / e.groups)
  let ay := e.axis true
  let ax := e.axis false
  (List.range per).flatMap (fun (ci : Nat) => (List.range e.kh).flatMap (fun (ky : Nat) => (List.range e.kw).map (fun (kx : Nat) =>
    let r := (s.tap v (g * per + ci) ((oy : Int) * ay.s - ay.pa + ky * ay.d) ((ox : Int) * ax.s - ax.pa + kx * ax.d)).getD ⟨.fin false 0, 0, none, none⟩
    r.times (v.weight (per * e.kh * e.kw) co ((ci * e.kh + ky) * e.kw + kx)))))

/-- The taps of a pooling window (R221): those in the image, and with `pads` also those of padding that has a value of its own, the nearest edge
element (R225). [log 64 DESIGN CHOICE] -/
def State.poolTaps (s : State) (v : TileEnv) (pads : Bool) (ch oy ox : Nat) : List Read :=
  let e := v.e
  let ay := e.axis true
  let ax := e.axis false
  (List.range e.kh).flatMap (fun (ky : Nat) => (List.range e.kw).filterMap (fun (kx : Nat) =>
    let y : Int := (oy : Int) * ay.s - ay.pa + ky
    let x : Int := (ox : Int) * ax.s - ax.pa + kx
    if pads || (decide (0 ≤ y) && decide (y < (e.inH : Nat)) && decide (0 ≤ x) && decide (x < (e.inW : Nat))) then s.tap v ch y x else none))

/-- The greater of two values; a NaN stays. -/
def FVal.max2 (a b : FVal) : FVal := match a, b with | .nan, _ => .nan | _, .nan => .nan | a, b => if a.le b then b else a

/-- A sum divided by a number of taps. -/
def FVal.over (a : FVal) (n : Nat) : FVal := match a with | .fin s r => .fin s (r / (n : Rat)) | v => v

/-- The second input of ELTWISE: the first's shape, or C × 1 × 1 broadcast. -/
def State.input2 (s : State) (v : TileEnv) (ch y x : Nat) : Read :=
  let bcast := bitAt v.e.param 7
  let w := if bcast then 1 else v.e.inW
  s.rowElem v.c v.u v.e.inFormat2 (v.b2.addr (rowPitch w v.e.inFormat2) ch (if bcast then v.b2.first else y)) (if bcast then 0 else x)

/-- Record `i` of an integer conversion table (R358): Bias, Mult, Shift; the identity where the layer names no table. -/
def convRecord (tab : List Byte) (i : Nat) : Int × Nat × Nat :=
  if tab = [] then (0, 1, 0) else (signed 32 (leAt tab (8 * i) 4), leAt tab (8 * i + 4) 2, leAt tab (8 * i + 6) 1)

/-- A value rescaled by Mult and Shift (R222). -/
def rescale (m : Round) (r : Int × Nat × Nat) (x : Rat) : Int := roundInt m ((x + (r.1 : Rat)) * (r.2.1 : Rat) / ((2 ^ r.2.2 : Nat) : Rat))

/-- The operation of ELTWISE on two values (R362). -/
def eltOp (op : Nat) (a b : FVal) : FVal :=
  match op with
  | 0 => a.add b
  | 1 => a.add b.neg
  | 2 => a.mul b
  | 3 => a.max2 b
  | _ => (a.neg.max2 b.neg).neg

/-- The integers of ELTWISE's result that enter the residue of its accumulator (R268). [log 61 DEDUCED] -/
def eltSigs (int : Bool) (op : Nat) (a b : Read) (r : FVal) : List Int :=
  if int then [r.rat.floor]
  else match op with
  | 0 => [a.sig, b.sig]
  | 1 => [a.sig, -b.sig]
  | 2 => [a.sig * b.sig]
  | _ => [if r = a.v then a.sig else b.sig]

/-- An accumulator as it stands at its drain: its value, the integer and the residue that R269 compares, the words read with Poison, and the accesses that
were refused. -/
structure TileAcc where
  v : FVal
  check : ResAcc
  bads : List Nat
  refused : List Nat
  deriving DecidableEq, Repr

/-- An accumulator with a value over the terms that reads gave. -/
def accFrom (int : Bool) (v : FVal) (sigs : List Int) (rs : List Read) : TileAcc :=
  ⟨v, residueOver int sigs, (rs.filterMap (fun r => r.bad)).eraseDups, (rs.filterMap (fun r => r.refused)).eraseDups⟩

/-- The accumulator of an output element (R221, R258 to R260). `free` stands for the value of a window with no tap in the image. [log 64 DESIGN CHOICE] -/
def State.accOf (s : State) (v : TileEnv) (tab : List Byte) (m : Round) (free : Nat) (co oy ox : Nat) : TileAcc :=
  let e := v.e
  let int := e.integer
  let openV : FVal := elemVal e.inFormat (free % 2 ^ fmtBits e.inFormat)
  let sum (ts : List Read) (n : Nat) : TileAcc :=
    accFrom int (if n = 0 then openV else if n = 1 then accumulate int (ts.map (·.v)) else (accumulate int (ts.map (·.v))).over n) (ts.map (·.sig)) ts
  match e.op with
  | 1 => sum (s.convTerms v co oy ox) 1
  | 2 =>
    let ts := s.poolTaps v false co oy ox
    match ts with
    | [] => accFrom int openV [] []
    | a :: as =>
      let top := as.foldl (fun (b : Read) r => if b.v.max2 r.v = b.v then b else r) a
      accFrom int ((as.map (·.v)).foldl FVal.max2 a.v) [top.sig] ts
  | 3 =>
    let ts := s.poolTaps v (e.param % 2 == 1 && e.padMode == 2) co oy ox
    sum ts (if e.param % 2 = 1 then e.kh * e.kw else ts.length)
  | 4 => sum ((List.range e.inH).flatMap (fun y => (List.range e.inW).map (fun x => s.input v co y x))) (e.inH * e.inW)
  | 5 => sum ((List.range e.inW).map (fun k => (s.input v 0 oy k).times (v.weight e.inW ox k))) 1
  | 6 =>
    let a := s.input v co oy ox
    let b := s.input2 v co oy ox
    let scale (x : FVal) (k : Nat) : FVal := if int then .fin false ((clampI (-(2 ^ 31 : Nat)) ((2 ^ 31 : Nat) - 1) (rescale m (convRecord tab (3 * co + k)) x.rat) : Int) : Rat) else x
    let r := eltOp (e.param % 8) (scale a.v 1) (scale b.v 2)
    accFrom int (accumulate int [r]) (eltSigs int (e.param % 8) a b r) [a, b]
  | 8 => sum [s.input v co (oy / upFactor (e.param / 4 % 4)) (ox / upFactor (e.param % 4))] 1
  | _ => sum [s.input v co oy ox] 1

/-! ### Drain (R222, R223, R261) -/

/-- A value formed with one rounding to binary32. -/
def single (m : Round) (v : FVal) : FVal := fp32.toVal (convFloat fp32 m v).bits

/-- The output code of an accumulator (R222, R261). `i` is the record of its output channel. [log 64 DESIGN CHOICE] -/
def drainOne (e : LayerEntry) (tab : List Byte) (m : Round) (i : Nat) (acc : FVal) : Conv :=
  let i := if e.op = 6 ∧ e.integer = true then 3 * i else i
  if (fmtFloat e.outFormat).isNone ∧ e.integer = true then
    convert e.outFormat .towardZero (.fin false ((rescale m (convRecord tab i) acc.rat : Int) : Rat))
  else
    let sc : FVal := fval (leAt tab (8 * i) 4)
    let bi : FVal := fval (leAt tab (8 * i + 4) 4)
    let y := if tab = [] then acc else (acc.mul sc).add bi
    if e.outFormat = 11 then convFloat fp32 m y else convert e.outFormat m (single .nearestEven y)

/-- The activation table applied to an output code (R223); an empty table is the identity. [log 63 DEDUCED] -/
def activate (e : LayerEntry) (table : List Byte) (m : Round) (r : Conv) : Conv :=
  if table = [] then r
  else if fmtBits e.outFormat = 8 then { r with bits := leAt table r.bits 1 }
  else match fmtFloat e.outFormat with
    | none => r
    | some f =>
      let y := (convFloat fp32 .nearestEven (f.toVal r.bits)).bits
      let lo := leAt table 0 4
      let hi := leAt table 4 4
      let i := (clampI 0 63 (ffloor (fdiv (fmul (fsub y lo) (fOfInt 64)) (fsub hi lo)))).toNat
      let z := fadd (fmul (leAt table (8 + 8 * i) 4) y) (leAt table (12 + 8 * i) 4)
      let c := convert e.outFormat m (fval z)
      { bits := c.bits, sat := r.sat || c.sat, nan := r.nan || c.nan }

/-- What a tile gives: its element codes by channel and row, with how many saturated and how many were NaN, its accumulators with their residues, the words
read with Poison, the accesses refused, and the generator after it. -/
structure TileOut where
  rows : List (Nat × Nat × List Nat) := []
  sats : Nat := 0
  nans : Nat := 0
  checks : List ResAcc := []
  bads : List Nat := []
  refused : List Nat := []
  lfsr : Nat := 0
  deriving DecidableEq, Repr

/-- One row of one channel of a tile. Under stochastic rounding a draw belongs to a lane: the channel in channel mapping, the column in position
mapping; a column of channel mapping is a cycle. -/
def State.tileRow (s : State) (v : TileEnv) (y : Layer) (tab : List Byte) (free : Nat) (sp : TileSpan) (cycles : List Nat) (ch row : Nat) (o : TileOut) : TileOut :=
  let e := v.e
  let step := if e.lanes = 32 then 2 else 1
  let elems := (List.range sp.cols).map (fun i =>
    let col := sp.col + i
    let lane := if e.op = 5 then i else if e.mapping = 0 then ch - sp.chan else i
    let cyc := if e.op = 5 then row - sp.row else if e.mapping = 0 then i else 0
    let m := roundMode y.rounding (laneDraw (cycles.getD cyc 0) (lane * step))
    let a := s.accOf v tab m free ch row col
    (activate e y.table m (drainOne e tab m (if e.op = 5 then col else ch) a.v), a))
  { o with rows := o.rows ++ [(ch, row, elems.map (fun z => z.1.bits))],
           sats := o.sats + (elems.filter (fun z => z.1.sat)).length,
           nans := o.nans + (elems.filter (fun z => z.1.nan)).length,
           checks := o.checks ++ elems.map (fun z => z.2.check),
           bads := (o.bads ++ elems.flatMap (fun z => z.2.bads)).eraseDups,
           refused := (o.refused ++ elems.flatMap (fun z => z.2.refused)).eraseDups }

/-- Whether the residue of one of a tile's accumulators does not match (R269): `upset` where the residue store has suffered a fault, in the first of
them. [log 61 DEDUCED] -/
def TileOut.mismatch (o : TileOut) (upset : Bool) : Bool := o.checks.zipIdx.any (fun z => !z.1.agrees (b2n (upset && z.2 == 0)))

/-- The draws of `n` cycles of a generator: the register after them, and the bits of each. [log 62 DEDUCED] -/
def lfsrCycles : Nat → Nat → Nat × List Nat
  | 0, r => (r, [])
  | n + 1, r => let a := lfsrCycle r; let b := lfsrCycles n a.1; (b.1, a.2 :: b.2)

/-- A whole tile. [log 62 DEDUCED] -/
def State.tileOut (s : State) (v : TileEnv) (y : Layer) (tab : List Byte) (free : Nat) (sp : TileSpan) (lfsr : Nat) : TileOut :=
  let cyc := if y.rounding = 2 then lfsrCycles (if v.e.op = 5 then sp.rows else if v.e.mapping = 0 then sp.cols else 1) lfsr else (lfsr, [])
  let cells := (upFrom sp.row sp.rows).flatMap (fun r => (upFrom sp.chan sp.chans).map (fun c => (c, r)))
  cells.foldl (fun o z => s.tileRow v y tab free sp cyc.2 z.1 z.2 o) { lfsr := cyc.1 }

end Sys2Proof.Machine
end

