-- ==== Sys2Proof/Machine/BasinCore.lean ====
section
/-! DEFINITION. Basin mode (R215 to R246): runs of a layer, issue and drain of its tiles, empty layers, and the builders' windows. -/

namespace Sys2Proof.Machine

open Sys2Proof

/-! ### Layers -/

/-- The plan's entry of layer `l`. -/
def Dev.layerEntry (s : Dev) (l : Nat) : Option LayerEntry := (s.plan (s.layer l).slot).layers[(s.layer l).entry]?

/-- Whether layer `l` runs (R245). -/
def Dev.layerRuns (s : Dev) (l : Nat) : Bool := s.getF (Obj.layerState l) 0 2 == 2

/-- The handle of a plan's layer number. -/
def PlanSlot.layerHandle (x : PlanSlot) (n : Nat) : Option Nat := ((x.layers.zip x.layerHandles).find? (fun q => q.1.number == n)).map (·.2)

/-- The handles of the running layers that read the output of layer number `n`, empty ones left out. [log 65 DEDUCED] -/
def Dev.readersOf (s : Dev) (p n : Nat) : List Nat :=
  let x := s.plan p
  ((x.layers.zip x.layerHandles).filter (fun q =>
    (q.1.inLayer == n || (q.1.op == 6 && q.1.inLayer2 == n)) && s.layerRuns q.2 && !x.isEmpty 256 q.1)).map (·.2)

/-- The inputs of a layer: the numbers of the layers that produce them. -/
def LayerEntry.inputs (e : LayerEntry) : List Nat := (if e.op = 6 then [e.inLayer, e.inLayer2] else [e.inLayer]).filter (fun n => n != 0xFFFF)

/-! ### Readiness (R238) -/

/-- Whether a halo row is present in run `run`: the fill weir's count covers its position (R237, R238). -/
def Dev.haloPresent (s : Dev) (e : LayerEntry) (h : Halo) (run : Nat) : Bool :=
  let w := s.weir h.fillWeir
  let n := (e.halos.filter (fun g => g.consumer == h.consumer && g.fillWeir == h.fillWeir)).length
  decide (((h.position + (if w.rearm then 0 else run * n) : Nat) : Int) < w.diff)

/-- Whether the producer number `n` has row `y` ready on cluster `c` for run `run`: drained there in its present run, or in a run completed. [log 65 DEDUCED] -/
def Dev.producerReady (s : Dev) (p n c y run : Nat) : Bool :=
  let x := s.plan p
  match x.layerNum n, x.layerHandle n with
  | some e, some l =>
    let z := s.layer l
    if e.builder then decide (run < z.build.closed)
    else if run < z.runs then true
    else match e.stripeOn c with
      | some (i, t) => z.runs == run && ((e.tiles t).zipIdx.filter (fun q => decide (q.1.row ≤ y) && decide (y < q.1.row + q.1.rows))).all
          (fun q => z.drained.contains (i * 2 ^ 20 + q.2))
      | none => false
  | _, _ => false

/-- Whether row `y` of the first input of layer `e` is present on cluster `c` for run `run`. -/
def Dev.rowPresent (s : Dev) (p : Nat) (e : LayerEntry) (c y run : Nat) : Bool :=
  match e.halos.find? (fun h => h.consumer == c && h.row == y) with
  | some h => s.haloPresent e h run
  | none => if e.inLayer = 0xFFFF then decide (run = 0) else s.producerReady p e.inLayer c y run

/-- Whether every row that a tile reads is present, and its output may be overwritten: the readers of the last run are done with it. [log 65 DEDUCED] -/
def Dev.tileReady (s : Dev) (l : Nat) (e : LayerEntry) (c : Nat) (sp : TileSpan) : Bool :=
  let p := (s.layer l).slot
  let run := (s.layer l).runs
  (e.inputRows sp.row sp.rows).all (fun y => s.rowPresent p e c y run) &&
    (e.op != 6 || e.inLayer2 == 0xFFFF || (upFrom sp.row sp.rows).all (fun y => s.producerReady p e.inLayer2 c (if bitAt e.param 7 then 0 else y) run)) &&
    (s.readersOf p e.number).all (fun r => decide (run ≤ (s.layer r).runs))

/-- The fill weir on which a tile is held (R238, R245): that of the first of its halo rows that is not present. -/
def Dev.heldWeir (s : Dev) (l : Nat) (e : LayerEntry) (c : Nat) (sp : TileSpan) : Option Nat :=
  let rows := e.inputRows sp.row sp.rows
  (e.halos.find? (fun h => h.consumer == c && rows.contains h.row && !s.haloPresent e h (s.layer l).runs)).map (·.fillWeir)

/-- The next 64 unissued tiles of a stripe in raster order (R238). -/
def Dev.tileWindow (s : Dev) (l : Nat) (e : LayerEntry) (i : Nat) (t : Stripe) : List (TileSpan × Nat) :=
  let z := s.layer l
  ((e.tiles t).zipIdx.filter (fun q => !z.drained.contains (i * 2 ^ 20 + q.2) && !z.tiles.any (fun w => w.stripe == i && w.tile == q.2))).take 64

/-- The window of cluster `c` of a layer. -/
def Dev.clusterWindow (s : Dev) (l : Nat) (e : LayerEntry) (c : Nat) : List (TileSpan × Nat) :=
  match e.stripeOn c with
  | some (i, t) => s.tileWindow l e i t
  | none => []

/-- The fill weir on which every tile in the window of cluster `c` is held (R246), the first tile's; none where some tile is not held, or there is none. -/
def Dev.windowHeld (s : Dev) (l : Nat) (e : LayerEntry) (c : Nat) : Option Nat :=
  let w := s.clusterWindow l e c
  if w.all (fun q => (s.heldWeir l e c q.1).isSome) then w.head?.bind (fun q => s.heldWeir l e c q.1) else none

/-- HaloWaiting of a running layer (R245): a tile in some cluster's window is held on a fill weir. -/
def Dev.haloWaiting (s : Dev) (l : Nat) : Bool :=
  match s.layerEntry l with
  | none => false
  | some e => s.layerRuns l && e.stripes.any (fun t => (s.clusterWindow l e t.cluster).any (fun q => (s.heldWeir l e t.cluster q.1).isSome))

/-- Unit `g` of layer `l` stands idle at a fill weir, `w` some, or does not (R246): the wait there is one of its steward core (R240, R367). -/
def Dev.haloSet (s : Dev) (l g : Nat) (w : Option Nat) : Dev :=
  let s := s.haloSettle l
  match w with
  | none => s.updLayer l (fun z => { z with halo := z.halo.filter (fun h => h.unit != g) })
  | some weir =>
    if (s.layer l).halo.any (fun h => h.unit == g) then s
    else s.updLayer l (fun z => { z with halo := z.halo ++ [⟨g, weir, s.rf, s.stallLimit (.steward (Fin.ofNat 128 (g / 16)))⟩] })

/-- Unit `g`, which takes a tile of layer `l`, has stood idle for `ns` waiting on a ferry transfer to or from GDDR6 (R246): at most since its last tile
drained, or the phase began. [log 44 DESIGN CHOICE] -/
def Dev.gddrStall (s : Dev) (l g ns : Nat) : Dev :=
  let z := s.layer l
  let n := z.gddrNs + min ns (s.rf - max (Tab.get 0 s.unitF g) (s.plan z.slot).phaseF)
  (s.bumpBy (layerCtr l 3) (n / 1000)).updLayer l (fun z => { z with gddrNs := n % 1000 })

/-! ### Runs -/

/-- The completion weir of a layer takes `n` from cluster `c` (R235, R226). -/
def Dev.complete (s : Dev) (e : LayerEntry) (c n : Nat) (empty : Bool) : Dev := s.weirAdd (.cluster (Fin.ofNat 128 c)) e.weir n empty

/-- The empty stripes of a layer that is not empty count as complete at the start of a run (R235). -/
def Dev.emptyStripes (s : Dev) (l : Nat) (e : LayerEntry) : Dev :=
  let ts := e.stripes.filter (fun t => t.rows == 0)
  ts.foldl (fun s t => s.complete e t.cluster 1 false) (s.setF (Obj.layerState l) 16 8 ts.length)

/-- A run begins with its first tile: the parameters are those of its start (R223, R244), and empty stripes count as complete (R235), which those of the
first run have done as the layer started. [log 65 DEDUCED] -/
def Dev.runStart (s : Dev) (l : Nat) (e : LayerEntry) : Dev :=
  if (s.layer l).started then s
  else
    let s := if (s.layer l).runs = 0 then s else s.emptyStripes l e
    let s := s.updLayer l (fun z => { z with started := true, drained := [], rounding := s.rd (Obj.roundingMode l), table := s.blob (Obj.activationTable l) })
    s.setBit (Obj.layerState l) 2 false

/-- A builder's buffer of kept window `n` is read by one layer less (R233). -/
def Dev.buildRelease (s : Dev) (l n : Nat) : Dev :=
  let s := s.updLayer l (fun z => { z with build :=
    if n % 2 = 0 then { z.build with held0 := z.build.held0 - 1 } else { z.build with held1 := z.build.held1 - 1 } })
  let b := (s.layer l).build
  s.setBit (Obj.layerState l) 5 (b.held0 != 0 && b.held1 != 0)

/-- A run ends: the buffers of the builders it read are released (R233). -/
def Dev.runEnd (s : Dev) (l : Nat) (e : LayerEntry) : Dev :=
  let run := (s.layer l).runs
  let x := s.plan (s.layer l).slot
  let s := (s.updLayer l (fun z => { z with started := false, drained := [], runs := run + 1 })).bump (layerCtr l 0)
  e.inputs.eraseDups.foldl (fun s n =>
    match x.layerNum n, x.layerHandle n with
    | some p, some h => if p.builder then s.buildRelease h run else s
    | _, _ => s) s

/-- An empty run (R226): the whole completion count at once, with the empty mark. -/
def Dev.emptyRun (s : Dev) (l : Nat) (e : LayerEntry) : Dev :=
  let s := match e.stripes with
    | [] => s
    | t :: _ => s.complete e t.cluster e.stripes.length true
  ((s.setBit (Obj.layerState l) 2 true).bump (layerCtr l 1)).updLayer l (fun z => { z with runs := z.runs + 1 })

/-- Whether a layer reads, at some distance, a builder's output. -/
def PlanSlot.fedByBuilder (x : PlanSlot) : Nat → LayerEntry → Bool
  | 0, _ => false
  | fuel + 1, e => e.inputs.any (fun n => match x.layerNum n with | some p => p.builder || x.fedByBuilder fuel p | none => false)

/-- The empty layers of a plan that no builder feeds run once, with the phase. -/
def Dev.emptyAtStart (s : Dev) (p : Nat) : Dev :=
  let x := s.plan p
  (x.layers.zip x.layerHandles).foldl (fun s q =>
    if s.layerRuns q.2 && x.isEmpty 256 q.1 && !x.fedByBuilder 256 q.1 then s.emptyRun q.2 q.1 else s) s

/-- The empty layers that the builder number `n` feeds run with each of its windows. -/
def Dev.emptyAtWindow (s : Dev) (p n : Nat) : Dev :=
  let x := s.plan p
  let feeds : Nat → LayerEntry → Bool := fun fuel e =>
    (List.range fuel).foldl (fun (ns : List Nat) _ => ns ++ (x.layers.filter (fun q => q.inputs.any ns.contains && !ns.contains q.number)).map (·.number)) [n]
      |>.contains e.number
  (x.layers.zip x.layerHandles).foldl (fun s q =>
    if s.layerRuns q.2 && q.1.number != n && x.isEmpty 256 q.1 && feeds 256 q.1 then s.emptyRun q.2 q.1 else s) s

/-! ### Issue (R238) -/

/-- Whether unit `u` of cluster `c` has a tile in progress. -/
def Dev.unitBusy (s : Dev) (c u : Nat) : Bool := s.layers.any (fun x => x.2.tiles.any (fun t => t.cluster == c && t.unit == u))

/-- The steward core of cluster `c` issues the first ready tile of layer `l` in its window to the free unit `u`, which has waited `gddr` ns on GDDR6. -/
def Dev.tileIssue (s : Dev) (l c u gddr : Nat) : Dev :=
  match s.layerEntry l with
  | none => s
  | some e =>
    match e.stripeOn c with
    | none => s
    | some (i, t) =>
      if !s.layerRuns l || !s.basinMode c || e.builder || (s.plan (s.layer l).slot).isEmpty 256 e || s.unitBusy c u || !s.unitWorks (c * 16 + u) then s
      else
        let s := s.haloSet l (c * 16 + u) (s.windowHeld l e c)
        match (s.tileWindow l e i t).find? (fun q => s.tileReady l e c q.1) with
        | none => s
        | some q => ((s.gddrStall l (c * 16 + u) gddr).runStart l e).updLayer l (fun z => { z with tiles := z.tiles ++ [⟨c, u, i, q.2⟩] })

/-! ### Drain (R222, R235, R239) -/

/-- Sixteenths of a multiply-accumulate per lane and handshake (R256, R257). [log 63 DEDUCED] -/
def workOf (code : Nat) : Nat :=
  match code with
  | 0 => 256
  | 1 => 64
  | 2 | 12 => 32
  | 5 => 4
  | 6 => 1
  | 9 | 10 => 8
  | 11 => 2
  | _ => 16

/-- The work of a pair (R257). [log 63 DEDUCED] -/
def pairWork (a b : Nat) : Nat :=
  if a = 0 ∧ b ≠ 0 ∧ b < 7 then min 16 (workOf b) else if b = 0 ∧ a ≠ 0 ∧ a < 7 then min 16 (workOf a) else min (workOf a) (workOf b)

/-- The handshake cycles of a tile (R219, R220). -/
def LayerEntry.cost (e : LayerEntry) (sp : TileSpan) : Nat :=
  let w := pairWork e.inFormat e.weightFormat
  let seg (n : Nat) : Nat := ceilDiv (n * fmtBits e.inFormat) 128
  match e.op with
  | 1 =>
    let per := e.inC / e.groups
    if e.mapping = 0 then ceilDiv (per * e.kh * e.kw * 16) w * max sp.cols 4 + 16
    else per * e.kh * (ceilDiv (e.kw * 16) w + seg ((sp.cols - 1) * e.sx + (e.kw - 1) * e.dx + 1) + 1)
  | 2 | 3 => e.kh * (e.kw + seg ((sp.cols - 1) * e.sx + e.kw) + 1)
  | 4 => e.inH * (e.inW + seg e.inW + 1)
  | 5 => ceilDiv (e.inW * 16) w * max sp.rows 4 + 16
  | 6 => seg sp.cols + ceilDiv (sp.cols * fmtBits e.inFormat2) 128 + 2
  | 8 => let f := upFactor (e.param % 4); seg ((sp.col + sp.cols - 1) / f + 1 - sp.col / f) + 2
  | _ => seg sp.cols + 2

/-- Bytes written through the row port of unit `u`, 16 bytes an access (R218): an access that no window allows is discarded (R281, R283). -/
def State.portWrite (s : State) (c u a : Nat) (bs : List Byte) (bad : Bool) : State :=
  loop ((a + bs.length + 15) / 16 - a / 16) (fun i s =>
    let k := a / 16 + i
    let lo := max a (k * 16)
    let hi := min (a + bs.length) (k * 16 + 16)
    if s.dev.padAllowed c u (k * 16) 16 true then { s with mem := s.mem.padWrite c lo ((bs.drop (lo - a)).take (hi - lo)) bad }
    else { s with dev := s.dev.padViolation c u (k * 16) }) s

/-- A row segment of a tile written to the stripe's output (R215): through the unit's row port, zeros up to the pitch behind the last column. -/
def State.writeRow (s : State) (v : TileEnv) (sp : TileSpan) (bad : Bool) (z : Nat × Nat × List Nat) : State :=
  let e := v.e
  let w := e.outSize.2.toNat
  let pitch := rowPitch w e.outFormat
  let row := v.t.output + (z.1 * v.t.rows + (z.2.1 - v.t.firstRow)) * pitch
  let at_ := sp.col * fmtBits e.outFormat / 8
  let bs := packRow e.outFormat z.2.2
  let bs := if w ≤ sp.col + sp.cols then bs ++ zeros (pitch - (at_ + bs.length)) else bs
  s.portWrite v.c v.u (row + at_) bs bad

/-- The environment of a tile. -/
def Dev.tileEnv (s : Dev) (l : Nat) (e : LayerEntry) (c u : Nat) (t : Stripe) : TileEnv :=
  let x := s.plan (s.layer l).slot
  let run := (s.layer l).runs
  ⟨e, c, u, t, x.inBlock e c run t, x.inBlock2 e c run t, s.blobOf (s.layer l).slot e.weights⟩

/-- The free weirs of halo rows that the drained tile was the last to read (R239). -/
def Dev.freeHalos (s : Dev) (l : Nat) (e : LayerEntry) (c i : Nat) (t : Stripe) (sp : TileSpan) : Dev :=
  let z := s.layer l
  let ts := (e.tiles t).zipIdx
  e.halos.foldl (fun s h =>
    if h.consumer = c ∧ h.freeWeir ≠ 0xFFFF ∧ (e.inputRows sp.row sp.rows).contains h.row = true ∧
       ts.all (fun q => !(e.inputRows q.1.row q.1.rows).contains h.row || z.drained.contains (i * 2 ^ 20 + q.2)) = true then
      s.weirAdd (.cluster (Fin.ofNat 128 c)) h.freeWeir 1 false
    else s) s

/-- Tile number `k` of stripe `i` is drained: its stripe may complete, and with it the run (R235). -/
def Dev.tileDone (s : Dev) (l : Nat) (e : LayerEntry) (c i k : Nat) (t : Stripe) : Dev :=
  let s := s.updLayer l (fun z => { z with drained := z.drained ++ [i * 2 ^ 20 + k] })
  let s := match (e.tiles t)[k]? with | some sp => s.freeHalos l e c i t sp | none => s
  let z := s.layer l
  let full (q : Stripe × Nat) : Bool := (List.range (e.tiles q.1).length).all (fun j => z.drained.contains (q.2 * 2 ^ 20 + j))
  if full (t, i) then
    let s := (s.complete e c 1 false).setF (Obj.layerState l) 16 8 (s.getF (Obj.layerState l) 16 8 + 1)
    if e.stripes.zipIdx.all full then s.runEnd l e else s
  else s

/-- What a drained tile leaves beside its rows: the words it read with Poison, the accesses refused, its counters, the unit's generator, the lane cycles. -/
def Dev.tileLeaves (s : Dev) (e : LayerEntry) (c u : Nat) (sp : TileSpan) (o : TileOut) : Dev :=
  let d := o.bads.foldl (fun (d : Dev) a => d.padUncorrectable c a) s.drawn
  let d := o.refused.foldl (fun (d : Dev) a => d.padViolation c u a) d
  let d := (d.bumpBy (Obj.saturations c) o.sats).bumpBy (Obj.naNConversions c) o.nans
  let d := { d with lfsr := Tab.put 0 d.lfsr (c * 16 + u) o.lfsr, unitF := Tab.put 0 d.unitF (c * 16 + u) d.rf }
  d.meter (Obj.basinLoad c) (64 * e.cost sp)

/-- The tile on unit `u` of cluster `c` is in progress no more. -/
def Dev.dropTile (s : Dev) (l c u : Nat) : Dev := s.updLayer l (fun z => { z with tiles := z.tiles.filter (fun t => !(t.cluster == c && t.unit == u)) })

/-- Layer `l`'s tile on unit `u` of cluster `c` drains: `upset` where the unit's residue store has suffered a fault (R269). [log 61 DEDUCED] -/
def State.tileDrain (s : State) (l c u : Nat) (upset : Bool) : State :=
  match s.dev.layerEntry l, (s.dev.layer l).tiles.find? (fun t => t.cluster == c && t.unit == u) with
  | some e, some q =>
    match e.stripes[q.stripe]? with
    | none => { s with dev := s.dev.dropTile l c u }
    | some t =>
      match (e.tiles t)[q.tile]? with
      | none => { s with dev := s.dev.dropTile l c u }
      | some sp =>
        let v := s.dev.tileEnv l e c u t
        let tab := s.dev.blobOf (s.dev.layer l).slot e.convert
        let o := s.tileOut v (s.dev.layer l) tab s.dev.open_ sp (Tab.get 0 s.dev.lfsr (c * 16 + u))
        if o.mismatch upset then { s with dev := ((s.dev.dropTile l c u).rewindUnit c).residueFault c u }
        else
          let s := o.rows.foldl (fun s z => s.writeRow v sp (!o.bads.isEmpty) z) s
          { s with dev := ((s.dev.tileLeaves e c u sp o).dropTile l c u).tileDone l e c q.stripe q.tile t }
  | _, _ => s

/-! ### Builders (R228 to R234) -/

/-- The source of a builder: a stream, or a population's handle (R244). -/
def Dev.buildStream (s : Dev) (l : Nat) : Option Nat := if s.rd (Obj.buildSource l) < 36 then some (s.rd (Obj.buildSource l)) else none

/-- The window of builder `l` that contains device time `dt` (R228). -/
def Dev.windowOf (s : Dev) (l : Nat) (dt : Int) : Int := (dt - s.rdT (Obj.buildOrigin l)) / (s.rd (Obj.buildWindow l) * 1000 : Nat)

/-- The start of window `k`. -/
def Dev.windowStart (s : Dev) (l : Nat) (k : Int) : Int := s.rdT (Obj.buildOrigin l) + k * (s.rd (Obj.buildWindow l) * 1000 : Nat)

/-- The shape of a builder's output: channels, rows, columns and format (R230 to R232). -/
def Dev.buildShape (s : Dev) (l : Nat) (e : LayerEntry) : Nat × Nat × Nat × Nat :=
  let ctl := s.rd (Obj.buildControl l)
  let q := 2 ^ field ctl 1 2
  let split := if bitAt ctl 0 then 2 else 1
  let h := s.rd (Obj.buildSource l) - 0x400
  let dims := match s.buildStream l with
    | some n => (s.rd (Obj.outputWidth n), s.rd (Obj.outputHeight n))
    | none => (s.rd (Obj.popWidth h), s.rd (Obj.popHeight h))
  match e.op with
  | 16 => (s.rd (Obj.buildBins l) * split, ceilDiv dims.2 q, ceilDiv dims.1 q, 5)
  | 17 => (split, ceilDiv dims.2 q, ceilDiv dims.1 q, 4)
  | _ =>
    let z := 2 ^ s.rd (Obj.countPool h)
    (s.rd (Obj.popChannels h), ceilDiv dims.2 z, ceilDiv dims.1 z, s.rd (Obj.countFormat h))

/-- The row port through which a builder reaches a scratchpad, whose windows are to allow it (R281): a unit's, or a ferry port for a surface, which a ferry
brings (R231). [log 132 DESIGN CHOICE] -/
def Dev.buildPort (s : Dev) (surface : Bool) (c a : Nat) : Bool :=
  (if surface then [16, 17] else List.range 16).any (fun m => s.padAllowed c m (a / 16 * 16) 16 true && s.padAllowed c m (a / 16 * 16) 16 false)

/-- An access of a builder that no window allows (R283). -/
def Dev.buildRefused (s : Dev) (surface : Bool) (c a : Nat) : Dev := s.padViolation c (if surface then 16 else 0) (a / 16 * 16)

/-- Bytes of one element that a builder writes. -/
def State.buildPut (s : State) (surface : Bool) (c a : Nat) (bs : List Byte) : State :=
  if s.dev.buildPort surface c a then { s with mem := s.mem.padPut c a bs } else { s with dev := s.dev.buildRefused surface c a }

/-- Bytes [a, a + n) of a scratchpad cleared by a builder, 16 bytes an access; a window covers whole rows of 256 bytes (R281). -/
def State.buildWipe (s : State) (surface : Bool) (c a n : Nat) : State :=
  loop ((a + n + 255) / 256 - a / 256) (fun i s =>
    let lo := max a ((a / 256 + i) * 256)
    let hi := min (a + n) ((a / 256 + i) * 256 + 256)
    if s.dev.buildPort surface c lo then
      { s with mem := { s.mem with pad := Memory.wipe s.mem.pad (padKey c lo) (padKey c lo + (hi - lo)),
                                   padBad := wipeMarks s.mem.padBad (padKey c lo / 8) ((padKey c lo + (hi - lo)) / 8) } }
    else { s with dev := loop ((hi + 15) / 16 - lo / 16) (fun j d => d.buildRefused surface c (lo / 16 * 16 + 16 * j)) s.dev }) s

/-- The greatest size of a builder's buffer on one cluster (R234): 448 KiB. -/
def buildLimit : Nat := 448 * 1024

/-- Window `n`'s buffer of each band set to zero. [log 84 DEDUCED] -/
def State.buildClear (s : State) (l : Nat) (e : LayerEntry) (n : Nat) : State :=
  let g := s.dev.buildShape l e
  e.stripes.foldl (fun s t => s.buildWipe (e.op == 17) t.cluster (buildBase t n) (min buildLimit (g.1 * t.rows * rowPitch g.2.2.1 g.2.2.2))) s

/-- The address of element (ch, y, x) of a builder's buffer: the cluster of the band that holds the row, and the byte; none beyond the buffer's limit (R234). -/
def buildAddr (e : LayerEntry) (n w fmt ch y x : Nat) : Option (Nat × Nat) :=
  (e.stripes.find? (fun t => decide (t.firstRow ≤ y) && decide (y < t.firstRow + t.rows))).bind (fun t =>
    let o := (ch * t.rows + (y - t.firstRow)) * rowPitch w fmt + x * (fmtBits fmt / 8)
    if o < buildLimit then some (t.cluster, buildBase t n + o) else none)

/-- `d` added to an INT16 element of the open window, saturating (R230), with Poison where the word carries it. -/
def State.voxelAdd (s : State) (l : Nat) (e : LayerEntry) (w ch y x : Nat) (d : Int) (poisoned : Bool) : State :=
  match buildAddr e (s.dev.layer l).build.closed w 5 ch y x with
  | none => s
  | some (c, a) =>
    let v := signed 16 (ofLe (s.mem.padRead c a 2)) + d
    let k := clampI (-32767) 32767 v
    let t := s.buildPut false c a (leBytes 2 (unsigned 16 k))
    if s.dev.buildPort false c a then
      { t with dev := if k = v then t.dev else t.dev.bump (layerCtr l 5), mem := if poisoned then t.mem.padMark c a 2 true else t.mem }
    else t

/-- A word accumulated into the open window's voxels (R230). -/
def State.voxelWord (s : State) (l : Nat) (e : LayerEntry) (x y pol : Nat) (dt : Int) (poisoned : Bool) : State :=
  let d := s.dev
  let ctl := d.rd (Obj.buildControl l)
  let q := 2 ^ field ctl 1 2
  let bins := d.rd (Obj.buildBins l)
  let w := (d.buildShape l e).2.2.1
  let delta := ((dt - d.windowStart l (d.layer l).build.window) / 250).toNat
  let n := 4 * d.rd (Obj.buildWindow l)
  let v := 256 * (bins - 1) * delta / n
  let base := if bitAt ctl 0 && pol == 1 then bins else 0
  let sign : Int := if !bitAt ctl 0 && pol == 0 then -1 else 1
  let f : Int := (v % 256 : Nat)
  let b := v / 256
  let s := s.voxelAdd l e w (base + b) (y / q) (x / q) (sign * (256 - f)) poisoned
  if 0 < f then s.voxelAdd l e w (base + b + 1) (y / q) (x / q) (sign * f) poisoned else s

/-- A cell's value on a surface tensor (R231), by the span and the decay table with which the window opened (R244). -/
def Dev.surfaceValue (s : Dev) (l tr cell : Nat) : Nat :=
  let span := (s.layer l).build.span
  let age := 4 * (cellAge tr cell).toNat
  if !cellLive tr cell || decide (span < age) then 0
  else if s.bit (Obj.buildControl l) 5 then leAt (s.layer l).table (min 255 (age * 256 / span)) 1
  else 255 * (span - age) / span

/-- The surface tensor of a stream (R231, R166) written into the buffer of the window that closes. -/
def State.surfaceFill (s : State) (l : Nat) (e : LayerEntry) : State :=
  match s.dev.buildStream l with
  | none => s
  | some n =>
    if s.dev.rd (Obj.mereBase n) = 0xFFFF then s
    else
      let d := s.dev
      let g := d.buildShape l e
      let ctl := d.rd (Obj.buildControl l)
      let q := 2 ^ field ctl 1 2
      let tr := timeCode (t31 d.dt)
      let value (ch y x : Nat) : Nat :=
        ((List.range q).flatMap (fun j => (List.range q).map (fun i => (x * q + i, y * q + j)))).foldl (fun m z =>
          if z.1 < d.rd (Obj.outputWidth n) ∧ z.2 < d.rd (Obj.outputHeight n) then
            let key := d.cellKey n z.1 z.2
            let cell := if Tab.get false d.mereBad key then staleCell else d.cell key
            if bitAt ctl 0 && cell / 2 ^ 15 != ch then m else max m (d.surfaceValue l tr cell)
          else m) 0
      (List.range g.1).foldl (fun s ch => (List.range g.2.1).foldl (fun s y => (List.range g.2.2.1).foldl (fun s x =>
        match buildAddr e (d.layer l).build.closed g.2.2.1 4 ch y x with
        | some (c, a) => s.buildPut true c a [BitVec.ofNat 8 (value ch y x)]
        | none => s) s) s) s

/-- A window kept, a run of its builder (R246): its buffer is held by the layers that read it (R233). [log 84 DEDUCED] -/
def Dev.windowKept (s : Dev) (l : Nat) (e : LayerEntry) : Dev :=
  let p := (s.layer l).slot
  let r := (s.readersOf p e.number).length
  let s := s.updLayer l (fun z => { z with build :=
    if z.build.closed % 2 = 0 then { z.build with held0 := r, closed := z.build.closed + 1 } else { z.build with held1 := r, closed := z.build.closed + 1 } })
  let b := (s.layer l).build
  ((s.bump (layerCtr l 0)).setBit (Obj.layerState l) 5 (b.held0 != 0 && b.held1 != 0)).emptyAtWindow p e.number

/-- Window `k` opens (R233): in the next buffer, or skipped while that is held; it takes the parameters of this moment (R244), and Building shows one that is
not skipped. [log 84 DEDUCED] -/
def State.windowOpen (s : State) (l : Nat) (e : LayerEntry) (k : Int) : State :=
  let b := (s.dev.layer l).build
  let busy : Bool := (if b.closed % 2 = 0 then b.held0 else b.held1) != 0
  let timeout := s.dev.rd (Obj.buildTimeout l)
  let span := s.dev.rd (Obj.surfaceSpan l)
  let d := s.dev.updLayer l (fun z => { z with table := s.dev.blob (Obj.activationTable l), build := { z.build with window := k, skipping := busy, timeout := timeout, span := span } })
  let d := (d.setBit (Obj.layerState l) 4 (!busy)).setBit (Obj.layerState l) 5 (b.held0 != 0 && b.held1 != 0)
  if busy then { s with dev := d.bump (layerCtr l 6) } else ({ s with dev := d } : State).buildClear l e b.closed

/-- The open window closes and the next opens. [log 64 DESIGN CHOICE] -/
def State.windowClose (s : State) (l : Nat) (e : LayerEntry) : State :=
  let b := (s.dev.layer l).build
  let s := if b.skipping then s
    else
      let s := if e.op = 17 then s.surfaceFill l e else s
      { s with dev := s.dev.windowKept l e }
  s.windowOpen l e (b.window + 1)

/-- The position, polarity, stamp and kind of a word for a builder: a stream's word, or a population's spike, stamped within the tick
that made it. -/
def Dev.buildWordOf (s : Dev) (t : Transit) : Nat × Nat × Nat × Int × Nat :=
  if 2 ^ 24 ≤ t.route ∧ t.word / 2 ^ 58 ≠ 63 then
    let h := (t.route - 2 ^ 24) / 128
    let k := s.tickOf h s.dt + stampDiff 18 (field t.word 0 18) (unsigned 18 (s.tickOf h s.dt))
    (field t.word 40 12, field t.word 28 12, 1, s.tickEnd h (k - 1) - 250, 0)
  else if 2 ^ 24 ≤ t.route then (0, 0, 0, s.ofT31 (wT t.word) - 250, 3)
  else (wX t.word, wY t.word, wPol t.word, s.ofT31 (wT t.word), wKind t.word)

/-- Whether a builder takes words of a kind (R230). -/
def Dev.buildSelects (s : Dev) (l kind : Nat) : Bool :=
  match s.getF (Obj.buildControl l) 3 2 with
  | 0 => kind == 0
  | 1 => kind == 1
  | _ => kind == 0 || kind == 1

/-- The oldest word on its way to builder `l` arrives (R228 to R233). -/
def State.buildWord (s : State) (l : Nat) : State :=
  match takeFirst (fun t => decide (t.dest = .builder l)) s.dev.transit with
  | none => s
  | some (t, rest) =>
    let s : State := { s with dev := s.dev.tookWord t rest }
    match s.dev.layerEntry l with
    | none => s
    | some e =>
      if !s.dev.layerRuns l || e.op == 18 || !e.builder then s
      else
        let w := s.dev.buildWordOf t
        let k := s.dev.windowOf l w.2.2.2.1
        let sel := s.dev.buildSelects l w.2.2.2.2
        let b := (s.dev.layer l).build
        if k < b.window then (if sel then { s with dev := s.dev.bump (layerCtr l 4) } else s)
        else
          let s := loop (k - b.window).toNat (fun _ s => s.windowClose l e) s
          if !sel then s
          else if (s.dev.layer l).build.skipping then { s with dev := s.dev.bump (layerCtr l 7) }
          else if e.op = 16 then s.voxelWord l e w.1 w.2.1 w.2.2.1 w.2.2.2.1 t.poisoned
          else s

/-- BUILD_TIMEOUT (R228). [log 84 DEDUCED] -/
def State.buildTimeout (s : State) (l : Nat) : State :=
  match s.dev.layerEntry l with
  | none => s
  | some e =>
    if s.dev.layerRuns l && (e.op == 16 || e.op == 17) && s.dev.passed (s.dev.windowStart l ((s.dev.layer l).build.window + 1)) (s.dev.layer l).build.timeout then
      s.windowClose l e
    else s

/-- BUILD_COUNT_COPY (R232): the last count map of the population is copied into the next buffer; a map that finds it held is skipped. [log 60 DEDUCED] -/
def State.buildCount (s : State) (l : Nat) : State :=
  match s.dev.layerEntry l with
  | none => s
  | some e =>
    let h := s.dev.rd (Obj.buildSource l) - 0x400
    let maps := (s.dev.pop h).maps
    let b := (s.dev.layer l).build
    if !s.dev.layerRuns l || e.op != 18 || decide ((maps : Int) ≤ b.window) then s
    else
      let d := s.dev.updLayer l (fun z => { z with build := { z.build with window := (maps : Nat) } })
      if (if b.closed % 2 = 0 then b.held0 else b.held1) ≠ 0 then { s with dev := d.bump (layerCtr l 6) }
      else
        let g := d.buildShape l e
        let s := ({ s with dev := d } : State).buildClear l e b.closed
        let s := (d.counts.filter (fun z => decide (countKey h 2 0 0 ≤ z.1) && decide (z.1 < countKey h 3 0 0))).foldl (fun (s : State) z =>
          let el := z.1 % 2 ^ 32
          match buildAddr e b.closed g.2.2.1 g.2.2.2 (el / g.2.2.1 / g.2.1) (el / g.2.2.1 % g.2.1) (el % g.2.2.1) with
          | some (c, a) => s.buildPut false c a (leBytes (fmtBits g.2.2.2 / 8) z.2)
          | none => s) s
        { s with dev := s.dev.windowKept l e }

/-- Layer `l` starts with its phase (R213, R228), its first run's empty stripes complete (R235). [log 65 DEDUCED] -/
def State.layerStart (s : State) (l : Nat) : State :=
  match s.dev.layerEntry l with
  | none => s
  | some e =>
    let d := (s.dev.haloSettle l).updLayer l (fun z => { z with tiles := [], drained := [], runs := 0, started := false, build := {}, halo := [] })
    let d := (d.setF (Obj.layerState l) 0 2 2).setF (Obj.layerState l) 3 3 0
    let d := if e.builder || (d.plan (d.layer l).slot).isEmpty 256 e then d.setF (Obj.layerState l) 16 8 0 else d.emptyStripes l e
    let s : State := { s with dev := d }
    if e.op = 16 ∨ e.op = 17 then s.windowOpen l e (s.dev.windowOf l s.dev.dt) else s

end Sys2Proof.Machine
end

