-- ==== Sys2Proof/Machine/Basin.lean ====
section
/-! DEFINITION. The basin commands (R222, R228 to R238). -/

namespace Sys2Proof.Machine

open Sys2Proof

/-- TILE_ISSUE (R238): to the free unit `u.unit`, which has stood idle for `u.gddr` ns waiting on a ferry transfer to or from GDDR6 (R246). -/
def execTileIssue (l : Fin 256) (c : Fin 128) (u : UnitStall) (s : State) : Host.Outcome State Fault Refusal :=
  s.runIn c.val (fun d => d.tileIssue l.val c.val u.unit.val u.gddr)

/-- TILE_DRAIN (R222). `upset`: the unit's residue store has suffered a fault (R269). -/
def execTileDrain (l : Fin 256) (c : Fin 128) (u : Fin 16) (upset : Bool) (s : State) : Host.Outcome State Fault Refusal :=
  s.runInM c.val (fun s => s.tileDrain l.val c.val u.val upset)

/-- BUILD_WORD (R228 to R233). -/
def execBuildWord (l : Fin 256) (s : State) : Host.Outcome State Fault Refusal := s.runM (fun s => s.buildWord l.val)

/-- BUILD_TIMEOUT (R228). -/
def execBuildTimeout (l : Fin 256) (s : State) : Host.Outcome State Fault Refusal := s.runM (fun s => s.buildTimeout l.val)

/-- BUILD_COUNT_COPY (R232). -/
def execBuildCountCopy (l : Fin 256) (s : State) : Host.Outcome State Fault Refusal := s.runM (fun s => s.buildCount l.val)

end Sys2Proof.Machine
end

