-- ==== Sys2Proof/Machine/Measure.lean ====
section
/-! DEFINITION. The measurement registers and their log (R499, R500). -/

namespace Sys2Proof.Machine

open Sys2Proof

/-- Measurement register `r` (R500): M0 to M5 as 0 to 5, T0 to T7 as 8 to 15. -/
def measureReg (r : Nat) : Reg := if r < 6 then Obj.measurementRegister r else Obj.tenantRegister (r - 8)

/-- An entry of the measurement log (R500). -/
def logEntry (r kind place detail time : Nat) (digest : List Byte) : List Byte :=
  leBytes 1 r ++ leBytes 1 kind ++ leBytes 2 place ++ leBytes 4 detail ++ leBytes 10 time ++ zeros 14 ++ bytesAt digest 0 32

/-- The log cut into its entries. -/
def logEntries : Nat → List Byte → List (List Byte)
  | 0, _ => []
  | n + 1, bs => bs.take 64 :: logEntries n (bs.drop 64)

/-- The log after an entry (R500): once full, the oldest entry that is not of M0 to M3 goes. -/
def logAppend (log e : List Byte) : List Byte × Bool :=
  if log.length < 4096 * 64 then (log ++ e, false)
  else ((((logEntries 4096 log).eraseP (fun x => decide (4 ≤ (x.headD 0).toNat))).flatten) ++ e, true)

/-- Register `r` extended with a digest (R499), and the entry that says so (R500). -/
def Dev.extend (s : Dev) (r kind place detail : Nat) (digest : List Byte) : Dev :=
  let l := logAppend (s.blob Obj.measurementLog) (logEntry r kind place detail (t80 s.dt) digest)
  let s := (s.setBlob (measureReg r) (sha3 (s.blob (measureReg r) ++ digest))).setBlob Obj.measurementLog l.1
  if l.2 then s.setBit Obj.securityState 5 true else s

/-- An accepted write to a partition object or to TenantHostKeys (R499): M5 takes the digest of index, subindex and new value. [log 87 DEDUCED] -/
def Dev.partitioned (s : Dev) (r : Reg) (value : List Byte) : Dev :=
  let idx := r.key / 256
  let sub := r.key % 256
  s.extend 5 2 0 (idx * 2 ^ 16 + sub * 2 ^ 8) (sha3 (leBytes 2 idx ++ leBytes 1 sub ++ value))

end Sys2Proof.Machine
end

