-- ==== Sys2Proof/Machine/Gddr.lean ====
section
/-! DEFINITION. The GDDR6 array (R316 to R337): the address map, mirrored regions, failed channels, checked reads, regions and their owners. -/

namespace Sys2Proof.Machine

open Sys2Proof

/-! ### Copies and moved bytes (R326, R333) -/

/-- Whether the block of a moved byte has been written since it moved: by a write of the whole block, or by the fill of a region (R325, R333). -/
def Dev.rewritten (s : Dev) (a : Nat) : Bool :=
  Tab.get false s.moved (a / 64) || s.filled.any (fun r => decide (r.1 ≤ a) && decide (a < r.2))

/-- The device addresses that hold a visible byte of region `r` (R326). [log 71 DEDUCED] -/
def Dev.copies (s : Dev) (r a : Nat) : List Nat :=
  if s.regionMirror r then
    let o := a - s.regionLo r
    let k := o / 256
    let x := s.regionLo r + ((k / 4) * 8 + k % 4) * 256 + o % 256
    [x, x + 1024]
  else [a]

/-- Whether the bytes [a, b) lie in regions of tenant `t`, over at most `fuel` of them (R327). -/
def Dev.covered (s : Dev) (t : Nat) : Nat → Nat → Nat → Bool
  | 0, a, b => decide (b ≤ a)
  | fuel + 1, a, b =>
    if b ≤ a then true
    else match s.regionAt t a with
      | some r => s.covered t fuel (s.regionHi r) b
      | none => false

/-- Whether an access of `n` bytes lies in tenant `t`'s regions. -/
def Dev.inRegions (s : Dev) (t a n : Nat) : Bool := s.covered t 33 a (a + n)

/-! ### Bytes -/

/-- A byte of one copy, and whether it carries Poison (R323, R333): a moved unit does until it is written. [log 66 DESIGN CHOICE, 71 DEDUCED] -/
def State.copyByte (s : State) (mirrored : Bool) (a : Nat) : Byte × Bool :=
  match s.dev.placeOf mirrored a with
  | none => (Config.poisonByte a, true)
  | some x =>
    if x != a && !s.dev.rewritten a then (Config.poisonByte a, true)
    else (Memory.byte s.mem.gddr x, Tab.get false s.mem.gddrBad (x / 64) || Tab.get false s.mem.gddrErr (x / 64))

/-- A visible byte of region `r`: reads of a mirrored region alternate and take the other copy when one returns Poison (R326). -/
def State.regionByte (s : State) (r a : Nat) : Byte × Bool :=
  match s.dev.copies r a with
  | [x, y] =>
    let p := if s.dev.mirrorTurn % 2 = 0 then (x, y) else (y, x)
    let v := s.copyByte true p.1
    if v.2 then s.copyByte true p.2 else v
  | x :: _ => s.copyByte false x
  | [] => (0, false)

/-- A byte read on behalf of tenant `t`; zero outside its regions (R327). [log 72 DESIGN CHOICE] -/
def State.gddrByte (s : State) (t a : Nat) : Byte × Bool := match s.dev.regionAt t a with | some r => s.regionByte r a | none => (0, false)

/-- `n` bytes with their Poison. -/
def State.gddrRead (s : State) (t a n : Nat) : List (Byte × Bool) := (upFrom a n).map (s.gddrByte t)

/-- The bytes alone. -/
def State.gddrBytes (s : State) (t a n : Nat) : List Byte := (s.gddrRead t a n).map (·.1)

/-- One byte written to each copy that is not lost. -/
def State.gddrPutByte (s : State) (t a : Nat) (b : Byte) : State :=
  match s.dev.regionAt t a with
  | none => s
  | some r => { s with mem := { s.mem with gddr := (s.dev.copies r a).foldl (fun m x =>
      match s.dev.placeOf (s.dev.regionMirror r) x with | some y => Memory.put m y b | none => m) s.mem.gddr } }

/-- Marks of a block after a write that covers `whole` of it or not, with `bad` bytes among those written: a block written whole takes the mark
and, when it had moved, has been written. -/
def State.gddrMark (s : State) (t blk : Nat) (whole bad : Bool) : State :=
  match s.dev.regionAt t (blk * 64) with
  | none => s
  | some r => (s.dev.copies r (blk * 64)).foldl (fun s x =>
      match s.dev.placeOf (s.dev.regionMirror r) x with
      | none => s
      | some y =>
        if whole then
          { s with mem := { s.mem with gddrBad := Tab.put false s.mem.gddrBad (y / 64) bad, gddrErr := Tab.put false s.mem.gddrErr (y / 64) false },
                   dev := if y = x then s.dev else { s.dev with moved := Tab.put false s.dev.moved (x / 64) true } }
        else if bad then { s with mem := { s.mem with gddrBad := Tab.put false s.mem.gddrBad (y / 64) true } } else s) s

/-- Bytes written on behalf of tenant `t` (R314, R320, R327). -/
def State.gddrWrite (s : State) (t a : Nat) (bs : List (Byte × Bool)) : State :=
  let s' := bs.zipIdx.foldl (fun s b => s.gddrPutByte t (a + b.2) b.1.1) s
  let n := bs.length
  loop ((a + n + 63) / 64 - a / 64) (fun i s =>
    let blk := a / 64 + i
    let lo := max a (blk * 64)
    let hi := min (a + n) (blk * 64 + 64)
    s.gddrMark t blk (decide (hi - lo = 64)) (((bs.drop (lo - a)).take (hi - lo)).any (·.2))) s'

/-- Clean bytes written. -/
def State.gddrPut (s : State) (t a : Nat) (bs : List Byte) : State := s.gddrWrite t a (bs.map (fun b => (b, false)))

/-- Whether a write of `n` bytes meets a lost unit (R314). -/
def Dev.meetsLost (s : Dev) (t a n : Nat) : Bool :=
  (upFrom a n).any (fun x => match s.regionAt t x with
    | some r => (s.copies r x).all (fun y => s.lostByte (s.regionMirror r) y)
    | none => false)

/-- Device addresses [lo, hi) filled with zeros (R325), where they stand: a moved unit has been written with it (R333). -/
def State.gddrZero (s : State) (lo hi : Nat) : State :=
  let inside (x : Nat) : Bool := decide (lo ≤ x) && decide (x < hi)
  let hit (x : Nat) : Bool := inside x || (match s.dev.origin x with | some a => inside a | none => false)
  { s with mem := { s.mem with gddr := s.mem.gddr.filter (fun x => !hit x.1), gddrBad := s.mem.gddrBad.filter (fun x => !hit (x.1 * 64)),
                               gddrErr := s.mem.gddrErr.filter (fun x => !hit (x.1 * 64)) },
           dev := if s.dev.failedFirst = 0 then s.dev else { s.dev with filled := s.dev.filled ++ [(lo, hi)] } }

/-- A visible range of tenant `t` filled with zeros (R365). -/
def State.zeroRange (s : State) (t a n : Nat) : State := s.gddrPut t a (zeros n)

/-! ### Channel failure (R332 to R334) -/

/-- The byte after the last device address that region `r` occupies (R326). -/
def Dev.occupiedHi (s : Dev) (r : Nat) : Nat := (s.rd (Obj.regionBase r) + (if s.regionMirror r then 2 else 1) * s.rd (Obj.regionSize r)) * 2 ^ 20

/-- RegionState of an assigned region: 3 when it holds units lost (R333). -/
def Dev.regionJudge (s : Dev) (r : Nat) : Dev :=
  if s.rd (Obj.regionOwner r) = 0xFF ∨ s.failedFirst = 0 ∨ s.regionMirror r = true then s
  else
    let many : Bool := ((List.range 8).filter (fun k => s.chanFailed k)).length > 1
    if many || decide (8 * s.reserveLimit < s.regionHi r) then s.wr (Obj.regionState r) 3 else s

/-- The words of the spill rings that stand on channel `k`, which is failing, read as Poison from now on (R330, R333). -/
def Dev.ringsFail (s : Dev) (k : Nat) : Dev :=
  s.each 36 (fun n s =>
    let x := s.str n
    let ps := (List.range x.ring.length).map (fun i => (x.ringAt + i) % x.ringWords)
    let hit := ps.filter (fun p => (s.placeOf false (x.ringBase + 8 * p)).map gddrChan == some k && !x.ringBad.contains p)
    if hit = [] then s else s.updStr n (fun x => { x with ringBad := x.ringBad ++ hit }))

/-- Channel `k` fails with a cause (R332, R333). -/
def Dev.channelFail (s : Dev) (k cause : Nat) : Dev :=
  if s.chanFailed k then s
  else
    let s := s.ringsFail k
    let s := ((s.setF (Obj.gddrChannelState k) 0 2 2).setF (Obj.gddrChannelState k) 4 1 0).setF (Obj.gddrChannelState k) 16 8 cause
    let s := if s.failedFirst = 0 then { s with failedFirst := k + 1 } else s
    (s.each 32 (fun r s => s.regionJudge r)).detect 0x09 (.gddrChannel k) cause

/-- An uncorrectable read on channel `k` at device address `a` (R323, R332, R551). -/
def Dev.gddrUncorrectable (s : Dev) (k a : Nat) : Dev :=
  let s := (s.bump (Obj.gddr6Uncorrectable k)).detect 0x0B (.gddrChannel k) (a % 2 ^ 32)
  let x := rateUp (Tab.get (0, 0) s.gddrUncorr k) (s.win 1000000000)
  let s := { s with gddrUncorr := Tab.put (0, 0) s.gddrUncorr k x }
  if 16 < x.2 then s.channelFail k 2 else s

/-- One block that stands at address `a` read and checked (R323). -/
def State.blockCheck (s : State) (a : Nat) (check : Check) : State :=
  let k := gddrChan a
  if s.dev.chanFailed k || Tab.get false s.mem.gddrBad (a / 64) then s
  else if Tab.get false s.mem.gddrErr (a / 64) || check == .uncorrectable then
    { s with dev := s.dev.gddrUncorrectable k a, mem := { s.mem with gddrErr := Tab.put false s.mem.gddrErr (a / 64) true } }
  else if check = .corrected then { s with dev := (s.dev.bump (Obj.gddr6Corrected k)).sedError 0x42 }
  else s

/-- The copies of a block read in their order, each where it stands, until one gives no Poison (R323, R326, R333): `check` is what the code of the
first that stands shows. -/
def State.copiesCheck (s : State) (mirrored : Bool) (check : Check) : List Nat → State
  | [] => s
  | a :: as =>
    match s.dev.placeOf mirrored a with
    | none => s.copiesCheck mirrored check as
    | some x =>
      if x != a && !s.dev.rewritten a then s.copiesCheck mirrored check as
      else
        let s := s.blockCheck x check
        if Tab.get false s.mem.gddrBad (x / 64) || Tab.get false s.mem.gddrErr (x / 64) then s.copiesCheck mirrored .ok as else s

/-! ### Held requests (R322) -/

/-- Whether an access of `n` bytes at `a` for tenant `t` meets a channel that retrains, whose requests are held. Nine units of 256 bytes in a row
reach every channel that a longer run does. -/
def Dev.gddrHeld (s : Dev) (t a n : Nat) : Bool :=
  (List.range (min 9 ((a + n + 255) / 256 - a / 256))).any (fun i =>
    let x := (a / 256 + i) * 256
    match s.regionAt t (max x a) with
    | some r => (s.copies r x).any (fun y => s.retraining (gddrChan y) || (match s.placeOf (s.regionMirror r) y with
        | some z => s.retraining (gddrChan z)
        | none => false))
    | none => false)

/-! ### Regions (R325) -/

/-- Why an assignment of region `r` is refused (R325): true where it is. -/
def Dev.regionBad (s : Dev) (r : Nat) : Bool :=
  let lo := s.regionLo r
  let hi := s.occupiedHi r
  s.rd (Obj.regionSize r) == 0 ||
  (List.range 32).any (fun x => x != r && s.rd (Obj.regionSize x) != 0 && decide (s.regionLo x < hi) && decide (lo < s.occupiedHi x)) ||
  decide (0x3C0000000 < hi + 8 * s.rd Obj.repairReserve * 2 ^ 20) || (s.regionMirror r && s.rd (Obj.regionBase r) % 2 != 0)

/-- Ranges that the device had taken in [lo, hi) are no more. -/
def Dev.dropAllocs (s : Dev) (lo hi : Nat) : Dev := { s with allocs := s.allocs.filter (fun x => decide (x.addr < lo) || decide (hi ≤ x.addr)) }

/-- Region `r` takes an owner, or none (R325): zeros all over. -/
def State.regionAssign (s : State) (r v : Nat) : State :=
  let lo := s.dev.regionLo r
  let hi := s.dev.occupiedHi r
  let s := s.gddrZero lo hi
  let d := (s.dev.dropAllocs lo hi).wr (Obj.regionOwner r) v
  { s with dev := (d.wr (Obj.regionState r) (if v = 0xFF then 0 else 2)).regionJudge r }

/-- A write of RegionOwner that passed the checks of R469 (R325). -/
def State.regionOwnerWrite (s : State) (q : Requester) (r v : Nat) : State :=
  if v ≠ 0xFF ∧ s.dev.regionBad r = true then { s with dev := s.dev.refuse q .range }
  else if v ≠ 0xFF ∧ s.dev.rd (Obj.tenantState v) = 0 then { s with dev := s.dev.refuse q .state }
  else
    let s := if s.dev.rd (Obj.regionOwner r) = v then s else s.regionAssign r v
    { s with dev := (s.dev.partitioned (Obj.regionOwner r) (leBytes 1 v)).accept q }

/-! ### The commands of the controllers -/

/-- The tenant on whose behalf a GDDR6 access is made, and the element of its plan-fault entry (R327, R553). -/
def Dev.gddrMaster (s : Dev) (m : GddrMaster) : Nat × Nat × Nat :=
  match m with
  | .ferry f => (match (s.ferry f.val).cur with | some c => c.tenant | none => 0xFF, 3, f.val)
  | .stream n => (s.rd (Obj.streamTenant n.val), 5, n.val)
  | .confluence => (s.rd Obj.fusionOwner, 4, 0)
  | .channel n => (s.rd (Obj.channelOwner n.val), 6, n.val)

/-- A block read (R323, R326, R327): the copies take turns, and one that gives Poison sends the read to the other. While a channel that it
needs retrains, the read is held, and comes again (R322). -/
def State.blockRead (s : State) (m : GddrMaster) (a : Nat) (check : Check) : State :=
  let g := s.dev.gddrMaster m
  let a := a / 64 * 64
  match s.dev.regionAt g.1 a with
  | none => { s with dev := s.dev.regionRefuse g.1 g.2.1 g.2.2 a }
  | some r =>
    if s.dev.gddrHeld g.1 a 64 then s
    else
      let cs := s.dev.copies r a
      let s := s.copiesCheck (s.dev.regionMirror r) check (if s.dev.mirrorTurn % 2 = 0 then cs else cs.reverse)
      { s with dev := { s.dev with mirrorTurn := s.dev.mirrorTurn + 1 }.meter Obj.gddr6Load 64 }

/-- A burst that fails its EDC checksum (R322): `again` when it is itself a repeat. -/
def Dev.edcMismatch (s : Dev) (k : Nat) (again : Bool) : Dev :=
  let n := if again then Tab.get 0 s.edcRepeats k else 0
  if n < 4 then ({ s with edcRepeats := Tab.put 0 s.edcRepeats k (n + 1) }.bump (Obj.edcRetries k)).sedError 0x43
  else { s with edcRepeats := Tab.put 0 s.edcRepeats k 0 }.setBit (Obj.gddrChannelState k) 4 true

/-- Training at start-up ends: a channel that has not failed is up (R332, R337). [log 117 DEDUCED] -/
def Dev.gddrUp (s : Dev) : Dev := s.each 8 (fun k s => if s.getF (Obj.gddrChannelState k) 0 2 = 0 then s.setF (Obj.gddrChannelState k) 0 2 1 else s)

/-- A temperature reading (R324): doubled refresh from 85 °C, throttling from 95 °C; each clears after ten readings 5 °C below. -/
def Dev.gddrTemp (s : Dev) (k : Nat) (v : Int) : Dev :=
  let one (s : Dev) (i : Nat) (limit : Int) : Dev :=
    let key := k * 2 + i
    let n := if v ≤ limit - 5 then Tab.get 0 s.coolMs key + 1 else 0
    let s := { s with coolMs := Tab.put 0 s.coolMs key (if s.bit (Obj.gddrChannelState k) (2 + i) then min n 10 else 0) }
    if limit ≤ v then s.setBit (Obj.gddrChannelState k) (2 + i) true
    else if 10 ≤ n then s.setBit (Obj.gddrChannelState k) (2 + i) false else s
  one (one (s.wrI (Obj.gddr6Temperature k) v) 0 85) 1 95

end Sys2Proof.Machine
end

