-- ==== Sys2Proof/Machine/Ferry.lean ====
section
/-! DEFINITION. Ferries (R306 to R315, R336): descriptors, their rows, what a move does in each space, and the order in which a chain runs. -/

namespace Sys2Proof.Machine

open Sys2Proof

/-! ### Descriptors (R310) -/

/-- A descriptor. -/
structure Desc where
  op : Nat
  flags : Nat
  srcSpace : Nat
  dstSpace : Nat
  waitWeir : Nat
  signalWeir : Nat
  waitValue : Nat
  signalAdd : Nat
  src : Nat
  dst : Nat
  rowBytes : Nat
  rows : Nat
  srcStride : Int
  dstStride : Int
  planes : Nat
  srcPlane : Int
  dstPlane : Int
  indexAddr : Nat
  deriving DecidableEq, Repr

/-- The fields of 64 bytes. -/
def Desc.of (b : List Byte) : Desc :=
  { op := leAt b 0 1, flags := leAt b 1 1, srcSpace := leAt b 2 1 % 16, dstSpace := leAt b 2 1 / 16, waitWeir := leAt b 4 2,
    signalWeir := leAt b 6 2, waitValue := leAt b 8 4, signalAdd := leAt b 12 2, src := leAt b 16 8, dst := leAt b 24 8,
    rowBytes := leAt b 32 4, rows := leAt b 36 4, srcStride := signed 32 (leAt b 40 4), dstStride := signed 32 (leAt b 44 4),
    planes := leAt b 48 4, srcPlane := signed 32 (leAt b 52 4), dstPlane := signed 32 (leAt b 56 4), indexAddr := leAt b 56 8 }

/-- WaitEnable, SignalEnable, ChainEnd (R310). -/
def Desc.waits (d : Desc) : Bool := bitAt d.flags 0
/-- SignalEnable. -/
def Desc.signals (d : Desc) : Bool := bitAt d.flags 1
/-- ChainEnd. -/
def Desc.ends (d : Desc) : Bool := bitAt d.flags 2

/-- GATHER or SCATTER: the operations with an index list. -/
def Desc.indexed (d : Desc) : Bool := d.op == 2 || d.op == 3

/-- Whether the operation reads its source through the source space. -/
def Desc.reads (d : Desc) : Bool := d.op == 1 || d.op == 2 || d.op == 3

/-- The space that holds the index list (R311). -/
def Desc.indexSpace (d : Desc) : Nat := if d.op = 2 then d.srcSpace else d.dstSpace

/-- The rows of a move: the addresses of source and destination (R311). `idx` is the index list. -/
def Desc.pairs (d : Desc) (idx : List Nat) : List (Int × Int) :=
  (List.range d.planes).flatMap (fun (p : Nat) => (List.range d.rows).map (fun (r : Nat) =>
    let j : Int := idx.getD p 0
    match d.op with
    | 2 => ((d.src : Int) + (j + r) * d.srcStride, (d.dst : Int) + ((p * d.rows + r : Nat) : Int) * d.dstStride)
    | 3 => ((d.src : Int) + ((p * d.rows + r : Nat) : Int) * d.srcStride, (d.dst : Int) + (j + r) * d.dstStride)
    | _ => ((d.src : Int) + p * d.srcPlane + r * d.srcStride, (d.dst : Int) + p * d.dstPlane + r * d.dstStride)))

/-- Whether a source row overlaps a destination row (R313). [log 69 DEDUCED] -/
def Desc.overlaps (d : Desc) (ps : List (Int × Int)) : Bool :=
  d.reads && d.srcSpace == d.dstSpace && ps.any (fun x => ps.any (fun y => decide (x.1 < y.2 + d.rowBytes) && decide (y.2 < x.1 + d.rowBytes)))

/-- Why a ferry refuses a descriptor before it reads anything (R313): true where it does. [log 69 DEDUCED] -/
def Dev.descBad (s : Dev) (f t : Nat) (d : Desc) : Bool :=
  decide (5 < d.op) || decide (16 ≤ d.flags) || decide (3 < d.srcSpace) || decide (3 < d.dstSpace) ||
  (d.op != 4 && (d.rowBytes == 0 || d.rows == 0 || d.planes == 0)) || d.dstSpace == 3 || (d.op != 4 && d.srcSpace == 3) ||
  (d.op == 4 && (d.srcSpace != 3 || decide (36 ≤ d.src % 64) || s.rd (Obj.homeDie (d.src % 64)) != ferryDie f ||
    s.rd (Obj.streamTenant (d.src % 64)) != t))

/-! ### A move in progress -/

/-- A move: the state, what the host returns, why the chain stops (0 goes on), the source units read with Poison, and the accesses with Busy. -/
structure Move where
  s : State
  host : Option (List Byte)
  err : Nat := 0
  poisons : Nat := 0
  busy : Nat := 0

/-- The clusters and in-cluster extents of `n` bytes at scratchpad address `a` (R308). -/
def padPieces (a n : Nat) : List (Nat × Nat × Nat) :=
  (List.range ((a + n - 1) / 2 ^ 20 + 1 - a / 2 ^ 20)).map (fun i =>
    let k := a / 2 ^ 20 + i
    let lo := max a (k * 2 ^ 20)
    let hi := min (a + n) ((k + 1) * 2 ^ 20)
    (k, lo - k * 2 ^ 20, hi - lo))

/-- The first 16-byte access of an extent that neither ferry port of cluster `c` may make (R281, R283). -/
def Dev.ferryBlocked (s : Dev) (c a n : Nat) (write : Bool) : Option Nat :=
  (List.range ((a + n - 1) / 256 + 1 - a / 256)).findSome? (fun i =>
    let x := max a ((a / 256 + i) * 256) / 16 * 16
    if s.padAllowed c 16 x 16 write || s.padAllowed c 17 x 16 write then none else some x)

/-- The port through which the chain's tenant reaches its host (R434). -/
def Dev.hostOf (s : Dev) (t : Nat) : Option Nat := (s.pathOf t 0).orElse (fun _ => s.pathOf t 1)

/-- A row that lies outside the tenant's partition or that region registers refuse (R314): the device after, and LastError. Which of the two ferry
ports makes the refused access is open. [log 118 DESIGN CHOICE] -/
def Dev.rowRefused (s : Dev) (f t space : Nat) (a : Int) (n : Nat) (write : Bool) : Option (Dev × Nat) :=
  let low := unsigned 32 a
  match space with
  | 0 =>
    if a < 0 ∨ (2 ^ 27 : Int) < a + n then some (s.planFaultEntry 3 f low t, 1)
    else
      let ps := padPieces a.toNat n
      if ps.any (fun p => s.rd (Obj.clusterOwner p.1) != t) then some (s.planFaultEntry 3 f low t, 1)
      else (ps.findSome? (fun p => (s.ferryBlocked p.1 p.2.1 p.2.2 write).map (fun x => (p.1, x)))).map (fun z =>
        (s.drawn.padViolation z.1 (16 + s.open_ % 2) z.2, 5))
  | 1 => if 0 ≤ a ∧ a + n ≤ (2 ^ 34 : Int) ∧ s.inRegions t a.toNat n = true then none else some (s.regionRefuse t 3 f (unsigned 64 a), 1)
  | _ => none

/-- A clash at a scratchpad word. [log 66 DESIGN CHOICE] -/
def clashAt (cl : List Clash) (c w : Nat) : Option Clash := cl.find? (fun x => x.addr.toNat == c * 2 ^ 20 + w)

/-- One source word of a scratchpad, and what port A does to it (R274, R278). -/
def Move.readWord (m : Move) (cl : List Clash) (c w : Nat) : Move × Nat × Bool :=
  match clashAt cl c w with
  | some ⟨_, some (d, k), later⟩ =>
    ({ m with s := { m.s with dev := (m.s.dev.bump (Obj.readCollisions c)).drawn, mem := m.s.mem.padMasked c w d.toNat k.toNat },
              busy := m.busy + b2n later }, m.s.dev.open_ % 2 ^ 64, false)
  | _ =>
    let r := m.s.padWord c w .ok
    ({ m with s := r.1, poisons := m.poisons + b2n r.2.2 }, r.2.1, r.2.2)

/-- The 8-byte words that an extent touches. -/
def wordsOf (a n : Nat) : List Nat := (List.range ((a + n + 7) / 8 - a / 8)).map (fun i => (a / 8 + i) * 8)

/-- Source bytes of one cluster. -/
def Move.readPad (m : Move) (cl : List Clash) (c a n : Nat) : Move × List (Byte × Bool) :=
  (wordsOf a n).foldl (fun (z : Move × List (Byte × Bool)) w =>
    let r := z.1.readWord cl c w
    let lo := max a w
    let hi := min (a + n) (w + 8)
    (r.1, z.2 ++ (((leBytes 8 r.2.1).drop (lo - w)).take (hi - lo)).map (fun b => (b, r.2.2)))) (m, [])

/-- One destination word of a scratchpad (R278): bytes from offset `o` of word `w`. -/
def Move.writeWord (m : Move) (cl : List Clash) (c w o : Nat) (bs : List (Byte × Bool)) : Move :=
  let bad := bs.any (·.2)
  let data := bs.map (·.1)
  let put (m : Move) : Move := { m with s := { m.s with mem := m.s.mem.padWrite c (w + o) data bad } }
  match clashAt cl c w with
  | none => put m
  | some ⟨_, none, later⟩ =>
    let m := put m
    { m with s := { m.s with dev := m.s.dev.bump (Obj.readCollisions c) }, busy := m.busy + b2n later }
  | some ⟨_, some (d, k), _⟩ =>
    let mine := (2 ^ bs.length - 1) * 2 ^ o
    if mine = k.toNat ∧ ((leBytes 8 d.toNat).drop o).take bs.length = data then put m
    else { m with s := { m.s with dev := m.s.dev.bump (Obj.writeCollisions c), mem := m.s.mem.padMasked c w d.toNat k.toNat }, busy := m.busy + 1 }

/-- Destination bytes of one cluster. -/
def Move.writePad (m : Move) (cl : List Clash) (c a : Nat) (bs : List (Byte × Bool)) : Move :=
  (wordsOf a bs.length).foldl (fun (m : Move) w =>
    let lo := max a w
    let hi := min (a + bs.length) (w + 8)
    m.writeWord cl c w (lo - w) ((bs.drop (lo - a)).take (hi - lo))) m

/-- The 64-byte blocks that an extent touches, with the part of each. -/
def blocksOf (a n : Nat) : List (Nat × Nat) :=
  (List.range ((a + n + 63) / 64 - a / 64)).map (fun i =>
    let lo := max a ((a / 64 + i) * 64)
    (lo, min (a + n) ((a / 64 + i + 1) * 64) - lo))

/-- Source bytes of GDDR6 (R323, R326). -/
def Move.readGddr (m : Move) (f : Fin 40) (t a n : Nat) : Move × List (Byte × Bool) :=
  (blocksOf a n).foldl (fun (z : Move × List (Byte × Bool)) b =>
    let bs := z.1.s.gddrRead t b.1 b.2
    ({ z.1 with s := z.1.s.blockRead (.ferry f) b.1 .ok, poisons := z.1.poisons + b2n (bs.any (·.2)) }, z.2 ++ bs)) (m, [])

/-- Destination bytes of GDDR6 (R314, R320); each 256-byte unit that is lost counts. -/
def Move.writeGddr (m : Move) (f t a : Nat) (bs : List (Byte × Bool)) : Move :=
  let n := bs.length
  let lost := ((List.range ((a + n + 255) / 256 - a / 256)).filter (fun i =>
    let lo := max a ((a / 256 + i) * 256)
    m.s.dev.meetsLost t lo (min (a + n) ((a / 256 + i + 1) * 256) - lo))).length
  let s := m.s.gddrWrite t a bs
  { m with s := { s with dev := (s.dev.bumpBy (Obj.lostUnitWrites f) lost).meter Obj.gddr6Load n } }

/-- Source bytes of host memory (R314). [log 97 DESIGN CHOICE] -/
def Move.readHost (m : Move) (t : Nat) (a : Int) (n : Nat) : Move × List (Byte × Bool) :=
  match m.s.dev.hostOf t with
  | none => ({ m with err := 3 }, [])
  | some p =>
    let m := { m with s := { m.s with dev := m.s.dev.emit (.hostRead p (unsigned 64 a) n) } }
    match m.host with
    | none => ({ m with err := 4, s := { m.s with dev := m.s.dev.detectFor (portDie p) 0x21 (.hostPort p) 0 t } }, [])
    | some bs => ({ m with host := some (bs.drop n) }, (bytesAt bs 0 n).map (fun b => (b, false)))

/-- A source row (R308, R314). -/
def Move.readRow (m : Move) (cl : List Clash) (f : Fin 40) (t space : Nat) (a : Int) (n : Nat) : Move × List (Byte × Bool) :=
  match m.s.dev.rowRefused f.val t space a n false with
  | some (d, e) => ({ m with s := { m.s with dev := d }, err := e }, [])
  | none =>
    match space with
    | 0 => (padPieces a.toNat n).foldl (fun (z : Move × List (Byte × Bool)) p =>
        let r := z.1.readPad cl p.1 p.2.1 p.2.2
        (r.1, z.2 ++ r.2)) (m, [])
    | 1 => m.readGddr f t a.toNat n
    | _ => m.readHost t a n

/-- A destination row (R308, R314). -/
def Move.writeRow (m : Move) (cl : List Clash) (f : Fin 40) (t space : Nat) (a : Int) (bs : List (Byte × Bool)) : Move :=
  match m.s.dev.rowRefused f.val t space a bs.length true with
  | some (d, e) => { m with s := { m.s with dev := d }, err := e }
  | none =>
    let m := { m with s := { m.s with dev := m.s.dev.bumpBy (Obj.ferryBytes f.val) bs.length } }
    match space with
    | 0 => ((padPieces a.toNat bs.length).foldl (fun (z : Move × List (Byte × Bool)) p =>
        (z.1.writePad cl p.1 p.2.1 (z.2.take p.2.2), z.2.drop p.2.2)) (m, bs)).1
    | 1 => m.writeGddr f.val t a.toNat bs
    | _ =>
      match m.s.dev.hostOf t with
      | none => { m with err := 3 }
      | some p => { m with s := { m.s with dev := m.s.dev.emit (.hostWrite p (unsigned 64 a) (bs.map (·.1)) (bs.any (·.2))) } }

/-- A row from source to destination: one that is refused on either side is skipped, and nothing moves after it (R314). [log 70 DEDUCED] -/
def Move.copyRow (m : Move) (cl : List Clash) (f : Fin 40) (t : Nat) (d : Desc) (p : Int × Int) : Move :=
  if m.err ≠ 0 then m
  else match m.s.dev.rowRefused f.val t d.dstSpace p.2 d.rowBytes true with
    | some (x, e) => { m with s := { m.s with dev := x }, err := e }
    | none =>
      let r := m.readRow cl f t d.srcSpace p.1 d.rowBytes
      if r.1.err ≠ 0 then r.1 else r.1.writeRow cl f t d.dstSpace p.2 r.2

/-- The bytes of one FILL row: the 8 bytes of Src from the row's start (R311). -/
def Desc.pattern (d : Desc) : List (Byte × Bool) :=
  let w := leBytes 8 d.src
  (List.range d.rowBytes).map (fun i => (w.getD (i % 8) 0, false))

/-- One row of a stream's surface (R166): a cell with a parity error is stale for the reader. [log 69 DEDUCED] -/
def Dev.surfaceRow (s : Dev) (n y : Nat) : List Byte :=
  ((List.range (s.rd (Obj.outputWidth n))).map (fun x =>
    let k := s.cellKey n x y
    leBytes 2 (if Tab.get false s.mereBad k then staleCell else Tab.get staleCell s.mere k))).flatten

/-- What the read of one row of a stream's surface does: 4 cells in each bank access (R163), and each cell with a parity error, found now at one of
the places `ps` or standing since an earlier read, counted and left to the sweeper (R165). -/
def Dev.surfaceRead (s : Dev) (n y : Nat) (ps : List (BitVec 12 × BitVec 12)) : Dev :=
  let d := s.rd (Obj.homeDie n)
  (s.meter (Obj.mereLoad d) (ceilDiv (s.rd (Obj.outputWidth n)) 4)).each (s.rd (Obj.outputWidth n)) (fun x s =>
    let k := s.cellKey n x y
    if ps.any (fun p => p.1.toNat == x && p.2.toNat == y) || Tab.get false s.mereBad k then
      ({ s with mereBad := Tab.put false s.mereBad k true }).parityError d n (k % 256)
    else s)

/-- One row of a SNAPSHOT: it is read unless its destination is refused (R166, R314). -/
def Move.snapshotRow (m : Move) (cl : List Clash) (f : Fin 40) (t : Nat) (d : Desc) (ps : List (BitVec 12 × BitVec 12)) (y : Nat) : Move :=
  let n := d.src % 64
  let a : Int := (d.dst : Int) + y * d.dstStride
  if m.err ≠ 0 then m
  else match m.s.dev.rowRefused f.val t d.dstSpace a (2 * m.s.dev.rd (Obj.outputWidth n)) true with
    | some (x, e) => { m with s := { m.s with dev := x }, err := e }
    | none =>
      let m := { m with s := { m.s with dev := m.s.dev.surfaceRead n y ps } }
      m.writeRow cl f t d.dstSpace a ((m.s.dev.surfaceRow n y).map (fun b => (b, false)))

/-- SNAPSHOT (R166, R311): the rows, then the trailer with the end time code. [log 69 DEDUCED] -/
def Move.snapshot (m : Move) (cl : List Clash) (f : Fin 40) (t : Nat) (d : Desc) (ps : List (BitVec 12 × BitVec 12)) : Move :=
  let n := d.src % 64
  let rows := m.s.dev.rd (Obj.outputHeight n)
  let m := (List.range rows).foldl (fun (m : Move) (y : Nat) => m.snapshotRow cl f t d ps y) m
  if m.err ≠ 0 then m
  else m.writeRow cl f t d.dstSpace ((d.dst : Int) + rows * d.dstStride)
    ((leBytes 8 (timeCode (t31 m.s.dev.dt))).map (fun b => (b, false)))

/-- Step 3 of R312: the data of a descriptor. LastError 2 is a refusal. [log 70 DEDUCED] -/
def Move.run (m : Move) (cl : List Clash) (f : Fin 40) (t : Nat) (d : Desc) (ps : List (BitVec 12 × BitVec 12)) : Move :=
  if d.op = 0 then m
  else if (d.dstSpace = 2 ∨ (d.reads = true ∧ d.srcSpace = 2)) ∧ m.s.dev.hostOf t = none then { m with err := 3 }
  else match d.op with
    | 4 => m.snapshot cl f t d ps
    | 5 => (d.pairs []).foldl (fun (m : Move) p => if m.err ≠ 0 then m else m.writeRow cl f t d.dstSpace p.2 d.pattern) m
    | _ =>
      let r := if d.indexed then m.readRow cl f t d.indexSpace d.indexAddr (4 * d.planes) else (m, [])
      let bs := r.2.map (·.1)
      let ps := d.pairs ((List.range d.planes).map (fun i => leAt bs (4 * i) 4))
      if r.1.err ≠ 0 then r.1
      else if d.overlaps ps then { r.1 with err := 2 }
      else ps.foldl (fun (m : Move) p => m.copyRow cl f t d p) r.1

/-! ### The chain -/

/-- A ferry takes its oldest queued start (R309). -/
def Dev.chainStart (s : Dev) (f : Nat) : Dev :=
  match (s.ferry f).cur, (s.ferry f).starts with
  | none, c :: rest =>
    let s := s.updFerry f (fun y => { y with starts := rest, cur := some c, pc := if c.resume = 0 then c.addr else c.resume, waiting := false, refused := false })
    let p := (List.range 16).find? (fun p => s.planLoaded p && (s.plan p).ownsChain c.addr)
    let id := match p with | some p => (c.addr - (s.plan p).chainsBase) / 64 | none => 0
    let s := (s.setF (Obj.ferryState f) 0 2 1).setF (Obj.ferryState f) 7 2 0
    (s.setF (Obj.ferryState f) 9 4 0).setF (Obj.ferryState f) 16 16 id
  | _, _ => s

/-- A chain stops with an error (R314): it signals no further weir. -/
def Dev.chainStop (s : Dev) (f err : Nat) : Dev :=
  let s := s.wr (Obj.ferryErrorDescriptor f) (s.ferry f).pc
  let s := s.updFerry f (fun y => { y with cur := none, pc := 0, waiting := false, refused := false })
  let s := s.dropWaits (fun w => decide (w.waiter = Waiter.ferry f))
  (s.setF (Obj.ferryState f) 0 2 3).setF (Obj.ferryState f) 9 4 err

/-- A WAIT (R340, R341, R344): the device after, and whether it has completed (true), or else stands registered or at its requester. -/
def Dev.weirWait (s : Dev) (src : WeirSource) (w v : Nat) (who : Waiter) : Dev × Bool × Status :=
  if s.dieOut (w / 4096) then (s.bump (faultCtr (w / 4096) 9), false, .unavailable)
  else if !s.mayOperate src w then (s.weirRefuse w, false, .rights)
  else
    let s := s.meter (Obj.weirOpLoad (w / 4096)) 1
    if s.waitMet w v then (s, true, .ok)
    else ({ s with waits := s.waits ++ [⟨w, v, who, s.rf, decide (s.waitsOn (w / 4096) < 2048), s.stallLimit who⟩] }, false, .ok)

/-- Step 1 of R312: the wait; true once it has completed. A wait that the weir refuses never completes. -/
def Dev.chainWait (s : Dev) (f : Fin 40) (d : Desc) : Dev × Bool :=
  let y := s.ferry f.val
  if !d.waits then (s, true)
  else if y.refused then (s, false)
  else if y.waiting then (s, !s.waits.any (fun (w : PendingWait) => decide (w.waiter = Waiter.ferry f.val)))
  else
    let r := s.weirWait (.ferry f) d.waitWeir d.waitValue (.ferry f.val)
    let s := r.1.updFerry f.val (fun y => { y with waiting := true, refused := decide (r.2.2 ≠ .ok) })
    (s.setF (Obj.ferryState f.val) 0 2 (if r.2.1 then 1 else 2), r.2.1)

/-- Steps 4 and after (R312, R306): the signal, then the next descriptor, or the end of the chain. -/
def Dev.chainNext (s : Dev) (f : Fin 40) (d : Desc) : Dev :=
  let s := if d.signals then s.weirAdd (.ferry f) d.signalWeir d.signalAdd false else s
  let s := s.updFerry f.val (fun y => { y with waiting := false, refused := false })
  if d.ends then
    (((s.updFerry f.val (fun y => { y with cur := none, pc := 0 })).setF (Obj.ferryState f.val) 0 2 0).bump (Obj.ferryChains f.val))
  else s.updFerry f.val (fun y => { y with pc := y.pc + 64 })

/-- What a move leaves in the ferry's registers (R314). -/
def Move.record (m : Move) (f : Nat) : State :=
  let s := m.s.dev
  let s := if m.poisons ≠ 0 then ((s.setBit (Obj.ferryState f) 7 true).bumpBy (Obj.ferryPoison f) m.poisons).poisonExit (ferryDie f) (.ferry f) false else s
  let s := if m.busy ≠ 0 then (s.setBit (Obj.ferryState f) 8 true).bumpBy (Obj.ferryBusy f) m.busy else s
  { m.s with dev := s }

/-- The descriptor at the ferry's place (R310, R313): in the tenant's partition. -/
def State.descAt (s : State) (t a : Nat) : Option Desc :=
  if a % 64 = 0 ∧ s.dev.inRegions t a 64 = true then some (Desc.of (s.gddrBytes t a 64)) else none

/-- A refused descriptor (R313). -/
def Dev.descRefuse (s : Dev) (f t : Nat) : Dev := (s.planFaultEntry 3 f ((s.ferry f).pc % 2 ^ 32) t).chainStop f 2

/-- The move of a descriptor whose wait has completed, with the cycles it waits at the clusters (R278), and what follows (R312 to R314). [log 70 DEDUCED] -/
def State.descMove (s : State) (f : Fin 40) (t : Nat) (d : Desc) (host : Option (List Byte)) (clash : List Clash) (waited : List (Fin 128 × Nat))
    (parity : List (BitVec 12 × BitVec 12)) : State :=
  let d0 := waited.foldl (fun (d : Dev) x => d.bumpBy (Obj.portBWaits x.1.val) x.2) (s.dev.setF (Obj.ferryState f.val) 0 2 1)
  let m := Move.run { s := { s with dev := d0 }, host := host } clash f t d parity
  let s := m.record f.val
  if m.err = 0 then { s with dev := s.dev.chainNext f d }
  else if m.err = 2 then { s with dev := s.dev.descRefuse f.val t }
  else { s with dev := s.dev.chainStop f.val m.err }

/-- Whether the ferry's power domain and the GDDR6 array are on, and its die and the ferry in service (R522, R558). -/
def Dev.ferryWorks (s : Dev) (f : Nat) : Bool :=
  let die := ferryDie f
  s.domOn (if die < 4 then 132 + die else 175 + die) && s.domOn 172 && !s.dieOut die && !(s.ferry f).failed

/-- The index list of a descriptor as it stands in a scratchpad or in GDDR6. -/
def State.indexList (s : State) (t : Nat) (d : Desc) : List Nat :=
  let bs := match d.indexSpace with
    | 0 => ((upFrom d.indexAddr (4 * d.planes)).map (fun x => s.mem.padRead (x / 2 ^ 20) (x % 2 ^ 20) 1)).flatten
    | 1 => s.gddrBytes t d.indexAddr (4 * d.planes)
    | _ => []
  (List.range d.planes).map (fun i => leAt bs (4 * i) 4)

/-- What a descriptor reads and writes: the space, the address and the length of each stretch (R311). -/
def State.descRows (s : State) (t : Nat) (d : Desc) : List (Nat × Int × Nat) :=
  match d.op with
  | 0 => []
  | 4 =>
    let n := d.src % 64
    let h := s.dev.rd (Obj.outputHeight n)
    (List.range (h + 1)).map (fun y => (d.dstSpace, (d.dst : Int) + y * d.dstStride, if y = h then 8 else 2 * s.dev.rd (Obj.outputWidth n)))
  | _ =>
    (if d.indexed then [(d.indexSpace, (d.indexAddr : Int), 4 * d.planes)] else []) ++
      (d.pairs (if d.indexed then s.indexList t d else [])).flatMap (fun p =>
        (if d.reads then [(d.srcSpace, p.1, d.rowBytes)] else []) ++ [(d.dstSpace, p.2, d.rowBytes)])

/-- Whether a stretch can be reached at once: its clusters are on and have their ports (R276, R534), its GDDR6 channels do not retrain (R322). -/
def Dev.reachable (s : Dev) (t : Nat) (x : Nat × Int × Nat) : Bool :=
  match x.1 with
  | 0 => decide (x.2.1 < 0) || decide ((2 ^ 27 : Int) < x.2.1 + x.2.2) || (padPieces x.2.1.toNat x.2.2).all (fun p => s.domOn p.1 && s.padFree p.1)
  | 1 => decide (x.2.1 < 0) || !s.gddrHeld t x.2.1.toNat x.2.2
  | _ => true

/-- Whether nothing that a descriptor touches is out of reach for the time being; the ferry waits for what is. [log 119 DEDUCED] -/
def State.descAwake (s : State) (t : Nat) (d : Desc) : Bool := (s.descRows t d).all (s.dev.reachable t)

/-- The block of a descriptor, as the ferry fetches it (R323): once for each descriptor. -/
def State.descFetch (s : State) (f : Fin 40) (a : Nat) : State := if (s.dev.ferry f.val).waiting then s else s.blockRead (.ferry f) a .ok

/-- DESCRIPTOR_RUN. [log 70 DEDUCED] -/
def State.descriptorRun (s : State) (f : Fin 40) (host : Option (List Byte)) (clash : List Clash) (waited : List (Fin 128 × Nat))
    (parity : List (BitVec 12 × BitVec 12)) : State :=
  if !s.dev.ferryWorks f.val then s
  else
    let s := { s with dev := s.dev.chainStart f.val }
    match (s.dev.ferry f.val).cur with
    | none => s
    | some c =>
      let pc := (s.dev.ferry f.val).pc
      match s.descAt c.tenant pc with
      | none => { s with dev := s.dev.descRefuse f.val c.tenant }
      | some d =>
        if s.dev.gddrHeld c.tenant pc 64 then s
        else
          let s := s.descFetch f pc
          if s.dev.descBad f.val c.tenant d || (!d.indexed && d.overlaps (d.pairs [])) then { s with dev := s.dev.descRefuse f.val c.tenant }
          else
            let r := s.dev.chainWait f d
            let s := { s with dev := r.1 }
            if r.2 && s.descAwake c.tenant d then s.descMove f c.tenant d host clash waited parity else s

/-! ### Starts (R309) -/

/-- The ferry that takes the starts of ferry `f`: itself, or the next in service of its die once it has failed (R315). -/
def Dev.ferryFor (s : Dev) (f : Nat) : Nat := if (s.ferry f).failed then s.freeFerry 8 f else f

/-- FERRY_START: the oldest start on its way to ferry `f` arrives. -/
def Dev.ferryStart (s : Dev) (f : Nat) : Dev :=
  match s.starts.find? (fun c => c.ferry == f) with
  | none => s
  | some c => ({ s with starts := s.starts.eraseP (fun c => c.ferry == f) } : Dev).startQueue (s.ferryFor f) { c with ferry := s.ferryFor f }

/-- HELD_START_QUEUED: the queue has room for the oldest start held for ferry `f`. -/
def Dev.heldQueued (s : Dev) (f : Nat) : Dev :=
  match s.heldStarts.find? (fun c => c.ferry == f) with
  | none => s
  | some c =>
    let g := s.ferryFor f
    if (s.ferry g).starts.length < 16 then
      let s := { s with heldStarts := s.heldStarts.eraseP (fun c => c.ferry == f) }
      let s := s.updFerry g (fun y => { y with starts := y.starts ++ [{ c with ferry := g }] })
      if s.heldStarts.any (fun x => x.weir == c.weir) then s else s.updWeir c.weir (fun w => { w with held := false })
    else s

/-! ### The commands -/

/-- FERRY_START (R309). -/
def execFerryStart (f : Fin 40) (s : State) : Host.Outcome State Fault Refusal := s.run (fun d => d.ferryStart f.val)

/-- HELD_START_QUEUED (R309). -/
def execHeldStartQueued (f : Fin 40) (s : State) : Host.Outcome State Fault Refusal := s.run (fun d => d.heldQueued f.val)

/-- DESCRIPTOR_RUN (R310 to R314): `host` is what the host returns for the reads of the descriptor in their order, none for a completion
error; `clash` the words at which port A meets the ferry (R278); `meet.waited` the cycles it waited at clusters (R278); `meet.parity` the cells, column and row, at which a SNAPSHOT's read finds a parity error (R165). -/
def execDescriptorRun (f : Fin 40) (host : Option (List Byte)) (clash : List Clash) (meet : FerryMeet)
    (s : State) : Host.Outcome State Fault Refusal :=
  s.runM (fun s => s.descriptorRun f host clash meet.waited meet.parity)

/-- GDDR6_READ (R323, R326, R327). -/
def execGddr6Read (m : GddrMaster) (addr : BitVec 34) (check : Check) (s : State) : Host.Outcome State Fault Refusal :=
  s.runInM 172 (fun s => s.blockRead m addr.toNat check)

/-- EDC_MISMATCH (R322). -/
def execEdcMismatch (k : Fin 8) (again : Bool) (s : State) : Host.Outcome State Fault Refusal := s.runIn 172 (fun d => d.edcMismatch k.val again)

/-- A channel's retraining ends (R322, R332). [log 43 DESIGN CHOICE] -/
def Dev.retrainEnd (s : Dev) (k : Nat) (ok : Bool) : Dev :=
  if s.bit (Obj.gddrChannelState k) 4 then (if ok then s.setBit (Obj.gddrChannelState k) 4 false else s.channelFail k 1) else s

/-- CHANNEL_RETRAIN_END (R322, R332). -/
def execChannelRetrainEnd (k : Fin 8) (ok : Bool) (s : State) : Host.Outcome State Fault Refusal := s.runIn 172 (fun d => d.retrainEnd k.val ok)

/-- CHANNEL_FAILURE (R332 to R334): with the LastFailCause found. -/
def execChannelFailure (k : Fin 8) (cause : Fin 3) (s : State) : Host.Outcome State Fault Refusal :=
  s.runIn 172 (fun d => d.channelFail k.val (cause.val + 1))

/-- A scrub pass that has read every block of the array (R323): the blocks in which it found an error. -/
def State.scrubPass (s : State) (found : List (BitVec 28 × Bool)) : State :=
  let s := found.foldl (fun (s : State) x => s.blockCheck (x.1.toNat * 64) (if x.2 then .uncorrectable else .corrected)) s
  { s with dev := s.dev.bump Obj.scrubPasses }

/-- SCRUB_PASS (R323): each block found, by its address / 64, and whether its error was uncorrectable. -/
def execScrubPass (found : List (BitVec 28 × Bool)) (s : State) : Host.Outcome State Fault Refusal := s.runInM 172 (fun s => s.scrubPass found)

/-- GDDR6_TEMPERATURE_READ (R324): the reading of component `k` in °C. -/
def execGddr6TemperatureRead (k : Fin 8) (v : BitVec 16) (s : State) : Host.Outcome State Fault Refusal :=
  s.runIn 172 (fun d => d.gddrTemp k.val v.toInt)

/-- LINK_TIMING_RETRAIN (R324): the pause shows in no register. -/
def execLinkTimingRetrain (_k : Fin 8) (s : State) : Host.Outcome State Fault Refusal := s.runIn 172 (fun d => d)

/-- REGION_OWNER_WRITE (R325). -/
def execRegionOwnerWrite (q : Requester) (r : Fin 32) (v : BitVec 8) (s : State) : Host.Outcome State Fault Refusal :=
  s.askedM q (Obj.regionOwner r.val) v.toNat (fun s => s.regionOwnerWrite q r.val v.toNat)

/-- Whether a ferry reads host memory for a descriptor (R311). -/
def Desc.readsHost (d : Desc) : Bool := (d.reads && d.srcSpace == 2) || (d.indexed && d.indexSpace == 2)

/-- Whether ferry `f` has come to the data of a descriptor: it has no wait, or its wait has completed (R312). -/
def Dev.atData (s : Dev) (f : Nat) (d : Desc) : Bool :=
  let y := s.ferry f
  !d.waits || (y.waiting && !y.refused && !s.waits.any (fun w => decide (w.waiter = Waiter.ferry f)))

/-- The port at which ferry `f` has a read outstanding, and the tenant (R314): it is at the data of a descriptor that reads host memory. -/
def State.hostReadOf (s : State) (f : Nat) : Option (Nat × Nat) :=
  match (s.dev.ferry f).cur with
  | none => none
  | some c =>
    match s.descAt c.tenant (s.dev.ferry f).pc, s.dev.hostOf c.tenant with
    | some d, some p =>
      if d.readsHost && s.dev.ferryWorks f && !s.dev.descBad f c.tenant d && s.dev.atData f d then some (p, c.tenant) else none
    | _, _ => none

/-- A PCIe completion that never came (R314, R449). -/
def State.completionTimeout (s : State) (r : HostReader) : State :=
  match r with
  | .consumer n => { s with dev := s.dev.consumerReturn n.val none }
  | .ferry f =>
    match s.hostReadOf f.val with
    | none => s
    | some (p, t) => { s with dev := (s.dev.detectFor (portDie p) 0x21 (.hostPort p) 0 t).chainStop f.val 4 }

/-- COMPLETION_TIMEOUT (R314, R430): 50 ms after a read was sent. -/
def execCompletionTimeout (r : HostReader) (s : State) : Host.Outcome State Fault Refusal := s.runM (fun s => s.completionTimeout r)

end Sys2Proof.Machine
end

