-- ==== Sys2Proof/Machine/WeirCmds.lean ====
section
/-! DEFINITION. The commands of the weirs (R340 to R350): through the window, through WeirOp and WeirAction, and from the device's own agents. -/

namespace Sys2Proof.Machine

open Sys2Proof

/-! ### Operations by hosts (R347, R348) -/

/-- An ARM word (R347): the value 0 performs DISARM. -/
def Dev.armWord (s : Dev) (src : WeirSource) (w v : Nat) : Dev × Status :=
  if v = 0 then s.weirOp src w true Weir.disarm else s.weirOp src w (armValid v) (Weir.arm v)

/-- A write of an action record (R347, R349): its owner or the custodian, while the weir is not armed; a record that R345 gives to no
ActionKind is refused (R12). -/
def Dev.actionWrite (s : Dev) (src : WeirSource) (w : Nat) (data : List Byte) : Dev × Status :=
  if s.dieOut (w / 4096) then (s.bump (faultCtr (w / 4096) 9), .unavailable)
  else if !s.mayOperate src w then (s.weirRefuse w, .rights)
  else if !actionOk data then (s.weirRefuse w, .range)
  else if (s.weir w).armed then (s.weirRefuse w, .state)
  else (s.updWeir w (fun x => { x with action := actionHeld data }), .ok)

/-- A write of host port `p` in its weir window, as a request that can be held (R347, R589). -/
def windowReq (p : Fin 4) (w off : Nat) (data : List Byte) : Request := { q := .mailbox p 0, op := windowOp, idx := w, sub := off, data := data }

/-- The effect of a window write; it returns nothing (R347). [log 74 DESIGN CHOICE] -/
def Dev.windowDo (s : Dev) (r : Request) : Dev :=
  match r.q with
  | .mailbox p _ =>
    match r.sub with
    | 0x10 => (s.weirOp (.window p) r.idx true (Weir.add (leAt r.data 0 4) false)).1
    | 0x14 => (s.weirOp (.window p) r.idx true Weir.reset).1
    | 0x18 => (s.armWord (.window p) r.idx (leAt r.data 0 8)).1
    | 0x20 => (s.actionWrite (.window p) r.idx r.data).1
    | _ => s
  | _ => s

/-- A window write reaches the device. [log 74 DESIGN CHOICE] -/
def State.windowAsk (s : State) (r : Request) : Host.Outcome State Fault Refusal :=
  s.request r (fun s => s.reachAll r (s.dev.needs r) (fun s => { s with dev := s.dev.windowDo r }))

/-- A WeirOp word: 12 bytes (R348). -/
def weirOpReq (q : Requester) (w op operand : Nat) : Request :=
  { q := q, op := 2, idx := 0x6810, sub := 0, data := leBytes 2 w ++ leBytes 1 op ++ zeros 1 ++ leBytes 8 operand }

/-- The effect of a write of WeirOp (R348). -/
def Dev.weirOpDo (s : Dev) (q : Requester) (data : List Byte) : Dev :=
  let w := leAt data 0 2
  let v := leAt data 4 8
  let src : WeirSource := .request q
  if 16384 ≤ w ∨ leAt data 3 1 ≠ 0 then s.refuse q .range
  else
    let r : Dev × Status := match leAt data 2 1 with
      | 1 => s.weirOp src w (decide (v < 2 ^ 32)) (Weir.add v false)
      | 2 => s.weirOp src w true Weir.reset
      | 3 => s.armWord src w v
      | 4 => s.weirOp src w true Weir.disarm
      | _ => (s, .range)
    r.1.replyStatus q r.2

/-- A WeirOp request reaches the device: the checks of R469, then its weir's die. -/
def State.weirOpAsk (s : State) (r : Request) : Host.Outcome State Fault Refusal :=
  s.request r (fun s =>
    let st := s.dev.judgeWrite r.q r.op r.idx r.sub r.data
    if st = .ok then s.reachAll r (s.dev.needs r) (fun s => { s with dev := s.dev.weirOpDo r.q r.data })
    else { s with dev := s.dev.refuse r.q st })

/-- The effect of a write of WeirAction (R348, R349): the weir that the session's WeirSelect names. -/
def Dev.weirActionDo (s : Dev) (q : Requester) (data : List Byte) : Dev :=
  let r := s.actionWrite (.request q) (s.session (sessOf q)).weirSelect data
  r.1.replyStatus q r.2

/-! ### WeirBlockOwner (R350) -/

/-- A block in its reset state, with no action records. -/
def Dev.blockClear (s : Dev) (b : Nat) : Dev := s.each 128 (fun i s => s.weirClear (b * 128 + i))

/-- Whether a loaded plan names a weir of block `b`. -/
def Dev.blockNamed (s : Dev) (b : Nat) : Bool := s.loadedPlans.any (fun p => (s.plan p).weirNames.any (fun w => w / 128 == b))

/-- A write of WeirBlockOwner that passed the checks of R469 (R350); a repeated value changes nothing but M5 (R472, R499). -/
def Dev.weirBlockOwnerWrite (s : Dev) (q : Requester) (b v : Nat) : Dev :=
  if s.blockNamed b then s.refuse q .state
  else if s.rd (Obj.weirBlockOwner b) = v then (s.partitioned (Obj.weirBlockOwner b) (leBytes 1 v)).accept q
  else (((s.blockClear b).wr (Obj.weirBlockOwner b) v).partitioned (Obj.weirBlockOwner b) (leBytes 1 v)).accept q

/-! ### The commands -/

/-- An operation by an agent of the device. [log 73 DEDUCED] -/
def State.agentOp (s : State) (src : WeirSource) (w : Nat) (f : Weir → Weir) : Host.Outcome State Fault Refusal :=
  s.run (fun d => (d.weirOp src w true f).1)

/-- ADD (R340). The empty mark comes from the device's own agents alone (R226). -/
def execAddWeir (src : WeirSource) (w : Fin 16384) (n : BitVec 32) (empty : Bool) (s : State) : Host.Outcome State Fault Refusal :=
  match src with
  | .window p => s.windowAsk (windowReq p w.val 0x10 (leBytes 4 n.toNat))
  | .request q => s.weirOpAsk (weirOpReq q w.val 1 n.toNat)
  | src => s.agentOp src w.val (Weir.add n.toNat empty)

/-- WAIT (R340, R344): steward cores and ferries wait; units, hosts and the time base do not. -/
def execWaitOn (src : WeirSource) (w : Fin 16384) (v : BitVec 32) (s : State) : Host.Outcome State Fault Refusal :=
  s.run (fun d => match src with
    | .cluster c => (d.weirWait src w.val v.toNat (.steward c.val)).1
    | .ferry f => (d.weirWait src w.val v.toNat (.ferry f.val)).1
    | _ => d)

/-- ARM (R340): `v` is laid out as R347. -/
def execArmWeir (src : WeirSource) (w : Fin 16384) (v : BitVec 64) (s : State) : Host.Outcome State Fault Refusal :=
  match src with
  | .window p => s.windowAsk (windowReq p w.val 0x18 (leBytes 8 v.toNat))
  | .request q => s.weirOpAsk (weirOpReq q w.val 3 v.toNat)
  | src => s.run (fun d => (d.weirOp src w.val (armValid v.toNat) (Weir.arm v.toNat)).1)

/-- DISARM (R340). -/
def execDisarmWeir (src : WeirSource) (w : Fin 16384) (s : State) : Host.Outcome State Fault Refusal :=
  match src with
  | .window p => s.windowAsk (windowReq p w.val 0x18 (zeros 8))
  | .request q => s.weirOpAsk (weirOpReq q w.val 4 0)
  | src => s.agentOp src w.val Weir.disarm

/-- RESET (R340). -/
def execResetWeir (src : WeirSource) (w : Fin 16384) (s : State) : Host.Outcome State Fault Refusal :=
  match src with
  | .window p => s.windowAsk (windowReq p w.val 0x14 (zeros 4))
  | .request q => s.weirOpAsk (weirOpReq q w.val 2 0)
  | src => s.agentOp src w.val Weir.reset

/-- ACTION_RECORD_WRITE (R347 to R349): through a window, where it names the weir, or through WeirAction. -/
def execActionRecordWrite (path : RecordPath) (data : List Byte) (s : State) : Host.Outcome State Fault Refusal :=
  match path with
  | .window p w => s.windowAsk (windowReq p w.val 0x20 data)
  | .request q =>
    let r : Request := { q := q, op := 2, idx := 0x6813, sub := 0, data := bytesAt data 0 32 }
    s.request r (fun s =>
      let st := s.dev.judgeWrite q 2 0x6813 0 r.data
      if st = .ok then s.reachAll r (s.dev.needs r) (fun s => { s with dev := s.dev.weirActionDo q r.data })
      else { s with dev := s.dev.refuse q st })

/-- WEIR_BLOCK_OWNER_WRITE (R350). -/
def execWeirBlockOwnerWrite (q : Requester) (b : Fin 128) (v : BitVec 8) (s : State) : Host.Outcome State Fault Refusal :=
  s.asked q (Obj.weirBlockOwner b.val) v.toNat (fun d => d.weirBlockOwnerWrite q b.val v.toNat)

end Sys2Proof.Machine
end

