-- ==== Sys2Proof/Machine/Transfers.lean ====
section
/-! DEFINITION. DOMAIN transfers (R474 to R476): segments in order, the limits on open transfers, abandonment, and what each object's own
chapter does as a transfer begins and ends. -/

namespace Sys2Proof.Machine

open Sys2Proof

/-- The greatest segment of a requester's transport (R474). -/
def segLimit : Requester → Nat
  | .mailbox _ _ => 4096
  | .omtos _ => 1024
  | .source _ _ => 1024
  | .can _ => 0xFFFF

/-- The key of the object that a request names. -/
def reqKey (r : Request) : Nat := r.idx * 256 + r.sub

/-- The register that a request names, as a byte string. -/
def reqReg (r : Request) : Reg := Reg.at r.idx r.sub 0

/-- The open transfer of a requester. -/
def Dev.transferOf (s : Dev) (q : Requester) : Option Transfer := s.transfers.find? (fun t => decide (t.q = q))

/-- The device without the open transfer of `q`. -/
def Dev.closeTransfer (s : Dev) (q : Requester) : Dev := { s with transfers := s.transfers.filter (fun (t : Transfer) => decide (t.q ≠ q)) }

/-- Whether an object is a plan slot's PlanImage. -/
def planOf (key : Nat) : Option Nat := if 0x600000 ≤ key ∧ key < 0x601000 ∧ key % 256 = 1 then some (key / 256 - 0x6000) else none

/-- What an object's own chapter does when a transfer to it is aborted (R476): a plan slot that was LOADING is EMPTY again (R366). -/
def Dev.transferAborted (s : Dev) (key : Nat) : Dev :=
  match planOf key with
  | some p =>
    if s.rd (Obj.planState p) = 1 then (({ s with plans := Tab.erase s.plans p } : Dev).wr (Obj.planState p) 0).wr (Obj.planOwner p) 0xFF else s
  | none => s

/-- The GDDR6 of a slot zero-filled under its owner's key and released (R365, R366). -/
def State.planFree (s : State) (p : Nat) : State :=
  let s := (s.dev.allocs.filter (fun a => a.tag == p)).foldl (fun (s : State) a =>
    match (List.range 8).find? (fun t => s.dev.inRegions t a.addr a.bytes) with
    | some t => s.zeroRange t a.addr a.bytes
    | none => s) s
  { s with dev := s.dev.untake p }

/-- What a load that was aborted had taken is zero-filled and released (R365, R476): the ranges of the slots that are EMPTY. -/
def State.loadsAborted (s : State) : State := loop 16 (fun p s => if s.dev.rd (Obj.planState p) = 0 then s.planFree p else s) s

/-- A transfer is abandoned (R476). -/
def Dev.abandon (s : Dev) (t : Transfer) : Dev :=
  let s := (s.closeTransfer t.q).bump (Obj.transportCounter 7)
  let s := if t.writing then s.transferAborted t.key else s
  { s with abandoned := s.abandoned ++ [t.q] }

/-- The open transfer of a requester, abandoned where it has one (R476). -/
def Dev.abandonOf (s : Dev) (q : Requester) : Dev := match s.transferOf q with | some t => s.abandon t | none => s

/-- A segment of `q` after an abandonment is refused with ABANDONED, once (R476). -/
def Dev.wasAbandoned (s : Dev) (q : Requester) : Bool := s.abandoned.any (fun x => decide (x = q))

/-- The device once that refusal has been given. -/
def Dev.toldAbandoned (s : Dev) (q : Requester) : Dev := { s with abandoned := s.abandoned.filter (fun x => decide (x ≠ q)) }

/-- Whether a First segment would break a limit of R475. -/
def Dev.transferBusy (s : Dev) (q : Requester) (key : Nat) (writing : Bool) : Bool :=
  (s.transferOf q).isSome || decide (16 ≤ s.transfers.length) || (writing && s.transfers.any (fun t => t.writing && t.key == key))

/-- The status of a write segment before anything is done (R474 to R476): `start` is what the object's chapter says of a transfer that
would begin; `max` the object's greatest length. -/
def Dev.judgeSegment (s : Dev) (r : Request) (start : Status) (max : Nat) : Status :=
  if segLimit r.q < r.data.length then .type
  else if r.first then
    (if r.offset ≠ 0 then .sequence
     else if s.transferBusy r.q (reqKey r) true then .busy
     else if max < r.data.length then .type
     else start)
  else match s.transferOf r.q with
    | some t => if t.writing && t.key == reqKey r && t.next == r.offset then (if max < t.data.length + r.data.length then .type else .ok) else .sequence
    | none => .sequence

/-- A write segment that passed the checks of R469: it begins, continues or ends its transfer. `began` is done as a transfer begins, `arrived` with
the content so far as each segment arrives, and `finish` with the whole content as it ends; its status is the answer to the last segment
(R365, R471). [log 91 DEDUCED] -/
def State.segmentWith (s : State) (r : Request) (start : Status) (max : Nat) (began : Dev → Dev) (arrived : List Byte → State → State)
    (finish : List Byte → State → State × Status) : State :=
  if !r.first && s.dev.wasAbandoned r.q then { s with dev := (s.dev.toldAbandoned r.q).refuse r.q .abandoned }
  else
    let st := s.dev.judgeSegment r start max
    if st ≠ .ok then { s with dev := s.dev.refuse r.q st }
    else
      let old := match s.dev.transferOf r.q with | some t => t.data | none => []
      let data := old ++ r.data
      let d := s.dev.closeTransfer r.q
      let s := arrived data { s with dev := if r.first then began (d.toldAbandoned r.q) else d }
      if r.last then
        let z := finish data s
        { z.1 with dev := z.1.dev.replyStatus r.q z.2 }
      else
        let d := s.dev
        { s with dev := ({ d with transfers := d.transfers ++ [({ q := r.q, key := reqKey r, writing := true, data := data, next := r.offset + r.data.length, lastF := d.rf } : Transfer)] }).accept r.q }

/-- A write segment to an object for which the arrival of a segment does nothing of its own. [log 91 DEDUCED] -/
def State.segment (s : State) (r : Request) (start : Status) (max : Nat) (began : Dev → Dev) (finish : List Byte → State → State × Status) : State :=
  s.segmentWith r start max began (fun _ s => s) finish

/-- A segment of a DOMAIN write as a request. -/
def segReq (q : Requester) (r : Reg) (g : Seg) : Request :=
  { q := q, op := 2, idx := r.key / 256, sub := r.key % 256, offset := g.offset, first := g.first, last := g.last, data := g.data }

/-- TRANSFER_IDLE_TIMEOUT (R476): no segment for 1 s. A CAN FD transfer is aborted with 0x0504_0000 (R484). -/
def Dev.transferIdle (s : Dev) (q : Requester) : Dev :=
  match s.transferOf q with
  | some t => if t.lastF + 1000000000 ≤ s.rf then (s.abandon t).sdoAbort q .abandoned else s
  | none => s

/-- TRANSFER_IDLE_TIMEOUT (R476). -/
def execTransferIdleTimeout (q : Requester) (s : State) : Host.Outcome State Fault Refusal :=
  s.runM (fun s => ({ s with dev := s.dev.transferIdle q } : State).loadsAborted)

end Sys2Proof.Machine
end

