-- ==== Sys2Proof/Machine/PlanImage.lean ====
section
/-! DEFINITION. Plan images (R351 to R364): the header, the section table, the tables of each section, and the checks of R365. -/

namespace Sys2Proof.Machine

open Sys2Proof

/-- `n`-byte entries, as many as there are. -/
def entriesOf (n : Nat) (bs : List Byte) : List (List Byte) := (List.range (bs.length / n)).map (fun i => (bs.drop (n * i)).take n)

/-! ### Header and sections (R351, R352) -/

/-- A section: its type, whether it is Required, where it stands, how long it is. -/
structure PlanSection where
  type : Nat
  required : Bool
  offset : Nat
  bytes : Nat
  deriving DecidableEq, Repr

/-- The section table of an image. -/
def planSections (img : List Byte) : List PlanSection :=
  (entriesOf 16 ((img.drop 64).take (16 * leAt img 6 2))).map (fun e => ⟨leAt e 0 2, bitAt (leAt e 2 2) 0, leAt e 4 4, leAt e 8 8⟩)

/-- Whether the image's minor version defines a section type (R352). -/
def sectionKnown (minor type : Nat) : Bool := (1 ≤ type && type ≤ 9) || (type == 0x0A && 1 ≤ minor) || (type == 0x0B && 2 ≤ minor)

/-- The bytes of the section of a type, none where the image has none it understands. -/
def planSection (img : List Byte) (type : Nat) : List Byte :=
  if sectionKnown (leAt img 4 1) type then
    match (planSections img).find? (fun x => x.type == type) with
    | some x => (img.drop x.offset).take x.bytes
    | none => []
  else []

/-- The digest of an image, its own 32 bytes taken as zero (R351). -/
def planDigestOf (img : List Byte) : List Byte := sha3 (putBytes img 16 (zeros 32))

/-- The entries, of `n` bytes, of a section that begins with a count (R356). -/
def countedEntries (n : Nat) (sec : List Byte) : List (List Byte) :=
  (entriesOf n ((sec.drop 8).take (n * leAt sec 0 4)))

/-- The records of a table in a section (R356). -/
def tableOf (sec : List Byte) (off count n : Nat) : List (List Byte) := entriesOf n ((sec.drop off).take (count * n))

/-! ### Entries -/

/-- Signed fields of a record are not used here; every field is unsigned. A WEIRMAP entry (R353). -/
def parseWeir (base : Nat) (e : List Byte) : WeirEntry :=
  let a := (e.drop 16).take 32
  let kind := field (leAt e 7 1) 2 2
  { weir := leAt e 0 2, phaseMask := leAt e 2 2, target := leAt e 4 3, armFlags := leAt e 7 1,
    action := if kind = 2 then putBytes a 8 (leBytes 8 (base + 64 * leAt a 8 8)) else a }

/-- Pairs of ferry and descriptor index (R354, R355). -/
def parseStarts (bs : List Byte) (n : Nat) : List (Nat × Nat) := (List.range n).map (fun i => (leAt bs (3 * i) 1, leAt bs (3 * i + 1) 2))

/-- The phases so far, and how many pairs the last one still lacks; none where a rule of R354 is broken. -/
def gatherPhase (acc : Option (List PhaseEntry × Nat)) (e : List Byte) : Option (List PhaseEntry × Nat) :=
  match acc with
  | none => none
  | some (ps, need) =>
    let starts (n : Nat) : List (Nat × Nat) := parseStarts (e.drop 8) n
    if leAt e 0 1 = 0xFF then
      match ps.getLast? with
      | some p =>
        if need = 0 then none
        else some (ps.dropLast ++ [{ p with starts := p.starts ++ starts (min need 18) }], need - min need 18)
      | none => none
    else
      let n := leAt e 1 1
      if need ≠ 0 ∨ 48 < n ∨ 15 < leAt e 0 1 then none
      else some (ps ++ [{ phase := leAt e 0 1, timeout := leAt e 4 4, starts := starts (min n 18) }], n - min n 18)

/-- The PHASES of an image; none where R354 fails. -/
def parsePhases (sec : List Byte) : Option (List PhaseEntry) :=
  match (entriesOf 64 sec).foldl gatherPhase (some ([], 0)) with
  | some (ps, 0) => some ps
  | _ => none

/-- An ALTERNATES entry (R355). -/
def parseAlt (e : List Byte) : AltEntry :=
  { cluster := leAt e 0 1, alternate := leAt e 1 1, phaseMask := leAt e 2 2, firstDesc := leAt e 4 4, descCount := leAt e 8 2,
    weirCount := leAt e 10 2, firstWeir := leAt e 12 4, firstPlace := leAt e 16 2, placeCount := leAt e 18 1,
    startCount := leAt e 19 1, starts := parseStarts (e.drop 20) (min 4 (leAt e 19 1)) }

/-- A PLACEMENT entry with its windows (R357). -/
def parsePlace (sec e : List Byte) : PlaceEntry :=
  { phase := leAt e 0 1, mode := leAt e 1 1, cluster := leAt e 2 1, objectSeed := bitAt (leAt e 3 1) 0, steward := leAt e 4 2,
    unitBlob := leAt e 6 2, seed := leAt e 8 8,
    windows := (tableOf sec (leAt e 16 4) (leAt e 20 2) 8).map (fun w => (leAt w 0 1, leAt w 1 1, leAt w 4 4)) }

/-- A KERNELS entry with its blob (R358). -/
def parseBlob (sec e : List Byte) : Blob := { kind := leAt e 0 1, format := leAt e 1 1, bytes := (sec.drop (leAt e 4 4)).take (leAt e 8 4) }

/-- A ROUTES entry (R360). -/
def parseRoute (e : List Byte) : RouteEntry :=
  { stream := leAt e 0 1, sel := leAt e 1 1, kind := leAt e 2 1, slot := leAt e 3 1, dest := leAt e 4 2, phaseMask := leAt e 6 2 }

/-- A CHANNELS entry (R363). -/
def parseChannel (e : List Byte) : ChannelEntry :=
  { channel := leAt e 0 1, kind := leAt e 1 1, sel := leAt e 2 1, stream := leAt e 3 1, population := leAt e 4 2, phaseMask := leAt e 6 2 }

/-- A POPULATIONS entry with its tables (R361). -/
def parsePop (sec e : List Byte) : PopEntry :=
  { number := leAt e 0 2, width := leAt e 2 2, height := leAt e 4 2, channels := leAt e 6 2, tickLength := leAt e 8 4, tickOrigin := leAt e 12 10,
    threshold := leAt e 24 4, leakMode := leAt e 28 1, resetMode := leAt e 29 1, multiplicity := leAt e 30 1, refractory := leAt e 31 1,
    leakParam := leAt e 32 4, horizonTimeout := leAt e 36 4, gateMask := leAt e 40 8, countTicks := leAt e 48 2, countPool := leAt e 50 1,
    countFormat := leAt e 51 1, countWeir := leAt e 52 2, phaseMask := leAt e 54 2,
    map := (tableOf sec (leAt e 56 4) (leAt e 60 2) 16).map (fun m => ⟨leAt m 0 1, leAt m 1 1, leAt m 2 2, leAt m 4 4, leAt m 8 2⟩),
    routes := (tableOf sec (leAt e 64 4) (leAt e 62 2) 4).map (fun r => (leAt r 0 1, leAt r 2 2)),
    projections := (tableOf sec (leAt e 72 4) (leAt e 68 2) 32).map (fun p =>
      { projection := leAt p 0 2, kind := leAt p 2 1, inputChannel := leAt p 3 1, sourcePop := leAt p 4 2, sourceStream := leAt p 6 1,
        sourceSlot := leAt p 7 1, k := leAt p 8 1, s := leAt p 9 1, weightFormat := leAt p 10 1, shift := leAt p 11 1, inputShift := leAt p 12 1,
        weightBits := leAt p 13 1, blob := leAt p 14 2, sourceChannels := leAt p 16 4 }),
    slots := (tableOf sec (leAt e 76 4) (leAt e 70 2) 8).map (fun p => ⟨leAt p 0 1, leAt p 1 1, leAt p 2 2, leAt p 4 1⟩) }

/-- A LAYERS entry with its tables (R362). -/
def parseLayer (sec e : List Byte) : LayerEntry :=
  { number := leAt e 0 2, op := leAt e 2 1, mapping := leAt e 3 1, inC := leAt e 4 2, inH := leAt e 6 2, inW := leAt e 8 2,
    inFormat := leAt e 10 1, outFormat := leAt e 11 1, outC := leAt e 12 2, kh := leAt e 14 1, kw := leAt e 15 1, sy := leAt e 16 1,
    sx := leAt e 17 1, dy := leAt e 18 1, dx := leAt e 19 1, groups := leAt e 20 2, padMode := leAt e 22 1, padT := leAt e 23 1,
    padB := leAt e 24 1, padL := leAt e 25 1, padR := leAt e 26 1, rounding := leAt e 27 1, param := leAt e 28 1, weightFormat := leAt e 29 1,
    weir := leAt e 30 2, weights := leAt e 32 2, convert := leAt e 34 2, activation := leAt e 36 2, phaseMask := leAt e 38 2,
    input := leAt e 40 8, input2 := leAt e 48 8, output := leAt e 56 8, inLayer := leAt e 64 2, inLayer2 := leAt e 66 2,
    stripes := (tableOf sec (leAt e 72 4) (leAt e 68 2) 16).map (fun t => ⟨leAt t 0 1, leAt t 2 2, leAt t 4 2, leAt t 8 4, leAt t 12 4⟩),
    halos := (tableOf sec (leAt e 76 4) (leAt e 70 2) 16).map (fun h =>
      ⟨leAt h 0 1, leAt h 1 1, leAt h 2 2, leAt h 4 2, leAt h 6 2, leAt h 8 2, leAt h 12 4⟩),
    buildSource := leAt e 80 2, buildBins := leAt e 82 1, buildWindow := leAt e 84 4, buildOrigin := leAt e 88 10, buildTimeout := leAt e 100 4,
    buildControl := leAt e 104 4, surfaceSpan := leAt e 108 4, inFormat2 := leAt e 10 1 }

/-- The format of each layer's second input: the output format of the layer that produces it, else that of the first input. [log 63 DEDUCED] -/
def secondFormats (ls : List LayerEntry) : List LayerEntry :=
  ls.map (fun e => match ls.find? (fun q => e.inLayer2 != 0xFFFF && q.number == e.inLayer2) with
    | some q => { e with inFormat2 := q.outFormat }
    | none => e)

/-! ### Check 0x05: structure -/

/-- Whether a table lies in its section at an aligned offset (R356). -/
def tableOk (sec : List Byte) (off count n : Nat) : Bool := off % 8 == 0 && decide (off + count * n ≤ sec.length)

/-- Whether a counted section holds its entries (R356). -/
def countedOk (n : Nat) (sec : List Byte) : Bool := decide (8 ≤ sec.length) && decide (8 + n * leAt sec 0 4 ≤ sec.length)

/-- Two sections overlap. -/
def PlanSection.overlaps (a b : PlanSection) : Bool := decide (a.offset < b.offset + b.bytes) && decide (b.offset < a.offset + a.bytes)

/-- Every two of a list satisfy `p`. -/
def allPairs {α : Type} (p : α → α → Bool) : List α → Bool
  | [] => true
  | x :: xs => xs.all (p x) && allPairs p xs

/-- Whether a table of fixed-size entries is a whole number of them (R356). [log 76 DEDUCED] -/
def wholeOk (n : Nat) (sec : List Byte) : Bool := sec.length % n == 0

/-- The replacement PLACEMENT entries of the alternates. -/
def altRange (as : List AltEntry) (first count : AltEntry → Nat) (i : Nat) : Bool := as.any (fun a => decide (first a ≤ i) && decide (i < first a + count a))

/-- The PLACEMENT entries outside the alternates'. -/
def placesInForce (as : List AltEntry) (ps : List PlaceEntry) : List PlaceEntry :=
  (ps.zipIdx.filter (fun q => !altRange as (·.firstPlace) (·.placeCount) q.2)).map (·.1)

/-- The WEIRMAP entries outside the alternates'. -/
def weirsInForce (as : List AltEntry) (ws : List WeirEntry) : List WeirEntry :=
  (ws.zipIdx.filter (fun q => !altRange as (·.firstWeir) (·.weirCount) q.2)).map (·.1)

/-- The structure of the section table (R351, R365). [log 76 DEDUCED] -/
def tableGood (img : List Byte) : Bool :=
  let n := leAt img 6 2
  let ss := planSections img
  1 ≤ n && n ≤ 64 && decide (64 + 16 * n ≤ img.length) && 1 ≤ leAt img 48 2 && leAt img 48 2 ≤ 16 && decide (leAt img 50 2 < leAt img 48 2) &&
  ss.all (fun x => x.offset % 64 == 0 && decide (64 + 16 * n ≤ x.offset) && decide (x.offset + x.bytes ≤ img.length) &&
    (!x.required || sectionKnown (leAt img 4 1) x.type)) &&
  allPairs (fun a b => !a.overlaps b && a.type != b.type) ss &&
  [1, 4, 5].all (fun t => ss.any (fun x => x.type == t))

/-- The clusters that a phase uses (R357): those that hold neurons of a population of the phase, or a stripe with rows of a layer of it. -/
def PlanSlot.usedIn (x : PlanSlot) (q : Nat) : List Nat :=
  (x.pops.filter (fun e => inPhase e.phaseMask q)).flatMap (fun e => e.map.map (·.cluster)) ++
  (x.layers.filter (fun e => inPhase e.phaseMask q)).flatMap (fun e => (e.stripes.filter (fun z => z.rows != 0)).map (·.cluster))

/-- Whether each cluster that a phase uses has its entry for that phase (R357). -/
def PlanSlot.usesPlaced (x : PlanSlot) (phases : Nat) : Bool :=
  (List.range phases).all (fun q => (x.usedIn q).all (fun c => x.places.any (fun p => p.phase == q && p.cluster == c)))

/-- The structure of each section (R354, R356, R357, R365). [log 76 DEDUCED] -/
def sectionsGood (img : List Byte) : Bool :=
  let sec := planSection img
  let pl := sec 1
  let ke := sec 2
  let po := sec 7
  let la := sec 8
  let alts := (entriesOf 32 (sec 9)).map parseAlt
  let has (t : Nat) : Bool := (planSections img).any (fun x => x.type == t)
  wholeOk 64 (sec 3) && wholeOk 48 (sec 4) && wholeOk 64 (sec 5) && wholeOk 16 (sec 6) && wholeOk 32 (sec 9) && wholeOk 8 (sec 10) && wholeOk 8 (sec 11) &&
  (parsePhases (sec 5)).isSome &&
  countedOk 32 pl && (countedEntries 32 pl).all (fun e => tableOk pl (leAt e 16 4) (leAt e 20 2) 8 && decide (leAt e 20 2 ≤ 144) && decide (leAt e 0 1 < 16)) &&
  ((countedEntries 32 pl).map (parsePlace pl)).all (fun p => p.windows.all (fun w => decide (w.1 ≤ 17) && decide (w.2.1 < 8))) &&
  allPairs (fun (a b : PlaceEntry) => !(a.phase == b.phase && a.cluster == b.cluster)) (placesInForce alts ((countedEntries 32 pl).map (parsePlace pl))) &&
  (!has 2 || (countedOk 16 ke && (countedEntries 16 ke).all (fun e => leAt e 4 4 % 64 == 0 && decide (leAt e 4 4 + leAt e 8 4 ≤ ke.length)))) &&
  (!has 7 || (countedOk 96 po && (countedEntries 96 po).all (fun e => tableOk po (leAt e 56 4) (leAt e 60 2) 16 && tableOk po (leAt e 64 4) (leAt e 62 2) 4 &&
    tableOk po (leAt e 72 4) (leAt e 68 2) 32 && tableOk po (leAt e 76 4) (leAt e 70 2) 8))) &&
  (!has 8 || (countedOk 128 la && (countedEntries 128 la).all (fun e => tableOk la (leAt e 72 4) (leAt e 68 2) 16 && tableOk la (leAt e 76 4) (leAt e 70 2) 16)))

/-! ### The loaded tables -/

/-- The descriptors of an image (R359). -/
def chainDescs (img : List Byte) : List Desc := (entriesOf 64 (planSection img 3)).map Desc.of

/-- The weirs that a descriptor names (R310). -/
def Desc.weirs (d : Desc) : List Nat := (if d.waits then [d.waitWeir] else []) ++ (if d.signals then [d.signalWeir] else [])

/-- The addresses in space `k` that a descriptor names (R311). -/
def Desc.addrs (d : Desc) (k : Nat) : List Nat :=
  (if d.reads && d.srcSpace == k then [d.src] else []) ++ (if d.op != 0 && d.dstSpace == k then [d.dst] else []) ++
  (if d.indexed && d.indexSpace == k then [d.indexAddr] else [])

/-- The tables of an image whose CHAINS section stands at `base` (R359). -/
def parsePlan (img : List Byte) (base : Nat) : PlanSlot :=
  let sec := planSection img
  let alts := (entriesOf 32 (sec 9)).map parseAlt
  let ws := (entriesOf 48 (sec 4)).map (parseWeir base)
  let ps := (countedEntries 32 (sec 1)).map (parsePlace (sec 1))
  { weirs := weirsInForce alts ws, allWeirs := ws, phases := (parsePhases (sec 5)).getD [], alternates := alts, places := placesInForce alts ps,
    allPlaces := ps, blobs := (countedEntries 16 (sec 2)).map (parseBlob (sec 2)), routes := (entriesOf 16 (sec 6)).map parseRoute,
    channels := (entriesOf 8 (sec 10)).map parseChannel, stalls := (entriesOf 8 (sec 11)).map (fun e => (leAt e 0 1, leAt e 4 4)),
    pops := (countedEntries 96 (sec 7)).map (parsePop (sec 7)), layers := secondFormats ((countedEntries 128 (sec 8)).map (parseLayer (sec 8))),
    descriptors := (sec 3).length / 64, chainsBase := base,
    chainWeirs := (chainDescs img).flatMap Desc.weirs, chainClusters := (chainDescs img).flatMap (fun d => (d.addrs 0).map (· / 2 ^ 20)), entry := leAt img 50 2 }

/-- Every cluster an image names (R365, R441). -/
def PlanSlot.clusterNames (x : PlanSlot) : List Nat :=
  x.chainClusters ++ x.allPlaces.map (·.cluster) ++ x.alternates.map (·.cluster) ++ x.alternates.map (·.alternate) ++
  x.pops.flatMap (fun e => e.map.map (·.cluster) ++ (e.routes.filter (fun r => r.1 == 0)).map (·.2) ++ (e.slots.filter (fun z => z.kind != 0)).map (·.cluster)) ++
  x.layers.flatMap (fun e => e.stripes.map (·.cluster) ++ e.halos.map (·.consumer) ++ e.halos.map (·.producer))

/-- Every stream an image names. -/
def PlanSlot.streamNames (x : PlanSlot) : List Nat :=
  x.routes.map (·.stream) ++ (x.channels.filter (fun e => e.kind == 0)).map (·.stream) ++
  x.pops.flatMap (fun e => (e.slots.filter (fun z => z.kind == 0)).map (·.source) ++
    (e.projections.filter (fun z => z.sourcePop == 0xFFFF)).map (·.sourceStream)) ++
  (x.layers.filter (fun e => e.builder && decide (e.buildSource < 0x400))).map (·.buildSource)

/-- Every chain start an image names: ferry and descriptor index. -/
def PlanSlot.startNames (x : PlanSlot) : List (Nat × Nat) :=
  x.phases.flatMap (·.starts) ++ x.alternates.flatMap (·.starts) ++
  (x.allWeirs.filter (fun e => field e.armFlags 2 2 == 2)).map (fun e => (leAt e.action 0 1, (leAt e.action 8 8 - x.chainsBase) / 64))

/-- Check 0x06: everything lies in the partition of tenant `t`; `gs` are the GDDR6 addresses that the descriptors name. -/
def Dev.planFits (s : Dev) (t : Nat) (x : PlanSlot) (gs : List Nat) : Bool :=
  gs.all (fun a => s.inRegions t a 1) &&
  x.clusterNames.all (fun c => c < 128 && s.rd (Obj.clusterOwner c) == t) &&
  x.weirNames.all (fun w => w < 16384 && s.weirOwner w == t) &&
  x.streamNames.all (fun n => n < 36 && s.rd (Obj.streamTenant n) == t) &&
  x.channels.all (fun e => e.channel < 64 && s.rd (Obj.channelOwner e.channel) == t) &&
  x.startNames.all (fun z => z.1 < 40 && decide (z.2 < x.descriptors)) &&
  x.layers.all (fun e => [e.input, e.input2, e.output].all (fun a => a == 0 || s.inRegions t a 1))

/-- Check 0x07: no cluster, weir or channel is named by another loaded plan. -/
def Dev.planApart (s : Dev) (p : Nat) (x : PlanSlot) : Bool :=
  (s.loadedPlans.filter (· != p)).all (fun k =>
    let y := s.plan k
    !x.clusterNames.any y.clusterNames.contains && !x.weirNames.any y.weirNames.contains && !x.channels.any (fun e => y.namesChannel e.channel))

/-! ### Check 0x08: populations -/

/-- Whether two neuron map records share a neuron number or a place. -/
def NeuronMap.clash (a b : NeuronMap) : Bool :=
  (decide (a.firstNeuron < b.firstNeuron + b.count) && decide (b.firstNeuron < a.firstNeuron + a.count)) ||
  (a.cluster == b.cluster && a.unit == b.unit && decide (a.firstIndex < b.firstIndex + b.count) && decide (b.firstIndex < a.firstIndex + a.count))

/-- The shape and the placing of a population (R182). -/
def PopEntry.placed (e : PopEntry) : Bool :=
  let n := e.width * e.height * e.channels
  1 ≤ e.width && e.width ≤ 4096 && 1 ≤ e.height && e.height ≤ 4096 && 1 ≤ e.channels && e.channels ≤ 256 &&
  e.map.all (fun m => m.unit < 16 && 1 ≤ m.count && m.firstIndex + m.count ≤ 4096 && decide (m.firstNeuron + m.count ≤ n)) &&
  allPairs (fun a b => !a.clash b) e.map && (e.map.map (·.count)).sum == n

/-- Whether the populations of a plan that share a phase share no neuron index. -/
def popsApart (xs : List PopEntry) : Bool :=
  allPairs (fun (a b : PopEntry) => a.phaseMask &&& b.phaseMask == 0 || !a.map.any (fun m => b.map.any (fun k =>
    m.cluster == k.cluster && m.unit == k.unit && decide (m.firstIndex < k.firstIndex + k.count) && decide (k.firstIndex < m.firstIndex + m.count)))) xs

/-! ### Check 0x09: content -/

/-- Whether blob `i` is of kind `k`; 0xFFFF names none. -/
def PlanSlot.blobIs (x : PlanSlot) (i k : Nat) : Bool := i == 0xFFFF || (match x.blobs[i]? with | some b => b.kind == k | none => false)

/-- The bytes of blob `i`. -/
def PlanSlot.blobBytes (x : PlanSlot) (i : Nat) : List Byte := match x.blobs[i]? with | some b => b.bytes | none => []

/-- A T80 value that is a whole number of microseconds. -/
def wholeMicros (v : Nat) : Bool := v % 2 ^ 32 ≤ 999999999 && v % 2 ^ 32 % 1000 == 0

/-- Whether a neuron is active on a cluster (R184). -/
def PopEntry.active (e : PopEntry) (c unit index : Nat) : Bool :=
  e.map.any (fun m => m.cluster == c && m.unit == unit && decide (m.firstIndex ≤ index) && decide (index < m.firstIndex + m.count))

/-- Whether a list block of a sparse blob is well formed, for `n` source neurons, on cluster `c` (R201, R358). -/
def blockGood (e : PopEntry) (bs : List Byte) (c at_ n : Nat) : Bool :=
  let off (i : Nat) : Nat := leAt bs (at_ + 4 * i) 4
  decide (at_ + 4 * (n + 1) ≤ bs.length) &&
  (List.range (n + 1)).all (fun i => off i % 4 == 0 && decide (at_ + off i ≤ bs.length)) &&
  (List.range n).all (fun i => decide (off i ≤ off (i + 1)) &&
    (List.range ((off (i + 1) - off i) / 4)).all (fun j =>
      let v := leAt bs (at_ + off i + 4 * j) 4
      e.active c (field v 12 4) (field v 0 12)))

/-- A sparse blob (R358): one record for each cluster of the population, in ascending order. -/
def sparseGood (e : PopEntry) (bs : List Byte) (n : Nat) : Bool :=
  let cs := sortBy (fun a b => decide (a ≤ b)) e.clusters
  let k := leAt bs 0 4
  decide (8 + 8 * k ≤ bs.length) && leAt bs 4 4 == 0 && (List.range k).all (fun i => leAt bs (9 + 8 * i) 3 == 0) && ((List.range k).map (fun i => leAt bs (8 + 8 * i) 1)) == cs &&
  (List.range k).all (fun i => blockGood e bs (leAt bs (8 + 8 * i) 1) (leAt bs (12 + 8 * i) 4) n)

/-- Whether a format code is a block-scaled one. -/
def blockScaled (f : Nat) : Bool := f == 12 || f == 13

/-- A projection (R200 to R202, R361). -/
def PlanSlot.projGood (x : PlanSlot) (e : PopEntry) (p : Projection) : Bool :=
  let source := x.pops.find? (fun q => q.number == p.sourcePop)
  p.projection < 4096 && p.sourceSlot < 64 &&
  (p.sourcePop == 0xFFFF || source.isSome) &&
  (match p.kind with
   | 0 => p.k % 2 == 1 && p.k ≤ 15 && [1, 2, 4].contains p.s && p.weightFormat ≤ 3 && p.shift ≤ 15 && p.inputShift ≤ 4 &&
          (p.sourcePop != 0xFFFF || p.inputChannel ≤ 3) && p.blob != 0xFFFF && x.blobIs p.blob 6
   | 1 => p.sourcePop != 0xFFFF && p.weightFormat != 15 && !blockScaled p.weightFormat && 1 ≤ p.weightBits && p.weightBits ≤ 8 && p.blob != 0xFFFF && x.blobIs p.blob 7 &&
          (match source with | some q => sparseGood e (x.blobBytes p.blob) (q.width * q.height * q.channels) | none => false)
   | _ => false)

/-- The ranges of a population's parameters (R185 to R211), and its projections. -/
def PlanSlot.popGood (x : PlanSlot) (e : PopEntry) : Bool :=
  1 ≤ e.tickLength && e.tickLength ≤ 1000 && wholeMicros e.tickOrigin && 1 ≤ e.threshold && e.threshold ≤ 4194303 &&
  leakOk e.leakMode e.leakParam && e.resetMode ≤ 1 && e.multiplicity ≤ 1 && e.refractory ≤ 15 && e.horizonTimeout ≤ 65535 && e.countPool ≤ 3 &&
  (e.countFormat == 4 || e.countFormat == 5) && decide (e.routes.length ≤ 32) && decide (e.slots.length ≤ 64) &&
  e.routes.all (fun r => r.1 ≤ 1) && e.slots.all (fun z => z.slot < 64 && z.kind ≤ 1 && (z.kind == 0 || x.pops.any (fun q => q.number == z.source))) &&
  e.projections.all (x.projGood e)

/-- Formats of CONV and MATMUL operands that go together (R216). -/
def formatsAgree (a w : Nat) : Bool :=
  (a ≤ 6 && w ≤ 6) || (7 ≤ a && a ≤ 11 && 7 ≤ w && w ≤ 11) || (blockScaled w && 7 ≤ a && a ≤ 10)

/-- The operator's parameters (R221, R225). -/
def LayerEntry.paramsGood (e : LayerEntry) : Bool :=
  let kernel : Bool := 1 ≤ e.kh && e.kh ≤ 31 && 1 ≤ e.kw && e.kw ≤ 31 && 1 ≤ e.sy && e.sy ≤ 16 && 1 ≤ e.sx && e.sx ≤ 16
  let pads : Bool := e.padMode ≤ 2 && [e.padT, e.padB, e.padL, e.padR].all (· ≤ 31)
  let pm : Bool := e.mapping == 1
  match e.op with
  | 1 => e.mapping ≤ 1 && kernel && pads && 1 ≤ e.dy && e.dy ≤ 8 && 1 ≤ e.dx && e.dx ≤ 8 && e.groups != 0 && e.inC % e.groups == 0 &&
         e.outC % e.groups == 0 && formatsAgree e.inFormat e.weightFormat
  | 2 => pm && kernel && pads
  | 3 => pm && kernel && pads && e.param ≤ 1
  | 4 => pm
  | 5 => e.mapping == 0 && e.inH != 0 && e.inW != 0 && e.outC != 0 && formatsAgree e.inFormat e.weightFormat && e.param ≤ 1 &&
         (!blockScaled e.weightFormat || e.param == 1)
  | 6 => pm && field e.param 0 3 ≤ 4 && field e.param 3 4 == 0
  | 7 => pm
  | 8 => pm && [1, 2].contains (field e.param 0 2) && [1, 2].contains (field e.param 2 2) && e.param < 16
  | 16 | 17 | 18 => e.mapping == 0xFF && 1 ≤ e.buildBins && e.buildBins ≤ 16 && 100 ≤ e.buildWindow && e.buildWindow ≤ 50000 && wholeMicros e.buildOrigin &&
         e.buildTimeout ≤ 65535 && e.buildControl < 64 && field e.buildControl 3 2 != 3 && 100 ≤ e.surfaceSpan && e.surfaceSpan ≤ 60000
  | _ => false

/-- The bytes of an activation table of an output format (R223); none where a table is refused. -/
def tableBytes (fmt : Nat) : Option Nat := if [3, 4, 7, 8].contains fmt then some 256 else if [9, 10, 11].contains fmt then some 520 else none

/-- Whether every element past R in the last block of each row is zero (R254). `R` is the reduction length. -/
def blocksPadded (fmt r : Nat) (bs : List Byte) : Bool :=
  let nb := ceilDiv r 32
  let eb := if fmt = 12 then 16 else 32
  let pitch := ceilDiv ((eb + 1) * nb) 16 * 16
  nb == 0 || (List.range (ceilDiv bs.length pitch)).all (fun row => (List.range (nb * 32 - r)).all (fun i =>
    let k := r + i
    (if fmt = 12 then field (leAt bs (row * pitch + k / 2) 1) (4 * (k % 2)) 4 else leAt bs (row * pitch + k) 1) == 0))

/-- The reduction length of a weighted layer (R219, R252). -/
def LayerEntry.reduction (e : LayerEntry) : Nat := if e.op = 5 then e.inW else e.inC / e.groups * e.kh * e.kw

/-- The second input of ELTWISE has the first's shape, or is C × 1 × 1 where it is broadcast (R221), as far as the plan gives it. -/
def PlanSlot.eltGood (x : PlanSlot) (e : LayerEntry) : Bool :=
  e.op != 6 || (match x.layerNum e.inLayer2 with
    | none => true
    | some q => q.builder || (q.planes == e.inC && q.outSize == (if bitAt e.param 7 then (1, 1) else ((e.inH : Int), (e.inW : Int)))))

/-- Content of a layer (R216, R221, R223, R252, R254, R358). -/
def PlanSlot.layerGood (x : PlanSlot) (e : LayerEntry) : Bool :=
  let weighted : Bool := e.op == 1 || e.op == 5
  let builder : Bool := decide (16 ≤ e.op)
  e.paramsGood && e.inFormat < 12 && e.outFormat < 12 && e.rounding ≤ 2 &&
  e.weightFormat != 15 &&
  (e.inC ≤ 4096 || e.op == 5) && ((e.inH ≤ 4096 && e.inW ≤ 4096 && e.outC ≤ 4096) || e.op == 5) &&
  (e.op == 5 || (decide (e.outSize.1 ≤ 4096) && decide (e.outSize.2 ≤ 4096))) && x.eltGood e &&
  (!weighted || (e.weightFormat < 14 && e.weights != 0xFFFF && x.blobIs e.weights 3 && (match x.blobs[e.weights]? with | some b => b.format == e.weightFormat | none => false) &&
    (!blockScaled e.weightFormat || blocksPadded e.weightFormat e.reduction (x.blobBytes e.weights)))) &&
  x.blobIs e.convert 4 && x.blobIs e.activation 5 &&
  (builder || e.activation == 0xFFFF || decide (tableBytes e.outFormat = some (x.blobBytes e.activation).length)) &&
  [e.inLayer, e.inLayer2].all (fun n => n == 0xFFFF || x.layers.any (fun q => q.number == n)) &&
  (!builder || e.buildSource < 36 || (0x400 ≤ e.buildSource && x.pops.any (fun q => q.number == e.buildSource - 0x400)))

/-- Check 0x09. -/
def PlanSlot.contentGood (x : PlanSlot) : Bool :=
  x.blobs.all (fun b => 1 ≤ b.kind && b.kind ≤ 7 && (if b.kind == 3 then b.format < 14 else if b.kind == 6 then b.format < 12 else b.format == 0xFF)) &&
  x.allWeirs.all (fun e => field e.armFlags 2 2 == 0 || actionGood (field e.armFlags 2 2) e.action) &&
  x.allPlaces.all (fun p => (p.mode == 1 || p.mode == 2) && x.blobIs p.steward 1 && x.blobIs p.unitBlob 2) &&
  x.pops.all x.popGood && x.layers.all x.layerGood &&
  x.routes.all (fun r => r.sel < 8 && r.slot < 64 && (match r.kind with
    | 0 => x.pops.any (fun q => q.number == r.dest)
    | 1 => x.layers.any (fun q => q.number == r.dest && decide (16 ≤ q.op))
    | 2 => true
    | _ => false)) &&
  x.channels.all (fun e => (e.kind == 0 && e.sel < 8) || (e.kind == 1 && x.pops.any (fun q => q.number == e.population))) &&
  x.stalls.all (fun z => z.2 == 0 || (1000 ≤ z.2 && z.2 ≤ 10000000)) &&
  allPairs (fun (a b : PopEntry) => a.number != b.number) x.pops && allPairs (fun (a b : LayerEntry) => a.number != b.number) x.layers

/-- Check 0x0A (R355). -/
def PlanSlot.alternatesGood (x : PlanSlot) : Bool :=
  x.alternates.all (fun a => a.startCount ≤ 4 &&
    let ps := (x.allPlaces.drop a.firstPlace).take a.placeCount
    a.alternate / 8 != a.cluster / 8 && decide (a.firstDesc + a.descCount ≤ x.descriptors) && decide (a.firstWeir + a.weirCount ≤ x.allWeirs.length) &&
    decide (a.firstPlace + a.placeCount ≤ x.allPlaces.length) && ps.all (fun p => p.cluster == a.alternate && inPhase a.phaseMask p.phase) &&
    (List.range 16).all (fun q => (ps.filter (fun p => p.phase == q)).length == b2n (inPhase a.phaseMask q)))

end Sys2Proof.Machine
end

