-- ==== Sys2Proof/Machine/Plans.lean ====
section
/-! DEFINITION. Plans (R365 to R369): loading, phase starts, stops, timeouts and unloading. -/

namespace Sys2Proof.Machine

open Sys2Proof

/-! ### Loading (R365) -/

/-- The bytes in the mirrored or plain regions of tenant `t`. -/
def Dev.regionRoom (s : Dev) (t : Nat) (mirrored : Bool) : Nat :=
  ((List.range 32).map (fun r => if s.rd (Obj.regionOwner r) = t ∧ s.regionMirror r = mirrored then s.rd (Obj.regionSize r) * 2 ^ 20 else 0)).sum

/-- The handles that no population holds. [log 77 DEDUCED] -/
def Dev.freePops (s : Dev) : List Nat := (List.range 1024).filter (fun h => s.rd (Obj.popOwner h) == 0xFF)

/-- The handles that no layer holds. [log 77 DEDUCED] -/
def Dev.freeLayers (s : Dev) : List Nat := (List.range 256).filter (fun l => s.rd (Obj.layerOwner l) == 0xFF)

/-- Room for `n` bytes of an image at `off` in slot `p` of tenant `t`, at the lowest address that fits (R365). [log 76 DEDUCED] -/
def Dev.planTake (t p : Nat) (z : Option (Dev × List (Nat × Nat × Nat))) (x : Bool × Nat × Nat) : Option (Dev × List (Nat × Nat × Nat)) :=
  match z with
  | none => none
  | some (s, parts) =>
    if x.2.2 = 0 then some (s, parts)
    else match s.roomFor t x.2.2 x.1 with
      | none => none
      | some a => some (s.take p a x.2.2, parts ++ [(x.2.1, x.2.2, a)])

/-- Where the parts of an image go once its section table has arrived (R365): the header with its table and then each section, KERNELS
and CHAINS in mirrored regions; as it was where the table has not arrived or there is no room. -/
def Dev.planPlace (s : Dev) (t p : Nat) (data : List Byte) : Dev :=
  let n := 64 + 16 * leAt data 6 2
  if data.length < n then s
  else
    let parts := (false, 0, n) :: ((planSections data).filter (fun x => sectionKnown (leAt data 4 1) x.type)).map (fun x =>
      (x.type == 2 || x.type == 3, x.offset, x.bytes))
    match parts.foldl (Dev.planTake t p) (some (s, [])) with
    | none => s
    | some (s, parts) => s.updPlan p (fun x => { x with parts := parts })

/-- The bytes of an image from `off` on, each part of them at its place. -/
def State.planBytes (s : State) (t p off : Nat) (data : List Byte) : State :=
  (s.dev.plan p).parts.foldl (fun (s : State) x =>
    let lo := max off x.1
    let hi := min (off + data.length) (x.1 + x.2.1)
    if lo < hi then s.gddrPut t (x.2.2 + (lo - x.1)) ((data.drop (lo - off)).take (hi - lo)) else s) s

/-- A segment of an image has arrived at `off`, with `data` so far: it is written into the owner's regions as the transfer proceeds (R365). [log 76 DEDUCED] -/
def State.planArrive (p off : Nat) (data : List Byte) (s : State) : State :=
  let t := s.dev.rd (Obj.planOwner p)
  if (s.dev.plan p).parts = [] then ({ s with dev := s.dev.planPlace t p data } : State).planBytes t p 0 data
  else s.planBytes t p off (data.drop off)

/-- ChainsBase of an image whose parts are placed (R359). -/
def Dev.chainsAt (s : Dev) (p : Nat) (img : List Byte) : Nat :=
  match (planSections img).find? (fun x => x.type == 3) with
  | none => 0
  | some x => match (s.plan p).parts.find? (fun z => z.1 == x.offset) with | some z => z.2.2 | none => 0

/-- The room in mirrored or plain regions of tenant `t` that no other holds than slot `p`. -/
def Dev.freeRoom (s : Dev) (t p : Nat) (mirrored : Bool) : Nat :=
  s.regionRoom t mirrored - ((s.allocs.filter (fun a => a.tag != p && (match s.regionOf t a.addr a.bytes with
    | some r => s.regionMirror r == mirrored
    | none => false))).map (·.bytes)).sum

/-- Whether the buffers of a builder stay within 448 KiB on each of its clusters (R234), by the columns that its source has as the plan is loaded. -/
def Dev.builderFits (s : Dev) (x : PlanSlot) (e : LayerEntry) : Bool :=
  let split := if bitAt e.buildControl 0 then 2 else 1
  let src := x.pops.find? (fun q => q.number == e.buildSource - 0x400)
  let cols := if e.buildSource < 36 then s.rd (Obj.outputWidth e.buildSource) else match src with | some q => q.width | none => 0
  let g : Nat × Nat × Nat := match e.op with
    | 16 => (e.buildBins * split, field e.buildControl 1 2, 5)
    | 17 => (split, field e.buildControl 1 2, 4)
    | _ => match src with | some q => (q.channels, q.countPool, q.countFormat) | none => (0, 0, 4)
  !e.builder || e.stripes.all (fun t => decide (g.1 * t.rows * rowPitch (ceilDiv cols (2 ^ g.2.1)) g.2.2 ≤ buildLimit))

/-- The checks of R365 in their order; 0 where all pass. [log 76 DEDUCED] -/
def Dev.planCode (s : Dev) (p t : Nat) (img : List Byte) : Nat :=
  let x := parsePlan img 0
  if img.length < 64 ∨ 2 ^ 30 < img.length ∨ leAt img 8 8 ≠ img.length then 0x01
  else if leAt img 0 4 ≠ 0x4E4C5045 then 0x02
  else if leAt img 5 1 ≠ 3 ∨ 2 < leAt img 4 1 then 0x03
  else if planDigestOf img ≠ (img.drop 16).take 32 then 0x04
  else if !(tableGood img && sectionsGood img && x.usesPlaced (leAt img 48 2)) then 0x05
  else if !s.planFits t x ((chainDescs img).flatMap (fun d => d.addrs 1)) then 0x06
  else if !s.planApart p x then 0x07
  else if !x.pops.all PopEntry.placed || !popsApart x.pops || decide (s.freePops.length < x.pops.length) || decide (s.freeLayers.length < x.layers.length) ||
      decide ((s.plan p).parts = []) || decide (s.freeRoom t p true < leAt img 52 4) || decide (s.freeRoom t p false < leAt img 56 4) then 0x08
  else if !(x.contentGood && x.layers.all (s.builderFits x)) then 0x09
  else if !x.alternatesGood then 0x0A
  else 0

/-- Every scalar and byte string of an index at its default. -/
def Dev.clearIndex (s : Dev) (idx : Nat) : Dev :=
  { s with dict := s.dict.filter (fun x => x.1 / 256 != idx), blobs := s.blobs.filter (fun x => x.1 / 256 != idx) }

/-- The objects of population `h` from its entry (R361). [log 6 DESIGN CHOICE, 77 DEDUCED] -/
def Dev.popObjects (s : Dev) (h t : Nat) (e : PopEntry) : Dev :=
  let s := s.clearIndex (0x6400 + h)
  let s := ((((s.wr (Obj.popState h) 1).wr (Obj.popOwner h) t).wr (Obj.planPopulation h) e.number).wr (Obj.popWidth h) e.width).wr (Obj.popHeight h) e.height
  let s := (((s.wr (Obj.popChannels h) e.channels).wr (Obj.tickLength h) e.tickLength).wr (Obj.tickOrigin h) e.tickOrigin).wr (Obj.horizonTimeout h) e.horizonTimeout
  let s := (((s.wr (Obj.threshold h) e.threshold).wr (Obj.leakMode h) e.leakMode).wr (Obj.leakParam h) e.leakParam).wr (Obj.resetMode h) e.resetMode
  let s := (((s.wr (Obj.multiplicity h) e.multiplicity).wr (Obj.refractoryTicks h) e.refractory).wr (Obj.gateMask h) e.gateMask).wr (Obj.countWindowTicks h) e.countTicks
  ((s.wr (Obj.countPool h) e.countPool).wr (Obj.countFormat h) e.countFormat).wr (Obj.countWeir h) e.countWeir

/-- The number BuildSource shows of a layer's entry (R244): a population by its handle. -/
def PlanSlot.sourceNumber (x : PlanSlot) (n : Nat) : Nat :=
  if n < 0x400 then n
  else match (x.pops.zip x.popHandles).find? (fun q => q.1.number == n - 0x400) with
    | some q => 0x400 + q.2
    | none => 0xFFFF

/-- The objects of layer `l` from its entry (R362). [log 6 DESIGN CHOICE, 77 DEDUCED] -/
def Dev.layerObjects (s : Dev) (l t : Nat) (x : PlanSlot) (e : LayerEntry) : Dev :=
  let s := s.clearIndex (0x6300 + l)
  let out := e.outSize
  let empty := x.isEmpty 256 e
  let s := ((((s.wr (Obj.layerState l) 1).wr (Obj.layerOwner l) t).wr (Obj.planLayer l) e.number).wr (Obj.layerOperator l) e.op).wr (Obj.layerMapping l) e.mapping
  let s := ((s.wr (Obj.outWidth l) (if empty then 0 else out.2.toNat)).wr (Obj.outHeight l) (if empty then 0 else out.1.toNat)).wr (Obj.outChannels l) e.planes
  let s := (((s.wr (Obj.outFormat l) e.outFormat).wr (Obj.layerStripes l) e.stripes.length).wr (Obj.completionWeir l) e.weir).wr (Obj.roundingMode l) e.rounding
  let s := s.setBlob (Obj.activationTable l) (if e.activation = 0xFFFF then [] else x.blobBytes e.activation)
  if e.builder then
    let s := ((s.wr (Obj.buildSource l) (x.sourceNumber e.buildSource)).wr (Obj.buildWindow l) e.buildWindow).wr (Obj.buildOrigin l) e.buildOrigin
    (((s.wr (Obj.buildTimeout l) e.buildTimeout).wr (Obj.buildBins l) e.buildBins).wr (Obj.buildControl l) e.buildControl).wr (Obj.surfaceSpan l) e.surfaceSpan
  else s

/-- The counts of populations and layers with a handle (R212, R244). -/
def Dev.countHandles (s : Dev) : Dev :=
  (s.wr Obj.populationsLoaded (1024 - s.freePops.length)).wr Obj.layersLoaded (256 - s.freeLayers.length)

/-- A checked and placed image becomes the slot's plan: LOADED (R365). -/
def Dev.planLoaded_ (s : Dev) (p t base : Nat) (img : List Byte) : Dev :=
  let x := parsePlan img base
  let hs := s.freePops.take x.pops.length
  let ls := s.freeLayers.take x.layers.length
  let x := { x with popHandles := hs, layerHandles := ls }
  let s := { s with plans := Tab.put {} s.plans p x, planPhases := Tab.put 0 s.planPhases p (leAt img 48 2) }
  let s := (x.pops.zip hs).zipIdx.foldl (fun (s : Dev) q =>
    (s.popObjects q.1.2 t q.1.1).updPop q.1.2 (fun _ => { slot := p, entry := q.2, clusters := q.1.1.clusters.map (fun c => { cluster := c }) })) s
  let s := (x.layers.zip ls).zipIdx.foldl (fun (s : Dev) q => (s.layerObjects q.1.2 t x q.1.1).updLayer q.1.2 (fun _ => { slot := p, entry := q.2 })) s
  let digest := (img.drop 16).take 32
  let s := ((s.wr (Obj.planState p) 2).wr (Obj.planVersion p) (leAt img 4 2)).setBlob (Obj.planDigest p) digest
  (s.extend (8 + t) 4 p (leAt img 4 2) digest).countHandles

/-- The slot returns to EMPTY (R365, R366). -/
def Dev.planEmpty (s : Dev) (p : Nat) : Dev :=
  let s := { s with plans := Tab.erase s.plans p, planPhases := Tab.erase s.planPhases p, phaseReq := Tab.erase s.phaseReq p }
  ((((s.wr (Obj.planState p) 0).wr (Obj.planOwner p) 0xFF).wr (Obj.planVersion p) 0).clear (Obj.phaseNow p)).setBlob (Obj.planDigest p) (zeros 32)

/-- The last segment of an image has arrived (R365). -/
def State.planLoad (p : Nat) (img : List Byte) (s : State) : State × Status :=
  let t := s.dev.rd (Obj.planOwner p)
  let code := s.dev.planCode p t img
  if code = 0 then ({ s with dev := s.dev.planLoaded_ p t (s.dev.chainsAt p img) img }, .ok)
  else
    let s := s.planFree p
    ({ s with dev := (s.dev.planEmpty p).wr (Obj.planRefusal p) code }, .range)

/-- Who may write a segment of PlanImage (R365, R369): a tenant, whose slot it is or who finds it EMPTY or LOADING. -/
def Dev.imageRights (s : Dev) (q : Requester) (p : Nat) : Status :=
  match s.tenantOf q with
  | none => .rights
  | some t => if s.rd (Obj.planState p) ≤ 1 ∨ s.rd (Obj.planOwner p) = t then .ok else .rights

/-- A segment of PlanImage. -/
def State.planSegment (s : State) (r : Request) (p : Nat) : State :=
  if !Dev.sessionOk r.q 2 r.idx then { s with dev := s.dev.refuse r.q .noSession }
  else if s.dev.imageRights r.q p ≠ .ok then { s with dev := s.dev.refuse r.q .rights }
  else s.segmentWith r (if s.dev.rd (Obj.planState p) = 0 then .ok else .state) (2 ^ 30)
    (fun d => (d.wr (Obj.planState p) 1).wr (Obj.planOwner p) ((d.tenantOf r.q).getD 0xFF)) (State.planArrive p r.offset) (State.planLoad p)

/-! ### Phase starts (R367) -/

/-- Step 1 for one WEIRMAP entry: reset, then armed or disarmed. -/
def Dev.phaseWeir (s : Dev) (e : WeirEntry) : Dev :=
  if s.dieOut (e.weir / 4096) then s.bump (faultCtr (e.weir / 4096) 9)
  else
    let s := (s.weirApply e.weir Weir.reset).updWeir e.weir (fun x => { x with action := actionHeld e.action })
    if e.target = 0 ∨ field e.armFlags 2 2 = 0 then s.weirApply e.weir Weir.disarm
    else s.weirApply e.weir (Weir.arm (e.target + field e.armFlags 0 2 * 2 ^ 24 + field e.armFlags 2 2 * 2 ^ 26))

/-- Step 2 for one placement: mode, region registers, seed (R181, R267, R282). What the die manager writes for the steward core is not
stated: an open value. -/
def Dev.phaseCluster (s : Dev) (e : PlaceEntry) : Dev :=
  let c := e.cluster
  let s := (s.wr (Obj.clusterMode c) e.mode).clearRegions c
  let s := e.windows.foldl (fun (s : Dev) w => { s with regions := Tab.put 0 s.regions (regionKey c w.1 w.2.1) w.2.2 }) s
  let s := s.each 8 (fun w s => ({ s with regions := Tab.put 0 s.regions (regionKey c stewardMaster w) (s.open_ % 2 ^ 27) } : Dev).drawn)
  let s := if e.objectSeed then s else s.wr (Obj.stochasticSeed c) e.seed
  s.lfsrLoad c

/-- Step 4: a phase's chain starts are on their way (R309, R359). -/
def Dev.phaseStarts (s : Dev) (t : Nat) (x : PlanSlot) (l : List (Nat × Nat)) : Dev :=
  { s with starts := s.starts ++ l.map (fun z => { ferry := z.1, addr := x.chainsBase + 64 * z.2, tenant := t, weir := 16384 }) }

/-- Chain starts of phase `q`: the phase's own. -/
def PlanSlot.startsOf (x : PlanSlot) (q : Nat) : List (Nat × Nat) := match x.phases.find? (fun e => e.phase == q) with | some e => e.starts | none => []

/-- The running phase ends as Stop ends it (R366), and no plan state changes. -/
def Dev.phaseEnd (s : Dev) (p : Nat) : Dev :=
  let s := s.planStop p false
  (s.wr (Obj.planState p) 3).wr (Obj.phaseNow p) 0xFF

/-- Whether tiles of a slot's layers are still in progress (R368). -/
def Dev.tilesLeft (s : Dev) (p : Nat) : Bool := (s.plan p).layerHandles.any (fun l => (s.layer l).tiles != [])

/-- Whether a chain of a slot still runs. -/
def Dev.chainsLeft (s : Dev) (p : Nat) : Bool :=
  (List.range 40).any (fun f => match (s.ferry f).cur with | some c => (s.plan p).ownsChain c.addr | none => false)

/-- The clusters of phase `q` that are not on are woken for the plan's owner (R534, R367). -/
def Dev.phaseWakes (s : Dev) (p q : Nat) : Dev :=
  ((s.plan p).phaseClusters q).foldl (fun (s : Dev) c => if s.domOn c || s.domState c == 4 then s else s.firstWake c) s

/-- Steps 2 to 4 of R367, once every cluster of the phase is on. [log 75 DEDUCED] -/
def State.phaseRun (s : State) (p q : Nat) : State :=
  let x := s.dev.plan p
  let t := s.dev.rd (Obj.planOwner p)
  let d := (x.places.filter (fun e => e.phase == q)).foldl (fun (d : Dev) e => d.phaseCluster e) s.dev
  let d := (d.wr (Obj.phaseNow p) q).updPlan p (fun y => { y with starting := 0, phaseF := d.rf })
  let d := (x.pops.zip x.popHandles).foldl (fun (d : Dev) z => if inPhase z.1.phaseMask q then d.popStart z.2 else d) d
  let s : State := { s with dev := d }
  let s := (x.layers.zip x.layerHandles).foldl (fun (s : State) z => if inPhase z.1.phaseMask q then s.layerStart z.2 else s) s
  { s with dev := (s.dev.emptyAtStart p).phaseStarts t x (x.startsOf q) }

/-- The clusters of slot `p` have no mode between its phases (R181, R244). [log 75 DEDUCED] -/
def Dev.modesClear (s : Dev) (p : Nat) : Dev := (s.plan p).places.foldl (fun (s : Dev) e => s.wr (Obj.clusterMode e.cluster) 0) s

/-- Step 1 of R367 on every weir of phase `q`, with which the phase begins to start. -/
def Dev.phaseBegin (s : Dev) (p q : Nat) : Dev :=
  let s := s.modesClear p
  (((s.plan p).weirs.filter (fun e => inPhase e.phaseMask q)).foldl (fun (d : Dev) e => d.phaseWeir e) s).updPlan p
    (fun y => { y with starting := q + 1, faulting := false })

/-- The phase that has begun to start at slot `p` goes on (R367): its clusters are woken, and it runs once every one of them is on. -/
def State.phaseGo (s : State) (p : Nat) : State :=
  match (s.dev.plan p).starting with
  | 0 => s
  | q + 1 =>
    let s : State := { s with dev := s.dev.phaseWakes p q }
    if ((s.dev.plan p).phaseClusters q).all (fun c => s.dev.domOn c && s.dev.padFree c) then s.phaseRun p q else s

/-- PHASE_START: a phase that has begun to start at slot `p` goes on; else what waits there is done (R366, R367). A request to stop is
done in either case. [log 75 DEDUCED] -/
def State.phaseStart (s : State) (p : Nat) : State :=
  let st := s.dev.rd (Obj.planState p)
  let n := Tab.get 0 s.dev.phaseReq p
  let taken : Dev := { s.dev with phaseReq := Tab.put 0 s.dev.phaseReq p 0 }
  if n = 0x100 then { s with dev := if st = 3 then taken.planStop p false else taken }
  else if st = 3 ∧ (s.dev.plan p).starting ≠ 0 then s.phaseGo p
  else if n = 0 ∨ (st ≠ 2 ∧ st ≠ 3 ∧ st ≠ 5) then s
  else
    let s : State := if st = 3 ∧ s.dev.rd (Obj.phaseNow p) ≠ 0xFF then { s with dev := s.dev.phaseEnd p } else s
    if s.dev.tilesLeft p then s
    else
      let d : Dev := { s.dev with phaseReq := Tab.put 0 s.dev.phaseReq p 0 }
      ({ s with dev := (d.phaseBegin p (n - 1)).wr (Obj.planState p) 3 } : State).phaseGo p

/-! ### Commands of the host (R366, R369) -/

/-- PlanCommand is the owner's; the custodian may also stop and unload (R369). -/
def Dev.judgePlanCommand (s : Dev) (q : Requester) (p v : Nat) : Status :=
  if s.isCustodian q && (v == 2 || v == 3) then .ok else s.judge q (Obj.planCommand p) v

/-- The plan stops: at once where no tile is in progress (R368). [log 75 DEDUCED] -/
def Dev.planStopped (s : Dev) (p : Nat) : Dev :=
  if s.rd (Obj.planState p) = 4 ∧ s.tilesLeft p = false ∧ s.chainsLeft p = false then
    (((s.wr (Obj.planState p) (if (s.plan p).faulting then 5 else 2)).wr (Obj.phaseNow p) 0xFF).updPlan p (fun y => { y with starting := 0 })).modesClear p
  else s

/-- The GDDR6 of a slot zero-filled and released, its handles freed (R366). -/
def State.planRelease (s : State) (p : Nat) : State :=
  let x := s.dev.plan p
  let s := { s with dev := s.dev.modesClear p }.planFree p
  let d := x.popHandles.foldl (fun (d : Dev) h => { d.clearIndex (0x6400 + h) with
    pops := Tab.erase d.pops h, counts := d.counts.filter (fun z => z.1 / 2 ^ 39 / 3 != h) }) s.dev
  let d := x.layerHandles.foldl (fun (d : Dev) l => { d.clearIndex (0x6300 + l) with layers := Tab.erase d.layers l }) d
  { s with dev := (d.planEmpty p).countHandles }

/-- A write of PlanCommand that passed its checks (R366). -/
def State.planCommand (s : State) (q : Requester) (p v : Nat) : State :=
  let st := s.dev.rd (Obj.planState p)
  match v with
  | 1 =>
    if st = 2 ∨ st = 5 then { s with dev := ((s.dev.requestPhase p (s.dev.plan p).entry).wr (Obj.planState p) 3).accept q }
    else { s with dev := s.dev.refuse q .state }
  | 2 => if st = 3 then { s with dev := (s.dev.planStop p false).accept q } else { s with dev := s.dev.refuse q .state }
  | _ =>
    if st = 2 ∨ st = 5 then
      let s := s.planRelease p
      { s with dev := s.dev.accept q }
    else { s with dev := s.dev.refuse q .state }

/-- PlanCommand as a request. -/
def State.planAsked (s : State) (q : Requester) (p v : Nat) : Host.Outcome State Fault Refusal :=
  s.request (writeReq q (Obj.planCommand p) v) (fun s =>
    let st := s.dev.judgePlanCommand q p v
    if st = .ok then s.planCommand q p v else { s with dev := s.dev.refuse q st })

/-- The plan of a revoked owner (R366, R442): stopped and unloaded. -/
def State.planRevoke (s : State) (p : Nat) : State :=
  if s.dev.rd (Obj.planState p) = 0 then s
  else
    let d := if s.dev.planLoaded p then s.dev.planStop p false else s.dev
    let d := (d.plan p).layerHandles.foldl (fun (d : Dev) l => d.updLayer l (fun z => { z with tiles := [] })) d
    { s with dev := d }.planRelease p

/-! ### Timeouts (R366, R367) -/

/-- The queue of a PhaseTimeout's entry (R366). -/
def PlanSlot.timeoutQueue (x : PlanSlot) (q : Nat) : Nat :=
  match (x.phaseClusters q).min? with
  | some c => c / 32
  | none => match ((x.startsOf q).map (·.1)).min? with
    | some f => ferryDie f
    | none => 4

/-- PHASE_TIMEOUT. -/
def Dev.phaseTimeout (s : Dev) (p : Nat) : Dev :=
  let x := s.plan p
  let q := s.rd (Obj.phaseNow p)
  match x.phases.find? (fun e => e.phase == q) with
  | none => s
  | some e =>
    if s.planRuns p && e.timeout != 0 && decide (x.phaseF + 1000 * e.timeout ≤ s.rf) then
      (((s.bump (Obj.phaseTimeouts p)).detectFor (x.timeoutQueue q) 0x20 (.master 7 p) q (s.rd (Obj.planOwner p))).planStop p true)
    else s

/-- The die of a waiter. -/
def waiterDie : Waiter → Nat
  | .steward c => c / 32
  | .ferry f => ferryDie f

/-- A WAIT of the running phase of slot `p` that has been pending for longer than its limit (R367): the die of the waiter, and the weir. A steward core
whose tiles are all held on a fill weir waits there (R240). -/
def Dev.stalled (s : Dev) (p : Nat) : Option (Nat × Nat) :=
  match s.waits.find? (fun (w : PendingWait) => decide (s.waiterPlan w.waiter = some p) && w.limit != 0 && decide (w.sinceF + w.limit < s.rf)) with
  | some w => some (waiterDie w.waiter, w.weir)
  | none => ((s.plan p).layers.zip (s.plan p).layerHandles).findSome? (fun q => ((s.layer q.2).halo.find? (fun h =>
      s.layerRuns q.2 && h.limit != 0 && decide (h.sinceF + h.limit < s.rf) && (s.windowHeld q.2 q.1 (h.unit / 16)).isSome)).map (fun h => (h.unit / 512, h.weir)))

/-- STALL_TIMEOUT. -/
def Dev.stallTimeoutDue (s : Dev) (p : Nat) : Dev :=
  match s.stalled p with
  | none => s
  | some w => ((s.bump (Obj.stallTimeouts p)).detectFor w.1 0x20 (.master 7 p) w.2 (s.rd (Obj.planOwner p))).planStop p true

/-! ### The commands -/

/-- PLAN_IMAGE_WRITE (R365, R474). -/
def execPlanImageWrite (q : Requester) (p : Fin 16) (g : Seg) (s : State) : Host.Outcome State Fault Refusal :=
  let r := segReq q (Obj.planImage p.val) g
  s.request r (fun s => s.reachAll r (s.dev.needs r) (fun s => s.planSegment r p.val))

/-- PLAN_START (R366). -/
def execPlanStart (q : Requester) (p : Fin 16) (s : State) : Host.Outcome State Fault Refusal := s.planAsked q p.val 1

/-- PHASE_START (R366, R367). -/
def execPhaseStart (p : Fin 16) (s : State) : Host.Outcome State Fault Refusal := s.runM (fun s => s.phaseStart p.val)

/-- PLAN_STOP (R366, R368). -/
def execPlanStop (q : Requester) (p : Fin 16) (s : State) : Host.Outcome State Fault Refusal := s.planAsked q p.val 2

/-- PLAN_STOPPED (R366). -/
def execPlanStopped (p : Fin 16) (s : State) : Host.Outcome State Fault Refusal := s.run (fun d => d.planStopped p.val)

/-- PLAN_UNLOAD (R366). -/
def execPlanUnload (q : Requester) (p : Fin 16) (s : State) : Host.Outcome State Fault Refusal := s.planAsked q p.val 3

/-- PHASE_TIMEOUT (R366). -/
def execPhaseTimeout (p : Fin 16) (s : State) : Host.Outcome State Fault Refusal := s.run (fun d => d.phaseTimeout p.val)

/-- STALL_TIMEOUT (R367). -/
def execStallTimeout (p : Fin 16) (s : State) : Host.Outcome State Fault Refusal := s.run (fun d => d.stallTimeoutDue p.val)

end Sys2Proof.Machine
end

