-- ==== Sys2Proof/Machine/Boot.lean ====
section
/-! DEFINITION. The boot flash, the firmware images in it, and the boot chain (R490 to R494, R611). -/

namespace Sys2Proof.Machine

open Sys2Proof

/-- `n` bytes of the boot flash at `off`: what recovery wrote, and beyond it what the board was made with. -/
def Dev.flash (s : Dev) (off n : Nat) : List Byte :=
  let w := s.blob Obj.recoveryImage
  (w.drop off).take n ++ (List.range (n - (w.length - off))).map (fun i => Config.flashByte (max off w.length + i))

/-- Where the image of stage 1, 2 or 3 stands in set `slot` (R611). -/
def imageAt (slot stage : Nat) : Nat := slot * 0x2000000 + (stage - 1) * 0x400000

/-- The header of an image (R491). -/
def Dev.imageHeader (s : Dev) (slot stage : Nat) : List Byte := s.flash (imageAt slot stage) 6208

/-- Whether an image is accepted (R492). -/
def Dev.imageGood (s : Dev) (slot stage : Nat) : Bool :=
  let h := s.imageHeader slot stage
  let key := (h.drop 48).take 1312
  leAt h 0 4 == 0x57464D49 && leAt h 4 1 == stage &&
  Config.verify Config.rootKey (sha3 key) ((h.drop 1360).take 2420) &&
  Config.verify key (sha3 (h.take 48)) ((h.drop 3780).take 2420) &&
  sha3 (s.flash (imageAt slot stage + 6208) (leAt h 12 4)) == (h.drop 16).take 32 &&
  decide (s.rd (Obj.fuseSvn (stage - 1)) ≤ leAt h 5 1)

/-- An image is measured into register `stage` for compute die `place` (R499, R500). -/
def Dev.measureImage (s : Dev) (slot stage place : Nat) : Dev :=
  let h := s.imageHeader slot stage
  s.extend stage 1 place (leAt h 8 4) ((h.drop 16).take 32)

/-- A stage is loaded: measured, for the die manager once for each compute die, and its version shown (R485). [log 89 DEDUCED] -/
def Dev.loadStage (s : Dev) (slot stage : Nat) : Dev :=
  let v := leAt (s.imageHeader slot stage) 8 4
  let s := if stage = 2 then s.each 4 (fun d s => s.measureImage slot 2 d) else s.measureImage slot stage 0
  s.wr (Reg.at 0x1001 (stage + 1) 32) v

/-- The stages of a set, in order, up to the first that fails (R490): the device, and whether all three run. [log 89 DEDUCED] -/
def Dev.bootSet (s : Dev) (slot : Nat) : Dev × Bool :=
  [1, 2, 3].foldl (fun (z : Dev × Bool) n => if z.2 && z.1.imageGood slot n then (z.1.loadStage slot n, true) else (z.1, false)) (s, true)

/-- The fuse values that the ROM reads (R490): the counters and the provisioning digests. -/
def Dev.fuses (s : Dev) : List Byte :=
  (List.range 3).flatMap (fun k => leBytes 1 (s.rd (Obj.fuseSvn k))) ++ (List.range 4).flatMap (fun k => s.blob (Obj.provisioningKeyDigest k))

/-- The highest provisioning slot that has been programmed (R502); none on an UNPROVISIONED device. -/
def Dev.activeSlot (s : Dev) : Option Nat := (List.range 4).reverse.find? (fun k => s.blob (Obj.provisioningKeyDigest k) != zeros 32)

/-- Lifecycle and ActiveSlot follow the fuses (R502, R521). -/
def Dev.lifecycle (s : Dev) : Dev :=
  match s.activeSlot with
  | some k => (s.setF Obj.securityState 0 1 1).setF Obj.securityState 6 2 k
  | none => s.setF Obj.securityState 0 1 0

/-- A string drawn from the generator: an open value (R514). [log 86 DESIGN CHOICE] -/
def Dev.drawBytes (s : Dev) (n : Nat) : List Byte × Dev := (leBytes n s.open_, s.drawn)

/-- The boot chain (R490 to R498): `pufOk` says whether PUF correction succeeds. A spare strap at 1 halts the ROM in recovery (R610). [log 89 DEDUCED] -/
def Dev.bootChain (s : Dev) (pufOk : Bool) : Dev :=
  let rom := s.rd Obj.romVersion
  let s := (s.extend 0 1 0 rom Config.romDigest).extend 0 1 0 rom (Config.strapDigest (leBytes 1 (s.rd Obj.strapValues) ++ s.fuses))
  let s := s.lifecycle
  let recovery (s : Dev) : Dev := s.setBit Obj.securityState 2 true
  if 32 ≤ s.rd Obj.strapValues then recovery s
  else
    let a := s.bootSet 0
    let b := if a.2 then a else (a.1.setBit Obj.securityState 1 true).bootSet 1
    if b.2 then
      let s := b.1.setBit Obj.securityState 3 (!pufOk)
      let k := s.drawBytes 32
      let n := k.2.drawBytes 32
      ({ n.2 with deviceKey := k.1 } : Dev).setBlob Obj.debugNonce n.1
    else recovery b.1

end Sys2Proof.Machine
end

