-- ==== Sys2Proof/Machine/Pace.lean ====
section
/-! DEFINITION. Pace (R57 to R68): the supported pace, the governor, and the order of voltage and cap changes. -/

namespace Sys2Proof.Machine

open Sys2Proof

/-- The governor of compute die `d`. -/
def Dev.pace (s : Dev) (d : Nat) : Pace := Tab.get {} s.paces d

/-- The device with a governor changed. -/
def Dev.updPace (s : Dev) (d : Nat) (f : Pace → Pace) : Dev := { s with paces := Tab.upd {} s.paces d f }

/-- The value between two points of a table. -/
def between (x x0 y0 x1 y1 : Rat) : Rat := y0 + (y1 - y0) * (x - x0) / (x1 - x0)

/-- R57: the least natural pace at Tj 60 °C, by mV; a voltage outside the table takes its nearest end. -/
def paceAt (mv : Nat) : Rat :=
  let v : Nat := max 600 (min 850 mv)
  if v < 650 then between v 600 (55 / 100) 650 (70 / 100)
  else if v < 700 then between v 650 (70 / 100) 700 (85 / 100)
  else if v < 750 then between v 700 (85 / 100) 750 1
  else if v < 800 then between v 750 1 800 (112 / 100)
  else between v 800 (112 / 100) 850 (122 / 100)

/-- R58: the temperature factor, by Tj in 1/128 °C. -/
def heatFactor (tj : Int) : Rat :=
  let t : Rat := (tj : Rat) / 128
  if t < 25 then 104 / 100
  else if t < 60 then between t 25 (104 / 100) 60 1
  else if t < 85 then between t 60 1 85 (96 / 100)
  else if t < 105 then between t 85 (96 / 100) 105 (93 / 100)
  else 93 / 100 - 15 / 10000 * (t - 105)

/-- The supported pace of die `d` at a voltage and its last Tj reading, in 64ths (R58). -/
def Dev.supportedAt (s : Dev) (d mv : Nat) : Nat := (paceAt mv * heatFactor (s.rdI (Obj.dieTemperature d)) * 64).floor.toNat

/-- Whether die `d` has had a Tj reading (R68). [log 106 DEDUCED] -/
def Dev.tjSeen (s : Dev) (d : Nat) : Bool := s.getF (Obj.paceStatus d) 8 8 != 0

/-- Whether VDD_CORE `d` is off (R543). -/
def Dev.coreOff (s : Dev) (d : Nat) : Bool := s.getF (Obj.railState d) 0 2 == 0

/-- The present voltage of R64; while the rail is off, its stored target (R543). -/
def Dev.presentVolt (s : Dev) (d : Nat) : Nat := if s.coreOff d then s.rd (Obj.voltageTarget d) else (s.pace d).volt

/-- The cap in force. -/
def Dev.capNow (s : Dev) (d : Nat) : Nat := s.getF (Obj.paceStatus d) 0 8

/-- Whether die `d` is throttled (R67). -/
def Dev.throttled (s : Dev) (d : Nat) : Bool := s.bit (Obj.paceStatus d) 19

/-- The present cap of R64. -/
def Dev.presentCap (s : Dev) (d : Nat) : Nat := max (s.capNow d) (max (s.pace d).pending (if s.throttled d then (s.pace d).code else 0))

/-- The result code of the last write (R64). -/
def Dev.paceResult (s : Dev) (d code : Nat) : Dev := s.setF (Obj.paceStatus d) 24 8 code

/-- SupportedCode, CapUnsupported and CapPending follow what they show (R66, R68); PaceCap shows the last accepted code (R64). [log 26 DESIGN CHOICE, 109 DESIGN CHOICE] -/
def Dev.paceShow (s : Dev) (d : Nat) : Dev :=
  let x := s.pace d
  let s := s.wr (Obj.paceCap d) (if x.pending ≠ 0 then x.pending else x.code)
  let s := s.setBit (Obj.paceStatus d) 18 (decide (x.pending ≠ 0) || x.waiting.any (fun r => r.idx == 0x2800))
  if s.tjSeen d then
    let n := s.supportedAt d (s.presentVolt d)
    (s.setF (Obj.paceStatus d) 8 8 n).setBit (Obj.paceStatus d) 20 (decide (n < s.capNow d))
  else s

/-- An accepted cap takes effect, or becomes the code to return to while the die is throttled (R62, R67). -/
def Dev.capTake (s : Dev) (d code : Nat) : Dev :=
  let s := s.updPace d (fun x => { x with code := code, pending := 0 })
  if s.throttled d then s else s.setF (Obj.paceStatus d) 0 8 code

/-- The rows of R64 for a cap write. [log 24 DEDUCED] -/
def Dev.capJudge (s : Dev) (q : Requester) (d v : Nat) : Dev :=
  if v ≤ s.supportedAt d (s.presentVolt d) then (((s.capTake d v).paceResult d 0).paceShow d).accept q
  else if s.getF (Obj.paceStatus d) 16 2 = 1 ∧ v ≤ s.supportedAt d (s.rd (Obj.voltageTarget d)) then
    (((s.updPace d (fun x => { x with pending := v })).paceResult d 0x01).paceShow d).accept q
  else (s.paceResult d 0x11).refuse q .state

/-- The rail of die `d` is sent to `v` mV. [log 24 DEDUCED] -/
def Dev.voltStart (s : Dev) (d v : Nat) : Dev :=
  let lower : Bool := decide (v < (s.pace d).volt)
  let s := (s.updPace d (fun x => { x with volt := min x.volt v, changeF := s.rf + 1 })).wr (Obj.voltageTarget d) v
  ((s.setF (Obj.paceStatus d) 16 2 (if lower then 2 else 1)).emit (.avs d v)).paceShow d

/-- The rows of R64 for a voltage write; a write of the present target, for which R64 has no row, changes nothing (R472). [log 24 DEDUCED] -/
def Dev.voltJudge (s : Dev) (q : Requester) (d v : Nat) : Dev :=
  if (s.pace d).changeF ≠ 0 then (s.paceResult d 0x12).refuse q .state
  else if v = s.rd (Obj.voltageTarget d) then s.accept q
  else if v < s.presentVolt d ∧ s.supportedAt d v < s.presentCap d then (s.paceResult d 0x10).refuse q .state
  else if s.coreOff d then (((s.wr (Obj.voltageTarget d) v).paceResult d 0).paceShow d).accept q
  else (((s.voltStart d v).updPace d (fun x => { x with asked := true })).paceResult d 0x02).accept q

/-- A write that arrives before the die's first Tj reading is held (R64). [log 106 DEDUCED] -/
def Dev.paceHold (s : Dev) (d : Nat) (r : Request) : Dev := (s.updPace d (fun x => { x with waiting := x.waiting ++ [s.marked r] })).paceShow d

/-- A PaceCap write that passed the checks of R469. -/
def Dev.capWrite (s : Dev) (q : Requester) (d v : Nat) : Dev :=
  if s.tjSeen d then s.capJudge q d v else s.paceHold d (writeReq q (Obj.paceCap d) v)

/-- A VoltageTarget write that passed the checks of R469. -/
def Dev.voltWrite (s : Dev) (q : Requester) (d v : Nat) : Dev :=
  if s.tjSeen d then s.voltJudge q d v else s.paceHold d (writeReq q (Obj.voltageTarget d) v)

/-- The writes held are judged at the first Tj reading, in their order (R64). [log 106 DEDUCED] -/
def Dev.paceRelease (s : Dev) (d : Nat) : Dev :=
  let rs := (s.pace d).waiting
  let s := (s.updPace d (fun x => { x with waiting := [] })).paceShow d
  rs.foldl (fun (s : Dev) r => if r.idx = 0x2800 then s.capJudge r.q d (ofLe r.data) else s.voltJudge r.q d (ofLe r.data)) s

/-- A voltage change that has not settled ends (R65, R544): the pending cap is discarded and a supply fault raised. What the rail code of the entry
is, R553 does not state: an open value. -/
def Dev.voltFail (s : Dev) (d : Nat) : Dev :=
  let s := (s.updPace d (fun x => { x with changeF := 0, pending := 0, asked := false })).setF (Obj.paceStatus d) 16 2 0
  (s.paceResult d 0x20).paceShow d

/-- A supply fault of rail `r`, numbered from 0 (R542, R544, R551). -/
def Dev.supplyFault (s : Dev) (r : Nat) : Dev :=
  let code := s.open_ % 2 ^ 32
  s.drawn.detect 0x0E (.rail (r + 1)) code

/-- VOLTAGE_SETTLED (R65): the pending cap applies, and a change that a write asked for ends with result 0x00 (R64); the change of a wake (R542)
answers no write (R68). A change that settles later than 2 ms after its command has timed out. -/
def Dev.voltSettled (s : Dev) (d : Nat) : Dev :=
  let x := s.pace d
  if x.changeF = 0 then s
  else if x.changeF - 1 + 2000000 < s.rf then (s.voltFail d).supplyFault d
  else
    let s := (s.updPace d (fun x => { x with volt := s.rd (Obj.voltageTarget d), changeF := 0, asked := false })).setF (Obj.paceStatus d) 16 2 0
    let s := if x.asked then s.paceResult d 0 else s
    let s := if x.pending ≠ 0 then s.capTake d x.pending else s
    s.paceShow d

/-- VOLTAGE_TIMEOUT (R65). -/
def Dev.voltTimeout (s : Dev) (d : Nat) : Dev :=
  if (s.pace d).changeF ≠ 0 ∧ (s.pace d).changeF - 1 + 2000000 ≤ s.rf then (s.voltFail d).supplyFault d else s

/-- R67: a reading of 100 °C or above starts the throttle. -/
def Dev.throttleStart (s : Dev) (d : Nat) : Dev :=
  if s.throttled d = false ∧ 12800 ≤ s.rdI (Obj.dieTemperature d) then
    let s := (s.setBit (Obj.paceStatus d) 19 true).setF (Obj.paceStatus d) 0 8 (max 26 (s.capNow d - 1))
    (s.updPace d (fun x => { x with stepF := s.rf })).paceShow d
  else s

/-- THROTTLE_STEP (R67). [log 110 DESIGN CHOICE] -/
def Dev.throttleStep (s : Dev) (d : Nat) : Dev :=
  if s.throttled d = true ∧ 12160 ≤ s.rdI (Obj.dieTemperature d) ∧ (s.pace d).stepF + 100000 ≤ s.rf then
    ((s.setF (Obj.paceStatus d) 0 8 (max 26 (s.capNow d - 1))).updPace d (fun x => { x with stepF := s.rf })).paceShow d
  else s

/-- THROTTLE_RELEASE_STEP (R67). [log 110 DESIGN CHOICE] -/
def Dev.throttleRelease (s : Dev) (d : Nat) : Dev :=
  if s.throttled d = true ∧ s.rdI (Obj.dieTemperature d) < 12160 ∧ (s.pace d).stepF + 1000000 ≤ s.rf then
    let done : Bool := decide ((s.pace d).code ≤ s.capNow d + 1)
    let s := (s.setF (Obj.paceStatus d) 0 8 (if done then (s.pace d).code else s.capNow d + 1)).updPace d (fun x => { x with stepF := s.rf })
    (if done then s.setBit (Obj.paceStatus d) 19 false else s).paceShow d
  else s

/-! ### The commands -/

/-- PACE_CAP_WRITE (R61 to R64). -/
def execPaceCapWrite (q : Requester) (d : Fin 4) (v : BitVec 8) (s : State) : Host.Outcome State Fault Refusal :=
  s.asked q (Obj.paceCap d.val) v.toNat (fun x => x.capWrite q d.val v.toNat)

/-- VOLTAGE_TARGET_WRITE (R63, R64). -/
def execVoltageTargetWrite (q : Requester) (d : Fin 4) (v : BitVec 16) (s : State) : Host.Outcome State Fault Refusal :=
  s.asked q (Obj.voltageTarget d.val) v.toNat (fun x => x.voltWrite q d.val v.toNat)

/-- VOLTAGE_SETTLED (R65). -/
def execVoltageSettled (d : Fin 4) (s : State) : Host.Outcome State Fault Refusal := s.run (fun x => x.voltSettled d.val)

/-- VOLTAGE_TIMEOUT (R65). -/
def execVoltageTimeout (d : Fin 4) (s : State) : Host.Outcome State Fault Refusal := s.run (fun x => x.voltTimeout d.val)

/-- THROTTLE_STEP (R67). -/
def execThrottleStep (d : Fin 4) (s : State) : Host.Outcome State Fault Refusal := s.run (fun x => x.throttleStep d.val)

/-- THROTTLE_RELEASE_STEP (R67). -/
def execThrottleReleaseStep (d : Fin 4) (s : State) : Host.Outcome State Fault Refusal := s.run (fun x => x.throttleRelease d.val)

/-- The count of a 1 ms window of F is published once that window is complete, and once only (R60, R622): `cycles` handshakes of the replica stage. -/
def Dev.paceMeasure (s : Dev) (d cycles : Nat) : Dev :=
  let w := s.win 1000000
  if s.coreOff d ∨ w ≤ (s.pace d).measWin then s
  else (s.updPace d (fun x => { x with measWin := w })).wr (Obj.paceMeasured d) (min 65535 (cycles * 1024 / 1000000))

/-- PACE_MEASURE_WINDOW (R60): the replica stage made `cycles` handshakes in the last complete 1 ms window. -/
def execPaceMeasureWindow (d : Fin 4) (cycles : BitVec 32) (s : State) : Host.Outcome State Fault Refusal :=
  s.run (fun x => x.paceMeasure d.val cycles.toNat)

end Sys2Proof.Machine
end

