-- ==== Sys2Proof/Machine/Recovery.lean ====
section
/-! DEFINITION. Handling faults (R556 to R568): taking an entry, remaps, alternate placements, moves, the recovery of a die, retests, and the
detectors of the fabric and the links (R72, R73, R551). -/

namespace Sys2Proof.Machine

open Sys2Proof

/-! ### Taking an entry (R556) -/

/-- The compute die whose die manager handles queue `q` (R43, R552): its own in service, or the relay for queues 4 and 5. -/
def Dev.handler (s : Dev) (q : Nat) : Option Nat :=
  if s.rd (Obj.dieHealth q) ≠ 0 then none
  else if q < 4 then some q
  else match s.relay with
    | some d => if s.rd (Obj.dieHealth d) = 0 then some d else none
    | none => none

/-- The head entry of queue `q` changed. -/
def Dev.updHead (s : Dev) (q : Nat) (f : FaultEntry → FaultEntry) : Dev := s.updQueue q (fun x => { x with entries := x.entries.modify 0 f })

/-- The cap of die `d` lowered to the supported pace of its measured voltage (R565). -/
def Dev.capLower (s : Dev) (d : Nat) : Dev :=
  let n := max 26 (s.supportedAt d (s.getF (Obj.railState d) 16 16))
  if n < s.capNow d then ((s.setF (Obj.paceStatus d) 0 8 n).updPace d (fun x => { x with code := min x.code n })).paceShow d else s

/-- R565 for rail `r`, numbered from 0: a core rail below tolerance lowers its die's cap, and one without POWER_GOOD loses its die; any other rail
holds every die in the safe state. [log 32 DESIGN CHOICE] -/
def Dev.railAct (s : Dev) (r : Nat) : Dev :=
  if r < 4 then
    if s.getF (Obj.railState r) 0 2 = 3 then s.dieLost r (r + 1)
    else if s.getF (Obj.railState r) 16 16 + 25 < s.rd (Obj.voltageTarget r) then s.capLower r
    else s
  else ({ s with alertFault := true } : Dev).each 6 (fun d s => s.safeState d 5 1)

/-- A report-only entry is acted on where R565 says, and reported. -/
def Dev.reportEntry (s : Dev) (q : Nat) (e : FaultEntry) : Dev :=
  let s := s.finishFault q (fun e => { e with outcome := 5 })
  match e.elem with
  | .rail r => if e.cls = 0x0E then s.railAct (r - 1) else s
  | _ => s

/-- A unit fault in a cluster without a spare is a cluster fault (R33, R561). -/
def Dev.faultElem (s : Dev) (e : Elem) : Elem :=
  match e with
  | .unit g => if s.bit (Obj.clusterHealth (g / 16)) 2 then e else .cluster (g / 16)
  | _ => e

/-- An entry that has been taken is isolated; one whose element is a die goes to the safe state (R556, R557). -/
def Dev.isolateHead (s : Dev) (q : Nat) (e : FaultEntry) : Dev :=
  let s := match e.elem with | .unit g => s.slotFail (g / 16) (s.slotOf g) | _ => s
  let x := s.faultElem e.elem
  let s := s.updHead q (fun e => { e with phase := .isolated, elem := x })
  match x with
  | .die d => (s.finishFault q (fun e => { e with outcome := 7 })).safeState d 3 1
  | _ => s.isolate x

/-- Whether an entry can be taken from queue `q`: there is a die manager to take it; the fault engine itself takes a lane (R562). [log 105 DEDUCED] -/
def Dev.mayTake (s : Dev) (q : Nat) (e : FaultEntry) : Bool := (s.handler q).isSome || (match e.elem with | .lane _ _ => true | _ => false)

/-- FAULT_HANDLE (R556): `stuck` says that the handler has not reached the isolation point yet. [log 105 DEDUCED] -/
def Dev.faultHandle (s : Dev) (q : Nat) (stuck : Bool) : Dev :=
  match (s.queueOf q).entries with
  | e :: _ =>
    if !s.mayTake q e || e.phase = .isolated then s
    else if reportOnly e.cls then s.reportEntry q e
    else
      let s := if e.phase = .queued then s.updHead q (fun e => { e with phase := .taken, takenF := s.rf }) else s
      if stuck then s else s.isolateHead q e
  | [] => s

/-- HANDLING_DEADLINE (R557): 50 µs to the isolation point, 740 µs to the end, from taking the entry. -/
def Dev.handlingDeadline (s : Dev) (q : Nat) : Dev :=
  match (s.queueOf q).entries with
  | e :: _ =>
    if (e.phase = .taken ∧ e.takenF + 50000 < s.rf) ∨ (e.phase = .isolated ∧ e.takenF + 740000 < s.rf) then
      (s.finishFault q (fun e => { e with outcome := 7 })).safeState q 1 1
    else s
  | [] => s

/-! ### Alternate placements (R355, R563) -/

/-- `c` replaced by `a`. -/
def swapC (c a x : Nat) : Nat := if x = c then a else x

/-- A blob of sparse lists with the records of cluster `c` as those of `a`, which holds the lists from now on (R201, R358). -/
def Blob.moved (b : Blob) (c a : Nat) : Blob :=
  { b with bytes := (List.range (leAt b.bytes 0 4)).foldl (fun (bs : List Byte) i =>
      if leAt bs (8 + 8 * i) 1 = c then bs.set (8 + 8 * i) (BitVec.ofNat 8 a) else bs) b.bytes }

/-- The tables of a plan with cluster `c` replaced by `a` in the phases of a mask (R563, step 4). -/
def PlanSlot.patched (x : PlanSlot) (t : AltEntry) : PlanSlot :=
  let c := t.cluster
  let a := t.alternate
  let hit (m : Nat) : Bool := m &&& t.phaseMask != 0
  let new := (x.allWeirs.drop t.firstWeir).take t.weirCount
  { x with
    weirs := x.weirs.filter (fun e => !new.any (fun n => n.weir == e.weir)) ++ new,
    places := x.places.filter (fun e => !(e.cluster == c && inPhase t.phaseMask e.phase)) ++ (x.allPlaces.drop t.firstPlace).take t.placeCount,
    pops := x.pops.map (fun e =>
      { e with map := if hit e.phaseMask then e.map.map (fun m => { m with cluster := swapC c a m.cluster }) else e.map,
               routes := if hit e.phaseMask then e.routes.map (fun r => if r.1 = 0 then (0, swapC c a r.2) else r) else e.routes,
               slots := if hit e.phaseMask then e.slots.map (fun z => if z.kind = 1 then { z with cluster := swapC c a z.cluster } else z) else e.slots }),
    layers := x.layers.map (fun e =>
      if hit e.phaseMask then
        { e with stripes := e.stripes.map (fun z => { z with cluster := swapC c a z.cluster }),
                 halos := e.halos.map (fun z => { z with consumer := swapC c a z.consumer, producer := swapC c a z.producer }) }
      else e),
    blobs := x.blobs.zipIdx.map (fun z =>
      if z.1.kind == 7 && x.pops.any (fun e => hit e.phaseMask && e.projections.any (fun p => p.kind == 1 && p.blob == z.2)) then z.1.moved c a else z.1),
    taken := x.taken ++ [c] }

/-- A free weir takes the count that marks every row of the new halo buffer free. -/
def Dev.freeAll (s : Dev) (w n : Nat) : Dev :=
  let k := (s.weir w).diff
  if k < n then s.weirApply w (Weir.add (n - k).toNat false) else s

/-- The stripes of layer `l` that moved from `c` to `a` run again but for those that have added to the completion weir (R563). -/
def Dev.stripesAgain (s : Dev) (l c a : Nat) (e : LayerEntry) : Dev :=
  let moved := (e.stripes.zipIdx.filter (fun z => z.1.cluster == c)).filter (fun z =>
    decide (((s.layer l).drained.filter (fun n => n / 2 ^ 20 == z.2)).length < (e.tiles z.1).length))
  let s := s.updLayer l (fun x => { x with drained := x.drained.filter (fun n => !moved.any (fun z => z.2 == n / 2 ^ 20)) })
  let rows := e.halos.filter (fun h => h.consumer == c && h.freeWeir != 0xFFFF)
  let _ := a
  if moved = [] then s
  else ((rows.map (·.freeWeir)).eraseDups).foldl (fun (s : Dev) w => s.freeAll w (rows.filter (fun h => h.freeWeir == w)).length) s

/-- Population `h` restarts on `a` what it had on `c` (R198, R563). -/
def Dev.popMoved (s : Dev) (h c a : Nat) (e : PopEntry) : Dev :=
  let ms := e.map.filter (fun m => m.cluster == c)
  if ms = [] ∨ s.popRuns h = false then s
  else
    let s := ms.foldl (fun (s : Dev) m => s.resetMap { m with cluster := a }) s
    let s := (s.bumpBy (popCtr h 9) (ms.map (·.count)).sum).setBit (Obj.popState h) 5 true
    let s := s.updPop h (fun p =>
      if p.clusters.any (fun x => x.cluster == a) then { p with clusters := p.clusters.filter (fun x => x.cluster != c) }
      else { p with clusters := p.clusters.map (fun x => if x.cluster = c then { x with cluster := a, future := [], waiting := [] } else x) })
    let gone (b k : Nat) : Bool := decide (countKey h b c 0 ≤ k) && decide (k < countKey h b c 0 + 2 ^ 32)
    { s with counts := s.counts.filter (fun z => !gone 0 z.1 && !gone 1 z.1) }

/-- The gating slots that a source cluster fed wait for the alternate: the horizon of the open tick minus one (R563). -/
def Dev.gatesMoved (s : Dev) (p h c : Nat) (e : PopEntry) : Dev :=
  let slots := (e.slots.filter (fun z => z.kind == 1 && z.cluster == c)).map (·.slot)
  let _ := p
  s.updPop h (fun y => { y with clusters := y.clusters.map (fun x =>
    { x with horizons := x.horizons.filter (fun z => !slots.contains z.1) ++ slots.map (fun i => (i, x.tick - 1)) }) })

/-- The alternate of plan slot `p` is taken (R563, steps 2 to 6). -/
def Dev.takeAlternate (s : Dev) (p : Nat) (t : AltEntry) : Dev :=
  let x := s.plan p
  let c := t.cluster
  let a := t.alternate
  let q := s.rd (Obj.phaseNow p)
  let s := (x.pops.zip x.popHandles).foldl (fun (s : Dev) z =>
    if z.1.phaseMask &&& t.phaseMask = 0 then s else (s.popMoved z.2 c a z.1).gatesMoved p z.2 c z.1) s
  let s := (x.layers.zip x.layerHandles).foldl (fun (s : Dev) z => if z.1.phaseMask &&& t.phaseMask = 0 then s else s.stripesAgain z.2 c a z.1) s
  let y := x.patched t
  let s := s.updPlan p (fun _ => y)
  let s := ((x.allWeirs.drop t.firstWeir).take t.weirCount).foldl (fun (s : Dev) e => s.phaseWeir e) s
  let s := (((x.allPlaces.drop t.firstPlace).take t.placeCount).filter (fun e => e.phase == q)).foldl (fun (s : Dev) e => s.phaseCluster e) s
  let s := { s with transit := s.transit.map (fun (w : Transit) =>
    match w.dest with
    | .population h k i => if k = c ∧ x.popHandles.contains h = true then { w with dest := .population h a i } else w
    | _ => w) }
  s.phaseStarts (s.rd (Obj.planOwner p)) y t.starts

/-- The running plans that place cluster `c` in their present phase. -/
def Dev.plansOn (s : Dev) (c : Nat) : List Nat :=
  (List.range 16).filter (fun p => s.planRuns p && ((s.plan p).phaseClusters (s.rd (Obj.phaseNow p))).contains c)

/-- The ALTERNATES entry that covers cluster `c` in the present phase of slot `p`, its alternate in service. -/
def Dev.alternateOf (s : Dev) (p c : Nat) : Option AltEntry :=
  (s.plan p).alternates.find? (fun t => t.cluster == c && inPhase t.phaseMask (s.rd (Obj.phaseNow p)) && s.getF (Obj.clusterHealth t.alternate) 0 2 == 0)

/-- One cluster's work moves: the device and its outcome, 5 for no work (R561). -/
def Dev.clusterMove (s : Dev) (c : Nat) : Dev × Nat :=
  (s.plansOn c).foldl (fun (z : Dev × Nat) p =>
    match z.1.alternateOf p c with
    | some t => (z.1.takeAlternate p t, if z.2 = 6 then 6 else 2)
    | none => (z.1.planFault p, 6)) (s, 5)

/-- The clusters that an element takes with it. -/
def Elem.clusters : Elem → List Nat
  | .cluster c => [c]
  | .clusterSluice c _ => [c]
  | .region r => (List.range 8).map (fun k => r * 8 + k)
  | _ => []

/-- The alternates that must be on before the work of some clusters moves (R563, step 3). -/
def Dev.alternatesFor (s : Dev) (cs : List Nat) : List Nat :=
  cs.flatMap (fun c => (s.plansOn c).filterMap (fun p => (s.alternateOf p c).map (·.alternate)))

/-- Several clusters' work moves; a plan without an alternate gives outcome 6, work moved gives 2. -/
def Dev.clustersMove (s : Dev) (cs : List Nat) : Dev × Nat :=
  cs.foldl (fun (z : Dev × Nat) c =>
    let r := z.1.clusterMove c
    (r.1, if z.2 = 6 ∨ r.2 = 6 then 6 else if z.2 = 2 ∨ r.2 = 2 then 2 else 5)) (s, 5)

/-! ### Remaps and moves (R28, R562) -/

/-- The remap of logical unit `g` onto the spare slot of its cluster (R562): zero fill ends the slot's silted state, the unit's
generator takes its value of the phase start (R267), and the neurons on the unit restart (R198). -/
def Dev.remap (s : Dev) (g : Nat) : Dev :=
  let c := g / 16
  let k := s.getF (Obj.clusterHealth c) 20 5
  let s := { s with unitMap := Tab.put 0 s.unitMap g (k + 1), silted := Tab.put false s.silted (c * 17 + k) false,
                    lfsr := Tab.put 0 s.lfsr g (lfsrSeed (Tab.get 0 s.phaseSeed c) (g % 16)) }
  ((s.setF (Obj.clusterHealth c) 2 1 0).setF (Obj.clusterHealth c) 20 5 0x1F).restartUnit g

/-- A lane of link `l` is repaired, or the link runs at half width (R561, R576). -/
def Dev.laneRepair (s : Dev) (q l : Nat) : Dev :=
  if s.getF (Obj.linkHealth l) 2 2 ≠ 0 then
    let s := (s.setF (Obj.linkHealth l) 2 2 (s.getF (Obj.linkHealth l) 2 2 - 1)).setF (Obj.linkHealth l) 4 4 (min 15 (s.getF (Obj.linkHealth l) 4 4 + 1))
    s.bump (faultCtr q 6)
  else s.setF (Obj.linkHealth l) 0 2 1

/-- The entry of queue `q` ends with work resumed (R549, R571): the interruption in µs, its longest, and its histogram. -/
def Dev.resumed (s : Dev) (q outcome : Nat) (work : Bool) : Dev :=
  match s.handling q with
  | none => s
  | some e =>
    let us := (s.rf - e.detectF) / 1000
    let s := if work then (s.raiseTo (faultCtr q 7) us).sedInterruption us else s
    s.finishFault q (fun e => { e with outcome := outcome, interruption := if work then us % 2 ^ 32 else 0xFFFFFFFF, resume := s.dt })

/-- The entry of queue `q` ends with nothing resumed. -/
def Dev.unresumed (s : Dev) (q outcome : Nat) : Dev := s.finishFault q (fun e => { e with outcome := outcome })

/-- RECOVERY_COMPLETE (R561 to R563): the recovery of the entry that queue `q` handles. An alternate that is not on is woken first, and the move waits
for it. [log 43 DESIGN CHOICE] -/
def Dev.recoveryComplete (s : Dev) (q : Nat) : Dev :=
  match s.handling q with
  | none => s
  | some e =>
    match e.elem with
    | .unit g => ((s.remap g).bump (faultCtr q 4)).resumed q 1 (s.clusterBusy (g / 16))
    | .lane l _ => (s.laneRepair q l).resumed q 3 true
    | .link l => let r := s.relay; ((s.setF (Obj.linkHealth l) 0 2 2).relayMoved r).resumed q 4 true
    | .boundarySluice l k =>
      let key := 1024 + (l * 32 + k) * 2
      ((s.sluiceReplay key).sluiceReplay (key + 1)).resumed q 4 true
    | .gddrChannel _ | .ferry _ => s.resumed q 4 true
    | .eddy d =>
      (s.each 36 (fun n s => if s.rd (Obj.homeDie n) = d ∧ (s.getF (Obj.streamState n) 0 4 = 5 ∨ s.getF (Obj.streamState n) 0 4 = 6) then s.streamFault n 8 else s)).unresumed q 7
    | .cluster _ | .clusterSluice _ _ | .region _ =>
      let cs := e.elem.clusters
      let asleep := (s.alternatesFor cs).filter (fun a => !s.domOn a)
      if asleep ≠ [] then asleep.foldl (fun (s : Dev) a => s.wake a) s
      else
        let r := s.clustersMove cs
        match r.2 with
        | 2 => (r.1.bump (faultCtr q 5)).resumed q 2 true
        | 6 => r.1.unresumed q 6
        | _ => r.1.unresumed q 5
    | _ => s.unresumed q 5

/-! ### A die's recovery, retests, ALERT_N -/

/-- A destructive pass with soft repair on every free cluster of die `d` (R559): register files and scratchpad, all slots. -/
def Dev.marchFree (s : Dev) (d : Nat) : Dev :=
  s.each 32 (fun k s =>
    let c := d * 32 + k
    if s.rd (Obj.clusterOwner c) = 0xFF ∧ s.march c = none ∧ s.domOn c = true then s.marchStart c (1 + 4 + 8 + 16 + 0x1F * 32) false else s)

/-- A DieCommand that passed the checks of R469 (R559). -/
def Dev.dieRecover (s : Dev) (q : Requester) (d : Nat) : Dev :=
  if s.rd (Obj.dieHealth d) ≠ 1 ∨ s.getF (Obj.faultEngineState d) 9 3 = 5 ∨ s.getF (Obj.railState d) 0 2 = 3 then s.refuse q .state
  else
    let s := s.accept q
    let slot := s.getF Obj.securityState 1 1
    let s := s.each 4096 (fun k s => (s.weirClear (d * 4096 + k)).completeWaits (d * 4096 + k))
    if s.imageGood slot 2 then
      let r := s.relay
      let s := (s.measureImage slot 2 d).marchFree d
      (((s.wr (Obj.dieHealth d) 0).setF (Obj.faultEngineState d) 8 1 0).setF (Obj.faultEngineState d) 9 3 0).relayMoved r
    else s

/-- A SlotRetest write that passed the checks of R469 (R568). -/
def Dev.slotRetest (s : Dev) (q : Requester) (c k : Nat) : Dev :=
  if s.bit (Obj.clusterHealth c) (3 + k) = false ∨ (s.march c).isSome = true then s.refuse q .state
  else (s.marchStart c (2 + 4 + 8 + k * 32) true).accept q

/-! ### Detectors of the fabric (R72, R73, R551) -/

/-- A CRC error on link `l`: a retry; more than 16 within 1 ms start a retrain. -/
def Dev.linkCrc (s : Dev) (l : Nat) : Dev :=
  let s := (s.bump (Obj.linkRetries l)).sedError 0x44
  let x := rateUp (Tab.get (0, 0) s.linkMs l) (s.win 1000000)
  let s := { s with linkMs := Tab.put (0, 0) s.linkMs l x }
  if 16 < x.2 ∧ Tab.get 0 s.linkRetrainF l = 0 then { s with linkRetrainF := Tab.put 0 s.linkRetrainF l (s.rf + 1) } else s

/-- A retrain of link `l` ends: its test names a lane, or finds the link unusable. -/
def Dev.retrainLink (s : Dev) (l : Nat) (lane : Option (Fin 64)) : Dev :=
  if Tab.get 0 s.linkRetrainF l = 0 then s
  else
    let s := { s with linkRetrainF := Tab.put 0 s.linkRetrainF l 0 }
    match lane with
    | some n => s.detect 0x07 (.lane l n.val) n.val
    | none => s.detect 0x08 (.link l) 0

/-- What a detector found: the class and the element of its entry (R551). -/
def detectionEntry : Detection → Nat × Elem
  | .residue g => (0x01, .unit g.val)
  | .watchUnit g => (0x02, .unit g.val)
  | .watchCluster c => (0x04, .cluster c.val)
  | .watchRegion r => (0x06, .region r.val)
  | .watchEddy d => (0x0D, .eddy d.val)
  | .marchSlot g => (0x03, .unit g.val)
  | .marchBank c => (0x04, .cluster c.val)
  | .clusterSluice c k => (0x05, .clusterSluice c.val k.val)
  | .boundarySluice l k => (0x05, .boundarySluice l.val k.val)
  | .lane l n => (0x07, .lane l.val n.val)
  | .link l => (0x08, .link l.val)
  | .channel k => (0x09, .gddrChannel k.val)
  | .mereBank d b => (0x0A, .mereBank d.val b.val)
  | .padWord c => (0x0B, .cluster c.val)
  | .gddrWord k => (0x0B, .gddrChannel k.val)
  | .ferry f => (0x0C, .ferry f.val)
  | .rail r => (0x0E, .rail (r.val + 1))
  | .timeBase => (0x0F, .timeBase)
  | .master k n _ => (0x20, .master k.val n.val)
  | .hostPort h => (0x21, .hostPort h.val)
  | .manager d => (0x30, .die d.val)
  | .dieLost d => (0x31, .die d.val)

/-- The tenant of a plan fault, or of the host port that a completion failed on (R571). -/
def Dev.detectionOwner (s : Dev) (x : Detection) : Nat :=
  match x with
  | .master _ _ t => t.val
  | .hostPort h => if s.portBound h.val then s.getF (Obj.attachState h.val) 8 4 else 0xFF
  | _ => 0xFF

/-- The recalibration of IOD1's path ends (R79). -/
def Dev.pathRecalEnd (s : Dev) : Dev := if s.pathRecalF = 0 then s else ({ s with pathRecalF := 0 } : Dev).calibrate [5]

/-! ### The commands -/

/-- FAULT_DETECTION (R551 to R557). -/
def execFaultDetection (x : Detection) (detail : BitVec 32) (s : State) : Host.Outcome State Fault Refusal :=
  s.run (fun d => d.detectFor (detectionEntry x).2.queue (detectionEntry x).1 (detectionEntry x).2 detail.toNat (d.detectionOwner x))

/-- FAULT_HANDLE (R556). -/
def execFaultHandle (q : Fin 6) (stuck : Bool) (s : State) : Host.Outcome State Fault Refusal := s.run (fun d => d.faultHandle q.val stuck)

/-- RECOVERY_COMPLETE (R561 to R563). -/
def execRecoveryComplete (q : Fin 6) (s : State) : Host.Outcome State Fault Refusal := s.run (fun d => d.recoveryComplete q.val)

/-- HANDLING_DEADLINE (R557). -/
def execHandlingDeadline (q : Fin 6) (s : State) : Host.Outcome State Fault Refusal := s.run (fun d => d.handlingDeadline q.val)

/-- DIE_RECOVER (R559). -/
def execDieRecover (q : Requester) (d : Fin 4) (v : BitVec 8) (s : State) : Host.Outcome State Fault Refusal :=
  s.asked q (Obj.dieCommand d.val) v.toNat (fun x => x.dieRecover q d.val)

/-- SLOT_RETEST (R568). -/
def execSlotRetest (q : Requester) (c : Fin 128) (v : BitVec 8) (s : State) : Host.Outcome State Fault Refusal :=
  s.asked q (Obj.slotRetest c.val) v.toNat (fun x => x.slotRetest q c.val v.toNat)

/-- ALERT_CLEAR (R573, R614). -/
def execAlertClear (q : Requester) (v : BitVec 8) (s : State) : Host.Outcome State Fault Refusal :=
  s.asked q Obj.alertClear v.toNat (fun x => ({ x with alertFault := false } : Dev).accept q)

/-- HANDSHAKE_WATCHDOG (R72, R73): the element that owes the acknowledge; a region router that is off takes no request (R37). -/
def execHandshakeWatchdog (e : Watched) (s : State) : Host.Outcome State Fault Refusal :=
  s.run (fun d => match e with
    | .unit g => d.detect 0x02 (.unit g.val) (d.slotOf g.val)
    | .cluster c => d.detect 0x04 (.cluster c.val) 0
    | .region r => if d.routerOn r.val then d.detect 0x06 (.region r.val) 0 else d
    | .eddy k => d.detect 0x0D (.eddy k.val) 0)

/-- LINK_CRC_ERROR (R22, R551, R569). -/
def execLinkCrcError (l : Fin 12) (s : State) : Host.Outcome State Fault Refusal := s.run (fun d => d.linkCrc l.val)

/-- LANE_RETRAIN_END (R551, R562). -/
def execLaneRetrainEnd (l : Fin 12) (lane : Option (Fin 64)) (s : State) : Host.Outcome State Fault Refusal := s.run (fun d => d.retrainLink l.val lane)

/-- PATH_RECALIBRATION_END (R79). -/
def execPathRecalibrationEnd (s : State) : Host.Outcome State Fault Refusal := s.run Dev.pathRecalEnd

end Sys2Proof.Machine
end

