-- ==== Sys2Proof/Machine/ReedCore.lean ====
section
/-! DEFINITION. Reedbed's signal paths (R374 to R388): Q1.23, the order of samples, the fine and fast paths, the fade, the detectors. -/

namespace Sys2Proof.Machine

open Sys2Proof

/-- Channel `c`. -/
def Dev.reed (s : Dev) (c : Nat) : Reed := Tab.get {} s.reeds c

/-- The device with a channel changed. -/
def Dev.updReed (s : Dev) (c : Nat) (f : Reed → Reed) : Dev := { s with reeds := Tab.upd {} s.reeds c f }

/-- The state of channel `c` (R391): 0 stopped, 1 FILLING, 2 running, 3 LOST. -/
def Dev.reedState (s : Dev) (c : Nat) : Nat := s.getF (Obj.reedbedStatus c) 0 2

/-- Counter `k` of channel `c`, from 0. -/
def reedCtr (c k : Nat) : Reg := Obj.reedbedCounter c k

/-- Q1.23's range. -/
def q23Max : Int := 2 ^ 23 - 1
def q23Min : Int := -(2 ^ 23)

/-- A value brought into Q1.23, and whether it saturated. -/
def q23 (v : Int) : Int × Bool := (clampI q23Min q23Max v, decide (v < q23Min) || decide (q23Max < v))

/-- A rational rounded to the nearest integer, ties to even (R376). -/
def nearest (r : Rat) : Int := if r < 0 then -((Round.nearestEven.int (-r) : Nat) : Int) else ((Round.nearestEven.int r : Nat) : Int)

/-- A saturation counted (R376). -/
def Dev.reedSat (s : Dev) (c : Nat) (sat : Bool) : Dev := if sat then s.bump (reedCtr c 6) else s

/-- Fields of SourceSpec (R390). -/
def Dev.srcKind (s : Dev) (c : Nat) : Nat := s.getF (Obj.sourceSpec c) 0 4
def Dev.srcUnit (s : Dev) (c : Nat) : Nat := s.getF (Obj.sourceSpec c) 4 4
def Dev.srcOffset (s : Dev) (c : Nat) : Nat := s.getF (Obj.sourceSpec c) 8 8

/-- The width of the raw field in bytes; Ethernet and internal sources fix it. -/
def Dev.srcBytes (s : Dev) (c : Nat) : Nat := if s.srcKind c = 3 then 4 else if s.srcKind c = 4 then 2 else s.getF (Obj.sourceSpec c) 16 2 + 2

/-- The raw field in a frame (R370, R390). [log 79 DEDUCED] -/
def Dev.rawField (s : Dev) (c : Nat) (data : List Byte) : Nat :=
  let bs := bytesAt data (s.srcOffset c) (s.srcBytes c)
  if s.bit (Obj.sourceSpec c) 19 then ofBe bs else ofLe bs

/-- The Q1.23 value of a raw field of channel `c` before the shift's saturation (R375). -/
def Dev.toQ23 (s : Dev) (c raw : Nat) : Int :=
  let w := 8 * s.srcBytes c
  let r : Int := if s.srcKind c = 3 ∨ s.srcKind c = 4 ∨ s.bit (Obj.sourceSpec c) 18 = true then signed w raw else (raw : Int) - 2 ^ (w - 1)
  let n : Int := if w = 16 then r * 256 else if w = 24 then r else nearest ((r : Rat) / 256)
  n * 2 ^ s.rd (Obj.inputShift c)

/-- T in ns (R377). -/
def Dev.reedT (s : Dev) (c : Nat) : Rat := 1000000000 / (s.rd (Obj.inputRate c) : Rat)

/-- L of a preset (R378). -/
def presetL (p : Nat) : Nat := 64 / 2 ^ p

/-- Samples of history that a channel needs before its first fine output (R380). -/
def Dev.reedNeeds (s : Dev) (c : Nat) : Nat := 2 * s.rd (Obj.channelDelay c) * s.rd (Obj.decimation c) + s.rd (Obj.phaseDelay c) / 64 + 1

/-- ChannelDelay × D + PhaseDelay / 64, over InputRate, with SourceLatency, in ns (R381). -/
def Dev.fineDelay (s : Dev) (c : Nat) : Rat :=
  ((s.rd (Obj.channelDelay c) * s.rd (Obj.decimation c) : Nat) + (s.rd (Obj.phaseDelay c) : Rat) / 64) * s.reedT c + (s.rd (Obj.sourceLatency c) : Rat)

/-- A coefficient of the ROM, in 2⁻²³: symmetric where the fraction is 0 (R378). What the ROM holds is not stated: constants with no body. [log 78 DESIGN CHOICE] -/
def firTap (p d f i : Nat) : Int :=
  let n := presetL p * d
  let j := if f = 0 then min i (n - i) else i
  signed 24 (Config.firCoefficient (((p * 64 + d) * 64 + f) * 4096 + j) % 2 ^ 24)

/-- The output of a bank that holds preset `p` (R379): the value before saturation. -/
def Dev.bankOut (s : Dev) (c p : Nat) : Int :=
  let d := s.rd (Obj.decimation c)
  let ph := s.rd (Obj.phaseDelay c)
  let back := ph / 64 + (s.rd (Obj.channelDelay c) - presetL p / 2) * d
  let xs := ((s.reed c).hist.drop back).take (presetL p * d + 1)
  nearest (((xs.zipIdx.map (fun x => firTap p d (ph % 64) x.2 * x.1.1)).sum : Rat) / 2 ^ 23)

/-- Whether a fill lies among the samples that a bank with preset `p` used. -/
def Dev.bankFill (s : Dev) (c p : Nat) : Bool :=
  let d := s.rd (Obj.decimation c)
  let back := s.rd (Obj.phaseDelay c) / 64 + (s.rd (Obj.channelDelay c) - presetL p / 2) * d
  (((s.reed c).hist.drop back).take (presetL p * d + 1)).any (·.2)

/-- Fields of ChannelStatus (R391). -/
def Dev.reedFading (s : Dev) (c : Nat) : Bool := s.bit (Obj.reedbedStatus c) 2
def Dev.reedActive (s : Dev) (c : Nat) : Nat := s.getF (Obj.reedbedStatus c) 4 2
def Dev.reedTarget (s : Dev) (c : Nat) : Nat := s.getF (Obj.reedbedStatus c) 6 2

/-- A fade begins (R383). -/
def Dev.fadeStart (s : Dev) (c q : Nat) : Dev :=
  ((s.setBit (Obj.reedbedStatus c) 2 true).setF (Obj.reedbedStatus c) 6 2 q).updReed c (fun x => { x with fadeK := 0 })

/-- After a fade output (R383, R384): at the last, the target is active, and a request held acts. -/
def Dev.fadeStep (s : Dev) (c : Nat) : Dev :=
  let s := s.updReed c (fun x => { x with fadeK := x.fadeK + 1 })
  if (s.reed c).fadeK < s.rd (Obj.fadeLength c) then s
  else
    let q := s.reedTarget c
    let held := s.getF (Obj.reedbedStatus c) 8 2
    let again := s.bit (Obj.reedbedStatus c) 3
    let s := (((s.bump (reedCtr c 7)).setF (Obj.reedbedStatus c) 4 2 q).setBit (Obj.reedbedStatus c) 2 false).setBit (Obj.reedbedStatus c) 3 false
    if again && held != q then s.fadeStart c held else s

/-- √(sum / n) rounded to nearest even. -/
def rmsOf (sum n : Nat) : Nat :=
  let r := isqrt (sum / n)
  if (2 * r + 1) * (2 * r + 1) * n < 4 * sum then r + 1
  else if (2 * r + 1) * (2 * r + 1) * n = 4 * sum ∧ r % 2 = 1 then r + 1 else r

/-- The three detectors take output `y` (R387). -/
def Dev.detectors (s : Dev) (c : Nat) (y : Int) : Dev :=
  let a := y.natAbs
  let ctl := s.rd (Obj.detectControl c)
  let s := s.updReed c (fun x => { x with peakNow := max x.peakNow a, squares := x.squares + a * a, seen := x.seen + 1 })
  let x := s.reed c
  let s :=
    if s.rd (Obj.detectWindow c) ≤ x.seen then
      let p := q23 (x.peakNow : Int)
      let r := q23 (rmsOf x.squares x.seen : Int)
      (((((s.wrI (Obj.peak c) p.1).wrI (Obj.rms c) r.1).reedSat c p.2).reedSat c r.2).updReed c (fun x => { x with peakNow := 0, squares := 0, seen := 0 }))
    else s
  let e := s.rdI (Obj.envelope c)
  let k := if e < (a : Int) then field ctl 0 4 else field ctl 4 4
  let v := q23 (e + ((a : Int) - e) / 2 ^ k)
  let s := (s.wrI (Obj.envelope c) v.1).reedSat c v.2
  let thr := signed 24 (s.rd (Obj.detectThreshold c))
  if s.bit (Obj.reedbedStatus c) 10 = false ∧ thr ≤ v.1 then
    let s := (s.setBit (Obj.reedbedStatus c) 10 true).bump (reedCtr c 10)
    if bitAt ctl 8 then s.weirAdd .blockOwner (field ctl 9 14) 1 false else s
  else if s.bit (Obj.reedbedStatus c) 10 = true ∧ v.1 < thr - thr / 8 then s.setBit (Obj.reedbedStatus c) 10 false
  else s

/-- A fine output (R379, R384, R388): the bank, or the fade of two, then the detectors, then the record. [log 79 DEDUCED] -/
def Dev.fineOut (s : Dev) (c : Nat) (t : Rat) : Dev :=
  let p := s.reedActive c
  let q := s.reedTarget c
  let fading := s.reedFading c
  let a := q23 (s.bankOut c p)
  let b := q23 (s.bankOut c q)
  let f : Int := s.rd (Obj.fadeLength c)
  let k : Int := min f (((s.reed c).fadeK : Int) + 1)
  let y := if fading then q23 (nearest ((((f - k) * a.1 + k * b.1 : Int) : Rat) / (f : Rat))) else a
  let sat := a.2 || (fading && (b.2 || y.2))
  let fill := s.bankFill c p || (fading && s.bankFill c q)
  let s := (s.reedSat c a.2).reedSat c (fading && b.2)
  let s := (if fading then s.fadeStep c else s).detectors c y.1
  let flags := b2n fading + 2 * b2n fill + 4 * b2n sat + 8 * b2n (s.bit (Obj.reedbedStatus c) 10)
  let s := { s with fines := s.fines ++ ([⟨c, flags, y.1, (t - s.fineDelay c).floor⟩] : List FineRec) }
  s.bump (reedCtr c 5)

/-- The fast output (R385). Until FastTaps samples have come, what the average is of is not stated: an open value. [log 79 DEDUCED] -/
def Dev.fastOut (s : Dev) (c : Nat) : Dev :=
  let n := s.rd (Obj.fastTaps c)
  let xs := (s.reed c).hist.take n
  let short : Bool := decide (xs.length < n)
  let v : Int := if short then signed 24 (s.open_ % 2 ^ 24) else nearest (((xs.map (·.1)).sum : Rat) / (n : Rat))
  let s := if short then s.drawn else s
  let y := fOfRat ((v : Rat) / 2 ^ 23 * (fval (s.rd (Obj.fullScale c))).rat)
  s.updReed c (fun x => { x with fast := some y })

/-- The latest fast output of a channel; one that has made none gives an open value (R386). -/
def Dev.fastNow (s : Dev) (c : Nat) : Nat × Dev := match (s.reed c).fast with | some v => (v, s) | none => (s.open_ % 2 ^ 32, s.drawn)

/-- The rate vectors that a fast output of channel `c` sends (R386). -/
def Dev.rateVectors (s : Dev) (c : Nat) (t : Rat) : Dev :=
  let stamp := (t - ((s.rd (Obj.fastTaps c) - 1 : Nat) : Rat) * s.reedT c / 2 - (s.rd (Obj.sourceLatency c) : Rat)).floor
  s.each 36 (fun n s =>
    if s.rd (Obj.gyroChannel n) = c then
      let x := s.fastNow c
      let y := x.2.fastNow (c + 1)
      let z := y.2.fastNow (c + 2)
      z.2.updStr n (fun v => { v with gyroIn := v.gyroIn ++ [⟨stamp, x.1, y.1, z.1⟩] })
    else s)

/-- A sample or a fill, `v` stamped `t`, enters the paths of channel `c` (R377 to R388). -/
def Dev.reedTake (s : Dev) (c : Nat) (v : Int) (t : Rat) (fill : Bool) : Dev :=
  let s := s.updReed c (fun x => { x with hist := ((v, fill) :: x.hist).take 4096, filled := x.filled + 1, since := x.since + 1, stamp := some t })
  let s := s.setBit (Obj.reedbedStatus c) 11 fill
  let s := (s.fastOut c).rateVectors c t
  if s.reedState c = 1 then
    if s.reedNeeds c ≤ (s.reed c).filled then
      ((s.setF (Obj.reedbedStatus c) 0 2 2).updReed c (fun x => { x with since := 0 })).fineOut c t
    else s
  else if s.rd (Obj.decimation c) ≤ (s.reed c).since then (s.updReed c (fun x => { x with since := 0 })).fineOut c t
  else s

/-- One more sample in its 100 ms of device time (R377): false where it is in excess. -/
def Dev.rateOk (s : Dev) (c : Nat) (t : Rat) : Dev × Bool :=
  let w := t.floor / 100000000
  let n := if (s.reed c).win = w then (s.reed c).inWin else 0
  if n < ceilDiv (s.rd (Obj.inputRate c)) 8 then (s.updReed c (fun x => { x with win := w, inWin := n + 1 }), true) else (s, false)

/-- The detectors and the history start again (R377, R380, R387). -/
def Dev.reedClear (s : Dev) (c : Nat) : Dev :=
  let s := s.updReed c (fun x => { ({} : Reed) with stamp := x.stamp, win := x.win, inWin := x.inWin, fast := x.fast, fadeK := x.fadeK })
  (((s.setF (Obj.reedbedStatus c) 0 2 1).setBit (Obj.reedbedStatus c) 10 false).wr (Obj.envelope c) 0)

/-- SAMPLE (R377): a raw value of channel `c` stamped `t`. -/
def Dev.sample (s : Dev) (c raw : Nat) (t : Int) : Dev :=
  if s.reedState c = 0 then s
  else
    let late : Bool := match (s.reed c).stamp with | some p => decide ((t : Rat) - p < s.reedT c / 2) | none => false
    if late then s.bump (reedCtr c 1)
    else
      let r := s.rateOk c t
      if r.2 = false then s.bump (reedCtr c 3)
      else
        let s := r.1.bump (reedCtr c 0)
        let s := if s.reedState c = 3 then s.reedClear c else s
        let v := q23 (s.toQ23 c raw)
        ((s.reedSat c v.2).updReed c (fun x => { x with fills := 0 })).reedTake c v.1 t false

/-- GAP_FILL (R377): the previous value again, at previous + T; GapLimit fills in a row lead to LOST. -/
def Dev.gapFill (s : Dev) (c : Nat) : Dev :=
  match (s.reed c).stamp, (s.reed c).hist with
  | some p, (v, _) :: _ =>
    if (s.reedState c = 1 ∨ s.reedState c = 2) ∧ p + 3 / 2 * s.reedT c ≤ (s.dt : Rat) then
      let s := (s.bump (reedCtr c 2)).reedTake c v (p + s.reedT c) true
      let s := s.updReed c (fun x => { x with fills := x.fills + 1 })
      if s.rd (Obj.gapLimit c) ≤ (s.reed c).fills then (s.setF (Obj.reedbedStatus c) 0 2 3).bump (reedCtr c 4) else s
    else s
  | _, _ => s

/-- A step or a re-basing of device time (R374, R622). -/
def Dev.reedsStepped (s : Dev) : Dev := { s with reeds := s.reeds.map (fun x => (x.1, { x.2 with stamp := none, inWin := 0 })) }

end Sys2Proof.Machine
end

