-- ==== Sys2Proof/Machine/Reedbed.lean ====
section
/-! DEFINITION. Reedbed's sources and commands (R370 to R373, R380 to R383). -/

namespace Sys2Proof.Machine

open Sys2Proof

/-- The transfer term of FineLatency in ns (R382): how many bits a CAN FD frame of 64 data bytes has is left to ISO 11898, a constant with no body. -/
def Dev.transferTerm (s : Dev) (c : Nat) : Rat :=
  match s.srcKind c with
  | 1 => 500 + (s.rd (Obj.frameBytes (s.srcUnit c)) : Rat) * 8 * 1000000 / (s.rd (Obj.spiClock (s.srcUnit c)) : Rat)
  | 2 => (Config.canFrameNs (s.rd (Obj.canNominalRate (s.srcUnit c))) (s.rd (Obj.canDataRate (s.srcUnit c))) : Nat)
  | _ => 0

/-- FineLatency in ns (R382). -/
def Dev.fineLatencyNs (s : Dev) (c : Nat) : Nat := (s.fineDelay c + s.transferTerm c + 3000).floor.toNat

/-- The number of channels that are not stopped (R389). -/
def Dev.reedCount (s : Dev) : Dev := s.wr Obj.channelsRunning ((List.range 64).filter (fun c => s.reedState c != 0)).length

/-- Why a Start is refused (R380); 0 where it is not. -/
def Dev.reedStartError (s : Dev) (c : Nat) : Nat :=
  if s.srcKind c = 0 then 1
  else if 4096 < s.reedNeeds c then 2
  else if s.rd (Obj.channelDelay c) < presetL (s.rd (Obj.preset c)) / 2 then 3
  else if s.srcKind c = 1 ∧ s.rd (Obj.frameBytes (s.srcUnit c)) < s.srcOffset c + s.srcBytes c then 4
  else 0

/-- A Start that passed the checks of R469. [log 79 DEDUCED] -/
def Dev.reedStart (s : Dev) (q : Requester) (c : Nat) : Dev :=
  match s.reedStartError c with
  | 0 =>
    let s := (s.updReed c (fun x => { ({} : Reed) with fast := x.fast })).reedClear c
    let s := (s.setF (Obj.reedbedStatus c) 16 8 0).wr (Obj.fineLatency c) (s.fineLatencyNs c)
    s.reedCount.accept q
  | e => (s.setF (Obj.reedbedStatus c) 16 8 e).refuse q .state

/-- A Stop (R383): the last accepted request's preset is active for the next Start. -/
def Dev.reedStop (s : Dev) (q : Requester) (c : Nat) : Dev :=
  let p := s.rd (Obj.preset c)
  let s := ((s.setF (Obj.reedbedStatus c) 0 2 0).setF (Obj.reedbedStatus c) 2 2 0).setF (Obj.reedbedStatus c) 4 2 p
  ((s.setF (Obj.reedbedStatus c) 6 2 p).reedCount).accept q

/-- A ChannelCommand that passed the checks of R469. -/
def Dev.reedCommand (s : Dev) (q : Requester) (c v : Nat) : Dev := if v = 1 then s.reedStart q c else s.reedStop q c

/-- A Preset write that passed the checks of R469 (R383). -/
def Dev.presetWrite (s : Dev) (q : Requester) (c v : Nat) : Dev :=
  if s.rd (Obj.channelDelay c) < presetL v / 2 then (s.bump (reedCtr c 9)).refuse q .range
  else
    let s := s.wr (Obj.preset c) v
    let s :=
      if s.reedState c = 0 then (s.setF (Obj.reedbedStatus c) 4 2 v).setF (Obj.reedbedStatus c) 6 2 v
      else if s.reedFading c then
        let s := if s.bit (Obj.reedbedStatus c) 3 then s.bump (reedCtr c 8) else s
        (s.setBit (Obj.reedbedStatus c) 3 true).setF (Obj.reedbedStatus c) 8 2 v
      else if v = s.reedActive c then s
      else s.fadeStart c v
    s.accept q

/-! ### Sources -/

/-- The channels of a source kind and unit take their fields of a frame (R370). -/
def Dev.frameSamples (s : Dev) (kind unit_ : Nat) (pick : Nat → Bool) (data : List Byte) (t : Int) : Dev :=
  s.each 64 (fun c s => if s.srcKind c = kind ∧ s.srcUnit c = unit_ ∧ pick c = true then s.sample c (s.rawField c data) t else s)

/-- SPI_FRAME_TRIGGER (R371): the timer's tick, or a transition that the named capture input accepted. -/
def Dev.spiTriggered (s : Dev) (k : Nat) : Dev :=
  let x := Tab.get ({} : Spi) s.spis k
  let m := s.rd (Obj.spiTrigger k)
  let cap := Tab.get ({} : Cap) s.caps m
  if s.padsHeld 180 then s
  else if m < 8 ∧ (s.bit (Obj.capStatus m) 2 = true ∨ cap.lastF = x.usedF) then s
  else if 8 ≤ m ∧ s.tickDue k (s.rd (Obj.frameRate k)) = false then s
  else
  let s := if m < 8 then s else s.ticked k
  if x.frame.isSome then
    let s := { s with spis := Tab.upd {} s.spis k (fun y => { y with usedF := if m < 8 then cap.lastF else y.usedF }) }
    s.bump (Obj.frameOverruns k)
  else
    let t := if m < 8 then s.dtAt cap.lastF else s.dt
    let s := { s with spis := Tab.upd {} s.spis k (fun y => { frame := some t, usedF := if m < 8 then cap.lastF else y.usedF }) }
    s.emit (.spi k ((s.blob (Obj.frameCommand k)).take (s.rd (Obj.frameBytes k))))

/-- SPI_FRAME_DONE (R370, R371): the bytes received. -/
def Dev.spiDone (s : Dev) (k : Nat) (data : List Byte) : Dev :=
  match (Tab.get ({} : Spi) s.spis k).frame with
  | none => s
  | some t =>
    let s := { s with spis := Tab.upd {} s.spis k (fun y => { y with frame := none }) }
    (s.bump (Obj.framesDone k)).frameSamples 1 k (fun _ => true) (bytesAt data 0 (s.rd (Obj.frameBytes k))) t

/-- CAN_FRAME (R370): its identifier, its data field, and how many ns ago its start-of-frame bit was. [log 79 DEDUCED] -/
def Dev.canFrame (s : Dev) (k id : Nat) (extended : Bool) (data : List Byte) (age : Nat) : Dev :=
  s.frameSamples 2 k (fun c => s.getF (Obj.sourceSpec c) 20 29 == id && s.bit (Obj.sourceSpec c) 49 == extended) data (s.dt - age)

/-- REEDBED_DATAGRAM (R372). -/
def Dev.reedDatagram (s : Dev) (udp : Nat) (source payload : List Byte) : Dev :=
  if udp ≠ s.rd Obj.reedbedPort then s
  else
    let from_ := s.blob Obj.reedbedSource
    let n := leAt payload 2 1
    if (from_ ≠ zeros 16 ∧ from_ ≠ source) ∨ leAt payload 0 2 ≠ 0x0100 ∨ n = 0 ∨ 64 < n ∨ payload.length < 16 + 4 * n then s.bump Obj.datagramsDiscarded
    else
      let t := s.ofT80 (leAt payload 4 10)
      s.each 64 (fun c s => if s.srcKind c = 3 ∧ s.srcOffset c < n then s.sample c (leAt payload (16 + 4 * s.srcOffset c) 4) t else s)

/-- The value of an internal item (R373); what an item number beyond the table gives is not stated: an open value. -/
def Dev.internalItem (s : Dev) (i : Nat) : Nat :=
  if i < 6 then s.rd (Obj.dieTemperature i)
  else if i < 10 then s.rd (Obj.paceMeasured (i - 6))
  else if i < 46 then s.metered (stCtr (i - 10) 0) / 1000
  else s.open_

/-- INTERNAL_SAMPLE (R370, R373): a tick of the channel's timer at InputRate. -/
def Dev.internalSample (s : Dev) (c : Nat) : Dev :=
  if s.srcKind c = 4 ∧ s.tickDue (64 + c) (s.rd (Obj.inputRate c)) = true then
    let s := s.ticked (64 + c)
    let v := s.internalItem (s.srcOffset c) % 2 ^ 16
    (if s.srcOffset c < 46 then s else s.drawn).sample c v s.dt
  else s

/-! ### The commands -/

/-- SPI_FRAME_TRIGGER (R371). -/
def execSpiFrameTrigger (k : Fin 8) (s : State) : Host.Outcome State Fault Refusal := s.runIn 180 (fun d => d.spiTriggered k.val)

/-- SPI_FRAME_DONE (R370). -/
def execSpiFrameDone (k : Fin 8) (data : List Byte) (s : State) : Host.Outcome State Fault Refusal := s.runIn 177 (fun d => d.spiDone k.val data)

/-- CAN_FRAME (R370). -/
def execCanFrame (k : Fin 2) (id : BitVec 29) (extended : Bool) (data : List Byte) (age : Nat) (s : State) : Host.Outcome State Fault Refusal :=
  s.runIn 177 (fun d => d.canFrame k.val id.toNat extended data age)

/-- REEDBED_DATAGRAM (R372): the port it came by, its UDP port, its source address, its payload. -/
def execReedbedDatagram (port : Fin 2) (udp : Nat) (source payload : List Byte) (fcsOk : Bool) (s : State) : Host.Outcome State Fault Refusal :=
  s.framed (.reedbedDatagram port udp source payload fcsOk) (fun s =>
    let d := s.dev
    { s with dev := if !d.domOn (175 + port.val) then d else if !fcsOk then d.badFrame port.val else if d.domOn 177 then d.reedDatagram udp source payload else d })

/-- INTERNAL_SAMPLE (R373). -/
def execInternalSample (c : Fin 64) (s : State) : Host.Outcome State Fault Refusal := s.runIn 177 (fun d => d.internalSample c.val)

/-- GAP_FILL (R377). -/
def execGapFill (c : Fin 64) (s : State) : Host.Outcome State Fault Refusal := s.runIn 177 (fun d => d.gapFill c.val)

/-- CHANNEL_START (R380). -/
def execChannelStart (q : Requester) (c : Fin 64) (s : State) : Host.Outcome State Fault Refusal :=
  s.asked q (Obj.reedbedCommand c.val) 1 (fun d => d.reedStart q c.val)

/-- CHANNEL_STOP (R383). -/
def execChannelStop (q : Requester) (c : Fin 64) (s : State) : Host.Outcome State Fault Refusal :=
  s.asked q (Obj.reedbedCommand c.val) 2 (fun d => d.reedStop q c.val)

/-- PRESET_REQUEST (R383). -/
def execPresetRequest (q : Requester) (c : Fin 64) (v : BitVec 8) (s : State) : Host.Outcome State Fault Refusal :=
  s.asked q (Obj.preset c.val) v.toNat (fun d => d.presetWrite q c.val v.toNat)

end Sys2Proof.Machine
end

