-- ==== Sys2Proof/Machine/ConfCore.lean ====
section
/-! DEFINITION. Confluence (R392 to R417): which instant an input belongs to, the grids, ego motion, ADRIFT. -/

namespace Sys2Proof.Machine

open Sys2Proof

/-! ### Sources and instants (R398 to R403) -/

/-- The device with Confluence's own state changed. -/
def Dev.updFusion (s : Dev) (f : Fusion → Fusion) : Dev := { s with fusion := f s.fusion }

/-- Counter `k` (from 0) of Confluence. -/
def confCtr (k : Nat) : Reg := Obj.confluenceCounter k

/-- Counter `k` (from 0) of source slot `n` (R428). -/
def srcCtr (n k : Nat) : Reg := Obj.sourceCounter n k

/-- Whether fusion runs (R427). -/
def Dev.fusionRuns (s : Dev) : Bool := s.bit Obj.fusionState 0

/-- W in ns (R401). -/
def Dev.fusionW (s : Dev) : Nat := s.rd Obj.fusionWindow * 1000

/-- The fusion instant that covers an effective time (R401). -/
def Dev.instantOf (s : Dev) (dt : Int) : Int := (dt - s.rdT Obj.fusionOrigin) / (s.fusionW : Nat)

/-- The effective time of an input of slot `n` (R400). -/
def Dev.effective (s : Dev) (n : Nat) (stamp : Int) : Int := stamp + s.rdI (Obj.sourceOffset n) * 1000

/-- The feature instant of an instant (R407). -/
def Dev.featureOf (s : Dev) (k : Int) : Int := k / (s.rd Obj.featureInstants : Nat)

/-- The stream that a slot names (R398, R399): SourceRef of a STREAM slot, SourceStream of a SPIKES or FEATURE slot. -/
def Dev.slotStream (s : Dev) (n : Nat) : Option Nat :=
  match s.rd (Obj.sourceKind n) with
  | 1 => some (s.rd (Obj.sourceRef n))
  | 2 | 3 => some (s.rd (Obj.sourceStream n))
  | _ => none

/-- The fused streams (R399). -/
def Dev.fusedStreams (s : Dev) : List Nat := (List.range 36).filter (fun x => (List.range 96).any (fun n => decide (s.slotStream n = some x)))

/-- Whether stream `x` is ADRIFT (R412). -/
def Dev.adrift (s : Dev) (x : Nat) : Bool := s.rd (Obj.fusionStreamState x) == 2

/-- The streams that are ADRIFT, as a mask (R417). -/
def Dev.adriftMask (s : Dev) : Nat := bitmap 36 s.adrift

/-- The lowest open instant. -/
def Fusion.low (x : Fusion) : Int := match x.opened with | [] => 0 | i :: _ => i.k

/-- The highest open instant. -/
def Fusion.high (x : Fusion) : Int := match x.opened.getLast? with | some i => i.k | none => 0

/-- The device with the open instant `k` changed. -/
def Dev.updInstant (s : Dev) (k : Int) (f : Instant → Instant) : Dev :=
  s.updFusion (fun x => { x with opened := x.opened.map (fun i => if i.k = k then f i else i) })

/-- The device with the sums of feature instant `j` changed. -/
def Dev.updSum (s : Dev) (j : Int) (f : FeatureSum → FeatureSum) : Dev :=
  let ys := s.fusion.sums
  let zs := if ys.any (fun y => decide (y.j = j)) then ys.map (fun y => if y.j = j then f y else y) else ys ++ ([f { j := j }] : List FeatureSum)
  s.updFusion (fun x => { x with sums := zs })

/-- The event set of an open instant. -/
def Fusion.setOf (x : Fusion) (k : Int) : Nat := match x.opened.find? (fun i => decide (i.k = k)) with | some i => i.set | none => 0

/-- An input of slot `n` judged for instant `k` (R402, R403): the instant it is applied to and whether it is carried; none where it is dropped. It is
counted late against the lowest open instant. An instant not yet open stands for the highest that is. [log 80 DEDUCED] -/
def Dev.judgeInput (s : Dev) (n : Nat) (k : Int) : Dev × Option (Int × Bool) :=
  let low := s.fusion.low
  if k < low then
    let s := (s.bump (srcCtr n 1)).updInstant low (fun i => { i with late := satAdd 32 i.late 1 })
    let s := if s.rd (Obj.sourceKind n) = 3 then s.updSum (s.featureOf low) (fun y => { y with late := satAdd 32 y.late 1 }) else s
    if s.bit (Obj.sourceControl n) 0 then (s.bump (srcCtr n 2), some (low, true)) else (s, none)
  else (s, some (min k s.fusion.high, false))

/-- An input of slot `n` applied to instant `k` (R417): `mask` are the streams that contribute. [log 80 DEDUCED] -/
def Dev.inputApplied (s : Dev) (n : Nat) (k : Int) (carried : Bool) (mask : Nat) : Dev :=
  let s := (s.bump (srcCtr n 0)).updInstant k (fun i =>
    { i with applied := satAdd 32 i.applied 1, contrib := i.contrib ||| mask, carried := i.carried || carried })
  if s.rd (Obj.sourceKind n) = 3 then
    s.updSum (s.featureOf k) (fun y => { y with applied := satAdd 32 y.applied 1, contrib := y.contrib ||| mask, carried := y.carried || carried })
  else s

/-! ### Grids (R393, R394, R397, R405) -/

/-- The key of a panorama cell of an event set. -/
def panoKey (set col row : Nat) : Nat := set * 2 ^ 22 + row * 4096 + col

/-- The key of a ground cell of an event set. -/
def groundKey (set gx gy : Nat) : Nat := set * 2 ^ 22 + 2 ^ 21 + gy * 512 + gx

/-- An addition to a cell's count of a polarity (R394): it saturates, and a saturating addition is counted. -/
def Dev.gridAdd (s : Dev) (key pol n : Nat) : Dev :=
  if n = 0 then s
  else
    let v := Tab.get 0 s.fusion.grids key
    let lo := if pol = 1 then 0 else 16
    let x := field v lo 16 + n
    let s := s.updFusion (fun z => { z with grids := Tab.put 0 z.grids key (setField v lo 16 (min x 0xFFFF)) })
    if 0xFFFF < x then s.bump (confCtr 3) else s

/-- The cells that a splat reaches, as offsets with their amounts in 1/16 event (R397). -/
def splatWeights (bilinear : Bool) (fx fy : Nat) : List (Nat × Nat × Nat) :=
  if bilinear then
    let a := 16 - fx
    let c := 16 - fy
    let w00 := (a * c + 8) / 16
    let w10 := (fx * c + 8) / 16
    let w01 := (a * fy + 8) / 16
    [(0, 0, w00), (1, 0, w10), (0, 1, w01), (1, 1, 16 - w00 - w10 - w01)]
  else [(0, 0, 16)]

/-- Additions to the cells at the given keys (R394, R425): two cells of one 64-bit word take one update of it. [log 80 DEDUCED] -/
def Dev.gridAdds (s : Dev) (pol : Nat) (cells : List (Nat × Nat)) : Dev :=
  let s := cells.foldl (fun (s : Dev) c => s.gridAdd c.1 pol c.2) s
  s.meter Obj.gridLoad (((cells.filter (fun c => c.2 != 0)).map (fun c => c.1 / 2)).eraseDups).length

/-- An event of a polarity at a pixel whose calibration entry is `e` splatted onto an event set, `mult` times, for slot `n` (R396, R397). -/
def Dev.splat (s : Dev) (n set e pol mult : Nat) : Dev :=
  let bi := s.bit Obj.gridControl 2
  let s :=
    if s.bit Obj.gridControl 0 then
      (if bitAt e 29 then
        s.gridAdds pol ((splatWeights bi (field e 21 4) (field e 25 4)).filterMap (fun w =>
          let row := field e 12 9 + w.2.1
          if row < 512 then some (panoKey set ((field e 0 12 + w.1) % 4096) row, w.2.2 * mult) else none))
      else s.bump (srcCtr n 5))
    else s
  if s.bit Obj.gridControl 1 then
    (if bitAt e 56 then
      s.gridAdds pol ((splatWeights bi (field e 48 4) (field e 52 4)).filterMap (fun w =>
        let gx := field e 30 9 + w.1
        let gy := field e 39 9 + w.2.1
        if gx < 512 ∧ gy < 512 then some (groundKey set gx gy, w.2.2 * mult) else none))
    else s.bump (srcCtr n 5))
  else s

/-- An access of Confluence on behalf of tenant `t` is refused outside that tenant's regions (R327). -/
def State.confReach (s : State) (t a n : Nat) : State := if s.dev.inRegions t a n then s else { s with dev := s.dev.regionRefuse t 4 0 a }

/-- Bytes that Confluence writes on behalf of tenant `t`; a write outside its regions is discarded (R327). -/
def State.confPut (s : State) (t a : Nat) (bs : List Byte) : State := if s.dev.inRegions t a bs.length then s.gddrPut t a bs else s.confReach t a bs.length

/-- Whether (x, y) is an output pixel of stream `st`. -/
def Dev.onArray (s : Dev) (st x y : Nat) : Bool := decide (x < s.rd (Obj.outputWidth st)) && decide (y < s.rd (Obj.outputHeight st))

/-- The address of the calibration entry of output pixel (x, y) of stream `st` (R395). -/
def Dev.calAt (s : Dev) (st x y : Nat) : Nat := s.rd (Obj.calibrationAddress st) + 4096 + 8 * (y * s.rd (Obj.outputWidth st) + x)

/-- The calibration entry of output pixel (x, y) of stream `st` (R395, R397); an entry with neither Valid bit where the pixel lies outside the array. -/
def State.calEntry (s : State) (st x y : Nat) : Nat :=
  if s.dev.onArray st x y then leAt (s.gddrBytes (s.dev.rd (Obj.streamTenant st)) (s.dev.calAt st x y) 8) 0 8 else 0

/-- The read of that entry, which is refused outside the regions of the stream's owner (R327). -/
def State.calReach (s : State) (st x y : Nat) : State :=
  if s.dev.onArray st x y then s.confReach (s.dev.rd (Obj.streamTenant st)) (s.dev.calAt st x y) 8 else s

/-! ### Words (R398, R408, R410) -/

/-- Whether a STREAM slot takes a word (R246, R398): markers are followed whatever WordSelect says. -/
def Dev.slotTakes (s : Dev) (n w : Nat) : Bool :=
  let sel := s.getF (Obj.sourceControl n) 3 2
  s.rd (Obj.sourceKind n) == 1 && s.rd (Obj.sourceRef n) == wStream w &&
    (wKind w == 2 || (wKind w == 0 && (sel == 0 || sel == 2)) || (wKind w == 1 && (sel == 1 || sel == 2)))

/-- A stream word at slot `n` (R397, R403, R410, R414). -/
def State.slotWord (s : State) (n w second : Nat) : State :=
  let d := s.dev
  let st := wStream w
  if wKind w = 2 then
    { s with dev := if wY w = 3 then d.setBit (Obj.sourceStatus n) 3 false else if wY w = 4 then d.setBit (Obj.sourceStatus n) 3 true else d }
  else if d.adrift st then { s with dev := d.bump (srcCtr n 3) }
  else if d.bit (Obj.sourceControl n) 1 && (d.bit (Obj.sourceStatus n) 3 || (wKind w == 1 && bitAt second 62)) then { s with dev := d.bump (srcCtr n 4) }
  else
    let z := d.judgeInput n (d.instantOf (d.effective n (d.ofT31 (wT w))))
    match z.2 with
    | none => { s with dev := z.1 }
    | some p =>
      let r := ({ s with dev := z.1 } : State).calReach st (wX w) (wY w)
      { r with dev := (r.dev.splat n (r.dev.fusion.setOf p.1) (s.calEntry st (wX w) (wY w)) (wPol w) 1).inputApplied n p.1 p.2 (2 ^ st) }

/-- A held spike released by the tick word that follows it, at slot `n` (R400, R408, R414). -/
def State.slotSpike (s : State) (n w tick : Nat) : State :=
  let d := s.dev
  let st := d.rd (Obj.sourceStream n)
  let sh := 2 ^ d.getF (Obj.sourceControl n) 6 3
  if d.adrift st then { s with dev := d.bump (srcCtr n 3) }
  else
    let z := d.judgeInput n (d.instantOf (d.effective n (d.ofT31 (wT tick) - 250)))
    match z.2 with
    | none => { s with dev := z.1 }
    | some p =>
      let r := ({ s with dev := z.1 } : State).calReach st (field w 40 12 * sh) (field w 28 12 * sh)
      { r with dev := (r.dev.splat n (r.dev.fusion.setOf p.1) (s.calEntry st (field w 40 12 * sh) (field w 28 12 * sh)) 1 (field w 18 2)).inputApplied n p.1 p.2 (2 ^ st) }

/-- A word of a stream reaches Confluence (R398): every slot that takes it; one that none takes is counted. -/
def State.splatInput (s : State) (t : Transit) : State :=
  let slots := (List.range 96).filter (fun n => s.dev.fusionRuns && s.dev.slotTakes n t.word)
  if slots = [] then { s with dev := s.dev.bump (confCtr 7) }
  else slots.foldl (fun s n => s.slotWord n t.word t.second) s

/-- The SPIKES slots of population `h` (R398). -/
def Dev.spikeSlots (s : Dev) (h : Nat) : List Nat :=
  (List.range 96).filter (fun n => s.fusionRuns && s.rd (Obj.sourceKind n) == 2 && s.rd (Obj.sourceRef n) == h)

/-- A spike word of population `h` (R408): each slot holds it, or drops it where the buffer is full. -/
def Dev.holdSpike (s : Dev) (h : Nat) (t : Transit) : Dev :=
  let slots := s.spikeSlots h
  if slots = [] then s.bump (confCtr 7)
  else slots.foldl (fun (s : Dev) n =>
    if s.fusion.spikes.length < 16384 then s.updFusion (fun x => { x with spikes := x.spikes ++ [(n, t.route, t.word)] }) else s.bump (confCtr 6)) s

/-- A tick word of population `h` (R408): the spikes it follows are released at each slot. -/
def State.releaseSpikes (s : State) (h : Nat) (t : Transit) : State :=
  let slots := s.dev.spikeSlots h
  if slots = [] then { s with dev := s.dev.bump (confCtr 7) }
  else slots.foldl (fun (s : State) n =>
    let mine := s.dev.fusion.spikes.filter (fun x => x.1 == n && x.2.1 == t.route)
    let s := { s with dev := s.dev.updFusion (fun x => { x with spikes := x.spikes.filter (fun y => !(y.1 == n && y.2.1 == t.route)) }) }
    mine.foldl (fun (s : State) y => s.slotSpike n y.2.2 t.word) s) s

/-! ### Ego motion (R411) -/

/-- The Reedbed channel of ego channel `i`: 0 forward speed, 1 lateral speed, 2 yaw rate; 0xFF none. [log 79 DEDUCED] -/
def Dev.egoChannel (s : Dev) (i : Nat) : Nat := s.getF Obj.egoChannels (8 * i) 8

/-- A fine value as a number, binary32 (R411). -/
def Dev.egoValue (s : Dev) (r : FineRec) : Nat := fmul (fOfRat ((r.value : Rat) / 2 ^ 23)) (s.rd (Obj.fullScale r.channel))

/-- An ego record placed for ego channel `i` (R411): late, in its open instant, or waiting for it among at most 256. -/
def Dev.egoPlace (s : Dev) (i : Nat) (r : FineRec) : Dev :=
  let k := s.instantOf (r.stamp + (s.rd (Obj.fineLatency r.channel) : Nat))
  if k < s.fusion.low then s.bump (confCtr 4)
  else if k ≤ s.fusion.high then s.updInstant k (fun x => { x with ego := x.ego ++ [(i, s.egoValue r)] })
  else if (s.fusion.egoWait.filter (fun x => x.1 == i)).length < 256 then s.updFusion (fun x => { x with egoWait := x.egoWait ++ [(i, k, s.egoValue r)] })
  else s.bump (confCtr 5)

/-- The oldest fine output reaches Confluence (R388, R411): one that no ego channel names is not used. -/
def Dev.egoRecord (s : Dev) : Dev :=
  match s.fines with
  | [] => s
  | r :: rest =>
    let s := { s with fines := rest }
    if s.fusionRuns then s.each 3 (fun i s => if s.egoChannel i = r.channel then s.egoPlace i r else s) else s

/-- The values of the ego channels for an instant, and whether one of them is stale (R411): the mean of the instant's records; a channel with none holds
its previous value. -/
def Dev.egoClose (s : Dev) (x : Instant) : Dev × Bool :=
  (List.range 3).foldl (fun (z : Dev × Bool) i =>
    match (x.ego.filter (fun e => e.1 == i)).map (·.2) with
    | [] => (z.1, z.2 || z.1.egoChannel i != 0xFF)
    | v :: vs =>
      let m := fdiv (vs.foldl fadd v) (fOfInt ((vs.length + 1 : Nat) : Int))
      (z.1.updFusion (fun y => { y with egoLast := Tab.put 0 y.egoLast i m }), z.2)) (s, false)

/-! ### ADRIFT (R412, R413) -/

/-- Whether a stream has no sync: for good where its method is NONE. -/
def Dev.noSync (s : Dev) (x : Nat) : Bool := s.rd (Obj.streamSyncMethod x) == 0 || s.bit (Obj.streamSyncFlags x) 0

/-- Whether a slot that names the stream trusts unsynced time. -/
def Dev.trusted (s : Dev) (x : Nat) : Bool := (List.range 96).any (fun n => decide (s.slotStream n = some x) && s.bit (Obj.sourceControl n) 2)

/-- The estimated clock offset in ns (R412). [log 81 DESIGN CHOICE] -/
def Dev.offsetEst (s : Dev) (x : Nat) : Int :=
  if s.rd (Obj.streamSyncMethod x) = 0 then 0
  else s.rdI (Obj.streamClockError x) + s.rdI (Obj.streamClockSkew x) * (s.syncAge x : Nat) / 1000

/-- A stream becomes ADRIFT. -/
def Dev.goAdrift (s : Dev) (x : Nat) : Dev := ((s.wr (Obj.fusionStreamState x) 2).wr (Obj.readmitProgress x) 0).bump (Obj.adriftEntries x)

/-- The admitted streams. -/
def Dev.admitted (s : Dev) : List Nat := s.fusedStreams.filter (fun x => !s.adrift x)

/-- Step 3 of R412: while the spread exceeds W, the stream with the larger |est| leaves, the higher number first of two that tie. -/
def Dev.adriftSpread : Nat → Dev → Dev
  | 0, s => s
  | fuel + 1, s =>
    match sortBy (fun a b => decide ((s.offsetEst b).natAbs ≤ (s.offsetEst a).natAbs)) s.admitted.reverse with
    | [] => s
    | x :: _ =>
      let es := s.admitted.map s.offsetEst
      if es.any (fun a => es.any (fun b => decide ((s.fusionW : Int) < a - b))) then Dev.adriftSpread fuel (s.goAdrift x) else s

/-- Whether an ADRIFT stream meets the conditions of R413 against the admitted streams `adm`. -/
def Dev.mayReadmit (s : Dev) (adm : List Nat) (x : Nat) : Bool :=
  let e := s.offsetEst x
  (!s.noSync x || s.trusted x) && decide (2 * (e.natAbs : Int) ≤ (s.fusionW : Nat)) &&
    adm.all (fun a => decide (2 * ((e - s.offsetEst a).natAbs : Int) ≤ (s.fusionW : Nat)))

/-- The judgement of a close (R412, R413). -/
def Dev.judgeAdrift (s : Dev) : Dev :=
  let fused := s.fusedStreams
  let s := s.each 36 (fun x s => if fused.contains x then s else s.wr (Obj.fusionStreamState x) 0)
  let s := fused.foldl (fun (s : Dev) x =>
    let s := s.wrI (Obj.offsetEstimate x) (clampI (-(2 ^ 31)) (2 ^ 31 - 1) (s.offsetEst x))
    if s.rd (Obj.fusionStreamState x) = 0 then s.wr (Obj.fusionStreamState x) 1 else s) s
  let before := fused.filter s.adrift
  let s := s.admitted.foldl (fun (s : Dev) x => if s.noSync x && !s.trusted x then s.goAdrift x else s) s
  let s := s.admitted.foldl (fun (s : Dev) x => if (s.fusionW : Int) < (s.offsetEst x).natAbs then s.goAdrift x else s) s
  let s := Dev.adriftSpread 36 s
  let adm := s.admitted
  before.foldl (fun (s : Dev) x =>
    if s.mayReadmit adm x then
      let s := s.bumpSat (Obj.readmitProgress x) 1
      if 16 ≤ s.rd (Obj.readmitProgress x) then s.wr (Obj.fusionStreamState x) 1 else s
    else s.wr (Obj.readmitProgress x) 0) s

end Sys2Proof.Machine
end

