-- ==== Sys2Proof/Machine/Buoy.lean ====
section
/-! DEFINITION. Buoy (R418 to R424): prediction, pairing, update, the life of a track, the TRACK record. -/

namespace Sys2Proof.Machine

open Sys2Proof

/-! ### Cosine and sine

R419 and R420 name them without a method: they are computed from their series to 2⁻⁶⁰ and rounded to binary32. -/

/-- The alternating series from a term, in units of 2⁻⁶⁴: each next term is −term × x² / ((k + 1)(k + 2)). -/
def trigSeries : Nat → Int → Int → Int → Int → Int
  | 0, _, _, _, acc => acc
  | n + 1, k, term, x2, acc => trigSeries n (k + 2) (-(term * x2 / 2 ^ 64) / ((k + 1) * (k + 2))) x2 (acc + term)

/-- cos and sin of an angle in units of 2⁻⁶⁴ rad, reduced to a quarter turn. [log 51 DEDUCED, 81 DESIGN CHOICE] -/
def cosSinFix (a : Int) : Int × Int :=
  let q := (2 * a + piFix / 2) / piFix
  let x := a - q * piFix / 2
  let x2 := x * x / 2 ^ 64
  let c := trigSeries 14 0 (2 ^ 64) x2 0
  let s := trigSeries 14 1 x x2 0
  match q % 4 with
  | 0 => (c, s)
  | 1 => (-s, c)
  | 2 => (-c, -s)
  | _ => (s, -c)

/-- cos and sin of a binary32 angle, binary32; NaN of an angle that is not finite. [log 81 DESIGN CHOICE] -/
def fcosSin (v : Nat) : Nat × Nat :=
  match fval v with
  | .fin _ r => let z := cosSinFix (r * 2 ^ 64).floor; (fOfRat ((z.1 : Rat) / 2 ^ 64), fOfRat ((z.2 : Rat) / 2 ^ 64))
  | _ => (fbits .nan, fbits .nan)

/-- Rot(θ) of a vector, binary32 (R420). [log 81 DESIGN CHOICE] -/
def rotate (cs : Nat × Nat) (x y : Nat) : Nat × Nat := (fsub (fmul cs.1 x) (fmul cs.2 y), fadd (fmul cs.2 x) (fmul cs.1 y))

/-- 2π in binary32. -/
def ftwoPi : Nat := fOfRat ((2 * piFix : Int) / (2 ^ 64 : Rat))

/-! ### Detections (R419) -/

/-- Whether a detection entry of a delivery sets a reserved field (R419). -/
def detectBad (e : List Byte) : Bool :=
  decide (1 < leAt e 0 1) || leAt e 2 2 != 0 || leAt e 28 4 != 0 || decide (2 ^ 36 ≤ leAt e 32 8) || leAt e 40 8 != 0

/-- The detection of an entry: a panorama detection is placed in the body frame (R419). -/
def detectOf (e : List Byte) : Detect :=
  let a := leAt e 4 4
  let b := leAt e 8 4
  let cs := fcosSin (fdiv (fmul ftwoPi a) (fOfInt 4096))
  let p := if leAt e 0 1 = 1 then (fmul b cs.1, fmul b cs.2) else (a, b)
  { cls := leAt e 1 1, x := p.1, y := p.2, len := leAt e 12 4, wid := leAt e 16 4, heading := leAt e 20 4, score := leAt e 24 4 }

/-! ### A close (R420 to R423) -/

/-- Counter `k` (from 0) of Buoy. -/
def buoyCtr (k : Nat) : Reg := Obj.buoyCounter k

/-- Δt = W in seconds, binary32 (R420). -/
def Dev.buoyDt (s : Dev) : Nat := fOfRat ((s.rd Obj.fusionWindow : Rat) / 1000000)

/-- A track predicted over Δt with the ego speeds and yaw rate of the instant (R420). -/
def Track.predict (t : Track) (dt vf vl yaw : Nat) : Track :=
  let cs := fcosSin (fmul (fneg yaw) dt)
  let p := rotate cs (fadd t.x (fmul (fsub t.vx vf) dt)) (fadd t.y (fmul (fsub t.vy vl) dt))
  let v := rotate cs t.vx t.vy
  { t with x := p.1, y := p.2, vx := v.1, vy := v.2, age := satAdd 32 t.age 1, gap := t.gap + 1 }

/-- The magnitude of a binary32 number. -/
def fabs (v : Nat) : Nat := v % 2 ^ 31

/-- The distance of a detection from a predicted track (R421). [log 81 DESIGN CHOICE] -/
def trackDistance (t : Track) (d : Detect) : Nat :=
  let dx := fsub d.x t.x
  let dy := fsub d.y t.y
  fsqrt (fadd (fmul dx dx) (fmul dy dy))

/-- Whether the classes of a track and a detection match (R421). -/
def classMatch (strict : Bool) (a b : Nat) : Bool := a == b || (!strict && (a == 0 || b == 0))

/-- A pair that R421 forms: its distance, its track's slot, its detection's index. -/
structure Pair where
  dist : Nat
  slot : Nat
  det : Nat
  deriving DecidableEq, Repr

/-- The order in which pairs are accepted (R421). -/
def Pair.le (a b : Pair) : Bool :=
  flt a.dist b.dist || (fle a.dist b.dist && (decide (a.slot < b.slot) || (a.slot == b.slot && decide (a.det ≤ b.det))))

/-- Every pair within the gate whose classes match (R421). -/
def Dev.buoyPairs (s : Dev) (ts : List Track) (ds : List Detect) : List Pair :=
  ts.flatMap (fun t => ds.zipIdx.filterMap (fun z =>
    let r := trackDistance t z.1
    if fle r (s.rd Obj.gateDistance) && classMatch (s.bit Obj.buoyControl 2) t.cls z.1.cls then some ⟨r, t.slot, z.2⟩ else none))

/-- The pairs accepted: neither member taken before (R421). -/
def acceptPairs (ps : List Pair) : List Pair :=
  (sortBy Pair.le ps).foldl (fun (acc : List Pair) p => if acc.any (fun q => q.slot == p.slot || q.det == p.det) then acc else acc ++ [p]) []

/-- A track updated with its detection (R422). [log 81 DESIGN CHOICE] -/
def Track.update (t : Track) (d : Detect) (a b dt : Nat) : Track :=
  let rx := fsub d.x t.x
  let ry := fsub d.y t.y
  let g := fdiv b (fmul (fOfInt (t.gap : Nat)) dt)
  let toward (x z : Nat) : Nat := fadd x (fmul a (fsub z x))
  { t with x := fadd t.x (fmul a rx), y := fadd t.y (fmul a ry), vx := fadd t.vx (fmul g rx), vy := fadd t.vy (fmul g ry),
           len := toward t.len d.len, wid := toward t.wid d.wid, score := toward t.score d.score,
           heading := if fval d.heading = .nan then t.heading else d.heading, gap := 0 }

/-- A hit (R423): the track, and whether it became CONFIRMED from TENTATIVE. -/
def Track.hit (t : Track) (need : Nat) : Track × Bool :=
  if t.state = 1 then
    let h := t.hits + 1
    if need ≤ h then ({ t with hits := h, state := 2 }, true) else ({ t with hits := h }, false)
  else ({ t with state := 2, misses := 0 }, false)

/-- A miss (R423): none where the track is deleted. -/
def Track.miss (t : Track) (most : Nat) : Option Track :=
  match t.state with
  | 1 => none
  | 2 => some { t with state := 3, misses := 1 }
  | _ => if most < t.misses + 1 then none else some { t with misses := t.misses + 1 }

/-- A track among the others, by slot. -/
def Dev.putTrack (s : Dev) (t : Track) : Dev :=
  s.updFusion (fun x => { x with tracks := sortBy (fun (a b : Track) => decide (a.slot ≤ b.slot)) (x.tracks.filter (fun y => y.slot != t.slot) ++ [t]) })

/-- A track deleted. -/
def Dev.dropTrack (s : Dev) (slot : Nat) : Dev := s.updFusion (fun x => { x with tracks := x.tracks.filter (fun y => y.slot != slot) })

/-- Prediction of every live track, and those out of range deleted (R420). [log 81 DESIGN CHOICE] -/
def Dev.buoyPredict (s : Dev) : Dev :=
  let e (i : Nat) : Nat := Tab.get 0 s.fusion.egoLast i
  let far (v : Nat) : Bool := flt (s.rd Obj.trackRange) (fabs v)
  let ts := s.fusion.tracks.map (fun (t : Track) => t.predict s.buoyDt (e 0) (e 1) (e 2))
  let gone := ts.filter (fun (t : Track) => far t.x || far t.y)
  (s.updFusion (fun x => { x with tracks := ts.filter (fun (t : Track) => !(far t.x || far t.y)) })).bumpBy (buoyCtr 7) gone.length

/-- One track's part of a close: its hit or its miss (R422, R423). [log 81 DESIGN CHOICE] -/
def Dev.buoyTrack (s : Dev) (acc : List Pair) (ds : List Detect) (t : Track) : Dev :=
  match (acc.find? (fun p => p.slot == t.slot)).bind (fun p => ds[p.det]?) with
  | some d =>
    let z := (t.update d (s.rd Obj.alpha) (s.rd Obj.beta) s.buoyDt).hit (s.rd Obj.confirmHits)
    (s.putTrack z.1).bumpBy (buoyCtr 1) (b2n z.2)
  | none =>
    match t.miss (s.rd Obj.maxMisses) with
    | some x => s.putTrack x
    | none => (s.dropTrack t.slot).bump (buoyCtr 2)

/-- An unpaired detection (R423): it creates a track where its score and a free slot allow. -/
def Dev.buoyCreate (s : Dev) (d : Detect) : Dev :=
  let s := s.bump (buoyCtr 6)
  if fle (s.rd Obj.createScore) d.score then
    match (List.range 4096).find? (fun i => !(s.fusion.tracks.any (fun t => t.slot == i))) with
    | none => s.bump (buoyCtr 3)
    | some i =>
      let id := s.rd Obj.nextTrackId
      let s := s.wr Obj.nextTrackId (if id = 0xFFFFFFFF then 1 else id + 1)
      (s.putTrack { slot := i, id := id, state := 1, cls := d.cls, x := d.x, y := d.y, vx := 0, vy := 0, len := d.len, wid := d.wid,
                    heading := d.heading, score := d.score, hits := 1, misses := 0, age := 0, gap := 0 }).bump (buoyCtr 0)
  else s

/-- A track as an entry of the TRACK record (R418). -/
def Track.bytes (t : Track) : List Byte :=
  leBytes 4 t.id ++ leBytes 1 t.state ++ leBytes 1 t.cls ++ leBytes 2 t.slot ++ leBytes 4 t.x ++ leBytes 4 t.y ++ leBytes 4 t.vx ++ leBytes 4 t.vy ++
  leBytes 4 t.len ++ leBytes 4 t.wid ++ leBytes 4 t.heading ++ leBytes 4 t.score ++ leBytes 2 (min t.misses 0xFFFF) ++ zeros 2 ++ leBytes 4 t.age

/-- TrackTable: every track that is not free (R418). -/
def Dev.trackBytes (s : Dev) : List Byte := (s.fusion.tracks.map Track.bytes).flatten

/-- One more on the weir that a weir object names (R417). -/
def Dev.fusionWeirAdd (s : Dev) (r : Reg) : Dev := if s.rd r < 16384 then s.weirAddFor (s.rd Obj.fusionOwner) (s.rd r) 1 false else s

/-- The TRACK record of instant `k` (R418). -/
def Dev.sendTracks (s : Dev) (k : Int) (stale step stopped : Bool) : Dev :=
  let ts := s.fusion.tracks.filter (fun (t : Track) => t.state == 2 || (t.state == 1 && s.bit Obj.buoyControl 0) || (t.state == 3 && s.bit Obj.buoyControl 1))
  let body := leBytes 8 (unsigned 64 k) ++ leBytes 10 (t80 s.dt) ++ leBytes 2 ts.length ++ leBytes 2 (b2n stale + 2 * b2n step + 4 * b2n stopped) ++ zeros 10 ++
    (ts.map Track.bytes).flatten
  (s.emitRecord (s.rd Obj.trackChannel) 5 body false).fusionWeirAdd Obj.trackWeir

/-- Buoy's part of the close of an instant (R404, R420 to R424). -/
def Dev.buoy (s : Dev) (x : Instant) (stale step stopped : Bool) : Dev :=
  let s := s.buoyPredict
  let ts := s.fusion.tracks
  let acc := acceptPairs (s.buoyPairs ts x.dets)
  let s := ts.foldl (fun (s : Dev) t => s.buoyTrack acc x.dets t) s
  let s := x.dets.zipIdx.foldl (fun (s : Dev) z => if acc.any (fun p => p.det == z.2) then s else s.buoyCreate z.1) s
  (s.wr Obj.tracksActive s.fusion.tracks.length).sendTracks x.k stale step stopped

end Sys2Proof.Machine
end

