-- ==== Sys2Proof/Machine/Confluence.lean ====
section
/-! DEFINITION. Confluence's deliveries, closes, drains and conversions, Start and Stop, calibration tables, and the commands (R395 to R417). -/

namespace Sys2Proof.Machine

open Sys2Proof

/-! ### Layout in GDDR6 (R405 to R407) -/

/-- The bytes of an event slot: both grids and the trailer. -/
def eventSlotBytes : Nat := 9441280
/-- The bytes of a feature slot with its trailer. -/
def featureSlotBytes : Nat := 19992576
/-- The bytes of a feature set. -/
def featureSetBytes : Nat := 38862848
/-- The tags of the ranges that fusion takes. -/
def eventTag : Nat := 192
def featureTag : Nat := 193
def setTag : Nat := 194

/-- The address taken under a tag. -/
def Dev.takenAt (s : Dev) (tag : Nat) : Nat := match s.allocs.find? (fun a => a.tag == tag) with | some a => a.addr | none => 0

/-- Channels of a feature level (R406). -/
def levelC (lvl : Nat) : Nat := if lvl = 0 then 64 else 128

/-- The address of cell `i` of a level in the set of feature instant `j` (R406). -/
def Dev.featureCellAt (s : Dev) (j : Int) (lvl i : Nat) : Nat :=
  s.takenAt setTag + (j % 3).toNat * featureSetBytes + (if lvl = 0 then i * 264 else 131072 * 264 + i * 520)

/-! ### Feature levels (R406, R407) -/

/-- A map cell added to the fused cell `i` of a level (R406): `vs` are the weighted elements by channel, binary32. -/
def State.featureAdd (s : State) (st : Nat) (j : Int) (lvl i : Nat) (vs : List Nat) : State :=
  let t := s.dev.rd Obj.fusionOwner
  let a := s.dev.featureCellAt j lvl i
  let c := levelC lvl
  let old := s.gddrBytes t a (4 * c + 8)
  let h := leAt old (4 * c) 8
  let ep := (j % 4096).toNat
  let same : Bool := h / 2 ^ 52 == ep
  let sums := vs.zipIdx.map (fun z => if same then fadd (leAt old (4 * z.2) 4) z.1 else z.1)
  let mask := (if same then h % 2 ^ 36 else 0) ||| 2 ^ st
  let count := if same then satAdd 16 (field h 36 16) 1 else 1
  (s.confReach t a (4 * c + 8)).confPut t a ((sums.map (leBytes 4)).flatten ++ leBytes 8 (mask + count * 2 ^ 36 + ep * 2 ^ 52))

/-- The weight of a channel at a slot (R406): 1.0 where FeatureWeights has not been written. -/
def Dev.featureWeight (s : Dev) (n c : Nat) : Nat :=
  let w := s.blob (Obj.featureWeights n)
  if w.length < 4 * c + 4 then fone else leAt w (4 * c) 4

/-- The columns and rows of a slot's feature map (R406). -/
def Dev.featureShape (s : Dev) (n : Nat) : Nat × Nat :=
  let st := s.rd (Obj.sourceStream n)
  let k := 2 ^ s.getF (Obj.sourceControl n) 6 3
  (ceilDiv (s.rd (Obj.outputWidth st)) k, ceilDiv (s.rd (Obj.outputHeight st)) k)

/-- A FEATURE delivery's format, its row pitch and its bytes (R215, R406). -/
def Dev.featureBytes (s : Dev) (n : Nat) : Nat :=
  let z := s.featureShape n
  levelC (s.getF (Obj.sourceControl n) 5 1) * z.2 * rowPitch z.1 (s.getF (Obj.sourceControl n) 9 4)

/-- The weighted element of channel `c` at (x, y) of a delivery (R406). -/
def Dev.featureElem (s : Dev) (n : Nat) (data : List Byte) (c x y : Nat) : Nat :=
  let z := s.featureShape n
  let code := s.getF (Obj.sourceControl n) 9 4
  let pitch := rowPitch z.1 code
  let v := fbits (elemVal code (elemBits code (bytesAt data ((c * z.2 + y) * pitch) pitch) x))
  fmul (s.featureWeight n c) (fmul v (s.rd (Obj.featureScale n)))

/-- A FEATURE delivery applied to feature instant `j` (R406), its cells in raster order. -/
def State.featureMap (s : State) (n : Nat) (j : Int) (data : List Byte) : State :=
  let st := s.dev.rd (Obj.sourceStream n)
  let z := s.dev.featureShape n
  let sh := s.dev.getF (Obj.sourceControl n) 6 3
  let lvl := s.dev.getF (Obj.sourceControl n) 5 1
  let at_ (x lim : Nat) : Nat := if sh = 0 then x else min (2 ^ sh * x + 2 ^ (sh - 1)) (lim - 1)
  if s.dev.bit Obj.gridControl 3 then
    loop z.2 (fun y s => loop z.1 (fun x (s : State) =>
      let px := at_ x (s.dev.rd (Obj.outputWidth st))
      let py := at_ y (s.dev.rd (Obj.outputHeight st))
      let e := s.calEntry st px py
      let s := s.calReach st px py
      if bitAt e 29 then
        let i := if lvl = 0 then field e 12 9 / 4 * 1024 + field e 0 12 / 4 else field e 12 9 / 16 * 256 + field e 0 12 / 16
        s.featureAdd st j lvl i ((List.range (levelC lvl)).map (fun c => s.dev.featureElem n data c x y))
      else s) s) s
  else s

/-! ### Deliveries (R403, R409, R414, R419) -/

/-- Whether instant `k` takes no further detection (R419). -/
def Fusion.detsFull (x : Fusion) (k : Int) : Bool :=
  match x.opened.find? (fun i => decide (i.k = k)) with
  | some i => decide (4096 ≤ i.dets.length)
  | none => true

/-- A detection entry applied to instant `k` (R414, R419). -/
def Dev.detectEntry (s : Dev) (n : Nat) (k : Int) (e : List Byte) : Dev :=
  if detectBad e then s.bump (buoyCtr 5)
  else if (leAt e 32 8 &&& s.adriftMask) ≠ 0 then s.bump (srcCtr n 3)
  else if s.fusion.detsFull k then s.bump (buoyCtr 5)
  else (s.updInstant k (fun i => { i with dets := i.dets ++ [detectOf e], contrib := i.contrib ||| leAt e 32 8 })).bump (buoyCtr 4)

/-- The entries of a DETECT delivery: at most 1,024. [log 80 DEDUCED] -/
def detectEntries (data : List Byte) : List (List Byte) := (List.range (min 1024 (leAt data 0 4))).map (fun i => bytesAt data (16 + 48 * i) 48)

/-- The bytes that a delivery at slot `n` takes: of a DETECT list, as many as its header says. -/
def State.deliveryBytes (s : State) (n : Nat) : Nat :=
  if s.dev.rd (Obj.sourceKind n) = 3 then s.dev.featureBytes n
  else 16 + 48 * min 1024 (leAt (s.gddrBytes (s.dev.rd Obj.fusionOwner) (s.dev.rd (Obj.deliveryAddress n)) 4) 0 4)

/-- A delivery judged and applied (R403, R414): `stamp` is when ReadyWeir reached its count. [log 80 DEDUCED] -/
def State.deliveryApply (s : State) (n : Nat) (stamp : Int) (data : List Byte) : State :=
  let d := s.dev
  let feature : Bool := d.rd (Obj.sourceKind n) == 3
  let st := d.rd (Obj.sourceStream n)
  if feature && d.adrift st then { s with dev := d.bump (srcCtr n 3) }
  else
    let z := d.judgeInput n (d.instantOf (d.effective n stamp))
    match z.2 with
    | none => { s with dev := z.1 }
    | some p =>
      if feature then
        let s := { s with dev := z.1.inputApplied n p.1 p.2 (2 ^ st) }
        s.featureMap n (s.dev.featureOf p.1) data
      else
        let d := z.1.inputApplied n p.1 p.2 0
        { s with dev := (detectEntries data).foldl (fun (d : Dev) e => d.detectEntry n p.1 e) d }

/-- Whether a slot's next delivery is ready (R409). -/
def Dev.deliveryReady (s : Dev) (n : Nat) : Bool :=
  let w := s.rd (Obj.readyWeir n)
  s.fusionRuns && (s.rd (Obj.sourceKind n) == 3 || s.rd (Obj.sourceKind n) == 4) && decide (w < 16384) && s.weirOwner w == s.rd Obj.fusionOwner &&
    s.waitMet w (wrapAdd 32 (Tab.get 0 s.fusion.taken n) 1)

/-- DELIVERY_READ (R409): the delivery is read whole, `age` ns after its ReadyWeir reached the count; a read outside the owner's regions skips it; one that
carries Poison is discarded (R564). [log 83 DEDUCED] -/
def State.deliveryRead (s : State) (n age : Nat) : State :=
  if s.dev.deliveryReady n then
    let d := s.dev.updFusion (fun x => { x with taken := Tab.put 0 x.taken n (wrapAdd 32 (Tab.get 0 x.taken n) 1) })
    let s := { s with dev := d }
    let t := d.rd Obj.fusionOwner
    let a := d.rd (Obj.deliveryAddress n)
    if d.inRegions t a 16 && d.inRegions t a (s.deliveryBytes n) then
      let got := s.gddrRead t a (s.deliveryBytes n)
      let s := { s with dev := d.bump (srcCtr n 6) }
      let s := if got.any (·.2) then { s with dev := s.dev.poisonExit 5 (.master 4 0) true } else s.deliveryApply n (d.dt - (age : Nat)) (got.map (·.1))
      let w := d.rd (Obj.releaseWeir n)
      { s with dev := if w < 16384 then s.dev.weirAddFor t w 1 false else s.dev }
    else { s with dev := (d.bump (confCtr 9)).regionRefuse t 4 0 a }
  else s

/-! ### Closes (R404 to R407) -/

/-- The least event set that no open or draining instant holds (R405). -/
def Fusion.freeSet (x : Fusion) : Nat :=
  ((List.range 3).find? (fun i => !(x.opened.any (fun o => o.set == i)) && !(x.drains.any (fun c => c.set == i)))).getD 0

/-- Instant `k` opens (R402, R411): it takes the present hold-off, and the ego records that waited for it. -/
def Dev.openInstant (s : Dev) (k : Int) : Dev :=
  let mine := s.fusion.egoWait.filter (fun e => decide (e.2.1 ≤ k))
  s.updFusion (fun x => { x with
    opened := x.opened ++ ([{ k := k, set := x.freeSet, hold := s.rd Obj.closeHoldoff, ego := mine.map (fun e => (e.1, e.2.2)) }] : List Instant),
    egoWait := x.egoWait.filter (fun e => !decide (e.2.1 ≤ k)) })

/-- Feature instant `j` closes (R407): its conversion begins. -/
def Dev.closeFeature (s : Dev) (j : Int) (flags : Nat) : Dev :=
  let y : FeatureSum := (s.fusion.sums.find? (fun y => decide (y.j = j))).getD { j := j }
  let c : Draining := { k := j, set := 0, flags := flags + 16 * b2n y.carried + 32, late := y.late, applied := y.applied, contrib := y.contrib, adrift := s.adriftMask }
  let s := s.updFusion (fun x => { x with sums := x.sums.filter (fun z => decide (z.j ≠ j)), jobs := x.jobs ++ [c] })
  (s.bump (confCtr 2)).setBit Obj.fusionState 3 true

/-- The lowest open instant closes (R404): the next does not open here. `last` closes the open feature instant too. -/
def Dev.closeLowest (s : Dev) (step stopped last : Bool) : Dev :=
  match s.fusion.opened with
  | [] => s
  | x :: rest =>
    let s := (s.updFusion (fun z => { z with opened := rest })).bump (confCtr 0)
    let s := s.judgeAdrift
    let z := s.egoClose x
    let queued : Bool := z.1.transit.any (fun t => match t.dest with | .fusion _ _ => true | _ => false)
    let s := (z.1.setBit Obj.fusionState 2 z.2).setBit Obj.fusionState 1 queued
    let s := s.buoy x z.2 step stopped
    let flags := b2n step + 2 * b2n stopped + 4 * b2n z.2 + 8 * b2n queued
    let c : Draining := { k := x.k, set := x.set, flags := flags + 16 * b2n x.carried + 32 * b2n (s.bit Obj.gridControl 0) + 64 * b2n (s.bit Obj.gridControl 1),
                          late := x.late, applied := x.applied, contrib := x.contrib, adrift := s.adriftMask }
    let s := s.updFusion (fun z => { z with drains := z.drains ++ [c] })
    let ends : Bool := decide ((x.k + 1) % (s.rd Obj.featureInstants : Nat) = 0) || last
    let s := if s.bit Obj.gridControl 3 && ends then s.closeFeature (s.featureOf x.k) flags else s
    s.wr Obj.instantNow (unsigned 64 s.fusion.low)

/-- The payload of a FUSED or FEATURE record (R417). -/
def Dev.fusedPayload (s : Dev) (c : Draining) (slot addr : Nat) : List Byte :=
  leBytes 8 (unsigned 64 c.k) ++ leBytes 10 (t80 s.dt) ++ leBytes 2 c.flags ++ leBytes 1 slot ++ zeros 3 ++ leBytes 8 addr ++ leBytes 8 c.contrib ++
  leBytes 8 c.adrift ++ leBytes 4 c.late ++ leBytes 4 c.applied ++ zeros 8

/-- A record of Confluence leaves (R417). -/
def Dev.sendFused (s : Dev) (type : Nat) (c : Draining) (slot addr : Nat) : Dev :=
  (s.emitRecord (s.rd Obj.fusedChannel) type (s.fusedPayload c slot addr) false).fusionWeirAdd Obj.fusedWeir

/-- Words of an event set that their code could not correct read as zero and are counted (R564): `i` numbers 64-bit words, the panorama's first. -/
def Dev.gridBad (s : Dev) (set i : Nat) : Dev :=
  let k := set * 2 ^ 22 + 2 * i
  (s.updFusion (fun x => { x with grids := Tab.put 0 (Tab.put 0 x.grids k 0) (k + 1) 0 })).bump Obj.gridUncorrectable

/-- The drain of the oldest closed instant completes (R405): its grids into its slot, zero behind, the trailer, the FUSED record. `bad` are the words whose
code fails as they are read. [log 82 DEDUCED] -/
def State.drainEnd (s : State) (bad : List Nat) : State :=
  match s.dev.fusion.drains with
  | [] => s
  | c :: rest =>
    let d := bad.foldl (fun (d : Dev) i => if (if i < 2 ^ 20 then bitAt c.flags 5 else decide (i < 2 ^ 20 + 2 ^ 17) && bitAt c.flags 6) then d.gridBad c.set i else d) s.dev
    let t := d.rd Obj.fusionOwner
    let slot := (c.k % (d.rd Obj.fusedSlots : Nat)).toNat
    let a := d.rd Obj.eventSlotBase + slot * eventSlotBytes
    let mine := d.fusion.grids.filter (fun g => g.1 / 2 ^ 22 == c.set)
    let words : Nat := (if bitAt c.flags 5 then 2 ^ 20 else 0) + (if bitAt c.flags 6 then 2 ^ 17 else 0)
    let s := { s with dev := (d.updFusion (fun x => { x with drains := rest, grids := x.grids.filter (fun g => g.1 / 2 ^ 22 != c.set) })).meter Obj.gridLoad words }
    let s := if bitAt c.flags 5 then s.zeroRange t a (2 ^ 23) else s
    let s := if bitAt c.flags 6 then s.zeroRange t (a + 2 ^ 23) (2 ^ 20) else s
    let s := mine.foldl (fun (s : State) g => s.confPut t (a + 4 * (g.1 % 2 ^ 22)) (leBytes 4 g.2)) s
    let s := s.confPut t (a + 2 ^ 23 + 2 ^ 20) (leBytes 8 (unsigned 64 c.k))
    { s with dev := s.dev.sendFused 3 c slot a }

/-- A fused cell as converted (R407): its FP16 channels and its header. [log 82 DEDUCED] -/
def State.featureOut (s : State) (j : Int) (lvl i : Nat) : List Byte × List Byte :=
  let c := levelC lvl
  let b := s.gddrBytes (s.dev.rd Obj.fusionOwner) (s.dev.featureCellAt j lvl i) (4 * c + 8)
  let h := leAt b (4 * c) 8
  let one (k : Nat) : Nat :=
    if h / 2 ^ 52 = (j % 4096).toNat then
      let v := leAt b (4 * k) 4
      (convFloat fp16 .nearestEven (fval (if s.dev.bit Obj.gridControl 4 then fdiv v (fOfInt (field h 36 16 : Nat)) else v))).bits
    else 0
  (((List.range c).map (fun k => leBytes 2 (one k))).flatten, leBytes 8 h)

/-- The conversion of the oldest closed feature instant completes (R407). [log 82 DEDUCED] -/
def State.convertEnd (s : State) : State :=
  match s.dev.fusion.jobs with
  | [] => s
  | c :: rest =>
    let t := s.dev.rd Obj.fusionOwner
    let slot := (c.k % (s.dev.rd Obj.fusedSlots : Nat)).toNat
    let a := s.dev.rd Obj.featureSlotBase + slot * featureSlotBytes
    let s := { s with dev := s.dev.updFusion (fun x => { x with jobs := rest }) }
    let s := { s with dev := s.dev.setBit Obj.fusionState 3 (rest != []) }
    let s := loop 131072 (fun i (s : State) =>
      let z := s.featureOut c.k 0 i
      (s.confPut t (a + 128 * i) z.1).confPut t (a + 18874368 + 8 * i) z.2) s
    let s := loop 8192 (fun i (s : State) =>
      let z := s.featureOut c.k 1 i
      (s.confPut t (a + 16777216 + 256 * i) z.1).confPut t (a + 19922944 + 8 * i) z.2) s
    let s := s.confPut t (a + 19988480) (leBytes 8 (unsigned 64 c.k))
    { s with dev := s.dev.sendFused 4 c slot a }

/-- Every drain and conversion begun completes. -/
def State.fusionFlush (s : State) : State :=
  let s := loop s.dev.fusion.drains.length (fun _ (s : State) => s.drainEnd []) s
  loop s.dev.fusion.jobs.length (fun _ (s : State) => s.convertEnd) s

/-- When the lowest open instant is due to close (R402). -/
def Dev.closeDue (s : Dev) : Bool :=
  match s.fusion.opened with
  | [] => false
  | x :: _ => decide (s.rdT Obj.fusionOrigin + (x.k + 1) * (s.fusionW : Nat) + (x.hold * 1000 : Nat) ≤ s.dt)

/-- INSTANT_CLOSE (R404): instant k + 2 opens with the set that instant k − 1 leaves, whose drain has ended by then (R405), as a conversion before this one has. -/
def State.instantClose (s : State) : State :=
  if s.dev.fusionRuns && s.dev.closeDue then
    let s := s.fusionFlush
    let k := s.dev.fusion.low
    { s with dev := (s.dev.closeLowest false false false).openInstant (k + 2) }
  else s

/-- Every open instant closes at once, in order, and the open feature instant with the last (R415, R416). [log 82 DEDUCED] -/
def State.closeAll (s : State) (step stopped : Bool) : State :=
  let n := s.dev.fusion.opened.length
  (loop n (fun i (s : State) => ({ s with dev := s.dev.closeLowest step stopped (i + 1 == n) } : State).fusionFlush) s.fusionFlush)

/-- A step of device time or a re-basing (R416). [log 82 DEDUCED] -/
def State.fusionStepped (s : State) : State :=
  if s.dev.fusionRuns then
    let top := s.dev.fusion.high
    let s := s.closeAll true false
    let k := max (top + 1) (s.dev.instantOf s.dev.dt)
    let d := s.dev.bumpBy (confCtr 1) (k - (top + 1)).toNat
    let d := (d.openInstant k).openInstant (k + 1)
    { s with dev := d.wr Obj.instantNow (unsigned 64 k) }
  else s

/-! ### Start and Stop (R415) -/

/-- Whether an Outfall channel object names none or one that its owner holds. -/
def Dev.channelBound (s : Dev) (r : Reg) : Bool := decide (63 < s.rd r) || s.rd (Obj.channelOwner (s.rd r)) == s.rd Obj.fusionOwner

/-- The ranges that fusion takes in the owner's plain regions, in turn; none where one does not fit (R415). -/
def Dev.fusionTake (s : Dev) : Option Dev :=
  let t := s.rd Obj.fusionOwner
  let n := s.rd Obj.fusedSlots
  [(setTag, 3 * featureSetBytes), (eventTag, n * eventSlotBytes), (featureTag, n * featureSlotBytes)].foldl (fun (z : Option Dev) r =>
    z.bind (fun d => (d.roomFor t r.2 false).map (fun a => d.take r.1 a r.2))) (some s)

/-- Why a Start is refused (R415): 0 where it is not. -/
def Dev.fusionError (s : Dev) : Nat :=
  if s.rd Obj.fusionOwner = 0xFF then 1
  else if s.fusionTake.isNone then 2
  else if s.bit Obj.gridControl 3 && decide (s.rd Obj.featureInstants * s.rd Obj.fusionWindow < 2000) then 3
  else if s.fusedStreams.any (fun x => s.rd (Obj.calibrationState x) != 1) then 4
  else if !(s.channelBound Obj.fusedChannel && s.channelBound Obj.trackChannel) then 5
  else 0

/-- FUSION_START (R415); while fusion runs it has no effect. -/
def Dev.fusionStart (s : Dev) (q : Requester) : Dev :=
  if s.fusionRuns then s.accept q
  else
    let e := s.fusionError
    let s := s.setF Obj.fusionState 16 8 e
    match s.fusionTake with
    | none => s.refuse q .state
    | some d =>
      if e ≠ 0 then s.refuse q .state
      else
        let k := d.instantOf d.dt
        let d := (d.wr Obj.eventSlotBase (d.takenAt eventTag)).wr Obj.featureSlotBase (d.takenAt featureTag)
        let d := d.updFusion (fun x => { x with opened := [], sums := [], spikes := [], egoWait := [], tracks := [] })
        let d := ((d.wr Obj.nextTrackId 1).wr Obj.tracksActive 0).wr Obj.instantNow (unsigned 64 k)
        let d := d.each 36 (fun x d => (d.wr (Obj.fusionStreamState x) (if d.fusedStreams.contains x then 1 else 0)).wr (Obj.readmitProgress x) 0)
        let d := d.each 96 (fun n d => d.setBit (Obj.sourceStatus n) 3 false)
        (((d.setBit Obj.fusionState 0 true).openInstant k).openInstant (k + 1)).accept q

/-- Fusion stops (R415). -/
def State.fusionHalt (s : State) : State :=
  if s.dev.fusionRuns then
    let s := s.closeAll false true
    let d := ((s.dev.untake setTag).untake eventTag).untake featureTag
    let d := ((d.wr Obj.eventSlotBase 0).wr Obj.featureSlotBase 0).wr Obj.tracksActive 0
    let d := d.updFusion (fun x => { x with tracks := [], sums := [], spikes := [], egoWait := [] })
    { s with dev := ((d.setBit Obj.fusionState 0 false).setBit Obj.fusionState 3 false) }
  else s

/-- The fusion owner is revoked (R392). [log 82 DEDUCED] -/
def State.fusionRevoke (s : State) : State := let s := s.fusionHalt; { s with dev := s.dev.wr Obj.fusionOwner 0xFF }

/-- A write of FusionCommand (R415). -/
def State.fusionCommandDo (s : State) (q : Requester) (v : Nat) : State :=
  if v = 1 then { s with dev := s.dev.fusionStart q } else let s := s.fusionHalt; { s with dev := s.dev.accept q }

/-! ### Calibration (R395, R396, R331) -/

/-- Whether a table's header breaks R395 for stream `n`. -/
def calHeaderBad (n : Nat) (bs : List Byte) : Bool :=
  leAt bs 0 2 != 0x0100 || leAt bs 6 1 != n || leAt bs 7 1 != 0 || !((bs.drop 36).take 4060).all (· == 0)

/-- What a table of stream `n` comes to (R395, R427): 1 valid, 2 its length or size does not match, 3 its header or an entry is refused. -/
def Dev.calCheck (s : Dev) (n : Nat) (bs : List Byte) : Nat :=
  let w := s.rd (Obj.outputWidth n)
  let h := s.rd (Obj.outputHeight n)
  if bs.length ≠ 4096 + 8 * w * h ∨ leAt bs 2 2 ≠ w ∨ leAt bs 4 2 ≠ h then 2
  else if calHeaderBad n bs || (List.range (w * h)).any (fun i => decide (2 ^ 57 ≤ leAt bs (4096 + 8 * i) 8)) then 3
  else 1

/-- A table received whole (R331, R395): the old one's place is returned; a valid one is placed in a mirrored region of the stream's owner. -/
def State.calLoad (s : State) (n : Nat) (bs : List Byte) : State × Status :=
  let d := (s.dev.untake (128 + n)).wr (Obj.calibrationAddress n) 0
  let st := d.calCheck n bs
  let t := d.rd (Obj.streamTenant n)
  if st ≠ 1 then ({ s with dev := d.wr (Obj.calibrationState n) st }, .range)
  else match d.roomFor t bs.length true with
    | none => ({ s with dev := d.wr (Obj.calibrationState n) 0 }, .unavailable)
    | some a =>
      let s := ({ s with dev := ((d.take (128 + n) a bs.length).wr (Obj.calibrationAddress n) a).wr (Obj.calibrationState n) 1 } : State)
      (s.gddrPut t a bs, .ok)

/-- A segment of a CalibrationImage (R395): writable while fusion is stopped or no source names the stream. -/
def State.calSegment (s : State) (r : Request) (n : Nat) : State :=
  if !Dev.sessionOk r.q 2 r.idx then { s with dev := s.dev.refuse r.q .noSession }
  else if !s.dev.hasRight r.q .ownerOrCustodian .fusion n then { s with dev := s.dev.refuse r.q .rights }
  else s.segment r (if s.dev.fusionRuns && s.dev.fusedStreams.contains n then .state else .ok) (2 ^ 27) id (fun bs s => s.calLoad n bs)

/-! ### Partition (R399) -/

/-- Whether a write of `v` to a scalar object of Confluence or Buoy names only what the fusion owner holds (R399). -/
def Dev.fusionNames (s : Dev) (idx sub v : Nat) : Bool :=
  let t := s.rd Obj.fusionOwner
  let n := idx - 0x7100
  let weirOk : Bool := decide (16383 < v) || s.weirOwner v == t
  let streamOk (x : Nat) : Bool := decide (x < 36) && s.rd (Obj.streamTenant x) == t
  let refOk (kind ref : Nat) : Bool := match kind with | 1 => streamOk ref | 2 => decide (ref < 1024) && s.rd (Obj.popOwner ref) == t | _ => true
  if 0x7100 ≤ idx ∧ idx < 0x7160 then
    (match sub with
     | 1 => refOk v (s.rd (Obj.sourceRef n)) && (if v = 2 ∨ v = 3 then streamOk (s.rd (Obj.sourceStream n)) else true)
     | 2 => refOk (s.rd (Obj.sourceKind n)) v
     | 3 => streamOk v
     | 6 | 7 => weirOk
     | 8 => s.inRegions t v 16
     | _ => true)
  else if (idx = 0x7000 ∧ sub = 0x0B) ∨ (idx = 0x7400 ∧ sub = 0x0A) then weirOk
  else if (idx = 0x7000 ∧ sub = 0x0A) ∨ (idx = 0x7400 ∧ sub = 9) then decide (63 < v) || s.rd (Obj.channelOwner v) == t
  else true

/-! ### The commands -/

/-- The power domain of Confluence and Buoy (R522). -/
def fusionDomain : Nat := 178

/-- The oldest word on its way to Confluence that `p` picks: a poisoned one is discarded (R564), any other given to `k`. -/
def State.confWord (s : State) (p : Transit → Bool) (k : Transit → State → State) : State :=
  match takeFirst p s.dev.transit with
  | none => s
  | some r =>
    let s := { s with dev := s.dev.tookWord r.1 r.2 }
    if r.1.poisoned then { s with dev := s.dev.poisonExit 5 (.master 4 0) true } else k r.1 s

/-- Whether a word of a population is a tick word (R205). -/
def tickWord? (t : Transit) : Bool := wStream t.word == 63 && wKind t.word == 3

/-- The oldest word of any population on its way to Confluence, where it is a tick word or is not. -/
def State.popWord (s : State) (tick : Bool) (k : Nat → Transit → State → State) : State :=
  let isPop (t : Transit) : Bool := match t.dest with | .fusion 2 _ => true | _ => false
  match s.dev.transit.find? isPop with
  | none => s
  | some t => if tickWord? t = tick then s.confWord isPop (fun t s => match t.dest with | .fusion _ h => k h t s | _ => s) else s

/-- SPLAT_INPUT (R397 to R403, R410, R414). -/
def execSplatInput (s : State) : Host.Outcome State Fault Refusal :=
  s.runInM fusionDomain (fun s => s.confWord (fun t => match t.dest with | .fusion 1 _ => true | _ => false) (fun t s => s.splatInput t))

/-- SPIKE_WORD (R408). -/
def execSpikeWord (s : State) : Host.Outcome State Fault Refusal :=
  s.runInM fusionDomain (fun s => s.popWord false (fun h t s => { s with dev := s.dev.holdSpike h t }))

/-- TICK_WORD (R408). -/
def execTickWord (s : State) : Host.Outcome State Fault Refusal := s.runInM fusionDomain (fun s => s.popWord true (fun h t s => s.releaseSpikes h t))

/-- DELIVERY_READ (R409). -/
def execDeliveryRead (n : Fin 96) (age : Nat) (s : State) : Host.Outcome State Fault Refusal := s.runInM fusionDomain (fun s => s.deliveryRead n.val age)

/-- EGO_RECORD (R411). -/
def execEgoRecord (s : State) : Host.Outcome State Fault Refusal := s.runIn fusionDomain Dev.egoRecord

/-- INSTANT_CLOSE (R404). -/
def execInstantClose (s : State) : Host.Outcome State Fault Refusal := s.runInM fusionDomain State.instantClose

/-- INSTANT_DRAIN_END (R405). -/
def execInstantDrainEnd (bad : List (BitVec 21)) (s : State) : Host.Outcome State Fault Refusal :=
  s.runInM fusionDomain (fun s => s.drainEnd ((bad.map BitVec.toNat).eraseDups))

/-- FEATURE_CONVERSION_END (R407). -/
def execFeatureConversionEnd (s : State) : Host.Outcome State Fault Refusal := s.runInM fusionDomain State.convertEnd

/-- FUSION_START (R415). -/
def execFusionStart (q : Requester) (s : State) : Host.Outcome State Fault Refusal := s.askedM q Obj.fusionCommand 1 (fun s => s.fusionCommandDo q 1)

/-- FUSION_STOP (R415). -/
def execFusionStop (q : Requester) (s : State) : Host.Outcome State Fault Refusal := s.askedM q Obj.fusionCommand 2 (fun s => s.fusionCommandDo q 2)

/-- CALIBRATION_IMAGE_WRITE (R395). -/
def execCalibrationImageWrite (q : Requester) (n : Fin 36) (g : Seg) (s : State) : Host.Outcome State Fault Refusal :=
  let r := segReq q (Obj.calibrationImage n.val) g
  s.request r (fun s => s.reachAll r (s.dev.needs r) (fun s => s.calSegment r n.val))

end Sys2Proof.Machine
end

