-- ==== Sys2Proof/Machine/TimeBase.lean ====
section
/-! DEFINITION. The time base (R75 to R117): corrections of device time, reference faults, time across sleep, triggers, captures, the transparent clock. -/

namespace Sys2Proof.Machine

open Sys2Proof

/-! ### Corrections (R76 to R85, R91) -/

/-- Coasted and Unbridged clear and Uncertainty returns to zero (R91). [log 16 DEDUCED] -/
def Dev.clearCoast (s : Dev) : Dev :=
  let s := ((s.setBit Obj.timeStatus 4 false).setBit Obj.timeStatus 8 false).wr Obj.uncertainty 0
  if s.bit Obj.timeStatus 5 then { s with holdoverF := s.f } else s

/-- RateAdjust takes `b`, and TimeOffset takes up the difference at the present F (R77). -/
def Dev.rateTo (s : Dev) (b : Int) : Dev :=
  let a := s.rdI Obj.rateAdjust
  if a = b then s
  else
    let s := (s.wrI Obj.timeOffset (s.rdI Obj.timeOffset + (rateTerm a s.f - rateTerm b s.f))).wrI Obj.rateAdjust b
    { s with reconvert := if s.reconvert = .none then .rate else s.reconvert }

/-- What follows a step of device time or a re-basing (R93, R162, R192, R374, R416, R622): `cause` is the surface's. -/
def State.timeStepped (s : State) (cause : Nat) : State :=
  let d := (({ s.dev with reconvert := .step } : Dev).windowsStepped.popsStepped.reedsStepped).wipeAll cause
  ({ s with dev := d } : State).fusionStepped

/-- A step of device time (R78): TimeOffset takes `v`. [log 16 DEDUCED] -/
def State.timeStep (s : State) (v : Int) : State :=
  if s.dev.rdI Obj.timeOffset = signed 64 (unsigned 64 v) then s
  else ({ s with dev := (s.dev.windowsMark.wrI Obj.timeOffset v).bump Obj.stepCount } : State).timeStepped 1

/-- A write of TimeOffset (R78, R83, R91). [log 16 DEDUCED] -/
def State.timeOffsetWrite (s : State) (q : Requester) (v : Nat) : State :=
  if s.dev.rd Obj.disciplineMode ≠ 1 then { s with dev := s.dev.refuse q .state }
  else
    let s := ({ s with dev := s.dev.clearCoast } : State).timeStep (signed 64 v)
    { s with dev := s.dev.accept q }

/-- A write of RateAdjust (R77, R83). -/
def Dev.rateAdjustWrite (s : Dev) (q : Requester) (v : Nat) : Dev :=
  if s.rd Obj.disciplineMode ≠ 1 then s.refuse q .state else (s.rateTo (signed 32 v)).accept q

/-- A write of DisciplineMode (R82, R85, R81): it clears EpochPtp, and a change clears Locked. [log 108 DEDUCED] -/
def Dev.disciplineModeWrite (s : Dev) (q : Requester) (v : Nat) : Dev :=
  let same : Bool := s.rd Obj.disciplineMode == v
  let s := ((s.wr Obj.disciplineMode v).setF Obj.timeStatus 0 3 v).setBit Obj.timeStatus 7 false
  if same then s.accept q
  else ({ s.setBit Obj.timeStatus 3 false with lockRun := 0 } : Dev).accept q

/-- Locked after a measurement of offset `e` (R84): set after 16 in a row within ±100 ns, cleared outside ±1 µs. Its setting clears Coasted (R91) and, in PTP
mode, sets EpochPtp (R81). -/
def Dev.servoLock (s : Dev) (e : Int) : Dev :=
  let s := { s with lockRun := if e.natAbs ≤ 100 then s.lockRun + 1 else 0 }
  if 1000 < e.natAbs then s.setBit Obj.timeStatus 3 false
  else if 16 ≤ s.lockRun ∧ s.bit Obj.timeStatus 3 = false then
    let s := (s.setBit Obj.timeStatus 3 true).clearCoast
    if s.rd Obj.disciplineMode = 2 then s.setBit Obj.timeStatus 7 true else s
  else s

/-- The greatest slew: 500 ppm in units of 2⁻⁴⁰ (R84). [log 9 DESIGN CHOICE] -/
def slewLimit : Nat := 549755813

/-- A measured offset, device time less the reference, corrected (R84): stepped beyond StepLimit, slewed otherwise. The loop's gains are not given: the new rate is
an open value within ±500 ppm (notes/assumptions/9). [log 9 DESIGN CHOICE] -/
def State.servoCorrect (s : State) (e : Int) : State :=
  let s := { s with dev := s.dev.servoLock e }
  if (s.dev.rd Obj.stepLimit : Int) < e.natAbs then s.timeStep (s.dev.rdI Obj.timeOffset - e)
  else
    let r : Int := ((s.dev.open_ % (2 * slewLimit + 1) : Nat) : Int) - slewLimit
    { s with dev := s.dev.drawn.rateTo r }

/-- Locked falls away (R106): the edges of a flooded PPS input do not reach the servo. [log 121 DESIGN CHOICE] -/
def Dev.unlock (s : Dev) : Dev := { s.setBit Obj.timeStatus 3 false with lockRun := 0 }

/-- A measurement in PTP or PPS mode (R82, R84, R107): in PPS mode an edge more than 0.5 s from a whole second is discarded, and a flooded input gives none. [log 9 DESIGN CHOICE, 21 PRESUMED] -/
def State.servo (s : State) (e : Int) (delay : Nat) (identity : List Byte) : State :=
  let d := s.dev
  match d.rd Obj.disciplineMode with
  | 2 =>
    if d.rd Obj.ptpRole = 1 ∨ d.rd Obj.ptpRole = 2 then
      let d := (d.wrI Obj.offsetFromTransmitter e).wr Obj.meanPathDelay delay
      ({ s with dev := (d.setBlob Obj.transmitterIdentity (bytesAt identity 0 8)).wr Obj.portState 9 } : State).servoCorrect e
    else s
  | 3 =>
    if d.bit (Obj.capStatus (d.rd Obj.ppsCapture)) 2 then { s with dev := d.unlock }
    else if 500000000 < e.natAbs then { s with dev := d.bump Obj.ppsRejected }
    else s.servoCorrect e
  | _ => s

/-! ### Reference faults (R86, R87) -/

/-- HOLDOVER_ENTRY (R86). -/
def Dev.holdoverEntry (s : Dev) : Dev :=
  if s.bit Obj.timeStatus 5 then s
  else { (s.setBit Obj.timeStatus 5 true).setBit Obj.timeStatus 3 false with holdoverF := s.f, lockRun := 0 }

/-- What the present holdover adds to Uncertainty (R86). [log 17 DEDUCED] -/
def Dev.holdoverUnc (s : Dev) : Nat := if s.bit Obj.timeStatus 5 then 50 * ((s.f - s.holdoverF) / 1000000) else 0

/-- Uncertainty as it reads (R86, R90). [log 17 DEDUCED] -/
def Dev.uncertaintyNow (s : Dev) : Nat := min (s.rd Obj.uncertainty + s.holdoverUnc) 0xFFFFFFFF

/-- PLL_RELOCK (R86, R87): the uncertainty of the holdover stays; comparison resumes with the next whole window. [log 17 DEDUCED] -/
def Dev.pllRelock (s : Dev) : Dev :=
  if s.bit Obj.timeStatus 5 then
    { (s.wr Obj.uncertainty s.uncertaintyNow).setBit Obj.timeStatus 5 false with cmpFromF := (s.f / 1000000000 + 1) * 1000000000 }
  else s

/-- REFCLK_COMPARISON (R87): `ppb` is how far REFCLK and the AON counter disagree over the window that has ended. [log 18 DESIGN CHOICE] -/
def Dev.refclkComparison (s : Dev) (ppb : Int) : Dev :=
  if s.bit Obj.timeStatus 5 = false ∧ s.cmpFromF + 1000000000 ≤ s.f then
    let s := { s with cmpFromF := s.f / 1000000000 * 1000000000 }
    if (500 + s.rd Obj.aonCrystalPpm) * 1000 < ppb.natAbs then (s.setBit Obj.timeStatus 6 true).detect 0x0F .timeBase 0
    else s.setBit Obj.timeStatus 6 false
  else s

/-! ### Time across sleep (R88 to R92) -/

/-- The AON count and F at the next AON edge, for which the time base waits (R88, R89): nothing passes in the nanosecond after an edge. [log 125 DEDUCED] -/
def Dev.toEdge (s : Dev) : Dev :=
  if s.aonPhase < 512 then s
  else
    let ns := ceilDiv (aonPeriod - s.aonPhase) 512
    { s with aon := s.aon + 1, aonPhase := s.aonPhase + 512 * ns - aonPeriod, f := if s.stopped then s.f else (s.f + ns) % 2 ^ 64 }

/-- SLEEP_ENTRY_LATCH (R88, R92): at the next AON edge F and the AON count are latched, and the clocked domain stops. -/
def Dev.sleepEntryLatch (s : Dev) : Dev :=
  if s.entryWait then
    let s := s.toEdge
    { s with f0 := s.f, a0 := s.aon, unbridged := false, entryWait := false, stopped := true }
  else s

/-- UNBRIDGED_DETECT (R92): the running count equals A0 again. -/
def Dev.unbridgedDetect (s : Dev) : Dev := if s.stopped && decide (s.a0 + 2 ^ 32 ≤ s.aon) then { s with unbridged := true } else s

/-- AON ticks in ns, rounded down: one tick is 30,517.578125 ns (R89). -/
def aonNs (ticks : Nat) : Nat := ticks * 15625000 / 512

/-- RE_BASING (R89 to R92): F is loaded at the next AON edge, and what follows a re-basing happens. [log 17 DEDUCED] -/
def State.reBase (s : State) : State :=
  let d := s.dev.windowsMark
  if d.stopped && (d.domState 179 == 4 || d.domState 179 == 0) then
    let d := d.toEdge
    let ns := aonNs ((d.aon - d.a0) % 2 ^ 32)
    let unc := if d.unbridged then 0xFFFFFFFF else d.uncertaintyNow + 1000 + ns * d.rd Obj.aonCrystalPpm / 1000000
    let d := (({ d with f := (d.f0 + ns) % 2 ^ 64, stopped := false } : Dev).wr Obj.uncertainty (min unc 0xFFFFFFFF)).wr Obj.lastCoast ns
    let d := (d.setBit Obj.timeStatus 4 true).setBit Obj.timeStatus 8 (d.bit Obj.timeStatus 8 || d.unbridged)
    ({ s with dev := if d.bit Obj.timeStatus 5 then { d with holdoverF := d.f } else d } : State).timeStepped 2
  else s

/-! ### Triggers (R93 to R99) -/

/-- Trigger `n`. -/
def Dev.trig (s : Dev) (n : Nat) : Trig := Tab.get {} s.trigs n

/-- The device with a trigger changed. -/
def Dev.updTrig (s : Dev) (n : Nat) (f : Trig → Trig) : Dev := { s with trigs := Tab.upd {} s.trigs n f }

/-- Whether trigger `n` is armed. -/
def Dev.trigArmed (s : Dev) (n : Nat) : Bool := s.bit (Obj.trigStatus n) 0

/-- The device time of the next edge (R96): computed from the target. [log 19 DEDUCED] -/
def Dev.trigEdge (s : Dev) (n : Nat) : Int := s.rdT (Obj.trigTarget n) + ((s.trig n).edge * s.rd (Obj.trigPeriod n) : Nat)

/-- The next edge converted to F40 (R93). -/
def Dev.trigConvert (s : Dev) (n : Nat) : Dev := let e := unsigned 40 (s.fOf (s.trigEdge n)); s.updTrig n (fun t => { t with f40 := e })

/-- The trigger disarms itself (R96). -/
def Dev.trigFinish (s : Dev) (n : Nat) : Dev := (s.setBit (Obj.trigStatus n) 0 false).setBit (Obj.trigStatus n) 2 true

/-- Whether the next edge is beyond the last (R96). -/
def Dev.trigOver (s : Dev) (n : Nat) : Bool := s.rd (Obj.trigCount n) != 0 && decide (s.rd (Obj.trigCount n) ≤ (s.trig n).edge)

/-- A periodic trigger skips the edges that have passed (R97). [log 19 DEDUCED] -/
def Dev.trigSkip (s : Dev) (n : Nat) : Dev :=
  let gap := s.dt - s.trigEdge n
  let m := if 0 < gap then ceilDiv gap.toNat (s.rd (Obj.trigPeriod n)) else 0
  let c := s.rd (Obj.trigCount n)
  let m := if c = 0 then m else min m (c - (s.trig n).edge)
  let s := (s.updTrig n (fun t => { t with edge := t.edge + m })).setF (Obj.trigStatus n) 16 16 (satAdd 16 (s.getF (Obj.trigStatus n) 16 16) m)
  if s.trigOver n then s.trigFinish n else s.trigConvert n

/-- The trigger's edge of device time `e` fires (R94, R96, R99, R112). [log 19 DEDUCED] -/
def Dev.trigFire (s : Dev) (n : Nat) (e : Int) (late : Bool) : Dev :=
  let ctl := s.rd (Obj.trigControl n)
  let s := if late then s.setBit (Obj.trigStatus n) 1 true else s
  let w := s.rd (Obj.trigWidth n)
  let s := (s.bump (Obj.trigFired n)).updTrig n (fun t => { t with edge := t.edge + 1, pin := !bitAt ctl 2, pulseEnd := some (e + (w : Nat)) })
  let s := if bitAt ctl 3 then s.weirAdd .blockOwner (field ctl 4 14) 1 false else s
  let s := s.refEdge 1 n e
  if !bitAt ctl 1 || s.trigOver n then s.trigFinish n else s.trigConvert n

/-- Trigger `n` is armed (R95, R97): a one-shot whose target has passed fires late; its edge's device time is then the present one. [log 123 DESIGN CHOICE] -/
def Dev.trigArm (s : Dev) (n : Nat) : Dev :=
  let inv := s.bit (Obj.trigControl n) 2
  let s := ((s.wr (Obj.trigStatus n) 1).wr (Obj.trigFired n) 0).updTrig n (fun t =>
    { t with edge := 0, used := true, pin := if t.pulseEnd.isSome then t.pin else inv })
  if s.bit (Obj.trigControl n) 1 then s.trigSkip n
  else if s.trigEdge n < s.dt then s.trigFire n s.dt true else s.trigConvert n

/-- A write of TrigControl (R95, R98). -/
def Dev.trigControlWrite (s : Dev) (q : Requester) (n v : Nat) : Dev :=
  if bitAt v 0 then
    if 500000000000 < (s.rdT (Obj.trigTarget n) - s.dt).natAbs then s.refuse q .range
    else if s.trigArmed n then s.refuse q .state
    else ((s.wr (Obj.trigControl n) v).trigArm n).accept q
  else
    let s := (s.wr (Obj.trigControl n) v).setBit (Obj.trigStatus n) 0 false
    (s.updTrig n (fun t => { t with pin := if t.pulseEnd.isNone && t.used then bitAt v 2 else t.pin })).accept q

/-- Whether the next edge lies further ahead than F40 can tell (R79, R97): the trigger waits for it. [log 122 DEDUCED] -/
def Dev.trigFar (s : Dev) (n : Nat) : Bool := decide ((2 ^ 39 : Int) ≤ s.fOf (s.trigEdge n) - s.f)

/-- TRIGGER_FIRE (R93, R97). -/
def Dev.trigDue (s : Dev) (n : Nat) : Dev :=
  if !s.padsHeld 179 && s.trigArmed n && !s.trigFar n && decide (0 ≤ stampDiff 40 s.f (s.trig n).f40) then s.trigFire n (s.trigEdge n) false else s

/-- TRIGGER_PULSE_END (R94, R98). [log 19 DEDUCED] -/
def Dev.trigPulseEnd (s : Dev) (n : Nat) : Dev :=
  match (s.trig n).pulseEnd with
  | some e => if e ≤ s.dt ∧ s.padsHeld 179 = false then s.updTrig n (fun t => { t with pulseEnd := none, pin := s.bit (Obj.trigControl n) 2 }) else s
  | none => s

/-- TRIGGER_RECONVERT (R93, R97): after a step or a re-basing, passed edges are skipped and passed one-shots fire late. [log 19 DEDUCED] -/
def Dev.trigReconvert (s : Dev) : Dev :=
  let how := s.reconvert
  let s := { s with reconvert := .none }
  if how = .none then s
  else s.each 16 (fun n s =>
    if s.trigArmed n then
      if how = .rate then s.trigConvert n
      else if s.bit (Obj.trigControl n) 1 then s.trigSkip n
      else if s.trigEdge n < s.dt then s.trigFire n s.dt true
      else s.trigConvert n
    else s)

/-! ### Captures (R100 to R106) -/

/-- Capture input `m`. -/
def Dev.cap (s : Dev) (m : Nat) : Cap := Tab.get {} s.caps m

/-- The device with a capture input changed; CapStatus shows its level and how many records it holds. -/
def Dev.updCap (s : Dev) (m : Nat) (f : Cap → Cap) : Dev :=
  let s := { s with caps := Tab.upd {} s.caps m f }
  (s.setBit (Obj.capStatus m) 0 (s.cap m).level).setF (Obj.capStatus m) 3 5 (s.cap m).fifo.length

/-- The count of transitions brought to the present 1 ms window (R104, R622): `quiet` counts the windows in a row with at most an eighth of the limit. -/
def Dev.capRoll (s : Dev) (m : Nat) : Dev :=
  let w := s.win 1000000
  let lim := s.rd (Obj.capFloodLimit m)
  s.updCap m (fun x =>
    if x.win = w then x
    else { x with win := w, count := 0, quiet := (if 8 * x.count ≤ lim then x.quiet + (w - x.win) else w - x.win - 1) })

/-- A capture stamped `dt` (R99, R102, R105, R106, R112): its marker is injected where the stream takes events of its own. [log 20 DEDUCED, 124 DEDUCED] -/
def Dev.capture (s : Dev) (m : Nat) (level : Bool) (dt : Int) : Dev :=
  let ctl := s.rd (Obj.capControl m)
  let s := s.refEdge 2 m dt
  let s :=
    if (s.cap m).fifo.length < 16 then
      let lost := s.rd (Obj.capLost m)
      let flags := b2n (s.bit Obj.timeStatus 4) + 2 * b2n (s.bit Obj.timeStatus 5) + 4 * b2n (lost != (s.cap m).lostSeen)
      s.updCap m (fun x => { x with fifo := x.fifo ++ ([⟨dt, b2n (!level), flags, x.seq⟩] : List CapRec), seq := (if x.seq = 0xFFFFFFFF then 1 else x.seq + 1), lostSeen := lost })
    else s.bump (Obj.capLost m)
  let s := if bitAt ctl 3 then s.weirAdd .blockOwner (field ctl 4 14) 1 false else s
  let n := field ctl 19 6
  if bitAt ctl 18 && (s.getF (Obj.streamState n) 0 4 == 5 || s.getF (Obj.streamState n) 0 4 == 6) then s.queueMarker n m 0 (t31 dt) else s

/-- What a flood of capture input `m` does to the servo that it feeds (R106). [log 121 DESIGN CHOICE] -/
def Dev.ppsFlooded (s : Dev) (m : Nat) : Dev := if s.rd Obj.disciplineMode = 3 ∧ s.rd Obj.ppsCapture = m then s.unlock else s

/-- A transition to `level` whose first edge lies `age` ns back (R100, R101, R103, R104): taken once the level has held for 20 ns. [log 20 DEDUCED] -/
def Dev.capTransition (s : Dev) (m : Nat) (level : Bool) (age : Nat) : Dev :=
  if age < 20 ∨ level = (s.cap m).level then s
  else
    let s := s.updCap m (fun x => { x with level := level })
    if s.bit (Obj.capControl m) 0 then
      let f := s.f - age
      let rest := s.rf - age
      let s := (((s.setBit (Obj.capStatus m) 1 false).capRoll m).updCap m (fun x => { x with lastF := f, restF := rest, count := x.count + 1 }))
      if s.bit (Obj.capStatus m) 2 then s.bump (Obj.capFloodEdges m)
      else if s.rd (Obj.capFloodLimit m) < (s.cap m).count then
        (((s.setBit (Obj.capStatus m) 2 true).updCap m (fun x => { x with quiet := 0 })).bump (Obj.capFloodEdges m)).ppsFlooded m
      else if s.bit (Obj.capControl m) (if level then 1 else 2) then s.capture m level (s.dtAt f)
      else s
    else s

/-- CAPTURE_STUCK (R103, R591). -/
def Dev.capStuck (s : Dev) (m : Nat) : Dev :=
  if s.bit (Obj.capControl m) 0 && decide (s.rd (Obj.capStuckTime m) * 1000 < s.rf - (s.cap m).restF) then s.setBit (Obj.capStatus m) 1 true else s

/-- CAPTURE_FLOOD_END (R104). [log 20 DEDUCED] -/
def Dev.capFloodEnd (s : Dev) (m : Nat) : Dev :=
  let s := s.capRoll m
  if s.bit (Obj.capStatus m) 2 && decide (10 ≤ (s.cap m).quiet) then (s.setBit (Obj.capStatus m) 2 false).bump (Obj.capFloodEpisodes m) else s

/-- A write of CapControl (R104): clearing Enable clears Stuck and Flooded; setting it starts their times and counts afresh. -/
def Dev.capControlWrite (s : Dev) (q : Requester) (m v : Nat) : Dev :=
  let was := s.bit (Obj.capControl m) 0
  let s := s.wr (Obj.capControl m) v
  let f := s.rf
  let w := s.win 1000000
  let s :=
    if was = bitAt v 0 then s
    else ((s.setBit (Obj.capStatus m) 1 false).setBit (Obj.capStatus m) 2 false).updCap m (fun x => { x with restF := f, win := w, count := 0, quiet := 0 })
  s.accept q

/-- A capture record as CapPop returns it (R105). [log 20 DEDUCED] -/
def CapRec.bytes (r : CapRec) : List Byte := leBytes 10 (t80 r.stamp) ++ leBytes 1 r.edge ++ leBytes 1 r.flags ++ leBytes 4 r.seq

/-- A read of CapPop (R105). -/
def Dev.capPop (s : Dev) (m : Nat) : Dev × List Byte :=
  match (s.cap m).fifo with
  | [] => (s, zeros 16)
  | r :: rest => ((s.updCap m (fun x => { x with fifo := rest })).setF (Obj.capStatus m) 3 5 rest.length, r.bytes)

/-! ### The transparent clock (R108 to R111) -/

/-- The sum of the 16-bit words of a 64-bit field. -/
def wordSum (v : Nat) : Nat := field v 0 16 + field v 16 16 + field v 32 16 + field v 48 16

/-- The ones'-complement 16-bit sum. -/
def fold16 (v : Nat) : Nat := if v = 0 then 0 else if v % 0xFFFF = 0 then 0xFFFF else v % 0xFFFF

/-- The message with `ns` added to its correctionField and its checksum kept true (R108, R109): over IPv6 by the trailing two bytes, over IPv4 in the checksum
unless it is zero. [log 21 PRESUMED] -/
def ptpCorrect (m : PtpMessage) (ns : Nat) : PtpMessage :=
  let c := m.correction + BitVec.ofNat 64 (ns * 2 ^ 16)
  let grow := wordSum c.toNat + 4 * 0xFFFF - wordSum m.correction.toNat
  match m.transport.val with
  | 0 => { m with correction := c }
  | 1 => { m with correction := c, checksum := if m.checksum = 0 then 0 else BitVec.ofNat 16 (0xFFFF - fold16 (0xFFFF - m.checksum.toNat + grow) % 0xFFFF) }
  | _ => { m with correction := c, trailer := BitVec.ofNat 16 (fold16 (m.trailer.toNat + (0xFFFF - fold16 grow))) }

/-- The keys under which the residence of an event message waits for its second message, which leaves by port `out` (R108): a Sync's Follow_Up by the same port, the
answer to a request by the port at which the request came in. [log 21 PRESUMED] -/
def ptpKey (kind out : Nat) (identity : BitVec 64) (number : BitVec 16) : Nat := ((kind * 4 + out) * 2 ^ 64 + identity.toNat) * 2 ^ 16 + number.toNat

/-- Where an event message's residence waits; none for a message that is no event. -/
def ptpKeptAt (m : PtpMessage) (ingress egress : Nat) : Option Nat :=
  match m.type with
  | .sync => some (ptpKey 0 egress m.source m.number)
  | .delayReq => some (ptpKey 1 ingress m.source m.number)
  | .pdelayReq => some (ptpKey 2 ingress m.source m.number)
  | .pdelayResp => some (ptpKey 3 egress m.requester m.number)
  | _ => none

/-- The residences that a second message takes up, as it leaves by `egress`. -/
def ptpTakesFrom (m : PtpMessage) (egress : Nat) : List Nat :=
  match m.type with
  | .followUp => [ptpKey 0 egress m.source m.number]
  | .delayResp => [ptpKey 1 egress m.requester m.number]
  | .pdelayFollowUp => [ptpKey 2 egress m.requester m.number, ptpKey 3 egress m.requester m.number]
  | _ => []

/-- An IEEE 1588 message crosses the switch core (R108 to R111): `residence` ns after its ingress; `link` is the ingress port's measured link delay; `modifiable` is
whether the egress port's session leaves it modifiable. Where no die qualifies as the relay, a frame of port 0 is forwarded all the same (R110). [log 21 PRESUMED, 22 PRESUMED, 127 DESIGN CHOICE] -/
def Dev.ptpForward (s : Dev) (ingress egress : Nat) (m : PtpMessage) (residence link : Nat) (modifiable : Bool) : Dev :=
  let mode := s.rd Obj.tcMode
  if mode = 0 then s.emit (.ptp egress m)
  else if !modifiable then (s.bump Obj.tcUnmodified).emit (.ptp egress m)
  else
    let mine := residence + (if mode = 2 ∧ m.type = .sync then link else 0)
    match ptpKeptAt m ingress egress with
    | some k =>
      if m.twoStep then ({ s with residence := Tab.put 0 s.residence k mine } : Dev).emit (.ptp egress m)
      else s.emit (.ptp egress (ptpCorrect m mine))
    | none =>
      let ks := ptpTakesFrom m egress
      let held := (ks.map (fun k => Tab.get 0 s.residence k)).sum
      ({ s with residence := ks.foldl (fun z k => Tab.put 0 z k 0) s.residence } : Dev).emit (.ptp egress (if ks = [] then m else ptpCorrect m held))

/-! ### The ordinary clock (R107) -/

/-- The device's own clockIdentity, which differs from part to part. [log 22 PRESUMED] -/
def ptpIdentity : Nat := Config.partValue (Obj.portState).key % 2 ^ 64

/-- What the ordinary clock would announce of itself (R107): its priorities, and the quality of a clock without a reference of its own. [log 22 PRESUMED] -/
def Dev.ptpOwn (s : Dev) : PtpRank :=
  { priority1 := BitVec.ofNat 8 (s.rd Obj.ptpPriority1), quality := 0xF8FEFFFF, priority2 := BitVec.ofNat 8 (s.rd Obj.ptpPriority2), identity := BitVec.ofNat 64 ptpIdentity }

/-- A rank as one number: the lesser is the better timekeeper (R107). [log 22 PRESUMED] -/
def rankOrder (r : PtpRank) : Nat :=
  ((r.priority1.toNat * 2 ^ 32 + r.quality.toNat) * 2 ^ 8 + r.priority2.toNat) * 2 ^ 64 + r.identity.toNat

/-- A write of PtpRole (R107, R111): a transmitter transmits at once, a clock that may receive listens, and a clock that is off holds no transmitter. [log 22 PRESUMED] -/
def Dev.ptpRoleWrite (s : Dev) (q : Requester) (v : Nat) : Dev :=
  let st := if v = 0 then 0 else if v = 3 then 6 else 4
  ((({ s with ptpParent := none } : Dev).wr Obj.ptpRole v).wr Obj.portState st).accept q

/-- An Announce message from clock `src` reaches the ordinary clock (R107): the best timekeeper known is followed, unless this clock may transmit and is the
better one. [log 22 PRESUMED] -/
def Dev.ptpAnnounce (s : Dev) (src : BitVec 64) (r : PtpRank) : Dev :=
  let role := s.rd Obj.ptpRole
  if role = 0 ∨ role = 3 then s
  else
    let adopt : Bool := match s.ptpParent with | some p => p.1 == src || decide (rankOrder r < rankOrder p.2) | none => true
    if !adopt then s
    else if role = 1 ∧ rankOrder s.ptpOwn < rankOrder r then ({ s with ptpParent := none } : Dev).wr Obj.portState 6
    else
      let same : Bool := match s.ptpParent with | some p => p.1 == src | none => false
      let s := ({ s with ptpParent := some (src, r) } : Dev).setBlob Obj.transmitterIdentity (leBytes 8 src.toNat).reverse
      if same && s.rd Obj.portState == 9 then s else s.wr Obj.portState 8

/-- A message reaches the ordinary clock on port 2 (R107): of its domain and its transport only. A transmitter answers a Delay_Req, and a clock that measures peer
delay a Pdelay_Req, through the port the request came from; management messages are not answered. [log 22 PRESUMED] -/
def Dev.ptpReceive (s : Dev) (ingress : Nat) (m : PtpMessage) : Dev :=
  if s.rd Obj.ptpRole = 0 ∨ s.rd Obj.ptpDomain ≠ m.domain.toNat ∨ s.rd Obj.ptpTransport ≠ m.transport.val then s
  else
    let reply (t : PtpType) : Dev :=
      s.emit (.ptp ingress { m with type := t, twoStep := false, source := BitVec.ofNat 64 ptpIdentity, requester := m.source,
                                    stamp := BitVec.ofNat 80 (t80 (s.dtAt (s.localF 5))) })
    match m.type, m.rank with
    | .announce, some r => s.ptpAnnounce m.source r
    | .delayReq, _ => if s.rd Obj.ptpDelayMech = 0 ∧ s.rd Obj.portState = 6 then reply .delayResp else s
    | .pdelayReq, _ => if s.rd Obj.ptpDelayMech = 1 then reply .pdelayResp else s
    | _, _ => s

/-- PTP_EVENT_MESSAGE (R107 to R111): the transparent clock forwards the message, and the ordinary clock takes what leaves by port 2. -/
def Dev.ptpCross (s : Dev) (ingress egress : Nat) (m : PtpMessage) (residence link : Nat) (modifiable : Bool) : Dev :=
  if ingress = egress ∨ s.domOn 180 = false then s
  else
    let s := s.ptpForward ingress egress m residence link modifiable
    if egress = 2 then s.ptpReceive ingress m else s

/-! ### The commands -/

/-- HOLDOVER_ENTRY (R86). -/
def execHoldoverEntry (s : State) : Host.Outcome State Fault Refusal := s.runIn 179 Dev.holdoverEntry
/-- PLL_RELOCK (R86). -/
def execPllRelock (s : State) : Host.Outcome State Fault Refusal := s.runIn 179 Dev.pllRelock
/-- REFCLK_COMPARISON (R87). -/
def execRefclkComparison (ppb : BitVec 32) (s : State) : Host.Outcome State Fault Refusal := s.runIn 179 (fun d => d.refclkComparison ppb.toInt)
/-- SLEEP_ENTRY_LATCH (R88). -/
def execSleepEntryLatch (s : State) : Host.Outcome State Fault Refusal := s.act Dev.sleepEntryLatch
/-- UNBRIDGED_DETECT (R92). -/
def execUnbridgedDetect (s : State) : Host.Outcome State Fault Refusal := s.act Dev.unbridgedDetect
/-- RE_BASING (R89). -/
def execReBasing (s : State) : Host.Outcome State Fault Refusal := .next (if s.dev.alive then ({ s with dev := s.dev.fresh } : State).reBase else s)
/-- TIME_OFFSET_WRITE (R78). -/
def execTimeOffsetWrite (q : Requester) (v : BitVec 64) (s : State) : Host.Outcome State Fault Refusal :=
  s.askedM q Obj.timeOffset v.toNat (fun s => s.timeOffsetWrite q v.toNat)
/-- RATE_ADJUST_WRITE (R77). -/
def execRateAdjustWrite (q : Requester) (v : BitVec 32) (s : State) : Host.Outcome State Fault Refusal :=
  s.asked q Obj.rateAdjust v.toNat (fun d => d.rateAdjustWrite q v.toNat)
/-- DISCIPLINE_MODE_WRITE (R85). -/
def execDisciplineModeWrite (q : Requester) (v : BitVec 8) (s : State) : Host.Outcome State Fault Refusal :=
  s.asked q Obj.disciplineMode v.toNat (fun d => d.disciplineModeWrite q v.toNat)
/-- SERVO_MEASUREMENT (R84). -/
def execServoMeasurement (offset : BitVec 64) (delay : BitVec 32) (identity : List Byte) (s : State) : Host.Outcome State Fault Refusal :=
  s.runInM 179 (fun s => s.servo offset.toInt delay.toNat identity)
/-- TRIGGER_RECONVERT (R93). -/
def execTriggerReconvert (s : State) : Host.Outcome State Fault Refusal := s.runIn 179 Dev.trigReconvert
/-- TRIGGER_ARM (R95). -/
def execTriggerArm (q : Requester) (n : Fin 16) (v : BitVec 32) (s : State) : Host.Outcome State Fault Refusal :=
  let v := v.toNat / 2 * 2 + 1
  s.asked q (Obj.trigControl n.val) v (fun d => d.trigControlWrite q n.val v)
/-- TRIGGER_DISARM (R98). -/
def execTriggerDisarm (q : Requester) (n : Fin 16) (v : BitVec 32) (s : State) : Host.Outcome State Fault Refusal :=
  let v := v.toNat / 2 * 2
  s.asked q (Obj.trigControl n.val) v (fun d => d.trigControlWrite q n.val v)
/-- TRIGGER_FIRE (R93, R94). -/
def execTriggerFire (n : Fin 16) (s : State) : Host.Outcome State Fault Refusal := s.runIn 179 (fun d => d.trigDue n.val)
/-- TRIGGER_PULSE_END (R94). -/
def execTriggerPulseEnd (n : Fin 16) (s : State) : Host.Outcome State Fault Refusal := s.runIn 179 (fun d => d.trigPulseEnd n.val)
/-- CAPTURE_TRANSITION (R100). -/
def execCaptureTransition (m : Fin 8) (level : Bool) (age : Nat) (s : State) : Host.Outcome State Fault Refusal := s.runIn 179 (fun d => d.capTransition m.val level age)
/-- CAPTURE_STUCK (R103). -/
def execCaptureStuck (m : Fin 8) (s : State) : Host.Outcome State Fault Refusal := s.runIn 179 (fun d => d.capStuck m.val)
/-- CAPTURE_FLOOD_END (R104). -/
def execCaptureFloodEnd (m : Fin 8) (s : State) : Host.Outcome State Fault Refusal := s.runIn 179 (fun d => d.capFloodEnd m.val)
/-- CAP_CONTROL_WRITE (R104). -/
def execCapControlWrite (q : Requester) (m : Fin 8) (v : BitVec 32) (s : State) : Host.Outcome State Fault Refusal :=
  s.asked q (Obj.capControl m.val) v.toNat (fun d => d.capControlWrite q m.val v.toNat)
/-- CAP_POP (R105). -/
def execCapPop (q : Requester) (m : Fin 8) (s : State) : Host.Outcome State Fault Refusal :=
  s.request { q := q, op := 1, idx := 0x3420 + m.val, sub := 2 } (fun s =>
    let st := s.dev.judgeRead q 1 (0x3420 + m.val) 2
    if st = .ok then let z := s.dev.capPop m.val; { s with dev := z.1.answer q .ok z.2 } else { s with dev := s.dev.refuse q st })
/-- PTP_EVENT_MESSAGE (R107, R108). -/
def execPtpEventMessage (ingress egress : Fin 3) (msg : PtpMessage) (residence link : Nat) (modifiable : Bool) (s : State) : Host.Outcome State Fault Refusal :=
  s.unheld (fun s => if s.dev.dieOut 5 then s else { s with dev := s.dev.ptpCross ingress.val egress.val msg residence link modifiable })

end Sys2Proof.Machine
end

