-- ==== Sys2Proof/Machine/HostAttach.lean ====
section
/-! DEFINITION. Host ports, Ethernet hosts, tenants (R429 to R443): links, detaching, the end of a session, the hold and the revocation of a
tenant, what the Ethernet ports announce, heartbeats, and the owners of clusters and channels. -/

namespace Sys2Proof.Machine

open Sys2Proof

/-! ### The end of a session (R442, R476, R504, R513) -/

/-- The requesters of session `p`: the mailboxes of a host port, or an Omtos slot. -/
def reqsOf (p : Nat) : List Requester :=
  if h : p < 4 then [.mailbox ⟨p, h⟩ 0, .mailbox ⟨p, h⟩ 1, .mailbox ⟨p, h⟩ 2, .mailbox ⟨p, h⟩ 3]
  else if h : p < 6 then [.omtos ⟨p - 4, by omega⟩] else []

/-- The tenant that session `p` is bound to: from 8 on, none. -/
def Dev.sessTenant (s : Dev) (p : Nat) : Nat :=
  if p < 4 then s.getF (Obj.attachState p) 8 4 else s.getF (Obj.sessionState (p - 4)) 0 8

/-- The bit of TenantHosts that session `p` holds (R457). -/
def Dev.hostBit (s : Dev) (p : Nat) : Nat := if p < 4 then s.getF (Obj.attachState p) 12 1 else 2

/-- A tenant loses one of its hosts (R442): after the last the 2 s hold begins. [log 88 DEDUCED] -/
def Dev.hostGone (s : Dev) (t bit : Nat) : Dev :=
  let s := s.setBit (Obj.tenantHosts t) bit false
  let s := if s.rd (Obj.tenantHosts t) = 0 ∧ s.rd (Obj.tenantState t) = 1 then
      ({ s with tenantHoldF := Tab.put 0 s.tenantHoldF t s.rf } : Dev).wr (Obj.tenantState t) 2
    else s
  s.repathTenant t

/-- Session `p` ends (R513): its keys and objects go, its transfers are abandoned (R476), the custodian role ends with it (R504), and its
tenant has one host fewer. [log 88 DEDUCED] -/
def Dev.endSession (s : Dev) (p : Nat) : Dev :=
  let t := s.sessTenant p
  let bit := s.hostBit p
  let s := (reqsOf p).foldl (fun (s : Dev) q => s.abandonOf q) s
  let s := if s.bit Obj.securityState 11 = true ∧ s.getF Obj.securityState 12 4 = p then
      (s.setBit Obj.securityState 11 false).setF Obj.securityState 12 4 0xF
    else s
  let s := { s with sess := Tab.put {} s.sess p {} }
  let s := if p < 4 then ((s.setF (Obj.attachState p) 8 4 0xF).setBit (Obj.attachState p) 12 false).setBit (Obj.attachState p) 13 false
    else s.wr (Obj.sessionState (p - 4)) 0x00FF
  if t < 8 then s.hostGone t bit else s

/-- An exchange that is not complete is discarded (R520). [log 88 DEDUCED] -/
def Dev.dropExchange (s : Dev) (p : Nat) : Dev :=
  let s := { s with exchanges := Tab.put {} s.exchanges p {} }
  if p < 4 then (s.wr (Obj.sessionStep p) 0).setBlob (Obj.sessionOut p) [] else s

/-- What a port's host had asked for and had not reached its sequence point is discarded (R433). [log 88 DEDUCED] -/
def Dev.dropRequests (s : Dev) (h : Nat) : Dev :=
  let mine (q : Requester) : Bool := match q with | .mailbox p _ => p.val == h | _ => false
  let s := { s with held := s.held.filter (fun (x : Held) => !mine x.req.q), discarded := s.discarded.filter (fun (r : Request) => !mine r.q) }
  let s := s.each 4 (fun d s => s.updPace d (fun x => { x with waiting := x.waiting.filter (fun (r : Request) => !mine r.q) }))
  s.each 4 (fun m s => { s with mailboxes := Tab.put {} s.mailboxes (h * 4 + m) {} })

/-! ### Host ports (R429 to R433) -/

/-- The domain of host port `h`: its endpoint (R522). -/
def endpointDomain (h : Nat) : Nat := 173 + h / 2

/-- A link reaches DL_Active at rate `speed` (R431); in recovery only H0 trains (R494). -/
def Dev.trainedLink (s : Dev) (h speed : Nat) : Dev :=
  if s.portState h = 0 ∧ s.bit (Obj.attachState h) 3 = true ∧ s.bootWait = false ∧ (s.bit Obj.securityState 2 = false ∨ h = 0) then
    (s.setF (Obj.attachState h) 0 3 1).setF (Obj.attachState h) 5 3 speed
  else s

/-- Whether the chain that a ferry runs is at a descriptor with a host space, and that leads through port `h` (R433, R434). -/
def State.ferryUses (s : State) (f h : Nat) : Bool :=
  match (s.dev.ferry f).cur with
  | none => false
  | some c => s.dev.hostOf c.tenant == some h && (match s.descAt c.tenant (s.dev.ferry f).pc with
    | some d => d.srcSpace == 2 || d.dstSpace == 2
    | none => false)

/-- A link leaves DL_Active (R431, R433); `queued` device-issued writes stood queued to it. [log 95 DEDUCED] -/
def State.linkDown (s : State) (h queued : Nat) : State :=
  if s.dev.portState h = 0 then s
  else
    let fs := (List.range 40).filter (fun f => s.ferryUses f h)
    let d := fs.foldl (fun (d : Dev) f => d.chainStop f 4) s.dev
    let d := ((d.bumpBy (Obj.surpriseWrites h) queued).dropRequests h).dropExchange h
    let d := (d.endSession h).setF (Obj.attachState h) 0 3 0
    ({ s with dev := d.setF (Obj.attachState h) 5 3 0 } : State).loadsAborted

/-- A Detach that passed the checks of R469 (R431). [log 95 DEDUCED] -/
def Dev.detachDo (s : Dev) (q : Requester) (h : Nat) : Dev :=
  if s.portState h ≠ 2 then s.refuse q .state
  else
    let t := s.sessTenant h
    let s := ({ s with detachF := Tab.put 0 s.detachF h s.rf } : Dev).setF (Obj.attachState h) 0 3 3
    (if t < 8 then s.repathTenant t else s).accept q

/-- DETACHING ends (R431): the device's writes are complete, or 50 ms have passed. [log 95 DEDUCED] -/
def Dev.detachEnd (s : Dev) (h : Nat) (written : Bool) : Dev :=
  if s.portState h = 3 ∧ (written = true ∨ Tab.get 0 s.detachF h + 50000000 ≤ s.rf) then
    (s.endSession h).setF (Obj.attachState h) 0 3 1
  else s

/-! ### Revocation (R442) -/

/-- A revoked tenant's stream stops (R129, R442): Run intent goes, the stop sequence runs, and the drain is over at once, since what the stream
still held has no route left. -/
def Dev.streamRevoke (s : Dev) (n : Nat) : Dev :=
  let s := s.setBit (Obj.streamState n) 11 false
  let s := if s.stState n = 5 then (((s.runSequence n (s.stopSequenceOf (s.profileOf n)) none).1.setSt n 6).updStr n (fun x => { x with drainEmpty := false })) else s
  if s.stState n = 6 then (s.updStr n (fun x => { x with queue := [], ring := [], sluice := [] })).drainComplete n else s

/-- `f` on every number below `n` at which `own` names the tenant. -/
def State.eachOf (s : State) (n : Nat) (own : Nat → Reg) (t : Nat) (f : Nat → State → State) : State :=
  loop n (fun i (s : State) => if s.dev.rd (own i) = t then f i s else s) s

/-- A tenant's partitions are revoked in the order of R442, and the tenant becomes ABSENT; its T register returns to zero (R499) and its data key
is destroyed (R512). [log 88 DEDUCED] -/
def State.revokeTenant (s : State) (t : Nat) : State :=
  let onDev (f : Nat → Dev → Dev) (i : Nat) (s : State) : State := { s with dev := f i s.dev }
  let s := { s with dev := s.dev.wr (Obj.tenantState t) 3 }
  let s := s.eachOf 16 Obj.planOwner t (fun p s => s.planRevoke p)
  let s := s.eachOf 36 Obj.streamTenant t (onDev (fun n d => (d.streamRevoke n).wr (Obj.streamTenant n) 0xFF))
  let s := if s.dev.rd Obj.fusionOwner = t then s.fusionRevoke else s
  let s := s.eachOf 128 Obj.weirBlockOwner t (onDev (fun b d => (d.blockClear b).wr (Obj.weirBlockOwner b) 0xFF))
  let s := s.eachOf 64 Obj.channelOwner t (onDev (fun n d => (d.disableChan n).wr (Obj.channelOwner n) 0xFF))
  let s := s.eachOf 128 Obj.clusterOwner t (fun c s =>
    let s := s.clearPad c
    { s with dev := s.dev.wr (Obj.clusterOwner c) 0xFF })
  let s := s.eachOf 32 Obj.regionOwner t (fun r s => s.regionAssign r 0xFF)
  let d := ((s.dev.wr (Obj.tenantState t) 0).setBlob (Obj.tenantRegister t) (zeros 32))
  { s with dev := { d with dataKeys := Tab.put [] d.dataKeys t [] } }

/-- The hold of a tenant has lasted 2 s (R442). -/
def State.holdExpiry (s : State) (t : Nat) : State :=
  if s.dev.rd (Obj.tenantState t) = 2 ∧ Tab.get 0 s.dev.tenantHoldF t + 2000000000 ≤ s.dev.rf then s.revokeTenant t else s

/-! ### Owners (R441) -/

/-- A write of ClusterOwner that passed the checks of R469: a repeated value changes nothing but M5 (R472, R499). -/
def State.clusterOwnerWrite (s : State) (q : Requester) (c v : Nat) : State :=
  if s.dev.loadedPlans.any (fun p => (s.dev.plan p).clusterNames.contains c) then { s with dev := s.dev.refuse q .state }
  else
    let s := if s.dev.rd (Obj.clusterOwner c) = v then s else s.clearPad c
    { s with dev := ((s.dev.wr (Obj.clusterOwner c) v).partitioned (Obj.clusterOwner c) (leBytes 1 v)).accept q }

/-- A channel's objects at their defaults and its counters at zero (R441). -/
def Dev.channelDefaults (s : Dev) (n : Nat) : Dev :=
  let s := ([0x7801, 0x7802, 0x7803, 0x7804, 0x7805, 0x7806, 0x7807, 0x7808, 0x7809, 0x780A, 0x780B, 0x780C, 0x780D, 0x780F, 0x7810, 0x7811] : List Nat).foldl
    (fun (s : Dev) i => { s with dict := Tab.erase s.dict (i * 256 + n + 1) }) s
  let s := s.each 8 (fun k s => s.clear (Obj.outfallCounter n k))
  { s with chans := Tab.put {} s.chans n {} }

/-- A write of ChannelOwner that passed the checks of R469 (R441): a repeated value changes nothing but M5. -/
def Dev.channelOwnerWrite (s : Dev) (q : Requester) (n v : Nat) : Dev :=
  if s.loadedPlans.any (fun p => (s.plan p).namesChannel n) then s.refuse q .state
  else
    let s := if s.rd (Obj.channelOwner n) = v then s
      else
        let s := ((s.disableChan n).channelDefaults n).wr (Obj.channelOwner n) v
        s.each 8 (fun t s => if s.rd (Obj.faultChannel t) = n then s.wr (Obj.faultChannel t) 0xFF else s)
    (s.partitioned (Obj.channelOwner n) (leBytes 1 v)).accept q

/-- A partition object with no further behaviour takes its value, and M5 the digest of the write (R499). [log 108 DEDUCED] -/
def Dev.partitionWrite (s : Dev) (q : Requester) (r : Reg) (v : Nat) : Dev :=
  ((s.wr r v).partitioned r (leBytes (r.bits / 8) v)).accept q

/-- TenantHostKeys (R499, R520). -/
def Dev.hostKeysWrite (s : Dev) (q : Requester) (r : Reg) (bs : List Byte) : Dev := ((s.setBlob r bs).partitioned r bs).accept q

/-! ### Ethernet (R435 to R437) -/

/-- A 25 GbE port's MAC address: the part's own. [log 7 DESIGN CHOICE, 45 PRESUMED] -/
def macOf (port : Nat) : List Byte := partBytes (Obj.ipv4Address port).key 6

/-- A port's IPv4 address (R436): Ipv4Address, or what DHCPv4 leased; 0 for none. [log 96 PRESUMED] -/
def Dev.ipv4Of (s : Dev) (port lease : Nat) : Nat := if s.rd (Obj.ipv4Address port) = 0 then lease else s.rd (Obj.ipv4Address port)

/-- The first 16 bytes of the SHA3-256 of the identity public key (R497). [log 7 DESIGN CHOICE, 72 DESIGN CHOICE] -/
def Dev.deviceId (s : Dev) : List Byte := (sha3 (s.blob Obj.identityPublicKey)).take 16

/-- Omtos session slots that hold nothing (R437, R457). -/
def Dev.slotsFree (s : Dev) : Nat := ((List.range 2).filter (fun k => s.getF (Obj.sessionState k) 8 2 == 0)).length

/-- The announcement (R435). [log 96 PRESUMED] -/
def Dev.announcement (s : Dev) (port : Nat) : List Byte :=
  leBytes 2 0x0100 ++ leBytes 2 (b2n (s.bit Obj.securityState 11) + 2 * b2n (s.slotsFree == 0)) ++ s.deviceId ++
  bytesAt (ascii "EF36-M8N2") 0 16 ++ leBytes 1 0xB0 ++ leBytes 1 port ++ leBytes 2 40960 ++ leBytes 2 0x0102 ++ leBytes 2 0x0100 ++
  leBytes 1 s.slotsFree ++ zeros 3 ++ leBytes 10 (t80 s.dt) ++ zeros 6

/-- A port sends its announcement (R435), 1 s − 10 ms or more after its last: by broadcast where it has an IPv4 address, and to ff02::1. A die in the safe
state sends none (R558). [log 96 PRESUMED] -/
def Dev.announce (s : Dev) (port lease : Nat) : Dev :=
  if s.dieOut (4 + port) || !s.spanDue (128 + port) 990000000 then s
  else
  let bs := s.announcement port
  let s := s.ticked (128 + port)
  let s := if s.ipv4Of port lease = 0 then s else s.emit (.udp port 0xFFFFFFFF 40961 bs)
  s.emit (.udp port (0xFF02 * 2 ^ 112 + 1) 40961 bs)

/-- A TLV of LLDP: its type and its value. [log 45 PRESUMED] -/
def lldpTlv (type : Nat) (v : List Byte) : List Byte := beBytes 2 (type * 512 + v.length) ++ v

/-- A number as `n` bytes, highest first. -/
def netBytes (n v : Nat) : List Byte := (leBytes n v).reverse

/-- A port's link-local IPv6 address, from its MAC address. -/
def linkLocal (port : Nat) : List Byte :=
  let m := macOf port
  [0xFE, 0x80, 0, 0, 0, 0, 0, 0] ++ ((m.headD 0 ^^^ 2) :: m.tail.take 2) ++ [0xFF, 0xFE] ++ m.drop 3

/-- The LLDP frame of a port (R436): chassis ID, port ID, time to live, system name, management address, end. [log 45 PRESUMED] -/
def Dev.lldpFrame (s : Dev) (port lease : Nat) : List Byte :=
  let ip := s.ipv4Of port lease
  let addr : List Byte := if ip = 0 then 2 :: linkLocal port else 1 :: netBytes 4 ip
  [0x01, 0x80, 0xC2, 0, 0, 0x0E] ++ macOf port ++ [0x88, 0xCC] ++
  lldpTlv 1 (4 :: macOf port) ++ lldpTlv 2 (7 :: netBytes 1 (48 + port)) ++ lldpTlv 3 (netBytes 2 120) ++ lldpTlv 5 (ascii "EF36-M8N2") ++
  lldpTlv 8 (netBytes 1 addr.length ++ addr ++ [1] ++ netBytes 4 0 ++ [0]) ++ lldpTlv 0 []

/-- A port sends its LLDP frame (R436), 30 s or more after its last; a die in the safe state sends none (R558). -/
def Dev.lldpSend (s : Dev) (port lease : Nat) : Dev :=
  if s.dieOut (4 + port) || !s.spanDue (130 + port) 30000000000 then s
  else (s.ticked (130 + port)).emit (.frame port (s.lldpFrame port lease))

/-- The header of an Omtos datagram (R480). -/
def omtosHeader (version kind flags sid seq idx sub op status bytes offset : Nat) : List Byte :=
  leBytes 2 version ++ leBytes 1 kind ++ leBytes 1 flags ++ leBytes 4 sid ++ leBytes 4 seq ++ leBytes 2 idx ++ leBytes 1 sub ++ leBytes 1 op ++
  leBytes 1 status ++ zeros 1 ++ leBytes 2 bytes ++ leBytes 4 offset

/-- The answer to a heartbeat (R480): the device time at which it is sent. -/
def Dev.heartbeatAnswer (s : Dev) (k seq : Nat) (data : List Byte) : Dev :=
  let x := s.session (4 + k)
  let body := omtosHeader x.omtosVersion 4 4 x.sessionId seq 0 0 0 0 data.length 0 ++ data
  s.emit (.udp x.ethPort x.hostIp x.hostUdp (body ++ kmac256 x.requestKey body "OMTOS" 16))

/-- What R482 makes of a Sequence. -/
inductive SeqVerdict where
  | execute | duplicate (cached : List Byte) | absorb | stale
  deriving DecidableEq, Repr

/-- Whether a request of `q` under Sequence `n` is still executing: it is held. -/
def Dev.executing (s : Dev) (q : Requester) (n : Nat) : Bool :=
  s.held.any (fun x => decide (x.req.q = q) && x.req.seq == n) ||
  (List.range 4).any (fun d => (s.pace d).waiting.any (fun r => decide (r.q = q) && r.seq == n))

/-- A Sequence against what the session has executed (R482). [log 87 DEDUCED] -/
def Dev.judgeSeq (s : Dev) (k : Fin 2) (n : Nat) : SeqVerdict :=
  let x := s.session (4 + k.val)
  let d := stampDiff 32 n x.highSeq
  if n = 0 then .stale
  else if 1 ≤ d ∧ d ≤ 8 then .execute
  else if seqNear x.highSeq n then
    (match x.executed.find? (fun e => e.1 == n) with
    | some e => .duplicate e.2
    | none => if s.executing (.omtos k) n then .absorb else .execute)
  else .stale

/-- A session takes a Sequence: it rises to it where it is above, and it is the one that the next answer belongs to. -/
def Dev.takeSeq (s : Dev) (k n : Nat) : Dev :=
  s.updSession (4 + k) (fun x => { x with highSeq := if 1 ≤ stampDiff 32 n x.highSeq then n else x.highSeq, curSeq := n })

/-- An Omtos heartbeat (R437, R480, R482). [log 93 DEDUCED] -/
def Dev.heartbeat (s : Dev) (k : Fin 2) (e : Envelope) : Dev :=
  if !s.slotAttached k.val then s
  else if !e.tagOk then s.bump (Obj.transportCounter 3)
  else
    let n := e.seq.toNat
    match s.judgeSeq k n with
    | .stale => s.bump (Obj.transportCounter 5)
    | .absorb => s
    | .duplicate c => (s.bump (Obj.transportCounter 4)).heartbeatAnswer k.val n (c.drop 1)
    | .execute =>
      let data := leBytes 10 (t80 s.dt)
      let s := (s.takeSeq k.val n).updSession (4 + k.val) (fun x => ({ x with lastBeatF := s.rf } : Session).keep 0 data)
      s.heartbeatAnswer k.val n data

/-- Three heartbeat periods have passed without one (R437). -/
def Dev.heartbeatMiss (s : Dev) (k : Nat) : Dev :=
  if s.slotAttached k = true ∧ (s.session (4 + k)).lastBeatF + 3 * s.rd Obj.heartbeatPeriod * 1000000 ≤ s.rf then
    (s.endSession (4 + k)).bump Obj.missedHeartbeatDetaches
  else s

/-! ### The commands -/

/-- LINK_UP (R431). -/
def execLinkUp (h : Fin 4) (speed : Fin 5) (s : State) : Host.Outcome State Fault Refusal :=
  s.runIn (endpointDomain h.val) (fun d => d.trainedLink h.val (speed.val + 1))

/-- LINK_DOWN (R433). -/
def execLinkDown (h : Fin 4) (queued : Nat) (s : State) : Host.Outcome State Fault Refusal :=
  s.runInM 179 (fun s => s.linkDown h.val queued)

/-- DETACH (R431). -/
def execDetach (q : Requester) (h : Fin 4) (s : State) : Host.Outcome State Fault Refusal :=
  s.asked q (Obj.attachCommand h.val) 1 (fun d => d.detachDo q h.val)

/-- DETACH_COMPLETE (R431). -/
def execDetachComplete (h : Fin 4) (written : Bool) (s : State) : Host.Outcome State Fault Refusal :=
  s.runM (fun s => ({ s with dev := s.dev.detachEnd h.val written } : State).loadsAborted)

/-- TENANT_HOLD_EXPIRY (R442). -/
def execTenantHoldExpiry (t : Fin 8) (s : State) : Host.Outcome State Fault Refusal := s.runM (fun s => s.holdExpiry t.val)

/-- ANNOUNCEMENT (R435). -/
def execAnnouncement (port : Fin 2) (lease : BitVec 32) (s : State) : Host.Outcome State Fault Refusal :=
  s.runIn (175 + port.val) (fun d => d.announce port.val lease.toNat)

/-- LLDP_TRANSMIT (R436). -/
def execLldpTransmit (port : Fin 2) (lease : BitVec 32) (s : State) : Host.Outcome State Fault Refusal :=
  s.runIn (175 + port.val) (fun d => d.lldpSend port.val lease.toNat)

/-- LLDP_RECEIVE (R436, R589). -/
def execLldpReceive (port : Fin 2) (data : List Byte) (fcsOk : Bool) (s : State) : Host.Outcome State Fault Refusal :=
  s.unheld (fun s =>
    let d := s.dev
    { s with dev := if !d.domOn (175 + port.val) then d else if !fcsOk then d.badFrame port.val
                    else { d with lldpNeighbour := Tab.put [] d.lldpNeighbour port.val data } })

/-- HEARTBEAT (R437, R589). -/
def execHeartbeat (k : Fin 2) (e : Envelope) (s : State) : Host.Outcome State Fault Refusal :=
  s.framed (.heartbeat k e) (fun s => { s with dev := s.dev.heartbeat k e })

/-- HEARTBEAT_MISS (R437). -/
def execHeartbeatMiss (k : Fin 2) (s : State) : Host.Outcome State Fault Refusal :=
  s.runM (fun s => ({ s with dev := s.dev.heartbeatMiss k.val } : State).loadsAborted)

/-- CAN_BUS_OFF_RECOVERY (R439). -/
def execCanBusOffRecovery (k : Fin 2) (s : State) : Host.Outcome State Fault Refusal := s.runIn 180 (fun d => d.bump (Obj.canBusOff k.val))

/-- CLUSTER_OWNER_WRITE (R441). -/
def execClusterOwnerWrite (q : Requester) (c : Fin 128) (v : BitVec 8) (s : State) : Host.Outcome State Fault Refusal :=
  s.askedM q (Obj.clusterOwner c.val) v.toNat (fun s => s.clusterOwnerWrite q c.val v.toNat)

/-- CHANNEL_OWNER_WRITE (R441). -/
def execChannelOwnerWrite (q : Requester) (n : Fin 64) (v : BitVec 8) (s : State) : Host.Outcome State Fault Refusal :=
  s.asked q (Obj.channelOwner n.val) v.toNat (fun d => d.channelOwnerWrite q n.val v.toNat)

end Sys2Proof.Machine
end

