-- ==== Sys2Proof/Machine/Security.lean ====
section
/-! DEFINITION. Wellspring (R489 to R518): attestation reports, sessions and their keys, the custodian, fuses, the recovery image, debug
authorisations and the generator's health. -/

namespace Sys2Proof.Machine

open Sys2Proof

/-! ### Attestation (R501) -/

/-- The report for a requester of tenant `t` (0xFF none), with a nonce (R501). -/
def Dev.attestReport (s : Dev) (t : Nat) (custodian : Bool) (nonce : List Byte) : List Byte :=
  let flags := b2n (s.bit Obj.securityState 11) + 2 * b2n custodian + 4 * b2n (s.bit Obj.timeStatus 4) +
    8 * b2n (s.bit Obj.securityState 1) + 16 * b2n (s.bit Obj.securityState 5)
  let body := leBytes 4 0x54535441 ++ leBytes 2 0x0100 ++ zeros 2 ++ s.deviceId ++ s.blob Obj.serialNumber ++ leBytes 1 0xB0 ++
    leBytes 1 (s.getF Obj.securityState 0 1) ++ leBytes 1 (s.getF Obj.securityState 8 3) ++ leBytes 1 flags ++
    (List.range 4).flatMap (fun k => leBytes 4 (s.rd (Reg.at 0x1001 (k + 1) 32))) ++
    (List.range 3).flatMap (fun k => leBytes 1 (s.rd (Obj.fuseSvn k))) ++ zeros 1 ++
    (List.range 6).flatMap (fun k => s.blob (Obj.measurementRegister k)) ++ leBytes 1 t ++ zeros 7 ++
    (if t < 8 then s.blob (Obj.tenantRegister t) else zeros 32) ++ leBytes 10 (t80 s.dt) ++ zeros 2 ++ bytesAt nonce 0 32 ++ zeros 12
  body ++ bytesAt (Config.sign (sha3 body)) 0 2420

/-- The report that a read of AttestReport gives a requester. -/
def Dev.reportFor (s : Dev) (q : Requester) : List Byte :=
  s.attestReport ((s.tenantOf q).getD 0xFF) (s.isCustodian q) (s.session (sessOf q)).attestNonce

/-- A read of AttestReport that passed the checks of R469; without an identity key nothing can be signed (R498). [log 87 DEDUCED] -/
def Dev.reportRead (s : Dev) (q : Requester) : Dev :=
  if s.bit Obj.securityState 3 then s.refuse q .state else s.answer q .ok (s.reportFor q)

/-! ### Sessions (R506 to R508) -/

/-- The number of a session exchange: the host port's, or that of the Omtos source. -/
def peerNum : SessionPeer → Nat
  | .port h => h.val
  | .omtos ip udp _ => sessOf (.source ip udp)

/-- An exchange. -/
def Dev.exchange (s : Dev) (n : Nat) : Exchange := Tab.get {} s.exchanges n

/-- A session message cut into datagrams of at most 1,024 bytes (R506, R474). -/
def Dev.sendMessage (s : Dev) (ip udp eth kind version : Nat) (data : List Byte) : Dev :=
  s.each (ceilDiv data.length 1024) (fun k s =>
    let part := (data.drop (k * 1024)).take 1024
    let flags := b2n (k == 0) + 2 * b2n (decide (data.length ≤ (k + 1) * 1024))
    s.emit (.udp eth ip udp (omtosHeader version kind flags 0 0 0 0 0 0 part.length (k * 1024) ++ part)))

/-- A message to the peer of an exchange: through SessionOut, with SessionStep 1 for CHALLENGE and 2 for ACCEPT, or by datagrams. -/
def Dev.reply (s : Dev) (p : SessionPeer) (step : Nat) (data : List Byte) : Dev :=
  match p with
  | .port h => (s.setBlob (Obj.sessionOut h.val) data).wr (Obj.sessionStep h.val) step
  | .omtos ip udp eth => s.sendMessage ip udp eth.val (0x0F + 2 * step) (s.session (peerNum p)).omtosVersion data

/-- ACCEPT (R506). -/
def acceptBytes (result sid : Nat) (confirm : List Byte) : List Byte :=
  leBytes 2 0x0100 ++ leBytes 1 result ++ zeros 1 ++ leBytes 4 sid ++ bytesAt confirm 0 32

/-- A session is refused (R508): LastRefusal shows the code at a host port, and ACCEPT carries it. [log 85 DEDUCED] -/
def Dev.refuseSession (s : Dev) (p : SessionPeer) (code sid : Nat) : Dev :=
  let s := match p with
    | .port h => s.setF (Obj.attachState h.val) 24 8 code
    | .omtos _ _ _ => s
  (s.bump (Obj.securityCounter 1)).reply p 2 (acceptBytes code sid [])

/-- Whether a HELLO has its form (R506). -/
def helloGood (b : List Byte) : Bool :=
  b.length == 1348 && leAt b 0 2 == 0x0100 && (leAt b 2 1 == 1 || leAt b 2 1 == 2 || leAt b 2 1 == 3) &&
  (leAt b 2 1 == 2 || decide (leAt b 3 1 < 8))

/-- An Omtos slot's SessionState (R457). -/
def Dev.setSlot (s : Dev) (k st t : Nat) : Dev := s.wr (Obj.sessionState k) (t + st * 2 ^ 8)

/-- The slot that an Omtos exchange takes: its own from before, or the lowest that is free or whose exchange can no longer finish (R508); 2
where there is none. [log 85 DEDUCED] -/
def Dev.exchangeSlot (s : Dev) (n : Nat) : Nat :=
  let stale (k : Nat) : Bool := !s.exchanges.any (fun x => x.2.slot == k && x.1 != n && decide (s.rf ≤ x.2.readyF + 1000000000))
  ((List.range 2).find? (fun k => s.getF (Obj.sessionState k) 8 2 == 0 || (s.getF (Obj.sessionState k) 8 2 == 1 && stale k))).getD 2

/-- HELLO (R507, R514, R520): the device answers with a CHALLENGE; without an identity key, or with TrngFault, it refuses at once. [log 85 DEDUCED, 87 DEDUCED] -/
def Dev.hello (s : Dev) (p : SessionPeer) (data : List Byte) : Dev :=
  let n := peerNum p
  if !helloGood data then s
  else if s.bit Obj.securityState 3 || s.bit Obj.securityState 4 then s.refuseSession p 1 0
  else
    let slot := if n < 4 then 2 else s.exchangeSlot n
    let s := if slot < 2 then s.setSlot slot 1 0xFF else s
    let sid := 1 + s.open_ % (2 ^ 32 - 1)
    let s := s.drawn
    let nonce := s.drawBytes 32
    let s := nonce.2
    let draw := s.free
    let s := s.drawn
    let head := leBytes 2 0x0100 ++ zeros 2 ++ leBytes 4 sid ++ nonce.1 ++ bytesAt (Config.kemKey draw) 0 1184
    let challenge := head ++ s.attestReport 0xFF false (sha3 (data ++ head))
    let x : Exchange := { hello := data, challenge := challenge, draw := draw, readyF := s.rf, slot := slot }
    ({ s with exchanges := Tab.put {} s.exchanges n x } : Dev).reply p 1 challenge

/-- Whether a FINISH has its form (R506). -/
def finishGood (b : List Byte) : Bool :=
  leAt b 0 2 == 0x0100 && ((b.length == 3520 && leAt b 3516 4 == 0) || (b.length == 7316 && leAt b 3516 4 == 3796))

/-- Whether a credential with its provisioning key makes the host of `hostKey` the custodian (R503, R504). -/
def Dev.credentialGood (s : Dev) (finish hostKey : List Byte) : Bool :=
  let c := (finish.drop 3520).take 2484
  let pk := finish.drop 6004
  let id := bytesAt c 4 16
  let notAfter := leAt c 52 10
  finish.length == 7316 && leAt c 0 2 == 0x0100 && leAt c 2 2 == 0 && leAt c 62 2 == 0 &&
  (id == s.deviceId || id == zeros 16) && bytesAt c 20 32 == sha3 hostKey &&
  (notAfter == 0 || (s.bit Obj.timeStatus 7 && !s.bit Obj.timeStatus 4 && decide (s.dt ≤ s.ofT80 notAfter))) &&
  Config.verify pk (sha3 (c.take 64)) (bytesAt c 64 2420) &&
  (match s.activeSlot with
   | some k => sha3 pk == s.blob (Obj.provisioningKeyDigest k)
   | none => true)

/-- The version that both sides have of an interface, from the host's highest and oldest (R443); the device has 1.0 to 1.2 of each. -/
def agreedVersion (hi lo : Nat) : Option Nat :=
  let v := min hi 0x0102
  if v / 256 = hi / 256 ∧ v / 256 = 1 ∧ lo ≤ v ∧ 0x0100 ≤ v then some v else none

/-- Why the limits refuse a session (R432, R437, R442): 0 where they do not. -/
def Dev.limitCode (s : Dev) (p : SessionPeer) (slot : Nat) (tenant : Option Nat) : Nat :=
  match p, tenant with
  | .omtos _ _ _, some t =>
    if slot = 2 then 6 else if s.bit (Obj.tenantHosts t) 2 then 3 else if s.rd (Obj.tenantState t) = 3 then 4 else 0
  | .omtos _ _ _, none => if slot = 2 then 6 else 0
  | .port _, some t =>
    if s.bit (Obj.tenantHosts t) 0 && s.bit (Obj.tenantHosts t) 1 then 3 else if s.rd (Obj.tenantState t) = 3 then 4 else 0
  | .port _, none => 0

/-- Where the offer of an exchange's session is kept. -/
def Dev.offerOf (s : Dev) (p : SessionPeer) : Session := s.session (peerNum p)

/-- What the session is refused with under R443: a code and a Result; or the versions agreed. -/
def Dev.negotiate (s : Dev) (p : SessionPeer) : (Nat × Nat) ⊕ (Nat × Nat) :=
  let o := (s.offerOf p).offer
  let out := agreedVersion (o.getD 2 0) (o.getD 3 0)
  match p with
  | .port _ => (match out with | some v => .inr (0, v) | none => .inl (5, 3))
  | .omtos _ _ _ =>
    (match agreedVersion (o.getD 0 0) (o.getD 1 0), out with
     | none, _ => .inl (7, 2)
     | _, none => .inl (5, 3)
     | some m, some v => .inr (m, v))

/-- A key of the session (R510). [log 86 DESIGN CHOICE] -/
def sessionKey (ss h : List Byte) (label : String) (n : Nat) : List Byte := kmac256 ss h label n

/-- A tenant gains the host on session `p` (R431, R432, R442, R512). -/
def Dev.hostBound (s : Dev) (t p : Nat) (dataKey : List Byte) : Dev :=
  let bit := if 4 ≤ p then 2 else if s.bit (Obj.tenantHosts t) 0 then 1 else 0
  let s := if p < 4 then (s.setF (Obj.attachState p) 8 4 t).setF (Obj.attachState p) 12 1 bit else s
  let s := s.setBit (Obj.tenantHosts t) bit true
  let s := if s.rd (Obj.tenantState t) = 0 then { s with dataKeys := Tab.put [] s.dataKeys t dataKey } else s
  (s.wr (Obj.tenantState t) 1).repathTenant t

/-- Session `p` becomes the custodian's (R504); on an UNPROVISIONED device its key's digest is fused into slot 0. -/
def Dev.custodianBound (s : Dev) (p : Nat) (pk : List Byte) : Dev :=
  let s := (s.setBit Obj.securityState 11 true).setF Obj.securityState 12 4 p
  let s := if p < 4 then s.setBit (Obj.attachState p) 13 true else s
  match s.activeSlot with
  | some _ => s
  | none => (s.setBlob (Obj.provisioningKeyDigest 0) (sha3 pk)).lifecycle

/-- An accepted session (R508, R510): keys, versions and rights, then ACCEPT. [log 86 DESIGN CHOICE] -/
def Dev.acceptSession (s : Dev) (p : SessionPeer) (x : Exchange) (finish : List Byte) (versions : Nat × Nat) : Dev :=
  let role := leAt x.hello 2 1
  let t := leAt x.hello 3 1
  let sid := leAt x.challenge 4 4
  let n := match p with | .port h => h.val | .omtos _ _ _ => 4 + x.slot
  let h := sha3 (x.hello ++ x.challenge ++ finish.take 1096)
  let ss := bytesAt (Config.kemSecret x.draw (bytesAt finish 8 1088)) 0 32
  let record := sessionKey ss h "EF36 record" 32
  let old := s.offerOf p
  let fresh : Session :=
    { bound := true, recordKey := record, firstKey := record, requestKey := sessionKey ss h "EF36 request" 32,
      linkKey := sessionKey ss h "EF36 link" 32, omtosVersion := versions.1, outfallVersion := versions.2, offer := old.offer,
      result := [versions.1, versions.2, 1], weirSelect := old.weirSelect, attestNonce := old.attestNonce, sessionId := sid, lastBeatF := s.rf,
      custodian := bitAt role 1, curSeq := old.curSeq }
  let fresh := match p with
    | .port _ => fresh
    | .omtos ip udp eth => { fresh with hostIp := ip, hostUdp := udp, ethPort := eth.val }
  let s := { s with sess := Tab.put {} (Tab.put {} s.sess (peerNum p) {}) n fresh }
  let s := if n < 4 then s.setF (Obj.attachState n) 0 3 2 else s.setSlot (n - 4) 2 (if bitAt role 0 then t else 0xFF)
  let s := if bitAt role 1 then s.custodianBound n (finish.drop 6004) else s
  let s := if bitAt role 0 then s.hostBound t n (sessionKey ss h "EF36 data" 64) else s
  let confirm := kmac256 (sessionKey ss h "EF36 confirm" 32) h "EF36 finished" 32
  (s.bump (Obj.securityCounter 0)).reply p 2 (acceptBytes 0 sid confirm)

/-- FINISH (R508): the checks in their order, then ACCEPT. [log 85 DEDUCED] -/
def Dev.finish (s : Dev) (p : SessionPeer) (data : List Byte) : Dev :=
  let n := peerNum p
  let x := s.exchange n
  let sid := leAt x.challenge 4 4
  if x.challenge = [] ∨ finishGood data = false ∨ leAt data 4 4 ≠ sid ∨ x.readyF + 1000000000 < s.rf then s
  else
    let role := leAt x.hello 2 1
    let t := leAt x.hello 3 1
    let hostKey := x.hello.drop 36
    let s := { s with exchanges := Tab.put {} s.exchanges n {} }
    let no (s : Dev) (code : Nat) : Dev := (if x.slot < 2 then s.setSlot x.slot 0 0xFF else s).refuseSession p code sid
    let h := sha3 (x.hello ++ x.challenge ++ data.take 1096)
    let known := (List.range 4).any (fun k => s.blob (Obj.tenantHostKeys t k) == sha3 hostKey && s.blob (Obj.tenantHostKeys t k) != zeros 32)
    if bitAt role 0 = true ∧ known = false then no (s.bump (Obj.securityCounter 2)) 1
    else if Config.verify hostKey h (bytesAt data 1096 2420) = false then no (s.bump (Obj.securityCounter 2)) 1
    else if bitAt role 1 = true ∧ (s.bit Obj.securityState 11 = true ∨ s.credentialGood data hostKey = false) then
      no (s.bump (Obj.securityCounter 3)) 2
    else
      let limit := s.limitCode p x.slot (if bitAt role 0 then some t else none)
      if limit ≠ 0 then no s limit
      else match s.negotiate p with
        | .inl f => no (s.updSession n (fun y => { y with result := [0, 0, f.2] })) f.1
        | .inr v => s.acceptSession p x data v

/-- A message written to SessionIn of port `h` as one DOMAIN transfer (R506): a HELLO by its length, else a FINISH. A session is made from
LINKED (R431). [log 85 DEDUCED] -/
def Dev.sessionIn (s : Dev) (h : Fin 4) (data : List Byte) : Dev × Status :=
  if s.portState h.val ≠ 1 then (s, .state)
  else if helloGood data then (s.hello (.port h) data, .ok)
  else if finishGood data then (s.finish (.port h) data, .ok)
  else (s, .range)

/-- Whether a peer may carry on an exchange: a host port that is LINKED, or an Ethernet port that is on. -/
def Dev.peerOn (s : Dev) (p : SessionPeer) : Bool :=
  match p with
  | .port h => s.portState h.val == 1
  | .omtos _ _ eth => s.domOn (175 + eth.val)

/-! ### Rekeying (R511) -/

/-- RekeyCommand 1: the next epoch of the record key. -/
def Dev.recordRekey (s : Dev) (q : Requester) : Dev :=
  let n := sessOf q
  let x := s.session n
  if !x.bound then s.refuse q .rights
  else if x.outfallVersion < 0x0102 then s.refuse q .state
  else
    let e := (x.keyEpoch + 1) % 2 ^ 32
    (s.updSession n (fun y => { y with keyEpoch := e, recordKey := kmac256 y.recordKey (leBytes 4 e) "EF36 record" 32 })).accept q

/-- RekeyCommand 2: the next epoch of the link key, installed beside the one in use. -/
def Dev.linkRekey (s : Dev) (q : Requester) : Dev :=
  let n := sessOf q
  let x := s.session n
  if !x.bound then s.refuse q .rights
  else
    let e := (x.linkEpoch + 1) % 2 ^ 32
    let base := if x.nextLinkKey = [] then x.linkKey else x.nextLinkKey
    (s.updSession n (fun y => { y with linkEpoch := e, nextLinkKey := kmac256 base (leBytes 4 e) "EF36 link" 32 })).accept q

/-- The link moves to the key installed (R511). -/
def Dev.linkKeySwitch (s : Dev) (n : Nat) : Dev :=
  let x := s.session n
  if x.nextLinkKey = [] then s else s.updSession n (fun y => { y with linkKey := y.nextLinkKey, nextLinkKey := [] })

/-- A write of RekeyCommand that passed the checks of R469. -/
def Dev.rekeyWrite (s : Dev) (q : Requester) (v : Nat) : Dev := if v = 1 then s.recordRekey q else s.linkRekey q

/-! ### Fuses and the flash (R493, R494, R505) -/

/-- RollbackCommit (R493): each counter rises to the Svn of the image that runs. -/
def Dev.rollbackCommit (s : Dev) (q : Requester) : Dev :=
  let slot := s.getF Obj.securityState 1 1
  (s.each 3 (fun k s => s.raiseTo (Obj.fuseSvn k) (leAt (s.imageHeader slot (k + 1)) 5 1))).accept q

/-- ProvisioningCommand (R505): the next digest is fused into the next free slot. -/
def Dev.provision (s : Dev) (q : Requester) : Dev :=
  match (List.range 4).find? (fun k => s.blob (Obj.provisioningKeyDigest k) == zeros 32) with
  | some k => ((s.setBlob (Obj.provisioningKeyDigest k) (s.blob Obj.nextProvisioningDigest)).lifecycle).accept q
  | none => s.refuse q .state

/-- A segment of RecoveryImage (R494): in recovery the content overwrites the flash from its start. [log 89 DEDUCED] -/
def State.recoverySegment (s : State) (r : Request) : State :=
  let start : Status := if s.dev.bit Obj.securityState 2 then .ok else .state
  s.segment r start 67108864 (fun d => d) (fun bs s =>
    let old := s.dev.blob Obj.recoveryImage
    ({ s with dev := s.dev.setBlob Obj.recoveryImage (bs ++ old.drop bs.length) }, .ok))

/-! ### Debug authorisation (R516 to R518) -/

/-- Whether an authorisation is accepted (R517). -/
def Dev.authGood (s : Dev) (b : List Byte) : Bool :=
  let key := bytesAt b 64 1312
  b.length == 6216 && leAt b 0 2 == 0x0100 && decide (leAt b 2 1 < 8) && decide (leAt b 3 1 < 2) && bytesAt b 52 12 == zeros 12 &&
  bytesAt b 4 16 == s.deviceId && bytesAt b 20 32 == s.blob Obj.debugNonce &&
  (if leAt b 3 1 = 0 then (match s.activeSlot with | some k => sha3 key == s.blob (Obj.provisioningKeyDigest k) | none => false)
   else Config.verify Config.rootKey (sha3 key) (bytesAt b 1376 2420)) &&
  Config.verify key (sha3 (b.take 64)) (bytesAt b 3796 2420)

/-- Every session ends as though each had detached (R518). -/
def Dev.endSessions (s : Dev) : Dev :=
  let s := s.each 4 (fun h s => if s.portBound h then (s.endSession h).setF (Obj.attachState h) 0 3 1 else s)
  s.each 2 (fun k s => if s.slotAttached k then s.endSession (4 + k) else s)

/-- An authorisation is judged and, where it is accepted, takes effect (R517, R518). -/
def State.authorise (s : State) (b : List Byte) : State × Status :=
  if !s.dev.authGood b then ({ s with dev := s.dev.bump (Obj.securityCounter 4) }, .range)
  else
    let scope := leAt b 2 1
    let s := if bitAt scope 2 then
        loop 8 (fun t (s : State) => if s.dev.rd (Obj.tenantState t) = 0 then s else s.revokeTenant t) ({ s with dev := s.dev.endSessions } : State).loadsAborted
      else s
    let d := s.dev.extend 4 3 0 0 (sha3 b)
    let d := d.setF Obj.securityState 8 3 (d.getF Obj.securityState 8 3 ||| scope)
    let n := d.drawBytes 32
    ({ s with dev := n.2.setBlob Obj.debugNonce n.1 }, .ok)

/-- A segment of DebugAuthorisation. -/
def State.debugSegment (s : State) (r : Request) : State := s.segment r .ok 6216 (fun d => d) (fun bs s => s.authorise bs)

/-! ### The generator (R514) -/

/-- A test block passes or fails. -/
def Dev.trngBlock (s : Dev) (pass : Bool) : Dev :=
  if !pass then ({ s.bump (Obj.securityCounter 5) with trngPass := 0 } : Dev).setBit Obj.securityState 4 true
  else if s.bit Obj.securityState 4 then
    (if s.trngPass + 1 < 1024 then { s with trngPass := s.trngPass + 1 } else ({ s with trngPass := 0 } : Dev).setBit Obj.securityState 4 false)
  else s

/-- A write of FusionOwner that passed the checks of R469 (R392): while fusion is stopped. -/
def Dev.fusionOwnerWrite (s : Dev) (q : Requester) (v : Nat) : Dev :=
  if s.fusionRuns then s.refuse q .state else s.partitionWrite q Obj.fusionOwner v

/-! ### The commands -/

/-- A write of the bytes `bs` to a byte-string object: refused by the checks of R469, or else given to `k`. -/
def State.askedBytes (s : State) (q : Requester) (r : Reg) (bs : List Byte) (k : State → State) : Host.Outcome State Fault Refusal :=
  let req : Request := { q := q, op := 2, idx := r.key / 256, sub := r.key % 256, data := bs }
  s.request req (fun s =>
    let st := s.dev.judgeWrite q 2 req.idx req.sub bs
    if st = .ok then k s else { s with dev := s.dev.refuse q st })

/-- A segment of a DOMAIN write by `q`: refused by the checks of R469, or else given to `k`. -/
def State.askedSegment (s : State) (q : Requester) (r : Reg) (g : Seg) (k : Request → State → State) : Host.Outcome State Fault Refusal :=
  let req := segReq q r g
  s.request req (fun s =>
    let st := s.dev.judgeWrite q 2 req.idx req.sub g.data
    if st = .ok then k req s else { s with dev := s.dev.refuse q st })

/-- HELLO (R507). -/
def execHello (p : SessionPeer) (data : List Byte) (s : State) : Host.Outcome State Fault Refusal :=
  s.framed (.hello p data) (fun s => { s with dev := if s.dev.serves && s.dev.peerOn p then s.dev.hello p data else s.dev })

/-- FINISH (R508). -/
def execFinish (p : SessionPeer) (data : List Byte) (s : State) : Host.Outcome State Fault Refusal :=
  s.framed (.finish p data) (fun s => { s with dev := if s.dev.serves && s.dev.peerOn p then s.dev.finish p data else s.dev })

/-- ATTEST_REPORT_READ (R501). -/
def execAttestReportRead (q : Requester) (s : State) : Host.Outcome State Fault Refusal :=
  s.request { q := q, op := 1, idx := 0x9031, sub := 0 } (fun s =>
    let st := s.dev.judgeRead q 1 0x9031 0
    { s with dev := if st = .ok then s.dev.reportRead q else s.dev.refuse q st })

/-- ROLLBACK_COMMIT (R493). -/
def execRollbackCommit (q : Requester) (s : State) : Host.Outcome State Fault Refusal := s.asked q Obj.rollbackCommit 1 (fun d => d.rollbackCommit q)

/-- PROVISIONING_COMMAND (R505). -/
def execProvisioningCommand (q : Requester) (s : State) : Host.Outcome State Fault Refusal := s.asked q Obj.provisioningCommand 1 (fun d => d.provision q)

/-- RECOVERY_IMAGE_WRITE (R494). -/
def execRecoveryImageWrite (q : Requester) (g : Seg) (s : State) : Host.Outcome State Fault Refusal :=
  s.askedSegment q Obj.recoveryImage g (fun r s => s.recoverySegment r)

/-- RECORD_REKEY (R511). -/
def execRecordRekey (q : Requester) (s : State) : Host.Outcome State Fault Refusal := s.asked q Obj.rekeyCommand 1 (fun d => d.rekeyWrite q 1)

/-- LINK_REKEY (R511). -/
def execLinkRekey (q : Requester) (s : State) : Host.Outcome State Fault Refusal := s.asked q Obj.rekeyCommand 2 (fun d => d.rekeyWrite q 2)

/-- LINK_KEY_SWITCH (R511). -/
def execLinkKeySwitch (p : Fin 6) (s : State) : Host.Outcome State Fault Refusal := s.run (fun d => d.linkKeySwitch p.val)

/-- DEBUG_AUTHORISATION (R518). -/
def execDebugAuthorisation (q : Requester) (g : Seg) (s : State) : Host.Outcome State Fault Refusal :=
  s.askedSegment q Obj.debugAuthorisation g (fun r s => s.debugSegment r)

/-- TRNG_HEALTH_BLOCK (R514). -/
def execTrngHealthBlock (pass : Bool) (s : State) : Host.Outcome State Fault Refusal := s.runIn 179 (fun d => d.trngBlock pass)

/-- TENANT_HOST_KEYS_WRITE (R499): TenantHostKeys, and the partition objects without a command of their own. -/
def execTenantHostKeysWrite (q : Requester) (x : PartitionWrite) (s : State) : Host.Outcome State Fault Refusal :=
  match x with
  | .hostKeys t k bs => s.askedBytes q (Obj.tenantHostKeys t.val k.val) bs (fun s => { s with dev := s.dev.hostKeysWrite q (Obj.tenantHostKeys t.val k.val) bs })
  | .streamTenant n v => s.asked q (Obj.streamTenant n.val) v.toNat (fun d => d.partitionWrite q (Obj.streamTenant n.val) v.toNat)
  | .fusionOwner v => s.asked q Obj.fusionOwner v.toNat (fun d => d.fusionOwnerWrite q v.toNat)
  | .tenantWeight t v => s.asked q (Obj.tenantWeight t.val) v.toNat (fun d => d.partitionWrite q (Obj.tenantWeight t.val) v.toNat)

end Sys2Proof.Machine
end

