-- ==== Sys2Proof/Machine/Power.lean ====
section
/-! DEFINITION. Power domains and supplies control (R522 to R547): commands, entry, wake, first accesses, wake inputs, latched pads, rails. -/

namespace Sys2Proof.Machine

open Sys2Proof

/-! ### What a domain may do (R522, R525, R526) -/

/-- Whether domain `n` has the state that command code 2 (retention) or 3 (off) asks for. -/
def hasDomState (n code : Nat) : Bool :=
  if code = 2 then decide (n < 128) || (decide (132 ≤ n) && decide (n < 136)) || n == 172 else n != 172

/-- Whether a chain runs on a ferry of `fs` (R309). -/
def Dev.chainOn (s : Dev) (fs : List Nat) : Bool := fs.any (fun f => (s.ferry f).cur.isSome)

/-- Whether an Omtos session exists (R437). -/
def Dev.omtosExists (s : Dev) : Bool := s.slotAttached 0 || s.slotAttached 1

/-- The host port of a requester; none but over PCIe. -/
def reqPort : Requester → Option Nat
  | .mailbox p _ => some p.val
  | _ => none

/-- Whether IOD0 base may go off at the request of `q` (R526). -/
def Dev.baseMayGo (s : Dev) (q : Option Requester) : Bool :=
  match q.bind reqPort with
  | none => false
  | some p =>
    (List.range 181).all (fun n => n == 179 || s.domState n == 2 || (n == 172 && s.domState n == 1) || (n == endpointDomain p && s.domState n == 0)) &&
    (List.range 8).all (fun t => s.rd (Obj.tenantState t) == 0) &&
    (List.range 4).all (fun h => h == p || !s.portBound h) && !s.omtosExists

/-- Why lowering domain `n` with a command of `q` is refused (R522): 0 where it is not. -/
def Dev.lowerCode (s : Dev) (q : Option Requester) (n code : Nat) : Nat :=
  let busy (b : Bool) : Nat := if b then 1 else 0
  if !hasDomState n code then 2
  else if n < 128 then busy (s.clusterBusy n)
  else if n < 132 then busy ((List.range 36).any (fun k => s.rd (Obj.homeDie k) == n - 128 && (s.stState k == 5 || s.stState k == 6)))
  else if n < 136 then
    let d := n - 132
    if (List.range 32).any (fun k => s.domState (d * 32 + k) == 0) || s.domState (128 + d) == 0 then 3
    else if s.chainOn ((List.range 8).map (d * 8 + ·)) then 1
    else if code = 3 ∧ (List.range 32).any (fun b => decide (s.rd (Obj.weirBlockOwner (d * 32 + b)) < 8)) = true then 1
    else if code = 3 ∧ s.relay = some d ∧ s.domState 180 = 0 then 3
    else 0
  else if n < 172 then busy (s.stState (n - 136) == 5 || s.stState (n - 136) == 6)
  else if n = 172 then
    busy ((List.range 16).any s.planRuns || (List.range 36).any (fun k => s.stState k == 5) || s.fusionRuns || s.chainOn (List.range 40))
  else if n < 175 then busy ((List.range 4).any (fun h => endpointDomain h == n && s.portState h == 2))
  else if n < 177 then busy (s.omtosExists && s.domState (if n = 175 then 176 else 175) == 2)
  else if n = 177 then busy ((List.range 64).any (fun c => s.getF (Obj.reedbedStatus c) 0 2 != 0))
  else if n = 178 then busy s.fusionRuns
  else if n = 179 then (if s.baseMayGo q then 0 else 3)
  else if (List.range 179).any (fun m => !(decide (136 ≤ m) && decide (m ≤ 153)) && m != 173 && s.domState m == 0) then 3
  else busy ((List.range 64).any (fun c => s.chanState c != 0) || s.omtosExists)

/-- An accepted command takes effect: 1 wakes the domain, 2 and 3 begin an entry (R525, R530). A domain that is off already keeps that state
under a command of retention. [log 33 DEDUCED] -/
def Dev.commandTake (s : Dev) (q : Option Requester) (n code : Nat) : Dev :=
  let st := s.domState n
  if code = 1 then s.wake n
  else if st = 2 ∨ st = code - 1 then s
  else if n = 179 then
    match q.bind reqPort with
    | some p => { s with baseOff := (1 + p, s.f) }
    | none => s
  else (s.setF (Obj.domainState n) 0 3 3).updDom n (fun x => { x with target := code - 1, source := st, wakeAfter := false, entryF := s.f })

/-- Why a command is refused: only lowering can be. [log 33 DEDUCED] -/
def Dev.commandCode (s : Dev) (q : Option Requester) (n code : Nat) : Nat := if code = 1 then 0 else s.lowerCode q n code

/-- A DomainCommand that passed the checks of R469 (R525): judged at once, or held while the domain enters or wakes. [log 33 DEDUCED] -/
def Dev.domainCommand (s : Dev) (q : Requester) (n code : Nat) : Dev :=
  let st := s.domState n
  if st = 3 ∨ st = 4 then ((s.setBit (Obj.domainState n) 4 true).setF (Obj.domainState n) 5 2 code).accept q
  else
    let e := s.commandCode (some q) n code
    if e = 0 then (s.commandTake (some q) n code).accept q else (s.setF (Obj.domainState n) 16 8 e).refuse q .state

/-- A held command is judged when the transition has ended (R525). -/
def Dev.heldCommand (s : Dev) (n : Nat) : Dev :=
  if s.bit (Obj.domainState n) 4 then
    let code := s.getF (Obj.domainState n) 5 2
    let s := (s.setBit (Obj.domainState n) 4 false).setF (Obj.domainState n) 5 2 0
    let e := s.commandCode none n code
    if e = 0 then s.commandTake none n code else s.setF (Obj.domainState n) 16 8 e
  else s

/-! ### First accesses (R534, R535) -/

/-- Whether an access carries the wake right of domain `n` (R535). -/
def Dev.accessRight (s : Dev) (who : Accessor) (n : Nat) : Bool :=
  match who with
  | .firmware => true
  | .tenant t => s.ownsInDomain t.val n
  | .nobody => false

/-- The number of the tenant on whose behalf an access is made. -/
def accessorTenant : Accessor → Nat
  | .tenant t => t.val
  | _ => 0xFF

/-- An access reaches a domain in retention or off (R534, R535): it wakes the domain, or is refused. A refused data-path access also places a plan-fault
entry. [log 34 DEDUCED] -/
def Dev.firstAccess (s : Dev) (n : Nat) (a : Accessor × Bool × Nat × Nat × Nat) : Dev :=
  if s.accessRight a.1 n && s.on (Obj.wakeOnAccess n) then s.firstWake n
  else
    let s := s.bump (Obj.accessRefused n)
    match a.2.2.1 with
    | 0 => s
    | k + 1 =>
      let s := if n < 128 ∧ a.2.1 = false then s.emit (.padData n a.2.2.2.1 0 false false true) else s
      s.planFaultEntry k a.2.2.2.1 a.2.2.2.2 (accessorTenant a.1)

/-- FIRST_ACCESS (R530, R534): during an entry it waits, and during a wake it is held until the domain is on. [log 34 DEDUCED] -/
def Dev.access (s : Dev) (n : Nat) (a : Accessor × Bool × Nat × Nat × Nat) : Dev :=
  let st := s.domState n
  if st = 1 ∨ st = 2 then s.firstAccess n a
  else if st = 3 then s.updDom n (fun x => { x with waiters := x.waiters ++ ([a] : List (Accessor × Bool × Nat × Nat × Nat)) })
  else s

/-! ### Wake inputs (R531, R532, R540, R541) -/

/-- A wake input beyond its objects. -/
def Dev.wakeIn (s : Dev) (i : Nat) : WakeIn := Tab.get {} s.wakeIns i

/-- The mode of wake input `i`: 0 rising, 1 falling, 2 high, 3 low. -/
def Dev.wakeMode (s : Dev) (i : Nat) : Nat := s.getF (Obj.wakeControl i) 1 2

/-- Whether the input, at `level`, stands at the level that its mode asserts: of an edge mode, the level after its edge. -/
def Dev.wakeAsserted (s : Dev) (i : Nat) (level : Bool) : Bool := if s.wakeMode i % 2 = 0 then level else !level

/-- Whether domain `n` is a target of wake input `i`. [log 35 DEDUCED] -/
def Dev.wakeTarget (s : Dev) (i n : Nat) : Bool := ((bytesAt (s.blob (Obj.wakeTargets i)) 0 23).getD (n / 8) 0).toNat.testBit (n % 8)

/-- Whether wake input `i` takes events: enabled, neither Stuck nor Flooded. -/
def Dev.wakeTakes (s : Dev) (i : Nat) : Bool := s.bit (Obj.wakeControl i) 0 && !s.bit (Obj.wakeStatus i) 1 && !s.bit (Obj.wakeStatus i) 2

/-- A wake has been issued by input `i`: it is counted, and too many in one second of AON time set Flooded (R541). [log 35 DEDUCED] -/
def Dev.wakeIssued (s : Dev) (i : Nat) : Dev :=
  let sec := s.aon / 32768
  let x := s.wakeIn i
  let n := if x.second = sec then x.count + 1 else 1
  let s := ({ s with wakeIns := Tab.upd {} s.wakeIns i (fun y => { y with second := sec, count := n }) } : Dev).bump (Obj.wakesIssued i)
  if s.rd (Obj.wakeFloodLimit i) < n then s.setBit (Obj.wakeStatus i) 2 true else s

/-- An accepted event at one target: a domain in retention or off wakes; one that enters wakes once its entry completes, but an edge in the loss
window is only counted, and a level in it is judged as the entry completes (R531, R532). -/
def Dev.wakeOneTarget (s : Dev) (i n : Nat) : Dev :=
  let st := s.domState n
  if st = 1 ∨ st = 2 then s.wake n
  else if st = 3 then
    if s.f ≤ (s.dom n).entryF + 200 then (if s.wakeMode i < 2 then s.bump (Obj.entryWindowEdges i) else s)
    else s.updDom n (fun x => { x with wakeAfter := true })
  else s

/-- The targets of input `i` that its present event wakes. -/
def Dev.wokenBy (s : Dev) (i : Nat) : List Nat :=
  (List.range 181).filter (fun n => s.wakeTarget i n &&
    (s.domState n == 1 || s.domState n == 2 || (s.domState n == 3 && decide ((s.dom n).entryF + 200 < s.f))))

/-- A level-mode input that was asserted as the loss window of an entry ended changes before the entry completes: the domain wakes all the same (R531). -/
def Dev.levelEnds (s : Dev) (i : Nat) : Dev :=
  if s.wakeTakes i && decide (2 ≤ s.wakeMode i) && s.wakeAsserted i (s.bit (Obj.wakeStatus i) 0) then
    let ns := (List.range 181).filter (fun n => s.wakeTarget i n && s.domState n == 3 && decide ((s.dom n).entryF + 200 < s.f) && !(s.dom n).wakeAfter)
    let s := ns.foldl (fun (s : Dev) n => s.updDom n (fun x => { x with wakeAfter := true })) s
    if ns = [] then s else s.wakeIssued i
  else s

/-- The filtered level of wake input `i` changes to `level` (R540). [log 35 DEDUCED] -/
def Dev.wakeInput (s : Dev) (i : Nat) (level : Bool) : Dev :=
  let changed : Bool := s.bit (Obj.wakeStatus i) 0 != level
  let s := if changed then s.levelEnds i else s
  let s := s.setBit (Obj.wakeStatus i) 0 level
  let on := s.wakeAsserted i level
  let s := if changed then { s with wakeIns := Tab.upd {} s.wakeIns i (fun x => { x with sinceAon := s.aon }) } else s
  let s := if on then s else s.setBit (Obj.wakeStatus i) 1 false
  if changed && on && s.wakeTakes i then
    let woken := s.wokenBy i
    let s := s.each 181 (fun n s => if s.wakeTarget i n then s.wakeOneTarget i n else s)
    if woken = [] then s else s.wakeIssued i
  else s

/-- A level-mode input has been asserted for WakeStuckTime (R541). [log 35 DEDUCED] -/
def Dev.wakeStuck (s : Dev) (i : Nat) : Dev :=
  if s.bit (Obj.wakeControl i) 0 = true ∧ 2 ≤ s.wakeMode i ∧ s.wakeAsserted i (s.bit (Obj.wakeStatus i) 0) = true ∧
      s.rd (Obj.wakeStuckTime i) * 32768 ≤ (s.aon - (s.wakeIn i).sinceAon) * 1000 then
    s.setBit (Obj.wakeStatus i) 1 true
  else s

/-- A write of WakeControl that passed the checks of R469 (R541). [log 35 DEDUCED] -/
def Dev.wakeControlWrite (s : Dev) (q : Requester) (i v : Nat) : Dev :=
  let s := ({ s with wakeIns := Tab.upd {} s.wakeIns i (fun x => { x with count := 0 }) } : Dev)
  let s := if field v 1 2 = s.wakeMode i then s else { s with wakeIns := Tab.upd {} s.wakeIns i (fun x => { x with sinceAon := s.aon }) }
  ((s.wr (Obj.wakeControl i) v).setBit (Obj.wakeStatus i) 2 false).accept q

/-- A level-mode input that is still asserted as domain `n` completes an entry wakes it (R531, R540). -/
def Dev.levelWakes (s : Dev) (n : Nat) : Dev :=
  s.each 4 (fun i s =>
    if s.wakeTakes i && decide (2 ≤ s.wakeMode i) && s.wakeAsserted i (s.bit (Obj.wakeStatus i) 0) && s.wakeTarget i n &&
        (s.domState n == 1 || s.domState n == 2) then (s.wake n).wakeIssued i
    else s)

/-! ### Rails (R542 to R544) -/

/-- VDD_CORE `d` goes off once every domain that it feeds is off (R542), and the relay follows (R543). [log 111 DESIGN CHOICE] -/
def Dev.coreRail (s : Dev) (d : Nat) : Dev :=
  if (List.range 32).all (fun k => s.domState (d * 32 + k) == 2) && s.domState (128 + d) == 2 && s.domState (132 + d) == 2 && s.getF (Obj.railState d) 0 2 != 0 then
    ((((s.setF (Obj.railState d) 0 2 0).emit (.pmbus d false)).setF (Obj.paceStatus d) 16 2 0).updPace d (fun x => { x with changeF := 0, asked := false })).paceShow d
  else s

/-- A rail reports POWER_GOOD (R542): VDD_CORE is then set to its target and settles under R65; of the others the next one rises (R606). [log 38 DEDUCED] -/
def Dev.railGood (s : Dev) (r : Nat) : Dev :=
  if s.getF (Obj.railState r) 0 2 = 1 then
    let before := s.relay
    let s := s.setF (Obj.railState r) 0 2 2
    (if r < 4 then s.voltStart r (s.rd (Obj.voltageTarget r)) else s.nextRail r).relayMoved before
  else s

/-- A rail is not good 5 ms after it was turned on (R542), of AON time while F does not run. [log 38 DEDUCED] -/
def Dev.railTimeout (s : Dev) (r : Nat) : Dev :=
  if s.getF (Obj.railState r) 0 2 = 1 ∧ (if s.stopped then (Tab.get ({} : Rail) s.rails r).onAon + 512 * 5000000 ≤ s.aonTime else (Tab.get ({} : Rail) s.rails r).onF + 5000000 ≤ s.rf) then (s.setF (Obj.railState r) 0 2 3).supplyFault r else s

/-- A rail's nominal value in mV, of VDD_CORE its target (R605). -/
def Dev.railNominal (s : Dev) (r : Nat) : Nat :=
  if r < 4 then s.rd (Obj.voltageTarget r)
  else if r = 4 then 750 else if r = 5 then 900 else if r = 6 then 1200 else if r = 7 then 1350 else 1800

/-- Whether a reading is outside the rail's tolerance (R605): 25 mV for VDD_CORE, 5 % for VPP_G6 and VDD_IO18, 3 % for the others. [log 32 DESIGN CHOICE, 101 DESIGN CHOICE] -/
def Dev.railOut (s : Dev) (r mv : Nat) : Bool :=
  let n := s.railNominal r
  let tol := if r < 4 then 2500 else if 8 ≤ r then n * 5 else n * 3
  decide (tol < 100 * (mv - n)) || decide (tol < 100 * (n - mv))

/-- A reading of a rail, its voltage and its current, or, without one, its transaction failed three repeats (R544, R581). [log 26 DESIGN CHOICE, 32 DESIGN CHOICE] -/
def Dev.railReading (s : Dev) (r : Nat) (reading : Option (Nat × Nat)) : Dev :=
  match reading with
  | none =>
    let s := s.setBit (Obj.railState r) 2 true
    let s := if r < 4 ∧ (s.pace r).changeF ≠ 0 then s.voltFail r else s
    s.supplyFault r
  | some (mv, ma) =>
    let s := (s.setBit (Obj.railState r) 2 false).setF (Obj.railState r) 16 16 mv
    let s := if r < 4 then s.wr (Obj.railCurrent r) ma else s
    if s.getF (Obj.railState r) 0 2 = 2 then
      let s := s.sedExtreme (0x1100 + 16 * (6 + r)) true mv
      let settling : Bool := decide (r < 4) && (s.pace r).changeF != 0
      let out := s.railOut r mv && !settling
      let was := (Tab.get ({} : Rail) s.rails r).bad
      let s := { s with rails := Tab.upd {} s.rails r (fun x => { x with bad := out }) }
      if out && was then s.supplyFault r else s
    else s

/-! ### Entry and wake -/

/-- What a cluster's units and sluices hold is gone (R538). -/
def Dev.clusterForget (s : Dev) (c : Nat) : Dev :=
  let lo := c * 16 * 4096
  let hi := (c + 1) * 16 * 4096
  let out (x : Nat) : Bool := decide (x < lo) || decide (hi ≤ x)
  { s with neurons := s.neurons.filter (fun x => out x.1), accs := s.accs.filter (fun x => out x.1), residues := s.residues.filter (fun x => out x.1), neuronBad := s.neuronBad.filter (fun x => out x.1),
           counts := s.counts.filter (fun x => x.1 / 2 ^ 32 % 128 != c), lfsr := s.lfsr.filter (fun x => x.1 / 16 != c),
           sluices := s.sluices.filter (fun x => x.1 / 8 != c || decide (1024 ≤ x.1)) }

/-- A sensor port that was off is EMPTY (R537). -/
def Dev.portForget (s : Dev) (n : Nat) : Dev :=
  let s := s.updStr n (fun x => { ({} : Stream) with hot := x.hot, derotOff := x.derotOff })
  (((s.setSt n 0).setF (Obj.streamState n) 16 8 0xFF).setBit (Obj.streamState n) 10 false).wr (Obj.dynamicAddress n) 0

/-- A die's weirs are in their reset state, and its ferries hold no start (R338, R537). -/
def Dev.dieForget (s : Dev) (d : Nat) : Dev :=
  let s := s.each 32 (fun b s => s.blockClear (d * 32 + b))
  let s := s.each 8 (fun f s => s.updFerry (d * 8 + f) (fun y => { y with starts := [], cur := none, pc := 0, waiting := false, refused := false }))
  { s with heldStarts := s.heldStarts.filter (fun (c : ChainStart) => c.weir / 4096 != d), waits := s.waits.filter (fun (w : PendingWait) => w.weir / 4096 != d) }

/-- What a domain that goes off does to what it holds: what its wake re-initialises is re-initialised there. -/
def State.domainDown (s : State) (n : Nat) : State :=
  if n = 173 ∨ n = 174 then (s.linkDown (2 * (n - 173)) 0).linkDown (2 * (n - 173) + 1) 0
  else if n = 177 then { s with dev := { s.dev with reeds := [], spis := [], fines := [] } }
  else if n = 178 then { s with dev := { s.dev with fusion := {} } }
  else s

/-- ENTRY_COMPLETE (R528 to R532, R536, R542): the domain is in retention or off; accesses that waited for the entry are first accesses, a held command
is judged, and the wake inputs are. [log 34 DEDUCED] -/
def State.entryDone (s : State) (n : Nat) : State :=
  if s.dev.domState n ≠ 3 then s
  else
    let before := s.dev.relay
    let x := s.dev.dom n
    let s := if x.target = 2 then s.domainDown n else s
    let d := s.dev.setF (Obj.domainState n) 0 3 x.target
    let d := if n = 180 then d.setBit (Obj.domainState n) 3 true else d
    let d := d.setF (Obj.domainState n) 8 5 0
    let d := d.updDom n (fun y => { y with wakeAfter := false, waiters := [] })
    let d := match domDie n with | some k => d.coreRail k | none => d
    let d := d.relayMoved before
    let d := x.waiters.foldl (fun (d : Dev) a => if d.domState n = 4 then d else d.firstAccess n a) d
    let d := d.heldCommand n
    let d := if x.wakeAfter = true ∧ (d.domState n = 1 ∨ d.domState n = 2) then d.wake n else d
    { s with dev := d.levelWakes n }

/-- Whether what domain `n` depends on is on (R533): its rail, IOD0 base, and on IOD1 that base. -/
def Dev.wakeReady (s : Dev) (n : Nat) : Bool :=
  (n == 179 || s.domOn 179) && (!onIod1 n || s.domOn 180) && (match domDie n with | some d => s.getF (Obj.railState d) 0 2 == 2 | none => true) &&
  (n != 179 || ([4, 5, 6, 7, 8, 9] : List Nat).all (fun r => s.getF (Obj.railState r) 0 2 == 2))

/-- The slots of a cluster leave the silted state as their passes end (R539): those that failed stay in it, and are unit faults. -/
def Dev.slotsPassed (s : Dev) (c : Nat) (failed : List Nat) : Dev :=
  let s := s.each 17 (fun k s => { s with silted := Tab.put false s.silted (c * 17 + k) (Tab.get false s.silted (c * 17 + k) && failed.contains k) })
  s.each 16 (fun u s => if failed.contains (s.slotOf (c * 16 + u)) then s.detect 0x03 (.unit (c * 16 + u)) (s.slotOf (c * 16 + u)) else s)

/-- What a domain's wake from off re-initialises (R162, R285, R537, R538). -/
def State.domainFresh (s : State) (n : Nat) : State :=
  if n < 128 then { s with dev := s.dev.clusterForget n }.clearPad n
  else if 132 ≤ n ∧ n < 136 then { s with dev := s.dev.dieForget (n - 132) }
  else if 128 ≤ n ∧ n < 132 then { s with dev := if s.dev.mereArrays (n - 128) = [] then s.dev else s.dev.wipeDie (n - 128) 3 }
  else if 136 ≤ n ∧ n < 172 then { s with dev := s.dev.portForget (n - 136) }
  else s

/-- The wake of a domain other than IOD0 base is complete (R534, R537 to R539). [log 34 DEDUCED, 43 DESIGN CHOICE] -/
def State.wakeDone (s : State) (n : Nat) (failed : List Nat) : State :=
  let before := s.dev.relay
  let x := s.dev.dom n
  let s := if x.source = 2 then s.domainFresh n else s
  let d := s.dev.setF (Obj.domainState n) 0 3 0
  let d := if x.byAccess then d.bump (Obj.wakesOnAccess n) else d
  let d := d.updDom n (fun y => { y with byAccess := false, source := 0 })
  let d := if n < 128 then d.slotsPassed n (if x.source = 1 then failed else []) else if n = 172 then d.gddrUp else d
  { s with dev := (d.relayMoved before).heldCommand n }

/-! ### Pads (R536) -/

/-- A PadRelease that passed the checks of R469. -/
def Dev.padRelease (s : Dev) (q : Requester) (n : Nat) : Dev :=
  if s.domState n ≠ 0 then s.refuse q .state else (s.setBit (Obj.domainState n) 3 false).accept q

/-! ### The commands -/

/-- A DomainCommand by `q`. -/
def State.domainAsked (s : State) (q : Requester) (n code : Nat) : Host.Outcome State Fault Refusal :=
  s.asked q (Obj.domainCommand n) code (fun d => d.domainCommand q n code)

/-- DOMAIN_ON (R533). -/
def execDomainOn (q : Requester) (n : Fin 181) (s : State) : Host.Outcome State Fault Refusal := s.domainAsked q n.val 1

/-- DOMAIN_RETENTION (R525). -/
def execDomainRetention (q : Requester) (n : Fin 181) (s : State) : Host.Outcome State Fault Refusal := s.domainAsked q n.val 2

/-- DOMAIN_OFF (R526). -/
def execDomainOff (q : Requester) (n : Fin 181) (s : State) : Host.Outcome State Fault Refusal := s.domainAsked q n.val 3

/-- FIRST_ACCESS (R534). -/
def execFirstAccess (n : Fin 181) (who : Accessor) (write : Bool) (master : Option (Fin 9 × Fin 4096)) (addr : BitVec 32) (s : State) :
    Host.Outcome State Fault Refusal :=
  s.run (fun d => d.access n.val (who, write, (match master with | some m => m.1.val + 1 | none => 0), (match master with | some m => m.2.val | none => 0), addr.toNat))

/-- WAKE_INPUT (R540): it acts in the AON domain. -/
def execWakeInput (i : Fin 4) (level : Bool) (s : State) : Host.Outcome State Fault Refusal := s.act (fun d => d.wakeInput i.val level)

/-- WAKE_STUCK (R541). -/
def execWakeStuck (i : Fin 4) (s : State) : Host.Outcome State Fault Refusal := s.act (fun d => d.wakeStuck i.val)

/-- PAD_RELEASE (R536). -/
def execPadRelease (q : Requester) (n : Fin 181) (s : State) : Host.Outcome State Fault Refusal :=
  s.asked q (Obj.padRelease n.val) 1 (fun d => d.padRelease q n.val)

/-- RAIL_POWER_GOOD (R542). -/
def execRailPowerGood (r : Fin 10) (s : State) : Host.Outcome State Fault Refusal := s.act (fun d => d.railGood r.val)

/-- RAIL_TIMEOUT (R542). -/
def execRailTimeout (r : Fin 10) (s : State) : Host.Outcome State Fault Refusal := s.act (fun d => d.railTimeout r.val)

/-- RAIL_READING (R544). -/
def execRailReading (r : Fin 10) (reading : Option (BitVec 16 × BitVec 32)) (s : State) : Host.Outcome State Fault Refusal :=
  s.act (fun d => d.railReading r.val (reading.map (fun x => (x.1.toNat, x.2.toNat))))

/-- WAKE_CONTROL_WRITE (R541). -/
def execWakeControlWrite (q : Requester) (i : Fin 4) (v : BitVec 32) (s : State) : Host.Outcome State Fault Refusal :=
  s.asked q (Obj.wakeControl i.val) v.toNat (fun d => d.wakeControlWrite q i.val v.toNat)

end Sys2Proof.Machine
end

