-- ==== Sys2Proof/Machine/Sediment.lean ====
section
/-! DEFINITION. The Sediment recorder (R577 to R586): histograms, the record, commits, and what boot makes of the MRAM. -/

namespace Sys2Proof.Machine

open Sys2Proof

/-! ### The record (R582) -/

/-- The length of a record. -/
def sedBytes : Nat := 5392

/-- Whether a copy checks (R585): its Magic, its Version and its digest. -/
def copyGood (b : List Byte) : Bool :=
  b.length == sedBytes && leAt b 0 4 == 0x4D444553 && leAt b 4 2 == 0x0100 && bytesAt b 0x14F0 32 == sha3 (b.take 0x14F0)

/-- The content of a copy. [log 12 PRESUMED] -/
def Dev.mramCopy (s : Dev) (c : Nat) : List Byte := if c = 0 then s.mram0 else s.mram1

/-- The copy that holds the latest valid record (R586). -/
def Dev.copyInUse (s : Dev) : Nat := s.getF Obj.sedimentState 3 1

/-- The latest valid record; empty where there is none. -/
def Dev.sedLatest (s : Dev) : List Byte := let b := s.mramCopy s.copyInUse; if copyGood b then b else []

/-- The least or the greatest I32, which an extreme holds before its first sample (R581): MinVoltage is the one least. -/
def extremeLeast (i : Nat) : Bool := decide (6 ≤ i) && decide (i < 16)

/-- An extreme of the record to be written (R581, R584): the latest record's entry, or the accumulator's where that lies strictly beyond it. -/
def sedExtremeBytes (base : List Byte) (a : Sed) (i : Nat) : List Byte :=
  let off := 0x1100 + 16 * i
  let least := extremeLeast i
  let old : Int × Nat := if base = [] then (if least then 2 ^ 31 - 1 else -(2 ^ 31), 0) else (signed 32 (leAt base off 4), leAt base (off + 8) 8)
  let new : Int × Nat := match Tab.get none a.extremes off with
    | some x => if (if least then decide (x.1 < old.1) else decide (old.1 < x.1)) then x else old
    | none => old
  leBytes 4 (unsigned 32 new.1) ++ zeros 4 ++ leBytes 8 new.2

/-- A count of the record to be written: the latest record's and the accumulator's together, saturating (R580, R584). -/
def sedCountBytes (base : List Byte) (a : Sed) (off : Nat) : List Byte := leBytes 4 (satAdd 32 (leAt base off 4) (Tab.get 0 a.counts off))

/-- `n` counts from offset `off`. -/
def sedCountsBytes (base : List Byte) (a : Sed) (off n : Nat) : List Byte := (List.range n).flatMap (fun i => sedCountBytes base a (off + 4 * i))

/-- The record that a commit writes (R582, R584): the last valid record merged with the accumulator `a` just retired. [log 98 DEDUCED] -/
def Dev.sedRecord (s : Dev) (a : Sed) (reason : Nat) : List Byte :=
  let base := s.sedLatest
  let flags := b2n s.sedFuse + 2 * b2n (s.bit Obj.timeStatus 7) + 4 * b2n (s.bit Obj.timeStatus 4)
  let body := leBytes 4 0x4D444553 ++ leBytes 2 0x0100 ++ leBytes 1 (if base = [] then 0 else 1 - s.copyInUse) ++ leBytes 1 reason ++
    leBytes 4 (leAt base 8 4 + 1) ++ leBytes 4 sedBytes ++ leBytes 8 s.powerOn ++ leBytes 10 (t80 s.dt) ++ leBytes 1 flags ++ zeros 1 ++
    sedCountsBytes base a 0x24 3 ++ zeros 16 ++ sedCountsBytes base a 0x40 1072 ++ (List.range 54).flatMap (sedExtremeBytes base a) ++
    sedCountsBytes base a 0x1460 36
  body ++ sha3 body

/-! ### Commits (R583, R584) -/

/-- A commit falls due: it starts, the two accumulators exchanging roles, or is held while another runs. -/
def Dev.commitDue (s : Dev) (reason : Nat) : Dev :=
  if s.bit Obj.sedimentState 0 then s.setBit Obj.sedimentState 1 true
  else
    let a := s.sedLive
    let rec_ := s.sedRecord a reason
    ({ s with sedLive := s.sedShadow, sedShadow := a, commitReason := reason, commitF := s.f, commitBytes := rec_ } : Dev).setBit Obj.sedimentState 0 true

/-- The commit in progress completes (R584): its copy holds the latest valid record, and the retired accumulator is cleared. -/
def Dev.commitDone (s : Dev) : Dev :=
  if s.bit Obj.sedimentState 0 then
    let b := s.commitBytes
    let c := leAt b 6 1
    let s := if c = 0 then { s with mram0 := b } else { s with mram1 := b }
    let s := { s with sedShadow := {}, commitBytes := [] }
    let s := (((s.setBit Obj.sedimentState 0 false).setF Obj.sedimentState 3 1 c).wr Obj.sedimentEpoch (leAt b 8 4)).wr Obj.lastCommitTime (leAt b 0x18 10)
    s.bump Obj.commitsDone
  else s

/-- COMMIT_COMPLETE (R583): a commit that was held then starts, outside a freeze. -/
def Dev.commitComplete (s : Dev) : Dev :=
  let s := s.commitDone
  if s.bit Obj.sedimentState 1 && !s.frozen then (s.setBit Obj.sedimentState 1 false).commitDue 1 else s

/-- The commit of an orderly shutdown, whole (R526, R583): one in progress ends first. -/
def Dev.commitOrderly (s : Dev) : Dev := ((s.commitDone.setBit Obj.sedimentState 1 false).commitDue 2).commitDone

/-! ### The 1 Hz tick (R579) -/

/-- The bin of a Tj in 1/128 °C. -/
def tjBin (t : Int) : Nat := if t < -5120 then 0 else if 14080 ≤ t then 31 else 1 + ((t + 5120) / 640).toNat

/-- The bin of a rail's reading against its nominal value. -/
def railBin (mv n : Nat) : Nat :=
  let x : Int := ((mv : Int) - n) * 1000
  let k := (x + 75 * n) / (5 * n)
  if k < 0 then 0 else if 30 ≤ k then 31 else 1 + k.toNat

/-- The class of an event rate, from the events of one second. -/
def rateClass (events : Nat) : Nat := (([1, 10, 50, 100, 200, 400, 700] : List Nat).filter (fun m => decide (m * 1000000 ≤ events))).length

/-- Whether die `d` (4 and 5 the I/O dies) is a source at the tick. -/
def Dev.dieOn (s : Dev) (d : Nat) : Bool := if d < 4 then s.getF (Obj.railState d) 0 2 == 2 && s.tjSeen d else d == 4 || s.domState 180 == 0

/-- One second to a bin of each row whose source is present (R579). [log 98 DEDUCED] -/
def Dev.sedSecond (s : Dev) : Dev :=
  let s := s.each 6 (fun d s => if s.dieOn d then s.sedCount (0x40 + 4 * (32 * d + tjBin (s.rdI (Obj.dieTemperature d)))) else s)
  let s := s.each 10 (fun r s =>
    let mv := s.getF (Obj.railState r) 16 16
    if s.getF (Obj.railState r) 0 2 = 2 ∧ mv ≠ 0 then s.sedCount (0x340 + 4 * (32 * r + railBin mv (s.railNominal r))) else s)
  let s := s.each 4 (fun d s =>
    if s.getF (Obj.railState d) 0 2 = 2 then s.sedCount (0x840 + 4 * (32 * d + min 31 (s.rd (Obj.paceMeasured d) / 32 - 12))) else s)
  s.each 36 (fun n s =>
    let now := s.rd (stCtr n 0)
    let was := Tab.get 0 s.rateSeen n
    let s := { s with rateSeen := Tab.put 0 s.rateSeen n now }
    if s.stState n = 5 then s.sedCount (0xA40 + 4 * (8 * n + rateClass (now - was))) else s)

/-- SEDIMENT_TICK (R579, R583): a second of the AON counter has begun. Frozen time counts, but the recorder itself is then gated: its commit
waits for the resumption (R594). [log 98 DEDUCED] -/
def Dev.sedTick (s : Dev) : Dev :=
  if s.sedTickAon / 32768 < s.aon / 32768 then
    let s := { s with sedTickAon := s.aon, powerOn := s.powerOn + 1 }
    let s := s.wr Obj.powerOnHours (s.powerOn / 3600)
    let s := if s.frozen then s else s.sedSecond
    if s.powerOn % 600 ≠ 0 then s else if s.frozen then s.setBit Obj.sedimentState 1 true else s.commitDue 1
  else s

/-! ### Boot (R585) -/

/-- The recorder at boot: the valid copy of highest Epoch, a loss without an orderly commit counted; without a valid copy a record of zeros and the
fuse. [log 12 PRESUMED] -/
def Dev.sedBoot (s : Dev) : Dev :=
  let g0 := copyGood s.mram0
  let g1 := copyGood s.mram1
  let use1 := g1 && (!g0 || decide (leAt s.mram0 8 4 < leAt s.mram1 8 4))
  let s := if g0 || g1 then s else { s with sedFuse := true }
  let b := if use1 then s.mram1 else if g0 then s.mram0 else []
  let s := { s with powerOn := leAt b 0x10 8, sedLive := {}, sedShadow := {}, commitBytes := [], sedTickAon := s.aon }
  let s := if b ≠ [] ∧ leAt b 7 1 ≠ 2 then s.sedCount 0x28 else s
  let s := ((s.wr Obj.sedimentState (4 * b2n s.sedFuse + 8 * b2n use1 + 16 * b2n ((g0 || g1) && !(g0 && g1)))).wr Obj.sedimentEpoch (leAt b 8 4))
  s.wr Obj.powerOnHours (s.powerOn / 3600)

/-! ### The commands -/

/-- SEDIMENT_TICK (R579). -/
def execSedimentTick (s : State) : Host.Outcome State Fault Refusal := s.act (fun d => if d.domOn 179 && !d.stopped then d.sedTick else d)

/-- COMMIT_COMPLETE (R584): a commit in progress completes even during a freeze (R587). -/
def execCommitComplete (s : State) : Host.Outcome State Fault Refusal := s.act (fun d => if d.domOn 179 && !d.stopped then d.commitComplete else d)

end Sys2Proof.Machine
end

