-- ==== Sys2Proof/Machine/Still.lean ====
section
/-! DEFINITION. The STILL freeze (R587 to R594): taking it, the rim's holds, resumption, and the read-out ring. What is held is released in
Machine/Release.lean. -/

namespace Sys2Proof.Machine

open Sys2Proof

/-! ### The freeze (R587 to R589) -/

/-- STILL_N is taken (R587): RimFreeze is latched; a freeze in a resumption starts from the state then reached (R594), and one that holds the boot chain
says so. [log 100 DEDUCED] -/
def Dev.freeze (s : Dev) : Dev :=
  if s.frozen || s.stopped then s
  else
    let s := { s with frozen := true, freezeF := s.f, resumeF := 0 }
    let s := ((s.setBit Obj.freezeState 2 (s.bit Obj.freezeControl 0)).setF Obj.freezeState 0 2 0).setBit Obj.freezeState 3 s.bootWait
    (s.wrT Obj.lastFreezeStart s.dt).bump Obj.freezes

/-- STILL_ACK rises (R588). -/
def Dev.freezeAck (s : Dev) : Dev :=
  if s.frozen && !s.stillAck then ({ s with stillAck := true } : Dev).setF Obj.freezeState 16 16 (min 0xFFFF ((s.f - s.freezeF) / 1000)) else s

/-- A held request of 50 ms is discarded (R589): a mailbox shows FROZEN once the device resumes. A PCIe memory read completes with all ones. [log 100 DEDUCED] -/
def Dev.rimDiscard (s : Dev) (r : Request) : Dev :=
  if r.op = windowReadOp then s.completed r (List.replicate (ofLe r.data) 0xFF)
  else
    let s := s.bump Obj.rimDiscards
    match r.q with
    | .mailbox _ _ => if r.op = windowOp then s else { s with discarded := s.discarded ++ [r] }
    | _ => s

/-- RIM_HOLD_EXPIRY (R589). [log 100 DEDUCED] -/
def Dev.rimExpiry (s : Dev) : Dev :=
  if s.frozen then
    let old (t : Nat) : Bool := decide (t + 50000000 ≤ s.f)
    let rs := (s.held.filter (fun x => x.domain == rimDomain && old x.sinceF)).map (·.req)
    let n := (s.rimFrames.filter (fun x => old x.1)).length
    let s := { s with held := s.held.filter (fun (x : Held) => !(x.domain == rimDomain && old x.sinceF)),
                      rimFrames := s.rimFrames.filter (fun (x : Nat × Instr) => !old x.1) }
    (rs.foldl (fun (s : Dev) r => s.rimDiscard r) s).bumpBy Obj.rimDiscards n
  else s

/-! ### Resumption (R590, R591, R594) -/

/-- The clocked domains are ungated and the handshakes released (R594): the freeze ends here, and frozen time with it. -/
def Dev.thaw (s : Dev) : Dev :=
  let ns := s.f - s.freezeF
  let s := { s with frozen := false, resumeF := s.f + 1, freezes := s.freezes ++ [(s.freezeF, s.f)], frozenNs := s.frozenNs + ns }
  (s.wr Obj.lastFreezeDuration ns).setF Obj.freezeState 0 2 2

/-- A gated rim's links have failed (R590): each host port acts under R431 and R433, each sensor link under R129. -/
def State.rimFailed (s : State) : State :=
  if s.dev.bit Obj.freezeState 2 then
    let s := loop 4 (fun h (s : State) => s.linkDown h 0) s
    { s with dev := s.dev.each 36 (fun n d => d.linkGone n 0) }
  else s

/-- An SDO transfer that the freeze found open is aborted with 0x0606_0000 (R589). -/
def Dev.sdoAborted (s : Dev) (c : Fin 2) : Dev :=
  match s.transferOf (.can c) with
  | some _ => (s.abandonOf (.can c)).sdoAbort (.can c) .frozen
  | none => s

/-- Mailbox requests that the rim discarded show FROZEN (R589). -/
def Dev.showFrozen (s : Dev) : Dev :=
  let rs := s.discarded
  rs.foldl (fun (s : Dev) r => s.refuse r.q .frozen) { s with discarded := [] }

/-- The longest freeze of which a sweep interval takes no notice: 1 ms beyond the nominal 30 ms (R161, R162). [log 100 DEDUCED] -/
def sweepSlack : Nat := 1000000

/-- What resumption does as it completes (R594): STILL_ACK falls; surfaces, instants, triggers and the recorder meet the frozen time. [log 100 DEDUCED] -/
def State.resumed (s : State) : State :=
  let d := s.dev
  let ns := d.rd Obj.lastFreezeDuration
  let d := ({ d with stillAck := false, resumeF := 0, reconvert := .step } : Dev).setF Obj.freezeState 0 2 0
  let d := (d.sedCount 0x2C).sedExtreme (0x1100 + 16 * 53) false ((ns / 1000000 : Nat) : Int)
  let d := if d.bit Obj.sedimentState 1 && !d.bit Obj.sedimentState 0 then (d.setBit Obj.sedimentState 1 false).commitDue 1 else d
  let d := if sweepSlack < ns then d.wipeAll 3 else d
  ({ s with dev := d.showFrozen } : State).fusionStepped

/-! ### Read-out (R592, R593) -/

/-- What a ring address names (R592): nothing, a secret block, or a block anyone with the scope may read. -/
inductive RingWord where
  | absent
  | secret
  | plain
  deriving DecidableEq, Repr

/-- The kind of the word `w` of block `b` on ring die `d`. [log 99 DESIGN CHOICE] -/
def ringKind (d b w : Nat) : RingWord :=
  let in_ (n : Nat) (k : RingWord) : RingWord := if w < n then k else .absent
  if d < 4 then
    (if b < 0x20 then in_ 131072 .secret
     else if b < 0x40 then in_ (17 * 2048) .secret
     else if b < 0x60 then in_ 1024 .secret
     else if b = 0x60 then in_ (64 * 32768) .secret
     else if b = 0x61 then in_ 8192 .plain
     else if b = 0x62 then in_ 256 .plain
     else if b = 0x63 then in_ 65536 .plain
     else .absent)
  else if d < 6 then
    (if 0x100 ≤ b ∧ b < 0x112 then in_ 65536 .secret
     else if b = 0x120 then in_ 256 .plain
     else if b = 0x121 ∧ d = 5 then in_ 4194304 .secret
     else if b = 0x122 ∧ d = 4 then in_ 32768 .plain
     else if b = 0x123 ∧ d = 4 then in_ 131072 .secret
     else if b = 0x124 ∧ d = 4 then in_ 32768 .plain
     else .absent)
  else .absent

/-- Word `w` of bank `b` of the Mere of die `d` (R159): a block has one word in each bank, so the words of a bank are its blocks in order. [log 55 DEDUCED] -/
def Dev.mereWord (s : Dev) (d b w : Nat) : Nat :=
  ((List.range 4).map (fun k => s.cell (mereKey d w (b / 8 * 32 + b % 8 * 4 + k)) * 2 ^ (16 * k))).sum

/-- The stored data bits of a word whose place the spec gives: scratchpads (R272), Mere (R159), weir state records (R338), the MRAM (R577); none where the
arrangement inside the block is not stated. [log 99 DESIGN CHOICE] -/
def State.ringData (s : State) (d b w : Nat) : Option Nat :=
  if d < 4 ∧ b < 0x20 then some (ofLe (Memory.read s.mem.pad ((d * 32 + b) * 2 ^ 20 + 8 * w) 8))
  else if d < 4 ∧ b = 0x60 then some (s.dev.mereWord d (w / 32768) (w % 32768))
  else if d < 4 ∧ b = 0x61 then some (leAt (s.dev.weirRecord (d * 4096 + w / 2)) (8 * (w % 2)) 8)
  else if d = 4 ∧ b = 0x122 then
    some (if w < 8192 then leAt s.dev.mram0 (8 * w) 8 else if w < 16384 then leAt s.dev.mram1 (8 * (w - 8192)) 8 else 0)
  else none

/-- Whether the words of a block carry check bits (R272, R292, R577); of the blocks below the spec states none for the others. [log 99 DESIGN CHOICE] -/
def ringChecked (d b : Nat) : Bool := (decide (d < 4) && (decide (b < 0x20) || (decide (0x40 ≤ b) && decide (b ≤ 0x60)))) || (d == 4 && b == 0x122)

/-- The check bits stored with data bits `data` of word `w` of bank `b` (R273): zero beside the zero word; `free` where the spec gives no code, or where the
stored word is in error. [log 99 DESIGN CHOICE] -/
def State.ringCheck (s : State) (d b w data free : Nat) : Nat :=
  if d < 4 ∧ b < 0x20 then
    (if Tab.get false s.mem.padBad (padWordKey (d * 32 + b) (8 * w)) then free % 2 ^ 8 else if data = 0 then 0 else Config.checkBits data % 2 ^ 8)
  else if ringChecked d b then free % 2 ^ 8 else 0

/-- The 96 bits of READOUT_DATA at an address (R592, R593), and the state after the open values among them have been drawn: the code's check bits,
and the data and tag whose place in the block is not stated. [log 99 DESIGN CHOICE] -/
def State.ringRead (s : State) (a : Nat) : State × Nat :=
  let d := field a 37 3
  let b := field a 28 9
  let w := field a 0 28
  if !s.dev.stillAck then (s, 2 ^ 83)
  else match ringKind d b w with
    | .absent => (s, 2 ^ 84)
    | k =>
      if k = .secret ∧ s.dev.bit Obj.securityState 10 = false then (s, 2 ^ 82)
      else
        let x := s.dev.open_
        let s' : State := { s with dev := s.dev.drawn }
        let data := (s.ringData d b w).getD (x % 2 ^ 64)
        let check := s.ringCheck d b w data (x / 2 ^ 64)
        let tag := if d < 4 ∧ 0x40 ≤ b ∧ b < 0x60 then x / 2 ^ 72 % 2 ^ 10 else 0
        (s', data + check * 2 ^ 64 + tag * 2 ^ 72)

/-- READOUT_DATA (R592): a Capture-DR reads the addressed word and advances the address; `addr`, when given, is what READOUT_ADDR loaded just before.
Without the Readout scope the instruction acts as BYPASS. -/
def State.readout (s : State) (addr : Option Nat) : State :=
  if s.dev.bit Obj.securityState 9 then
    let a := addr.getD s.dev.tapAddr
    let r := s.ringRead a
    { r.1 with dev := ({ r.1.dev with tapAddr := (a + 1) % 2 ^ 40 } : Dev).emit (.tap r.2) }
  else s

/-! ### The commands -/

/-- STILL_FREEZE (R587). -/
def execStillFreeze (s : State) : Host.Outcome State Fault Refusal := s.act Dev.freeze

/-- FREEZE_ACK (R588). -/
def execFreezeAck (s : State) : Host.Outcome State Fault Refusal := s.act Dev.freezeAck

/-- RIM_HOLD_EXPIRY (R589). -/
def execRimHoldExpiry (s : State) : Host.Outcome State Fault Refusal := s.act Dev.rimExpiry

/-- READOUT_DATA (R592): the TAP is never gated. -/
def execReadoutData (addr : Option (BitVec 40)) (s : State) : Host.Outcome State Fault Refusal :=
  .next (if s.dev.alive then ({ s with dev := s.dev.fresh } : State).readout (addr.map (·.toNat)) else s)

end Sys2Proof.Machine
end

