-- ==== Sys2Proof/Machine/Package.lean ====
section
/-! DEFINITION. Reset, straps, supplies and temperature (R526, R527, R607 to R617): power-on and warm reset, the boot chain's start, the
turn-off of IOD0 base, the loss of the supplies, the Tj readings, and ALERT_N. -/

namespace Sys2Proof.Machine

open Sys2Proof

/-! ### Straps (R429, R610) -/

/-- The straps are sampled: StrapValues, and the host ports they make. H0 and H2 always exist; a bifurcated endpoint has two narrow ports. [log 27 DEDUCED] -/
def Dev.strapPorts (s : Dev) (v : Nat) : Dev :=
  (s.wr Obj.strapValues v).each 4 (fun h s =>
    let split := v.testBit (h / 2)
    (s.setBit (Obj.attachState h) 3 (h % 2 == 0 || split)).setBit (Obj.attachState h) 4 split)

/-! ### What outlives a reset (R577, R607) -/

/-- The Sediment MRAM, the fuses, the boot flash and the crystal oscillator, with every other part in its reset state. The number of open values
drawn is kept with them. [log 4 DESIGN CHOICE, 28 DEDUCED] -/
def Dev.partKept (s : Dev) : Dev :=
  { mram0 := s.mram0, mram1 := s.mram1, sedFuse := s.sedFuse, free := s.free, aonPhase := s.aonPhase,
    dict := s.dict.filter (fun x => x.1 / 256 == 0x9001),
    blobs := s.blobs.filter (fun x => x.1 / 256 == 0x9040 || x.1 == 0x901100) }

/-- The latch of the last thermal shutdown, which only a loss of VDD_AON clears (R617, R620). -/
def Dev.tripLatch (s : Dev) : Nat := s.getF Obj.thermalStatus 6 4 * 2 ^ 6

/-- The boot chain runs, the paths of F are calibrated (R79), and the transports open (R490); recovery asserts ALERT_N, which stays until a power-on reset whose boot needs none
(R494, R614). -/
def Dev.boot (s : Dev) : Dev :=
  let s := ((({ s with bootWait := false } : Dev).bootChain s.pufOk).gddrUp).calibrate [0, 1, 2, 3, 5]
  { s with alertRecovery := s.alertRecovery || s.bit Obj.securityState 2 }

/-! ### Resets (R594, R607, R609, R617) -/

/-- POWER_ON_RESET (R607, R610, R617): PORST_N is released with straps `v`. `still` says that STILL_N is low then, which holds the boot ROM with the
freeze (R594); `cool` that every die reads below 95 °C, without which it waits (R617). [log 27 DEDUCED, 28 DEDUCED] -/
def State.powerOnReset (s : State) (v : Nat) (puf still cool : Bool) : State :=
  let d := s.dev.partKept
  let d := (d.wr Obj.thermalStatus s.dev.tripLatch).strapPorts v
  let d := (d.sedBoot.sedCount 0x24).marchAll
  let d := { d with bootWait := true, pufOk := puf, hotDies := if cool then 0 else 63 }
  let d := if still then d.freeze else if cool then d.boot else d
  { dev := d, mem := {}, pending := s.pending }

/-- LOSS_OF_SUPPLIES (R608, R620): everything but the MRAM, the fuses and the flash is gone until the next power-on reset. [log 28 DEDUCED] -/
def State.suppliesLost (s : State) : State :=
  { dev := { s.dev.partKept with alive := false, aonPhase := 0 }, mem := {}, pending := s.pending }

/-- Whether a dictionary object belongs to the time base (R529, R609): 0x3000 to 0x303F. [log 29 DEDUCED] -/
def timeBaseKey (key : Nat) : Bool := decide (0x300000 ≤ key) && decide (key < 0x304000)

/-- The objects that a warm reset keeps (R609): the time base, the rails and their targets, the thermal latches, and Sediment's state. [log 29 DEDUCED] -/
def warmKeeps (key : Nat) : Bool :=
  let i := key / 256
  timeBaseKey key || i == 0x2020 || i == 0x2801 || i == 0x2041 || i == 0x2042 || i == 0x9001 ||
    key == (Obj.sedimentState).key || key == (Obj.sedimentEpoch).key || key == (Obj.powerOnHours).key

/-- The device with its time base, rails, repairs and recorder, and every other part in its reset state (R609). [log 29 DEDUCED] -/
def Dev.warmKept (s : Dev) : Dev :=
  { s.partKept with
    dict := s.dict.filter (fun x => warmKeeps x.1)
    f := s.f, aon := s.aon, f0 := s.f0, a0 := s.a0, unbridged := s.unbridged, holdoverF := s.holdoverF, cmpFromF := s.cmpFromF, lockRun := s.lockRun,
    unitMap := s.unitMap, spareBits := s.spareBits, sedLive := s.sedLive, sedShadow := s.sedShadow, powerOn := s.powerOn,
    failedFirst := s.failedFirst, moved := s.moved, filled := s.filled, commitReason := s.commitReason, sedTickAon := s.sedTickAon, commitF := s.commitF, commitBytes := s.commitBytes, alertFault := false,
    alertRecovery := s.alertRecovery, tjLast := s.tjLast, rails := s.rails,
    paces := s.paces.map (fun x => (x.1, ({ volt := x.2.volt, changeF := x.2.changeF, asked := x.2.asked, measWin := x.2.measWin } : Pace))), wakeIns := s.wakeIns,
    frozenNs := s.frozenNs + (if s.frozen then s.f - s.freezeF else 0) }

/-- What outlives a reset or an off state until PORST_N: the soft repairs and spare-slot maps, as ClusterHealth and MarchStatus show them (R291, R529,
R568, R575, R609), and the failed GDDR6 channels (R332). [log 29 DEDUCED] -/
def Dev.repairsKept (s old : Dev) : Dev :=
  let s := s.each 8 (fun k s => if old.chanFailed k then
    (s.setF (Obj.gddrChannelState k) 0 2 2).setF (Obj.gddrChannelState k) 16 8 (old.getF (Obj.gddrChannelState k) 16 8) else s)
  s.each 128 (fun c s => (s.setF (Obj.clusterHealth c) 2 23 (old.getF (Obj.clusterHealth c) 2 23)).setF (Obj.marchStatus c) 16 16 (old.getF (Obj.marchStatus c) 16 16))

/-- Domains that stay off in a warm reset: those that a VDD_CORE rail which is not on would feed; rails are kept. [log 29 DEDUCED] -/
def Dev.unfedOff (s : Dev) : Dev :=
  s.each 136 (fun n s => match domDie n with
    | some d => if s.getF (Obj.railState d) 0 2 = 2 then s else s.setF (Obj.domainState n) 0 3 2
    | none => s)

/-- WARM_RESET (R609): a warm reset ends a freeze and runs the boot chain again. IOD0 base that is off wakes on no warm reset (R527). [log 29 DEDUCED] -/
def State.warmReset (s : State) (puf : Bool) : State :=
  if s.dev.domOn 179 = false ∨ s.dev.stopped = true then s
  else
    let d := (s.dev.warmKept.repairsKept s.dev).unfedOff
    let d := (d.strapPorts (s.dev.rd Obj.strapValues)).each 4 (fun k d =>
      (if (s.dev.pace k).changeF = 0 then d else d.setF (Obj.paceStatus k) 16 2 (s.dev.getF (Obj.paceStatus k) 16 2)).paceShow k)
    { dev := ({ d with pufOk := puf } : Dev).boot, mem := {}, pending := s.pending }

/-! ### Temperature (R67, R616, R617) -/

/-- Thermal shutdown by die `d` (R617): every rail but VDD_AON goes off in the reverse of the order of R606, and the device stays off. [log 31 DEDUCED] -/
def Dev.thermalTrip (s : Dev) (d : Nat) : Dev :=
  let s := (s.setBit Obj.thermalStatus 6 true).setF Obj.thermalStatus 7 3 d
  let s := ([0, 1, 2, 3, 7, 8, 6, 5, 4, 9] : List Nat).foldl (fun (s : Dev) r => (s.setF (Obj.railState r) 0 2 0).emit (.pmbus r false)) s
  { s with thermtrip := true, alive := false }

/-- The AboveLimit bits after a reading of die `d` (R616): set outside −40 °C to 105 °C, and all cleared once every die lies within
−38 °C to 100 °C. -/
def Dev.aboveLimit (s : Dev) (d : Nat) (t : Int) : Dev :=
  if t < -5120 ∨ 13440 ≤ t then s.setBit Obj.thermalStatus d true
  else if (List.range 6).all (fun k => decide (-4864 ≤ Tab.get 0 s.tjLast k) && decide (Tab.get 0 s.tjLast k ≤ 12800)) then s.setF Obj.thermalStatus 0 6 0
  else s

/-- A die that has read below 95 °C no longer holds the boot ROM (R617); the last one lets it run. -/
def Dev.cooled (s : Dev) (d : Nat) (t : Int) : Dev :=
  let s := if t < 12160 then { s with hotDies := setField s.hotDies d 1 0 } else s
  if s.bootWait && !s.frozen && s.resumeF == 0 && s.hotDies == 0 then s.boot else s

/-- TJ_READING (R616): Tj of die `d`, in 1/128 °C. [log 26 DESIGN CHOICE, 38 DEDUCED] -/
def Dev.tjReading (s : Dev) (d : Nat) (t : Int) : Dev :=
  let first : Bool := decide (d < 4) && !s.tjSeen d
  let s := (({ s with tjLast := Tab.put 0 s.tjLast d t } : Dev).wrI (Obj.dieTemperature d) t).sedExtreme (0x1100 + 16 * d) false t
  let s := s.aboveLimit d t
  if 14720 ≤ t then s.thermalTrip d
  else
    let s := if d < 4 then ((if first then (s.setF (Obj.paceStatus d) 8 8 (s.supportedAt d (s.presentVolt d))).paceRelease d else s.paceShow d).throttleStart d) else s
    s.cooled d t

/-! ### IOD0 base (R526, R527) -/

/-- IOD0_BASE_OFF (R526): 1 ms after the command was accepted, the orderly commit, the requester's endpoint, the GDDR6 array and IOD0 base; F and the
AON count are latched at the next AON edge (R88), and the rails go off (R542). [log 30 DEDUCED, 31 DEDUCED] -/
def State.baseDown (s : State) : State :=
  match s.dev.baseOff with
  | (p + 1, at_) =>
    if s.dev.domOn 179 = true ∧ at_ + 1000000 ≤ s.dev.f then
      let e := 2 * (p / 2)
      let s := ({ s with dev := s.dev.commitOrderly } : State)
      let s := (s.linkDown e 0).linkDown (e + 1) 0
      let d := ((s.dev.setF (Obj.domainState (endpointDomain p)) 0 3 2).setF (Obj.domainState 172) 0 3 2).setF (Obj.domainState 179) 0 3 2
      let d := { d.setBit (Obj.domainState 179) 3 true with entryWait := true, baseOff := (0, 0) }
      let d := ([7, 8, 6, 5, 4, 9] : List Nat).foldl (fun (d : Dev) r => (d.setF (Obj.railState r) 0 2 0).emit (.pmbus r false)) d
      { s with dev := d.levelWakes 179, mem := { s.mem with gddr := [], gddrBad := [], gddrErr := [] } }
    else s
  | (0, _) => s

/-- The objects that IOD0 base finds again as it wakes (R527, R529): the time base, the rails, the straps and the thermal latches. [log 30 DEDUCED] -/
def baseKeeps (key : Nat) : Bool :=
  let i := key / 256
  timeBaseKey key || i == 0x2020 || i == 0x2041 || i == 0x2042 || i == 0x9001

/-- IOD0 base has woken (R527): the boot chain runs from the ROM, every other domain stays off, and every object outside the time base holds its
default; latched pads stay latched (R536), and repairs hold (R529). [log 30 DEDUCED, 36 DEDUCED] -/
def State.baseWoken (s : State) (puf : Bool) : State :=
  let old := s.dev
  let d : Dev := { old.partKept with
    dict := old.dict.filter (fun x => baseKeeps x.1)
    f := old.f, aon := old.aon, f0 := old.f0, a0 := old.a0, unbridged := old.unbridged, holdoverF := old.holdoverF, cmpFromF := old.cmpFromF,
    unitMap := old.unitMap, spareBits := old.spareBits, failedFirst := old.failedFirst, moved := old.moved, filled := old.filled, alertRecovery := old.alertRecovery, tjLast := old.tjLast, rails := old.rails,
    wakeIns := old.wakeIns, frozenNs := old.frozenNs }
  let d := (d.strapPorts (old.rd Obj.strapValues)).repairsKept old
  let d := d.sedBoot
  let d := d.each 181 (fun n d =>
    (d.setF (Obj.domainState n) 0 3 (if n = 179 then 0 else 2)).setBit (Obj.domainState n) 3 (old.bit (Obj.domainState n) 3))
  { dev := ({ d with pufOk := puf } : Dev).boot, mem := {}, pending := s.pending }

/-! ### ALERT_N (R614) -/

/-- Whether ALERT_N is asserted: a cause holds among those of R103, R494, R541, R558, R565, R616 and R617. -/
def Dev.alertN (s : Dev) : Bool :=
  s.alertFault || s.alertRecovery || s.thermtrip || s.getF Obj.thermalStatus 0 6 != 0 ||
  (List.range 4).any (fun i => s.bit (Obj.wakeControl i) 3 && (s.bit (Obj.wakeStatus i) 1 || s.bit (Obj.wakeStatus i) 2)) ||
  (List.range 8).any (fun m => s.bit (Obj.capControl m) 25 && s.bit (Obj.capStatus m) 1)

/-! ### The commands -/

/-- POWER_ON_RESET (R607): it acts on a device in any condition. -/
def execPowerOnReset (straps : BitVec 8) (puf still cool : Bool) (s : State) : Host.Outcome State Fault Refusal :=
  .next (s.powerOnReset straps.toNat puf still cool)

/-- LOSS_OF_SUPPLIES (R608). -/
def execLossOfSupplies (s : State) : Host.Outcome State Fault Refusal := .next s.suppliesLost

/-- WARM_RESET (R609). -/
def execWarmReset (puf : Bool) (s : State) : Host.Outcome State Fault Refusal := .next (if s.dev.alive then s.warmReset puf else s)

/-- TJ_READING (R616). -/
def execTjReading (d : Fin 6) (t : BitVec 16) (s : State) : Host.Outcome State Fault Refusal := s.act (fun x => x.tjReading d.val t.toInt)

/-- IOD0_BASE_OFF (R526). -/
def execIod0BaseOff (s : State) : Host.Outcome State Fault Refusal := s.runM State.baseDown

end Sys2Proof.Machine
end

