-- ==== Sys2Proof/Machine/Live.lean ====
section
/-! DEFINITION. What the objects read as (R462, R466): the values that are formed where they are read, because they follow time, a queue or
the requester's session; every other object reads as its register. -/

namespace Sys2Proof.Machine

open Sys2Proof

/-! ### Loads (R622): counts over the last complete 1 ms, in 1/1024 of a capacity -/

/-- `n` in 1/1024 of `cap`, at most the greatest U16. [log 25 DESIGN CHOICE] -/
def share (n cap : Nat) : Nat := min 0xFFFF (n * 1024 / max 1 cap)

/-- A load of die `d` against `cap` per ms at RC, which scales with the effective pace (R59, R60). [log 25 DESIGN CHOICE] -/
def Dev.pacedShare (s : Dev) (d n cap : Nat) : Nat := min 0xFFFF (n * 1024 * 1024 / max 1 (cap * s.rd (Obj.paceMeasured d)))

/-- Bytes per ms and lane at the rate a link trained to (R430): 2.5 to 32 GT/s. [log 25 DESIGN CHOICE] -/
def laneBytes (speed : Nat) : Nat :=
  match speed with | 1 => 312500 | 2 => 625000 | 3 => 1000000 | 4 => 2000000 | 5 => 4000000 | _ => 0

/-- LinkLoad of port `h`. [log 25 DESIGN CHOICE, 103 DESIGN CHOICE] -/
def Dev.linkLoadNow (s : Dev) (h : Nat) : Nat :=
  share (s.metered (Obj.linkLoad h)) ((if s.bit (Obj.attachState h) 4 then 4 else 8) * laneBytes (s.getF (Obj.attachState h) 5 3))

/-! ### States formed where they are read -/

/-- DomainState with its SiltedUnits (R539, R546). -/
def Dev.domainStateNow (s : Dev) (n : Nat) : Nat :=
  let v := s.rd (Obj.domainState n)
  if n < 128 then setField v 8 5 ((List.range 17).filter (fun k => Tab.get false s.silted (n * 17 + k))).length else v

/-- AonSaveUsed (R529): the parts whose owners are off; a part that several domains share counts once any of them is off. [log 37 DEDUCED] -/
def Dev.aonUsed (s : Dev) : Nat :=
  let off (n : Nat) : Bool := s.domState n == 2
  ((List.range 128).filter off).length * 1024 + ((upFrom 132 4).filter off).length * 8192 + ((upFrom 136 36).filter off).length * 512 +
    (if off 173 || off 175 || off 177 then 16384 else 0) + (if off 180 || off 174 || off 176 || off 178 then 16384 else 0)

/-- StreamState with its Flooded and Dropping (R154). -/
def Dev.streamStateNow (s : Dev) (n : Nat) : Nat :=
  setField (setField (s.rd (Obj.streamState n)) 7 1 (b2n (s.flooded n))) 9 1 (b2n (s.dropping n))

/-- StaleAgeNow in µs (R145): saturated before the first gyro sample. [log 51 DEDUCED] -/
def Dev.staleNow (s : Dev) (n : Nat) : Nat :=
  match (s.str n).tg with
  | some t => satAdd 32 ((s.dt - t) / 1000).toNat 0
  | none => 0xFFFFFFFF

/-- The magnitude of a binary32 number in units of 2⁻⁶⁴. [log 51 DEDUCED] -/
def magFix (a : Nat) : Int := ((fval a).rat * 2 ^ 64).floor.natAbs

/-- AnchorAngle in µrad (R143): the angle of the stream's quaternion, rounded down. [log 51 DEDUCED] -/
def Dev.anchorNow (s : Dev) (n : Nat) : Nat :=
  let q := (s.str n).quat
  let x := magFix q.2.1
  let y := magFix q.2.2.1
  let z := magFix q.2.2.2
  let v : Int := (isqrt (x * x + y * y + z * z).toNat : Nat)
  (2 * atan2Fix v (magFix q.1) * 1000000 / 2 ^ 64).toNat % 2 ^ 32

/-- PopState (R188, R191, R214). -/
def Dev.popStateNow (s : Dev) (h : Nat) : Nat :=
  let v := s.rd (Obj.popState h)
  match s.popEntry h with
  | none => v
  | some e =>
    if !s.popRuns h then v
    else
      let short := (s.gating h e).filter (fun i => (s.pop h).clusters.any (fun x => !x.reached i x.tick))
      let waits : Bool := (s.pop h).clusters.any (fun x => decide (s.tickEnd h x.tick ≤ s.dt) && (s.gating h e).any (fun i => !x.reached i x.tick))
      let full : Bool := (s.pop h).clusters.any (fun x => decide (4096 ≤ x.future.length))
      let low := match short with | [] => 0 | i :: is => is.foldl min i
      setField (setField (setField v 2 1 (b2n waits)) 3 1 (b2n full)) 16 6 low

/-- SourceStatus (R428). [log 83 DEDUCED] -/
def Dev.sourceStatusNow (s : Dev) (n : Nat) : Nat :=
  let state := if s.rd (Obj.sourceKind n) = 0 then 0 else if s.fusionRuns then 2 else 1
  let adrift := match s.slotStream n with | some x => s.adrift x | none => false
  state + 4 * b2n adrift + 8 * b2n (s.bit (Obj.sourceStatus n) 3)

/-- FaultEngineState (R574): the safe state and its cause are kept, the rest follows the queue. -/
def Dev.faultEngineNow (s : Dev) (q : Nat) : Nat :=
  let es := (s.queueOf q).entries
  let handling : Bool := es.any (fun e => decide (e.phase ≠ .queued))
  min 127 es.length + 2 ^ 7 * b2n handling + 2 ^ 8 * s.getF (Obj.faultEngineState q) 8 4 + 2 ^ 12 * b2n (decide (48 ≤ es.length)) +
    2 ^ 16 * (if handling then (s.handler q).getD 15 else 15)

/-- OutfallStatus (R457): with the queue's fill, and whether a record dropped in this or the last 1 ms window. -/
def Dev.outfallStatusNow (s : Dev) (n : Nat) : Nat :=
  let c := s.chan n
  let v := setField (s.rd (Obj.outfallStatus n)) 8 8 (min 255 (c.queueBytes / 1024))
  setField v 3 1 (b2n (c.dropped && decide (s.win 1000000 ≤ c.lastDropF / 1000000 + 1)))

/-- Whether an object counts what no command shows (R208, R577): RouterStallMicroseconds and MramCorrected, whose values are open. [log 44 DESIGN CHOICE] -/
def uncounted (idx sub : Nat) : Bool := (idx == 0x6102 && 0 < sub) || (idx == 0x8800 && sub == 6)

/-- The value of a scalar object as a requester reads it. [log 44 DESIGN CHOICE, 103 DESIGN CHOICE, 104 DESIGN CHOICE] -/
def Dev.liveValue (s : Dev) (q : Requester) (idx sub bits : Nat) : Nat :=
  let e := sub - 1
  let x := s.session (sessOf q)
  match idx with
  | 0x1100 => x.offer.getD e 0
  | 0x1101 => x.result.getD e 0
  | 0x1813 => s.linkLoadNow e
  | 0x2001 => s.domainStateNow e
  | 0x2030 => s.aonUsed
  | 0x3000 => if sub = 1 then t80 s.dt else if sub = 2 then s.f else t31 s.dt
  | 0x3005 => s.uncertaintyNow
  | 0x3045 => s.syncAge e
  | 0x5002 => s.pacedShare e (s.metered (Obj.mereLoad e)) 32000000
  | 0x5003 => s.pacedShare e (s.metered (Obj.eddyLoad e)) 3400000
  | 0x6037 => s.marchNow e
  | 0x6097 => share (s.metered Obj.gddr6Load) 576000000
  | 0x6101 => s.pacedShare (e / 4) (s.metered (Obj.routerSpikeLoad e)) 4000000
  | 0x6202 => s.pacedShare (e / 32) (s.metered (Obj.basinLoad e)) 1024000000
  | 0x6802 => s.pacedShare e (s.metered (Obj.weirOpLoad e)) 250000
  | 0x6803 => (s.waits.filter (fun w => w.registered && w.weir / 4096 == e)).length
  | 0x6811 => x.weirSelect
  | 0x780F => s.outfallStatusNow e
  | 0x8000 => s.faultEngineNow e
  | 0x9071 => if sub = 1 then x.keyEpoch else x.linkEpoch
  | _ =>
    if uncounted idx sub then s.open_ % 2 ^ 64
    else if idx = 0x7001 ∧ sub = 9 then s.confFullTime / 1000 % 2 ^ 64
    else if idx = 0x4800 ∧ sub = 3 then s.metered Obj.spillTraffic / 1000
    else if idx = 0x7000 ∧ sub = 0x0F then share (s.metered Obj.gridLoad) 16000000
    else if 0x4000 ≤ idx ∧ idx < 0x4240 ∧ idx % 16 = 2 ∧ sub = 0 then s.streamStateNow ((idx - 0x4000) / 16)
    else if 0x4000 ≤ idx ∧ idx < 0x4240 ∧ idx % 16 = 9 ∧ sub = 1 then s.staleNow ((idx - 0x4000) / 16)
    else if 0x4000 ≤ idx ∧ idx < 0x4240 ∧ idx % 16 = 9 ∧ sub = 4 then s.anchorNow ((idx - 0x4000) / 16)
    else if 0x4000 ≤ idx ∧ idx < 0x4240 ∧ idx % 16 = 10 ∧ sub = 3 then (s.str ((idx - 0x4000) / 16)).ring.length
    else if 0x4000 ≤ idx ∧ idx < 0x4240 ∧ idx % 16 = 10 ∧ sub = 5 then (s.str ((idx - 0x4000) / 16)).queue.length
    else if 0x6040 ≤ idx ∧ idx < 0x6048 then (s.sluice (e * 8 + (idx - 0x6040))).status 128
    else if 0x6300 ≤ idx ∧ idx < 0x6400 ∧ sub = 1 then setField (s.rd (Reg.at idx sub bits)) 3 1 (b2n (s.haloWaiting (idx - 0x6300)))
    else if 0x6300 ≤ idx ∧ idx < 0x6400 ∧ sub = 0x1A then ((s.haloSettle (idx - 0x6300)).rd (Reg.at idx sub bits))
    else if 0x6400 ≤ idx ∧ idx < 0x6800 ∧ sub = 1 then s.popStateNow (idx - 0x6400)
    else if 0x7100 ≤ idx ∧ idx < 0x7160 ∧ sub = 0x0B then s.sourceStatusNow (idx - 0x7100)
    else if 0x7840 ≤ idx ∧ idx < 0x7880 ∧ sub = 4 ∧ s.bit (Obj.outfallStatus (idx - 0x7840)) 2 = true then
      wrapAdd 64 (s.rd (Reg.at idx sub bits)) ((s.rf - (s.chan (idx - 0x7840)).stallF) / 1000)
    else if 0x7840 ≤ idx ∧ idx < 0x7880 ∧ sub = 8 ∧ s.chanState (idx - 0x7840) = 2 then
      wrapAdd 64 (s.rd (Reg.at idx sub bits)) ((s.rf - (s.chan (idx - 0x7840)).pauseF) / 1000)
    else s.rd (Reg.at idx sub bits)

/-- The last completed count map of population `h` as CountSnapshot returns it (R210, R211): empty before the first. -/
def Dev.countMapBytes (s : Dev) (h : Nat) : List Byte :=
  match (s.pop h).map with
  | none => []
  | some g => (List.range (g.channels * g.height * g.width)).flatMap (fun el =>
      leBytes (if g.format = 4 then 1 else 2) (Tab.get 0 s.counts (countKey h 2 0 el)))

/-- A hot list as HotListImage holds it (R138). -/
def hotBytes (hs : List HotEntry) : List Byte := hs.flatMap (fun e => leBytes 4 (e.x % 2 ^ 12 + e.y % 2 ^ 12 * 2 ^ 12 + b2n e.auto * 2 ^ 24))

/-- The bytes of an OCTETS, VSTRING or DOMAIN object as a requester reads them. [log 104 DESIGN CHOICE, 105 DEDUCED] -/
def Dev.liveBytes (s : Dev) (q : Requester) (idx sub : Nat) : List Byte :=
  let x := s.session (sessOf q)
  match idx, sub with
  | 0x1000, 1 => ascii "Rosbied Microsystems"
  | 0x1000, 2 => ascii "Wealux"
  | 0x1000, 3 => ascii "Efium E36"
  | 0x1000, 4 => ascii "EF36-M8N2"
  | 0x1000, 7 => s.deviceId
  | 0x1010, 0x11 => List.replicate 16 0xFF
  | 0x6812, 0 => s.weirRecord x.weirSelect
  | 0x6813, 0 => (s.weir x.weirSelect).actionBytes
  | 0x7400, 0x0C => s.trackBytes
  | 0x8800, 1 => s.sedLatest
  | 0x9030, 0 => x.attestNonce
  | 0x9031, 0 => s.reportFor q
  | _, _ =>
    if idx = 0x8001 then ((s.queueOf (sub - 1)).log ++ (s.queueOf (sub - 1)).entries).flatMap (fun e => e.bytes (sub - 1))
    else if 0x4000 ≤ idx ∧ idx < 0x4240 ∧ idx % 16 = 5 ∧ sub = 1 then hotBytes (s.str ((idx - 0x4000) / 16)).hot
    else if 0x6400 ≤ idx ∧ idx < 0x6800 ∧ sub = 0x15 then s.countMapBytes (idx - 0x6400)
    else if 0x7100 ≤ idx ∧ idx < 0x7160 ∧ sub = 0x0A then
      (List.range (levelC (s.getF (Obj.sourceControl (idx - 0x7100)) 5 1))).flatMap (fun c => leBytes 4 (s.featureWeight (idx - 0x7100) c))
    else s.blob (Reg.at idx sub 0)

/-- The value of a present object as bytes (R462): subindex 0x00 of an ARRAY or RECORD is its highest subindex (R460). [log 104 DESIGN CHOICE] -/
def Dev.liveObject (s : Dev) (q : Requester) (idx sub : Nat) : List Byte :=
  match objRow? idx sub with
  | some r => if r.ty.scalar then leBytes r.ty.size (s.liveValue q idx sub (8 * r.ty.size)) else s.liveBytes q idx sub
  | none => match indexKind idx with
    | some k => if sub = 0 then leBytes 1 k.2 else []
    | none => []

end Sys2Proof.Machine
end

