-- ==== Sys2Proof/Machine/Dictionary.lean ====
section
/-! DEFINITION. The dictionary operations (R466 to R488): READ, WRITE, WRITE_IF, READ_RECORD, DESCRIBE and ABORT, what a write of each object
does, and how a mailbox, an Omtos datagram or a CAN FD frame carries a request. -/

namespace Sys2Proof.Machine

open Sys2Proof

/-! ### Writes of objects with a behaviour of their own -/

/-- A write that its chapter refuses under a condition, and that otherwise stores the value. [log 108 DEDUCED] -/
def Dev.storeUnless (s : Dev) (bad : Bool) (st : Status) (q : Requester) (r : Reg) (v : Nat) : Dev :=
  if bad then s.refuse q st else (s.wr r v).accept q

/-- The same for an OCTETS or VSTRING object. -/
def Dev.storeBytesUnless (s : Dev) (bad : Bool) (st : Status) (q : Requester) (r : Reg) (bs : List Byte) : Dev :=
  if bad then s.refuse q st else (s.setBlob r bs).accept q

/-- Whether a requester's session or binding has been made, after which its offer stands (R487). -/
def Dev.offerClosed (s : Dev) (q : Requester) : Bool :=
  match q with
  | .mailbox p _ => s.portBound p.val
  | .omtos k => s.slotAttached k.val
  | _ => false

/-- A write of NegotiationOffer (R487). -/
def Dev.offerWrite (s : Dev) (q : Requester) (e v : Nat) : Dev :=
  if s.offerClosed q then s.refuse q .state
  else (s.updSession (sessOf q) (fun x => { x with offer := x.offer.set e v })).accept q

/-- A write of FaultChannel (R444): the channel it names is the tenant's. -/
def Dev.faultChannelWrite (s : Dev) (q : Requester) (t v : Nat) : Dev :=
  s.storeUnless (decide (v < 64) && s.rd (Obj.channelOwner v) != t) .rights q (Obj.faultChannel t) v

/-- Whether a region is assigned (R335). -/
def Dev.anyRegion (s : Dev) : Bool := (List.range 32).any (fun r => s.rd (Obj.regionOwner r) != 0xFF)

/-- A stored object of a sensor profile slot (R155). -/
def Dev.profileStore (s : Dev) (r : Request) (reg : Reg) (scalar : Bool) : Dev :=
  let used := s.profileUsed (r.idx - 0x4810)
  if scalar then s.storeUnless used .state r.q reg (ofLe r.data) else s.storeBytesUnless used .state r.q reg r.data

/-- What an accepted write of a scalar object does; `reg` is its register. [log 108 DEDUCED] -/
def State.writeScalar (s : State) (r : Request) (reg : Reg) : State :=
  let q := r.q
  let v := ofLe r.data
  let e := r.sub - 1
  let n := (r.idx - 0x4000) / 16
  let dev (f : Dev → Dev) : State := { s with dev := f s.dev }
  let plain : State := dev (fun d => (d.wr reg v).accept q)
  match r.idx with
  | 0x1100 => dev (fun d => d.offerWrite q e v)
  | 0x1801 => s.clusterOwnerWrite q e v
  | 0x1802 => dev (fun d => d.channelOwnerWrite q e v)
  | 0x1803 => dev (fun d => d.faultChannelWrite q e v)
  | 0x1811 => dev (fun d => d.detachDo q e)
  | 0x2000 => dev (fun d => d.domainCommand q e v)
  | 0x2003 => dev (fun d => d.padRelease q e)
  | 0x2800 => dev (fun d => d.capWrite q e v)
  | 0x2801 => dev (fun d => d.voltWrite q e v)
  | 0x3001 => s.timeOffsetWrite q v
  | 0x3002 => dev (fun d => d.rateAdjustWrite q v)
  | 0x3003 => dev (fun d => d.disciplineModeWrite q v)
  | 0x3010 => if r.sub = 1 then dev (fun d => d.ptpRoleWrite q v) else plain
  | 0x5012 => dev (fun d => (d.wr reg (v / 4 * 4)).accept q)
  | 0x5814 => dev (fun d => d.presetWrite q e v)
  | 0x581C => dev (fun d => d.reedCommand q e v)
  | 0x6036 => dev (fun d => d.marchWrite q e v)
  | 0x6090 => dev (fun d => d.storeUnless d.anyRegion .state q reg v)
  | 0x6091 => dev (fun d => d.partitionWrite q reg v)
  | 0x6092 => dev (fun d => d.storeUnless (d.rd (Obj.regionOwner e) != 0xFF) .state q reg v)
  | 0x6093 => dev (fun d => d.storeUnless (d.rd (Obj.regionOwner e) != 0xFF) .state q reg v)
  | 0x6094 => s.regionOwnerWrite q e v
  | 0x6095 => dev (fun d => d.storeUnless (d.rd (Obj.regionOwner e) != 0xFF) .state q reg v)
  | 0x6800 => dev (fun d => d.weirBlockOwnerWrite q e v)
  | 0x6811 => dev (fun d => (d.updSession (sessOf q) (fun x => { x with weirSelect := v })).accept q)
  | 0x7801 => dev (fun d => d.channelPathWrite q e v)
  | 0x780B => dev (fun d => d.ethConsumer q e v)
  | 0x780E => dev (fun d => d.channelCommand q e v)
  | 0x8002 => dev (fun d => ({ d with alertFault := false } : Dev).accept q)
  | 0x8004 => dev (fun d => d.dieRecover q e)
  | 0x8034 => dev (fun d => d.slotRetest q e v)
  | 0x9003 => dev (fun d => d.rollbackCommit q)
  | 0x9041 => dev (fun d => d.provision q)
  | 0x9070 => dev (fun d => d.rekeyWrite q v)
  | i =>
    if 0x2010 ≤ i ∧ i < 0x2014 ∧ r.sub = 1 then dev (fun d => d.wakeControlWrite q (i - 0x2010) v)
    else if 0x3400 ≤ i ∧ i < 0x3410 then
      (if r.sub = 1 then dev (fun d => d.trigControlWrite q (i - 0x3400) v)
       else dev (fun d => d.storeUnless (d.trigArmed (i - 0x3400)) .state q reg v))
    else if 0x3420 ≤ i ∧ i < 0x3428 ∧ r.sub = 1 then dev (fun d => d.capControlWrite q (i - 0x3420) v)
    else if 0x4000 ≤ i ∧ i < 0x4240 then
      (if i % 16 = 0 ∧ r.sub = 3 then dev (fun d => d.partitionWrite q reg v)
       else if i % 16 = 0 ∧ r.sub = 7 then dev (fun d => d.staticAddressWrite q n v)
       else if i % 16 = 1 then dev (fun d => d.streamCommand q n v none)
       else if i % 16 = 5 ∧ r.sub = 3 then dev (fun d => d.hotClear q n v)
       else plain)
    else if 0x4810 ≤ i ∧ i < 0x4820 then
      (if r.sub = 1 then dev (fun d => d.profileVersionWrite q (i - 0x4810) v) else dev (fun d => d.profileStore r reg true))
    else if i = 0x7000 ∧ r.sub = 1 then dev (fun d => d.fusionOwnerWrite q v)
    else if i = 0x7000 ∧ r.sub = 2 then s.fusionCommandDo q v
    else if i = 0x7000 ∨ i = 0x7400 ∨ (0x7100 ≤ i ∧ i < 0x7160) then dev (fun d => d.storeUnless (!d.fusionNames i r.sub v) .rights q reg v)
    else plain

/-- What an accepted write of an OCTETS object does. -/
def State.writeBytes (s : State) (r : Request) : State :=
  let q := r.q
  let reg := reqReg r
  let dev (f : Dev → Dev) : State := { s with dev := f s.dev }
  match r.idx with
  | 0x6810 => dev (fun d => d.weirOpDo q r.data)
  | 0x6813 => dev (fun d => d.weirActionDo q r.data)
  | 0x9030 => dev (fun d => (d.updSession (sessOf q) (fun x => { x with attestNonce := r.data })).accept q)
  | i =>
    if 0x9050 ≤ i ∧ i < 0x9058 then dev (fun d => d.hostKeysWrite q reg r.data)
    else if 0x4810 ≤ i ∧ i < 0x4820 then dev (fun d => d.profileStore r reg false)
    else dev (fun d => (d.setBlob reg r.data).accept q)

/-! ### Writes of DOMAIN objects (R474) -/

/-- An entry of a HotListImage (R138). -/
def hotEntry (v : Nat) : HotEntry := { x := field v 0 12, y := field v 12 12, auto := bitAt v 24 }

/-- The content of a HotListImage (R138): whole entries, with no reserved bit set. [log 52 DEDUCED] -/
def Dev.hotLoad (s : Dev) (n : Nat) (bs : List Byte) : Dev × Status :=
  let es := (List.range (bs.length / 4)).map (fun i => leAt bs (4 * i) 4)
  if bs.length % 4 ≠ 0 then (s, .type)
  else if es.any (fun v => decide (2 ^ 25 ≤ v)) then (s, .range)
  else ((s.updStr n (fun x => { x with hot := es.map hotEntry })).hotCounted n, .ok)

/-- The content of a GridImage (R140). -/
def Dev.gridLoad (s : Dev) (n : Nat) (bs : List Byte) : Dev × Status :=
  if bs.length % 4 ≠ 0 ∨ 131072 < bs.length then (s, .range)
  else ((s.setBlob (Obj.gridImage n) bs).wr (Obj.gridNodes n) (bs.length / 4), .ok)

/-- A segment of GridImage (R140, R474): its length is judged as a range. -/
def State.gridSegment (s : State) (r : Request) (n : Nat) : State :=
  s.segment r .ok (2 ^ 32) id (fun bs s => let z := s.dev.gridLoad n bs; ({ s with dev := z.1 }, z.2))

/-- The content of an ActivationTable (R223): empty, 256 bytes of an 8-bit output format, or 520 of a floating one; of an integer format of more than
8 bits none. A handle without a layer takes either. [log 52 DEDUCED] -/
def Dev.tableOk (s : Dev) (l : Nat) (bs : List Byte) : Bool :=
  let f := s.rd (Obj.outFormat l)
  bs == [] || (if s.rd (Obj.layerOwner l) = 0xFF then bs.length == 256 || bs.length == 520
               else if f = 5 ∨ f = 6 then false
               else if f = 9 ∨ f = 10 ∨ f = 11 then bs.length == 520
               else bs.length == 256)

/-- A segment of a DOMAIN object that only its form judges. [log 52 DEDUCED] -/
def State.plainSegment (s : State) (r : Request) (start : Status) (max : Nat) (ok : List Byte → Status) : State :=
  s.segment r start max id (fun bs s => if ok bs = .ok then ({ s with dev := s.dev.setBlob (reqReg r) bs }, .ok) else (s, ok bs))

/-- A segment of SessionIn (R506): only the host of that port sends it. -/
def State.sessionSegment (s : State) (r : Request) (h : Fin 4) : State :=
  match r.q with
  | .mailbox p _ =>
    if p ≠ h then { s with dev := s.dev.refuse r.q .rights }
    else s.segment r .ok 16384 id (fun bs s => let z := s.dev.sessionIn h bs; ({ s with dev := z.1 }, z.2))
  | _ => { s with dev := s.dev.refuse r.q .rights }

/-- Whether every binary32 of a list of entries is a number (R462). -/
def floatsOk (bs : List Byte) : Bool := (List.range (bs.length / 4)).all (fun i => (Ty.f32).valueOk (leAt bs (4 * i) 4))

/-- A segment of a DOMAIN write that passed the checks of R469. [log 52 DEDUCED] -/
def State.writeSegment (s : State) (r : Request) (max : Nat) : State :=
  let n := (r.idx - 0x4000) / 16
  match r.idx with
  | 0x9011 => s.recoverySegment r
  | 0x9081 => s.debugSegment r
  | i =>
    if 0x4000 ≤ i ∧ i < 0x4240 ∧ i % 16 = 5 then s.segment r .ok max id (fun bs s => let z := s.dev.hotLoad n bs; ({ s with dev := z.1 }, z.2))
    else if 0x4000 ≤ i ∧ i < 0x4240 ∧ i % 16 = 7 then s.gridSegment r n
    else if 0x4810 ≤ i ∧ i < 0x4820 then
      s.plainSegment r (if s.dev.profileUsed (i - 0x4810) then .state else .ok) max
        (fun _ => if s.dev.profileUsed (i - 0x4810) then .state else .ok)
    else if 0x6300 ≤ i ∧ i < 0x6400 then s.plainSegment r .ok max (fun bs => if s.dev.tableOk (i - 0x6300) bs then .ok else .range)
    else if 0x7100 ≤ i ∧ i < 0x7160 then
      s.plainSegment r .ok max (fun bs =>
        if bs.length ≠ 4 * levelC (s.dev.getF (Obj.sourceControl (i - 0x7100)) 5 1) then .type else if floatsOk bs then .ok else .range)
    else if 0x9060 ≤ i ∧ i < 0x9064 then s.sessionSegment r (Fin.ofNat 4 (i - 0x9060))
    else s.plainSegment r .ok max (fun _ => .ok)

/-! ### WRITE -/

/-- The effect of a write that passed the checks of R469 and whose domains are on. -/
def State.writeEffect (s : State) (r : Request) (row : ObjRow) : State :=
  match row.ty with
  | .domain max => s.writeSegment r max
  | .octets _ => s.writeBytes r
  | .vstring _ => s.writeBytes r
  | t => s.writeScalar r (Reg.at r.idx r.sub (8 * t.size))

/-- A WRITE (R466, R469, R471): PlanImage, PlanCommand and CalibrationImage are judged by their own chapters' rights. -/
def State.writeDo (s : State) (r : Request) : State :=
  match planOf (reqKey r) with
  | some p => s.reachAll r (s.dev.needs r) (fun s => s.planSegment r p)
  | none =>
    let isPlan : Bool := decide (0x6000 ≤ r.idx) && decide (r.idx < 0x6010) && r.sub == 2
    let st := if isPlan ∧ r.data.length = 1 then s.dev.judgePlanCommand r.q (r.idx - 0x6000) (ofLe r.data)
              else s.dev.judgeWrite r.q 2 r.idx r.sub r.data
    if st ≠ .ok then { s with dev := s.dev.refuse r.q st }
    else
      match objRow? r.idx r.sub with
      | none => { s with dev := s.dev.refuse r.q .absent }
      | some row =>
        s.reachAll r (s.dev.needs r) (fun s =>
          if isPlan then s.planCommand r.q (r.idx - 0x6000) (ofLe r.data)
          else if 0x7200 ≤ r.idx ∧ r.idx < 0x7224 then s.calSegment r (r.idx - 0x7200)
          else s.writeEffect r row)

/-! ### WRITE_IF (R466, R473) -/

/-- The checks of a WRITE_IF up to RANGE and the STATE of a stopped object (R469): ACCESS and RIGHTS are judged for the read and the write. -/
def Dev.judgeWriteIf (s : Dev) (q : Requester) (idx sub : Nat) (data : List Byte) : Status :=
  if !Dev.sessionOk q 3 idx then .noSession
  else match objRow? idx sub with
    | none => if sub = 0 ∧ (indexKind idx).isSome = true then .access else .absent
    | some r =>
      let n := r.ty.size
      if r.acc == .ro || r.acc == .const || r.acc == .wo then .access
      else if !s.versionOk q 3 then .version
      else if !(s.hasRight q r.rdRights r.own (r.elem idx sub) && s.hasRight q r.wrRights r.own (r.elem idx sub)) then .rights
      else if !r.ty.scalar || data.length != 2 * n then .type
      else
        let v := ofLe (data.drop n)
        if !(r.ty.valueOk v && r.rng.ok r.ty v && s.pairOk idx sub v) then .range
        else if s.readsOnly idx || (r.acc == .rws && !s.isStopped r.stop (r.elem idx sub)) then .state
        else .ok

/-- The status that a requester was answered with since the output held `n` items; none where it waits. -/
def Dev.answeredSince (s : Dev) (n : Nat) (q : Requester) : Option Nat :=
  (s.out.drop n).findSome? (fun o => match o with | .response p st _ => if p = q then some st else none | _ => none)

/-- A WRITE_IF (R473): a refusal by the object's chapter comes before MISMATCH (R469). [log 91 DEDUCED] -/
def State.writeIfDo (s : State) (r : Request) : State :=
  let st := s.dev.judgeWriteIf r.q r.idx r.sub r.data
  if st ≠ .ok then { s with dev := s.dev.refuse r.q st }
  else
    match objRow? r.idx r.sub with
    | none => { s with dev := s.dev.refuse r.q .absent }
    | some row =>
      s.reachAll r (s.dev.needs r) (fun s =>
        let n := row.ty.size
        let present := s.dev.liveObject r.q r.idx r.sub
        let done := s.writeEffect { r with op := 2, data := r.data.drop n } row
        if present = r.data.take n then done
        else match done.dev.answeredSince s.dev.out.length r.q with
          | some code => if code = 0 then { s with dev := s.dev.answer r.q .mismatch present } else done
          | none => { s with dev := s.dev.answer r.q .mismatch present })

/-! ### READ (R466, R474) -/

/-- The most bytes that the answer of a request may carry: the room the mailbox gives, or a segment of the transport for a DOMAIN. -/
def roomOf (q : Requester) (room : Nat) : Nat := match q with | .mailbox _ _ => min room 4096 | _ => segLimit q

/-- A segment of a read transfer: the first takes the snapshot, and the transfer ends with its last byte, or with a segment that sets Last. [log 91 DEDUCED] -/
def Dev.readSegment (s : Dev) (r : Request) (room : Nat) (value : List Byte) : Dev :=
  let serve (s : Dev) (data : List Byte) : Dev :=
    let part := (data.drop r.offset).take (roomOf r.q room)
    let next := r.offset + part.length
    let s := s.closeTransfer r.q
    let s := if r.last ∨ data.length ≤ next then s
      else { s with transfers := s.transfers ++ [({ q := r.q, key := reqKey r, writing := false, data := data, next := next, lastF := s.rf } : Transfer)] }
    s.answer r.q .ok part
  if r.first then
    (if r.offset ≠ 0 then s.refuse r.q .sequence
     else if s.transferBusy r.q (reqKey r) false then s.refuse r.q .busy
     else serve (s.toldAbandoned r.q) value)
  else if s.wasAbandoned r.q then (s.toldAbandoned r.q).refuse r.q .abandoned
  else match s.transferOf r.q with
    | some t => if !t.writing && t.key == reqKey r && t.next == r.offset then serve s t.data else s.refuse r.q .sequence
    | none => s.refuse r.q .sequence

/-- The content of a DOMAIN object as a first segment finds it: a CalibrationImage stands in GDDR6, at CalibrationAddress (R395). -/
def State.domainValue (s : State) (q : Requester) (idx sub : Nat) : List Byte :=
  if 0x7200 ≤ idx ∧ idx < 0x7224 then
    let n := idx - 0x7200
    if s.dev.rd (Obj.calibrationState n) = 1 then
      s.gddrBytes (s.dev.rd (Obj.streamTenant n)) (s.dev.rd (Obj.calibrationAddress n)) (4096 + 8 * s.dev.rd (Obj.outputWidth n) * s.dev.rd (Obj.outputHeight n))
    else []
  else s.dev.liveBytes q idx sub

/-- What a requester is given of an object that is no DOMAIN: a CapPop is popped by the read (R105). [log 44 DESIGN CHOICE] -/
def Dev.readValue (s : Dev) (q : Requester) (idx sub : Nat) : Dev × List Byte :=
  if 0x3420 ≤ idx ∧ idx < 0x3428 ∧ sub = 2 then s.capPop (idx - 0x3420)
  else (if uncounted idx sub then s.drawn else s, s.liveObject q idx sub)

/-- A READ (R466): a value that the mailbox has no room for is a wrong length. -/
def State.readDo (s : State) (r : Request) : State :=
  let st := s.dev.judgeRead r.q 1 r.idx r.sub
  if st ≠ .ok then { s with dev := s.dev.refuse r.q st }
  else
    s.reachAll r (s.dev.needs r) (fun s =>
      let d := s.dev
      let room := ofLe r.data
      let domain : Bool := match objRow? r.idx r.sub with | some row => (match row.ty with | .domain _ => true | _ => false) | none => false
      if domain then { s with dev := d.readSegment r room (if r.first then s.domainValue r.q r.idx r.sub else []) }
      else if r.idx = 0x9031 ∧ d.bit Obj.securityState 3 = true then { s with dev := d.refuse r.q .state }
      else
        let z := d.readValue r.q r.idx r.sub
        match r.q with
        | .mailbox _ _ => { s with dev := if room < z.2.length then d.refuse r.q .type else z.1.answer r.q .ok z.2 }
        | _ => { s with dev := z.1.answer r.q .ok z.2 })

/-! ### READ_RECORD (R466) -/

/-- One subindex of a record: its length and its value, or the length 0xFFFF alone. -/
def Dev.recordPart (s : Dev) (q : Requester) (idx sub : Nat) : Dev × List Byte :=
  match objRow? idx sub with
  | none => (s, leBytes 2 0xFFFF)
  | some row =>
    if row.acc = .wo ∨ (match row.ty with | .domain _ => true | _ => false) = true ∨ s.hasRight q row.rdRights row.own (row.elem idx sub) = false then (s, leBytes 2 0xFFFF)
    else let z := s.readValue q idx sub; (z.1, leBytes 2 z.2.length ++ z.2)

/-- A READ_RECORD (R466). [log 91 DEDUCED] -/
def State.readRecordDo (s : State) (r : Request) : State :=
  let d := s.dev
  let refused (st : Status) : State := { s with dev := d.refuse r.q st }
  if !Dev.sessionOk r.q 4 r.idx then refused .noSession
  else match indexKind r.idx with
    | none => refused .absent
    | some k =>
      if !d.versionOk r.q 4 then refused .version
      else if k.1 = 0 then refused .type
      else
        s.reachAll r (d.needs r) (fun s =>
          let z := (List.range k.2).foldl (fun (z : Dev × List Byte) i => let p := z.1.recordPart r.q r.idx (i + 1); (p.1, z.2 ++ p.2)) (s.dev, ([] : List Byte))
          { s with dev := if roomOf r.q (ofLe r.data) < z.2.length then s.dev.refuse r.q .type else z.1.answer r.q .ok z.2 })

/-! ### DESCRIBE (R467) -/

/-- The rights classes of a statement, as DESCRIBE shows them. -/
def Rights.bits : Rights → Nat
  | .anyone => 0xF
  | .custodian => 1
  | .owner => 2
  | .ownerOrCustodian => 3
  | .boundHostOrCustodian => 3
  | .selectedWeir => 3
  | .nobody => 0

/-- The code of an access (R467). -/
def Acc.code : Acc → Nat
  | .ro => 0
  | .wo => 1
  | .rw => 2
  | .rws => 3
  | .const => 4

/-- RangeFlags, Minimum and Maximum (R467). -/
def Rng.described : Rng → Nat × Int × Int
  | .any => (0, 0, 0)
  | .within alts =>
    (match alts with
     | [] => (0, 0, 0)
     | [a] => (1, a.1, a.2)
     | a :: _ => (3, a.1, match alts.getLast? with | some b => b.2 | none => a.2))
  | .stepped lo hi _ => (3, lo, hi)
  | .fields _ _ => (0, 0, 0)
  | .floats lo hi => (1, lo, hi)
  | .wholeMicros => (0, 0, 0)

/-- The 32 bytes of a DESCRIBE response. [log 91 DEDUCED] -/
def describeBytes (type kind acc rd wr flags size : Nat) (lo hi : Int) : List Byte :=
  leBytes 2 type ++ leBytes 1 kind ++ leBytes 1 acc ++ leBytes 1 rd ++ leBytes 1 wr ++ leBytes 1 flags ++ zeros 1 ++ leBytes 4 size ++ zeros 4 ++
    leBytes 8 (unsigned 64 lo) ++ leBytes 8 (unsigned 64 hi)

/-- The description of a present object; none where it is absent. [log 91 DEDUCED] -/
def describeObject (idx sub : Nat) : Option (List Byte) :=
  let kind := match indexKind idx with | some k => k.1 | none => 0
  match objRow? idx sub with
  | some r =>
    let g := r.rng.described
    some (describeBytes r.ty.code kind r.acc.code (if r.acc = .wo then 0 else r.rdRights.bits)
      (if r.acc = .ro ∨ r.acc = .const then 0 else r.wrRights.bits) g.1 r.ty.size g.2.1 g.2.2)
  | none =>
    match indexKind idx with
    | some k => if sub = 0 ∧ k.1 ≠ 0 then some (describeBytes 0 kind 4 0xF 0 0 1 0 0) else none
    | none => none

/-- A DESCRIBE (R466, R467). -/
def State.describeDo (s : State) (r : Request) : State :=
  let d := s.dev
  let refused (st : Status) : State := { s with dev := d.refuse r.q st }
  if !Dev.sessionOk r.q 5 r.idx then refused .noSession
  else match describeObject r.idx r.sub with
    | none => refused .absent
    | some bs =>
      if !d.versionOk r.q 5 then refused .version else { s with dev := d.answer r.q .ok bs }

/-! ### ABORT (R466, R476) -/

/-- An ABORT ends the requester's open transfer on the object; without one it is out of sequence. [log 91 DEDUCED] -/
def Dev.abortDo (s : Dev) (r : Request) : Dev :=
  if !Dev.sessionOk r.q 6 r.idx then s.refuse r.q .noSession
  else if (objRow? r.idx r.sub).isNone then s.refuse r.q .absent
  else match s.transferOf r.q with
    | some t => if t.key = reqKey r then (s.abandon t).accept r.q else s.refuse r.q .sequence
    | none => s.refuse r.q .sequence

/-! ### The PCIe windows (R347, R477, R478) -/

/-- One byte of BAR 0 of host port `p` (R478, R479): the header, and for each mailbox its registers and its buffer; all else is zero. -/
def Dev.windowByte (s : Dev) (p o : Nat) : Byte :=
  if o < 0x2000 then
    let t := s.tenantOf (.mailbox (Fin.ofNat 4 p) 0)
    (leBytes 2 0x0100 ++ leBytes 1 4 ++ leBytes 1 p ++ leBytes 1 (t.getD 0xFF) ++ leBytes 1 (b2n (s.isCustodian (.mailbox (Fin.ofNat 4 p) 0))) ++
      zeros 2 ++ leBytes 4 0x100000).getD o 0
  else if o < 0xA000 then
    let b := Tab.get ({} : Mailbox) s.mailboxes (p * 4 + (o / 0x2000 - 1))
    let r := o % 0x2000
    if 0x1000 ≤ r then b.buffer.getD (r - 0x1000) 0
    else (bytesAt b.regs 0 16 ++ zeros 4 ++ leBytes 4 (b.code + b2n b.busy * 2 ^ 8 + b.shownTag * 2 ^ 16) ++ leBytes 4 b.result.length).getD r 0
  else 0

/-- One byte of the weir window of host port `p` (R347, R349): the state record, the action record for those who may read it, and zero at the
write-only offsets. What others read in place of an action record is not stated: an open value. [log 116 DESIGN CHOICE] -/
def Dev.weirByte (s : Dev) (p o : Nat) : Byte :=
  let w := o / 64
  let q : Requester := .mailbox (Fin.ofNat 4 p) 0
  if o % 64 < 16 then (s.weirRecord w).getD (o % 64) 0
  else if o % 64 < 0x20 then 0
  else if s.isCustodian q || s.actsFor q (s.weirOwner w) then (s.weir w).actionBytes.getD (o % 64 - 0x20) 0
  else BitVec.ofNat 8 (s.open_ / 2 ^ (8 * (o % 64 - 0x20)))

/-- A PCIe memory read of `n` bytes at byte offset `o` of BAR 0 or, with `weirs`, of BAR 2 of host port `p`, as a request that can be held (R347, R589). -/
def windowReadReq (p : Fin 4) (weirs : Bool) (o n : Nat) : Request :=
  { q := .mailbox p 0, op := windowReadOp, idx := o / 64, sub := b2n weirs, offset := o, data := leBytes 2 n }

/-- The bytes that a PCIe memory read is given (R347, R477, R478): one snapshot. -/
def Dev.windowRead (s : Dev) (r : Request) : Dev :=
  match r.q with
  | .mailbox p _ =>
    let at_ := upFrom r.offset (ofLe r.data)
    if r.sub = 1 then (s.completed r (at_.map (s.weirByte p.val))).drawn else s.completed r (at_.map (s.windowByte p.val))
  | _ => s

/-! ### Requests and what carries them -/

/-- A request that has reached the dictionary, or the weir window. For a read, `data` holds the room that the mailbox gives. -/
def State.doRequest (s : State) (r : Request) : State :=
  match r.op with
  | 1 => s.readDo r
  | 2 => s.writeDo r
  | 3 => s.writeIfDo r
  | 4 => s.readRecordDo r
  | 5 => s.describeDo r
  | 6 => ({ s with dev := s.dev.abortDo r } : State).loadsAborted
  | _ =>
    if r.op = windowOp then s.reachAll r (s.dev.needs r) (fun s => { s with dev := s.dev.windowDo r })
    else if r.op = windowReadOp then s.reachAll r (s.dev.needs r) (fun s => { s with dev := s.dev.windowRead r })
    else s

/-- The operations that a transport carries (R466). [log 93 DEDUCED] -/
def carries (q : Requester) (op : Nat) : Bool := match q with | .can _ => op == 1 || op == 2 | _ => true

/-- The cached response to a duplicate goes out again (R482). -/
def Dev.resend (s : Dev) (q : Requester) (c : List Byte) : Dev := (s.bump (Obj.transportCounter 4)).emit (.response q (leAt c 0 1) (c.drop 1))

/-- A served request leaves no Sequence behind it: what it did not answer holds its own. -/
def State.served (s : State) (k : Fin 2) : State := { s with dev := s.dev.updSession (4 + k.val) (fun x => { x with curSeq := 0 }) }

/-- A tagged Omtos request of Sequence `n` in slot `k` (R482). -/
def State.omtosRequest (s : State) (k : Fin 2) (n : Nat) (f : State → State) : State :=
  match s.dev.judgeSeq k n with
  | .stale => { s with dev := s.dev.bump (Obj.transportCounter 5) }
  | .absorb => s
  | .duplicate c => { s with dev := s.dev.resend (.omtos k) c }
  | .execute => State.served (f { s with dev := s.dev.takeSeq k.val n }) k

/-- The 16 bytes of a mailbox's registers as a request writes them (R478). -/
def mailboxRegs (r : Request) : List Byte :=
  leBytes 1 r.op ++ leBytes 1 r.sub ++ leBytes 2 r.idx ++
  leBytes 4 (if r.op = 1 ∨ r.op = 4 ∨ r.op = 5 then ofLe r.data else r.data.length) ++ leBytes 4 r.offset ++ leBytes 4 (b2n r.first + 2 * b2n r.last)

/-- A mailbox's Issue (R479): discarded and counted while Busy. [log 90 DESIGN CHOICE] -/
def Dev.issue (s : Dev) (p m : Nat) (e : Envelope) (r : Request) : Option Dev :=
  if (Tab.get ({} : Mailbox) s.mailboxes (p * 4 + m)).busy then none
  else
    let data := if r.op = 2 ∨ r.op = 3 then r.data else []
    some { s with mailboxes := Tab.upd {} s.mailboxes (p * 4 + m) (fun b =>
      { b with busy := true, tag := e.tag.toNat, notify := e.notify.map (·.toNat), regs := mailboxRegs r, buffer := data ++ b.buffer.drop data.length }) }

/-- Whether a CAN FD controller has a request that is not answered (R484). [log 93 DEDUCED] -/
def Dev.canBusy (s : Dev) (q : Requester) : Bool :=
  s.held.any (fun x => decide (x.req.q = q)) || (List.range 4).any (fun d => (s.pace d).waiting.any (fun r => decide (r.q = q)))

/-- A request arrives in a working device, in its envelope. [log 90 DESIGN CHOICE, 93 DEDUCED] -/
def State.arrive (s : State) (r : Request) (e : Envelope) (f : State → State) : State :=
  if s.dev.bootWait then s
  else match r.q with
    | .mailbox p m =>
      if s.dev.bit Obj.securityState 2 && !recoveryHears r.q then s
      else match s.dev.issue p.val m.val e r with
        | none => { s with dev := s.dev.bump (Obj.transportCounter 2) }
        | some d => ({ s with dev := d } : State).meet r f
    | .omtos k =>
      if !s.dev.slotAttached k.val then s
      else if !e.tagOk then { s with dev := s.dev.bump (Obj.transportCounter 3) }
      else s.omtosRequest k e.seq.toNat (fun s => s.meet r f)
    | .source _ _ =>
      if e.version.toNat < 0x0100 ∨ 0x0102 < e.version.toNat then s
      else ({ s with dev := s.dev.updSession (sessOf r.q) (fun x => { x with omtosVersion := e.version.toNat }) } : State).meet r f
    | .can _ => if s.dev.canBusy r.q then { s with dev := s.dev.refuse r.q .busy } else s.meet r f

/-- A request arrives in its envelope (R478 to R484): in a freeze the rim holds it (R589), with its Sequence not yet taken. [log 90 DESIGN CHOICE] -/
def State.carried (s : State) (r : Request) (e : Envelope) : Host.Outcome State Fault Refusal :=
  .next (
    if !carries r.q r.op then s
    else if s.dev.working then ({ s with dev := s.dev.fresh } : State).arrive r e (fun s => s.doRequest r)
    else if s.dev.rimOpen then
      (let hold (d : Dev) (r : Request) : State := { s with dev := { d with held := d.held ++ [⟨d.f, rimDomain, r⟩] } }
       let d := s.dev.fresh
       match r.q with
       | .mailbox p m => (match d.issue p.val m.val e r with | some d => hold d r | none => s)
       | .omtos k => if d.slotAttached k.val && e.tagOk then hold d { r with seq := e.seq.toNat } else s
       | .source _ _ => hold d r
       | .can _ => s)
    else s)

/-! ### The commands -/

/-- A PCIe memory read arrives: in a freeze the rim holds it (R589). -/
def State.windowFetch (s : State) (r : Request) : Host.Outcome State Fault Refusal :=
  .next (if s.dev.working then ({ s with dev := s.dev.fresh } : State).doRequest r
         else if s.dev.rimOpen then { s with dev := { s.dev.fresh with held := s.dev.held ++ [⟨s.dev.f, rimDomain, r⟩] } }
         else s)

/-- READ (R466), or a PCIe memory read (R347, R478). -/
def execReadObj (q : Requester) (e : Envelope) (idx : BitVec 16) (sub : BitVec 8) (offset : Nat) (first last : Bool) (room : Nat) (s : State) :
    Host.Outcome State Fault Refusal :=
  match e.bar, q with
  | some b, .mailbox p _ => if s.dev.portState p.val = 0 then s.run id else s.windowFetch (windowReadReq p b.1 b.2.toNat (room % 4097))
  | _, _ => s.carried { q := q, op := 1, idx := idx.toNat, sub := sub.toNat, offset := offset, first := first, last := last, data := leBytes 4 room } e

/-- WRITE (R466). -/
def execWriteObj (q : Requester) (e : Envelope) (idx : BitVec 16) (sub : BitVec 8) (g : Seg) (s : State) : Host.Outcome State Fault Refusal :=
  s.carried { q := q, op := 2, idx := idx.toNat, sub := sub.toNat, offset := g.offset, first := g.first, last := g.last, data := g.data } e

/-- WRITE_IF (R473). -/
def execWriteIf (q : Requester) (e : Envelope) (idx : BitVec 16) (sub : BitVec 8) (data : List Byte) (s : State) : Host.Outcome State Fault Refusal :=
  s.carried { q := q, op := 3, idx := idx.toNat, sub := sub.toNat, data := data } e

/-- READ_RECORD (R466). -/
def execReadRecord (q : Requester) (e : Envelope) (idx : BitVec 16) (sub : BitVec 8) (room : Nat) (s : State) : Host.Outcome State Fault Refusal :=
  s.carried { q := q, op := 4, idx := idx.toNat, sub := sub.toNat, data := leBytes 4 room } e

/-- DESCRIBE (R467). -/
def execDescribe (q : Requester) (e : Envelope) (idx : BitVec 16) (sub : BitVec 8) (room : Nat) (s : State) : Host.Outcome State Fault Refusal :=
  s.carried { q := q, op := 5, idx := idx.toNat, sub := sub.toNat, data := leBytes 4 room } e

/-- ABORT (R476). -/
def execAbortTransfer (q : Requester) (e : Envelope) (idx : BitVec 16) (sub : BitVec 8) (s : State) : Host.Outcome State Fault Refusal :=
  s.carried { q := q, op := 6, idx := idx.toNat, sub := sub.toNat } e

/-- GRID_IMAGE_WRITE (R140). -/
def execGridImageWrite (q : Requester) (n : Fin 36) (g : Seg) (s : State) : Host.Outcome State Fault Refusal :=
  s.askedSegment q (Obj.gridImage n.val) g (fun r s => s.gridSegment r n.val)

end Sys2Proof.Machine
end

