-- ==== Sys2Proof/Machine/Release.lean ====
section
/-! DEFINITION. What a domain that enters or wakes, or a freeze that ends, lets go: the requests held for it are judged again (R530, R534, R589,
R594). -/

namespace Sys2Proof.Machine

open Sys2Proof

/-- A request that was held reaches the dictionary again, under the Sequence it came with (R482). [log 39 DEDUCED] -/
def State.again (s : State) (r : Request) : State :=
  match r.q with
  | .omtos k =>
    if r.seq = 0 then s.doRequest r
    else State.served (({ s with dev := s.dev.updSession (4 + k.val) (fun x => { x with curSeq := r.seq }) } : State).doRequest r) k
  | _ => s.doRequest r

/-- Every request held for domain `n` is taken up, in its order. [log 39 DEDUCED] -/
def State.release (s : State) (n : Nat) : State :=
  let rs := (s.dev.held.filter (fun x => x.domain == n)).map (·.req)
  rs.foldl (fun (s : State) r => s.again r) { s with dev := { s.dev with held := s.dev.held.filter (fun (x : Held) => x.domain != n) } }

/-! ### Domains -/

/-- ENTRY_COMPLETE: a request that waited for the entry is then a first access (R530). -/
def State.entryEnd (s : State) (n : Nat) : State := if s.dev.domState n = 3 then (s.entryDone n).release n else s

/-- WAKE_COMPLETE of domain `n` (R533 to R539), once all that it depends on is on; of IOD0 base, the boot (R527). -/
def State.wakeEnd (s : State) (n : Nat) (failed : List Nat) (puf : Bool) : State :=
  if s.dev.domState n = 4 ∧ s.dev.wakeReady n = true then
    (if n = 179 then s.baseWoken puf else (s.wakeDone n failed).release n)
  else s

/-! ### The end of a freeze (R589, R594) -/

/-- A datagram or posted write that the rim held acts as it would have on arrival. [log 39 DEDUCED] -/
def State.replay (s : State) (i : Instr) : State :=
  let z := match i with
    | .flowDatagram p u src pl ok => execFlowDatagram p u src pl ok s
    | .reedbedDatagram p u src pl ok => execReedbedDatagram p u src pl ok s
    | .heartbeat k e => execHeartbeat k e s
    | .hello p data => execHello p data s
    | .finish p data => execFinish p data s
    | _ => .next s
  match z with
  | .next t => { t with dev := { t.dev with out := s.dev.out ++ t.dev.out } }
  | _ => s

/-- A dictionary request that the rim held: an Omtos request is judged by its Sequence now. [log 39 DEDUCED] -/
def State.rimRequest (s : State) (r : Request) : State :=
  match r.q with
  | .omtos k => if r.seq = 0 then s.meet r (fun s => s.doRequest r) else s.omtosRequest k r.seq (fun s => s.meet r (fun s => s.doRequest r))
  | _ => s.meet r (fun s => s.doRequest r)

/-- What the rim held, in the order of its arrival. -/
def State.rimRelease : Nat → List (Nat × Request) → List (Nat × Instr) → State → State
  | 0, _, _, s => s
  | _ + 1, [], [], s => s
  | n + 1, r :: rs, [], s => State.rimRelease n rs [] (s.rimRequest r.2)
  | n + 1, [], f :: fs, s => State.rimRelease n [] fs (s.replay f.2)
  | n + 1, r :: rs, f :: fs, s =>
    if r.1 ≤ f.1 then State.rimRelease n rs (f :: fs) (s.rimRequest r.2) else State.rimRelease n (r :: rs) fs (s.replay f.2)

/-- STILL_RESUME (R589, R590, R594): the freeze ends; a gated rim's links have failed, open SDO transfers are aborted, and what the rim holds acts. [log 100 DEDUCED] -/
def State.stillResume (s : State) : State :=
  if s.dev.frozen = false ∨ s.dev.stopped = true then s
  else
    let s := ({ s with dev := s.dev.thaw } : State).rimFailed
    let s := ({ s with dev := (s.dev.sdoAborted 0).sdoAborted 1 } : State).loadsAborted
    let rs := (s.dev.held.filter (fun x => x.domain == rimDomain)).map (fun x => (x.sinceF, x.req))
    let fs := s.dev.rimFrames
    State.rimRelease (rs.length + fs.length) rs fs
      { s with dev := { s.dev with held := s.dev.held.filter (fun (x : Held) => x.domain != rimDomain), rimFrames := [] } }

/-- RESUME_COMPLETE (R594): a boot chain that the freeze held then runs, once the dies are cool (R617). [log 100 DEDUCED] -/
def State.resumeEnd (s : State) : State :=
  if s.dev.resumeF = 0 ∨ s.dev.frozen = true then s
  else
    let s := s.resumed
    if s.dev.bootWait && s.dev.hotDies == 0 then { s with dev := s.dev.boot } else s

/-! ### The commands -/

/-- ENTRY_COMPLETE (R530). -/
def execEntryComplete (n : Fin 181) (s : State) : Host.Outcome State Fault Refusal := s.runM (fun s => s.entryEnd n.val)

/-- WAKE_COMPLETE (R537, R538): `failed` are the slots of a cluster whose pass failed (R539); `puf` as at a boot. -/
def execWakeComplete (n : Fin 181) (failed : List (Fin 17)) (puf : Bool) (s : State) : Host.Outcome State Fault Refusal :=
  s.runM (fun s => s.wakeEnd n.val (failed.map (·.val)) puf)

/-- STILL_RESUME (R594). -/
def execStillResume (s : State) : Host.Outcome State Fault Refusal :=
  .next (if s.dev.alive then ({ s with dev := s.dev.fresh } : State).stillResume else s)

/-- RESUME_COMPLETE (R594). -/
def execResumeComplete (s : State) : Host.Outcome State Fault Refusal :=
  .next (if s.dev.alive then ({ s with dev := s.dev.fresh } : State).resumeEnd else s)

end Sys2Proof.Machine
end

