-- ==== Sys2Proof/Machine/Dispatch.lean ====
section
/-! DEFINITION. exec: one arm per command, each one call of that command's meaning. -/

namespace Sys2Proof.Machine

open Sys2Proof

def exec (i : Instr) (s : State) : Host.Outcome State Fault Refusal :=
  match i with
  | .powerOnReset straps puf still cool => Sys2Proof.Machine.execPowerOnReset straps puf still cool s
  | .warmReset puf => Sys2Proof.Machine.execWarmReset puf s
  | .holdoverEntry => Sys2Proof.Machine.execHoldoverEntry s
  | .pllRelock => Sys2Proof.Machine.execPllRelock s
  | .refclkComparison ppb => Sys2Proof.Machine.execRefclkComparison ppb s
  | .sleepEntryLatch => Sys2Proof.Machine.execSleepEntryLatch s
  | .reBasing => Sys2Proof.Machine.execReBasing s
  | .unbridgedDetect => Sys2Proof.Machine.execUnbridgedDetect s
  | .timeOffsetWrite q v => Sys2Proof.Machine.execTimeOffsetWrite q v s
  | .rateAdjustWrite q v => Sys2Proof.Machine.execRateAdjustWrite q v s
  | .disciplineModeWrite q v => Sys2Proof.Machine.execDisciplineModeWrite q v s
  | .servoMeasurement offset delay identity => Sys2Proof.Machine.execServoMeasurement offset delay identity s
  | .tickSkip h c bad => Sys2Proof.Machine.execTickSkip h c bad s
  | .triggerReconvert => Sys2Proof.Machine.execTriggerReconvert s
  | .triggerArm q n v => Sys2Proof.Machine.execTriggerArm q n v s
  | .triggerDisarm q n v => Sys2Proof.Machine.execTriggerDisarm q n v s
  | .triggerFire n => Sys2Proof.Machine.execTriggerFire n s
  | .triggerPulseEnd n => Sys2Proof.Machine.execTriggerPulseEnd n s
  | .captureTransition m level age => Sys2Proof.Machine.execCaptureTransition m level age s
  | .captureStuck m => Sys2Proof.Machine.execCaptureStuck m s
  | .captureFloodEnd m => Sys2Proof.Machine.execCaptureFloodEnd m s
  | .capPop q m => Sys2Proof.Machine.execCapPop q m s
  | .ptpEventMessage ingress egress msg residence link modifiable => Sys2Proof.Machine.execPtpEventMessage ingress egress msg residence link modifiable s
  | .syncMark n => Sys2Proof.Machine.execSyncMark n s
  | .syncAgeExpiry n => Sys2Proof.Machine.execSyncAgeExpiry n s
  | .paceCapWrite q d v => Sys2Proof.Machine.execPaceCapWrite q d v s
  | .voltageTargetWrite q d v => Sys2Proof.Machine.execVoltageTargetWrite q d v s
  | .voltageSettled d => Sys2Proof.Machine.execVoltageSettled d s
  | .voltageTimeout d => Sys2Proof.Machine.execVoltageTimeout d s
  | .tjReading d t => Sys2Proof.Machine.execTjReading d t s
  | .throttleStep d => Sys2Proof.Machine.execThrottleStep d s
  | .throttleReleaseStep d => Sys2Proof.Machine.execThrottleReleaseStep d s
  | .paceMeasureWindow d cycles => Sys2Proof.Machine.execPaceMeasureWindow d cycles s
  | .handshakeWatchdog e => Sys2Proof.Machine.execHandshakeWatchdog e s
  | .linkActivity n source nack => Sys2Proof.Machine.execLinkActivity n source nack s
  | .identityRead n pid bcr dcr serial nack => Sys2Proof.Machine.execIdentityRead n pid bcr dcr serial nack s
  | .i3cTimeout n => Sys2Proof.Machine.execI3cTimeout n s
  | .i3cInterrupt n => Sys2Proof.Machine.execI3cInterrupt n s
  | .hotJoin n => Sys2Proof.Machine.execHotJoin n s
  | .confirm q n nack => Sys2Proof.Machine.execConfirm q n nack s
  | .streamStartCommand q n nack => Sys2Proof.Machine.execStreamStartCommand q n nack s
  | .autoRestart n nack => Sys2Proof.Machine.execAutoRestart n nack s
  | .streamStopCommand q n nack => Sys2Proof.Machine.execStreamStopCommand q n nack s
  | .rebind q n => Sys2Proof.Machine.execRebind q n s
  | .linkLost n partialWords => Sys2Proof.Machine.execLinkLost n partialWords s
  | .drainComplete n => Sys2Proof.Machine.execDrainComplete n s
  | .queueStall n => Sys2Proof.Machine.execQueueStall n s
  | .csi2Packet n k => Sys2Proof.Machine.execCsi2Packet n k s
  | .flowDatagram port udp source payload fcsOk => Sys2Proof.Machine.execFlowDatagram port udp source payload fcsOk s
  | .hotWindowEnd n => Sys2Proof.Machine.execHotWindowEnd n s
  | .hotListClearAuto q n => Sys2Proof.Machine.execHotListClearAuto q n s
  | .hotListClearAll q n => Sys2Proof.Machine.execHotListClearAll q n s
  | .gridImageWrite q n g => Sys2Proof.Machine.execGridImageWrite q n g s
  | .profileVersionWrite q p v => Sys2Proof.Machine.execProfileVersionWrite q p v s
  | .spillReadBack n check => Sys2Proof.Machine.execSpillReadBack n check s
  | .gyroSample n => Sys2Proof.Machine.execGyroSample n s
  | .queueExit n => Sys2Proof.Machine.execQueueExit n s
  | .eddyEvent d meet => Sys2Proof.Machine.execEddyEvent d meet s
  | .sweepVisit d bad => Sys2Proof.Machine.execSweepVisit d bad s
  | .featureHoldExpiry p ix => Sys2Proof.Machine.execFeatureHoldExpiry p ix s
  | .shoalInput h c slot poisoned => Sys2Proof.Machine.execShoalInput h c slot poisoned s
  | .horizonWord h c slot => Sys2Proof.Machine.execHorizonWord h c slot s
  | .tickClose h c bad => Sys2Proof.Machine.execTickClose h c bad s
  | .horizonTimeout h c bad => Sys2Proof.Machine.execHorizonTimeout h c bad s
  | .buildWord l => Sys2Proof.Machine.execBuildWord l s
  | .buildTimeout l => Sys2Proof.Machine.execBuildTimeout l s
  | .buildCountCopy l => Sys2Proof.Machine.execBuildCountCopy l s
  | .tileIssue l c u => Sys2Proof.Machine.execTileIssue l c u s
  | .tileDrain l c u bad => Sys2Proof.Machine.execTileDrain l c u bad s
  | .scratchpadRead c master addr check0 check1 meet waited => Sys2Proof.Machine.execScratchpadRead c master addr check0 check1 meet waited s
  | .marchDestructive q c soft files pad slot => Sys2Proof.Machine.execMarchDestructive q c soft files pad slot s
  | .marchPreserving q c soft files pad slot => Sys2Proof.Machine.execMarchPreserving q c soft files pad slot s
  | .marchPassEnd c found => Sys2Proof.Machine.execMarchPassEnd c found s
  | .sluiceWrite k w last => Sys2Proof.Machine.execSluiceWrite k w last s
  | .sluiceRead k polling check tagBad => Sys2Proof.Machine.execSluiceRead k polling check tagBad s
  | .sluiceRelease k n => Sys2Proof.Machine.execSluiceRelease k n s
  | .sluiceReplay k => Sys2Proof.Machine.execSluiceReplay k s
  | .sluiceRewind k => Sys2Proof.Machine.execSluiceRewind k s
  | .sluiceFlush k => Sys2Proof.Machine.execSluiceFlush k s
  | .ferryStart f => Sys2Proof.Machine.execFerryStart f s
  | .heldStartQueued f => Sys2Proof.Machine.execHeldStartQueued f s
  | .descriptorRun f host clash meet => Sys2Proof.Machine.execDescriptorRun f host clash meet s
  | .gddr6Read m addr check => Sys2Proof.Machine.execGddr6Read m addr check s
  | .edcMismatch k again => Sys2Proof.Machine.execEdcMismatch k again s
  | .channelRetrainEnd k ok => Sys2Proof.Machine.execChannelRetrainEnd k ok s
  | .channelFailure k cause => Sys2Proof.Machine.execChannelFailure k cause s
  | .scrubPass found => Sys2Proof.Machine.execScrubPass found s
  | .gddr6TemperatureRead k v => Sys2Proof.Machine.execGddr6TemperatureRead k v s
  | .linkTimingRetrain k => Sys2Proof.Machine.execLinkTimingRetrain k s
  | .regionOwnerWrite q r v => Sys2Proof.Machine.execRegionOwnerWrite q r v s
  | .addWeir src w n empty => Sys2Proof.Machine.execAddWeir src w n empty s
  | .waitOn src w v => Sys2Proof.Machine.execWaitOn src w v s
  | .armWeir src w v => Sys2Proof.Machine.execArmWeir src w v s
  | .disarmWeir src w => Sys2Proof.Machine.execDisarmWeir src w s
  | .resetWeir src w => Sys2Proof.Machine.execResetWeir src w s
  | .actionRecordWrite path data => Sys2Proof.Machine.execActionRecordWrite path data s
  | .weirBlockOwnerWrite q b v => Sys2Proof.Machine.execWeirBlockOwnerWrite q b v s
  | .planImageWrite q p g => Sys2Proof.Machine.execPlanImageWrite q p g s
  | .planStart q p => Sys2Proof.Machine.execPlanStart q p s
  | .phaseStart p => Sys2Proof.Machine.execPhaseStart p s
  | .planStop q p => Sys2Proof.Machine.execPlanStop q p s
  | .planStopped p => Sys2Proof.Machine.execPlanStopped p s
  | .planUnload q p => Sys2Proof.Machine.execPlanUnload q p s
  | .phaseTimeout p => Sys2Proof.Machine.execPhaseTimeout p s
  | .stallTimeout p => Sys2Proof.Machine.execStallTimeout p s
  | .spiFrameTrigger k => Sys2Proof.Machine.execSpiFrameTrigger k s
  | .spiFrameDone k data => Sys2Proof.Machine.execSpiFrameDone k data s
  | .canFrame k id extended data age => Sys2Proof.Machine.execCanFrame k id extended data age s
  | .reedbedDatagram port udp source payload fcsOk => Sys2Proof.Machine.execReedbedDatagram port udp source payload fcsOk s
  | .internalSample c => Sys2Proof.Machine.execInternalSample c s
  | .gapFill c => Sys2Proof.Machine.execGapFill c s
  | .channelStart q c => Sys2Proof.Machine.execChannelStart q c s
  | .channelStop q c => Sys2Proof.Machine.execChannelStop q c s
  | .presetRequest q c v => Sys2Proof.Machine.execPresetRequest q c v s
  | .splatInput => Sys2Proof.Machine.execSplatInput s
  | .spikeWord => Sys2Proof.Machine.execSpikeWord s
  | .tickWord => Sys2Proof.Machine.execTickWord s
  | .deliveryRead n age => Sys2Proof.Machine.execDeliveryRead n age s
  | .egoRecord => Sys2Proof.Machine.execEgoRecord s
  | .instantClose => Sys2Proof.Machine.execInstantClose s
  | .instantDrainEnd bad => Sys2Proof.Machine.execInstantDrainEnd bad s
  | .featureConversionEnd => Sys2Proof.Machine.execFeatureConversionEnd s
  | .fusionStart q => Sys2Proof.Machine.execFusionStart q s
  | .fusionStop q => Sys2Proof.Machine.execFusionStop q s
  | .calibrationImageWrite q n g => Sys2Proof.Machine.execCalibrationImageWrite q n g s
  | .linkUp h speed => Sys2Proof.Machine.execLinkUp h speed s
  | .linkDown h queued => Sys2Proof.Machine.execLinkDown h queued s
  | .detach q h => Sys2Proof.Machine.execDetach q h s
  | .detachComplete h written => Sys2Proof.Machine.execDetachComplete h written s
  | .tenantHoldExpiry t => Sys2Proof.Machine.execTenantHoldExpiry t s
  | .announcement port lease => Sys2Proof.Machine.execAnnouncement port lease s
  | .lldpTransmit port lease => Sys2Proof.Machine.execLldpTransmit port lease s
  | .lldpReceive port data fcsOk => Sys2Proof.Machine.execLldpReceive port data fcsOk s
  | .heartbeat k e => Sys2Proof.Machine.execHeartbeat k e s
  | .heartbeatMiss k => Sys2Proof.Machine.execHeartbeatMiss k s
  | .canBusOffRecovery k => Sys2Proof.Machine.execCanBusOffRecovery k s
  | .clusterOwnerWrite q c v => Sys2Proof.Machine.execClusterOwnerWrite q c v s
  | .channelOwnerWrite q n v => Sys2Proof.Machine.execChannelOwnerWrite q n v s
  | .enable q n => Sys2Proof.Machine.execEnable q n s
  | .disable q n => Sys2Proof.Machine.execDisable q n s
  | .recordForm n => Sys2Proof.Machine.execRecordForm n s
  | .recordDeliver n => Sys2Proof.Machine.execRecordDeliver n s
  | .batchTimeExpiry n => Sys2Proof.Machine.execBatchTimeExpiry n s
  | .consumerIndexPoll n => Sys2Proof.Machine.execConsumerIndexPoll n s
  | .consumerIndexReturn n v => Sys2Proof.Machine.execConsumerIndexReturn n v s
  | .ethConsumerIndexWrite q n v => Sys2Proof.Machine.execEthConsumerIndexWrite q n v s
  | .readObj q e idx sub offset first last room => Sys2Proof.Machine.execReadObj q e idx sub offset first last room s
  | .writeObj q e idx sub g => Sys2Proof.Machine.execWriteObj q e idx sub g s
  | .writeIf q e idx sub data => Sys2Proof.Machine.execWriteIf q e idx sub data s
  | .readRecord q e idx sub room => Sys2Proof.Machine.execReadRecord q e idx sub room s
  | .describe q e idx sub room => Sys2Proof.Machine.execDescribe q e idx sub room s
  | .abortTransfer q e idx sub => Sys2Proof.Machine.execAbortTransfer q e idx sub s
  | .transferIdleTimeout q => Sys2Proof.Machine.execTransferIdleTimeout q s
  | .hello p data => Sys2Proof.Machine.execHello p data s
  | .finish p data => Sys2Proof.Machine.execFinish p data s
  | .attestReportRead q => Sys2Proof.Machine.execAttestReportRead q s
  | .rollbackCommit q => Sys2Proof.Machine.execRollbackCommit q s
  | .provisioningCommand q => Sys2Proof.Machine.execProvisioningCommand q s
  | .recoveryImageWrite q g => Sys2Proof.Machine.execRecoveryImageWrite q g s
  | .recordRekey q => Sys2Proof.Machine.execRecordRekey q s
  | .linkRekey q => Sys2Proof.Machine.execLinkRekey q s
  | .linkKeySwitch p => Sys2Proof.Machine.execLinkKeySwitch p s
  | .debugAuthorisation q g => Sys2Proof.Machine.execDebugAuthorisation q g s
  | .trngHealthBlock pass => Sys2Proof.Machine.execTrngHealthBlock pass s
  | .domainOn q n => Sys2Proof.Machine.execDomainOn q n s
  | .domainRetention q n => Sys2Proof.Machine.execDomainRetention q n s
  | .domainOff q n => Sys2Proof.Machine.execDomainOff q n s
  | .entryComplete n => Sys2Proof.Machine.execEntryComplete n s
  | .iod0BaseOff => Sys2Proof.Machine.execIod0BaseOff s
  | .firstAccess n who write master addr => Sys2Proof.Machine.execFirstAccess n who write master addr s
  | .wakeComplete n failed puf => Sys2Proof.Machine.execWakeComplete n failed puf s
  | .wakeInput ix level => Sys2Proof.Machine.execWakeInput ix level s
  | .wakeStuck ix => Sys2Proof.Machine.execWakeStuck ix s
  | .padRelease q n => Sys2Proof.Machine.execPadRelease q n s
  | .railPowerGood r => Sys2Proof.Machine.execRailPowerGood r s
  | .railTimeout r => Sys2Proof.Machine.execRailTimeout r s
  | .railReading r reading => Sys2Proof.Machine.execRailReading r reading s
  | .linkCrcError l => Sys2Proof.Machine.execLinkCrcError l s
  | .laneRetrainEnd l lane => Sys2Proof.Machine.execLaneRetrainEnd l lane s
  | .faultDetection x detail => Sys2Proof.Machine.execFaultDetection x detail s
  | .faultHandle q stuck => Sys2Proof.Machine.execFaultHandle q stuck s
  | .recoveryComplete q => Sys2Proof.Machine.execRecoveryComplete q s
  | .handlingDeadline q => Sys2Proof.Machine.execHandlingDeadline q s
  | .dieRecover q d v => Sys2Proof.Machine.execDieRecover q d v s
  | .slotRetest q c v => Sys2Proof.Machine.execSlotRetest q c v s
  | .alertClear q v => Sys2Proof.Machine.execAlertClear q v s
  | .sedimentTick => Sys2Proof.Machine.execSedimentTick s
  | .commitComplete => Sys2Proof.Machine.execCommitComplete s
  | .stillFreeze => Sys2Proof.Machine.execStillFreeze s
  | .freezeAck => Sys2Proof.Machine.execFreezeAck s
  | .rimHoldExpiry => Sys2Proof.Machine.execRimHoldExpiry s
  | .stillResume => Sys2Proof.Machine.execStillResume s
  | .resumeComplete => Sys2Proof.Machine.execResumeComplete s
  | .readoutData addr => Sys2Proof.Machine.execReadoutData addr s
  | .pathRecalibrationEnd => Sys2Proof.Machine.execPathRecalibrationEnd s
  | .i3cStaticAddressWrite q n v => Sys2Proof.Machine.execI3cStaticAddressWrite q n v s
  | .capControlWrite q m v => Sys2Proof.Machine.execCapControlWrite q m v s
  | .wakeControlWrite q ix v => Sys2Proof.Machine.execWakeControlWrite q ix v s
  | .channelPathWrite q n v => Sys2Proof.Machine.execChannelPathWrite q n v s
  | .tenantHostKeysWrite q x => Sys2Proof.Machine.execTenantHostKeysWrite q x s
  | .completionTimeout r => Sys2Proof.Machine.execCompletionTimeout r s
  | .lossOfSupplies => Sys2Proof.Machine.execLossOfSupplies s

end Sys2Proof.Machine
end

