-- ==== Sys2Proof/Machine/Tick.lean ====
section
/-! DEFINITION. What passes of itself while no command waits: one nanosecond (notes/assumptions/1). F advances by one cycle of its 1 GHz clock while
the clocked domain runs (R75, R88), a freeze included (R591); the AON counter advances at 32.768 kHz, one edge in every
30,517.578125 ns (R87, R89), which is 15,625,000 times 1/512 ns. -/

namespace Sys2Proof.Machine

open Sys2Proof

/-- The AON domain one nanosecond later. [log 1 DESIGN CHOICE] -/
def Dev.tickAon (s : Dev) : Dev :=
  if s.aonPhase + 512 < aonPeriod then { s with aonPhase := s.aonPhase + 512 }
  else { s with aonPhase := s.aonPhase + 512 - aonPeriod, aon := s.aon + 1 }

/-- The counter F one nanosecond later: 64 bits (R75). [log 1 DESIGN CHOICE] -/
def Dev.tickF (s : Dev) : Dev := if s.stopped then s else { s with f := (s.f + 1) % 2 ^ 64 }

/-- The device one nanosecond later; without supplies or in reset nothing runs (R607, R608). [log 1 DESIGN CHOICE] -/
def Dev.tick (s : Dev) : Dev := if s.alive then ({ s with out := [] } : Dev).tickAon.tickF else s

/-- The block one nanosecond later. [log 1 DESIGN CHOICE] -/
def State.tick (s : State) : State := { s with dev := s.dev.tick }

end Sys2Proof.Machine
end

