-- ==== Sys2Proof/WellFormed.lean ====
section
/-! DEFINITION. Which commands are well formed: the operands that a type does not bound lie within what the spec allows a sender. A meaning
is total on ill-formed commands too; no agent of the device sends one. -/

namespace Sys2Proof

/-- An Omtos source is an IPv4 address and a UDP port (R480). -/
def requesterOk (q : Requester) : Bool :=
  match q with
  | .source ip udp => decide (ip < 2 ^ 32) && decide (udp < 2 ^ 16)
  | .mailbox _ _ => true
  | .omtos _ => true
  | .can _ => true

/-- The same of a session's peer (R506). -/
def peerOk (p : SessionPeer) : Bool :=
  match p with
  | .omtos ip udp _ => decide (ip < 2 ^ 32) && decide (udp < 2 ^ 16)
  | .port _ => true

/-- The same of who makes a weir operation (R341). -/
def sourceOk (s : WeirSource) : Bool :=
  match s with
  | .request q => requesterOk q
  | .window _ => true
  | .cluster _ => true
  | .ferry _ => true
  | .blockOwner => true

/-- The same of how an action record is written (R347). -/
def pathOk (p : RecordPath) : Bool :=
  match p with
  | .request q => requesterOk q
  | .window _ _ => true

/-- A segment has a 32-bit offset and at most the 4,096 bytes of a mailbox's buffer (R474, R478). -/
def segOk (g : Seg) : Bool := decide (g.offset < 2 ^ 32) && decide (g.data.length ≤ 4096)

/-- The room for a response: a mailbox's buffer holds 4,096 bytes, an Omtos datagram 1,024 (R467, R478, R482). -/
def roomOk (q : Requester) (room : Nat) : Bool :=
  match q with
  | .mailbox _ _ => decide (room ≤ 4096)
  | .omtos _ => decide (room ≤ 1024)
  | .source _ _ => decide (room ≤ 1024)
  | .can _ => decide (room ≤ 4096)

/-- A CSI-2 packet: 16 virtual channels, six bits of data type; a short packet carries two bytes, a long one what its 16-bit
word count says (R119, R120). -/
def packetOk (k : CsiPacket) : Bool :=
  decide (k.vc < 16) && decide (k.dt < 64) && (if k.dt < 16 then k.payload.length == 2 else decide (k.payload.length < 2 ^ 16))

/-- The data lengths of a CAN FD frame (R439). -/
def canLength (n : Nat) : Bool := decide (n ≤ 8) || [12, 16, 20, 24, 32, 48, 64].contains n

/-- A key digest has 32 bytes (R499). -/
def partitionOk (x : PartitionWrite) : Bool :=
  match x with
  | .hostKeys _ _ d => d.length == 32
  | .streamTenant _ _ => true
  | .fusionOwner _ => true
  | .tenantWeight _ _ => true

/-- A pass reports each element once, and what it reports is a failure (R291). -/
def marchOk (found : List MarchFound) : Bool :=
  decide (found.map (fun x => x.elem)).Nodup && found.all (fun x => decide (0 < x.columns) || x.word)

/-- Whether a command is well formed. -/
def Instr.wellFormed (i : Instr) : Bool :=
  match i with
  | .powerOnReset _ _ _ _ => true
  | .warmReset _ => true
  | .holdoverEntry => true
  | .pllRelock => true
  | .refclkComparison _ => true
  | .sleepEntryLatch => true
  | .reBasing => true
  | .unbridgedDetect => true
  | .timeOffsetWrite q _ => requesterOk q
  | .rateAdjustWrite q _ => requesterOk q
  | .disciplineModeWrite q _ => requesterOk q
  | .servoMeasurement _ _ identity => identity.length == 8
  | .tickSkip _ _ _ => true
  | .triggerReconvert => true
  | .triggerArm q _ _ => requesterOk q
  | .triggerDisarm q _ _ => requesterOk q
  | .triggerFire _ => true
  | .triggerPulseEnd _ => true
  | .captureTransition _ _ _ => true
  | .captureStuck _ => true
  | .captureFloodEnd _ => true
  | .capPop q _ => requesterOk q
  | .ptpEventMessage ingress egress _ _ _ _ => ingress != egress
  | .syncMark _ => true
  | .syncAgeExpiry _ => true
  | .paceCapWrite q _ _ => requesterOk q
  | .voltageTargetWrite q _ _ => requesterOk q
  | .voltageSettled _ => true
  | .voltageTimeout _ => true
  | .tjReading _ _ => true
  | .throttleStep _ => true
  | .throttleReleaseStep _ => true
  | .paceMeasureWindow _ _ => true
  | .handshakeWatchdog _ => true
  | .linkActivity _ source _ => source.length == 16
  | .identityRead _ pid _ _ serial _ => pid.length == 6 && decide (serial.length ≤ 8)
  | .i3cTimeout _ => true
  | .i3cInterrupt _ => true
  | .hotJoin _ => true
  | .confirm q _ _ => requesterOk q
  | .streamStartCommand q _ _ => requesterOk q
  | .autoRestart _ _ => true
  | .streamStopCommand q _ _ => requesterOk q
  | .rebind q _ => requesterOk q
  | .linkLost _ _ => true
  | .drainComplete _ => true
  | .queueStall _ => true
  | .csi2Packet _ k => packetOk k
  | .flowDatagram _ udp source _ _ => decide (udp < 2 ^ 16) && source.length == 16
  | .hotWindowEnd _ => true
  | .hotListClearAuto q _ => requesterOk q
  | .hotListClearAll q _ => requesterOk q
  | .gridImageWrite q _ g => requesterOk q && segOk g
  | .profileVersionWrite q _ _ => requesterOk q
  | .spillReadBack _ _ => true
  | .gyroSample _ => true
  | .queueExit _ => true
  | .eddyEvent _ _ => true
  | .sweepVisit _ _ => true
  | .featureHoldExpiry _ _ => true
  | .shoalInput _ _ _ _ => true
  | .horizonWord _ _ _ => true
  | .tickClose _ _ _ => true
  | .horizonTimeout _ _ _ => true
  | .buildWord _ => true
  | .buildTimeout _ => true
  | .buildCountCopy _ => true
  | .tileIssue _ _ _ => true
  | .tileDrain _ _ _ _ => true
  | .scratchpadRead _ _ _ _ _ _ _ => true
  | .marchDestructive q _ _ _ _ _ => requesterOk q
  | .marchPreserving q _ _ _ _ _ => requesterOk q
  | .marchPassEnd _ found => marchOk found
  | .sluiceWrite _ _ _ => true
  | .sluiceRead _ _ _ _ => true
  | .sluiceRelease _ _ => true
  | .sluiceReplay _ => true
  | .sluiceRewind _ => true
  | .sluiceFlush _ => true
  | .ferryStart _ => true
  | .heldStartQueued _ => true
  | .descriptorRun _ _ _ _ => true
  | .gddr6Read _ _ _ => true
  | .edcMismatch _ _ => true
  | .channelRetrainEnd _ _ => true
  | .channelFailure _ _ => true
  | .scrubPass _ => true
  | .gddr6TemperatureRead _ _ => true
  | .linkTimingRetrain _ => true
  | .regionOwnerWrite q _ _ => requesterOk q
  | .addWeir src _ _ _ => sourceOk src
  | .waitOn src _ _ => sourceOk src
  | .armWeir src _ _ => sourceOk src
  | .disarmWeir src _ => sourceOk src
  | .resetWeir src _ => sourceOk src
  | .actionRecordWrite path data => pathOk path && data.length == 32
  | .weirBlockOwnerWrite q _ _ => requesterOk q
  | .planImageWrite q _ g => requesterOk q && segOk g
  | .planStart q _ => requesterOk q
  | .phaseStart _ => true
  | .planStop q _ => requesterOk q
  | .planStopped _ => true
  | .planUnload q _ => requesterOk q
  | .phaseTimeout _ => true
  | .stallTimeout _ => true
  | .spiFrameTrigger _ => true
  | .spiFrameDone _ _ => true
  | .canFrame _ id extended data _ => canLength data.length && (extended || decide (id.toNat < 2 ^ 11))
  | .reedbedDatagram _ udp source _ _ => decide (udp < 2 ^ 16) && source.length == 16
  | .internalSample _ => true
  | .gapFill _ => true
  | .channelStart q _ => requesterOk q
  | .channelStop q _ => requesterOk q
  | .presetRequest q _ _ => requesterOk q
  | .splatInput => true
  | .spikeWord => true
  | .tickWord => true
  | .deliveryRead _ _ => true
  | .egoRecord => true
  | .instantClose => true
  | .instantDrainEnd _ => true
  | .featureConversionEnd => true
  | .fusionStart q => requesterOk q
  | .fusionStop q => requesterOk q
  | .calibrationImageWrite q _ g => requesterOk q && segOk g
  | .linkUp _ _ => true
  | .linkDown _ _ => true
  | .detach q _ => requesterOk q
  | .detachComplete _ _ => true
  | .tenantHoldExpiry _ => true
  | .announcement _ _ => true
  | .lldpTransmit _ _ => true
  | .lldpReceive _ _ _ => true
  | .heartbeat _ _ => true
  | .heartbeatMiss _ => true
  | .canBusOffRecovery _ => true
  | .clusterOwnerWrite q _ _ => requesterOk q
  | .channelOwnerWrite q _ _ => requesterOk q
  | .enable q _ => requesterOk q
  | .disable q _ => requesterOk q
  | .recordForm _ => true
  | .recordDeliver _ => true
  | .batchTimeExpiry _ => true
  | .consumerIndexPoll _ => true
  | .consumerIndexReturn _ _ => true
  | .ethConsumerIndexWrite q _ _ => requesterOk q
  | .readObj q _ _ _ offset _ _ room => requesterOk q && decide (offset < 2 ^ 32) && roomOk q room
  | .writeObj q _ _ _ g => requesterOk q && segOk g
  | .writeIf q _ _ _ data => requesterOk q && decide (data.length ≤ 4096)
  | .readRecord q _ _ _ room => requesterOk q && roomOk q room
  | .describe q _ _ _ room => requesterOk q && roomOk q room
  | .abortTransfer q _ _ _ => requesterOk q
  | .transferIdleTimeout q => requesterOk q
  | .hello p _ => peerOk p
  | .finish p _ => peerOk p
  | .attestReportRead q => requesterOk q
  | .rollbackCommit q => requesterOk q
  | .provisioningCommand q => requesterOk q
  | .recoveryImageWrite q g => requesterOk q && segOk g
  | .recordRekey q => requesterOk q
  | .linkRekey q => requesterOk q
  | .linkKeySwitch _ => true
  | .debugAuthorisation q g => requesterOk q && segOk g
  | .trngHealthBlock _ => true
  | .domainOn q _ => requesterOk q
  | .domainRetention q _ => requesterOk q
  | .domainOff q _ => requesterOk q
  | .entryComplete _ => true
  | .iod0BaseOff => true
  | .firstAccess _ _ _ _ _ => true
  | .wakeComplete _ _ _ => true
  | .wakeInput _ _ => true
  | .wakeStuck _ => true
  | .padRelease q _ => requesterOk q
  | .railPowerGood _ => true
  | .railTimeout _ => true
  | .railReading _ _ => true
  | .linkCrcError _ => true
  | .laneRetrainEnd _ _ => true
  | .faultDetection _ _ => true
  | .faultHandle _ _ => true
  | .recoveryComplete _ => true
  | .handlingDeadline _ => true
  | .dieRecover q _ _ => requesterOk q
  | .slotRetest q _ _ => requesterOk q
  | .alertClear q _ => requesterOk q
  | .sedimentTick => true
  | .commitComplete => true
  | .stillFreeze => true
  | .freezeAck => true
  | .rimHoldExpiry => true
  | .stillResume => true
  | .resumeComplete => true
  | .readoutData _ => true
  | .pathRecalibrationEnd => true
  | .i3cStaticAddressWrite q _ _ => requesterOk q
  | .capControlWrite q _ _ => requesterOk q
  | .wakeControlWrite q _ _ => requesterOk q
  | .channelPathWrite q _ _ => requesterOk q
  | .tenantHostKeysWrite q x => requesterOk q && partitionOk x
  | .completionTimeout _ => true
  | .lossOfSupplies => true

end Sys2Proof
end

