-- ==== Sys2Proof/Safety.lean ====
section
/-! DEFINITION. What claims mean by a sound state, by a command that completes, and by what a command leaves alone, in the terms of the model. -/

namespace Sys2Proof.Machine

open Sys2Proof

/-- Both addressed memories, and the marks beside them, are in their canonical form. -/
def State.memOk (s : State) : Prop := Mem.wf s.mem

/-- The outcome is a next state that has a property. -/
def nextHas (o : Host.Outcome State Fault Refusal) (p : State → Prop) : Prop := ∃ t, o = .next t ∧ p t

/-- The memories and the queue of waiting commands are as they were: every byte of a scratchpad and of GDDR6 reads as before. -/
def State.sameRest (s t : State) : Prop := t.mem = s.mem ∧ t.pending = s.pending

/-- Every dictionary register reads as before but those whose keys (index × 256 + subindex) are listed. -/
def Dev.regsKept (s t : Dev) (ks : List Nat) : Prop := ∀ r : Reg, r.key ∉ ks → t.rd r = s.rd r

/-- The same of a request that is answered, whose answer the transport counters 0x1110 count (R488). -/
def Dev.regsKeptAnswered (s t : Dev) (ks : List Nat) : Prop := ∀ r : Reg, r.key / 256 ≠ 0x1110 → r.key ∉ ks → t.rd r = s.rd r

/-- The blocks of power domain `n` work (R522): the device is on, not frozen and not stopped, and the domain is on. -/
def Dev.up (s : Dev) (n : Nat) : Prop := s.working = true ∧ s.domOn n = true

/-- The device works and its transports are open, recovery aside (R490, R494). -/
def Dev.opened (s : Dev) : Prop := s.working = true ∧ s.bootWait = false ∧ s.bit Obj.securityState 2 = false

/-- A write of `v` to register `r` by `q` reaches its effect: the transports are open, the checks of R469 pass, and the domains that the request needs
are on (R534). -/
def Dev.hears (s : Dev) (q : Requester) (r : Reg) (v : Nat) : Prop :=
  s.opened ∧ s.judge q r v = .ok ∧ ∀ n ∈ s.needs (writeReq q r v), s.domOn n = true

/-- The device answered a request of `q` with a status and no value: a CAN FD controller with the abort code of R468 beside it (R484). -/
def Dev.told (s : Dev) (q : Requester) (st : Status) : Prop := .response q st.code (st.shown q) ∈ s.out

/-- An operation on weir `w` reaches the weir's die (R341, R347, R348, R535): the domain of the die's weirs is on, the die takes operations, and a host's operation
comes through an open transport, a WeirOp write of `data` having passed the checks of R469. -/
def Dev.weirMeets (s : Dev) (src : WeirSource) (w : Nat) (data : List Byte) : Prop :=
  s.working = true ∧ s.domOn (132 + w / 4096) = true ∧ s.dieOut (w / 4096) = false ∧
  match src with
  | .window _ => s.opened
  | .request q => s.opened ∧ s.judgeWrite q 2 0x6810 0 data = .ok
  | _ => True

/-- A request for object `idx`.`sub` as it comes from `q`: the transports are open and no domain that the request needs is anything but on (R490, R534). -/
def Dev.reaches (s : Dev) (r : Request) : Prop := s.opened ∧ ∀ n ∈ s.needs r, s.domOn n = true

/-- The transport of `q` takes up a request in envelope `e` (R479, R481 to R484): a mailbox that is not Busy, a tagged datagram of the next Sequences, a datagram of an
accepted version outside a session, a CAN FD controller that serves no other request. -/
def Dev.admits (s : Dev) (q : Requester) (e : Envelope) : Prop :=
  s.opened ∧ match q with
  | .mailbox p m => (Tab.get ({} : Mailbox) s.mailboxes (p.val * 4 + m.val)).busy = false
  | .omtos k => s.slotAttached k.val = true ∧ e.tagOk = true ∧ e.seq ≠ 0 ∧ 1 ≤ stampDiff 32 e.seq.toNat (s.session (4 + k.val)).highSeq ∧
      stampDiff 32 e.seq.toNat (s.session (4 + k.val)).highSeq ≤ 8
  | .source _ _ => 0x0100 ≤ e.version.toNat ∧ e.version.toNat ≤ 0x0102 ∧ (s.session (sessOf q)).omtosVersion = e.version.toNat
  | .can _ => s.canBusy q = false

end Sys2Proof.Machine
end

