-- ==== Sys2Proof/Certificates/Slice0/Obligations.lean ====
section
/-! DEFINITION. The statements about the block, one proposition each. A docstring cites the rules that its statement follows; where a clause rests on a
choice of the model's own it names the entry of the assumption log. -/

open Sys2Proof Sys2Proof.Machine

/-! ### The time base (chapter 3) -/

/-- R86: holdover sets Holdover and clears Locked; the relock clears Holdover and leaves what the holdover added to Uncertainty; every other bit of
TimeStatus and every other register stands.
R87: a comparison within the limit clears RefFault and touches no other register; one beyond it sets RefFault. Holdover suspends it.
R89, R90, R92: at wake F takes F0 and the AON ticks elapsed modulo 2³² at an AON edge, the next one where none has just passed; LastCoast shows the sleep, Coasted sets, Uncertainty grows and saturates, and an
unbridged sleep shows; then everything follows that follows a step of device time (R93, R162, R192, R374, R416).
R78, R83, R91: TimeOffset is written in HOST mode alone. There it is a step, counted, that clears Coasted, Unbridged and Uncertainty; the same value again
steps nothing. In any other mode the write is refused with STATE and changes no register.
(Choices of the model's that it rests on: notes/assumptions 10, 16, 17, 18.) -/
def Obligations.ReferenceAndRebasing : Prop :=
  (∀ s : State, s.dev.up 179 →
    (s.dev.bit Obj.timeStatus 5 = false → nextHas (exec .holdoverEntry s) (fun t =>
      t.dev.bit Obj.timeStatus 5 = true ∧ t.dev.bit Obj.timeStatus 3 = false ∧ t.dev.holdoverF = s.dev.f ∧ t.dev.f = s.dev.f ∧
      (∀ i, i < 32 → i ≠ 3 → i ≠ 5 → t.dev.bit Obj.timeStatus i = s.dev.bit Obj.timeStatus i) ∧
      s.dev.regsKept t.dev [Obj.timeStatus.key] ∧ s.sameRest t)) ∧
    (s.dev.bit Obj.timeStatus 5 = true → nextHas (exec .pllRelock s) (fun t =>
      t.dev.bit Obj.timeStatus 5 = false ∧ t.dev.f = s.dev.f ∧
      t.dev.rd Obj.uncertainty = min (s.dev.rd Obj.uncertainty + 50 * ((s.dev.f - s.dev.holdoverF) / 1000000)) 0xFFFFFFFF ∧
      (∀ i, i < 32 → i ≠ 5 → t.dev.bit Obj.timeStatus i = s.dev.bit Obj.timeStatus i) ∧
      s.dev.regsKept t.dev [Obj.timeStatus.key, Obj.uncertainty.key] ∧ s.sameRest t))) ∧
  (∀ (s : State) (ppb : BitVec 32), s.dev.up 179 →
    (s.dev.bit Obj.timeStatus 5 = false → s.dev.cmpFromF + 1000000000 ≤ s.dev.f → ppb.toInt.natAbs ≤ (500 + s.dev.rd Obj.aonCrystalPpm) * 1000 →
      nextHas (exec (.refclkComparison ppb) s) (fun t =>
        t.dev.bit Obj.timeStatus 6 = false ∧ (∀ i, i < 32 → i ≠ 6 → t.dev.bit Obj.timeStatus i = s.dev.bit Obj.timeStatus i) ∧
        s.dev.regsKept t.dev [Obj.timeStatus.key] ∧ s.sameRest t)) ∧
    (s.dev.bit Obj.timeStatus 5 = false → s.dev.cmpFromF + 1000000000 ≤ s.dev.f → (500 + s.dev.rd Obj.aonCrystalPpm) * 1000 < ppb.toInt.natAbs →
      nextHas (exec (.refclkComparison ppb) s) (fun t => t.dev.bit Obj.timeStatus 6 = true ∧ s.sameRest t)) ∧
    (s.dev.bit Obj.timeStatus 5 = true → nextHas (exec (.refclkComparison ppb) s) (fun t => s.dev.regsKept t.dev [] ∧ s.sameRest t))) ∧
  (∀ s : State, s.dev.alive = true → s.dev.stopped = true → s.dev.domState 179 = 4 →
    nextHas (exec .reBasing s) (fun t => ∃ u : State, t = u.timeStepped 2 ∧
      let edge := if s.dev.aonPhase < 512 then s.dev.aon else s.dev.aon + 1
      let ns := (edge - s.dev.a0) % 2 ^ 32 * 15625000 / 512
      u.dev.f = (s.dev.f0 + ns) % 2 ^ 64 ∧ u.dev.stopped = false ∧ u.dev.aon = edge ∧
      u.dev.rd Obj.lastCoast = ns % 2 ^ 64 ∧ u.dev.bit Obj.timeStatus 4 = true ∧
      u.dev.bit Obj.timeStatus 8 = (s.dev.bit Obj.timeStatus 8 || s.dev.unbridged) ∧
      u.dev.rd Obj.uncertainty = min 0xFFFFFFFF
        (if s.dev.unbridged then 0xFFFFFFFF else s.dev.uncertaintyNow + 1000 + ns * s.dev.rd Obj.aonCrystalPpm / 1000000) ∧
      s.dev.regsKept u.dev [Obj.timeStatus.key, Obj.uncertainty.key, Obj.lastCoast.key] ∧ s.sameRest u)) ∧
  (∀ (s : State) (q : Requester) (v : BitVec 64), s.dev.hears q Obj.timeOffset v.toNat →
    (s.dev.rd Obj.disciplineMode ≠ 1 → nextHas (exec (.timeOffsetWrite q v) s) (fun t =>
      t.dev.told q .state ∧ s.dev.regsKeptAnswered t.dev [] ∧ s.sameRest t)) ∧
    (s.dev.rd Obj.disciplineMode = 1 → s.dev.rdI Obj.timeOffset = v.toInt → nextHas (exec (.timeOffsetWrite q v) s) (fun t =>
      t.dev.told q .ok ∧ t.dev.bit Obj.timeStatus 4 = false ∧ t.dev.bit Obj.timeStatus 8 = false ∧ t.dev.rd Obj.uncertainty = 0 ∧
      s.dev.regsKeptAnswered t.dev [Obj.timeStatus.key, Obj.uncertainty.key] ∧ s.sameRest t)) ∧
    (s.dev.rd Obj.disciplineMode = 1 → s.dev.rdI Obj.timeOffset ≠ v.toInt → nextHas (exec (.timeOffsetWrite q v) s) (fun t =>
      t.dev.told q .ok ∧ ∃ u : State, t = { u.timeStepped 1 with dev := (u.timeStepped 1).dev.accept q } ∧
        u.dev.rdI Obj.timeOffset = v.toInt ∧ u.dev.rd Obj.stepCount = (s.dev.rd Obj.stepCount + 1) % 2 ^ 32 ∧
        u.dev.bit Obj.timeStatus 4 = false ∧ u.dev.bit Obj.timeStatus 8 = false ∧ u.dev.rd Obj.uncertainty = 0 ∧ u.dev.f = s.dev.f ∧
        s.dev.regsKept u.dev [Obj.timeStatus.key, Obj.uncertainty.key, Obj.timeOffset.key, Obj.stepCount.key] ∧ s.sameRest u)))

/-- R88, R92: on the way to sleep F and the AON count are latched at an AON edge, the next one where none has just passed, and the clocked domain stops; a sleep of 2³² AON
ticks is seen. No register changes. -/
def Obligations.SleepLatchesTime : Prop :=
  ∀ s : State, s.dev.alive = true →
    (s.dev.entryWait = true → s.dev.aonPhase < 512 → nextHas (exec .sleepEntryLatch s) (fun t =>
      t.dev = { s.dev with out := [], f0 := s.dev.f, a0 := s.dev.aon, unbridged := false, entryWait := false, stopped := true } ∧ s.sameRest t)) ∧
    (s.dev.entryWait = true → 512 ≤ s.dev.aonPhase → s.dev.stopped = false → nextHas (exec .sleepEntryLatch s) (fun t =>
      t.dev.a0 = s.dev.aon + 1 ∧ t.dev.aon = t.dev.a0 ∧ t.dev.f0 = (s.dev.f + (aonPeriod - s.dev.aonPhase + 511) / 512) % 2 ^ 64 ∧ t.dev.f = t.dev.f0 ∧
      t.dev.stopped = true ∧ t.dev.entryWait = false ∧ t.dev.unbridged = false ∧ s.dev.regsKept t.dev [] ∧ s.sameRest t)) ∧
    (s.dev.stopped = true → s.dev.a0 + 2 ^ 32 ≤ s.dev.aon → nextHas (exec .unbridgedDetect s) (fun t =>
      t.dev = { s.dev with out := [], unbridged := true } ∧ s.sameRest t))

/-- R77: where RateAdjust changes, TimeOffset takes up the difference of the two rate terms at the present F, so that device time goes on from where it was (within
TimeOffset's 64 bits) and nothing else is written: it is no step. So for every change (`rateTo`, which the servos use too), and so for a write, which HOST mode takes and any
other refuses with STATE. -/
def Obligations.RateChangeKeepsDeviceTime : Prop :=
  (∀ (d : Dev) (b : Int), -(2 ^ 31) ≤ b → b < 2 ^ 31 →
    (let o := d.rdI Obj.timeOffset + (rateTerm (d.rdI Obj.rateAdjust) d.f - rateTerm b d.f); -(2 ^ 63) ≤ o ∧ o < 2 ^ 63) →
    (d.rateTo b).rdI Obj.rateAdjust = b ∧
    (d.rateTo b).rdI Obj.timeOffset = d.rdI Obj.timeOffset + (rateTerm (d.rdI Obj.rateAdjust) d.f - rateTerm b d.f) ∧
    (d.rateTo b).dt = d.dt ∧ (d.rateTo b).f = d.f ∧ d.regsKept (d.rateTo b) [Obj.timeOffset.key, Obj.rateAdjust.key]) ∧
  (∀ (s : State) (q : Requester) (v : BitVec 32), s.dev.hears q Obj.rateAdjust v.toNat →
    (s.dev.rd Obj.disciplineMode ≠ 1 → nextHas (exec (.rateAdjustWrite q v) s) (fun t =>
      t.dev.told q .state ∧ s.dev.regsKeptAnswered t.dev [] ∧ s.sameRest t)) ∧
    (s.dev.rd Obj.disciplineMode = 1 →
      (let o := s.dev.rdI Obj.timeOffset + (rateTerm (s.dev.rdI Obj.rateAdjust) s.dev.f - rateTerm v.toInt s.dev.f); -(2 ^ 63) ≤ o ∧ o < 2 ^ 63) →
      nextHas (exec (.rateAdjustWrite q v) s) (fun t =>
        t.dev.told q .ok ∧ t.dev.rdI Obj.rateAdjust = v.toInt ∧ t.dev.dt = s.dev.dt ∧ t.dev.f = s.dev.f ∧
        s.dev.regsKeptAnswered t.dev [Obj.timeOffset.key, Obj.rateAdjust.key] ∧ s.sameRest t)))

/-- R85: a change of DisciplineMode keeps TimeOffset and RateAdjust and clears Locked; TimeStatus shows the new mode. -/
def Obligations.DisciplineModeChange : Prop :=
  ∀ (s : State) (q : Requester) (v : BitVec 8), s.dev.hears q Obj.disciplineMode v.toNat →
    nextHas (exec (.disciplineModeWrite q v) s) (fun t =>
      t.dev.told q .ok ∧ t.dev.rd Obj.disciplineMode = v.toNat ∧ t.dev.getF Obj.timeStatus 0 3 = v.toNat % 8 ∧ t.dev.bit Obj.timeStatus 7 = false ∧
      t.dev.bit Obj.timeStatus 3 = (s.dev.bit Obj.timeStatus 3 && s.dev.rd Obj.disciplineMode == v.toNat) ∧
      t.dev.rd Obj.timeOffset = s.dev.rd Obj.timeOffset ∧ t.dev.rd Obj.rateAdjust = s.dev.rd Obj.rateAdjust ∧
      s.dev.regsKeptAnswered t.dev [Obj.disciplineMode.key, Obj.timeStatus.key] ∧ s.sameRest t)

/-- R82, R84: a measurement reaches the servo in PTP mode while the port takes its time from a transmitter, and in PPS mode within half a second of a whole second.
A measurement of at most StepLimit slews RateAdjust within ±500 ppm without a step (the new rate itself is an open value, notes/assumptions/9): device time goes on from
where it was; sixteen measurements in a row within ±100 ns set Locked, one outside ±1 µs clears it. Without a servo, in FREE and HOST mode, nothing changes. The edges of a
flooded PPS input reach no servo, and Locked falls away (R106; at once, by notes/assumptions/121). -/
def Obligations.ServoSlews : Prop :=
  ∀ (s : State) (e : BitVec 64) (delay : BitVec 32) (id : List Byte), s.dev.up 179 →
    ((s.dev.rd Obj.disciplineMode = 0 ∨ s.dev.rd Obj.disciplineMode = 1) → nextHas (exec (.servoMeasurement e delay id) s) (fun t =>
      s.dev.regsKept t.dev [] ∧ s.sameRest t)) ∧
    (s.dev.rd Obj.disciplineMode = 3 → s.dev.bit (Obj.capStatus (s.dev.rd Obj.ppsCapture)) 2 = true → nextHas (exec (.servoMeasurement e delay id) s) (fun t =>
      t.dev.bit Obj.timeStatus 3 = false ∧ t.dev.lockRun = 0 ∧ (∀ i, i < 32 → i ≠ 3 → t.dev.bit Obj.timeStatus i = s.dev.bit Obj.timeStatus i) ∧
      s.dev.regsKept t.dev [Obj.timeStatus.key] ∧ s.sameRest t)) ∧
    (s.dev.rd Obj.disciplineMode = 3 → s.dev.bit (Obj.capStatus (s.dev.rd Obj.ppsCapture)) 2 = false → 500000000 < e.toInt.natAbs →
      nextHas (exec (.servoMeasurement e delay id) s) (fun t =>
        t.dev.rd Obj.ppsRejected = (s.dev.rd Obj.ppsRejected + 1) % 2 ^ 32 ∧ s.dev.regsKept t.dev [Obj.ppsRejected.key] ∧ s.sameRest t)) ∧
    (s.dev.rd Obj.disciplineMode = 3 → s.dev.bit (Obj.capStatus (s.dev.rd Obj.ppsCapture)) 2 = false → e.toInt.natAbs ≤ 500000000 →
      e.toInt.natAbs ≤ s.dev.rd Obj.stepLimit → nextHas (exec (.servoMeasurement e delay id) s) (fun t =>
        (1000 < e.toInt.natAbs → t.dev.bit Obj.timeStatus 3 = false) ∧
        (e.toInt.natAbs ≤ 100 → 15 ≤ s.dev.lockRun → t.dev.bit Obj.timeStatus 3 = true) ∧
        t.dev.rd Obj.stepCount = s.dev.rd Obj.stepCount ∧ (t.dev.rdI Obj.rateAdjust).natAbs ≤ 549755813 ∧ t.dev.f = s.dev.f ∧
        s.dev.regsKept t.dev [Obj.timeStatus.key, Obj.uncertainty.key, Obj.timeOffset.key, Obj.rateAdjust.key] ∧ s.sameRest t))

/-- R95, R97: arming a one-shot trigger. A target further than 500 s away is refused with RANGE, and an armed trigger refuses with STATE; otherwise the trigger is armed,
its count of firings starts at zero, and its target is converted to F (R93).
R93: after a change of rate every armed trigger's next edge is converted again, and no register changes; with nothing changed, nothing is done.
R93, R94, R96, R97: a due one-shot trigger that adds to no weir drives its pin to the active level, counts the firing, disarms itself and sets Done; one whose edge lies
further ahead than F40 can tell waits, and so does one whose pin is latched or stopped (R536, R558).
(Choices of the model's that it rests on: notes/assumptions 19, 41.) -/
def Obligations.TriggersArmAndFire : Prop :=
  (∀ (s : State) (q : Requester) (n : Fin 16) (v : BitVec 32), s.dev.hears q (Obj.trigControl n.val) (v.toNat / 2 * 2 + 1) →
    (500000000000 < (s.dev.rdT (Obj.trigTarget n.val) - s.dev.dt).natAbs → nextHas (exec (.triggerArm q n v) s) (fun t =>
      t.dev.told q .range ∧ s.dev.regsKeptAnswered t.dev [] ∧ t.dev.trigs = s.dev.trigs ∧ s.sameRest t)) ∧
    ((s.dev.rdT (Obj.trigTarget n.val) - s.dev.dt).natAbs ≤ 500000000000 → s.dev.trigArmed n.val = true →
      nextHas (exec (.triggerArm q n v) s) (fun t => t.dev.told q .state ∧ s.dev.regsKeptAnswered t.dev [] ∧ t.dev.trigs = s.dev.trigs ∧ s.sameRest t)) ∧
    ((s.dev.rdT (Obj.trigTarget n.val) - s.dev.dt).natAbs ≤ 500000000000 → s.dev.trigArmed n.val = false → v.toNat.testBit 1 = false →
      s.dev.dt ≤ s.dev.rdT (Obj.trigTarget n.val) → nextHas (exec (.triggerArm q n v) s) (fun t =>
        t.dev.told q .ok ∧ t.dev.rd (Obj.trigControl n.val) = v.toNat / 2 * 2 + 1 ∧ t.dev.trigArmed n.val = true ∧ t.dev.rd (Obj.trigFired n.val) = 0 ∧
        (t.dev.trig n.val).edge = 0 ∧ (t.dev.trig n.val).f40 = unsigned 40 (s.dev.fOf (s.dev.rdT (Obj.trigTarget n.val))) ∧
        s.dev.regsKeptAnswered t.dev [(Obj.trigControl n.val).key, (Obj.trigStatus n.val).key, (Obj.trigFired n.val).key] ∧ s.sameRest t))) ∧
  (∀ s : State, s.dev.up 179 →
    (s.dev.reconvert = .rate → nextHas (exec .triggerReconvert s) (fun t =>
      (∀ n, n < 16 → s.dev.trigArmed n = true → (t.dev.trig n).f40 = unsigned 40 (s.dev.fOf (s.dev.trigEdge n))) ∧
      t.dev.reconvert = .none ∧ s.dev.regsKept t.dev [] ∧ s.sameRest t)) ∧
    (s.dev.reconvert = .none → nextHas (exec .triggerReconvert s) (fun t => t.dev = { s.dev with out := [] } ∧ s.sameRest t))) ∧
  (∀ (s : State) (n : Fin 16), s.dev.up 179 →
   (s.dev.padsHeld 179 = false →
    ((2 ^ 39 : Int) ≤ s.dev.fOf (s.dev.trigEdge n.val) - s.dev.f → nextHas (exec (.triggerFire n) s) (fun t => t.dev = { s.dev with out := [] } ∧ s.sameRest t)) ∧
    (s.dev.trigArmed n.val = true → s.dev.fOf (s.dev.trigEdge n.val) - s.dev.f < (2 ^ 39 : Int) →
      0 ≤ stampDiff 40 s.dev.f (s.dev.trig n.val).f40 → s.dev.bit (Obj.trigControl n.val) 1 = false →
      s.dev.bit (Obj.trigControl n.val) 3 = false → nextHas (exec (.triggerFire n) s) (fun t =>
        t.dev.rd (Obj.trigFired n.val) = (s.dev.rd (Obj.trigFired n.val) + 1) % 2 ^ 32 ∧ t.dev.trigArmed n.val = false ∧
        t.dev.bit (Obj.trigStatus n.val) 2 = true ∧ t.dev.bit (Obj.trigStatus n.val) 1 = s.dev.bit (Obj.trigStatus n.val) 1 ∧
        (t.dev.trig n.val).pin = !s.dev.bit (Obj.trigControl n.val) 2 ∧
        (t.dev.trig n.val).pulseEnd = some (s.dev.trigEdge n.val + (s.dev.rd (Obj.trigWidth n.val) : Nat)) ∧
        s.dev.regsKept t.dev [(Obj.trigFired n.val).key, (Obj.trigStatus n.val).key] ∧ s.sameRest t))) ∧
   (s.dev.padsHeld 179 = true → nextHas (exec (.triggerFire n) s) (fun t => t.dev = { s.dev with out := [] } ∧ s.sameRest t)))

/-- R98: disarming clears Armed and leaves the trigger's other flags and counts alone; a pulse in progress keeps its level and its end, and the pin returns to its idle level when
that has come, and not before; a pin that is latched or stopped stays as it is (R536, R558). -/
def Obligations.TriggerDisarming : Prop :=
  (∀ (s : State) (q : Requester) (n : Fin 16) (v : BitVec 32), s.dev.hears q (Obj.trigControl n.val) (v.toNat / 2 * 2) →
    nextHas (exec (.triggerDisarm q n v) s) (fun t =>
      t.dev.told q .ok ∧ t.dev.rd (Obj.trigControl n.val) = v.toNat / 2 * 2 ∧ t.dev.trigArmed n.val = false ∧
      (∀ i, 1 ≤ i → i < 32 → t.dev.bit (Obj.trigStatus n.val) i = s.dev.bit (Obj.trigStatus n.val) i) ∧
      (t.dev.trig n.val).pulseEnd = (s.dev.trig n.val).pulseEnd ∧ ((s.dev.trig n.val).pulseEnd ≠ none → t.dev.trig n.val = s.dev.trig n.val) ∧
      s.dev.regsKeptAnswered t.dev [(Obj.trigControl n.val).key, (Obj.trigStatus n.val).key] ∧ s.sameRest t)) ∧
  (∀ (s : State) (n : Fin 16), s.dev.up 179 → s.dev.padsHeld 179 = false →
    (∀ e, (s.dev.trig n.val).pulseEnd = some e → e ≤ s.dev.dt → nextHas (exec (.triggerPulseEnd n) s) (fun t =>
      (t.dev.trig n.val).pulseEnd = none ∧ (t.dev.trig n.val).pin = s.dev.bit (Obj.trigControl n.val) 2 ∧
      s.dev.regsKept t.dev [] ∧ s.sameRest t)) ∧
    (∀ e, (s.dev.trig n.val).pulseEnd = some e → s.dev.dt < e → nextHas (exec (.triggerPulseEnd n) s) (fun t =>
      t.dev.trig n.val = s.dev.trig n.val ∧ s.dev.regsKept t.dev [] ∧ s.sameRest t))) ∧
  (∀ (s : State) (n : Fin 16), s.dev.up 179 → s.dev.padsHeld 179 = true → nextHas (exec (.triggerPulseEnd n) s) (fun t =>
    t.dev = { s.dev with out := [] } ∧ s.sameRest t))

/-- R100 to R105: an enabled, unflooded input's transition makes a record stamped with the device time of its first edge while its FIFO of 16 has room, and is lost
and counted while it has none (an input that adds to no weir and feeds no stream); a level held for less than 20 ns makes nothing.
R103, R104: an enabled input without an edge for CapStuckTime is Stuck; a flood ends after ten quiet milliseconds and is counted.
R104, R105: clearing Enable clears Stuck and Flooded; a read of CapPop returns the oldest record and removes it, and 16 bytes of zeros from an empty FIFO.
(Choices of the model's that it rests on: notes/assumptions 20.) -/
def Obligations.CaptureInputs : Prop :=
  (∀ (s : State) (m : Fin 8) (level : Bool) (age : Nat), s.dev.up 179 →
    (age < 20 → nextHas (exec (.captureTransition m level age) s) (fun t => t.dev = { s.dev with out := [] } ∧ s.sameRest t)) ∧
    (20 ≤ age → level ≠ (s.dev.cap m.val).level → s.dev.bit (Obj.capControl m.val) 0 = true → s.dev.bit (Obj.capStatus m.val) 2 = false →
      (s.dev.cap m.val).win = s.dev.win 1000000 → (s.dev.cap m.val).count < s.dev.rd (Obj.capFloodLimit m.val) →
      s.dev.bit (Obj.capControl m.val) (if level then 1 else 2) = true → s.dev.bit (Obj.capControl m.val) 3 = false →
      s.dev.bit (Obj.capControl m.val) 18 = false → nextHas (exec (.captureTransition m level age) s) (fun t =>
        ((s.dev.cap m.val).fifo.length < 16 →
          (∃ r : CapRec, (t.dev.cap m.val).fifo = (s.dev.cap m.val).fifo ++ [r] ∧ r.stamp = s.dev.dtAt (s.dev.f - age) ∧ r.edge = b2n (!level) ∧
            r.seq = (s.dev.cap m.val).seq) ∧ t.dev.rd (Obj.capLost m.val) = s.dev.rd (Obj.capLost m.val)) ∧
        (16 ≤ (s.dev.cap m.val).fifo.length → (t.dev.cap m.val).fifo = (s.dev.cap m.val).fifo ∧
          t.dev.rd (Obj.capLost m.val) = (s.dev.rd (Obj.capLost m.val) + 1) % 2 ^ 32) ∧
        (t.dev.cap m.val).level = level ∧
        s.dev.regsKept t.dev [(Obj.capStatus m.val).key, (Obj.capLost m.val).key] ∧ s.sameRest t))) ∧
  (∀ (s : State) (m : Fin 8), s.dev.up 179 →
    (s.dev.bit (Obj.capControl m.val) 0 = true → s.dev.rd (Obj.capStuckTime m.val) * 1000 < s.dev.rf - (s.dev.cap m.val).restF →
      nextHas (exec (.captureStuck m) s) (fun t => t.dev.bit (Obj.capStatus m.val) 1 = true ∧
        (∀ i, i < 32 → i ≠ 1 → t.dev.bit (Obj.capStatus m.val) i = s.dev.bit (Obj.capStatus m.val) i) ∧
        s.dev.regsKept t.dev [(Obj.capStatus m.val).key] ∧ s.sameRest t)) ∧
    (s.dev.bit (Obj.capStatus m.val) 2 = true → (s.dev.cap m.val).win = s.dev.win 1000000 → 10 ≤ (s.dev.cap m.val).quiet →
      nextHas (exec (.captureFloodEnd m) s) (fun t => t.dev.bit (Obj.capStatus m.val) 2 = false ∧
        t.dev.rd (Obj.capFloodEpisodes m.val) = (s.dev.rd (Obj.capFloodEpisodes m.val) + 1) % 2 ^ 32 ∧
        s.dev.regsKept t.dev [(Obj.capStatus m.val).key, (Obj.capFloodEpisodes m.val).key] ∧ s.sameRest t))) ∧
  ((∀ (s : State) (q : Requester) (m : Fin 8) (v : BitVec 32), s.dev.hears q (Obj.capControl m.val) v.toNat →
    nextHas (exec (.capControlWrite q m v) s) (fun t => t.dev.told q .ok ∧ t.dev.rd (Obj.capControl m.val) = v.toNat ∧
      (s.dev.bit (Obj.capControl m.val) 0 = true → v.toNat.testBit 0 = false →
        t.dev.bit (Obj.capStatus m.val) 1 = false ∧ t.dev.bit (Obj.capStatus m.val) 2 = false) ∧
      (t.dev.cap m.val).fifo = (s.dev.cap m.val).fifo ∧
      s.dev.regsKeptAnswered t.dev [(Obj.capControl m.val).key, (Obj.capStatus m.val).key] ∧ s.sameRest t)) ∧
  (∀ (s : State) (q : Requester) (m : Fin 8), s.dev.opened → s.dev.judgeRead q 1 (0x3420 + m.val) 2 = .ok →
    nextHas (exec (.capPop q m) s) (fun t =>
      ((s.dev.cap m.val).fifo = [] → .response q 0 (zeros 16) ∈ t.dev.out ∧ (t.dev.cap m.val).fifo = []) ∧
      (∀ r rest, (s.dev.cap m.val).fifo = r :: rest → .response q 0 r.bytes ∈ t.dev.out ∧ (t.dev.cap m.val).fifo = rest ∧
        t.dev.getF (Obj.capStatus m.val) 3 5 = rest.length % 32) ∧
      s.dev.regsKeptAnswered t.dev [(Obj.capStatus m.val).key] ∧ s.sameRest t)))

/-- R108 to R110: a message that no clock corrects leaves as it came; an event message of one step leaves with its residence added to the correctionField, in 2⁻¹⁶ ns; the
residence of a two-step Sync is kept, and the Follow_Up that leaves by the same port takes it; what an egress leaves unmodifiable passes and is counted. (Of a message to port
2, the ordinary clock's: while PtpRole is off.) While IOD1 is in the safe state none leaves (R558).
R107, R111: the ordinary clock takes what leaves by port 2 in its own domain and transport. A transmitter answers a Delay_Req, where the delay mechanism is end to
end, by the port it came from; a message of another domain or transport reaches no clock; a role that may receive follows the best timekeeper it hears of. (How the standard's
parts are read is notes/assumptions/22.)
R113 to R115: the waiting mark of a stream whose map follows a trigger or a capture is paired with the oldest edge that lies within half a mark interval of its prediction (a
first mark, which has no interval, with the oldest edge there is). An error beyond StreamStepLimit steps the map, a smaller one corrects it by a quarter and the skew with it, within ±1,000 ppm;
NoSync clears. A mark that no edge has met half an interval past its prediction is left unpaired and counted, and one that an edge can still meet goes on waiting. NoSync sets
once the last pairing lies more than eight mark intervals back. (The mark interval is notes/assumptions/128's, the skew's step log 23's.) -/
def Obligations.ClocksAndMarks : Prop :=
  (∀ (s : State) (i e : Fin 3) (m : PtpMessage) (res link : Nat), s.dev.up 180 → i ≠ e → (e.val ≠ 2 ∨ s.dev.rd Obj.ptpRole = 0) →
   (s.dev.dieOut 5 = false →
    (∀ b, s.dev.rd Obj.tcMode = 0 → nextHas (exec (.ptpEventMessage i e m res link b) s) (fun t =>
      t.dev.out = [.ptp e.val m] ∧ s.dev.regsKept t.dev [] ∧ s.sameRest t)) ∧
    (s.dev.rd Obj.tcMode ≠ 0 → nextHas (exec (.ptpEventMessage i e m res link false) s) (fun t =>
      t.dev.out = [.ptp e.val m] ∧ t.dev.rd Obj.tcUnmodified = (s.dev.rd Obj.tcUnmodified + 1) % 2 ^ 32 ∧
      s.dev.regsKept t.dev [Obj.tcUnmodified.key] ∧ s.sameRest t)) ∧
    (s.dev.rd Obj.tcMode = 1 → m.type.event = true → m.twoStep = false → nextHas (exec (.ptpEventMessage i e m res link true) s) (fun t =>
      (∃ o : PtpMessage, t.dev.out = [.ptp e.val o] ∧ o.correction = m.correction + BitVec.ofNat 64 (res * 2 ^ 16)) ∧
      s.dev.regsKept t.dev [] ∧ s.sameRest t)) ∧
    (s.dev.rd Obj.tcMode = 1 → m.type = .sync → m.twoStep = true → nextHas (exec (.ptpEventMessage i e m res link true) s) (fun t =>
      t.dev.out = [.ptp e.val m] ∧ Tab.get 0 t.dev.residence (ptpKey 0 e.val m.source m.number) = res ∧
      (∀ k, k ≠ ptpKey 0 e.val m.source m.number → Tab.get 0 t.dev.residence k = Tab.get 0 s.dev.residence k) ∧
      s.dev.regsKept t.dev [] ∧ s.sameRest t)) ∧
    (s.dev.rd Obj.tcMode ≠ 0 → m.type = .followUp → nextHas (exec (.ptpEventMessage i e m res link true) s) (fun t =>
      (∃ o : PtpMessage, t.dev.out = [.ptp e.val o] ∧
        o.correction = m.correction + BitVec.ofNat 64 (Tab.get 0 s.dev.residence (ptpKey 0 e.val m.source m.number) * 2 ^ 16)) ∧
      Tab.get 0 t.dev.residence (ptpKey 0 e.val m.source m.number) = 0 ∧ s.dev.regsKept t.dev [] ∧ s.sameRest t))) ∧
   (s.dev.dieOut 5 = true → nextHas (exec (.ptpEventMessage i e m res link true) s) (fun t => t.dev = { s.dev with out := [] } ∧ s.sameRest t))) ∧
  (∀ (s : State) (i : Fin 3) (m : PtpMessage) (res link : Nat), s.dev.up 180 → s.dev.dieOut 5 = false → i.val ≠ 2 → s.dev.rd Obj.tcMode = 0 → s.dev.rd Obj.ptpRole ≠ 0 →
    ((s.dev.rd Obj.ptpDomain ≠ m.domain.toNat ∨ s.dev.rd Obj.ptpTransport ≠ m.transport.val) → nextHas (exec (.ptpEventMessage i 2 m res link true) s) (fun t =>
      t.dev.out = [.ptp 2 m] ∧ s.dev.regsKept t.dev [] ∧ s.sameRest t)) ∧
    (s.dev.rd Obj.ptpDomain = m.domain.toNat → s.dev.rd Obj.ptpTransport = m.transport.val →
      (m.type = .delayReq → s.dev.rd Obj.ptpDelayMech = 0 → s.dev.rd Obj.portState = 6 → nextHas (exec (.ptpEventMessage i 2 m res link true) s) (fun t =>
        (∃ o : PtpMessage, t.dev.out = [.ptp 2 m, .ptp i.val o] ∧ o.type = .delayResp ∧ o.requester = m.source ∧ o.number = m.number ∧ o.domain = m.domain) ∧
        s.dev.regsKept t.dev [] ∧ s.sameRest t)) ∧
      (∀ r, m.type = .announce → m.rank = some r → s.dev.rd Obj.ptpRole = 2 → s.dev.ptpParent = none → nextHas (exec (.ptpEventMessage i 2 m res link true) s) (fun t =>
        t.dev.ptpParent = some (m.source, r) ∧ t.dev.rd Obj.portState = 8 ∧ t.dev.blob Obj.transmitterIdentity = (leBytes 8 m.source.toNat).reverse ∧
        s.dev.regsKept t.dev [Obj.portState.key] ∧ s.sameRest t)) ∧
      (∀ r, m.type = .announce → m.rank = some r → s.dev.rd Obj.ptpRole = 3 → nextHas (exec (.ptpEventMessage i 2 m res link true) s) (fun t =>
        t.dev.ptpParent = s.dev.ptpParent ∧ s.dev.regsKept t.dev [] ∧ s.sameRest t)))) ∧
  (∀ (s : State) (n : Fin 36), s.dev.up 179 →
    (∀ ps arrival, (s.dev.clock n.val).marks = [(ps, arrival)] → (s.dev.rd (Obj.streamSyncMethod n.val) = 1 ∨ s.dev.rd (Obj.streamSyncMethod n.val) = 2) →
      let interval : Rat := match (s.dev.clock n.val).lastMark with | some l => ((ps : Int) - (l : Int) : Int) / 1000 | none => 0
      let pred := (s.dev.clock n.val).predict ps
      (∀ e es, (s.dev.clock n.val).edges = e :: es → (interval ≤ 0 ∨ |(e : Rat) - pred| ≤ interval / 2) → nextHas (exec (.syncMark n) s) (fun t =>
        (t.dev.clock n.val).marks = [] ∧ (t.dev.clock n.val).edges = es ∧ (t.dev.clock n.val).lastMark = some ps ∧ (t.dev.clock n.val).pairF = some s.dev.f ∧
        t.dev.bit (Obj.streamSyncFlags n.val) 0 = false ∧ (t.dev.clock n.val).sensorBase = ps ∧
        ((s.dev.rd (Obj.streamStepLimit n.val) : Rat) < |(e : Rat) - pred| →
          (t.dev.clock n.val).base = e ∧ (t.dev.clock n.val).skew = (s.dev.clock n.val).skew ∧
          t.dev.rd (Obj.streamSteps n.val) = (s.dev.rd (Obj.streamSteps n.val) + 1) % 2 ^ (Obj.streamSteps n.val).bits) ∧
        (|(e : Rat) - pred| ≤ (s.dev.rd (Obj.streamStepLimit n.val) : Rat) →
          (t.dev.clock n.val).base = pred + ((e : Rat) - pred) / 4 ∧ t.dev.rd (Obj.streamSteps n.val) = s.dev.rd (Obj.streamSteps n.val) ∧
          (0 < interval → -(1 / 1000) ≤ (t.dev.clock n.val).skew ∧ (t.dev.clock n.val).skew ≤ 1 / 1000)) ∧
        s.dev.regsKept t.dev [(Obj.streamSyncUnpaired n.val).key, (Obj.streamSteps n.val).key, (Obj.streamClockError n.val).key, (Obj.streamClockSkew n.val).key,
          (Obj.streamSyncFlags n.val).key] ∧ s.sameRest t)) ∧
      ((s.dev.clock n.val).edges = [] → (interval ≤ 0 ∨ pred + interval / 2 < (s.dev.dt : Rat)) → nextHas (exec (.syncMark n) s) (fun t =>
        (t.dev.clock n.val).marks = [] ∧ t.dev.rd (Obj.streamSyncUnpaired n.val) = (s.dev.rd (Obj.streamSyncUnpaired n.val) + 1) % 2 ^ 32 ∧
        (t.dev.clock n.val).pairF = (s.dev.clock n.val).pairF ∧ s.dev.regsKept t.dev [(Obj.streamSyncUnpaired n.val).key] ∧ s.sameRest t)) ∧
      ((s.dev.clock n.val).edges = [] → 0 < interval → (s.dev.dt : Rat) ≤ pred + interval / 2 → nextHas (exec (.syncMark n) s) (fun t =>
        (t.dev.clock n.val).marks = [(ps, arrival)] ∧ s.sameRest t))) ∧
    (∀ f, (s.dev.clock n.val).pairF = some f → 8 * (s.dev.clock n.val).interval < ((s.dev.f - f : Nat) : Rat) →
      nextHas (exec (.syncAgeExpiry n) s) (fun t => t.dev.bit (Obj.streamSyncFlags n.val) 0 = true ∧
        s.dev.regsKept t.dev [(Obj.streamSyncFlags n.val).key] ∧ s.sameRest t)))

/-! ### Pace, power and package (chapters 2, 17 and 20) -/

/-- R62 to R64: a cap that the die's present voltage supports is taken, shown and put in force (kept to return to while the die is throttled); one that it does not support,
outside a raise that will support it, is refused with STATE and result 0x11; before the die's first Tj reading the write is held without an answer.
R63, R64: a voltage is commanded to the rail, and shown as in progress, while no change runs and no cap in force would lose its support; a second change is refused with
STATE and result 0x12, and a voltage that would not support the present cap with 0x10; a repeat of the target changes nothing (R472).
R65: a change that has settled within 2 ms makes its target the rail's voltage, and its pending cap applies; one that has not ends, its pending cap discarded, with result
0x20 and a supply fault, also where its settling is reported later.
R67, R60: a throttled die at 95 °C or above loses one code each 100 µs, down to 26; below it gains one each 1 ms until its cap is back. The measured pace is the
replica's cycles against 1,024 in each nanosecond's thousandth, published once for each window of 1 ms (R622).
(Choices of the model's that it rests on: notes/assumptions 24, 25, 106.) -/
def Obligations.PaceAndVoltage : Prop :=
  (∀ (s : State) (q : Requester) (d : Fin 4) (v : BitVec 8), s.dev.hears q (Obj.paceCap d.val) v.toNat →
    (s.dev.tjSeen d.val = true → v.toNat ≤ s.dev.supportedAt d.val (s.dev.presentVolt d.val) → nextHas (exec (.paceCapWrite q d v) s) (fun t =>
      t.dev.told q .ok ∧ t.dev.rd (Obj.paceCap d.val) = v.toNat ∧ t.dev.getF (Obj.paceStatus d.val) 24 8 = 0 ∧ (t.dev.pace d.val).code = v.toNat ∧
      (s.dev.throttled d.val = false → t.dev.capNow d.val = v.toNat) ∧ (s.dev.throttled d.val = true → t.dev.capNow d.val = s.dev.capNow d.val) ∧
      s.dev.regsKeptAnswered t.dev [(Obj.paceCap d.val).key, (Obj.paceStatus d.val).key] ∧ s.sameRest t)) ∧
    (s.dev.tjSeen d.val = true → s.dev.supportedAt d.val (s.dev.presentVolt d.val) < v.toNat → s.dev.getF (Obj.paceStatus d.val) 16 2 ≠ 1 →
      nextHas (exec (.paceCapWrite q d v) s) (fun t =>
        t.dev.told q .state ∧ t.dev.getF (Obj.paceStatus d.val) 24 8 = 0x11 ∧ t.dev.capNow d.val = s.dev.capNow d.val ∧
        s.dev.regsKeptAnswered t.dev [(Obj.paceStatus d.val).key] ∧ s.sameRest t)) ∧
    (s.dev.tjSeen d.val = false → nextHas (exec (.paceCapWrite q d v) s) (fun t =>
      t.dev.out = [] ∧ (t.dev.pace d.val).waiting.length = (s.dev.pace d.val).waiting.length + 1 ∧ t.dev.capNow d.val = s.dev.capNow d.val ∧
      s.dev.regsKept t.dev [(Obj.paceCap d.val).key, (Obj.paceStatus d.val).key] ∧ s.sameRest t))) ∧
  (∀ (s : State) (q : Requester) (d : Fin 4) (v : BitVec 16), s.dev.hears q (Obj.voltageTarget d.val) v.toNat → s.dev.tjSeen d.val = true →
    ((s.dev.pace d.val).changeF ≠ 0 → nextHas (exec (.voltageTargetWrite q d v) s) (fun t =>
      t.dev.told q .state ∧ t.dev.getF (Obj.paceStatus d.val) 24 8 = 0x12 ∧ s.dev.regsKeptAnswered t.dev [(Obj.paceStatus d.val).key] ∧ s.sameRest t)) ∧
    ((s.dev.pace d.val).changeF = 0 → s.dev.rd (Obj.voltageTarget d.val) = v.toNat → nextHas (exec (.voltageTargetWrite q d v) s) (fun t =>
      t.dev.told q .ok ∧ t.dev.pace d.val = s.dev.pace d.val ∧ s.dev.regsKeptAnswered t.dev [] ∧ s.sameRest t)) ∧
    ((s.dev.pace d.val).changeF = 0 → s.dev.rd (Obj.voltageTarget d.val) ≠ v.toNat → v.toNat < s.dev.presentVolt d.val →
      s.dev.supportedAt d.val v.toNat < s.dev.presentCap d.val →
      nextHas (exec (.voltageTargetWrite q d v) s) (fun t =>
        t.dev.told q .state ∧ t.dev.getF (Obj.paceStatus d.val) 24 8 = 0x10 ∧ s.dev.regsKeptAnswered t.dev [(Obj.paceStatus d.val).key] ∧ s.sameRest t)) ∧
    ((s.dev.pace d.val).changeF = 0 → s.dev.rd (Obj.voltageTarget d.val) ≠ v.toNat →
      (s.dev.presentVolt d.val ≤ v.toNat ∨ s.dev.presentCap d.val ≤ s.dev.supportedAt d.val v.toNat) →
      s.dev.coreOff d.val = false → nextHas (exec (.voltageTargetWrite q d v) s) (fun t =>
        t.dev.told q .ok ∧ .avs d.val v.toNat ∈ t.dev.out ∧ t.dev.rd (Obj.voltageTarget d.val) = v.toNat ∧ t.dev.getF (Obj.paceStatus d.val) 24 8 = 0x02 ∧
        t.dev.getF (Obj.paceStatus d.val) 16 2 = (if v.toNat < (s.dev.pace d.val).volt then 2 else 1) ∧ (t.dev.pace d.val).changeF = s.dev.rf + 1 ∧
        s.dev.regsKeptAnswered t.dev [(Obj.voltageTarget d.val).key, (Obj.paceStatus d.val).key, (Obj.paceCap d.val).key] ∧ s.sameRest t))) ∧
  (∀ (s : State) (d : Fin 4), s.dev.working = true → (s.dev.pace d.val).changeF ≠ 0 →
    (s.dev.rf ≤ (s.dev.pace d.val).changeF - 1 + 2000000 → nextHas (exec (.voltageSettled d) s) (fun t =>
      (t.dev.pace d.val).changeF = 0 ∧ (t.dev.pace d.val).volt = s.dev.rd (Obj.voltageTarget d.val) ∧ t.dev.getF (Obj.paceStatus d.val) 16 2 = 0 ∧
      ((s.dev.pace d.val).asked = true → t.dev.getF (Obj.paceStatus d.val) 24 8 = 0) ∧
      ((s.dev.pace d.val).asked = false → t.dev.getF (Obj.paceStatus d.val) 24 8 = s.dev.getF (Obj.paceStatus d.val) 24 8) ∧
      ((s.dev.pace d.val).pending ≠ 0 → (t.dev.pace d.val).code = (s.dev.pace d.val).pending ∧ (t.dev.pace d.val).pending = 0) ∧
      s.dev.regsKept t.dev [(Obj.paceStatus d.val).key, (Obj.paceCap d.val).key] ∧ s.sameRest t)) ∧
    ((s.dev.pace d.val).changeF - 1 + 2000000 < s.dev.rf → nextHas (exec (.voltageSettled d) s) (fun t =>
      (t.dev.pace d.val).changeF = 0 ∧ (t.dev.pace d.val).volt = (s.dev.pace d.val).volt ∧ (t.dev.pace d.val).pending = 0 ∧
      t.dev.getF (Obj.paceStatus d.val) 24 8 = 0x20 ∧ s.sameRest t)) ∧
    ((s.dev.pace d.val).changeF - 1 + 2000000 ≤ s.dev.rf → nextHas (exec (.voltageTimeout d) s) (fun t =>
      (t.dev.pace d.val).changeF = 0 ∧ (t.dev.pace d.val).pending = 0 ∧ t.dev.getF (Obj.paceStatus d.val) 24 8 = 0x20 ∧
      t.dev.getF (Obj.paceStatus d.val) 16 2 = 0 ∧
      s.dev.regsKept t.dev [(Obj.paceStatus d.val).key, (Obj.paceCap d.val).key, (Obj.faultCounter 4 0).key, (Obj.faultCounter 4 1).key] ∧ s.sameRest t))) ∧
  (∀ (s : State) (d : Fin 4), s.dev.working = true →
    (s.dev.throttled d.val = true → 12160 ≤ s.dev.rdI (Obj.dieTemperature d.val) → (s.dev.pace d.val).stepF + 100000 ≤ s.dev.rf →
      nextHas (exec (.throttleStep d) s) (fun t =>
        t.dev.capNow d.val = max 26 (s.dev.capNow d.val - 1) % 256 ∧ (t.dev.pace d.val).stepF = s.dev.rf ∧
        s.dev.regsKept t.dev [(Obj.paceStatus d.val).key, (Obj.paceCap d.val).key] ∧ s.sameRest t)) ∧
    (s.dev.throttled d.val = true → s.dev.rdI (Obj.dieTemperature d.val) < 12160 → (s.dev.pace d.val).stepF + 1000000 ≤ s.dev.rf →
      nextHas (exec (.throttleReleaseStep d) s) (fun t =>
        ((s.dev.pace d.val).code ≤ s.dev.capNow d.val + 1 → t.dev.capNow d.val = (s.dev.pace d.val).code % 256 ∧ t.dev.throttled d.val = false) ∧
        (s.dev.capNow d.val + 1 < (s.dev.pace d.val).code → t.dev.capNow d.val = (s.dev.capNow d.val + 1) % 256 ∧ t.dev.throttled d.val = true) ∧
        s.dev.regsKept t.dev [(Obj.paceStatus d.val).key, (Obj.paceCap d.val).key] ∧ s.sameRest t)) ∧
    (∀ cycles : BitVec 32, s.dev.coreOff d.val = false → (s.dev.pace d.val).measWin < s.dev.win 1000000 → nextHas (exec (.paceMeasureWindow d cycles) s) (fun t =>
      t.dev.rd (Obj.paceMeasured d.val) = min 65535 (cycles.toNat * 1024 / 1000000) ∧ (t.dev.pace d.val).measWin = s.dev.win 1000000 ∧
      s.dev.regsKept t.dev [(Obj.paceMeasured d.val).key] ∧ s.sameRest t)) ∧
    (∀ cycles : BitVec 32, s.dev.win 1000000 ≤ (s.dev.pace d.val).measWin → nextHas (exec (.paceMeasureWindow d cycles) s) (fun t =>
      t.dev = { s.dev with out := [] } ∧ s.sameRest t)))

/-- R616, R617: a reading is shown; outside −40 °C to 105 °C it sets the die's AboveLimit; at 115 °C or above the device shuts down, and ThermalStatus keeps which die did it.
(Stated of a device whose boot chain has run: a reading can also let a waiting chain run.)
R607, R608, R609: what a reset and a loss of the supplies leave. A power-on reset acts on a device in any condition: the memories are empty, F and the AON counter are at
zero, the straps are sampled, the recorder's MRAM stands, and the boot chain waits only while STILL_N is low or a die is hot. A warm reset keeps the time base. Without
supplies every register but the anti-rollback fuses is gone. The queue of commands is the model's own and stands.
R526: a millisecond after its command was accepted, IOD0 base goes off: the GDDR6 array forgets, the scratchpads' cells are not touched by it, and the time base waits
for the AON edge at which it latches.
(Choices of the model's that it rests on: notes/assumptions 26, 27, 28, 29, 31.) -/
def Obligations.PackageStates : Prop :=
  (∀ (s : State) (d : Fin 6) (v : BitVec 16), s.dev.alive = true →
    (v.toInt < 14720 → s.dev.bootWait = false → nextHas (exec (.tjReading d v) s) (fun t =>
      t.dev.rdI (Obj.dieTemperature d.val) = v.toInt ∧ t.dev.alive = true ∧ Tab.get 0 t.dev.tjLast d.val = v.toInt ∧
      ((v.toInt < -5120 ∨ 13440 ≤ v.toInt) → t.dev.bit Obj.thermalStatus d.val = true) ∧ s.sameRest t)) ∧
    (14720 ≤ v.toInt → nextHas (exec (.tjReading d v) s) (fun t =>
      t.dev.alive = false ∧ t.dev.thermtrip = true ∧ t.dev.bit Obj.thermalStatus 6 = true ∧ t.dev.getF Obj.thermalStatus 7 3 = d.val ∧
      (∀ r, r < 10 → t.dev.getF (Obj.railState r) 0 2 = 0) ∧ s.sameRest t))) ∧
  ((∀ (s : State) (straps : BitVec 8) (puf still cool : Bool), nextHas (exec (.powerOnReset straps puf still cool) s) (fun t =>
    t.mem = {} ∧ t.dev.alive = true ∧ t.dev.frozen = still ∧ t.dev.bootWait = (still || !cool) ∧ t.dev.f = 0 ∧ t.dev.aon = 0 ∧
    t.dev.rd Obj.strapValues = straps.toNat ∧ t.dev.mram0 = s.dev.mram0 ∧ t.dev.mram1 = s.dev.mram1 ∧ t.pending = s.pending)) ∧
  (∀ (s : State) (puf : Bool), s.dev.alive = true → s.dev.domOn 179 = true → s.dev.stopped = false → nextHas (exec (.warmReset puf) s) (fun t =>
    t.mem = {} ∧ t.dev.f = s.dev.f ∧ t.dev.aon = s.dev.aon ∧ t.dev.frozen = false ∧ t.dev.bootWait = false ∧ t.dev.held = [] ∧
    t.dev.rd Obj.timeOffset = s.dev.rd Obj.timeOffset ∧ t.dev.rd Obj.rateAdjust = s.dev.rd Obj.rateAdjust ∧ t.dev.mram0 = s.dev.mram0 ∧
    t.dev.mram1 = s.dev.mram1 ∧ t.pending = s.pending)) ∧
  (∀ s : State, nextHas (exec .lossOfSupplies s) (fun t =>
    t.mem = {} ∧ t.dev.alive = false ∧ (∀ r : Reg, r.key / 256 ≠ 0x9001 → t.dev.rd r = objDefault r.key) ∧
    (∀ r : Reg, r.key / 256 = 0x9001 → t.dev.rd r = s.dev.rd r) ∧ t.dev.mram0 = s.dev.mram0 ∧ t.dev.mram1 = s.dev.mram1 ∧ t.pending = s.pending))) ∧
  (∀ (s : State) (p at_ : Nat), s.dev.up 179 → s.dev.baseOff = (p + 1, at_) → at_ + 1000000 ≤ s.dev.f →
    nextHas (exec .iod0BaseOff s) (fun t =>
      t.dev.entryWait = true ∧ t.dev.baseOff = (0, 0) ∧ t.mem.gddr = [] ∧ t.mem.pad = s.mem.pad ∧ t.mem.padBad = s.mem.padBad ∧ t.pending = s.pending))

/-- R525, R530, R533: an accepted command to lower a domain begins its entry; a refused one shows why; during an entry or a wake a command is held; DOMAIN_ON wakes a
domain in retention or off.
(Choices of the model's that it rests on: notes/assumptions 33.) -/
def Obligations.DomainCommands : Prop :=
  ∀ (s : State) (q : Requester) (n : Fin 181) (code : Fin 3),
    let c : Instr := if code.val = 0 then .domainOn q n else if code.val = 1 then .domainRetention q n else .domainOff q n
    s.dev.hears q (Obj.domainCommand n.val) (code.val + 1) →
    ((s.dev.domState n.val = 3 ∨ s.dev.domState n.val = 4) → nextHas (exec c s) (fun t =>
      t.dev.told q .ok ∧ t.dev.bit (Obj.domainState n.val) 4 = true ∧ t.dev.getF (Obj.domainState n.val) 5 2 = code.val + 1 ∧
      t.dev.domState n.val = s.dev.domState n.val ∧ s.dev.regsKeptAnswered t.dev [(Obj.domainState n.val).key] ∧ s.sameRest t)) ∧
    (s.dev.domState n.val < 3 → s.dev.commandCode (some q) n.val (code.val + 1) ≠ 0 → nextHas (exec c s) (fun t =>
      t.dev.told q .state ∧ t.dev.getF (Obj.domainState n.val) 16 8 = s.dev.commandCode (some q) n.val (code.val + 1) % 256 ∧
      t.dev.domState n.val = s.dev.domState n.val ∧ s.dev.regsKeptAnswered t.dev [(Obj.domainState n.val).key] ∧ s.sameRest t)) ∧
    (s.dev.domState n.val = 0 → code.val ≠ 0 → n.val ≠ 179 → s.dev.commandCode (some q) n.val (code.val + 1) = 0 → nextHas (exec c s) (fun t =>
      t.dev.told q .ok ∧ t.dev.domState n.val = 3 ∧ (t.dev.dom n.val).target = code.val ∧
      s.dev.regsKeptAnswered t.dev [(Obj.domainState n.val).key] ∧ s.sameRest t)) ∧
    ((s.dev.domState n.val = 1 ∨ s.dev.domState n.val = 2) → code.val = 0 → s.dev.domOn 179 = true → nextHas (exec c s) (fun t =>
      t.dev.told q .ok ∧ t.dev.domState n.val = 4 ∧ s.sameRest t))

/-- R528 to R530: an entry ends in the state that was asked for, where no access, no command and no wake input waits for it. (An endpoint that goes off takes its links
down first: LINK_DOWN.)
R534, R537, R538: a wake ends with the domain on, once what it depends on is on; a cluster that was off finds its scratchpad zero, and every other scratchpad is as it
was. (Stated where no command and no request waits for the domain, and no slot of a cluster that kept its state fails its pass.)
(Choices of the model's that it rests on: notes/assumptions 34, 36, 39.) -/
def Obligations.EntriesAndWakes : Prop :=
  (∀ (s : State) (n : Fin 181), s.dev.working = true → s.dev.domState n.val = 3 →
    ((s.dev.dom n.val).target = 1 ∨ ((s.dev.dom n.val).target = 2 ∧ n.val ≠ 173 ∧ n.val ≠ 174)) →
    (s.dev.dom n.val).wakeAfter = false → (s.dev.dom n.val).waiters = [] → s.dev.bit (Obj.domainState n.val) 4 = false →
    (∀ i, i < 4 → s.dev.bit (Obj.wakeControl i) 0 = false) → (∀ x ∈ s.dev.held, x.domain ≠ n.val) →
    nextHas (exec (.entryComplete n) s) (fun t => t.dev.domState n.val = (s.dev.dom n.val).target ∧ s.sameRest t)) ∧
  (∀ (s : State) (n : Fin 181) (failed : List (Fin 17)) (puf : Bool), s.dev.working = true → n.val ≠ 179 → s.dev.domState n.val = 4 →
    s.dev.wakeReady n.val = true → (failed = [] ∨ 128 ≤ n.val) → s.dev.bit (Obj.domainState n.val) 4 = false →
    (∀ x ∈ s.dev.held, x.domain ≠ n.val) →
    nextHas (exec (.wakeComplete n failed puf) s) (fun t =>
      t.dev.domState n.val = 0 ∧
      ((s.dev.dom n.val).byAccess = true →
        t.dev.rd (Obj.wakesOnAccess n.val) = (s.dev.rd (Obj.wakesOnAccess n.val) + 1) % 2 ^ (Obj.wakesOnAccess n.val).bits) ∧
      ((s.dev.dom n.val).source = 2 → n.val < 128 →
        (∀ a, a < 2 ^ 20 → Memory.byte t.mem.pad (padKey n.val a) = 0) ∧
        (∀ c a, c ≠ n.val → Memory.byte t.mem.pad (padKey c a) = Memory.byte s.mem.pad (padKey c a))) ∧
      ((s.dev.dom n.val).source ≠ 2 ∨ 128 ≤ n.val → t.mem = s.mem) ∧ t.mem.gddr = s.mem.gddr ∧ t.pending = s.pending))

/-- R534, R535: a first access with the wake right wakes its domain where WakeOnAccess allows; without it the access is refused and counted, and nothing wakes.
R540, R541: an enabled wake input that becomes asserted wakes each of its targets that is in retention or off (IOD0 base being on, or a target itself); a disabled one
shows its level and wakes nothing.
(Choices of the model's that it rests on: notes/assumptions 34, 35.) -/
def Obligations.AccessesAndWakeInputs : Prop :=
  (∀ (s : State) (n : Fin 181) (who : Accessor) (write : Bool) (addr : BitVec 32), s.dev.working = true →
    (s.dev.domState n.val = 1 ∨ s.dev.domState n.val = 2) →
    (s.dev.accessRight who n.val = true → s.dev.on (Obj.wakeOnAccess n.val) = true → (s.dev.domOn 179 = true ∨ n.val = 179) →
      ∀ m, nextHas (exec (.firstAccess n who write m addr) s) (fun t =>
        t.dev.domState n.val = 4 ∧ (t.dev.dom n.val).byAccess = true ∧ s.sameRest t)) ∧
    ((s.dev.accessRight who n.val = false ∨ s.dev.on (Obj.wakeOnAccess n.val) = false) → nextHas (exec (.firstAccess n who write none addr) s) (fun t =>
      t.dev.rd (Obj.accessRefused n.val) = (s.dev.rd (Obj.accessRefused n.val) + 1) % 2 ^ (Obj.accessRefused n.val).bits ∧
      s.dev.regsKept t.dev [(Obj.accessRefused n.val).key] ∧ s.sameRest t))) ∧
  (∀ (s : State) (i : Fin 4) (level : Bool), s.dev.alive = true →
    (s.dev.bit (Obj.wakeStatus i.val) 0 ≠ level → s.dev.wakeAsserted i.val level = true → s.dev.wakeTakes i.val = true →
      nextHas (exec (.wakeInput i level) s) (fun t =>
        t.dev.bit (Obj.wakeStatus i.val) 0 = level ∧
        (∀ n, n < 181 → s.dev.wakeTarget i.val n = true → (s.dev.domState n = 1 ∨ s.dev.domState n = 2) → (s.dev.domOn 179 = true ∨ n = 179) →
          t.dev.domState n = 4) ∧ s.sameRest t)) ∧
    (s.dev.bit (Obj.wakeControl i.val) 0 = false → nextHas (exec (.wakeInput i level) s) (fun t =>
      t.dev.bit (Obj.wakeStatus i.val) 0 = level ∧ s.dev.regsKept t.dev [(Obj.wakeStatus i.val).key] ∧ s.sameRest t)))

/-- R536, R541: a stuck level-mode input is marked and taken no more; a write of WakeControl clears Flooded; PadRelease releases the pads of a domain that is on, and is
refused with STATE of one that is not.
R542, R544: a rail that reports POWER_GOOD is on; one that is not good 5 ms after it was turned on is marked and is a supply fault; a reading is shown, and a failed
transaction is flagged.
(Choices of the model's that it rests on: notes/assumptions 30, 31, 32, 35, 38.) -/
def Obligations.WakeSettingsAndRails : Prop :=
  ((∀ (s : State) (i : Fin 4), s.dev.alive = true → s.dev.bit (Obj.wakeControl i.val) 0 = true → 2 ≤ s.dev.wakeMode i.val →
    s.dev.wakeAsserted i.val (s.dev.bit (Obj.wakeStatus i.val) 0) = true →
    s.dev.rd (Obj.wakeStuckTime i.val) * 32768 ≤ (s.dev.aon - (s.dev.wakeIn i.val).sinceAon) * 1000 →
    nextHas (exec (.wakeStuck i) s) (fun t => t.dev.bit (Obj.wakeStatus i.val) 1 = true ∧ t.dev.wakeTakes i.val = false ∧
      s.dev.regsKept t.dev [(Obj.wakeStatus i.val).key] ∧ s.sameRest t)) ∧
  (∀ (s : State) (q : Requester) (i : Fin 4) (v : BitVec 32), s.dev.hears q (Obj.wakeControl i.val) v.toNat →
    nextHas (exec (.wakeControlWrite q i v) s) (fun t => t.dev.told q .ok ∧ t.dev.rd (Obj.wakeControl i.val) = v.toNat ∧
      t.dev.bit (Obj.wakeStatus i.val) 2 = false ∧ (t.dev.wakeIn i.val).count = 0 ∧
      s.dev.regsKeptAnswered t.dev [(Obj.wakeControl i.val).key, (Obj.wakeStatus i.val).key] ∧ s.sameRest t)) ∧
  (∀ (s : State) (q : Requester) (n : Fin 181), s.dev.hears q (Obj.padRelease n.val) 1 →
    (s.dev.domState n.val = 0 → nextHas (exec (.padRelease q n) s) (fun t => t.dev.told q .ok ∧ t.dev.bit (Obj.domainState n.val) 3 = false ∧
      s.dev.regsKeptAnswered t.dev [(Obj.domainState n.val).key] ∧ s.sameRest t)) ∧
    (s.dev.domState n.val ≠ 0 → nextHas (exec (.padRelease q n) s) (fun t => t.dev.told q .state ∧ s.dev.regsKeptAnswered t.dev [] ∧ s.sameRest t)))) ∧
  (∀ (s : State) (r : Fin 10), s.dev.alive = true →
    (s.dev.getF (Obj.railState r.val) 0 2 = 1 → nextHas (exec (.railPowerGood r) s) (fun t =>
      t.dev.getF (Obj.railState r.val) 0 2 = 2 ∧ (r.val < 4 → .avs r.val (s.dev.rd (Obj.voltageTarget r.val)) ∈ t.dev.out) ∧
      (∀ x, [(9, 4), (4, 5), (5, 6), (6, 8), (8, 7)].contains (r.val, x) = true → s.dev.domState 179 = 4 → s.dev.getF (Obj.railState x) 0 2 = 0 →
        t.dev.getF (Obj.railState x) 0 2 = 1 ∧ .pmbus x true ∈ t.dev.out) ∧ s.sameRest t)) ∧
    (s.dev.getF (Obj.railState r.val) 0 2 = 1 → s.dev.stopped = false → (Tab.get ({} : Rail) s.dev.rails r.val).onF + 5000000 ≤ s.dev.rf →
      nextHas (exec (.railTimeout r) s) (fun t => t.dev.getF (Obj.railState r.val) 0 2 = 3 ∧
        s.dev.regsKept t.dev [(Obj.railState r.val).key, (Obj.faultCounter 4 0).key, (Obj.faultCounter 4 1).key] ∧ s.sameRest t)) ∧
    (∀ (mv : BitVec 16) (ma : BitVec 32), nextHas (exec (.railReading r (some (mv, ma))) s) (fun t =>
      t.dev.getF (Obj.railState r.val) 16 16 = mv.toNat ∧ t.dev.bit (Obj.railState r.val) 2 = false ∧
      (r.val < 4 → t.dev.rd (Obj.railCurrent r.val) = ma.toNat) ∧ s.sameRest t)) ∧
    nextHas (exec (.railReading r none) s) (fun t => t.dev.bit (Obj.railState r.val) 2 = true ∧ s.sameRest t))

/-! ### Weirs and plans (chapter 11) -/

/-- R340, R347: ARM sets the arming of an accepted ARM word, DISARM clears Armed and Rearm, RESET clears what R340 lists and keeps the arming and the action record.
(ARM: where the arming does not fire at once, R343. RESET: of a weir whose arming, if any, has a Target, as ARM demands.)
R338, R341: an operation whose tenant does not own the weir changes nothing but Refusals, which saturates; a request is told RIGHTS; an ARM without a Target or an
ActionKind is refused in the same way, and a request is told RANGE.
(Choices of the model's that it rests on: notes/assumptions 73, 74.) -/
def Obligations.WeirArmDisarmReset : Prop :=
  (∀ (s : State) (src : WeirSource) (w : Fin 16384), s.dev.mayOperate src w.val = true →
    (∀ v : BitVec 64, s.dev.weirMeets src w.val (weirOpReq (.can 0) w.val 3 v.toNat).data → armValid v.toNat = true →
      (v.getLsbD 24 = true → stampDiff 32 (s.dev.weir w.val).count 0 < (field v.toNat 0 24 : Int)) →
      nextHas (exec (.armWeir src w v) s) (fun t =>
        t.dev.weir w.val = { s.dev.weir w.val with
          base := if v.getLsbD 24 then 0 else (s.dev.weir w.val).count, target := field v.toNat 0 24, rearm := v.getLsbD 25,
          actionKind := field v.toNat 26 2, armed := true } ∧
        (∀ u, u ≠ w.val → t.dev.weir u = s.dev.weir u) ∧ s.dev.regsKeptAnswered t.dev [] ∧ s.sameRest t)) ∧
    (s.dev.weirMeets src w.val (weirOpReq (.can 0) w.val 4 0).data → nextHas (exec (.disarmWeir src w) s) (fun t =>
      t.dev.weir w.val = { s.dev.weir w.val with armed := false, rearm := false } ∧
      (∀ u, u ≠ w.val → t.dev.weir u = s.dev.weir u) ∧ s.dev.regsKeptAnswered t.dev [] ∧ s.sameRest t)) ∧
    (s.dev.weirMeets src w.val (weirOpReq (.can 0) w.val 2 0).data → ((s.dev.weir w.val).armed = true → 0 < (s.dev.weir w.val).target) →
      nextHas (exec (.resetWeir src w) s) (fun t =>
        t.dev.weir w.val = { s.dev.weir w.val with count := 0, base := 0, reached := false, empty := false, held := false, lost := false } ∧
        (∀ u, u ≠ w.val → t.dev.weir u = s.dev.weir u) ∧ s.dev.regsKeptAnswered t.dev [] ∧ s.sameRest t))) ∧
  (∀ (s : State) (src : WeirSource) (w : Fin 16384),
    let x := s.dev.weir w.val
    (s.dev.mayOperate src w.val = false → ∀ (n : BitVec 32) (empty : Bool), s.dev.weirMeets src w.val (weirOpReq (.can 0) w.val 1 n.toNat).data →
      nextHas (exec (.addWeir src w n empty) s) (fun t =>
        t.dev.weir w.val = { x with refusals := min (x.refusals + 1) 0xFFFF } ∧ (∀ u, u ≠ w.val → t.dev.weir u = s.dev.weir u) ∧
        (∀ q, src = .request q → t.dev.told q .rights) ∧ s.dev.regsKeptAnswered t.dev [] ∧ s.sameRest t)) ∧
    (s.dev.mayOperate src w.val = true → ∀ v : BitVec 64, s.dev.weirMeets src w.val (weirOpReq (.can 0) w.val 3 v.toNat).data → v.toNat ≠ 0 →
      armValid v.toNat = false →
      nextHas (exec (.armWeir src w v) s) (fun t =>
        t.dev.weir w.val = { x with refusals := min (x.refusals + 1) 0xFFFF } ∧ (∀ u, u ≠ w.val → t.dev.weir u = s.dev.weir u) ∧
        (∀ q, src = .request q → t.dev.told q .range) ∧ s.dev.regsKeptAnswered t.dev [] ∧ s.sameRest t)))

/-- R340, R342 to R344: an ADD changes Count modulo 2³²; a weir left armed with d ≥ Target fires once in that operation: Reached, the action, and Base advanced over every
target crossed, or Armed cleared; the waits that now hold complete; every other weir stands.
R344: the WAIT of a steward core or a ferry completes at once where Count − Value ≥ 0, and otherwise waits last in line, registered with the die while it holds fewer
than 2,048.
(Choices of the model's that it rests on: notes/assumptions 73, 75.) -/
def Obligations.WeirAddsAndWaits : Prop :=
  (∀ (s : State) (src : WeirSource) (w : Fin 16384) (n : BitVec 32) (empty : Bool),
    s.dev.weirMeets src w.val (weirOpReq (.can 0) w.val 1 n.toNat).data → s.dev.mayOperate src w.val = true →
    (let e : Bool := match src with | .window _ | .request _ => false | _ => empty
     let x := Weir.add n.toNat e (s.dev.weir w.val)
     nextHas (exec (.addWeir src w n empty) s) (fun t =>
      (t.dev.weir w.val).count = ((s.dev.weir w.val).count + n.toNat) % 2 ^ 32 ∧
      (¬ (x.armed = true ∧ (x.target : Int) ≤ x.diff) → t.dev.weir w.val = x ∧ t.dev.starts = s.dev.starts ∧ t.dev.phaseReq = s.dev.phaseReq) ∧
      (x.armed = true → (x.target : Int) ≤ x.diff →
        (t.dev.weir w.val).reached = true ∧ (t.dev.weir w.val).armed = x.rearm ∧
        (t.dev.weir w.val).base = (if x.rearm then wrapAdd 32 x.base (x.target * (x.diff.toNat / x.target)) else x.base) ∧
        (x.actionKind = 2 → t.dev.starts = s.dev.starts ++ [{ ferry := leAt x.actionBytes 0 1, addr := leAt x.actionBytes 8 8, tenant := s.dev.weirOwner w.val, weir := w.val }])) ∧
      (∀ p ∈ t.dev.waits, p.weir = w.val → p.registered = true → stampDiff 32 (t.dev.weir w.val).count p.value < 0) ∧
      (∀ v, v ≠ w.val → t.dev.weir v = s.dev.weir v) ∧
      s.dev.regsKeptAnswered t.dev ((List.range 16).map (fun k => (Obj.phaseRequestsReplaced k).key)) ∧ s.sameRest t))) ∧
  (∀ (s : State) (c : Fin 128 ⊕ Fin 40) (w : Fin 16384) (v : BitVec 32),
    let src : WeirSource := match c with | .inl c => .cluster c | .inr f => .ferry f
    let who : Waiter := match c with | .inl c => .steward c.val | .inr f => .ferry f.val
    s.dev.working = true → s.dev.dieOut (w.val / 4096) = false → s.dev.mayOperate src w.val = true →
    nextHas (exec (.waitOn src w v) s) (fun t =>
      (0 ≤ stampDiff 32 (s.dev.weir w.val).count v.toNat → t.dev.waits = s.dev.waits) ∧
      (stampDiff 32 (s.dev.weir w.val).count v.toNat < 0 → ∃ p : PendingWait, t.dev.waits = s.dev.waits ++ [p] ∧ p.weir = w.val ∧ p.value = v.toNat ∧
        p.waiter = who ∧ (p.registered = true ↔ s.dev.waitsOn (w.val / 4096) < 2048)) ∧
      t.dev.weirs = s.dev.weirs ∧ s.dev.regsKept t.dev [] ∧ s.sameRest t))

/-- R12, R345, R347 to R349: an action record of 32 bytes is replaced whole while its weir is not armed; while it is armed the write is refused with STATE and counted; one that
R345 gives to no ActionKind is refused with RANGE.
(Choices of the model's that it rests on: notes/assumptions 73.) -/
def Obligations.ActionRecords : Prop :=
  ∀ (s : State) (q : Requester) (data : List Byte),
    let w := (s.dev.session (sessOf q)).weirSelect
    data.length = 32 → w < 16384 → s.dev.opened → s.dev.judgeWrite q 2 0x6813 0 data = .ok → s.dev.domOn (132 + w / 4096) = true →
    s.dev.dieOut (w / 4096) = false → s.dev.mayOperate (.request q) w = true →
    (actionOk data = false → nextHas (exec (.actionRecordWrite (.request q) data) s) (fun t =>
      t.dev.told q .range ∧ t.dev.weir w = { s.dev.weir w with refusals := min ((s.dev.weir w).refusals + 1) 0xFFFF } ∧
      (∀ u, u ≠ w → t.dev.weir u = s.dev.weir u) ∧ s.dev.regsKeptAnswered t.dev [] ∧ s.sameRest t)) ∧
    (actionOk data = true → (s.dev.weir w).armed = false → nextHas (exec (.actionRecordWrite (.request q) data) s) (fun t =>
      t.dev.told q .ok ∧ (t.dev.weir w).actionBytes = data ∧
      t.dev.weir w = { s.dev.weir w with action := (t.dev.weir w).action } ∧
      (∀ u, u ≠ w → t.dev.weir u = s.dev.weir u) ∧ s.dev.regsKeptAnswered t.dev [] ∧ s.sameRest t)) ∧
    (actionOk data = true → (s.dev.weir w).armed = true → nextHas (exec (.actionRecordWrite (.request q) data) s) (fun t =>
      t.dev.told q .state ∧ t.dev.weir w = { s.dev.weir w with refusals := min ((s.dev.weir w).refusals + 1) 0xFFFF } ∧
      (∀ u, u ≠ w → t.dev.weir u = s.dev.weir u) ∧ s.dev.regsKeptAnswered t.dev [] ∧ s.sameRest t))

/-- R365, R369, R474: a first segment from a tenant makes an EMPTY slot LOADING and the tenant's; the slot of a plan is another tenant's to no one; a whole image that is
refused leaves the slot EMPTY with its code, the first of R365's that fails, and nothing of it is held. A segment that does not hold the header writes no memory.
(Choices of the model's that it rests on: notes/assumptions 76.) -/
def Obligations.PlanImageSegments : Prop :=
  ∀ (s : State) (q : Requester) (p : Fin 16) (g : Seg), s.dev.reaches (segReq q (Obj.planImage p.val) g) → Dev.sessionOk q 2 (0x6000 + p.val) = true →
    (∀ t, s.dev.tenantOf q = some t → s.dev.rd (Obj.planState p.val) = 0 → g.first = true → g.offset = 0 → g.data.length ≤ segLimit q → g.data.length ≤ 2 ^ 30 →
      s.dev.transferBusy q (Obj.planImage p.val).key true = false →
      (g.last = false → nextHas (exec (.planImageWrite q p g) s) (fun u =>
        u.dev.told q .ok ∧ u.dev.rd (Obj.planState p.val) = 1 ∧ u.dev.rd (Obj.planOwner p.val) = t ∧
        (∃ x ∈ u.dev.transfers, x.q = q ∧ x.key = (Obj.planImage p.val).key ∧ x.writing = true ∧ x.data = g.data ∧ x.next = g.data.length) ∧
        s.dev.regsKeptAnswered u.dev [(Obj.planState p.val).key, (Obj.planOwner p.val).key] ∧
        ((s.dev.plan p.val).parts = [] → g.data.length < 64 → u.mem = s.mem) ∧ u.mem.pad = s.mem.pad ∧ u.mem.padBad = s.mem.padBad ∧ u.pending = s.pending)) ∧
      (g.last = true → (g.data.length < 64 ∨ leAt g.data 8 8 ≠ g.data.length) → nextHas (exec (.planImageWrite q p g) s) (fun u =>
        u.dev.told q .range ∧ u.dev.rd (Obj.planState p.val) = 0 ∧ u.dev.rd (Obj.planOwner p.val) = 0xFF ∧ u.dev.rd (Obj.planRefusal p.val) = 1 ∧
        (∀ a ∈ u.dev.allocs, a.tag ≠ p.val) ∧ u.mem.pad = s.mem.pad ∧ u.mem.padBad = s.mem.padBad ∧ u.pending = s.pending))) ∧
    ((∀ t, s.dev.tenantOf q = some t → s.dev.rd (Obj.planOwner p.val) ≠ t) → 2 ≤ s.dev.rd (Obj.planState p.val) →
      nextHas (exec (.planImageWrite q p g) s) (fun u => u.dev.told q .rights ∧ s.dev.regsKeptAnswered u.dev [] ∧ s.sameRest u))

/-- R366, R368: Start asks for EntryPhase and runs the plan, from LOADED or FAULTED; Stop makes it STOPPING, ends its chain starts and disarms its weirs; where nothing of
it is left in progress it is LOADED, or FAULTED where it failed, and its clusters have no mode; Unload frees its handles and its ranges. In any other state a command is refused
with STATE. (Of a plan whose placements name clusters there are, as a loaded one's do.)
R366, R367: a phase that waits starts once no tile of the plan is left and its clusters are on: the plan runs, PhaseNow shows it, and its chain starts are on their way
for the plan's owner; a running phase or a wait past its limit is counted and stops the plan on its way to FAULTED, a steward core's wait at a fill weir among them (R240).
(Choices of the model's that it rests on: notes/assumptions 75, 77.) -/
def Obligations.PlansRun : Prop :=
  (∀ (s : State) (q : Requester) (p : Fin 16),
    (s.dev.opened → s.dev.judgePlanCommand q p.val 1 = .ok →
      ((s.dev.rd (Obj.planState p.val) = 2 ∨ s.dev.rd (Obj.planState p.val) = 5) → nextHas (exec (.planStart q p) s) (fun t =>
        t.dev.told q .ok ∧ t.dev.rd (Obj.planState p.val) = 3 ∧ Tab.get 0 t.dev.phaseReq p.val = (s.dev.plan p.val).entry + 1 ∧
        s.dev.regsKeptAnswered t.dev [(Obj.planState p.val).key, (Obj.phaseRequestsReplaced p.val).key] ∧ s.sameRest t)) ∧
      (s.dev.rd (Obj.planState p.val) ≠ 2 → s.dev.rd (Obj.planState p.val) ≠ 5 → nextHas (exec (.planStart q p) s) (fun t =>
        t.dev.told q .state ∧ s.dev.regsKeptAnswered t.dev [] ∧ s.sameRest t))) ∧
    (s.dev.opened → s.dev.judgePlanCommand q p.val 2 = .ok → s.dev.rd (Obj.planState p.val) = 3 → nextHas (exec (.planStop q p) s) (fun t =>
      t.dev.told q .ok ∧ t.dev.rd (Obj.planState p.val) = 4 ∧
      (∀ c ∈ t.dev.starts ++ t.dev.heldStarts, (s.dev.plan p.val).ownsChain c.addr = false) ∧
      (∀ e ∈ (s.dev.plan p.val).weirs, (t.dev.weir e.weir).armed = false ∧ (t.dev.weir e.weir).count = (s.dev.weir e.weir).count) ∧ s.sameRest t)) ∧
    (s.dev.working = true → s.dev.rd (Obj.planState p.val) = 4 → s.dev.tilesLeft p.val = false → s.dev.chainsLeft p.val = false →
      (∀ e ∈ (s.dev.plan p.val).places, e.cluster < 128) →
      nextHas (exec (.planStopped p) s) (fun t =>
        t.dev.rd (Obj.planState p.val) = (if (s.dev.plan p.val).faulting then 5 else 2) ∧ t.dev.rd (Obj.phaseNow p.val) = 0xFF ∧
        (∀ e ∈ (s.dev.plan p.val).places, t.dev.rd (Obj.clusterMode e.cluster) = 0) ∧
        s.dev.regsKept t.dev ((Obj.planState p.val).key :: (Obj.phaseNow p.val).key :: (s.dev.plan p.val).places.map (fun e => (Obj.clusterMode e.cluster).key)) ∧
        s.sameRest t)) ∧
    (s.dev.opened → s.dev.judgePlanCommand q p.val 3 = .ok → (s.dev.rd (Obj.planState p.val) = 2 ∨ s.dev.rd (Obj.planState p.val) = 5) →
      nextHas (exec (.planUnload q p) s) (fun t =>
        t.dev.told q .ok ∧ t.dev.rd (Obj.planState p.val) = 0 ∧ t.dev.rd (Obj.planOwner p.val) = 0xFF ∧ t.dev.rd (Obj.planVersion p.val) = 0 ∧
        (∀ a ∈ t.dev.allocs, a.tag ≠ p.val) ∧ (∀ h ∈ (s.dev.plan p.val).popHandles, h < 1024 → t.dev.rd (Obj.popOwner h) = 0xFF) ∧
        (∀ l ∈ (s.dev.plan p.val).layerHandles, l < 256 → t.dev.rd (Obj.layerOwner l) = 0xFF) ∧ t.mem.pad = s.mem.pad ∧ t.pending = s.pending))) ∧
  (∀ (s : State) (p : Fin 16), s.dev.working = true →
    (∀ n, n < 16 → Tab.get 0 s.dev.phaseReq p.val = n + 1 → (s.dev.rd (Obj.planState p.val) = 2 ∨ s.dev.rd (Obj.planState p.val) = 5) → s.dev.tilesLeft p.val = false →
      (∀ c ∈ (s.dev.plan p.val).phaseClusters n, s.dev.domOn c = true ∧ s.dev.padFree c = true) → (∀ e ∈ (s.dev.plan p.val).places, e.cluster < 128) →
      nextHas (exec (.phaseStart p) s) (fun t =>
        t.dev.rd (Obj.planState p.val) = 3 ∧ t.dev.rd (Obj.phaseNow p.val) = n ∧
        (∀ z ∈ (s.dev.plan p.val).startsOf n, ({ ferry := z.1, addr := (s.dev.plan p.val).chainsBase + 64 * z.2, tenant := s.dev.rd (Obj.planOwner p.val), weir := 16384 } : ChainStart) ∈ t.dev.starts) ∧
        t.pending = s.pending)) ∧
    (∀ e, (s.dev.plan p.val).phases.find? (fun e => e.phase == s.dev.rd (Obj.phaseNow p.val)) = some e → s.dev.rd (Obj.planState p.val) = 3 → e.timeout ≠ 0 →
      (s.dev.plan p.val).phaseF + 1000 * e.timeout ≤ s.dev.rf →
      nextHas (exec (.phaseTimeout p) s) (fun t =>
        t.dev.rd (Obj.phaseTimeouts p.val) = (s.dev.rd (Obj.phaseTimeouts p.val) + 1) % 2 ^ 32 ∧ t.dev.rd (Obj.planState p.val) = 4 ∧
        (t.dev.plan p.val).faulting = true ∧ s.sameRest t)) ∧
    (((∃ w ∈ s.dev.waits, s.dev.waiterPlan w.waiter = some p.val ∧ w.limit ≠ 0 ∧ w.sinceF + w.limit < s.dev.rf) ∨
      (∃ z ∈ (s.dev.plan p.val).layers.zip (s.dev.plan p.val).layerHandles, ∃ h ∈ (s.dev.layer z.2).halo, s.dev.layerRuns z.2 = true ∧ h.limit ≠ 0 ∧
        h.sinceF + h.limit < s.dev.rf ∧ (s.dev.windowHeld z.2 z.1 (h.unit / 16)).isSome = true)) →
      nextHas (exec (.stallTimeout p) s) (fun t =>
        t.dev.rd (Obj.stallTimeouts p.val) = (s.dev.rd (Obj.stallTimeouts p.val) + 1) % 2 ^ 32 ∧ t.dev.rd (Obj.planState p.val) = 4 ∧
        (t.dev.plan p.val).faulting = true ∧ s.sameRest t)))

/-! ### Shoal mode (chapter 6) -/

/-- R186, R187, R190, R191, R198, R199: what the oldest word for a source slot does to a running population on a cluster in shoal mode: an input of a tick to come is held in the
future buffer, and waits where the buffer is full; an input of the open tick adds each synapse's term to its neuron's accumulator, and what it gives to units that do not work waits for
them; an input of a tick already closed is counted late; a horizon word raises the horizon of its slot and of no other. (Of a cluster on which no input waits for a unit.)
(Choices of the model's that it rests on: notes/assumptions 59.) -/
def Obligations.ShoalWords : Prop :=
  ∀ (s : State) (h : Fin 1024) (c : Fin 128) (slot : Fin 64) (poisoned : Bool) (e : PopEntry) (x : PopCluster) (w : Transit) (rest : List Transit),
    s.dev.up c.val → s.dev.popEntry h.val = some e → (s.dev.pop h.val).on c.val = some x → s.dev.popRuns h.val = true → s.dev.shoalMode c.val = true → x.waiting = [] →
    takeFirst (fun t => decide (t.dest = .population h.val c.val slot.val)) s.dev.transit = some (w, rest) →
    (w.horizon = false → (2 ^ 24 ≤ w.route ∨ wKind w.word ≤ 1) → x.tick < s.dev.wordTick h.val x w →
      (x.future.length < 4096 → nextHas (exec (.shoalInput h c slot poisoned) s) (fun t =>
        t.dev.transit = rest ∧ t.dev.neurons = s.dev.neurons ∧ t.dev.accs = s.dev.accs ∧
        (∃ y, (t.dev.pop h.val).on c.val = some y ∧ y.tick = x.tick ∧
          y.future = x.future ++ [⟨s.dev.wordTick h.val x w, slot.val, w.word, w.second, poisoned || w.poisoned⟩]) ∧
        s.dev.regsKept t.dev [(Obj.popCounter h.val 12).key] ∧
        t.dev.rd (Obj.popCounter h.val 12) = (s.dev.rd (Obj.popCounter h.val 12) + 1) % 2 ^ 64 ∧ s.sameRest t)) ∧
      (4096 ≤ x.future.length → nextHas (exec (.shoalInput h c slot poisoned) s) (fun t => t.dev = { s.dev with out := [] } ∧ s.sameRest t))) ∧
    (w.horizon = false → (2 ^ 24 ≤ w.route ∨ wKind w.word ≤ 1) → s.dev.wordTick h.val x w = x.tick →
      let y : FutureInput := ⟨x.tick, slot.val, w.word, w.second, poisoned || w.poisoned⟩
      (∀ z, s.dev.heldSynapses h.val c.val y = [z] → s.dev.unitWorks z.unit = true → nextHas (exec (.shoalInput h c slot poisoned) s) (fun t =>
        t.dev.transit = rest ∧ Tab.get 0 t.dev.accs z.key = unsigned 32 (signed 32 (Tab.get 0 s.dev.accs z.key) + z.term) ∧
        (∀ k, k ≠ z.key → Tab.get 0 t.dev.accs k = Tab.get 0 s.dev.accs k ∧ Tab.get 0 t.dev.residues k = Tab.get 0 s.dev.residues k) ∧
        (y.poisoned = true → Tab.get false t.dev.neuronBad z.key = true) ∧ t.dev.neurons = s.dev.neurons ∧
        t.dev.rd (Obj.popCounter h.val 2) = (s.dev.rd (Obj.popCounter h.val 2) + 1) % 2 ^ 64 ∧ s.dev.regsKept t.dev [(Obj.popCounter h.val 2).key] ∧ s.sameRest t)) ∧
      (s.dev.heldSynapses h.val c.val y ≠ [] → (∀ z ∈ s.dev.heldSynapses h.val c.val y, s.dev.unitWorks z.unit = false) →
        nextHas (exec (.shoalInput h c slot poisoned) s) (fun t =>
          t.dev.transit = rest ∧ t.dev.accs = s.dev.accs ∧ t.dev.neurons = s.dev.neurons ∧
          (∃ v us, (t.dev.pop h.val).on c.val = some v ∧ v.waiting = [⟨y, us, false⟩] ∧ ∀ z ∈ s.dev.heldSynapses h.val c.val y, z.unit ∈ us) ∧
          s.dev.regsKept t.dev [] ∧ s.sameRest t))) ∧
    (w.horizon = false → (2 ^ 24 ≤ w.route ∨ wKind w.word ≤ 1) → s.dev.wordTick h.val x w < x.tick →
      nextHas (exec (.shoalInput h c slot poisoned) s) (fun t =>
        t.dev.transit = rest ∧ t.dev.rd (Obj.popCounter h.val 3) = (s.dev.rd (Obj.popCounter h.val 3) + 1) % 2 ^ 64 ∧
        t.dev.neurons = s.dev.neurons ∧ s.dev.regsKept t.dev [(Obj.popCounter h.val 2).key, (Obj.popCounter h.val 3).key] ∧ s.sameRest t)) ∧
    (w.horizon = true → nextHas (exec (.horizonWord h c slot) s) (fun t =>
      t.dev.transit = rest ∧ (∃ y, (t.dev.pop h.val).on c.val = some y ∧ y.tick = x.tick ∧ y.reached slot.val (s.dev.wordTick h.val x w) = true ∧
        ∀ i k, i ≠ slot.val → y.reached i k = x.reached i k) ∧
      t.dev.accs = s.dev.accs ∧ s.dev.regsKept t.dev [] ∧ s.sameRest t))

/-- R189, R192, R193, R213: the open tick closes when every gating slot's horizon has reached it, or HorizonTimeout after its end, which is counted; the tick after it opens. A
closed neuron takes close_neuron of its state and its accumulator. A population behind by more than 100 ms, or that has a step to follow, passes over ticks, and counts them.
(Stated with no residue mismatch, where no input waits for a unit; for the neurons, of a cluster that holds one block of them, on a unit that works.)
R268, R269: an accumulator whose residue agrees with its value still agrees after a term whose residue is the term's, also where the value wraps at 32 bits; a residue that
is off by one or two is seen. So a synapse leaves its neuron's accumulator in agreement and every other one as it was, and a tile's accumulator agrees over any terms.
(Choices of the model's that it rests on: notes/assumptions 58, 61.) -/
def Obligations.TicksClose : Prop :=
  (∀ (s : State) (h : Fin 1024) (c : Fin 128) (e : PopEntry) (x : PopCluster), s.dev.up c.val → s.dev.popEntry h.val = some e →
    (s.dev.pop h.val).on c.val = some x → s.dev.popRuns h.val = true → s.dev.shoalMode c.val = true → x.waiting = [] →
    (∀ m ∈ e.unitsOn c.val, s.dev.residueOff e c.val m.unit false = false) →
    (s.dev.gatesOpen h.val e x = true → nextHas (exec (.tickClose h c []) s) (fun t =>
      (∃ y, (t.dev.pop h.val).on c.val = some y ∧ y.tick = x.tick + 1) ∧
      t.dev.rd (Obj.popCounter h.val 0) = (s.dev.rd (Obj.popCounter h.val 0) + 1) % 2 ^ 64 ∧
      t.dev.rd (Obj.popCounter h.val 4) = s.dev.rd (Obj.popCounter h.val 4) ∧
      (∀ m, e.unitsOn c.val = [m] → s.dev.unitWorks (c.val * 16 + m.unit) = true → ∀ i, i < m.count →
        let k := neuronKey c.val m.unit (m.firstIndex + i)
        let v := Tab.get 0 s.dev.neurons k
        bitAt v 31 = true → Tab.get 0 t.dev.neurons k =
          neuronWord (closeNeuron (s.dev.closeParams h.val) (signed 24 v) (field v 24 4) (signed 32 (Tab.get 0 s.dev.accs k)))) ∧ s.sameRest t)) ∧
    (s.dev.passed (s.dev.tickEnd h.val x.tick) (s.dev.rd (Obj.horizonTimeout h.val)) = true → nextHas (exec (.horizonTimeout h c []) s) (fun t =>
      (∃ y, (t.dev.pop h.val).on c.val = some y ∧ y.tick = x.tick + 1) ∧
      t.dev.rd (Obj.popCounter h.val 0) = (s.dev.rd (Obj.popCounter h.val 0) + 1) % 2 ^ 64 ∧
      t.dev.rd (Obj.popCounter h.val 4) = (s.dev.rd (Obj.popCounter h.val 4) + 1) % 2 ^ 64 ∧ s.sameRest t)) ∧
    ((x.stepped = true ∨ s.dev.tickEnd h.val x.tick + 100000000 < s.dev.dt) → nextHas (exec (.tickSkip h c []) s) (fun t =>
      (∃ y, (t.dev.pop h.val).on c.val = some y ∧ y.tick = max (x.tick + 1) (s.dev.tickOf h.val s.dev.dt) ∧ y.stepped = false) ∧
      t.dev.rd (Obj.popCounter h.val 0) = (s.dev.rd (Obj.popCounter h.val 0) + 1) % 2 ^ 64 ∧
      t.dev.rd (Obj.popCounter h.val 4) = (s.dev.rd (Obj.popCounter h.val 4) + 1) % 2 ^ 64 ∧
      t.dev.rd (Obj.popCounter h.val 8) = (s.dev.rd (Obj.popCounter h.val 8) + (s.dev.tickOf h.val s.dev.dt - (x.tick + 1)).toNat) % 2 ^ 64 ∧ s.sameRest t))) ∧
  ((∀ (a : ResAcc) (wraps : Bool) (v : Int), a.agrees 0 = true → (a.add wraps v (mod3 v)).agrees 0 = true ∧
    (a.add wraps v (mod3 v)).agrees 1 = false ∧ (a.add wraps v (mod3 v)).agrees 2 = false) ∧
  (∀ y : Synapse, y.residue = mod3 y.term) ∧
  (∀ (d : Dev) (h : Nat) (y : Synapse) (poisoned : Bool),
    ((d.accRes y.key).agrees 0 = true → ((d.synapse h y poisoned).accRes y.key).agrees 0 = true) ∧
    ((d.synapse h y poisoned).accRes y.key).value = signed 32 (unsigned 32 ((d.accRes y.key).value + y.term)) ∧
    (∀ k, k ≠ y.key → (d.synapse h y poisoned).accRes k = d.accRes k)) ∧
  (∀ (integer : Bool) (ts : List Int), (residueOver integer ts).agrees 0 = true))

/-! ### Faults and recovery (chapter 18) -/

/-- R72, R551 to R554: a detection whose element no entry covers puts one entry last in its queue, with the next Sequence; one that a waiting entry covers merges into it;
one on an ancestor of the element being handled makes the handling escalate to it (R556); each is counted, and nothing else changes but the recorder's live counts. Class 0x30 puts a die into the safe state; class 0x31 means that it is lost, and every other die in service
holds an entry that names it (R40).
(Choices of the model's that it rests on: notes/assumptions 40, 42, 56.) -/
def Obligations.DetectionsQueue : Prop :=
  ∀ (s : State), s.dev.working = true →
    (∀ (w : Watched ⊕ Detection) (detail : BitVec 32),
      let x : Detection := match w with
        | .inl (.unit g) => .watchUnit g | .inl (.cluster c) => .watchCluster c | .inl (.region r) => .watchRegion r | .inl (.eddy d) => .watchEddy d
        | .inr y => y
      let c : Instr := match w with | .inl y => .handshakeWatchdog y | .inr y => .faultDetection y detail
      let det : Nat := match w with | .inl (.unit g) => s.dev.slotOf g.val | .inl _ => 0 | .inr _ => detail.toNat
      let cls := (detectionEntry x).1
      let e := (detectionEntry x).2
      let covers : FaultEntry → Bool := fun y => y.phase != .isolated && !reportOnly y.cls && Elem.under e y.elem
      reportOnly cls = false → cls ≠ 0x30 → cls ≠ 0x31 →
      ((s.dev.queueOf e.queue).entries.any covers = false → s.dev.takenUnder e.queue e = false → s.dev.handling e.queue = none → s.dev.alreadyOut e = false → (s.dev.queueOf e.queue).entries.length < 64 →
        nextHas (exec c s) (fun t =>
          t.dev.queueOf e.queue = { s.dev.queueOf e.queue with
            entries := (s.dev.queueOf e.queue).entries ++
              [{ seq := (s.dev.queueOf e.queue).nextSeq, cls := cls, elem := e, detail := det, time := s.dev.dt, detectF := s.dev.rf }],
            nextSeq := ((s.dev.queueOf e.queue).nextSeq + 1) % 2 ^ 32 } ∧
          t.dev.rd (Obj.faultCounter e.queue 0) = (s.dev.rd (Obj.faultCounter e.queue 0) + 1) % 2 ^ 64 ∧
          s.dev.regsKept t.dev [(Obj.faultCounter e.queue 0).key] ∧ s.sameRest t)) ∧
      ((s.dev.queueOf e.queue).entries.any covers = true → nextHas (exec c s) (fun t =>
        (t.dev.queueOf e.queue).entries.length = (s.dev.queueOf e.queue).entries.length ∧
        (t.dev.queueOf e.queue).nextSeq = (s.dev.queueOf e.queue).nextSeq ∧
        t.dev.rd (Obj.faultCounter e.queue 0) = (s.dev.rd (Obj.faultCounter e.queue 0) + 1) % 2 ^ 64 ∧
        t.dev.rd (Obj.faultCounter e.queue 1) = (s.dev.rd (Obj.faultCounter e.queue 1) + 1) % 2 ^ 64 ∧
        s.dev.regsKept t.dev [(Obj.faultCounter e.queue 0).key, (Obj.faultCounter e.queue 1).key] ∧ s.sameRest t)) ∧
      ((s.dev.queueOf e.queue).entries.any covers = false → s.dev.takenUnder e.queue e = true → (match e with | .die _ => false | _ => true) = true → nextHas (exec c s) (fun t =>
        (∃ y, (t.dev.queueOf e.queue).entries.head? = some y ∧ y.elem = e ∧ y.phase = .isolated) ∧
        t.dev.rd (Obj.faultCounter e.queue 2) = (s.dev.rd (Obj.faultCounter e.queue 2) + 1) % 2 ^ 64))) ∧
    (∀ (d : Fin 6) (detail : BitVec 32), s.dev.rd (Obj.dieHealth d.val) = 0 → nextHas (exec (.faultDetection (.manager d) detail) s) (fun t =>
      t.dev.rd (Obj.dieHealth d.val) = 1 ∧ t.dev.alertFault = true ∧ t.dev.bit (Obj.faultEngineState d.val) 8 = true ∧
      t.dev.getF (Obj.faultEngineState d.val) 9 3 = 1 ∧ s.sameRest t)) ∧
    (∀ (d : Fin 4) (detail : BitVec 32), s.dev.rd (Obj.dieHealth d.val) = 0 → nextHas (exec (.faultDetection (.dieLost d) detail) s) (fun t =>
      t.dev.rd (Obj.dieHealth d.val) = 2 ∧ t.dev.alertFault = true ∧ t.dev.getF (Obj.faultEngineState d.val) 9 3 = 4 ∧
      (∀ k, k < 6 → k ≠ d.val → s.dev.rd (Obj.dieHealth k) = 0 → (s.dev.queueOf k).entries.length < 64 →
        ∃ y ∈ (t.dev.queueOf k).entries, y.cls = 0x31 ∧ y.elem = .die d.val ∧ y.detail = detail.toNat) ∧ s.sameRest t))

/-- R554, R556, R557, R561, R562: the head entry of a queue is taken; a report-only one goes to the log with outcome 5; a unit with a spare is isolated, its slot failed, and its
recovery is the remap onto the spare, outcome 1; an entry past its deadline ends with outcome 7 and its die in the safe state.
(Choices of the model's that it rests on: notes/assumptions 40, 41, 43, 105.) -/
def Obligations.FaultsAreHandled : Prop :=
  ∀ (s : State) (q : Fin 6) (e : FaultEntry) (es : List FaultEntry), s.dev.working = true → (s.dev.queueOf q.val).entries = e :: es →
    (s.dev.mayTake q.val e = true → e.phase ≠ .isolated → reportOnly e.cls = true → e.cls ≠ 0x0E → nextHas (exec (.faultHandle q false) s) (fun t =>
      (t.dev.queueOf q.val).entries = es ∧ (t.dev.queueOf q.val).log.getLast? = some { e with outcome := 5 } ∧ s.dev.regsKept t.dev [] ∧ s.sameRest t)) ∧
    (s.dev.mayTake q.val e = true → e.phase = .queued → reportOnly e.cls = false → nextHas (exec (.faultHandle q true) s) (fun t =>
      (t.dev.queueOf q.val).entries = { e with phase := .taken, takenF := s.dev.rf } :: es ∧ s.dev.regsKept t.dev [] ∧ s.sameRest t)) ∧
    (∀ g : Fin 2048, e.elem = .unit g.val → s.dev.mayTake q.val e = true → e.phase = .queued → reportOnly e.cls = false →
      s.dev.bit (Obj.clusterHealth (g.val / 16)) 2 = true → s.dev.slotOf g.val < 17 → s.dev.getF (Obj.clusterHealth (g.val / 16)) 20 5 ≠ s.dev.slotOf g.val →
      nextHas (exec (.faultHandle q false) s) (fun t =>
        (t.dev.queueOf q.val).entries = { e with phase := .isolated, takenF := s.dev.rf } :: es ∧
        t.dev.bit (Obj.clusterHealth (g.val / 16)) (3 + s.dev.slotOf g.val) = true ∧
        (∀ i, i ≠ 3 + s.dev.slotOf g.val → i < 32 → t.dev.bit (Obj.clusterHealth (g.val / 16)) i = s.dev.bit (Obj.clusterHealth (g.val / 16)) i) ∧
        s.dev.regsKept t.dev [(Obj.clusterHealth (g.val / 16)).key, (Obj.sluiceDiscardedWords (g.val / 16)).key] ∧ s.sameRest t)) ∧
    (∀ g : Fin 2048, e.elem = .unit g.val → e.phase = .isolated → nextHas (exec (.recoveryComplete q) s) (fun t =>
      t.dev.slotOf g.val = s.dev.getF (Obj.clusterHealth (g.val / 16)) 20 5 ∧ t.dev.bit (Obj.clusterHealth (g.val / 16)) 2 = false ∧
      t.dev.getF (Obj.clusterHealth (g.val / 16)) 20 5 = 0x1F ∧ (t.dev.queueOf q.val).entries = es ∧
      (∃ y, (t.dev.queueOf q.val).log.getLast? = some y ∧ y.seq = e.seq ∧ y.outcome = 1 ∧ y.resume = s.dev.dt) ∧
      t.dev.rd (Obj.faultCounter q.val 4) = (s.dev.rd (Obj.faultCounter q.val 4) + 1) % 2 ^ 64 ∧ s.sameRest t)) ∧
    ((e.phase = .taken ∧ e.takenF + 50000 < s.dev.rf) ∨ (e.phase = .isolated ∧ e.takenF + 740000 < s.dev.rf) → s.dev.rd (Obj.dieHealth q.val) = 0 →
      nextHas (exec (.handlingDeadline q) s) (fun t =>
        (∃ y ∈ (t.dev.queueOf q.val).log, y.seq = e.seq ∧ y.outcome = 7) ∧ t.dev.rd (Obj.dieHealth q.val) = 1 ∧ t.dev.alertFault = true ∧
        t.dev.getF (Obj.faultEngineState q.val) 9 3 = 1 ∧ s.sameRest t))

/-- R559, R568, R573: the custodian's three writes. A die in the safe state takes DieRecover: its weirs are in their reset state, and it serves again where its image verifies;
a failed slot takes a retest while no pass runs on its cluster; AlertClear releases ALERT_N. Where the conditions do not hold they are refused with STATE.
R22, R79, R551: a CRC error is a counted retry, and more than 16 within 1 ms start a retrain; a retrain that ends names a lane or the link, which is detected; the
recalibration of IOD1's path ends.
(Choices of the model's that it rests on: notes/assumptions 40, 43, 105.) -/
def Obligations.RecoveryCommands : Prop :=
  (∀ (s : State) (q : Requester),
    (∀ (d : Fin 4) (v : BitVec 8), s.dev.hears q (Obj.dieCommand d.val) v.toNat →
      (s.dev.rd (Obj.dieHealth d.val) = 1 → s.dev.getF (Obj.faultEngineState d.val) 9 3 ≠ 5 → s.dev.getF (Obj.railState d.val) 0 2 ≠ 3 →
        nextHas (exec (.dieRecover q d v) s) (fun t =>
          t.dev.told q .ok ∧ (∀ w, w / 4096 = d.val → t.dev.weir w = {}) ∧ (∀ w, w / 4096 ≠ d.val → t.dev.weir w = s.dev.weir w) ∧
          t.dev.rd (Obj.dieHealth d.val) = (if s.dev.imageGood (s.dev.getF Obj.securityState 1 1) 2 then 0 else 1) ∧ s.sameRest t)) ∧
      (s.dev.rd (Obj.dieHealth d.val) ≠ 1 → nextHas (exec (.dieRecover q d v) s) (fun t =>
        t.dev.told q .state ∧ s.dev.regsKeptAnswered t.dev [] ∧ s.sameRest t))) ∧
    (∀ (c : Fin 128) (v : BitVec 8), s.dev.hears q (Obj.slotRetest c.val) v.toNat →
      (s.dev.bit (Obj.clusterHealth c.val) (3 + v.toNat) = true → s.dev.march c.val = none → nextHas (exec (.slotRetest q c v) s) (fun t =>
        t.dev.told q .ok ∧ (∃ m, t.dev.march c.val = some m ∧ m.retest = true ∧ field m.control 0 2 = 2 ∧ field m.control 5 5 = v.toNat % 32) ∧
        field (t.dev.marchNow c.val) 0 2 = 1 ∧ s.dev.regsKeptAnswered t.dev [] ∧ s.sameRest t)) ∧
      (s.dev.bit (Obj.clusterHealth c.val) (3 + v.toNat) = false ∨ (s.dev.march c.val).isSome = true → nextHas (exec (.slotRetest q c v) s) (fun t =>
        t.dev.told q .state ∧ s.dev.regsKeptAnswered t.dev [] ∧ s.sameRest t))) ∧
    (∀ v : BitVec 8, s.dev.hears q Obj.alertClear v.toNat → nextHas (exec (.alertClear q v) s) (fun t =>
      t.dev.told q .ok ∧ t.dev.alertFault = false ∧ t.dev.alertRecovery = s.dev.alertRecovery ∧ s.dev.regsKeptAnswered t.dev [] ∧ s.sameRest t))) ∧
  (∀ (s : State) (l : Fin 12), s.dev.working = true →
    nextHas (exec (.linkCrcError l) s) (fun t =>
      t.dev.rd (Obj.linkRetries l.val) = (s.dev.rd (Obj.linkRetries l.val) + 1) % 2 ^ (Obj.linkRetries l.val).bits ∧
      (Tab.get (0, 0) s.dev.linkMs l.val = (s.dev.win 1000000 + 1, 16) → Tab.get 0 s.dev.linkRetrainF l.val = 0 →
        Tab.get 0 t.dev.linkRetrainF l.val = s.dev.rf + 1) ∧
      (∀ k, Tab.get (0, 0) s.dev.linkMs l.val = (s.dev.win 1000000 + 1, k) → k < 16 → t.dev.linkRetrainF = s.dev.linkRetrainF) ∧
      s.dev.regsKept t.dev [(Obj.linkRetries l.val).key] ∧ s.sameRest t) ∧
    (∀ lane, Tab.get 0 s.dev.linkRetrainF l.val ≠ 0 → nextHas (exec (.laneRetrainEnd l lane) s) (fun t =>
      Tab.get 0 t.dev.linkRetrainF l.val = 0 ∧
      t.dev.rd (Obj.faultCounter (linkDie l.val false) 0) = (s.dev.rd (Obj.faultCounter (linkDie l.val false) 0) + 1) % 2 ^ 64 ∧ s.sameRest t)) ∧
    nextHas (exec .pathRecalibrationEnd s) (fun t => t.dev.pathRecalF = 0 ∧ t.dev.f = s.dev.f ∧ s.dev.regsKept t.dev [] ∧ s.sameRest t))

/-! ### Inlet (chapter 4) -/

/-- R124 to R129, R131, R133: activity at an EMPTY port begins IDENTIFY and addresses the sensor; the identity read makes it UNMATCHED, QUARANTINED or READY; 10 ms without an
answer is FAULT with LastError 6; in-band interrupts are counted and Hot-Joins accepted; the custodian's Confirm accepts the identity seen. (Sequences that the sensor acknowledges;
activity of a sensor on I3C.)
(Choices of the model's that it rests on: notes/assumptions 50.) -/
def Obligations.SensorsAreIdentified : Prop :=
  ∀ (s : State) (n : Fin 36),
    (∀ source, s.dev.up (portDomain n.val) →
      (s.dev.stState n.val = 0 → s.dev.rd (Obj.streamSource n.val) = 0 → nextHas (exec (.linkActivity n source none) s) (fun t =>
        t.dev.stState n.val = 1 ∧ t.dev.profileOf n.val = 0xFF ∧ t.dev.rd (Obj.dynamicAddress n.val) = 0x30 + n.val % 2 ∧
        t.dev.rd (Obj.streamCounter n.val 0x13) = (s.dev.rd (Obj.streamCounter n.val 0x13) + 1) % 2 ^ 64 ∧ s.sameRest t)) ∧
      (s.dev.stState n.val ≠ 0 → nextHas (exec (.linkActivity n source none) s) (fun t =>
        (t.dev.str n.val).activeF = s.dev.rf ∧ s.dev.regsKept t.dev [] ∧ s.sameRest t))) ∧
    (∀ pid bcr dcr serial, s.dev.up (portDomain n.val) → s.dev.i3cLatched = false → s.dev.stState n.val = 1 → s.dev.rd (Obj.streamSource n.val) = 0 →
      (s.dev.str n.val).i3cOut = true → (s.dev.rd (Obj.i3cStaticAddress n.val) ≠ 0 ∨ s.dev.stState (busMate n.val) ≠ 1) →
      (let slot := s.dev.matchProfile n.val (some pid)
       let id := s.dev.identityBytes slot pid bcr dcr serial
       nextHas (exec (.identityRead n pid bcr dcr serial none) s) (fun t =>
        t.dev.blob (Obj.seenIdentity n.val) = id ∧ (t.dev.str n.val).i3cOut = false ∧
        (slot = none → t.dev.stState n.val = 3) ∧
        (∀ p, slot = some p → t.dev.profileOf n.val = p ∧ t.dev.stState n.val = (if s.dev.blob (Obj.expectedIdentity n.val) = id then 4 else 2)) ∧
        s.dev.regsKept t.dev [(Obj.streamState n.val).key, (Obj.streamCounter n.val 0x14).key] ∧ s.sameRest t))) ∧
    (s.dev.up (portDomain n.val) → s.dev.i3cLatched = false → s.dev.stState n.val = 1 → (s.dev.str n.val).i3cOut = true → (s.dev.str n.val).i3cF + 10000000 ≤ s.dev.rf →
      nextHas (exec (.i3cTimeout n) s) (fun t => t.dev.stState n.val = 7 ∧ t.dev.getF (Obj.streamState n.val) 24 8 = 6 ∧ s.sameRest t)) ∧
    (s.dev.up 180 → s.dev.i3cLatched = false → nextHas (exec (.i3cInterrupt n) s) (fun t =>
      t.dev.rd (Obj.streamCounter n.val 0x16) = (s.dev.rd (Obj.streamCounter n.val 0x16) + 1) % 2 ^ 64 ∧
      t.dev.out = [.i3c n.val 6 (s.dev.rd (Obj.dynamicAddress n.val)) []] ∧ s.dev.regsKept t.dev [(Obj.streamCounter n.val 0x16).key] ∧ s.sameRest t)) ∧
    (s.dev.up 180 → s.dev.i3cLatched = false → nextHas (exec (.hotJoin n) s) (fun t => t.dev = { s.dev with out := [.i3c n.val 6 2 []] } ∧ s.sameRest t)) ∧
    (∀ q, s.dev.hears q (Obj.streamCommand n.val) 3 →
      (s.dev.isCustodian q = false → nextHas (exec (.confirm q n none) s) (fun t => t.dev.told q .rights ∧ s.dev.regsKeptAnswered t.dev [] ∧ s.sameRest t)) ∧
      (s.dev.isCustodian q = true → s.dev.stState n.val ≠ 2 → nextHas (exec (.confirm q n none) s) (fun t =>
        t.dev.told q .state ∧ s.dev.regsKeptAnswered t.dev [] ∧ s.sameRest t)) ∧
      (s.dev.isCustodian q = true → s.dev.stState n.val = 2 → nextHas (exec (.confirm q n none) s) (fun t =>
        t.dev.told q .ok ∧ t.dev.stState n.val = 4 ∧ t.dev.blob (Obj.expectedIdentity n.val) = s.dev.blob (Obj.seenIdentity n.val) ∧
        s.dev.regsKeptAnswered t.dev [(Obj.streamState n.val).key] ∧ s.sameRest t)))

/-- R129, R130, R147: Start in READY runs the stream, STREAM_START and DEROT_OFF queued at the present instant, or is refused with STATE and its LastError; elsewhere it shows
that a start is desired; AutoRestart starts a READY stream that is desired; Stop in RUNNING drains it. (Sequences that the sensor acknowledges; a queue with room for the markers.)
R129, R138, R147, R152: Rebind gives back what the stream holds and identifies again; a lost link drains a RUNNING stream, counting the words of the packet in progress, and
empties a port that does not run; a drain that is over sends STREAM_STOP and ends EMPTY or READY; a queue stalled past its limit is FAULT with LastError 8. (Rebind of a sensor on I3C.)
(Choices of the model's that it rests on: notes/assumptions 50, 53.) -/
def Obligations.StreamsStartAndEnd : Prop :=
  (∀ (s : State) (q : Requester) (n : Fin 36),
    (s.dev.hears q (Obj.streamCommand n.val) 1 →
      (s.dev.stState n.val = 4 → s.dev.startError n.val = 0 → (s.dev.str n.val).queue.length + 1 < queueWords →
        nextHas (exec (.streamStartCommand q n none) s) (fun t =>
          t.dev.told q .ok ∧ t.dev.stState n.val = 5 ∧ t.dev.bit (Obj.streamState n.val) 11 = true ∧
          (t.dev.str n.val).queue = (s.dev.str n.val).queue ++ [marker n.val 0 1 (t31 (s.dev.portDt n.val)), marker n.val (s.dev.startReason n.val) 4 (t31 (s.dev.portDt n.val))] ∧
          (t.dev.str n.val).lost = (s.dev.str n.val).lost ∧ (t.dev.clock n.val).pairF = (s.dev.clock n.val).pairF ∧
          (t.dev.str n.val).ring = [] ∧ s.sameRest t)) ∧
      (s.dev.stState n.val = 4 → s.dev.startError n.val ≠ 0 → nextHas (exec (.streamStartCommand q n none) s) (fun t =>
        t.dev.told q .state ∧ t.dev.stState n.val = 4 ∧ t.dev.getF (Obj.streamState n.val) 24 8 = s.dev.startError n.val ∧
        s.dev.regsKeptAnswered t.dev [(Obj.streamState n.val).key] ∧ s.sameRest t)) ∧
      (s.dev.stState n.val ≠ 4 → nextHas (exec (.streamStartCommand q n none) s) (fun t =>
        t.dev.told q .ok ∧ t.dev.stState n.val = s.dev.stState n.val ∧ t.dev.bit (Obj.streamState n.val) 11 = true ∧
        s.dev.regsKeptAnswered t.dev [(Obj.streamState n.val).key] ∧ s.sameRest t))) ∧
    (s.dev.up (portDomain n.val) → s.dev.stState n.val = 4 → s.dev.rd (Obj.autoRestart n.val) = 1 → s.dev.bit (Obj.streamState n.val) 11 = true →
      s.dev.startError n.val = 0 → nextHas (exec (.autoRestart n none) s) (fun t => t.dev.stState n.val = 5 ∧ s.sameRest t)) ∧
    (s.dev.hears q (Obj.streamCommand n.val) 2 → s.dev.stState n.val = 5 → nextHas (exec (.streamStopCommand q n none) s) (fun t =>
      t.dev.told q .ok ∧ t.dev.stState n.val = 6 ∧ t.dev.bit (Obj.streamState n.val) 11 = false ∧ (t.dev.str n.val).queue = (s.dev.str n.val).queue ∧
      s.dev.regsKeptAnswered t.dev [(Obj.streamState n.val).key] ∧ s.sameRest t))) ∧
  (∀ (s : State) (n : Fin 36),
    (∀ q, s.dev.hears q (Obj.streamCommand n.val) 4 → s.dev.isCustodian q = true → s.dev.stState n.val ≠ 0 → s.dev.rd (Obj.streamSource n.val) = 0 →
      nextHas (exec (.rebind q n) s) (fun t =>
        t.dev.told q .ok ∧ t.dev.stState n.val = 1 ∧ t.dev.profileOf n.val = 0xFF ∧ (t.dev.str n.val).queue = [] ∧ (t.dev.str n.val).ring = [] ∧
        (∀ a ∈ t.dev.allocs, a.tag ≠ 64 + n.val) ∧ s.sameRest t)) ∧
    (∀ k, s.dev.up (portDomain n.val) → (s.dev.rd Obj.linkTimeout * 1000 ≤ s.dev.rf - (s.dev.str n.val).activeF ∨ 3 ≤ (s.dev.str n.val).i3cMissed) →
      (s.dev.stState n.val = 5 → nextHas (exec (.linkLost n k) s) (fun t =>
        t.dev.stState n.val = 6 ∧ (t.dev.str n.val).drainEmpty = true ∧ (t.dev.str n.val).lost = (s.dev.str n.val).lost + k ∧
        t.dev.rd (Obj.streamCounter n.val 0x18) = (s.dev.rd (Obj.streamCounter n.val 0x18) + k) % 2 ^ 64 ∧
        s.dev.regsKept t.dev [(Obj.streamState n.val).key, (Obj.streamCounter n.val 0x18).key] ∧ s.sameRest t)) ∧
      (s.dev.stState n.val ≠ 0 → s.dev.stState n.val ≠ 5 → s.dev.stState n.val ≠ 6 → nextHas (exec (.linkLost n k) s) (fun t =>
        t.dev.stState n.val = 0 ∧ t.dev.profileOf n.val = 0xFF ∧ (t.dev.str n.val).ring = [] ∧ s.sameRest t))) ∧
    (s.dev.up (portDomain n.val) → s.dev.stState n.val = 6 → (s.dev.str n.val).queue = [] → (s.dev.str n.val).ring = [] → (s.dev.str n.val).sluice = [] →
      nextHas (exec (.drainComplete n) s) (fun t =>
        t.dev.stState n.val = (if (s.dev.str n.val).drainEmpty then 0 else 4) ∧ (t.dev.str n.val).sluice = [marker n.val 0 2 (t31 (s.dev.portDt n.val))] ∧
        (∀ e ∈ (t.dev.str n.val).hot, e.auto = false) ∧ (∀ a ∈ t.dev.allocs, a.tag ≠ 64 + n.val) ∧ s.sameRest t)) ∧
    (s.dev.up (portDomain n.val) → s.dev.stState n.val = 5 → (s.dev.str n.val).queue ≠ [] →
      s.dev.rd (Obj.queueStallLimit n.val) * 1000 ≤ s.dev.rf - max (s.dev.str n.val).takenF (s.dev.str n.val).headF →
      nextHas (exec (.queueStall n) s) (fun t => t.dev.stState n.val = 7 ∧ t.dev.getF (Obj.streamState n.val) 24 8 = 8 ∧ s.sameRest t)))

/-- R118 to R123, R134, R137, R139, R148, R149: of a packet for a RUNNING stream, one whose header or CRC fails is counted, and its words are lost; one of a foreign virtual channel is
counted; a sensor word does what its table entry says: an error entry counts, a row entry sets Y, and an event entry queues one event word of that pixel where every filter passes it.
In any other state a packet is counted and loses nothing. A frame that fails its FCS is counted; a datagram of a foreign source is counted against its stream; one of its own source
in sequence sets the reference and is decoded as a packet is, one that does not lie ahead is discarded and counted, and one of another FlowVersion is a decode error; a datagram
that feeds no stream does nothing. (Of a datagram that feeds one stream.)
(Choices of the model's that it rests on: notes/assumptions 47.) -/
def Obligations.PacketsDecode : Prop :=
  ∀ (s : State) (n : Fin 36),
    (∀ k : CsiPacket, s.dev.up (portDomain n.val) → s.dev.rd (Obj.streamSource n.val) = 0 → s.dev.stState n.val = 5 →
      let words := s.dev.wordsIn n.val k.payload
      let b := s.dev.rd (Obj.wordBits (s.dev.profileOf n.val)) / 8
      let w := leAt k.payload 0 b
      let e := leAt (s.dev.blob (Obj.decodeTable (s.dev.profileOf n.val))) (8 * field w (s.dev.rd (Obj.typeLsb (s.dev.profileOf n.val))) (s.dev.rd (Obj.typeBits (s.dev.profileOf n.val)))) 8
      let a := wordField w (field e 4 5) (field e 9 5)
      (k.header = .uncorrectable → nextHas (exec (.csi2Packet n k) s) (fun t =>
        t.dev.rd (Obj.streamCounter n.val 2) = (s.dev.rd (Obj.streamCounter n.val 2) + 1) % 2 ^ 64 ∧
        t.dev.rd (Obj.streamCounter n.val 0x18) = (s.dev.rd (Obj.streamCounter n.val 0x18) + words) % 2 ^ 64 ∧ (t.dev.str n.val).lost = (s.dev.str n.val).lost + words ∧
        s.dev.regsKept t.dev [(Obj.streamCounter n.val 2).key, (Obj.streamCounter n.val 0x18).key] ∧ s.sameRest t)) ∧
      (k.header = .ok → k.vc ≠ s.dev.rd (Obj.virtualChannel n.val) → nextHas (exec (.csi2Packet n k) s) (fun t =>
        t.dev.rd (Obj.streamCounter n.val 0x15) = (s.dev.rd (Obj.streamCounter n.val 0x15) + 1) % 2 ^ 64 ∧ s.sameRest t)) ∧
      (k.header = .ok → k.vc = s.dev.rd (Obj.virtualChannel n.val) → 0x10 ≤ k.dt → k.dt = s.dev.rd (Obj.dataType n.val) →
        (k.crcOk = false → nextHas (exec (.csi2Packet n k) s) (fun t =>
          t.dev.rd (Obj.streamCounter n.val 4) = (s.dev.rd (Obj.streamCounter n.val 4) + 1) % 2 ^ 64 ∧ (t.dev.str n.val).lost = (s.dev.str n.val).lost + words ∧ s.sameRest t)) ∧
        (k.crcOk = true → words = 1 →
          (field e 0 4 = 7 → nextHas (exec (.csi2Packet n k) s) (fun t =>
            t.dev.rd (Obj.streamCounter n.val 5) = (s.dev.rd (Obj.streamCounter n.val 5) + 1) % 2 ^ 64 ∧ s.dev.regsKept t.dev [(Obj.streamCounter n.val 5).key] ∧ s.sameRest t)) ∧
          (field e 0 4 = 2 → nextHas (exec (.csi2Packet n k) s) (fun t => (t.dev.str n.val).y = a % 4096 ∧ s.dev.regsKept t.dev [] ∧ s.sameRest t)) ∧
          (field e 0 4 = 4 → field e 19 5 = 0 → a < 4096 → a < s.dev.rd (Obj.pixelWidth (s.dev.profileOf n.val)) →
            (s.dev.str n.val).y < s.dev.rd (Obj.pixelHeight (s.dev.profileOf n.val)) → s.dev.rd (Obj.hotEnable n.val) = 0 →
            (∀ z ∈ (s.dev.str n.val).hot, ¬ (z.x = a ∧ z.y = (s.dev.str n.val).y)) →
            (if (s.dev.str n.val).floodWin = s.dev.dtWin 100000 then (s.dev.str n.val).floodCount else 0) < s.dev.rd (Obj.floodCeiling n.val) →
            (s.dev.str n.val).lost = 0 → (s.dev.str n.val).lostBack = 0 → (s.dev.str n.val).ring = [] → (s.dev.str n.val).queue.length < queueWords →
            nextHas (exec (.csi2Packet n k) s) (fun t =>
              (∃ τ, (t.dev.str n.val).queue = (s.dev.str n.val).queue ++
                [mkWord n.val a (s.dev.str n.val).y (if bitAt e 45 then field w (field e 40 5) 1 else field e 46 1) 0 τ]) ∧
              t.dev.rd (Obj.streamCounter n.val 0) = (s.dev.rd (Obj.streamCounter n.val 0) + 1) % 2 ^ 64 ∧ s.sameRest t))))) ∧
    (∀ k : CsiPacket, s.dev.up (portDomain n.val) → s.dev.rd (Obj.streamSource n.val) = 0 → s.dev.stState n.val ≠ 5 → k.header = .uncorrectable →
      nextHas (exec (.csi2Packet n k) s) (fun t =>
        t.dev.rd (Obj.streamCounter n.val 2) = (s.dev.rd (Obj.streamCounter n.val 2) + 1) % 2 ^ 64 ∧ (t.dev.str n.val).lost = (s.dev.str n.val).lost ∧
        s.dev.regsKept t.dev [(Obj.streamCounter n.val 2).key] ∧ s.sameRest t)) ∧
    (∀ (port : Fin 2) (udp : Nat) (source payload : List Byte), s.dev.up (175 + port.val) →
      nextHas (exec (.flowDatagram port udp source payload false) s) (fun t =>
        t.dev.rd (Obj.fcsErrors port.val) = (s.dev.rd (Obj.fcsErrors port.val) + 1) % 2 ^ 64 ∧ s.dev.regsKept t.dev [(Obj.fcsErrors port.val).key] ∧ s.sameRest t) ∧
      (s.dev.domOn (portDomain n.val) = true → s.dev.rd (Obj.streamSource n.val) = 1 → udp ≠ 0 → s.dev.rd (Obj.flowPort n.val) = udp →
        s.dev.flowForeign n.val (bytesAt source 0 16) = true → nextHas (exec (.flowDatagram port udp source payload true) s) (fun t =>
          t.dev.rd (Obj.streamCounter n.val 0x12) = (s.dev.rd (Obj.streamCounter n.val 0x12) + 1) % 2 ^ 64 ∧ s.sameRest t)) ∧
      (let feeds : Nat → Prop := fun m => s.dev.domOn (portDomain m) = true ∧ s.dev.rd (Obj.streamSource m) = 1 ∧ udp ≠ 0 ∧ s.dev.rd (Obj.flowPort m) = udp
       ((∀ m, m < 36 → ¬ feeds m) → nextHas (exec (.flowDatagram port udp source payload true) s) (fun t => t.dev = { s.dev with out := [] } ∧ s.sameRest t)) ∧
       (feeds n.val → (∀ m, m < 36 → m ≠ n.val → ¬ feeds m) → s.dev.stState n.val = 5 → s.dev.flowForeign n.val (bytesAt source 0 16) = false →
        (leAt payload 0 2 ≠ 0x0100 → nextHas (exec (.flowDatagram port udp source payload true) s) (fun t =>
          t.dev.rd (Obj.streamCounter n.val 5) = (s.dev.rd (Obj.streamCounter n.val 5) + 1) % 2 ^ 64 ∧ (t.dev.str n.val).flowSeq = (s.dev.str n.val).flowSeq ∧
          s.dev.regsKept t.dev [(Obj.streamCounter n.val 5).key] ∧ s.sameRest t)) ∧
        (∀ p, leAt payload 0 2 = 0x0100 → (s.dev.str n.val).flowSeq = some p → stampDiff 32 (leAt payload 4 4) (wrapAdd 32 p 1) < 0 →
          nextHas (exec (.flowDatagram port udp source payload true) s) (fun t =>
            t.dev.rd (Obj.streamCounter n.val 0x11) = (s.dev.rd (Obj.streamCounter n.val 0x11) + 1) % 2 ^ 64 ∧ (t.dev.str n.val).flowSeq = some p ∧
            (t.dev.str n.val).queue = (s.dev.str n.val).queue ∧ s.dev.regsKept t.dev [(Obj.streamCounter n.val 0x11).key] ∧ s.sameRest t)) ∧
        (leAt payload 0 2 = 0x0100 → ((s.dev.str n.val).flowSeq = none ∨ ∃ p, (s.dev.str n.val).flowSeq = some p ∧ leAt payload 4 4 = wrapAdd 32 p 1) →
          min (leAt payload 2 2) (s.dev.wordsIn n.val (payload.drop 16)) = 1 →
          let b := s.dev.rd (Obj.wordBits (s.dev.profileOf n.val)) / 8
          let w := leAt (payload.drop 16) 0 b
          let e := leAt (s.dev.blob (Obj.decodeTable (s.dev.profileOf n.val))) (8 * field w (s.dev.rd (Obj.typeLsb (s.dev.profileOf n.val))) (s.dev.rd (Obj.typeBits (s.dev.profileOf n.val)))) 8
          let a := wordField w (field e 4 5) (field e 9 5)
          (field e 0 4 = 2 → nextHas (exec (.flowDatagram port udp source payload true) s) (fun t =>
            (t.dev.str n.val).flowSeq = some (leAt payload 4 4) ∧ (t.dev.str n.val).activeF = s.dev.rf ∧ (t.dev.str n.val).y = a % 4096 ∧
            (t.dev.str n.val).queue = (s.dev.str n.val).queue ∧ s.dev.regsKept t.dev [(Obj.streamCounter n.val 0x11).key] ∧
            t.dev.rd (Obj.streamCounter n.val 0x11) = s.dev.rd (Obj.streamCounter n.val 0x11) % 2 ^ 64 ∧ s.sameRest t)) ∧
          (field e 0 4 = 4 → field e 19 5 = 0 → a < 4096 → a < s.dev.rd (Obj.pixelWidth (s.dev.profileOf n.val)) →
            (s.dev.str n.val).y < s.dev.rd (Obj.pixelHeight (s.dev.profileOf n.val)) → s.dev.rd (Obj.hotEnable n.val) = 0 →
            (∀ z ∈ (s.dev.str n.val).hot, ¬ (z.x = a ∧ z.y = (s.dev.str n.val).y)) →
            (if (s.dev.str n.val).floodWin = s.dev.dtWin 100000 then (s.dev.str n.val).floodCount else 0) < s.dev.rd (Obj.floodCeiling n.val) →
            (s.dev.str n.val).lost = 0 → (s.dev.str n.val).lostBack = 0 → (s.dev.str n.val).ring = [] → (s.dev.str n.val).queue.length < queueWords →
            nextHas (exec (.flowDatagram port udp source payload true) s) (fun t =>
              (∃ τ, (t.dev.str n.val).queue = (s.dev.str n.val).queue ++
                [mkWord n.val a (s.dev.str n.val).y (if bitAt e 45 then field w (field e 40 5) 1 else field e 46 1) 0 τ]) ∧
              (t.dev.str n.val).flowSeq = some (leAt payload 4 4) ∧
              t.dev.rd (Obj.streamCounter n.val 0) = (s.dev.rd (Obj.streamCounter n.val 0) + 1) % 2 ^ 64 ∧ s.sameRest t))))))

/-- R125, R132, R138, R155: the detector's window ends with its candidates judged; HotListClear removes the auto entries, or all; ProfileVersion is not written while its slot is in use,
and otherwise empties the slot, refuses the version, or checks the table; I3cStaticAddress lets an ambiguous port be addressed.
(Choices of the model's that it rests on: notes/assumptions 48, 52, 108.) -/
def Obligations.InletSettings : Prop :=
  ∀ (s : State) (q : Requester) (n : Fin 36),
    (s.dev.up (portDomain n.val) → (s.dev.str n.val).hotWin ≠ s.dev.dtWin (s.dev.rd (Obj.hotWindow n.val) * 1000000 : Nat) → nextHas (exec (.hotWindowEnd n) s) (fun t =>
      (t.dev.str n.val).cand = [] ∧ (t.dev.str n.val).hotWin = s.dev.dtWin (s.dev.rd (Obj.hotWindow n.val) * 1000000 : Nat) ∧
      (∃ l, (t.dev.str n.val).hot = (s.dev.str n.val).hot ++ l ∧
        ∀ e ∈ l, e.auto = true ∧ ∃ c ∈ (s.dev.str n.val).cand, c.1 = e.x * 4096 + e.y ∧ s.dev.rd (Obj.hotCount n.val) ≤ c.2) ∧
      (s.dev.rd (Obj.hotEnable n.val) ≠ 1 → (t.dev.str n.val).hot = (s.dev.str n.val).hot) ∧
      s.dev.regsKept t.dev [(Obj.hotListCount n.val).key, (Obj.streamCounter n.val 8).key] ∧ s.sameRest t)) ∧
    (s.dev.hears q (Obj.hotListClear n.val) 1 → nextHas (exec (.hotListClearAuto q n) s) (fun t =>
      t.dev.told q .ok ∧ (t.dev.str n.val).hot = (s.dev.str n.val).hot.filter (fun e => !e.auto) ∧
      t.dev.rd (Obj.hotListCount n.val) = (t.dev.str n.val).hot.length % 2 ^ 16 ∧ s.dev.regsKeptAnswered t.dev [(Obj.hotListCount n.val).key] ∧ s.sameRest t)) ∧
    (s.dev.hears q (Obj.hotListClear n.val) 2 → nextHas (exec (.hotListClearAll q n) s) (fun t =>
      t.dev.told q .ok ∧ (t.dev.str n.val).hot = [] ∧ t.dev.rd (Obj.hotListCount n.val) = 0 ∧ s.dev.regsKeptAnswered t.dev [(Obj.hotListCount n.val).key] ∧ s.sameRest t)) ∧
    (∀ (p : Fin 16) (v : BitVec 16), s.dev.hears q (Obj.profileVersion p.val) v.toNat →
      (s.dev.profileUsed p.val = true → nextHas (exec (.profileVersionWrite q p v) s) (fun t => t.dev.told q .state ∧ s.dev.regsKeptAnswered t.dev [] ∧ s.sameRest t)) ∧
      (s.dev.profileUsed p.val = false → nextHas (exec (.profileVersionWrite q p v) s) (fun t =>
        t.dev.told q .ok ∧ t.dev.rd (Obj.profileVersion p.val) = v.toNat ∧ (v.toNat = 0 → t.dev.rd (Obj.profileState p.val) = 0) ∧
        (v.toNat ≠ 0 → (v.toNat < 0x0100 ∨ 0x0102 < v.toNat) → t.dev.rd (Obj.profileState p.val) = 2) ∧
        (v.toNat = 0x0102 → t.dev.rd (Obj.profileState p.val) = s.dev.profileCheck p.val 0x0102) ∧ s.sameRest t))) ∧
    (∀ v : BitVec 8, s.dev.hears q (Obj.i3cStaticAddress n.val) v.toNat →
      (s.dev.bit (Obj.streamState n.val) 10 = false ∨ v.toNat = 0 → nextHas (exec (.i3cStaticAddressWrite q n v) s) (fun t =>
        t.dev.told q .ok ∧ t.dev.rd (Obj.i3cStaticAddress n.val) = v.toNat ∧ s.dev.regsKeptAnswered t.dev [(Obj.i3cStaticAddress n.val).key] ∧ s.sameRest t)) ∧
      (s.dev.bit (Obj.streamState n.val) 10 = true → v.toNat ≠ 0 → nextHas (exec (.i3cStaticAddressWrite q n v) s) (fun t =>
        t.dev.told q .ok ∧ t.dev.rd (Obj.i3cStaticAddress n.val) = v.toNat ∧ t.dev.bit (Obj.streamState n.val) 10 = false ∧
        .i3c n.val 1 v.toNat (leBytes 1 (0x30 + n.val % 2)) ∈ t.dev.out ∧ s.sameRest t)))

/-- R143, R146, R149, R150: the oldest ring word comes back to the queue while both have room, or is lost where it carries Poison, to be reported ahead of the next word read back; a
gyro sample waits to be applied, or ends reason 2; a marker passes the queue exit as it is while its sluice has room, and an event of a stream without de-rotation leaves as at most one event word of the same stamp.
(Choices of the model's that it rests on: notes/assumptions 49, 51, 53.) -/
def Obligations.QueuesMove : Prop :=
  ∀ (s : State) (n : Fin 36), s.dev.up (portDomain n.val) →
    (∀ w ws, s.dev.domOn 172 = true → (s.dev.str n.val).ring = w :: ws → (s.dev.str n.val).queue.length < queueWords → s.dev.spillTurn n.val = true →
      (let a := (s.dev.str n.val).ringBase + 8 * (s.dev.str n.val).ringAt;
       s.dev.retraining (gddrChan a) = false ∧ (s.dev.regionAt (s.dev.rd (Obj.streamTenant n.val)) a).isSome = true) →
      (s.dev.dt - s.dev.ofT31 (wT w) ≤ (s.dev.rd (Obj.spillAgeLimit n.val) * 1000 : Nat) → (s.dev.str n.val).lostBack = 0 →
        (s.dev.str n.val).ringBad.contains (s.dev.str n.val).ringAt = false →
        nextHas (exec (.spillReadBack n .ok) s) (fun t =>
          (t.dev.str n.val).ring = ws ∧ (t.dev.str n.val).queue = (s.dev.str n.val).queue ++ [w] ∧ s.dev.regsKept t.dev [(Obj.streamState n.val).key] ∧ s.sameRest t)) ∧
      nextHas (exec (.spillReadBack n .uncorrectable) s) (fun t =>
        (t.dev.str n.val).ring = ws ∧ (t.dev.str n.val).queue = (s.dev.str n.val).queue ∧ (t.dev.str n.val).lostBack = (s.dev.str n.val).lostBack + 1 ∧
        t.dev.rd (Obj.streamCounter n.val 0x10) = (s.dev.rd (Obj.streamCounter n.val 0x10) + 1) % 2 ^ 64 ∧
        s.dev.regsKept t.dev [(Obj.streamState n.val).key, (Obj.streamCounter n.val 0x10).key] ∧ s.sameRest t)) ∧
    (∀ g gs, (s.dev.str n.val).gyroIn = g :: gs → (s.dev.stState n.val = 5 ∨ s.dev.stState n.val = 6) →
      ((s.dev.str n.val).derotOff ≠ 2 → nextHas (exec (.gyroSample n) s) (fun t =>
        t.dev.str n.val = { s.dev.str n.val with gyroIn := gs, gyro := (s.dev.str n.val).gyro ++ [g], gyroSeen := (t.dev.str n.val).gyroSeen } ∧
        (∃ x, (t.dev.str n.val).gyroSeen = some x ∧ g.stamp ≤ x) ∧ s.dev.regsKept t.dev [] ∧ s.sameRest t)) ∧
      ((s.dev.str n.val).derotOff = 2 → (∀ t, (s.dev.str n.val).tg = some t → t < g.stamp) → nextHas (exec (.gyroSample n) s) (fun t =>
        (t.dev.str n.val).derotOff = 0 ∧ (t.dev.str n.val).tg = some g.stamp ∧ (t.dev.str n.val).onMark = true ∧ t.dev.bit (Obj.streamState n.val) 4 = true ∧
        s.dev.regsKept t.dev [(Obj.streamState n.val).key, (Obj.lastGyroStamp n.val).key] ∧ s.sameRest t))) ∧
    (∀ w ws, (s.dev.str n.val).queue = w :: ws → (s.dev.stState n.val = 5 ∨ s.dev.stState n.val = 6) →
      (wKind w ≠ 0 → (s.dev.str n.val).sluice.length < 32 → nextHas (exec (.queueExit n) s) (fun t =>
        (t.dev.str n.val).queue = ws ∧ (t.dev.str n.val).sluice = (s.dev.str n.val).sluice ++ [w] ∧ s.dev.regsKept t.dev [] ∧ s.sameRest t)) ∧
      (wKind w ≠ 0 → 32 ≤ (s.dev.str n.val).sluice.length → nextHas (exec (.queueExit n) s) (fun t => t.dev = { s.dev with out := [] } ∧ s.sameRest t)) ∧
      (wKind w = 0 → ((s.dev.str n.val).derotOff = 3 ∨ (s.dev.str n.val).derotOff = 4) → (s.dev.str n.val).onMark = false → (s.dev.str n.val).sluice.length < 32 →
        nextHas (exec (.queueExit n) s) (fun t =>
          (t.dev.str n.val).queue = ws ∧
          (∃ l, (t.dev.str n.val).sluice = (s.dev.str n.val).sluice ++ l ∧ l.length ≤ 1 ∧ ∀ v ∈ l, wKind v = 0 ∧ wT v = wT w ∧ wPol v = wPol w ∧ wStream v = n.val) ∧
          t.dev.rd (Obj.streamCounter n.val 0x0D) = (s.dev.rd (Obj.streamCounter n.val 0x0D) + 1) % 2 ^ 64 ∧ s.sameRest t)))

/-! ### Mere and Eddy (chapter 5) -/

/-- R141, R157, R161, R165, R167 to R169, R176: the slice serves the next stream's word, held on a hazard or a bank or not; an event of the array that the gate lets pass writes its cell,
and a gated one counts and writes none;
the sweeper makes stale each cell of its next block that is 15,000 codes old or more, and no other; a route whose words wait past FeatureHoldLimit drops, and one of whose words a consumer has accepted every one, those in Confluence's input queue among them, does not (R426). (Without parity errors.)
(Choices of the model's that it rests on: notes/assumptions 54, 56, 57.) -/
def Obligations.MereAndEddy : Prop :=
  ∀ (s : State) (d : Fin 4),
    (∀ n w ws held bankWait, s.dev.up (mereDomain d.val) → s.dev.dieOut d.val = false → s.dev.mereBad = [] → s.dev.eddyNext d.val = some n →
      (s.dev.str n).sluice = w :: ws → wKind w ≠ 2 → (s.dev.str n).wiped = [] → s.dev.rd (Obj.mereBase n) ≠ 0xFFFF →
      wX w < s.dev.rd (Obj.outputWidth n) → wY w < s.dev.rd (Obj.outputHeight n) →
      let key := s.dev.cellKey n (wX w) (wY w)
      let tc := timeCode (wT w)
      (s.dev.gated n tc (wPol w) (s.dev.cell key) = false → nextHas (exec (.eddyEvent d ⟨[], held, bankWait⟩) s) (fun t =>
        t.dev.cell key = wPol w * 2 ^ 15 + (if tc = 0x7FFF then 0x7FFE else tc) ∧ (∀ k, k ≠ key → t.dev.cell k = s.dev.cell k) ∧
        (t.dev.str n).sluice = ws ∧ Tab.get 0 t.dev.eddyTurn d.val = n ∧
        t.dev.rd (Obj.eddyCounter n 0) = (s.dev.rd (Obj.eddyCounter n 0) + 1) % 2 ^ 64 ∧ s.sameRest t)) ∧
      (s.dev.gated n tc (wPol w) (s.dev.cell key) = true → nextHas (exec (.eddyEvent d ⟨[], held, bankWait⟩) s) (fun t =>
        (∀ k, t.dev.cell k = s.dev.cell k) ∧ (t.dev.str n).sluice = ws ∧
        t.dev.rd (Obj.streamCounter n 0x0B) = (s.dev.rd (Obj.streamCounter n 0x0B) + 1) % 2 ^ 64 ∧
        s.dev.regsKept t.dev [(Obj.streamCounter n 0x0B).key, (Obj.eddyCounter n 8).key, (Obj.eddyCounter n 0xC).key] ∧ s.sameRest t))) ∧
    (∀ b n, s.dev.up (mereDomain d.val) → s.dev.mereBad = [] → s.dev.nextBlock d.val (Tab.get 0 s.dev.sweepPos d.val) = some (b, n) →
      nextHas (exec (.sweepVisit d []) s) (fun t =>
        (∀ i, i < 256 → let c := s.dev.cell (mereKey d.val b i)
          t.dev.cell (mereKey d.val b i) =
            if cellStale c = false ∧ 15000 ≤ unsigned 15 ((timeCode (t31 s.dev.dt) : Int) - ((c % 2 ^ 15 : Nat) : Int)) then staleCell else c) ∧
        (∀ k, (∀ i, i < 256 → k ≠ mereKey d.val b i) → t.dev.cell k = s.dev.cell k) ∧
        s.dev.regsKept t.dev [(Obj.sweepPasses d.val).key] ∧ s.sameRest t)) ∧
    (∀ (p : Fin 16) (i : Nat), s.dev.working = true → (waiting s.dev.transit 0).any (fun x => x.route == routeId p.val i) = true →
      s.dev.rd (Obj.featureHoldLimit (s.dev.routeStream p.val i)) * 1000 ≤ s.dev.rf - (Tab.get {} s.dev.routeHold (routeId p.val i)).acceptF →
      nextHas (exec (.featureHoldExpiry p i) s) (fun t =>
        (Tab.get {} t.dev.routeHold (routeId p.val i)).dropping = true ∧ t.dev.transit = s.dev.transit ∧ s.dev.regsKept t.dev [] ∧ s.sameRest t)) ∧
    (∀ (p : Fin 16) (i : Nat), s.dev.working = true → (waiting s.dev.transit 0).any (fun x => x.route == routeId p.val i) = false →
      nextHas (exec (.featureHoldExpiry p i) s) (fun t => t.dev = { s.dev with out := [] } ∧ s.sameRest t))

/-! ### Basin mode (chapter 7) -/

/-- R217, R222, R235, R238, R243, R269: the steward core issues the first ready tile of its window to a free unit that works, and none where none is ready; a tile drains once: it
counts to its stripe or completes the run, and writes its own cluster's scratchpad alone; a tile whose residue does not match is discarded and counted. While every tile of the
window is held on a fill weir, the free unit waits there (R246).
(Choices of the model's that it rests on: notes/assumptions 62, 63, 64, 65.) -/
def Obligations.TilesIssueAndDrain : Prop :=
  ∀ (s : State) (l : Fin 256) (c : Fin 128) (u : Fin 16) (gddr : Nat) (e : LayerEntry), s.dev.up c.val → s.dev.layerEntry l.val = some e →
    (∀ i st, e.stripeOn c.val = some (i, st) → s.dev.layerRuns l.val = true → s.dev.basinMode c.val = true → e.builder = false →
      (s.dev.plan (s.dev.layer l.val).slot).isEmpty 256 e = false → s.dev.unitBusy c.val u.val = false → s.dev.unitWorks (c.val * 16 + u.val) = true →
      (∀ q, (s.dev.tileWindow l.val e i st).find? (fun q => s.dev.tileReady l.val e c.val q.1) = some q → nextHas (exec (.tileIssue l c ⟨u, gddr⟩) s) (fun t =>
        (t.dev.layer l.val).tiles = (s.dev.layer l.val).tiles ++ [⟨c.val, u.val, i, q.2⟩] ∧ (t.dev.layer l.val).started = true ∧
        (t.dev.layer l.val).runs = (s.dev.layer l.val).runs ∧ s.sameRest t)) ∧
      ((s.dev.tileWindow l.val e i st).find? (fun q => s.dev.tileReady l.val e c.val q.1) = none → nextHas (exec (.tileIssue l c ⟨u, gddr⟩) s) (fun t =>
        (t.dev.layer l.val).tiles = (s.dev.layer l.val).tiles ∧ (t.dev.layer l.val).drained = (s.dev.layer l.val).drained ∧
        (t.dev.layer l.val).runs = (s.dev.layer l.val).runs ∧ (t.dev.layer l.val).started = (s.dev.layer l.val).started ∧
        ((s.dev.windowHeld l.val e c.val).isSome = ((t.dev.layer l.val).halo.any (fun h => h.unit == c.val * 16 + u.val))) ∧
        (∀ j, j ≠ l.val → t.dev.layer j = s.dev.layer j) ∧ s.dev.regsKept t.dev [(Obj.layerCounter l.val 2).key] ∧ s.sameRest t))) ∧
    (∀ q st sp, (s.dev.layer l.val).tiles.find? (fun x => x.cluster == c.val && x.unit == u.val) = some q → e.stripes[q.stripe]? = some st →
      (e.tiles st)[q.tile]? = some sp →
      (nextHas (exec (.tileDrain l c u false) s) (fun t =>
        (∀ x ∈ (t.dev.layer l.val).tiles, ¬ (x.cluster = c.val ∧ x.unit = u.val)) ∧
        (((t.dev.layer l.val).runs = (s.dev.layer l.val).runs ∧ (t.dev.layer l.val).drained = (s.dev.layer l.val).drained ++ [q.stripe * 2 ^ 20 + q.tile]) ∨
          ((t.dev.layer l.val).runs = (s.dev.layer l.val).runs + 1 ∧ (t.dev.layer l.val).drained = [])) ∧
        (∀ k a, k ≠ c.val → Memory.byte t.mem.pad (padKey k a) = Memory.byte s.mem.pad (padKey k a)) ∧ t.mem.gddr = s.mem.gddr ∧ t.pending = s.pending)) ∧
      (0 < sp.chans → 0 < sp.rows → 0 < sp.cols → nextHas (exec (.tileDrain l c u true) s) (fun t =>
        (∀ x ∈ (t.dev.layer l.val).tiles, ¬ (x.cluster = c.val ∧ x.unit = u.val)) ∧ (t.dev.layer l.val).drained = (s.dev.layer l.val).drained ∧
        t.dev.rd (Obj.residueMismatches c.val) = (s.dev.rd (Obj.residueMismatches c.val) + 1) % 2 ^ 64 ∧ s.sameRest t)))

/-- R228 to R233: a word of a window that has closed is counted late and changes no memory; a word of the open window adds 256, or takes it away, in its one bin, saturating, where a region register lets it; a window
closes its BuildTimeout after its end, and the next opens; the last count map is copied while a buffer is free, and is skipped and counted while none is.
(Choices of the model's that it rests on: notes/assumptions 60, 84.) -/
def Obligations.BuildersBuild : Prop :=
  ∀ (s : State) (l : Fin 256) (e : LayerEntry), s.dev.working = true → s.dev.layerEntry l.val = some e → s.dev.layerRuns l.val = true →
    (∀ w rest, takeFirst (fun t => decide (t.dest = .builder l.val)) s.dev.transit = some (w, rest) → (e.op = 16 ∨ e.op = 17) →
      let z := s.dev.buildWordOf w
      let q := 2 ^ field (s.dev.rd (Obj.buildControl l.val)) 1 2
      let split := bitAt (s.dev.rd (Obj.buildControl l.val)) 0
      s.dev.buildSelects l.val z.2.2.2.2 = true →
      (s.dev.windowOf l.val z.2.2.2.1 < (s.dev.layer l.val).build.window → nextHas (exec (.buildWord l) s) (fun t =>
        t.dev.transit = rest ∧ t.dev.rd (Obj.layerCounter l.val 4) = (s.dev.rd (Obj.layerCounter l.val 4) + 1) % 2 ^ 64 ∧
        s.dev.regsKept t.dev [(Obj.layerCounter l.val 4).key] ∧ s.sameRest t)) ∧
      (s.dev.windowOf l.val z.2.2.2.1 = (s.dev.layer l.val).build.window → (s.dev.layer l.val).build.skipping = false →
        (e.op = 17 → nextHas (exec (.buildWord l) s) (fun t => t.dev.transit = rest ∧ s.dev.regsKept t.dev [] ∧ s.sameRest t)) ∧
        (∀ c a, e.op = 16 → s.dev.rd (Obj.buildBins l.val) = 1 → w.poisoned = false →
          buildAddr e (s.dev.layer l.val).build.closed (s.dev.buildShape l.val e).2.2.1 5 (if split && z.2.2.1 == 1 then 1 else 0) (z.2.1 / q) (z.1 / q) = some (c, a) →
          (s.dev.buildPort false c a = false → nextHas (exec (.buildWord l) s) (fun t =>
            t.dev.rd (Obj.regionViolations c) = (s.dev.rd (Obj.regionViolations c) + 1) % 2 ^ 64 ∧ t.dev.transit = rest ∧ s.sameRest t)) ∧
          (s.dev.buildPort false c a = true → nextHas (exec (.buildWord l) s) (fun t =>
            t.mem.padRead c a 2 = leBytes 2 (unsigned 16 (clampI (-32767) 32767
              (signed 16 (ofLe (s.mem.padRead c a 2)) + (if split = false ∧ z.2.2.1 = 0 then -256 else 256)))) ∧
            (∀ k x, padKey k x ≠ padKey c a → padKey k x ≠ padKey c (a + 1) → Memory.byte t.mem.pad (padKey k x) = Memory.byte s.mem.pad (padKey k x)) ∧
            t.mem.gddr = s.mem.gddr ∧ t.dev.transit = rest ∧ s.dev.regsKept t.dev [(Obj.layerCounter l.val 5).key] ∧ t.pending = s.pending))))) ∧
    ((e.op = 16 ∨ e.op = 17) → s.dev.passed (s.dev.windowStart l.val ((s.dev.layer l.val).build.window + 1)) (s.dev.layer l.val).build.timeout = true →
      nextHas (exec (.buildTimeout l) s) (fun t =>
        (t.dev.layer l.val).build.window = (s.dev.layer l.val).build.window + 1 ∧
        (t.dev.layer l.val).build.closed = (s.dev.layer l.val).build.closed + (if (s.dev.layer l.val).build.skipping then 0 else 1) ∧
        t.mem.gddr = s.mem.gddr ∧ t.pending = s.pending)) ∧
    (let h := s.dev.rd (Obj.buildSource l.val) - 0x400
     let b := (s.dev.layer l.val).build
     e.op = 18 → b.window < ((s.dev.pop h).maps : Int) → nextHas (exec (.buildCountCopy l) s) (fun t =>
      (t.dev.layer l.val).build.window = ((s.dev.pop h).maps : Int) ∧
      ((if b.closed % 2 = 0 then b.held0 else b.held1) ≠ 0 → (t.dev.layer l.val).build.closed = b.closed ∧
        t.dev.rd (Obj.layerCounter l.val 6) = (s.dev.rd (Obj.layerCounter l.val 6) + 1) % 2 ^ 64 ∧ t.mem = s.mem) ∧
      ((if b.closed % 2 = 0 then b.held0 else b.held1) = 0 → (t.dev.layer l.val).build.closed = b.closed + 1) ∧ t.mem.gddr = s.mem.gddr ∧ t.pending = s.pending))

/-! ### Scratchpads, sluices, ferries and GDDR6 (chapters 9 and 10) -/

/-- R274, R281 to R284, R287 to R291: an aligned read that a window grants gives its master the words, and changes no memory; one that none grants is refused and counted; a word that cannot
be corrected is given with Poison, which stays on it; a word that the other port writes in the same cycle is counted, and holds what was written (R279); during a pass over the
scratchpad a read is held (R276). A march pass starts where R290 lets it; one that finds nothing passes, and a destructive one leaves the scratchpad zero and its region registers
at reset; a preserving one fails on a word that stands uncorrectable.
(Choices of the model's that it rests on: notes/assumptions 11, 67.) -/
def Obligations.ScratchpadsReadAndMarch : Prop :=
  ∀ (s : State) (c : Fin 128),
    (∀ (m : Fin 19) (addr : BitVec 20) (waited : Fin 9), s.dev.up c.val → s.dev.padFree c.val = false →
      nextHas (exec (.scratchpadRead c m addr .ok .ok (none, none) waited) s) (fun t => t.dev = { s.dev with out := [] } ∧ s.sameRest t)) ∧
    (∀ (m : Fin 19) (addr : BitVec 20) (waited : Fin 9), s.dev.up c.val → s.dev.padFree c.val = true →
      let n := if m.val = 18 then 8 else 16
      let a := addr.toNat / n * n
      (s.dev.padAllowed c.val m.val a n false = true → Tab.get false s.mem.padBad (padWordKey c.val a) = false → Tab.get false s.mem.padBad (padWordKey c.val (a + 8)) = false →
        nextHas (exec (.scratchpadRead c m addr .ok .ok (none, none) waited) s) (fun t =>
          t.dev.out = [.padData c.val m.val (ofLe (s.mem.padRead c.val a 8) + (if n = 16 then ofLe (s.mem.padRead c.val (a + 8) 8) else 0) * 2 ^ 64) false false false] ∧
          s.dev.regsKept t.dev [(Obj.portBWaits c.val).key] ∧ s.sameRest t)) ∧
      (s.dev.padAllowed c.val m.val a n false = false → nextHas (exec (.scratchpadRead c m addr .ok .ok (none, none) waited) s) (fun t =>
        .padData c.val m.val 0 false false true ∈ t.dev.out ∧
        t.dev.rd (Obj.regionViolations c.val) = (s.dev.rd (Obj.regionViolations c.val) + 1) % 2 ^ 64 ∧ s.sameRest t)) ∧
      (∀ w : PortWrite, m.val = 18 → s.dev.padAllowed c.val m.val a n false = true → nextHas (exec (.scratchpadRead c m addr .ok .ok (some w, none) waited) s) (fun t =>
        (∃ v, t.dev.out = [.padData c.val 18 v false w.readerLater false]) ∧
        t.mem.padRead c.val a 8 = maskedWord (s.mem.padRead c.val a 8) w.data.toNat w.mask.toNat ∧
        t.dev.rd (Obj.readCollisions c.val) = (s.dev.rd (Obj.readCollisions c.val) + 1) % 2 ^ 64 ∧
        s.dev.regsKept t.dev [(Obj.readCollisions c.val).key] ∧ t.mem.gddr = s.mem.gddr ∧ t.pending = s.pending)) ∧
      (m.val = 18 → s.dev.padAllowed c.val m.val a n false = true → nextHas (exec (.scratchpadRead c m addr .uncorrectable .ok (none, none) waited) s) (fun t =>
        .padData c.val m.val (ofLe (s.mem.padRead c.val a 8)) true false false ∈ t.dev.out ∧ Tab.get false t.mem.padBad (padWordKey c.val a) = true ∧
        t.dev.rd (Obj.scratchUncorrectable c.val) = (s.dev.rd (Obj.scratchUncorrectable c.val) + 1) % 2 ^ 64 ∧
        t.mem.pad = s.mem.pad ∧ t.mem.gddr = s.mem.gddr ∧ t.pending = s.pending))) ∧
    (∀ (q : Requester) (destroys soft files pad : Bool) (slot : Fin 32),
      let v := marchWord (if destroys then 1 else 2) soft files pad slot.val
      let i : Instr := if destroys then .marchDestructive q c soft files pad slot else .marchPreserving q c soft files pad slot
      s.dev.hears q (Obj.marchControl c.val) v → (slot.val ≤ 16 ∨ slot.val = 31) →
      (s.dev.marchRefused c.val v = false → nextHas (exec i s) (fun t =>
        t.dev.told q .ok ∧ t.dev.march c.val = some ⟨v, false⟩ ∧ field (t.dev.marchNow c.val) 0 2 = 1 ∧ bitAt (t.dev.marchNow c.val) 2 = destroys ∧
        s.dev.regsKeptAnswered t.dev [(Obj.marchControl c.val).key] ∧ s.sameRest t)) ∧
      (s.dev.marchRefused c.val v = true → nextHas (exec i s) (fun t => t.dev.told q .state ∧ s.dev.regsKeptAnswered t.dev [] ∧ s.sameRest t))) ∧
    (∀ m : March, s.dev.up c.val → s.dev.march c.val = some m →
      (m.retest = false → (field m.control 0 2 = 1 ∨ ∀ x ∈ s.badBanks c.val, marchTests m.control x.elem.val = false) → nextHas (exec (.marchPassEnd c []) s) (fun t =>
        t.dev.march c.val = none ∧ t.dev.getF (Obj.marchStatus c.val) 0 2 = 2 ∧ t.dev.getF (Obj.marchStatus c.val) 8 8 = 0xFF ∧
        (field m.control 0 2 = 1 → (∀ a, Memory.byte t.mem.pad (padKey c.val a) = 0) ∧
          (∀ k w, k < 19 → w < 8 → Tab.get 0 t.dev.regions (regionKey c.val k w) = 0)) ∧
        (field m.control 0 2 ≠ 1 → t.mem = s.mem ∧ t.dev.regions = s.dev.regions) ∧
        (∀ k a, k ≠ c.val → Memory.byte t.mem.pad (padKey k a) = Memory.byte s.mem.pad (padKey k a)) ∧
        s.dev.regsKept t.dev [(Obj.marchStatus c.val).key, (Obj.clusterHealth c.val).key] ∧ t.mem.gddr = s.mem.gddr ∧ t.pending = s.pending)) ∧
      (∀ x : MarchFound, m.retest = false → field m.control 0 2 ≠ 1 → x ∈ s.badBanks c.val → marchTests m.control x.elem.val = true →
        nextHas (exec (.marchPassEnd c []) s) (fun t => t.dev.march c.val = none ∧ t.dev.getF (Obj.marchStatus c.val) 0 2 = 3 ∧ s.sameRest t)) ∧
      (∀ x : MarchFound, m.retest = false → field m.control 0 2 = 1 → marchTests m.control x.elem.val = true → x.word = true → nextHas (exec (.marchPassEnd c [x]) s) (fun t =>
        t.dev.march c.val = none ∧ t.dev.getF (Obj.marchStatus c.val) 0 2 = 3 ∧ t.dev.getF (Obj.marchStatus c.val) 8 8 = x.elem.val ∧
        t.mem.gddr = s.mem.gddr ∧ t.pending = s.pending)))

/-- R293 to R301: a word joins its packet, and Last commits it, to a reader that waits first of all; a packet's 65th word discards the packet; a full sluice holds its writer; a short
item waits in a partly packed word; a read gives the oldest committed word with its tag, or nothing to a poll, or waits; a word that cannot be corrected carries Poison
(stated of the first in its windows of R551), and one with a tag parity error ends its packet; release, replay, rewind and flush do what their rules say and nothing else.
(Choices of the model's that it rests on: notes/assumptions 56, 68.) -/
def Obligations.SluicesCarry : Prop :=
  ∀ (s : State) (k : SluiceRef), s.dev.up (sluiceDomain (sluiceKey k)) →
    let key := sluiceKey k
    let x := s.dev.sluice key
    (∀ (v : BitVec 64) (poisoned : Bool), x.full (sluiceDepth key) = false → x.discarding = false → x.part = none → x.opened.length ≠ 64 →
      (x.readWaits = none → nextHas (exec (.sluiceWrite k (.word v poisoned) true) s) (fun t =>
        t.dev.sluice key = { x with words := x.words ++ x.opened ++ [SluiceWord.of v.toNat 0xFF true poisoned], opened := [] } ∧ s.dev.regsKept t.dev [] ∧ s.sameRest t)) ∧
      (∀ w ws, x.readWaits = some (.ok, false) → x.taken = x.words.length → x.opened ++ [SluiceWord.of v.toNat 0xFF true poisoned] = w :: ws →
        nextHas (exec (.sluiceWrite k (.word v poisoned) true) s) (fun t =>
          t.dev.out = [.sluiceData key w.data w.tag true w.poisoned] ∧ (t.dev.sluice key).readWaits = none ∧ (t.dev.sluice key).taken = x.taken + 1 ∧
          (t.dev.sluice key).words.length = x.words.length + x.opened.length + 1 ∧ s.dev.regsKept t.dev [] ∧ s.sameRest t)) ∧
      nextHas (exec (.sluiceWrite k (.word v poisoned) false) s) (fun t =>
        t.dev.sluice key = { x with opened := x.opened ++ [SluiceWord.of v.toNat 0xFF false poisoned] } ∧ s.dev.regsKept t.dev [] ∧ s.sameRest t) ∧
      nextHas (exec (.sluiceWrite k (.item1 (v.truncate 8)) false) s) (fun t =>
        t.dev.sluice key = { x with part := some (v.toNat % 256, 1, 1) } ∧ s.dev.regsKept t.dev [] ∧ s.sameRest t)) ∧
    (∀ (v : BitVec 64) (last : Bool), x.full (sluiceDepth key) = false → x.discarding = false → x.part = none → x.opened.length = 64 →
      nextHas (exec (.sluiceWrite k (.word v false) last) s) (fun t =>
        t.dev.sluice key = { x with opened := [], discarding := !last, reason := 3 } ∧
        (key < 1024 → t.dev.rd (Obj.sluiceDiscardedWords (key / 8)) = (s.dev.rd (Obj.sluiceDiscardedWords (key / 8)) + 65) % 2 ^ 64) ∧
        s.dev.regsKept t.dev [(Obj.sluiceDiscardedWords (key / 8)).key] ∧ s.sameRest t)) ∧
    (∀ w last, x.full (sluiceDepth key) = true → x.discarding = false → nextHas (exec (.sluiceWrite k w last) s) (fun t =>
      t.dev = { s.dev with out := [] } ∧ s.sameRest t)) ∧
    (∀ w, x.taken < x.words.length → x.words[x.taken]? = some w →
      nextHas (exec (.sluiceRead k true .ok false) s) (fun t =>
        t.dev.out = [.sluiceData key w.data w.tag true w.poisoned] ∧ (t.dev.sluice key).taken = x.taken + 1 ∧ (t.dev.sluice key).words.length = x.words.length ∧
        s.dev.regsKept t.dev [] ∧ s.sameRest t) ∧
      (x.badMs.2 = 0 → x.badS.2 = 0 → nextHas (exec (.sluiceRead k true .ok true) s) (fun t =>
        (∃ p : Bool, .sluiceData key w.data (w.valid + 2 ^ 8 + b2n p * 2 ^ 9) true true ∈ t.dev.out) ∧ s.sameRest t)) ∧
      (x.badMs.2 = 0 → x.badS.2 = 0 → nextHas (exec (.sluiceRead k true .uncorrectable false) s) (fun t =>
        .sluiceData key w.data w.tag true true ∈ t.dev.out ∧ (t.dev.sluice key).words[x.taken]? = some { w with poisoned := true } ∧
        (key < 1024 → t.dev.rd (Obj.sluiceUncorrectable (key / 8)) = (s.dev.rd (Obj.sluiceUncorrectable (key / 8)) + 1) % 2 ^ 64) ∧ s.sameRest t))) ∧
    (x.words.length ≤ x.taken →
      nextHas (exec (.sluiceRead k true .ok false) s) (fun t => t.dev = { s.dev with out := [.sluiceData key 0 0 false false] } ∧ s.sameRest t) ∧
      nextHas (exec (.sluiceRead k false .ok false) s) (fun t => t.dev.sluice key = { x with readWaits := some (.ok, false) } ∧ t.dev.out = [] ∧ s.dev.regsKept t.dev [] ∧ s.sameRest t)) ∧
    (∀ n, n ≤ x.taken → nextHas (exec (.sluiceRelease k n) s) (fun t =>
      t.dev.sluice key = { x with words := x.words.drop n, taken := x.taken - n } ∧ s.dev.regsKept t.dev [] ∧ s.sameRest t)) ∧
    (x.readWaits = none → nextHas (exec (.sluiceReplay k) s) (fun t => t.dev.sluice key = { x with taken := 0 } ∧ s.dev.regsKept t.dev [] ∧ s.sameRest t)) ∧
    (∀ w, x.readWaits = some (.ok, false) → x.words[0]? = some w → nextHas (exec (.sluiceReplay k) s) (fun t =>
      t.dev.out = [.sluiceData key w.data w.tag true w.poisoned] ∧ (t.dev.sluice key).readWaits = none ∧ (t.dev.sluice key).taken = 1 ∧
      s.dev.regsKept t.dev [] ∧ s.sameRest t)) ∧
    nextHas (exec (.sluiceRewind k) s) (fun t => t.dev.sluice key = { x with opened := [], part := if x.discarding then x.part else none, reason := 1 } ∧
      (key < 1024 → t.dev.rd (Obj.sluiceDiscardedWords (key / 8)) = (s.dev.rd (Obj.sluiceDiscardedWords (key / 8)) + x.uncommitted) % 2 ^ 64) ∧
      s.dev.regsKept t.dev [(Obj.sluiceDiscardedWords (key / 8)).key] ∧ s.sameRest t) ∧
    nextHas (exec (.sluiceFlush k) s) (fun t =>
      (t.dev.sluice key).words = [] ∧ (t.dev.sluice key).opened = [] ∧ (t.dev.sluice key).part = none ∧ (t.dev.sluice key).taken = 0 ∧ (t.dev.sluice key).reason = 2 ∧
      (t.dev.sluice key).discarding = (x.discarding || x.uncommitted != 0) ∧
      (∀ j, j ≠ key → t.dev.sluice j = s.dev.sluice j) ∧
      (key < 1024 → t.dev.rd (Obj.sluiceDiscardedWords (key / 8)) = (s.dev.rd (Obj.sluiceDiscardedWords (key / 8)) + x.occupied) % 2 ^ 64) ∧ s.sameRest t)

/-- R306, R309 to R315: a start that arrives is queued while the ferry holds fewer than 16, and is otherwise held, its weir showing Held, until there is room; a failed ferry's goes
to the next in service; a descriptor whose block or whose stretches are out of reach for the time being leaves the ferry where it is; a NOP that ends its chain
frees the ferry and counts; a FILL writes its 8 bytes over its row and nothing else; a descriptor outside the tenant's partition stops the chain with LastError 2, a host read that
is outstanding and never completes with LastError 4. (What is out of reach is notes/assumptions/119. Moves are stated where no word of the array holds an error.) -/
def Obligations.FerriesRun : Prop :=
  ∀ (s : State) (f : Fin 40), s.dev.working = true →
    (∀ c, s.dev.starts.find? (fun c => c.ferry == f.val) = some c →
      let g := s.dev.ferryFor f.val
      ((s.dev.ferry g).starts.length < 16 → s.dev.heldStarts.any (fun c => c.ferry == g) = false → nextHas (exec (.ferryStart f) s) (fun t =>
        t.dev.ferry g = { s.dev.ferry g with starts := (s.dev.ferry g).starts ++ [{ c with ferry := g }] } ∧
        t.dev.starts = s.dev.starts.eraseP (fun c => c.ferry == f.val) ∧
        t.dev.getF (Obj.ferryState g) 2 5 = (s.dev.ferry g).starts.length + 1 ∧ s.dev.regsKept t.dev [(Obj.ferryState g).key] ∧ s.sameRest t)) ∧
      (16 ≤ (s.dev.ferry g).starts.length → c.weir < 16384 → nextHas (exec (.ferryStart f) s) (fun t =>
        t.dev.heldStarts = s.dev.heldStarts ++ [{ c with ferry := g }] ∧ (t.dev.weir c.weir) = { s.dev.weir c.weir with held := true } ∧ t.dev.ferries = s.dev.ferries ∧
        s.dev.regsKept t.dev [] ∧ s.sameRest t))) ∧
    (∀ c, s.dev.heldStarts.find? (fun c => c.ferry == f.val) = some c → (s.dev.ferry (s.dev.ferryFor f.val)).starts.length < 16 → nextHas (exec (.heldStartQueued f) s) (fun t =>
      let g := s.dev.ferryFor f.val
      t.dev.ferry g = { s.dev.ferry g with starts := (s.dev.ferry g).starts ++ [{ c with ferry := g }] } ∧ t.dev.heldStarts = s.dev.heldStarts.eraseP (fun c => c.ferry == f.val) ∧
      (t.dev.heldStarts.any (fun x => x.weir == c.weir) = false → t.dev.weir c.weir = { s.dev.weir c.weir with held := false }) ∧
      s.dev.regsKept t.dev [(Obj.ferryState g).key] ∧ s.sameRest t)) ∧
    (∀ c, s.dev.ferryWorks f.val = true → (s.dev.ferry f.val).cur = some c →
      (s.descAt c.tenant (s.dev.ferry f.val).pc = none → nextHas (exec (.descriptorRun f none [] ⟨[], []⟩) s) (fun t =>
        (t.dev.ferry f.val).cur = none ∧ t.dev.getF (Obj.ferryState f.val) 0 2 = 3 ∧ t.dev.getF (Obj.ferryState f.val) 9 4 = 2 ∧ s.sameRest t)) ∧
      (∀ d, s.descAt c.tenant (s.dev.ferry f.val).pc = some d → s.dev.gddrHeld c.tenant (s.dev.ferry f.val).pc 64 = true →
        nextHas (exec (.descriptorRun f none [] ⟨[], []⟩) s) (fun t => t.dev = { s.dev with out := [] } ∧ s.sameRest t)) ∧
      (∀ d, s.descAt c.tenant (s.dev.ferry f.val).pc = some d → s.dev.gddrHeld c.tenant (s.dev.ferry f.val).pc 64 = false → s.mem.gddrErr = [] → s.dev.descBad f.val c.tenant d = false → d.waits = false → d.signals = false → d.ends = true →
        (d.op = 5 → s.descAwake c.tenant d = false → nextHas (exec (.descriptorRun f none [] ⟨[], []⟩) s) (fun t =>
          t.dev.ferry f.val = s.dev.ferry f.val ∧ s.dev.regsKept t.dev [] ∧ s.sameRest t)) ∧
        (d.op = 0 → nextHas (exec (.descriptorRun f none [] ⟨[], []⟩) s) (fun t =>
          (t.dev.ferry f.val).cur = none ∧ t.dev.getF (Obj.ferryState f.val) 0 2 = 0 ∧
          t.dev.rd (Obj.ferryChains f.val) = (s.dev.rd (Obj.ferryChains f.val) + 1) % 2 ^ 64 ∧ s.sameRest t)) ∧
        (d.op = 5 → d.dstSpace = 0 → d.rows = 1 → d.planes = 1 → d.dst % 2 ^ 20 + d.rowBytes ≤ 2 ^ 20 → s.descAwake c.tenant d = true →
          s.dev.rowRefused f.val c.tenant 0 d.dst d.rowBytes true = none →
          nextHas (exec (.descriptorRun f none [] ⟨[], []⟩) s) (fun t =>
            (∀ i, i < d.rowBytes → Memory.byte t.mem.pad (padKey (d.dst / 2 ^ 20) (d.dst % 2 ^ 20 + i)) = (leBytes 8 d.src).getD (i % 8) 0) ∧
            (∀ k, k < d.dst ∨ d.dst + d.rowBytes ≤ k → Memory.byte t.mem.pad k = Memory.byte s.mem.pad k) ∧
            t.dev.rd (Obj.ferryBytes f.val) = (s.dev.rd (Obj.ferryBytes f.val) + d.rowBytes) % 2 ^ 64 ∧
            (t.dev.ferry f.val).cur = none ∧ t.mem.gddr = s.mem.gddr ∧ t.pending = s.pending)))) ∧
    (s.hostReadOf f.val = none → nextHas (exec (.completionTimeout (.ferry f)) s) (fun t => t.dev = { s.dev with out := [] } ∧ s.sameRest t)) ∧
    (∀ p n, s.hostReadOf f.val = some (p, n) → nextHas (exec (.completionTimeout (.ferry f)) s) (fun t =>
        (t.dev.ferry f.val).cur = none ∧ t.dev.getF (Obj.ferryState f.val) 0 2 = 3 ∧ t.dev.getF (Obj.ferryState f.val) 9 4 = 4 ∧ s.sameRest t))

/-- R322 to R327, R332: a block read outside the regions of its tenant is refused and counted, and one that meets a channel that retrains is held; in a healthy block it changes no
memory, wherever the copy in turn stands, and one that cannot be corrected is marked and
counted; bursts are repeated four times and then the channel retrains, and fails where that fails; a failed channel shows its cause; a scrub pass counts; a reading shows, and sets what its limits say.
(Choices of the model's that it rests on: notes/assumptions 43, 56, 66, 71.) -/
def Obligations.ArrayServes : Prop :=
  ∀ (s : State) (k : Fin 8), s.dev.up 172 →
    (∀ (m : GddrMaster) (addr : BitVec 34),
      let a := addr.toNat / 64 * 64
      (s.dev.regionAt (s.dev.gddrMaster m).1 a = none → nextHas (exec (.gddr6Read m addr .ok) s) (fun t =>
        t.dev.rd (Obj.regionRefusals (gddrChan a)) = (s.dev.rd (Obj.regionRefusals (gddrChan a)) + 1) % 2 ^ 64 ∧ s.sameRest t)) ∧
      (∀ r, s.dev.regionAt (s.dev.gddrMaster m).1 a = some r →
        let z := if s.dev.mirrorTurn % 2 = 0 then (s.dev.copies r a).headD a else (s.dev.copies r a).getLastD a
        (s.dev.gddrHeld (s.dev.gddrMaster m).1 a 64 = true → nextHas (exec (.gddr6Read m addr .ok) s) (fun t => t.dev = { s.dev with out := [] } ∧ s.sameRest t)) ∧
        (∀ x, s.dev.gddrHeld (s.dev.gddrMaster m).1 a 64 = false → s.dev.placeOf (s.dev.regionMirror r) z = some x → (x = z ∨ s.dev.rewritten z = true) →
          Tab.get false s.mem.gddrBad (x / 64) = false →
        (Tab.get false s.mem.gddrErr (x / 64) = false → nextHas (exec (.gddr6Read m addr .ok) s) (fun t =>
          t.dev.mirrorTurn = s.dev.mirrorTurn + 1 ∧ s.dev.regsKept t.dev [] ∧ s.sameRest t)) ∧
        ((∀ b, b ≠ x / 64 → Tab.get false s.mem.gddrErr b = false) → nextHas (exec (.gddr6Read m addr .uncorrectable) s) (fun t =>
          Tab.get false t.mem.gddrErr (x / 64) = true ∧ t.mem.gddr = s.mem.gddr ∧ t.mem.pad = s.mem.pad ∧ t.pending = s.pending ∧
          t.dev.rd (Obj.gddr6Uncorrectable (gddrChan x)) = (s.dev.rd (Obj.gddr6Uncorrectable (gddrChan x)) + 1) % 2 ^ 64))))) ∧
    nextHas (exec (.edcMismatch k false) s) (fun t =>
      Tab.get 0 t.dev.edcRepeats k.val = 1 ∧ t.dev.rd (Obj.edcRetries k.val) = (s.dev.rd (Obj.edcRetries k.val) + 1) % 2 ^ 64 ∧
      s.dev.regsKept t.dev [(Obj.edcRetries k.val).key] ∧ s.sameRest t) ∧
    (4 ≤ Tab.get 0 s.dev.edcRepeats k.val → nextHas (exec (.edcMismatch k true) s) (fun t =>
      t.dev.bit (Obj.gddrChannelState k.val) 4 = true ∧ s.dev.regsKept t.dev [(Obj.gddrChannelState k.val).key] ∧ s.sameRest t)) ∧
    (s.dev.bit (Obj.gddrChannelState k.val) 4 = true → nextHas (exec (.channelRetrainEnd k true) s) (fun t =>
      t.dev.bit (Obj.gddrChannelState k.val) 4 = false ∧ s.dev.regsKept t.dev [(Obj.gddrChannelState k.val).key] ∧ s.sameRest t)) ∧
    (s.dev.bit (Obj.gddrChannelState k.val) 4 = true → s.dev.chanFailed k.val = false → nextHas (exec (.channelRetrainEnd k false) s) (fun t =>
      t.dev.chanFailed k.val = true ∧ t.dev.bit (Obj.gddrChannelState k.val) 4 = false ∧ t.dev.getF (Obj.gddrChannelState k.val) 16 8 = 1 ∧ s.sameRest t)) ∧
    (∀ cause : Fin 3, s.dev.chanFailed k.val = false → nextHas (exec (.channelFailure k cause) s) (fun t =>
      t.dev.chanFailed k.val = true ∧ t.dev.getF (Obj.gddrChannelState k.val) 16 8 = cause.val + 1 ∧
      t.dev.failedFirst = (if s.dev.failedFirst = 0 then k.val + 1 else s.dev.failedFirst) ∧ s.sameRest t)) ∧
    nextHas (exec (.scrubPass []) s) (fun t => t.dev.rd Obj.scrubPasses = (s.dev.rd Obj.scrubPasses + 1) % 2 ^ Obj.scrubPasses.bits ∧
      s.dev.regsKept t.dev [Obj.scrubPasses.key] ∧ s.sameRest t) ∧
    (∀ v : BitVec 16, nextHas (exec (.gddr6TemperatureRead k v) s) (fun t =>
      t.dev.rdI (Obj.gddr6Temperature k.val) = v.toInt ∧ (85 ≤ v.toInt → t.dev.bit (Obj.gddrChannelState k.val) 2 = true) ∧
      (95 ≤ v.toInt → t.dev.bit (Obj.gddrChannelState k.val) 3 = true) ∧
      s.dev.regsKept t.dev [(Obj.gddr6Temperature k.val).key, (Obj.gddrChannelState k.val).key] ∧ s.sameRest t)) ∧
    nextHas (exec (.linkTimingRetrain k) s) (fun t => t.dev = { s.dev with out := [] } ∧ s.sameRest t)

/-! ### Partitions -/

/-- R325, R350, R392, R441, R454, R499: a new owner clears the cluster, the weir block, the channel or the region it is given, and nothing of another; an object that a loaded plan
names is refused with STATE, a region that overlaps or is empty with RANGE, one for an absent tenant with STATE; every accepted partition write extends M5; a ChannelPath moves a
channel to its path, pausing or resuming it. (Units of the region that have moved off a failed channel are cleared where they stand.)
(Choices of the model's that it rests on: notes/assumptions 87, 108.) -/
def Obligations.PartitionsAreWritten : Prop :=
  ∀ (s : State) (q : Requester),
    let m5 (t : State) (r : Reg) (bs : List Byte) : Prop := t.dev.blob (Obj.measurementRegister 5) =
      sha3 (s.dev.blob (Obj.measurementRegister 5) ++ sha3 (leBytes 2 (r.key / 256) ++ leBytes 1 (r.key % 256) ++ bs))
    let only (t : State) (ks : List Nat) : Prop := s.dev.regsKeptAnswered t.dev (Obj.securityState.key :: ks)
    (∀ (c : Fin 128) (v : BitVec 8), s.dev.hears q (Obj.clusterOwner c.val) v.toNat →
      (s.dev.loadedPlans.any (fun p => (s.dev.plan p).clusterNames.contains c.val) = true → nextHas (exec (.clusterOwnerWrite q c v) s) (fun t =>
        t.dev.told q .state ∧ s.dev.regsKeptAnswered t.dev [] ∧ s.sameRest t)) ∧
      (s.dev.loadedPlans.any (fun p => (s.dev.plan p).clusterNames.contains c.val) = false → nextHas (exec (.clusterOwnerWrite q c v) s) (fun t =>
        t.dev.told q .ok ∧ t.dev.rd (Obj.clusterOwner c.val) = v.toNat ∧ m5 t (Obj.clusterOwner c.val) [v] ∧ only t [(Obj.clusterOwner c.val).key] ∧
        t.mem.gddr = s.mem.gddr ∧ t.pending = s.pending ∧
        (∀ k, Memory.byte t.mem.pad k = if s.dev.rd (Obj.clusterOwner c.val) ≠ v.toNat ∧ k / 2 ^ 20 = c.val then 0 else Memory.byte s.mem.pad k)))) ∧
    (∀ (b : Fin 128) (v : BitVec 8), s.dev.hears q (Obj.weirBlockOwner b.val) v.toNat →
      (s.dev.blockNamed b.val = true → nextHas (exec (.weirBlockOwnerWrite q b v) s) (fun t => t.dev.told q .state ∧ s.dev.regsKeptAnswered t.dev [] ∧ s.sameRest t)) ∧
      (s.dev.blockNamed b.val = false → nextHas (exec (.weirBlockOwnerWrite q b v) s) (fun t =>
        t.dev.told q .ok ∧ t.dev.rd (Obj.weirBlockOwner b.val) = v.toNat ∧ m5 t (Obj.weirBlockOwner b.val) [v] ∧ only t [(Obj.weirBlockOwner b.val).key] ∧ s.sameRest t ∧
        (∀ w, t.dev.weir w = if s.dev.rd (Obj.weirBlockOwner b.val) ≠ v.toNat ∧ w / 128 = b.val then {} else s.dev.weir w)))) ∧
    (∀ (n : Fin 64) (v : BitVec 8), s.dev.hears q (Obj.channelOwner n.val) v.toNat →
      (s.dev.loadedPlans.any (fun p => (s.dev.plan p).namesChannel n.val) = true → nextHas (exec (.channelOwnerWrite q n v) s) (fun t =>
        t.dev.told q .state ∧ s.dev.regsKeptAnswered t.dev [] ∧ s.sameRest t)) ∧
      (s.dev.loadedPlans.any (fun p => (s.dev.plan p).namesChannel n.val) = false → nextHas (exec (.channelOwnerWrite q n v) s) (fun t =>
        t.dev.told q .ok ∧ t.dev.rd (Obj.channelOwner n.val) = v.toNat ∧ m5 t (Obj.channelOwner n.val) [v] ∧ s.sameRest t ∧
        (s.dev.rd (Obj.channelOwner n.val) = v.toNat → only t []) ∧
        (s.dev.rd (Obj.channelOwner n.val) ≠ v.toNat → t.dev.chanState n.val = 0 ∧ t.dev.chan n.val = {} ∧ t.dev.rd (Obj.ringBase n.val) = 0 ∧
          (∀ k : Fin 8, t.dev.rd (Obj.outfallCounter n.val k.val) = 0) ∧
          (∀ x : Fin 8, t.dev.rd (Obj.faultChannel x.val) = if s.dev.rd (Obj.faultChannel x.val) = n.val then 0xFF else s.dev.rd (Obj.faultChannel x.val)))))) ∧
    (∀ (r : Fin 32) (v : BitVec 8), s.dev.hears q (Obj.regionOwner r.val) v.toNat →
      (v.toNat ≠ 0xFF → s.dev.regionBad r.val = true → nextHas (exec (.regionOwnerWrite q r v) s) (fun t =>
        t.dev.told q .range ∧ s.dev.regsKeptAnswered t.dev [] ∧ s.sameRest t)) ∧
      (v.toNat ≠ 0xFF → s.dev.regionBad r.val = false → s.dev.rd (Obj.tenantState v.toNat) = 0 → nextHas (exec (.regionOwnerWrite q r v) s) (fun t =>
        t.dev.told q .state ∧ s.dev.regsKeptAnswered t.dev [] ∧ s.sameRest t)) ∧
      (s.dev.rd (Obj.regionOwner r.val) ≠ v.toNat → (v.toNat ≠ 0xFF → s.dev.regionBad r.val = false ∧ s.dev.rd (Obj.tenantState v.toNat) ≠ 0) →
        nextHas (exec (.regionOwnerWrite q r v) s) (fun t =>
          t.dev.told q .ok ∧ t.dev.rd (Obj.regionOwner r.val) = v.toNat ∧ m5 t (Obj.regionOwner r.val) [v] ∧
          only t [(Obj.regionOwner r.val).key, (Obj.regionState r.val).key] ∧
          (s.dev.failedFirst = 0 → t.dev.rd (Obj.regionState r.val) = if v.toNat = 0xFF then 0 else 2) ∧
          (∀ a, Memory.byte t.mem.gddr a = if (s.dev.regionLo r.val ≤ a ∧ a < s.dev.occupiedHi r.val) ∨
              (s.dev.origin a).any (fun x => decide (s.dev.regionLo r.val ≤ x) && decide (x < s.dev.occupiedHi r.val)) = true then 0 else Memory.byte s.mem.gddr a) ∧
          t.mem.pad = s.mem.pad ∧ t.pending = s.pending)) ∧
      (s.dev.rd (Obj.regionOwner r.val) = v.toNat → (v.toNat ≠ 0xFF → s.dev.regionBad r.val = false ∧ s.dev.rd (Obj.tenantState v.toNat) ≠ 0) →
        nextHas (exec (.regionOwnerWrite q r v) s) (fun t => t.dev.told q .ok ∧ m5 t (Obj.regionOwner r.val) [v] ∧ only t [] ∧ s.sameRest t))) ∧
    (∀ (n : Fin 36) (v : BitVec 8), s.dev.hears q (Obj.streamTenant n.val) v.toNat → nextHas (exec (.tenantHostKeysWrite q (.streamTenant n v)) s) (fun t =>
      t.dev.told q .ok ∧ t.dev.rd (Obj.streamTenant n.val) = v.toNat ∧ m5 t (Obj.streamTenant n.val) [v] ∧ only t [(Obj.streamTenant n.val).key] ∧ s.sameRest t)) ∧
    (∀ (x : Fin 8) (v : BitVec 8), s.dev.hears q (Obj.tenantWeight x.val) v.toNat → nextHas (exec (.tenantHostKeysWrite q (.tenantWeight x v)) s) (fun t =>
      t.dev.told q .ok ∧ t.dev.rd (Obj.tenantWeight x.val) = v.toNat ∧ m5 t (Obj.tenantWeight x.val) [v] ∧ only t [(Obj.tenantWeight x.val).key] ∧ s.sameRest t)) ∧
    (∀ v : BitVec 8, s.dev.hears q Obj.fusionOwner v.toNat → nextHas (exec (.tenantHostKeysWrite q (.fusionOwner v)) s) (fun t =>
      (s.dev.fusionRuns = true → t.dev.told q .state ∧ s.dev.regsKeptAnswered t.dev []) ∧
      (s.dev.fusionRuns = false → t.dev.told q .ok ∧ t.dev.rd Obj.fusionOwner = v.toNat ∧ m5 t Obj.fusionOwner [v] ∧ only t [Obj.fusionOwner.key]) ∧ s.sameRest t)) ∧
    (∀ (x : Fin 8) (k : Fin 4) (bs : List Byte),
      let r := Obj.tenantHostKeys x.val k.val
      s.dev.reaches { q := q, op := 2, idx := r.key / 256, sub := r.key % 256, data := bs } → s.dev.judgeWrite q 2 (r.key / 256) (r.key % 256) bs = .ok →
      nextHas (exec (.tenantHostKeysWrite q (.hostKeys x k bs)) s) (fun t => t.dev.told q .ok ∧ t.dev.blob r = bs ∧ m5 t r bs ∧ only t [] ∧ s.sameRest t)) ∧
    (∀ (n : Fin 64) (v : BitVec 8), s.dev.hears q (Obj.channelPath n.val) v.toNat →
      let bound := if s.dev.rd (Obj.channelOwner n.val) < 8 then s.dev.pathOf (s.dev.rd (Obj.channelOwner n.val)) v.toNat else none
      nextHas (exec (.channelPathWrite q n v) s) (fun t =>
        t.dev.told q .ok ∧ t.dev.rd (Obj.channelPath n.val) = v.toNat ∧
        (s.dev.chanState n.val = 1 → bound = none → t.dev.chanState n.val = 2) ∧
        (s.dev.chanState n.val = 1 → bound ≠ none → t.dev.chan n.val = s.dev.chan n.val) ∧
        (s.dev.chanState n.val = 2 → bound ≠ none → t.dev.chanState n.val = 1 ∧ (t.dev.chan n.val).resumed = true) ∧
        s.dev.regsKeptAnswered t.dev [(Obj.channelPath n.val).key, (Obj.outfallStatus n.val).key, (Obj.outfallCounter n.val 3).key, (Obj.outfallCounter n.val 7).key] ∧
        s.sameRest t))

/-! ### Reedbed (chapter 12) -/

/-- R380 to R383, R391: a Start of a channel that satisfies the four conditions fills it afresh, with the FineLatency of its settings, and is otherwise refused with STATE and the
LastError; a Stop abandons a fade and makes the preset of the last accepted request active; a Preset write sets a stopped channel, starts the fade of a steady one, is held by a
fading one and is refused with RANGE where the preset's delay exceeds ChannelDelay.
(Choices of the model's that it rests on: notes/assumptions 78, 79.) -/
def Obligations.ReedbedCommands : Prop :=
  ∀ (s : State) (q : Requester) (c : Fin 64),
    let st := Obj.reedbedStatus c.val
    let d := s.dev.rd (Obj.decimation c.val)
    let kind := s.dev.getF (Obj.sourceSpec c.val) 0 4
    let unit_ := s.dev.getF (Obj.sourceSpec c.val) 4 4
    let needs := 2 * s.dev.rd (Obj.channelDelay c.val) * d + s.dev.rd (Obj.phaseDelay c.val) / 64 + 1
    let deep : Prop := s.dev.rd (Obj.channelDelay c.val) < 32 / 2 ^ s.dev.rd (Obj.preset c.val)
    let short : Prop := kind = 1 ∧ s.dev.rd (Obj.frameBytes unit_) < s.dev.getF (Obj.sourceSpec c.val) 8 8 + s.dev.getF (Obj.sourceSpec c.val) 16 2 + 2
    (s.dev.hears q (Obj.reedbedCommand c.val) 1 →
      (kind ≠ 0 → needs ≤ 4096 → ¬deep → ¬short → nextHas (exec (.channelStart q c) s) (fun t =>
        t.dev.told q .ok ∧ t.dev.reedState c.val = 1 ∧ t.dev.getF st 16 8 = 0 ∧ (t.dev.reed c.val).hist = [] ∧ (t.dev.reed c.val).filled = 0 ∧
        t.dev.rd (Obj.envelope c.val) = 0 ∧
        (kind = 1 → t.dev.rd (Obj.fineLatency c.val) = (s.dev.fineDelay c.val + 500 +
          (s.dev.rd (Obj.frameBytes unit_) : Rat) * 8000000 / (s.dev.rd (Obj.spiClock unit_) : Rat) + 3000).floor.toNat % 2 ^ 32) ∧
        (3 ≤ kind → t.dev.rd (Obj.fineLatency c.val) = (s.dev.fineDelay c.val + 3000).floor.toNat % 2 ^ 32) ∧
        s.dev.regsKeptAnswered t.dev [st.key, (Obj.envelope c.val).key, (Obj.fineLatency c.val).key, Obj.channelsRunning.key] ∧ s.sameRest t)) ∧
      (∀ e, (e = 1 ∧ kind = 0) ∨ (e = 2 ∧ kind ≠ 0 ∧ 4096 < needs) ∨ (e = 3 ∧ kind ≠ 0 ∧ needs ≤ 4096 ∧ deep) ∨
          (e = 4 ∧ needs ≤ 4096 ∧ ¬deep ∧ short) → nextHas (exec (.channelStart q c) s) (fun t =>
        t.dev.told q .state ∧ t.dev.getF st 16 8 = e ∧ t.dev.reeds = s.dev.reeds ∧ s.dev.regsKeptAnswered t.dev [st.key] ∧ s.sameRest t))) ∧
    (s.dev.hears q (Obj.reedbedCommand c.val) 2 → nextHas (exec (.channelStop q c) s) (fun t =>
      t.dev.told q .ok ∧ t.dev.reedState c.val = 0 ∧ t.dev.bit st 2 = false ∧ t.dev.getF st 4 2 = s.dev.rd (Obj.preset c.val) % 4 ∧
      t.dev.getF st 6 2 = s.dev.rd (Obj.preset c.val) % 4 ∧ s.dev.regsKeptAnswered t.dev [st.key, Obj.channelsRunning.key] ∧ s.sameRest t)) ∧
    (∀ v : BitVec 8, s.dev.hears q (Obj.preset c.val) v.toNat →
      (s.dev.rd (Obj.channelDelay c.val) < 32 / 2 ^ v.toNat → nextHas (exec (.presetRequest q c v) s) (fun t =>
        t.dev.told q .range ∧ t.dev.rd (Obj.reedbedCounter c.val 9) = (s.dev.rd (Obj.reedbedCounter c.val 9) + 1) % 2 ^ 64 ∧
        t.dev.reeds = s.dev.reeds ∧ s.dev.regsKeptAnswered t.dev [(Obj.reedbedCounter c.val 9).key] ∧ s.sameRest t)) ∧
      (32 / 2 ^ v.toNat ≤ s.dev.rd (Obj.channelDelay c.val) → nextHas (exec (.presetRequest q c v) s) (fun t =>
        t.dev.told q .ok ∧ t.dev.rd (Obj.preset c.val) = v.toNat ∧
        (s.dev.reedState c.val = 0 → t.dev.getF st 4 2 = v.toNat % 4 ∧ t.dev.getF st 6 2 = v.toNat % 4) ∧
        (s.dev.reedState c.val ≠ 0 → s.dev.bit st 2 = false → v.toNat ≠ s.dev.getF st 4 2 →
          t.dev.bit st 2 = true ∧ t.dev.getF st 4 2 = s.dev.getF st 4 2 ∧ t.dev.getF st 6 2 = v.toNat % 4 ∧ (t.dev.reed c.val).fadeK = 0) ∧
        (s.dev.reedState c.val ≠ 0 → s.dev.bit st 2 = false → v.toNat = s.dev.getF st 4 2 → t.dev.rd st = s.dev.rd st) ∧
        (s.dev.reedState c.val ≠ 0 → s.dev.bit st 2 = true → t.dev.bit st 3 = true ∧ t.dev.getF st 8 2 = v.toNat % 4 ∧ t.dev.getF st 4 2 = s.dev.getF st 4 2 ∧
          t.dev.getF st 6 2 = s.dev.getF st 6 2 ∧
          t.dev.rd (Obj.reedbedCounter c.val 8) = (s.dev.rd (Obj.reedbedCounter c.val 8) + (if s.dev.bit st 3 then 1 else 0)) % 2 ^ 64) ∧
        s.dev.regsKeptAnswered t.dev [st.key, (Obj.preset c.val).key, (Obj.reedbedCounter c.val 8).key] ∧ s.sameRest t)))

/-- R370 to R375, R377: a trigger, of the timer once a tick, starts the frame of its SPI controller, or is counted as an overrun; the end of a frame, a CAN frame, a datagram and an internal sample each give the
one channel that runs and takes them the Q1.23 value of its field, with their stamp, counted in SamplesIn; a datagram of another source, version or length is discarded and counted;
a sample closer than T/2 to the previous one is counted as late; a gap of 1.5 T is filled with the previous value, and GapLimit fills lose the channel.
(Choices of the model's that it rests on: notes/assumptions 26, 78, 79, 133.) -/
def Obligations.SamplesEnter : Prop :=
  ∀ (s : State),
    let due (k rate : Nat) : Prop := Tab.get 0 s.dev.lastTick k = 0 ∨ s.dev.rf * rate / 1000000000 ≠ (Tab.get 0 s.dev.lastTick k - 1) * rate / 1000000000
    (∀ k : Fin 8, s.dev.up 180 → s.dev.padsHeld 180 = false → 8 ≤ s.dev.rd (Obj.spiTrigger k.val) → due k.val (s.dev.rd (Obj.frameRate k.val)) →
      ((Tab.get ({} : Spi) s.dev.spis k.val).frame = none → nextHas (exec (.spiFrameTrigger k) s) (fun t =>
        (Tab.get ({} : Spi) t.dev.spis k.val).frame = some s.dev.dt ∧
        t.dev.out = [.spi k.val ((s.dev.blob (Obj.frameCommand k.val)).take (s.dev.rd (Obj.frameBytes k.val)))] ∧ s.dev.regsKept t.dev [] ∧ s.sameRest t)) ∧
      ((Tab.get ({} : Spi) s.dev.spis k.val).frame ≠ none → nextHas (exec (.spiFrameTrigger k) s) (fun t =>
        t.dev.rd (Obj.frameOverruns k.val) = (s.dev.rd (Obj.frameOverruns k.val) + 1) % 2 ^ 64 ∧
        (Tab.get ({} : Spi) t.dev.spis k.val).frame = (Tab.get ({} : Spi) s.dev.spis k.val).frame ∧
        s.dev.regsKept t.dev [(Obj.frameOverruns k.val).key] ∧ s.sameRest t))) ∧
    (∀ c : Fin 64, s.dev.up 177 → (∀ x : Fin 64, x ≠ c → s.dev.reedState x.val = 0) → s.dev.reedState c.val = 1 → (s.dev.reed c.val).stamp = none →
      (s.dev.reed c.val).inWin = 0 → 0 < s.dev.rd (Obj.inputRate c.val) → (s.dev.reed c.val).filled + 1 < s.dev.reedNeeds c.val →
      let kind := s.dev.getF (Obj.sourceSpec c.val) 0 4
      let unit_ := s.dev.getF (Obj.sourceSpec c.val) 4 4
      let took (t : State) (v : Int) (at_ : Int) : Prop :=
        (t.dev.reed c.val).hist = ((clampI (-(2 ^ 23)) (2 ^ 23 - 1) (v * 2 ^ s.dev.rd (Obj.inputShift c.val)), false) :: (s.dev.reed c.val).hist).take 4096 ∧
        (t.dev.reed c.val).stamp = some (at_ : Rat) ∧
        t.dev.rd (Obj.reedbedCounter c.val 0) = (s.dev.rd (Obj.reedbedCounter c.val 0) + 1) % 2 ^ 64 ∧ t.dev.fines = s.dev.fines ∧ s.sameRest t
      let centred (w raw : Nat) : Int := if s.dev.bit (Obj.sourceSpec c.val) 18 then signed w raw else (raw : Int) - 2 ^ (w - 1)
      let bytes (data : List Byte) (n : Nat) : Nat :=
        let b := bytesAt data (s.dev.getF (Obj.sourceSpec c.val) 8 8) n
        if s.dev.bit (Obj.sourceSpec c.val) 19 then ofBe b else ofLe b
      (∀ data at_, kind = 1 → s.dev.getF (Obj.sourceSpec c.val) 16 2 = 0 → ∀ k : Fin 8, unit_ = k.val → (Tab.get ({} : Spi) s.dev.spis k.val).frame = some at_ →
        data.length = s.dev.rd (Obj.frameBytes k.val) → nextHas (exec (.spiFrameDone k data) s) (fun t =>
          took t (256 * centred 16 (bytes data 2)) at_ ∧ (Tab.get ({} : Spi) t.dev.spis k.val).frame = none ∧
          t.dev.rd (Obj.framesDone k.val) = (s.dev.rd (Obj.framesDone k.val) + 1) % 2 ^ 64)) ∧
      (∀ (k : Fin 2) (id : BitVec 29) (ext : Bool) (data : List Byte) (age : Nat), kind = 2 → unit_ = k.val → s.dev.getF (Obj.sourceSpec c.val) 16 2 = 1 →
        s.dev.getF (Obj.sourceSpec c.val) 20 29 = id.toNat → s.dev.bit (Obj.sourceSpec c.val) 49 = ext →
        nextHas (exec (.canFrame k id ext data age) s) (fun t => took t (centred 24 (bytes data 3)) (s.dev.dt - age))) ∧
      (∀ (port : Fin 2) (source payload : List Byte), s.dev.up (175 + port.val) → kind = 3 →
        let n := leAt payload 2 1
        let good : Bool := (s.dev.blob Obj.reedbedSource == zeros 16 || s.dev.blob Obj.reedbedSource == source) && leAt payload 0 2 == 0x0100 &&
          decide (1 ≤ n) && decide (n ≤ 64) && decide (16 + 4 * n ≤ payload.length)
        (good = true → s.dev.getF (Obj.sourceSpec c.val) 8 8 < n → nextHas (exec (.reedbedDatagram port (s.dev.rd Obj.reedbedPort) source payload true) s) (fun t =>
          took t (nearest ((signed 32 (leAt payload (16 + 4 * s.dev.getF (Obj.sourceSpec c.val) 8 8) 4) : Rat) / 256)) (s.dev.ofT80 (leAt payload 4 10)))) ∧
        (good = false → nextHas (exec (.reedbedDatagram port (s.dev.rd Obj.reedbedPort) source payload true) s) (fun t =>
          t.dev.rd Obj.datagramsDiscarded = (s.dev.rd Obj.datagramsDiscarded + 1) % 2 ^ 64 ∧ t.dev.reeds = s.dev.reeds ∧
          s.dev.regsKept t.dev [Obj.datagramsDiscarded.key] ∧ s.sameRest t))) ∧
      (kind = 4 → s.dev.getF (Obj.sourceSpec c.val) 8 8 < 6 → due (64 + c.val) (s.dev.rd (Obj.inputRate c.val)) → nextHas (exec (.internalSample c) s) (fun t =>
        took t (256 * signed 16 (s.dev.rd (Obj.dieTemperature (s.dev.getF (Obj.sourceSpec c.val) 8 8)) % 2 ^ 16)) s.dev.dt))) ∧
    (∀ (c : Fin 64) (p : Rat), s.dev.up 177 → s.dev.getF (Obj.sourceSpec c.val) 0 4 = 4 → s.dev.getF (Obj.sourceSpec c.val) 8 8 < 46 → s.dev.reedState c.val ≠ 0 →
      (s.dev.reed c.val).stamp = some p → ((s.dev.dt : Int) : Rat) - p < 1000000000 / (s.dev.rd (Obj.inputRate c.val) : Rat) / 2 →
      due (64 + c.val) (s.dev.rd (Obj.inputRate c.val)) → nextHas (exec (.internalSample c) s) (fun t =>
        t.dev.rd (Obj.reedbedCounter c.val 1) = (s.dev.rd (Obj.reedbedCounter c.val 1) + 1) % 2 ^ 64 ∧ t.dev.reeds = s.dev.reeds ∧
        s.dev.regsKept t.dev [(Obj.reedbedCounter c.val 1).key] ∧ s.sameRest t)) ∧
    (∀ (c : Fin 64) (p : Rat) (v : Int) (b : Bool) (hs : List (Int × Bool)), s.dev.up 177 → (s.dev.reed c.val).stamp = some p → (s.dev.reed c.val).hist = (v, b) :: hs →
      s.dev.reedState c.val = 2 → p + 3 / 2 * s.dev.reedT c.val ≤ ((s.dev.dt : Int) : Rat) → nextHas (exec (.gapFill c) s) (fun t =>
        (t.dev.reed c.val).hist = ((v, true) :: (v, b) :: hs).take 4096 ∧ (t.dev.reed c.val).stamp = some (p + s.dev.reedT c.val) ∧
        (t.dev.reed c.val).fills = (s.dev.reed c.val).fills + 1 ∧
        t.dev.rd (Obj.reedbedCounter c.val 2) = (s.dev.rd (Obj.reedbedCounter c.val 2) + 1) % 2 ^ 64 ∧
        t.dev.reedState c.val = (if s.dev.rd (Obj.gapLimit c.val) ≤ (s.dev.reed c.val).fills + 1 then 3 else 2) ∧ s.sameRest t)) ∧
    (∀ k : Fin 8, s.dev.up 180 → (s.dev.padsHeld 180 = true ∨ (8 ≤ s.dev.rd (Obj.spiTrigger k.val) ∧ ¬due k.val (s.dev.rd (Obj.frameRate k.val)))) →
      nextHas (exec (.spiFrameTrigger k) s) (fun t => t.dev = { s.dev with out := [] } ∧ s.sameRest t)) ∧
    (∀ c : Fin 64, s.dev.up 177 → s.dev.getF (Obj.sourceSpec c.val) 0 4 = 4 → ¬due (64 + c.val) (s.dev.rd (Obj.inputRate c.val)) →
      nextHas (exec (.internalSample c) s) (fun t => t.dev = { s.dev with out := [] } ∧ s.sameRest t))

/-! ### Confluence and Buoy (chapter 13) -/

/-- R394 to R403, R408, R409, R411, R414: a word that no slot takes is discarded and counted, and a word with Poison discarded; a brightness word that one slot takes adds 16 to its polarity's count of its panorama cell and
to nothing else, one of an ADRIFT stream or a late one is counted and dropped; a spike waits for its tick word, which splats it 16 × Mult; an ego record joins its instant, waits, or
is counted as late; a delivery that is ready is taken and counted, a detection list adding its detections, one outside the owner's regions skipped.
(Choices of the model's that it rests on: notes/assumptions 80.) -/
def Obligations.InputsJoinInstants : Prop :=
  ∀ (s : State), s.dev.up 178 →
    let low := s.dev.fusion.low
    let high := s.dev.fusion.high
    let plus (r : Reg) (n : Nat) (t : State) : Prop := t.dev.rd r = (s.dev.rd r + n) % 2 ^ 64
    let splatted (t : State) (n : Nat) (k : Int) (e pol amount : Nat) : Prop :=
      let key := panoKey (s.dev.fusion.setOf k) (field e 0 12) (field e 12 9)
      let lo := if pol = 1 then 0 else 16
      (∀ x, Tab.get 0 t.dev.fusion.grids x =
        if x = key then setField (Tab.get 0 s.dev.fusion.grids key) lo 16 (min (field (Tab.get 0 s.dev.fusion.grids key) lo 16 + amount) 0xFFFF)
        else Tab.get 0 s.dev.fusion.grids x) ∧ plus (Obj.sourceCounter n 0) 1 t ∧
      plus (Obj.confluenceCounter 3) (if 0xFFFF < field (Tab.get 0 s.dev.fusion.grids key) lo 16 + amount then 1 else 0) t
    (∀ w rest, takeFirst (fun t => match t.dest with | .fusion 1 _ => true | _ => false) s.dev.transit = some (w, rest) → w.poisoned = true →
      nextHas (exec .splatInput s) (fun t => t.dev.fusion = s.dev.fusion ∧ t.dev.transit = rest ∧ s.sameRest t)) ∧
    (∀ w rest, takeFirst (fun t => match t.dest with | .fusion 1 _ => true | _ => false) s.dev.transit = some (w, rest) → w.poisoned = false →
      ((s.dev.fusionRuns = false ∨ ∀ n : Fin 96, s.dev.slotTakes n.val w.word = false) → nextHas (exec .splatInput s) (fun t =>
        plus (Obj.confluenceCounter 7) 1 t ∧ t.dev.fusion = s.dev.fusion ∧ t.dev.transit = rest ∧
        s.dev.regsKept t.dev [(Obj.confluenceCounter 7).key] ∧ s.sameRest t)) ∧
      (∀ n : Fin 96, s.dev.fusionRuns = true → s.dev.slotTakes n.val w.word = true → (∀ m : Fin 96, m ≠ n → s.dev.slotTakes m.val w.word = false) → wKind w.word = 0 →
        let k := s.dev.instantOf (s.dev.ofT31 (wT w.word) + s.dev.rdI (Obj.sourceOffset n.val) * 1000)
        (s.dev.adrift (wStream w.word) = true → nextHas (exec .splatInput s) (fun t =>
          plus (Obj.sourceCounter n.val 3) 1 t ∧ t.dev.fusion = s.dev.fusion ∧ s.dev.regsKept t.dev [(Obj.sourceCounter n.val 3).key] ∧ s.sameRest t)) ∧
        (s.dev.adrift (wStream w.word) = false → s.dev.bit (Obj.sourceControl n.val) 1 = true → s.dev.bit (Obj.sourceStatus n.val) 3 = true →
          nextHas (exec .splatInput s) (fun t =>
            plus (Obj.sourceCounter n.val 4) 1 t ∧ t.dev.fusion = s.dev.fusion ∧ s.dev.regsKept t.dev [(Obj.sourceCounter n.val 4).key] ∧ s.sameRest t)) ∧
        (s.dev.adrift (wStream w.word) = false → s.dev.bit (Obj.sourceStatus n.val) 3 = false → k < low → s.dev.bit (Obj.sourceControl n.val) 0 = false →
          nextHas (exec .splatInput s) (fun t =>
            plus (Obj.sourceCounter n.val 1) 1 t ∧ t.dev.fusion.grids = s.dev.fusion.grids ∧ s.dev.regsKept t.dev [(Obj.sourceCounter n.val 1).key] ∧ s.sameRest t)) ∧
        (s.dev.adrift (wStream w.word) = false → s.dev.bit (Obj.sourceStatus n.val) 3 = false → low ≤ k → k ≤ high → s.dev.getF Obj.gridControl 0 3 = 1 →
          bitAt (s.calEntry (wStream w.word) (wX w.word) (wY w.word)) 29 = true → nextHas (exec .splatInput s) (fun t =>
            splatted t n.val k (s.calEntry (wStream w.word) (wX w.word) (wY w.word)) (wPol w.word) 16 ∧ s.sameRest t)))) ∧
    (∀ w rest h, takeFirst (fun t => match t.dest with | .fusion 2 _ => true | _ => false) s.dev.transit = some (w, rest) → w.poisoned = false → w.dest = .fusion 2 h →
      (tickWord? w = false →
        (s.dev.spikeSlots h = [] → nextHas (exec .spikeWord s) (fun t => plus (Obj.confluenceCounter 7) 1 t ∧ t.dev.fusion = s.dev.fusion ∧ s.sameRest t)) ∧
        (∀ n, s.dev.spikeSlots h = [n] → nextHas (exec .spikeWord s) (fun t =>
          t.dev.fusion = (if s.dev.fusion.spikes.length < 16384 then { s.dev.fusion with spikes := s.dev.fusion.spikes ++ [(n, w.route, w.word)] } else s.dev.fusion) ∧
          plus (Obj.confluenceCounter 6) (if s.dev.fusion.spikes.length < 16384 then 0 else 1) t ∧ t.dev.transit = rest ∧
          s.dev.regsKept t.dev [(Obj.confluenceCounter 6).key] ∧ s.sameRest t))) ∧
      (∀ n sw, tickWord? w = true → s.dev.spikeSlots h = [n] → s.dev.fusion.spikes.filter (fun x => x.1 == n && x.2.1 == w.route) = [(n, w.route, sw)] →
        let st := s.dev.rd (Obj.sourceStream n)
        let sh := 2 ^ s.dev.getF (Obj.sourceControl n) 6 3
        let k := s.dev.instantOf (s.dev.ofT31 (wT w.word) - 250 + s.dev.rdI (Obj.sourceOffset n) * 1000)
        nextHas (exec .tickWord s) (fun t =>
          t.dev.fusion.spikes = s.dev.fusion.spikes.filter (fun x => !(x.1 == n && x.2.1 == w.route)) ∧ t.dev.transit = rest ∧
          (s.dev.adrift st = true → plus (Obj.sourceCounter n 3) 1 t ∧ t.dev.fusion.grids = s.dev.fusion.grids) ∧
          (s.dev.adrift st = false → low ≤ k → k ≤ high → s.dev.getF Obj.gridControl 0 3 = 1 → field sw 18 2 ≠ 0 →
            bitAt (s.calEntry st (field sw 40 12 * sh) (field sw 28 12 * sh)) 29 = true →
            splatted t n k (s.calEntry st (field sw 40 12 * sh) (field sw 28 12 * sh)) 1 (16 * field sw 18 2)) ∧ s.sameRest t))) ∧
    (∀ r rest, s.dev.fines = r :: rest →
      (s.dev.fusionRuns = false → nextHas (exec .egoRecord s) (fun t => t.dev = { s.dev with fines := rest, out := [] } ∧ s.sameRest t)) ∧
      (∀ i : Fin 3, s.dev.fusionRuns = true → (∀ j : Fin 3, s.dev.getF Obj.egoChannels (8 * j.val) 8 = r.channel ↔ j = i) →
        let k := s.dev.instantOf (r.stamp + (s.dev.rd (Obj.fineLatency r.channel) : Nat))
        let v := fmul (fOfRat ((r.value : Rat) / 2 ^ 23)) (s.dev.rd (Obj.fullScale r.channel))
        nextHas (exec .egoRecord s) (fun t =>
          t.dev.fines = rest ∧
          (k < low → plus (Obj.confluenceCounter 4) 1 t ∧ t.dev.fusion = s.dev.fusion) ∧
          (low ≤ k → k ≤ high → t.dev.fusion.opened = s.dev.fusion.opened.map (fun x => if x.k = k then { x with ego := x.ego ++ [(i.val, v)] } else x)) ∧
          (low ≤ k → high < k → (s.dev.fusion.egoWait.filter (fun x => x.1 == i.val)).length < 256 → t.dev.fusion.egoWait = s.dev.fusion.egoWait ++ [(i.val, k, v)]) ∧
          (low ≤ k → high < k → 256 ≤ (s.dev.fusion.egoWait.filter (fun x => x.1 == i.val)).length →
            plus (Obj.confluenceCounter 5) 1 t ∧ t.dev.fusion = s.dev.fusion) ∧
          s.dev.regsKept t.dev [(Obj.confluenceCounter 4).key, (Obj.confluenceCounter 5).key] ∧ s.sameRest t))) ∧
    (∀ (n : Fin 96) (age : Nat),
      let t0 := s.dev.rd Obj.fusionOwner
      let a := s.dev.rd (Obj.deliveryAddress n.val)
      let got := s.gddrRead t0 a (s.deliveryBytes n.val)
      let e := bytesAt (got.map (·.1)) 16 48
      let k := s.dev.instantOf (s.dev.dt - (age : Nat) + s.dev.rdI (Obj.sourceOffset n.val) * 1000)
      (s.dev.deliveryReady n.val = false → nextHas (exec (.deliveryRead n age) s) (fun t => t.dev = { s.dev with out := [] } ∧ s.sameRest t)) ∧
      (s.dev.deliveryReady n.val = true → s.dev.inRegions t0 a 16 = false → nextHas (exec (.deliveryRead n age) s) (fun t =>
        Tab.get 0 t.dev.fusion.taken n.val = (Tab.get 0 s.dev.fusion.taken n.val + 1) % 2 ^ 32 ∧ plus (Obj.confluenceCounter 9) 1 t ∧ s.sameRest t)) ∧
      (s.dev.deliveryReady n.val = true → s.dev.inRegions t0 a 16 = true → s.dev.inRegions t0 a (s.deliveryBytes n.val) = true → got.any (·.2) = false →
        s.dev.rd (Obj.sourceKind n.val) = 4 → leAt (got.map (·.1)) 0 4 = 1 → detectBad e = false → (leAt e 32 8 &&& s.dev.adriftMask) = 0 → low ≤ k → k ≤ high →
        s.dev.fusion.detsFull k = false → 16384 ≤ s.dev.rd (Obj.releaseWeir n.val) → nextHas (exec (.deliveryRead n age) s) (fun t =>
          Tab.get 0 t.dev.fusion.taken n.val = (Tab.get 0 s.dev.fusion.taken n.val + 1) % 2 ^ 32 ∧ plus (Obj.sourceCounter n.val 6) 1 t ∧
          plus (Obj.sourceCounter n.val 0) 1 t ∧
          (t.dev.fusion.opened.map (·.dets)) = s.dev.fusion.opened.map (fun x => if x.k = k then x.dets ++ [detectOf e] else x.dets) ∧ s.sameRest t)))

/-- R402, R404, R405, R407, R412: the lowest open instant closes when device time reaches its end and its hold-off, and no sooner; the instant two above it opens with an event set that no
other holds; a fused stream without sync that no slot trusts, or whose offset exceeds W, becomes ADRIFT. A drain writes the set's panorama cells and the slot's trailer and leaves the set
zero; a conversion ends with the trailer of its slot.
(Choices of the model's that it rests on: notes/assumptions 81, 82.) -/
def Obligations.InstantsClose : Prop :=
  ∀ (s : State), s.dev.up 178 →
    (∀ x y rest, s.dev.fusionRuns = true → s.dev.fusion.opened = x :: y :: rest →
      let end_ := s.dev.rdT Obj.fusionOrigin + (x.k + 1) * (s.dev.rd Obj.fusionWindow * 1000 : Nat) + (x.hold * 1000 : Nat)
      (s.dev.dt < end_ → nextHas (exec .instantClose s) (fun t => t.dev = { s.dev with out := [] } ∧ s.sameRest t)) ∧
      (end_ ≤ s.dev.dt → rest = [] → nextHas (exec .instantClose s) (fun t =>
        (∃ z c, t.dev.fusion.opened = [y, z] ∧ z.k = x.k + 2 ∧ z.hold = s.dev.rd Obj.closeHoldoff ∧ z.set ≠ y.set ∧ z.set ≠ x.set ∧
          t.dev.fusion.drains = [c] ∧ c.k = x.k ∧ c.set = x.set ∧ c.late = x.late ∧ c.applied = x.applied ∧ c.contrib = x.contrib) ∧
        t.dev.rd (Obj.confluenceCounter 0) = (s.dev.rd (Obj.confluenceCounter 0) + 1) % 2 ^ 64 ∧ t.dev.rd Obj.instantNow = unsigned 64 y.k ∧
        (∀ n, s.dev.fusedStreams = [n] → s.dev.rd (Obj.fusionStreamState n) ≤ 1 →
          ((s.dev.noSync n = true ∧ s.dev.trusted n = false) ∨ (s.dev.rd Obj.fusionWindow * 1000 : Int) < (s.dev.offsetEst n).natAbs →
            t.dev.adrift n = true ∧ t.dev.rd (Obj.readmitProgress n) = 0 ∧
            t.dev.rd (Obj.adriftEntries n) = (s.dev.rd (Obj.adriftEntries n) + 1) % 2 ^ (Obj.adriftEntries n).bits) ∧
          ((s.dev.noSync n = false ∨ s.dev.trusted n = true) → ((s.dev.offsetEst n).natAbs : Int) ≤ (s.dev.rd Obj.fusionWindow * 1000 : Nat) →
            t.dev.rd (Obj.fusionStreamState n) = 1 ∧ t.dev.rd (Obj.adriftEntries n) = s.dev.rd (Obj.adriftEntries n))) ∧
        t.pending = s.pending))) ∧
    (∀ c rest r, s.dev.fusion.drains = c :: rest → Tab.wf 0 s.dev.fusion.grids = true →
      let own := s.dev.rd Obj.fusionOwner
      let a := s.dev.rd Obj.eventSlotBase + (c.k % (s.dev.rd Obj.fusedSlots : Nat)).toNat * 9441280
      (∀ x, a ≤ x → x < a + 9441280 → s.dev.regionAt own x = some r) → s.dev.regionMirror r = false → (∀ k < 8, s.dev.chanFailed k = false) →
      nextHas (exec (.instantDrainEnd []) s) (fun t =>
        t.dev.fusion.drains = rest ∧ (∀ k, Tab.get 0 t.dev.fusion.grids k = if k / 2 ^ 22 = c.set then 0 else Tab.get 0 s.dev.fusion.grids k) ∧
        t.gddrBytes own (a + 9437184) 8 = leBytes 8 (unsigned 64 c.k) ∧
        (bitAt c.flags 5 = true → ∀ i < 2 ^ 21, t.gddrBytes own (a + 4 * i) 4 = leBytes 4 (Tab.get 0 s.dev.fusion.grids (c.set * 2 ^ 22 + i))) ∧
        t.mem.pad = s.mem.pad ∧ t.pending = s.pending)) ∧
    (∀ c rest r, s.dev.fusion.jobs = c :: rest →
      let own := s.dev.rd Obj.fusionOwner
      let a := s.dev.rd Obj.featureSlotBase + (c.k % (s.dev.rd Obj.fusedSlots : Nat)).toNat * 19992576
      (∀ x, a ≤ x → x < a + 19992576 → s.dev.regionAt own x = some r) → s.dev.regionMirror r = false → (∀ k < 8, s.dev.chanFailed k = false) →
      nextHas (exec .featureConversionEnd s) (fun t =>
        t.dev.fusion.jobs = rest ∧ t.dev.bit Obj.fusionState 3 = (rest != []) ∧ t.gddrBytes own (a + 19988480) 8 = leBytes 8 (unsigned 64 c.k) ∧
        t.mem.pad = s.mem.pad ∧ t.pending = s.pending))

/-- R395, R415: a Start that nothing refuses opens the instant of device time and the next, with no track and NextTrackId 1; a refused one shows its LastError; a Stop closes every instant
and returns what fusion took. A table whose length or size does not match is refused and shows so; while fusion uses the stream a table is not taken.
(Choices of the model's that it rests on: notes/assumptions 82, 83.) -/
def Obligations.FusionCommands : Prop :=
  ∀ (s : State) (q : Requester),
    (s.dev.hears q Obj.fusionCommand 1 →
      (s.dev.fusionRuns = true → nextHas (exec (.fusionStart q) s) (fun t => t.dev.told q .ok ∧ t.dev.fusion = s.dev.fusion ∧ s.dev.regsKeptAnswered t.dev [] ∧ s.sameRest t)) ∧
      (s.dev.fusionRuns = false →
        (s.dev.fusionError ≠ 0 → nextHas (exec (.fusionStart q) s) (fun t =>
          t.dev.told q .state ∧ t.dev.getF Obj.fusionState 16 8 = s.dev.fusionError ∧ t.dev.fusion = s.dev.fusion ∧ t.dev.allocs = s.dev.allocs ∧
          s.dev.regsKeptAnswered t.dev [Obj.fusionState.key] ∧ s.sameRest t)) ∧
        (s.dev.rd Obj.fusionOwner = 0xFF → s.dev.fusionError = 1) ∧
        (s.dev.rd Obj.fusionOwner ≠ 0xFF → s.dev.fusionTake ≠ none → s.dev.bit Obj.gridControl 3 = true →
          s.dev.rd Obj.featureInstants * s.dev.rd Obj.fusionWindow < 2000 → s.dev.fusionError = 3) ∧
        (s.dev.fusionError = 0 → nextHas (exec (.fusionStart q) s) (fun t =>
          let k := (s.dev.dt - s.dev.rdT Obj.fusionOrigin) / (s.dev.rd Obj.fusionWindow * 1000 : Nat)
          t.dev.told q .ok ∧ t.dev.fusionRuns = true ∧ t.dev.fusion.opened.map (·.k) = [k, k + 1] ∧ t.dev.fusion.tracks = [] ∧ t.dev.fusion.spikes = [] ∧
          t.dev.rd Obj.nextTrackId = 1 ∧ t.dev.rd Obj.tracksActive = 0 ∧ t.dev.rd Obj.instantNow = unsigned 64 k ∧ t.dev.getF Obj.fusionState 16 8 = 0 ∧
          s.sameRest t)))) ∧
    (s.dev.hears q Obj.fusionCommand 2 →
      (s.dev.fusionRuns = false → nextHas (exec (.fusionStop q) s) (fun t => t.dev.told q .ok ∧ t.dev.fusion = s.dev.fusion ∧ s.dev.regsKeptAnswered t.dev [] ∧ s.sameRest t)) ∧
      (s.dev.fusionRuns = true → nextHas (exec (.fusionStop q) s) (fun t =>
        t.dev.told q .ok ∧ t.dev.fusionRuns = false ∧ t.dev.fusion.opened = [] ∧ t.dev.fusion.drains = [] ∧ t.dev.fusion.jobs = [] ∧ t.dev.fusion.tracks = [] ∧
        t.dev.rd (Obj.confluenceCounter 0) = (s.dev.rd (Obj.confluenceCounter 0) + s.dev.fusion.opened.length) % 2 ^ 64 ∧
        t.dev.rd Obj.tracksActive = 0 ∧ t.dev.rd Obj.eventSlotBase = 0 ∧ t.dev.rd Obj.featureSlotBase = 0 ∧ (∀ a ∈ t.dev.allocs, a.tag ≠ 192 ∧ a.tag ≠ 193 ∧ a.tag ≠ 194) ∧
        t.pending = s.pending))) ∧
    (∀ (n : Fin 36) (g : Seg), s.dev.reaches (segReq q (Obj.calibrationImage n.val) g) → Dev.sessionOk q 2 (0x7200 + n.val) = true →
      s.dev.hasRight q .ownerOrCustodian .fusion n.val = true → g.first = true → g.offset = 0 → g.data.length ≤ segLimit q → g.data.length ≤ 2 ^ 27 →
      s.dev.transferBusy q (Obj.calibrationImage n.val).key true = false →
      ((s.dev.fusionRuns && s.dev.fusedStreams.contains n.val) = true → nextHas (exec (.calibrationImageWrite q n g) s) (fun t =>
        t.dev.told q .state ∧ s.dev.regsKeptAnswered t.dev [] ∧ s.sameRest t)) ∧
      ((s.dev.fusionRuns && s.dev.fusedStreams.contains n.val) = false → g.last = false → nextHas (exec (.calibrationImageWrite q n g) s) (fun t =>
        t.dev.told q .ok ∧ (∃ x ∈ t.dev.transfers, x.q = q ∧ x.key = (Obj.calibrationImage n.val).key ∧ x.writing = true ∧ x.data = g.data) ∧
        s.dev.regsKeptAnswered t.dev [] ∧ s.sameRest t)) ∧
      ((s.dev.fusionRuns && s.dev.fusedStreams.contains n.val) = false → g.last = true →
        g.data.length ≠ 4096 + 8 * s.dev.rd (Obj.outputWidth n.val) * s.dev.rd (Obj.outputHeight n.val) → nextHas (exec (.calibrationImageWrite q n g) s) (fun t =>
          t.dev.told q .range ∧ t.dev.rd (Obj.calibrationState n.val) = 2 ∧ t.dev.rd (Obj.calibrationAddress n.val) = 0 ∧
          s.dev.regsKeptAnswered t.dev [(Obj.calibrationState n.val).key, (Obj.calibrationAddress n.val).key] ∧ s.sameRest t)))

/-! ### Hosts and Outfall (chapter 14) -/

/-- R431, R433, R437, R439, R442, R476: a link that trains is LINKED; one that goes takes its host's session, requests and mailboxes with it; a Detach makes a BOUND port DETACHING, which
ends when its writes are done or after 50 ms; a session three heartbeats behind is detached and counted; a tenant with no host for 2 s owns nothing any more. Where no load of a
plan is under way, whose memory would be zero-filled (R365), the memories stay as they were.
(Choices of the model's that it rests on: notes/assumptions 88, 95.) -/
def Obligations.HostsComeAndGo : Prop :=
  ∀ (s : State) (h : Fin 4),
    let st := Obj.attachState h.val
    let quiet : Prop := ∀ a ∈ s.dev.allocs, a.tag < 16 → 2 ≤ s.dev.rd (Obj.planState a.tag)
    let rests (t : State) : Prop := t.mem.pad = s.mem.pad ∧ t.pending = s.pending ∧ (quiet → s.sameRest t)
    (∀ speed : Fin 5, s.dev.up (173 + h.val / 2) →
      (s.dev.portState h.val = 0 → s.dev.bit st 3 = true → s.dev.bootWait = false → (s.dev.bit Obj.securityState 2 = false ∨ h.val = 0) →
        nextHas (exec (.linkUp h speed) s) (fun t => t.dev.portState h.val = 1 ∧ t.dev.getF st 5 3 = speed.val + 1 ∧ s.dev.regsKept t.dev [st.key] ∧ s.sameRest t)) ∧
      (s.dev.portState h.val ≠ 0 → nextHas (exec (.linkUp h speed) s) (fun t => t.dev = { s.dev with out := [] } ∧ s.sameRest t))) ∧
    (∀ queued, s.dev.up 179 →
      (s.dev.portState h.val = 0 → nextHas (exec (.linkDown h queued) s) (fun t => t.dev = { s.dev with out := [] } ∧ s.sameRest t)) ∧
      (s.dev.portState h.val ≠ 0 → nextHas (exec (.linkDown h queued) s) (fun t =>
        t.dev.portState h.val = 0 ∧ t.dev.getF st 5 3 = 0 ∧ t.dev.session h.val = {} ∧ (∀ m : Fin 4, Tab.get {} t.dev.mailboxes (h.val * 4 + m.val) = {}) ∧
        (∀ x ∈ t.dev.held, ∀ m, x.req.q ≠ .mailbox h m) ∧
        t.dev.rd (Obj.surpriseWrites h.val) = (s.dev.rd (Obj.surpriseWrites h.val) + queued) % 2 ^ 64 ∧
        (∀ f : Fin 40, s.ferryUses f.val h.val = true → (t.dev.ferry f.val).cur = none ∧ t.dev.getF (Obj.ferryState f.val) 9 4 = 4) ∧
        (∀ x : Fin 8, s.dev.getF st 8 4 = x.val → s.dev.rd (Obj.tenantHosts x.val) = 2 ^ s.dev.getF st 12 1 → s.dev.rd (Obj.tenantState x.val) = 1 →
          t.dev.rd (Obj.tenantHosts x.val) = 0 ∧ t.dev.rd (Obj.tenantState x.val) = 2) ∧ rests t))) ∧
    (∀ q, s.dev.hears q (Obj.attachCommand h.val) 1 →
      (s.dev.portState h.val ≠ 2 → nextHas (exec (.detach q h) s) (fun t => t.dev.told q .state ∧ s.dev.regsKeptAnswered t.dev [] ∧ s.sameRest t)) ∧
      (s.dev.portState h.val = 2 → nextHas (exec (.detach q h) s) (fun t =>
        t.dev.told q .ok ∧ t.dev.portState h.val = 3 ∧ Tab.get 0 t.dev.detachF h.val = s.dev.rf ∧
        (∀ n : Fin 64, s.dev.getF st 8 4 < 8 → s.dev.rd (Obj.channelOwner n.val) = s.dev.getF st 8 4 → s.dev.chanState n.val = 1 → t.dev.chanPath n.val = none →
          t.dev.chanState n.val = 2) ∧ s.sameRest t))) ∧
    (∀ written, s.dev.working = true →
      (s.dev.portState h.val = 3 → (written = true ∨ Tab.get 0 s.dev.detachF h.val + 50000000 ≤ s.dev.rf) → nextHas (exec (.detachComplete h written) s) (fun t =>
        t.dev.portState h.val = 1 ∧ t.dev.session h.val = {} ∧ t.dev.getF st 8 4 = 15 ∧
        (∀ x : Fin 8, s.dev.getF st 8 4 = x.val → s.dev.rd (Obj.tenantHosts x.val) = 2 ^ s.dev.getF st 12 1 → s.dev.rd (Obj.tenantState x.val) = 1 →
          t.dev.rd (Obj.tenantHosts x.val) = 0 ∧ t.dev.rd (Obj.tenantState x.val) = 2 ∧ Tab.get 0 t.dev.tenantHoldF x.val = s.dev.rf) ∧ rests t)) ∧
      (quiet → s.dev.portState h.val = 3 → written = false → s.dev.rf < Tab.get 0 s.dev.detachF h.val + 50000000 → nextHas (exec (.detachComplete h written) s) (fun t =>
        t.dev = { s.dev with out := [] } ∧ s.sameRest t))) ∧
    (∀ k : Fin 2, s.dev.working = true → s.dev.getF (Obj.sessionState k.val) 8 2 = 2 →
      ((s.dev.session (4 + k.val)).lastBeatF + 3 * s.dev.rd Obj.heartbeatPeriod * 1000000 ≤ s.dev.rf → nextHas (exec (.heartbeatMiss k) s) (fun t =>
        t.dev.rd (Obj.sessionState k.val) = 0xFF ∧ t.dev.session (4 + k.val) = {} ∧
        t.dev.rd Obj.missedHeartbeatDetaches = (s.dev.rd Obj.missedHeartbeatDetaches + 1) % 2 ^ 32 ∧ rests t)) ∧
      (quiet → s.dev.rf < (s.dev.session (4 + k.val)).lastBeatF + 3 * s.dev.rd Obj.heartbeatPeriod * 1000000 → nextHas (exec (.heartbeatMiss k) s) (fun t =>
        t.dev = { s.dev with out := [] } ∧ s.sameRest t))) ∧
    (∀ x : Fin 8, s.dev.working = true → s.dev.rd (Obj.tenantState x.val) = 2 →
      (Tab.get 0 s.dev.tenantHoldF x.val + 2000000000 ≤ s.dev.rf → nextHas (exec (.tenantHoldExpiry x) s) (fun t =>
        t.dev.rd (Obj.tenantState x.val) = 0 ∧ t.dev.blob (Obj.tenantRegister x.val) = zeros 32 ∧ Tab.get [] t.dev.dataKeys x.val = [] ∧
        (∀ p : Fin 16, s.dev.rd (Obj.planOwner p.val) = x.val → t.dev.rd (Obj.planState p.val) = 0) ∧ (∀ n : Fin 36, t.dev.rd (Obj.streamTenant n.val) ≠ x.val) ∧
        t.dev.rd Obj.fusionOwner ≠ x.val ∧ (∀ b : Fin 128, t.dev.rd (Obj.weirBlockOwner b.val) ≠ x.val) ∧ (∀ n : Fin 64, t.dev.rd (Obj.channelOwner n.val) ≠ x.val) ∧
        (∀ c : Fin 128, t.dev.rd (Obj.clusterOwner c.val) ≠ x.val) ∧ (∀ r : Fin 32, t.dev.rd (Obj.regionOwner r.val) ≠ x.val) ∧
        (∀ (c : Fin 128) (i : Nat), s.dev.rd (Obj.clusterOwner c.val) = x.val → i < 2 ^ 20 → Memory.byte t.mem.pad (padKey c.val i) = 0) ∧ t.pending = s.pending)) ∧
      (s.dev.rf < Tab.get 0 s.dev.tenantHoldF x.val + 2000000000 → nextHas (exec (.tenantHoldExpiry x) s) (fun t => t.dev = { s.dev with out := [] } ∧ s.sameRest t))) ∧
    (∀ k : Fin 2, s.dev.up 180 → nextHas (exec (.canBusOffRecovery k) s) (fun t =>
      t.dev.rd (Obj.canBusOff k.val) = (s.dev.rd (Obj.canBusOff k.val) + 1) % 2 ^ 32 ∧ s.dev.regsKept t.dev [(Obj.canBusOff k.val).key] ∧ s.sameRest t))

/-- R435 to R437, R480, R482: an Ethernet port announces the device, 1 s ± 10 ms after its last announcement, and sends its LLDP frame, 30 s after its last, and neither before; the last neighbour heard is kept, a frame with a bad FCS counted; a heartbeat with a new
Sequence and a good tag is answered with the device time, one with a bad tag, or with Sequence 0, is counted and no more. (A lease is what DHCPv4 gave the port.)
(Choices of the model's that it rests on: notes/assumptions 45, 93, 96, 133.) -/
def Obligations.EthernetPortsSpeak : Prop :=
  ∀ (s : State) (port : Fin 2) (lease : BitVec 32),
    let due (k ns : Nat) : Prop := Tab.get 0 s.dev.lastTick k = 0 ∨ Tab.get 0 s.dev.lastTick k + ns ≤ s.dev.rf + 1
    (s.dev.up (175 + port.val) →
      (s.dev.dieOut (4 + port.val) = false → due (128 + port.val) 990000000 → nextHas (exec (.announcement port lease) s) (fun t =>
        let ip := if s.dev.rd (Obj.ipv4Address port.val) = 0 then lease.toNat else s.dev.rd (Obj.ipv4Address port.val)
        let bs := leBytes 2 0x0100 ++ leBytes 2 (b2n (s.dev.bit Obj.securityState 11) + 2 * b2n (s.dev.slotsFree == 0)) ++
          (sha3 (s.dev.blob Obj.identityPublicKey)).take 16 ++ bytesAt (ascii "EF36-M8N2") 0 16 ++ [0xB0, BitVec.ofNat 8 port.val] ++ leBytes 2 40960 ++
          leBytes 2 0x0102 ++ leBytes 2 0x0100 ++ leBytes 1 s.dev.slotsFree ++ zeros 3 ++ leBytes 10 (t80 s.dev.dt) ++ zeros 6
        t.dev.out = (if ip = 0 then [] else [.udp port.val 0xFFFFFFFF 40961 bs]) ++ [.udp port.val (0xFF02 * 2 ^ 112 + 1) 40961 bs] ∧
        Tab.get 0 t.dev.lastTick (128 + port.val) = s.dev.rf + 1 ∧ s.dev.regsKept t.dev [] ∧ s.sameRest t)) ∧
      (s.dev.dieOut (4 + port.val) = false → due (130 + port.val) 30000000000 → nextHas (exec (.lldpTransmit port lease) s) (fun t =>
        (∃ rest, t.dev.out = [.frame port.val ([0x01, 0x80, 0xC2, 0, 0, 0x0E] ++ macOf port.val ++ [0x88, 0xCC] ++ lldpTlv 1 (4 :: macOf port.val) ++ rest)]) ∧
        Tab.get 0 t.dev.lastTick (130 + port.val) = s.dev.rf + 1 ∧ s.dev.regsKept t.dev [] ∧ s.sameRest t)) ∧
      (¬due (128 + port.val) 990000000 → nextHas (exec (.announcement port lease) s) (fun t => t.dev = { s.dev with out := [] } ∧ s.sameRest t)) ∧
      (¬due (130 + port.val) 30000000000 → nextHas (exec (.lldpTransmit port lease) s) (fun t => t.dev = { s.dev with out := [] } ∧ s.sameRest t)) ∧
      (∀ data, nextHas (exec (.lldpReceive port data true) s) (fun t => Tab.get [] t.dev.lldpNeighbour port.val = data ∧ s.dev.regsKept t.dev [] ∧ s.sameRest t) ∧
        nextHas (exec (.lldpReceive port data false) s) (fun t =>
          t.dev.rd (Obj.fcsErrors port.val) = (s.dev.rd (Obj.fcsErrors port.val) + 1) % 2 ^ 64 ∧ t.dev.lldpNeighbour = s.dev.lldpNeighbour ∧
          s.dev.regsKept t.dev [(Obj.fcsErrors port.val).key] ∧ s.sameRest t))) ∧
    (∀ (k : Fin 2) (e : Envelope), s.dev.working = true → s.dev.getF (Obj.sessionState k.val) 8 2 = 2 →
      (e.tagOk = false → nextHas (exec (.heartbeat k e) s) (fun t =>
        t.dev.rd (Obj.transportCounter 3) = (s.dev.rd (Obj.transportCounter 3) + 1) % 2 ^ (Obj.transportCounter 3).bits ∧ t.dev.out = [] ∧ t.dev.sess = s.dev.sess ∧
        s.dev.regsKept t.dev [(Obj.transportCounter 3).key] ∧ s.sameRest t)) ∧
      (e.tagOk = true → e.seq = 0 → nextHas (exec (.heartbeat k e) s) (fun t =>
        t.dev.rd (Obj.transportCounter 5) = (s.dev.rd (Obj.transportCounter 5) + 1) % 2 ^ (Obj.transportCounter 5).bits ∧ t.dev.out = [] ∧ t.dev.sess = s.dev.sess ∧
        s.dev.regsKept t.dev [(Obj.transportCounter 5).key] ∧ s.sameRest t)) ∧
      (e.tagOk = true → e.seq ≠ 0 → 1 ≤ stampDiff 32 e.seq.toNat (s.dev.session (4 + k.val)).highSeq → stampDiff 32 e.seq.toNat (s.dev.session (4 + k.val)).highSeq ≤ 8 →
        nextHas (exec (.heartbeat k e) s) (fun t =>
          (t.dev.session (4 + k.val)).lastBeatF = s.dev.rf ∧ (t.dev.session (4 + k.val)).highSeq = e.seq.toNat ∧
          (let x := s.dev.session (4 + k.val)
           let body := omtosHeader x.omtosVersion 4 4 x.sessionId e.seq.toNat 0 0 0 0 10 0 ++ leBytes 10 (t80 s.dev.dt)
           t.dev.out = [.udp x.ethPort x.hostIp x.hostUdp (body ++ kmac256 x.requestKey body "OMTOS" 16)]) ∧
          s.dev.regsKept t.dev [] ∧ s.sameRest t)))

/-- R444, R449, R454, R455: Enable starts a bound channel with a good ring from index 0, and is refused with STATE where the channel runs or its ring, owner or path is not good; Disable
stops it; the consumer index is read when a read is due; a value that lies between the last accepted and ProducerIndex is taken, any other is counted and shown as bad; a read that fails
leaves the index.
(Choices of the model's that it rests on: notes/assumptions 94.) -/
def Obligations.OutfallChannelsRun : Prop :=
  ∀ (s : State) (n : Fin 64),
    let st := Obj.outfallStatus n.val
    let taken (t : State) (v : Nat) : Prop :=
      if (s.dev.chan n.val).consumer ≤ v ∧ v ≤ s.dev.rd (Obj.producerIndex n.val) then
        (t.dev.chan n.val).consumer = v ∧ t.dev.rd (Obj.consumerIndexSeen n.val) = v ∧ t.dev.bit st 4 = false ∧
        t.dev.rd (Obj.outfallCounter n.val 5) = s.dev.rd (Obj.outfallCounter n.val 5)
      else (t.dev.chan n.val).consumer = (s.dev.chan n.val).consumer ∧ t.dev.rd (Obj.consumerIndexSeen n.val) = s.dev.rd (Obj.consumerIndexSeen n.val) ∧
        t.dev.bit st 4 = true ∧ t.dev.rd (Obj.outfallCounter n.val 5) = (s.dev.rd (Obj.outfallCounter n.val 5) + 1) % 2 ^ 64
    let index := [st.key, (Obj.consumerIndexSeen n.val).key, (Obj.outfallCounter n.val 5).key]
    (∀ q, s.dev.hears q (Obj.outfallCommand n.val) 1 →
      let good : Prop := s.dev.rd (Obj.ringBase n.val) % 4096 = 0 ∧ s.dev.rd (Obj.consumerAddress n.val) % 8 = 0 ∧ ∃ k ∈ List.range 31, 12 ≤ k ∧ s.dev.rd (Obj.ringBytes n.val) = 2 ^ k
      (s.dev.chanState n.val ≠ 0 → nextHas (exec (.enable q n) s) (fun t =>
        t.dev.told q .state ∧ t.dev.getF st 24 8 = 4 ∧ t.dev.chans = s.dev.chans ∧ s.dev.regsKeptAnswered t.dev [st.key] ∧ s.sameRest t)) ∧
      (s.dev.chanState n.val = 0 → ¬(good ∧ s.dev.rd (Obj.channelOwner n.val) < 8 ∧ s.dev.chanPath n.val ≠ none) → nextHas (exec (.enable q n) s) (fun t =>
        t.dev.told q .state ∧ t.dev.chanState n.val = 0 ∧ t.dev.chans = s.dev.chans ∧ s.dev.regsKeptAnswered t.dev [st.key] ∧ s.sameRest t)) ∧
      (s.dev.chanState n.val = 0 → good → s.dev.rd (Obj.channelOwner n.val) < 8 → s.dev.chanPath n.val ≠ none → nextHas (exec (.enable q n) s) (fun t =>
        t.dev.told q .ok ∧ t.dev.chanState n.val = 1 ∧ t.dev.getF st 24 8 = 0 ∧ t.dev.rd (Obj.producerIndex n.val) = 0 ∧ t.dev.rd (Obj.consumerIndexSeen n.val) = 0 ∧
        (t.dev.chan n.val).nextSeq = 0 ∧ (t.dev.chan n.val).consumer = 0 ∧ (t.dev.chan n.val).queue = [] ∧
        s.dev.regsKeptAnswered t.dev [st.key, (Obj.producerIndex n.val).key, (Obj.consumerIndexSeen n.val).key] ∧ s.sameRest t))) ∧
    (∀ q, s.dev.hears q (Obj.outfallCommand n.val) 2 → nextHas (exec (.disable q n) s) (fun t =>
      t.dev.told q .ok ∧ t.dev.chanState n.val = 0 ∧ (s.dev.chanState n.val ≠ 0 → (t.dev.chan n.val).queue = [] ∧ (t.dev.chan n.val).ready = [] ∧ (t.dev.chan n.val).batches = []) ∧
      s.dev.regsKeptAnswered t.dev [st.key, (Obj.outfallCounter n.val 3).key, (Obj.outfallCounter n.val 7).key] ∧ s.sameRest t)) ∧
    (∀ p, s.dev.up 180 → s.dev.rd (Obj.dieHealth 5) = 0 → s.dev.chanPath n.val = some p → p < 4 → s.dev.chanState n.val = 1 → (s.dev.chan n.val).reading = false →
      (let c := s.dev.chan n.val
       let now := s.dev.rf
       let due : Prop := s.dev.rd (Obj.pollInterval n.val) * 1000 ≤ now - c.lastPollF ∨ (c.wantRead = true ∧ 2000 ≤ now - c.lastReadF) ∨
         (s.dev.bit st 2 = true ∧ 10000 ≤ now - max c.lastReadF c.stallF)
       (due → nextHas (exec (.consumerIndexPoll n) s) (fun t =>
         t.dev.out = [.hostRead p (s.dev.rd (Obj.consumerAddress n.val)) 8] ∧ (t.dev.chan n.val).reading = true ∧ (t.dev.chan n.val).lastReadF = now ∧
         t.dev.rd (Obj.outfallCounter n.val 4) = (s.dev.rd (Obj.outfallCounter n.val 4) + 1) % 2 ^ 64 ∧
         s.dev.regsKept t.dev [(Obj.outfallCounter n.val 4).key] ∧ s.sameRest t)) ∧
       (¬due → nextHas (exec (.consumerIndexPoll n) s) (fun t => t.dev = { s.dev with out := [] } ∧ s.sameRest t)))) ∧
    (s.dev.up 180 → (s.dev.chan n.val).reading = true →
      (∀ v : BitVec 64, nextHas (exec (.consumerIndexReturn n (some v)) s) (fun t =>
        taken t v.toNat ∧ (t.dev.chan n.val).reading = false ∧ s.dev.regsKept t.dev index ∧ s.sameRest t)) ∧
      nextHas (exec (.consumerIndexReturn n none) s) (fun t =>
        t.dev.chan n.val = { s.dev.chan n.val with reading := false } ∧ s.dev.regsKept t.dev [] ∧ s.sameRest t) ∧
      nextHas (exec (.completionTimeout (.consumer n)) s) (fun t =>
        t.dev.chan n.val = { s.dev.chan n.val with reading := false } ∧ s.dev.regsKept t.dev [] ∧ s.sameRest t)) ∧
    (∀ q (v : BitVec 64), s.dev.hears q (Obj.ethConsumerIndex n.val) v.toNat → nextHas (exec (.ethConsumerIndexWrite q n v) s) (fun t =>
      t.dev.told q .ok ∧ t.dev.rd (Obj.ethConsumerIndex n.val) = v.toNat ∧ (s.dev.chanState n.val ≠ 0 → taken t v.toNat) ∧
      s.dev.regsKeptAnswered t.dev ((Obj.ethConsumerIndex n.val).key :: index) ∧ s.sameRest t))

/-- R445, R446, R448, R451, R452, R564: the oldest payload becomes a record with the next Sequence and is queued, or dropped and counted where it carries Poison, is longer than half the ring or its queue lacks
room; the head record is written, its first 16 bytes last, where the ring has room for it and the PAD before it, and otherwise stalls its channel; a batch closes when BatchTime has passed.
(Choices of the model's that it rests on: notes/assumptions 41, 94.) -/
def Obligations.RecordsAreDelivered : Prop :=
  ∀ (s : State) (n : Fin 64), s.dev.up 180 → s.dev.rd (Obj.dieHealth 5) = 0 →
    let st := Obj.outfallStatus n.val
    (∀ r rs, (s.dev.chan n.val).ready = r :: rs → r.poisoned = true → nextHas (exec (.recordForm n) s) (fun t =>
      (t.dev.chan n.val).queue = (s.dev.chan n.val).queue ∧ (t.dev.chan n.val).nextSeq = ((s.dev.chan n.val).nextSeq + 1) % 2 ^ 64 ∧
      t.dev.rd (Obj.outfallCounter n.val 2) = (s.dev.rd (Obj.outfallCounter n.val 2) + 1) % 2 ^ 64 ∧ s.sameRest t)) ∧
    (∀ r rs, (s.dev.chan n.val).ready = r :: rs → r.poisoned = false →
      let len := (64 + (r.payload.length + 15) / 16 * 16 + 16 + 63) / 64 * 64
      (r.type = 4 → s.dev.getF st 16 8 = 0 → nextHas (exec (.recordForm n) s) (fun t =>
        (t.dev.chan n.val).ready = rs ∧ (t.dev.chan n.val).nextSeq = ((s.dev.chan n.val).nextSeq + 1) % 2 ^ 64 ∧ (t.dev.chan n.val).queue = (s.dev.chan n.val).queue ∧
        t.dev.rd (Obj.outfallCounter n.val 6) = (s.dev.rd (Obj.outfallCounter n.val 6) + 1) % 2 ^ 64 ∧
        s.dev.regsKept t.dev [(Obj.outfallCounter n.val 6).key] ∧ s.sameRest t)) ∧
      ((r.type ≠ 4 ∨ 1 ≤ s.dev.getF st 16 8) → nextHas (exec (.recordForm n) s) (fun t =>
        (t.dev.chan n.val).ready = rs ∧ (t.dev.chan n.val).nextSeq = ((s.dev.chan n.val).nextSeq + 1) % 2 ^ 64 ∧
        (if s.dev.rd (Obj.ringBytes n.val) / 2 < len ∨ 262144 < (s.dev.chan n.val).queueBytes + len then
          (t.dev.chan n.val).queue = (s.dev.chan n.val).queue ∧ t.dev.rd (Obj.outfallCounter n.val 2) = (s.dev.rd (Obj.outfallCounter n.val 2) + 1) % 2 ^ 64
        else (t.dev.chan n.val).queue = (s.dev.chan n.val).queue ++ [⟨r.type, (s.dev.chan n.val).nextSeq, r.payload, s.dev.dt, len, s.dev.mintKey n.val⟩] ∧
          t.dev.rd (Obj.outfallCounter n.val 2) = s.dev.rd (Obj.outfallCounter n.val 2)) ∧
        s.dev.regsKept t.dev [(Obj.outfallCounter n.val 2).key] ∧ s.sameRest t))) ∧
    (∀ r rs p, (s.dev.chan n.val).queue = r :: rs → s.dev.chanPath n.val = some p → (s.dev.pathDie p = 4 → s.dev.dieOut 4 = false) → s.dev.chanState n.val = 1 → 64 ≤ r.length →
      let ring := s.dev.rd (Obj.ringBytes n.val)
      let at_ := s.dev.rd (Obj.producerIndex n.val)
      let pad := if ring < at_ % ring + r.length then ring - at_ % ring else 0
      let free := ring - (at_ - (s.dev.chan n.val).consumer)
      (free < pad + r.length → nextHas (exec (.recordDeliver n) s) (fun t =>
        t.dev.bit st 2 = true ∧ t.dev.out = [] ∧ (t.dev.chan n.val).queue = r :: rs ∧ s.dev.regsKept t.dev [st.key] ∧ s.sameRest t)) ∧
      (pad + r.length ≤ free → nextHas (exec (.recordDeliver n) s) (fun t =>
        (t.dev.chan n.val).queue = rs ∧ (t.dev.chan n.val).expectSeq = (r.seq + 1) % 2 ^ 64 ∧ t.dev.bit st 2 = false ∧
        t.dev.rd (Obj.producerIndex n.val) = (at_ + pad + r.length) % 2 ^ 64 ∧
        t.dev.rd (Obj.outfallCounter n.val 0) = (s.dev.rd (Obj.outfallCounter n.val 0) + 1) % 2 ^ 64 ∧
        t.dev.rd (Obj.outfallCounter n.val 1) = (s.dev.rd (Obj.outfallCounter n.val 1) + r.length) % 2 ^ 64 ∧
        (p < 4 → pad = 0 → ∃ bs rest,
          t.dev.out = .hostWrite p (s.dev.rd (Obj.ringBase n.val) + at_ % ring + 16) (bs.drop 16) false ::
            .hostWrite p (s.dev.rd (Obj.ringBase n.val) + at_ % ring) (bs.take 16) false :: rest ∧
          bs.length = r.length ∧ leAt bs 0 4 = 0x4C46544F ∧ leAt bs 6 1 = r.type % 256 ∧ leAt bs 8 8 = r.seq % 2 ^ 64 ∧
          (2 ≤ s.dev.getF st 16 8 → r.key.first = (s.dev.session p).firstKey → leAt bs 48 4 = r.key.epoch % 2 ^ 32)) ∧ s.sameRest t))) ∧
    (∀ b, (s.dev.chan n.val).batches = [b] → s.dev.chanState n.val ≠ 0 →
      (s.dev.rd (Obj.batchTime n.val) * 1000 ≤ s.dev.rf - b.firstF → nextHas (exec (.batchTimeExpiry n) s) (fun t =>
        (t.dev.chan n.val).batches = [] ∧ (t.dev.chan n.val).ready = (s.dev.chan n.val).ready ++ [⟨b.type, (b.words.map (leBytes 8)).flatten, b.poisoned⟩] ∧
        s.dev.regsKept t.dev [] ∧ s.sameRest t)) ∧
      (s.dev.rf - b.firstF < s.dev.rd (Obj.batchTime n.val) * 1000 → nextHas (exec (.batchTimeExpiry n) s) (fun t =>
        t.dev = { s.dev with out := [] } ∧ s.sameRest t)))

/-! ### The object dictionary (chapter 15) -/

/-- R466 to R469, R474 to R476: a read answers with the status of the first check that fails, or with the object's value, a DOMAIN with a segment of a snapshot; READ_RECORD gives every
subindex with its length; DESCRIBE gives 32 bytes; an ABORT and an idle second abandon the requester's transfer. A PCIe memory read of a port's windows gives their bytes in one completion and changes nothing
(R347, R477, R478); of a weir whose die's domain is off, without the wake right, zeros (R535). A CAN FD controller is told the abort code of R468 in place of a status (R484). (CapPop, whose read pops, is stated with the captures. The memories stay as they were where no load of a plan is under way, R365.)
(Choices of the model's that it rests on: notes/assumptions 90, 91, 93, 134.) -/
def Obligations.ObjectsAreRead : Prop :=
  ∀ (s : State) (q : Requester) (e : Envelope) (idx : BitVec 16) (sub : BitVec 8), s.dev.admits q e →
    let key := idx.toNat * 256 + sub.toNat
    let awake (op : Nat) : Prop := ∀ n ∈ s.dev.needs { q := q, op := op, idx := idx.toNat, sub := sub.toNat }, s.dev.domOn n = true
    let gave (t : State) (data : List Byte) : Prop := .response q 0 data ∈ t.dev.out
    let same (t : State) : Prop := s.dev.regsKeptAnswered t.dev [] ∧ s.sameRest t
    let quiet : Prop := ∀ a ∈ s.dev.allocs, a.tag < 16 → 2 ≤ s.dev.rd (Obj.planState a.tag)
    let rests (t : State) : Prop := t.mem.pad = s.mem.pad ∧ t.pending = s.pending ∧ (quiet → s.sameRest t)
    (∀ (p m : Fin 4) (b : Bool × BitVec 20) (offset : Nat) (first last : Bool) (room : Nat), q = .mailbox p m → e.bar = some b → s.dev.portState p.val ≠ 0 →
      (b.1 = false → nextHas (exec (.readObj q e idx sub offset first last room) s) (fun t =>
        t.dev.out = [.completion p.val ((upFrom b.2.toNat (room % 4097)).map (s.dev.windowByte p.val))] ∧ s.dev.regsKept t.dev [] ∧ s.sameRest t)) ∧
      (b.1 = true → s.dev.domOn (132 + b.2.toNat / 64 / 4096 % 4) = true →
        nextHas (exec (.readObj q e idx sub offset first last room) s) (fun t =>
          (∃ bs, t.dev.out = [.completion p.val bs] ∧ bs.length = room % 4097 ∧
            (b.2.toNat % 64 = 0 → ∀ i, i < 16 → i < bs.length → bs.getD i 0 = (s.dev.weirRecord (b.2.toNat / 64)).getD i 0)) ∧
          s.dev.regsKept t.dev [] ∧ s.sameRest t))) ∧
    (∀ offset first last room, e.bar = none →
      (s.dev.judgeRead q 1 idx.toNat sub.toNat ≠ .ok → nextHas (exec (.readObj q e idx sub offset first last room) s) (fun t =>
        t.dev.told q (s.dev.judgeRead q 1 idx.toNat sub.toNat) ∧ same t)) ∧
      (∀ row, s.dev.judgeRead q 1 idx.toNat sub.toNat = .ok → objRow? idx.toNat sub.toNat = some row → awake 1 →
        ((∀ m, row.ty ≠ .domain m) → ¬(0x3420 ≤ idx.toNat ∧ idx.toNat < 0x3428 ∧ sub.toNat = 2) → ¬(idx.toNat = 0x9031 ∧ s.dev.bit Obj.securityState 3 = true) →
          (∀ p m, q = .mailbox p m → (s.dev.liveObject q idx.toNat sub.toNat).length ≤ room % 2 ^ 32) →
          nextHas (exec (.readObj q e idx sub offset first last room) s) (fun t => gave t (s.dev.liveObject q idx.toNat sub.toNat) ∧ same t)) ∧
        (∀ m, row.ty = .domain m → first = true → offset = 0 → s.dev.transferBusy q key false = false →
          let v := s.domainValue q idx.toNat sub.toNat
          let part := v.take (roomOf q (room % 2 ^ 32))
          nextHas (exec (.readObj q e idx sub offset first last room) s) (fun t =>
            gave t part ∧ ((last = true ∨ v.length ≤ part.length) → ∀ x ∈ t.dev.transfers, x.q ≠ q) ∧
            (last = false → part.length < v.length → ∃ x ∈ t.dev.transfers, x.q = q ∧ x.key = key ∧ x.writing = false ∧ x.data = v ∧ x.next = part.length) ∧ same t)))) ∧
    (∀ room, (∀ c, q ≠ .can c) → Dev.sessionOk q 4 idx.toNat = true →
      (indexKind idx.toNat = none → nextHas (exec (.readRecord q e idx sub room) s) (fun t => t.dev.told q .absent ∧ same t)) ∧
      (∀ n, indexKind idx.toNat = some (0, n) → nextHas (exec (.readRecord q e idx sub room) s) (fun t => t.dev.told q .type ∧ same t)) ∧
      (∀ k n, indexKind idx.toNat = some (k + 1, n) → awake 4 → ¬(0x3420 ≤ idx.toNat ∧ idx.toNat < 0x3428) →
        let v := ((List.range n).map (fun i => (s.dev.recordPart q idx.toNat (i + 1)).2)).flatten
        nextHas (exec (.readRecord q e idx sub room) s) (fun t => (if roomOf q (room % 2 ^ 32) < v.length then t.dev.told q .type else gave t v) ∧ same t))) ∧
    (∀ room, (∀ c, q ≠ .can c) → Dev.sessionOk q 5 idx.toNat = true →
      (describeObject idx.toNat sub.toNat = none → nextHas (exec (.describe q e idx sub room) s) (fun t => t.dev.told q .absent ∧ same t)) ∧
      (∀ bs, describeObject idx.toNat sub.toNat = some bs →
        (s.dev.versionOk q 5 = false → nextHas (exec (.describe q e idx sub room) s) (fun t => t.dev.told q .version ∧ same t)) ∧
        (s.dev.versionOk q 5 = true → nextHas (exec (.describe q e idx sub room) s) (fun t => gave t bs ∧ bs.length = 32 ∧ same t)))) ∧
    ((∀ c, q ≠ .can c) → Dev.sessionOk q 6 idx.toNat = true → (objRow? idx.toNat sub.toNat).isSome = true →
      (∀ x, s.dev.transferOf q = some x → x.key = key → nextHas (exec (.abortTransfer q e idx sub) s) (fun t =>
        t.dev.told q .ok ∧ (∀ y ∈ t.dev.transfers, y.q ≠ q) ∧ q ∈ t.dev.abandoned ∧
        t.dev.rd (Obj.transportCounter 7) = (s.dev.rd (Obj.transportCounter 7) + 1) % 2 ^ 64 ∧ rests t)) ∧
      ((∀ x, s.dev.transferOf q = some x → x.key ≠ key) → nextHas (exec (.abortTransfer q e idx sub) s) (fun t => t.dev.told q .sequence ∧ s.dev.regsKeptAnswered t.dev [] ∧ rests t))) ∧
    (∀ x, s.dev.transferOf q = some x →
      (x.lastF + 1000000000 ≤ s.dev.rf → nextHas (exec (.transferIdleTimeout q) s) (fun t =>
        (∀ y ∈ t.dev.transfers, y.q ≠ q) ∧ q ∈ t.dev.abandoned ∧ t.dev.rd (Obj.transportCounter 7) = (s.dev.rd (Obj.transportCounter 7) + 1) % 2 ^ 64 ∧
        (∀ c, q = .can c → .response q 9 (leBytes 4 0x05040000) ∈ t.dev.out) ∧ rests t)) ∧
      (quiet → s.dev.rf < x.lastF + 1000000000 → nextHas (exec (.transferIdleTimeout q) s) (fun t => t.dev = { s.dev with out := [] } ∧ s.sameRest t))) ∧
    (∀ (p m : Fin 4) (b : Bool × BitVec 20) (offset : Nat) (first last : Bool) (room : Nat), q = .mailbox p m → e.bar = some b → s.dev.portState p.val ≠ 0 → b.1 = true →
      let n := 132 + b.2.toNat / 64 / 4096 % 4
      (s.dev.domState n = 1 ∨ s.dev.domState n = 2) → (s.dev.on (Obj.wakeOnAccess n) && s.dev.wakeRight (.mailbox p 0) n) = false →
      nextHas (exec (.readObj q e idx sub offset first last room) s) (fun t =>
        t.dev.out = [.completion p.val (zeros (room % 4097))] ∧ t.dev.rd (Obj.accessRefused n) = (s.dev.rd (Obj.accessRefused n) + 1) % 2 ^ 64 ∧
        s.dev.regsKept t.dev [(Obj.accessRefused n).key] ∧ s.sameRest t))

/-- R140, R466, R469, R471, R473, R474: a write that a check refuses changes nothing and answers with the first failure; one of an object that has no further effect stores the value and
nothing else; WRITE_IF writes where the present value is the expected one, and otherwise answers MISMATCH with it and changes nothing; a GridImage is replaced by its last segment alone,
and one that holds no whole number of nodes is refused. (The objects whose writes act are stated with their chapters.)
(Choices of the model's that it rests on: notes/assumptions 90, 91, 108.) -/
def Obligations.ObjectsAreWritten : Prop :=
  ∀ (s : State) (q : Requester) (e : Envelope) (idx : BitVec 16) (sub : BitVec 8) (data : List Byte),
    let stored : Prop := (0x5811 ≤ idx.toNat ∧ idx.toNat ≤ 0x5813) ∨ (0x5815 ≤ idx.toNat ∧ idx.toNat ≤ 0x581B) ∨ (0x7802 ≤ idx.toNat ∧ idx.toNat ≤ 0x780A) ∨
      (0x6400 ≤ idx.toNat ∧ idx.toNat < 0x6800)
    let plan : Prop := 0x6000 ≤ idx.toNat ∧ idx.toNat < 0x6010
    let same (t : State) : Prop := s.dev.regsKeptAnswered t.dev [] ∧ s.sameRest t
    (s.dev.admits q e →
      (∀ g : Seg, g.data = data → ¬plan → s.dev.judgeWrite q 2 idx.toNat sub.toNat data ≠ .ok → nextHas (exec (.writeObj q e idx sub g) s) (fun t =>
        t.dev.told q (s.dev.judgeWrite q 2 idx.toNat sub.toNat data) ∧ same t)) ∧
      (∀ (g : Seg) row, g.data = data → s.dev.judgeWrite q 2 idx.toNat sub.toNat data = .ok → objRow? idx.toNat sub.toNat = some row →
        (stored → row.ty.scalar = true → nextHas (exec (.writeObj q e idx sub g) s) (fun t =>
          t.dev.told q .ok ∧ t.dev.rd (Reg.at idx.toNat sub.toNat (8 * row.ty.size)) = ofLe data ∧
          s.dev.regsKeptAnswered t.dev [idx.toNat * 256 + sub.toNat] ∧ s.sameRest t)) ∧
        ((0x5840 ≤ idx.toNat ∧ idx.toNat < 0x5848) → (∃ n, row.ty = .octets n) → nextHas (exec (.writeObj q e idx sub g) s) (fun t =>
          t.dev.told q .ok ∧ t.dev.blob (Reg.at idx.toNat sub.toNat 0) = data ∧ same t))) ∧
      ((∀ c, q ≠ .can c) →
        (s.dev.judgeWriteIf q idx.toNat sub.toNat data ≠ .ok → nextHas (exec (.writeIf q e idx sub data) s) (fun t =>
          t.dev.told q (s.dev.judgeWriteIf q idx.toNat sub.toNat data) ∧ same t)) ∧
        (∀ row, s.dev.judgeWriteIf q idx.toNat sub.toNat data = .ok → objRow? idx.toNat sub.toNat = some row → stored →
          let n := row.ty.size
          let present := s.dev.liveObject q idx.toNat sub.toNat
          (present = data.take n → nextHas (exec (.writeIf q e idx sub data) s) (fun t =>
            t.dev.told q .ok ∧ t.dev.rd (Reg.at idx.toNat sub.toNat (8 * n)) = ofLe (data.drop n) ∧ s.dev.regsKeptAnswered t.dev [idx.toNat * 256 + sub.toNat] ∧ s.sameRest t)) ∧
          (present ≠ data.take n → nextHas (exec (.writeIf q e idx sub data) s) (fun t => .response q Status.mismatch.code present ∈ t.dev.out ∧ same t))))) ∧
    (∀ (n : Fin 36) (g : Seg), s.dev.reaches (segReq q (Obj.gridImage n.val) g) → s.dev.judgeWrite q 2 ((Obj.gridImage n.val).key / 256) ((Obj.gridImage n.val).key % 256) g.data = .ok →
      g.first = true → g.offset = 0 → g.data.length ≤ segLimit q → s.dev.transferBusy q (Obj.gridImage n.val).key true = false →
      (g.last = false → nextHas (exec (.gridImageWrite q n g) s) (fun t =>
        t.dev.told q .ok ∧ t.dev.blob (Obj.gridImage n.val) = s.dev.blob (Obj.gridImage n.val) ∧
        (∃ x ∈ t.dev.transfers, x.q = q ∧ x.key = (Obj.gridImage n.val).key ∧ x.writing = true ∧ x.data = g.data) ∧ same t)) ∧
      (g.last = true → g.data.length % 4 ≠ 0 → nextHas (exec (.gridImageWrite q n g) s) (fun t =>
        t.dev.told q .range ∧ t.dev.blob (Obj.gridImage n.val) = s.dev.blob (Obj.gridImage n.val) ∧ same t)) ∧
      (g.last = true → g.data.length % 4 = 0 → nextHas (exec (.gridImageWrite q n g) s) (fun t =>
        t.dev.told q .ok ∧ t.dev.blob (Obj.gridImage n.val) = g.data ∧ t.dev.rd (Obj.gridNodes n.val) = g.data.length / 4 ∧
        s.dev.regsKeptAnswered t.dev [(Obj.gridNodes n.val).key] ∧ s.sameRest t)))

/-! ### Wellspring (chapter 16) -/

/-- R443, R501, R506 to R508, R514: a HELLO of the right form is answered with a CHALLENGE, or at once with a refusal where there is no identity key or TrngFault; a FINISH that does not
belong to its exchange is ignored; one whose host key the tenant does not hold, or whose signature or credential does not verify, is refused, counted and ends the exchange; an accepted
one binds the port, with the versions agreed; the report is signed. (What a signature verifies to is Config's.)
(Choices of the model's that it rests on: notes/assumptions 8, 85, 86, 87.) -/
def Obligations.SessionsAreEstablished : Prop :=
  ∀ (s : State),
    (∀ (p : SessionPeer) (data : List Byte), s.dev.working = true → s.dev.bootWait = false → s.dev.bit Obj.securityState 2 = false → s.dev.peerOn p = true →
      let n := peerNum p
      (helloGood data = false → nextHas (exec (.hello p data) s) (fun t => t.dev = { s.dev with out := [] } ∧ s.sameRest t)) ∧
      (helloGood data = true → (s.dev.bit Obj.securityState 3 || s.dev.bit Obj.securityState 4) = true → nextHas (exec (.hello p data) s) (fun t =>
        t.dev.rd (Obj.securityCounter 1) = (s.dev.rd (Obj.securityCounter 1) + 1) % 2 ^ 64 ∧ t.dev.exchanges = s.dev.exchanges ∧
        (∀ h, p = .port h → t.dev.getF (Obj.attachState h.val) 24 8 = 1 ∧ t.dev.rd (Obj.sessionStep h.val) = 2 ∧ t.dev.blob (Obj.sessionOut h.val) = acceptBytes 1 0 []) ∧
        s.sameRest t)) ∧
      (helloGood data = true → s.dev.bit Obj.securityState 3 = false → s.dev.bit Obj.securityState 4 = false → nextHas (exec (.hello p data) s) (fun t =>
        (t.dev.exchange n).hello = data ∧ (t.dev.exchange n).readyF = s.dev.rf ∧ leAt (t.dev.exchange n).challenge 0 2 = 0x0100 ∧ leAt (t.dev.exchange n).challenge 4 4 ≠ 0 ∧
        s.dev.free < t.dev.free ∧ (∀ h, p = .port h → t.dev.rd (Obj.sessionStep h.val) = 1 ∧ t.dev.blob (Obj.sessionOut h.val) = (t.dev.exchange n).challenge ∧
          t.dev.portState h.val = 1) ∧ s.sameRest t))) ∧
    (∀ (p : SessionPeer) (data : List Byte), s.dev.working = true → s.dev.bootWait = false → s.dev.bit Obj.securityState 2 = false → s.dev.peerOn p = true →
      let x := s.dev.exchange (peerNum p)
      (x.challenge = [] ∨ finishGood data = false ∨ leAt data 4 4 ≠ leAt x.challenge 4 4 ∨ x.readyF + 1000000000 < s.dev.rf →
        nextHas (exec (.finish p data) s) (fun t => t.dev = { s.dev with out := [] } ∧ s.sameRest t))) ∧
    (∀ (h : Fin 4) (data : List Byte), s.dev.working = true → s.dev.bootWait = false → s.dev.bit Obj.securityState 2 = false → s.dev.portState h.val = 1 →
      let x := s.dev.exchange h.val
      let st := Obj.attachState h.val
      let hostKey := x.hello.drop 36
      let signed_ := Config.verify hostKey (sha3 (x.hello ++ x.challenge ++ data.take 1096)) (bytesAt data 1096 2420)
      let ctr (t : State) (k n : Nat) : Prop := t.dev.rd (Obj.securityCounter k) = (s.dev.rd (Obj.securityCounter k) + n) % 2 ^ 64
      let refused (t : State) (code : Nat) : Prop := t.dev.portState h.val = 1 ∧ t.dev.getF st 24 8 = code ∧ ctr t 1 1 ∧ t.dev.rd (Obj.sessionStep h.val) = 2
      x.challenge ≠ [] → finishGood data = true → leAt data 4 4 = leAt x.challenge 4 4 → s.dev.rf ≤ x.readyF + 1000000000 → x.slot = 2 →
      (∀ tn : Fin 8, leAt x.hello 2 1 = 1 → leAt x.hello 3 1 = tn.val →
        ((∀ k : Fin 4, s.dev.blob (Obj.tenantHostKeys tn.val k.val) ≠ sha3 hostKey) → nextHas (exec (.finish (.port h) data) s) (fun t =>
          refused t 1 ∧ ctr t 2 1 ∧ t.dev.exchange h.val = {} ∧ s.sameRest t)) ∧
        (∀ (k : Fin 4) (v : Nat), s.dev.blob (Obj.tenantHostKeys tn.val k.val) = sha3 hostKey → sha3 hostKey ≠ zeros 32 → s.dev.rd (Obj.tenantHosts tn.val) = 0 →
          s.dev.rd (Obj.tenantState tn.val) ≠ 3 → agreedVersion ((s.dev.session h.val).offer.getD 2 0) ((s.dev.session h.val).offer.getD 3 0) = some v →
          nextHas (exec (.finish (.port h) data) s) (fun t =>
            t.dev.exchange h.val = {} ∧ s.sameRest t ∧
            (signed_ = false → refused t 1 ∧ ctr t 2 1) ∧
            (signed_ = true → t.dev.portState h.val = 2 ∧ t.dev.getF st 8 4 = tn.val ∧ t.dev.rd (Obj.tenantHosts tn.val) = 1 ∧ t.dev.rd (Obj.tenantState tn.val) = 1 ∧
              (t.dev.session h.val).bound = true ∧ (t.dev.session h.val).custodian = false ∧ (t.dev.session h.val).outfallVersion = v ∧
              (t.dev.session h.val).recordKey = (t.dev.session h.val).firstKey ∧ (t.dev.session h.val).keyEpoch = 0 ∧ ctr t 0 1 ∧ t.dev.rd (Obj.sessionStep h.val) = 2)))) ∧
      (leAt x.hello 2 1 = 2 → nextHas (exec (.finish (.port h) data) s) (fun t =>
        t.dev.exchange h.val = {} ∧ s.sameRest t ∧ (signed_ = false → refused t 1 ∧ ctr t 2 1) ∧
        (signed_ = true → (s.dev.bit Obj.securityState 11 = true ∨ s.dev.credentialGood data hostKey = false) → refused t 2 ∧ ctr t 3 1) ∧
        (signed_ = true → s.dev.bit Obj.securityState 11 = false → s.dev.credentialGood data hostKey = true →
          agreedVersion ((s.dev.session h.val).offer.getD 2 0) ((s.dev.session h.val).offer.getD 3 0) ≠ none →
          t.dev.portState h.val = 2 ∧ t.dev.bit Obj.securityState 11 = true ∧ t.dev.getF Obj.securityState 12 4 = h.val ∧ t.dev.bit st 13 = true ∧ ctr t 0 1)))) ∧
    (∀ q : Requester, s.dev.reaches { q := q, op := 1, idx := 0x9031, sub := 0 } → s.dev.judgeRead q 1 0x9031 0 = .ok →
      (s.dev.bit Obj.securityState 3 = true → nextHas (exec (.attestReportRead q) s) (fun t => t.dev.told q .state ∧ s.dev.regsKeptAnswered t.dev [] ∧ s.sameRest t)) ∧
      (s.dev.bit Obj.securityState 3 = false → nextHas (exec (.attestReportRead q) s) (fun t =>
        (∃ body, .response q 0 (body ++ bytesAt (Config.sign (sha3 body)) 0 2420) ∈ t.dev.out ∧ leAt body 0 4 = 0x54535441 ∧ leAt body 4 2 = 0x0100) ∧
        s.dev.regsKeptAnswered t.dev [] ∧ s.sameRest t)))

/-- R493, R494, R505, R511, R514, R517, R518: a rollback commit raises each fuse counter to the Svn of the image that runs; a provisioning command fuses the next digest into the first free slot; a
recovery image is taken in recovery alone; a rekey starts the next epoch of the record or the link key, and the link moves to the key installed; a debug authorisation that is good adds
its scope and extends M4, any other is counted; a failed test block sets TrngFault, which 1,024 passes in a row clear.
(Choices of the model's that it rests on: notes/assumptions 8, 86, 89.) -/
def Obligations.SecurityCommands : Prop :=
  ∀ (s : State) (q : Requester),
    (s.dev.hears q Obj.rollbackCommit 1 → nextHas (exec (.rollbackCommit q) s) (fun t =>
      t.dev.told q .ok ∧ (∀ k : Fin 3, t.dev.rd (Obj.fuseSvn k.val) =
        max (s.dev.rd (Obj.fuseSvn k.val)) (leAt (s.dev.imageHeader (s.dev.getF Obj.securityState 1 1) (k.val + 1)) 5 1)) ∧
      s.dev.regsKeptAnswered t.dev [(Obj.fuseSvn 0).key, (Obj.fuseSvn 1).key, (Obj.fuseSvn 2).key] ∧ s.sameRest t)) ∧
    (s.dev.hears q Obj.provisioningCommand 1 →
      (∀ k : Fin 4, s.dev.blob (Obj.provisioningKeyDigest k.val) = zeros 32 → (∀ j < k.val, s.dev.blob (Obj.provisioningKeyDigest j) ≠ zeros 32) →
        nextHas (exec (.provisioningCommand q) s) (fun t =>
          t.dev.told q .ok ∧ (∀ j : Fin 4, t.dev.blob (Obj.provisioningKeyDigest j.val) =
            if j = k then s.dev.blob Obj.nextProvisioningDigest else s.dev.blob (Obj.provisioningKeyDigest j.val)) ∧
          s.dev.regsKeptAnswered t.dev [Obj.securityState.key] ∧ s.sameRest t)) ∧
      ((∀ k : Fin 4, s.dev.blob (Obj.provisioningKeyDigest k.val) ≠ zeros 32) → nextHas (exec (.provisioningCommand q) s) (fun t =>
        t.dev.told q .state ∧ s.dev.regsKeptAnswered t.dev [] ∧ s.sameRest t))) ∧
    (∀ g : Seg, g.first = true → g.offset = 0 → g.data.length ≤ segLimit q → s.dev.transferBusy q Obj.recoveryImage.key true = false →
      s.dev.judgeWrite q 2 (Obj.recoveryImage.key / 256) (Obj.recoveryImage.key % 256) g.data = .ok →
      (s.dev.opened → nextHas (exec (.recoveryImageWrite q g) s) (fun t => t.dev.told q .state ∧ s.dev.regsKeptAnswered t.dev [] ∧ s.sameRest t)) ∧
      (s.dev.working = true → s.dev.bootWait = false → s.dev.bit Obj.securityState 2 = true → q = .mailbox 0 0 → g.last = true →
        nextHas (exec (.recoveryImageWrite q g) s) (fun t =>
          t.dev.told q .ok ∧ t.dev.blob Obj.recoveryImage = g.data ++ (s.dev.blob Obj.recoveryImage).drop g.data.length ∧ s.dev.regsKeptAnswered t.dev [] ∧ s.sameRest t))) ∧
    (s.dev.hears q Obj.rekeyCommand 1 →
      let x := s.dev.session (sessOf q)
      let e := (x.keyEpoch + 1) % 2 ^ 32
      (x.bound = false → nextHas (exec (.recordRekey q) s) (fun t => t.dev.told q .rights ∧ s.dev.regsKeptAnswered t.dev [] ∧ s.sameRest t)) ∧
      (x.bound = true → x.outfallVersion < 0x0102 → nextHas (exec (.recordRekey q) s) (fun t => t.dev.told q .state ∧ s.dev.regsKeptAnswered t.dev [] ∧ s.sameRest t)) ∧
      (x.bound = true → 0x0102 ≤ x.outfallVersion → nextHas (exec (.recordRekey q) s) (fun t =>
        t.dev.told q .ok ∧ (t.dev.session (sessOf q)).keyEpoch = e ∧ (t.dev.session (sessOf q)).recordKey = kmac256 x.recordKey (leBytes 4 e) "EF36 record" 32 ∧
        (t.dev.session (sessOf q)).firstKey = x.firstKey ∧ (t.dev.session (sessOf q)).linkKey = x.linkKey ∧ s.dev.regsKeptAnswered t.dev [] ∧ s.sameRest t))) ∧
    (s.dev.hears q Obj.rekeyCommand 2 →
      let x := s.dev.session (sessOf q)
      let e := (x.linkEpoch + 1) % 2 ^ 32
      (x.bound = false → nextHas (exec (.linkRekey q) s) (fun t => t.dev.told q .rights ∧ s.dev.regsKeptAnswered t.dev [] ∧ s.sameRest t)) ∧
      (x.bound = true → x.nextLinkKey = [] → nextHas (exec (.linkRekey q) s) (fun t =>
        t.dev.told q .ok ∧ (t.dev.session (sessOf q)).linkEpoch = e ∧ (t.dev.session (sessOf q)).nextLinkKey = kmac256 x.linkKey (leBytes 4 e) "EF36 link" 32 ∧
        (t.dev.session (sessOf q)).linkKey = x.linkKey ∧ (t.dev.session (sessOf q)).recordKey = x.recordKey ∧ s.dev.regsKeptAnswered t.dev [] ∧ s.sameRest t))) ∧
    (∀ p : Fin 6, s.dev.working = true → nextHas (exec (.linkKeySwitch p) s) (fun t =>
      t.dev.session p.val = (if (s.dev.session p.val).nextLinkKey = [] then s.dev.session p.val
        else { s.dev.session p.val with linkKey := (s.dev.session p.val).nextLinkKey, nextLinkKey := [] }) ∧ s.dev.regsKept t.dev [] ∧ s.sameRest t)) ∧
    (∀ (g : Seg) (x : Transfer), s.dev.reaches (segReq q Obj.debugAuthorisation g) →
      s.dev.judgeWrite q 2 (Obj.debugAuthorisation.key / 256) (Obj.debugAuthorisation.key % 256) g.data = .ok → g.first = false → g.last = true →
      g.data.length ≤ segLimit q → s.dev.transferOf q = some x → x.writing = true → x.key = Obj.debugAuthorisation.key → x.next = g.offset →
      x.data.length + g.data.length ≤ 6216 → s.dev.wasAbandoned q = false →
      let b := x.data ++ g.data
      nextHas (exec (.debugAuthorisation q g) s) (fun t =>
        (s.dev.authGood b = false → t.dev.told q .range ∧ t.dev.rd (Obj.securityCounter 4) = (s.dev.rd (Obj.securityCounter 4) + 1) % 2 ^ 64 ∧
          s.dev.regsKeptAnswered t.dev [(Obj.securityCounter 4).key] ∧ s.sameRest t) ∧
        (s.dev.authGood b = true → t.dev.told q .ok ∧ t.dev.getF Obj.securityState 8 3 = s.dev.getF Obj.securityState 8 3 ||| leAt b 2 1 ∧
          t.dev.blob (Obj.measurementRegister 4) = sha3 (s.dev.blob (Obj.measurementRegister 4) ++ sha3 b) ∧ s.dev.free < t.dev.free))) ∧
    (s.dev.up 179 →
      nextHas (exec (.trngHealthBlock false) s) (fun t =>
        t.dev.bit Obj.securityState 4 = true ∧ t.dev.trngPass = 0 ∧ t.dev.rd (Obj.securityCounter 5) = (s.dev.rd (Obj.securityCounter 5) + 1) % 2 ^ 64 ∧
        s.dev.regsKept t.dev [Obj.securityState.key, (Obj.securityCounter 5).key] ∧ s.sameRest t) ∧
      nextHas (exec (.trngHealthBlock true) s) (fun t =>
        t.dev.bit Obj.securityState 4 = (s.dev.bit Obj.securityState 4 && decide (s.dev.trngPass + 1 < 1024)) ∧
        s.dev.regsKept t.dev [Obj.securityState.key] ∧ s.sameRest t))

/-! ### Sediment and STILL (chapter 19) -/

/-- R578, R579, R583, R584, R585: a new second of the AON counter advances PowerOnSeconds and adds a second to one Tj bin of each die that is a source, and every 600 a commit starts, the two
accumulators exchanging roles, or is held; a commit that completes is the latest record of its copy, and the other copy is as it was; a power-on reset, a recovery image and a read-out
leave both copies alone.
(Choices of the model's that it rests on: notes/assumptions 12, 98.) -/
def Obligations.SedimentRecords : Prop :=
  ∀ (s : State),
    (s.dev.alive = true → s.dev.domOn 179 = true → s.dev.stopped = false →
      (s.dev.aon / 32768 ≤ s.dev.sedTickAon / 32768 → nextHas (exec .sedimentTick s) (fun t => t.dev = { s.dev with out := [] } ∧ s.sameRest t)) ∧
      (s.dev.sedTickAon / 32768 < s.dev.aon / 32768 → nextHas (exec .sedimentTick s) (fun t =>
        t.dev.powerOn = s.dev.powerOn + 1 ∧ t.dev.rd Obj.powerOnHours = (s.dev.powerOn + 1) / 3600 % 2 ^ 32 ∧ t.dev.mram0 = s.dev.mram0 ∧ t.dev.mram1 = s.dev.mram1 ∧
        s.dev.regsKept t.dev [Obj.powerOnHours.key, Obj.sedimentState.key] ∧ s.sameRest t ∧
        (s.dev.frozen = true → t.dev.sedLive = s.dev.sedLive ∧ (t.dev.bit Obj.sedimentState 1 = (s.dev.bit Obj.sedimentState 1 || decide ((s.dev.powerOn + 1) % 600 = 0)))) ∧
        (s.dev.frozen = false → (s.dev.powerOn + 1) % 600 ≠ 0 → ∀ (d : Fin 6) (k : Fin 32),
          let tj := s.dev.rdI (Obj.dieTemperature d.val)
          let bin : Int := max 0 (min 31 ((tj + 40 * 128 + 640) / 640))
          let off := 0x40 + 4 * (32 * d.val + k.val)
          Tab.get 0 t.dev.sedLive.counts off = if s.dev.dieOn d.val = true ∧ bin = k.val then min (2 ^ 32 - 1) (Tab.get 0 s.dev.sedLive.counts off + 1)
            else Tab.get 0 s.dev.sedLive.counts off) ∧
        (s.dev.frozen = false → (s.dev.powerOn + 1) % 600 = 0 → s.dev.bit Obj.sedimentState 0 = true →
          t.dev.bit Obj.sedimentState 1 = true ∧ t.dev.sedShadow = s.dev.sedShadow ∧ t.dev.commitBytes = s.dev.commitBytes) ∧
        (s.dev.frozen = false → (s.dev.powerOn + 1) % 600 = 0 → s.dev.bit Obj.sedimentState 0 = false →
          t.dev.bit Obj.sedimentState 0 = true ∧ t.dev.sedLive = s.dev.sedShadow ∧ leAt t.dev.commitBytes 0 4 = 0x4D444553 ∧ leAt t.dev.commitBytes 7 1 = 1 ∧
          leAt t.dev.commitBytes 8 4 = (leAt s.dev.sedLatest 8 4 + 1) % 2 ^ 32)))) ∧
    (s.dev.alive = true → s.dev.domOn 179 = true → s.dev.stopped = false → s.dev.bit Obj.sedimentState 0 = true →
      nextHas (exec .commitComplete s) (fun t =>
        (leAt s.dev.commitBytes 6 1 = 0 → t.dev.mram0 = s.dev.commitBytes ∧ t.dev.mram1 = s.dev.mram1) ∧
        (leAt s.dev.commitBytes 6 1 ≠ 0 → t.dev.mram1 = s.dev.commitBytes ∧ t.dev.mram0 = s.dev.mram0) ∧
        t.dev.rd Obj.commitsDone = (s.dev.rd Obj.commitsDone + 1) % 2 ^ 64 ∧ t.dev.rd Obj.sedimentEpoch = leAt s.dev.commitBytes 8 4 ∧
        (s.dev.bit Obj.sedimentState 1 = false → t.dev.bit Obj.sedimentState 0 = false ∧ t.dev.sedShadow = {} ∧ t.dev.sedLive = s.dev.sedLive) ∧
        (s.dev.bit Obj.sedimentState 1 = true → s.dev.frozen = false → t.dev.bit Obj.sedimentState 0 = true ∧ t.dev.bit Obj.sedimentState 1 = false ∧
          t.dev.sedLive = {} ∧ t.dev.sedShadow = s.dev.sedLive) ∧
        s.dev.regsKept t.dev [Obj.commitsDone.key, Obj.sedimentEpoch.key, Obj.sedimentState.key, Obj.lastCommitTime.key] ∧ s.sameRest t)) ∧
    (∀ straps puf still cool, nextHas (exec (.powerOnReset straps puf still cool) s) (fun t => t.dev.mram0 = s.dev.mram0 ∧ t.dev.mram1 = s.dev.mram1)) ∧
    (∀ q g, nextHas (exec (.recoveryImageWrite q g) s) (fun t => t.dev.mram0 = s.dev.mram0 ∧ t.dev.mram1 = s.dev.mram1)) ∧
    (∀ a, nextHas (exec (.readoutData a) s) (fun t => t.dev.mram0 = s.dev.mram0 ∧ t.dev.mram1 = s.dev.mram1 ∧ s.sameRest t))

/-- R587 to R589, R592 to R594: STILL_N freezes the device from the instant it is taken, with RimFreeze latched; the rim discards what it has held for 50 ms and counts it; resumption ends
the freeze and shows how long it was; a word is read out under the Readout scope alone, and shows why it is zero where it is not read.
(Choices of the model's that it rests on: notes/assumptions 55, 99, 100.) -/
def Obligations.StillFreezes : Prop :=
  ∀ (s : State), s.dev.alive = true →
    (s.dev.frozen = false → s.dev.stopped = false → nextHas (exec .stillFreeze s) (fun t =>
      t.dev.frozen = true ∧ t.dev.working = false ∧ t.dev.freezeF = s.dev.f ∧ t.dev.bit Obj.freezeState 2 = s.dev.bit Obj.freezeControl 0 ∧
      t.dev.rd Obj.freezes = (s.dev.rd Obj.freezes + 1) % 2 ^ 32 ∧ t.dev.rd Obj.lastFreezeStart = t80 s.dev.dt % 2 ^ 80 ∧
      s.dev.regsKept t.dev [Obj.freezeState.key, Obj.freezes.key, Obj.lastFreezeStart.key] ∧ s.sameRest t)) ∧
    (s.dev.frozen = true →
      nextHas (exec .stillFreeze s) (fun t => t.dev = { s.dev with out := [] } ∧ s.sameRest t) ∧
      (s.dev.stillAck = false → nextHas (exec .freezeAck s) (fun t =>
        t.dev.stillAck = true ∧ t.dev.getF Obj.freezeState 16 16 = min 0xFFFF ((s.dev.f - s.dev.freezeF) / 1000) ∧
        s.dev.regsKept t.dev [Obj.freezeState.key] ∧ s.sameRest t)) ∧
      nextHas (exec .rimHoldExpiry s) (fun t =>
        t.dev.held = s.dev.held.filter (fun x => !(x.domain == 181 && decide (x.sinceF + 50000000 ≤ s.dev.f))) ∧
        t.dev.rimFrames = s.dev.rimFrames.filter (fun x => !decide (x.1 + 50000000 ≤ s.dev.f)) ∧
        t.dev.rd Obj.rimDiscards = (s.dev.rd Obj.rimDiscards + (s.dev.held.filter (fun x => x.domain == 181 && decide (x.sinceF + 50000000 ≤ s.dev.f))).length +
          (s.dev.rimFrames.filter (fun x => decide (x.1 + 50000000 ≤ s.dev.f))).length) % 2 ^ 64 ∧
        s.dev.regsKept t.dev [Obj.rimDiscards.key] ∧ s.sameRest t) ∧
      (s.dev.stopped = false → (∀ x ∈ s.dev.held, x.domain ≠ 181) → s.dev.rimFrames = [] → (∀ x ∈ s.dev.transfers, ∀ c, x.q ≠ .can c) →
          (∀ a ∈ s.dev.allocs, a.tag < 16 → 2 ≤ s.dev.rd (Obj.planState a.tag)) →
        nextHas (exec .stillResume s) (fun t =>
          t.dev.frozen = false ∧ t.dev.rd Obj.lastFreezeDuration = (s.dev.f - s.dev.freezeF) % 2 ^ 64 ∧ t.dev.frozenNs = s.dev.frozenNs + (s.dev.f - s.dev.freezeF) ∧
          t.dev.getF Obj.freezeState 0 2 = 2 ∧ (s.dev.bit Obj.freezeState 2 = true → ∀ h : Fin 4, t.dev.portState h.val = 0) ∧
          (s.dev.bit Obj.freezeState 2 = false → s.dev.regsKept t.dev [Obj.lastFreezeDuration.key, Obj.freezeState.key]) ∧ s.sameRest t))) ∧
    (s.dev.frozen = false → s.dev.resumeF ≠ 0 → s.dev.bootWait = false → s.dev.fusionRuns = false → nextHas (exec .resumeComplete s) (fun t =>
      t.dev.stillAck = false ∧ t.dev.getF Obj.freezeState 0 2 = 0 ∧ t.dev.resumeF = 0 ∧ t.dev.reconvert = .step ∧ t.dev.discarded = [] ∧
      (∀ p m r, s.dev.discarded = [r] → r.q = .mailbox p m → (Tab.get ({} : Mailbox) t.dev.mailboxes (p.val * 4 + m.val)).code = 0x0D) ∧ s.sameRest t)) ∧
    (∀ a : BitVec 40,
      (s.dev.bit Obj.securityState 9 = false → nextHas (exec (.readoutData (some a)) s) (fun t => t.dev = { s.dev with out := [] } ∧ s.sameRest t)) ∧
      (s.dev.bit Obj.securityState 9 = true → nextHas (exec (.readoutData (some a)) s) (fun t => ∃ v, t.dev.out = [.tap v] ∧ t.dev.tapAddr = (a.toNat + 1) % 2 ^ 40 ∧
        (s.dev.stillAck = false → v = 2 ^ 83) ∧
        (s.dev.stillAck = true → 6 ≤ field a.toNat 37 3 → v = 2 ^ 84) ∧
        (s.dev.stillAck = true → field a.toNat 37 3 < 4 → field a.toNat 28 9 < 0x20 → field a.toNat 0 28 < 131072 →
          v = if s.dev.bit Obj.securityState 10 then v % 2 ^ 82 else 2 ^ 82) ∧
        (s.dev.stillAck = true → s.dev.bit Obj.securityState 10 = true → field a.toNat 37 3 < 4 → field a.toNat 28 9 < 0x20 → field a.toNat 0 28 < 131072 →
          v % 2 ^ 64 = ofLe (Memory.read s.mem.pad ((field a.toNat 37 3 * 32 + field a.toNat 28 9) * 2 ^ 20 + 8 * field a.toNat 0 28) 8)) ∧
        (s.dev.stillAck = true → s.dev.bit Obj.securityState 10 = true → field a.toNat 37 3 < 4 → field a.toNat 28 9 < 0x20 → field a.toNat 0 28 < 131072 →
          Tab.get false s.mem.padBad (padWordKey (field a.toNat 37 3 * 32 + field a.toNat 28 9) (8 * field a.toNat 0 28)) = false →
          ofLe (Memory.read s.mem.pad ((field a.toNat 37 3 * 32 + field a.toNat 28 9) * 2 ^ 20 + 8 * field a.toNat 0 28) 8) = 0 → v = 0) ∧
        s.dev.regsKept t.dev [] ∧ s.sameRest t)))

/-! ### The block as a whole -/

/-- A step takes the command at the front of the queue: it is exec of that command on the state with the queue's rest. -/
def Obligations.StepTakesFront : Prop :=
  ∀ (c : Instr) (s : State), step { s with pending := c :: s.pending } = exec c s

/-- The model's own (notes/assumptions/1): with no command waiting a nanosecond passes. F advances while the clocked domain runs, the AON counter at 32.768 kHz; nothing else moves. -/
def Obligations.NanosecondPasses : Prop :=
  ∀ (s : State), s.pending = [] → nextHas (step s) (fun t =>
    (s.dev.alive = false → t = s) ∧
    (s.dev.alive = true →
      t.dev.f = (if s.dev.stopped then s.dev.f else (s.dev.f + 1) % 2 ^ 64) ∧
      (s.dev.aonPhase < 15625000 → t.dev.aon * 15625000 + t.dev.aonPhase = s.dev.aon * 15625000 + s.dev.aonPhase + 512 ∧ t.dev.aonPhase < 15625000) ∧
      s.dev.regsKept t.dev [] ∧ s.sameRest t))

/-- The memories keep their canonical form at every step (addresses rising, nothing listed that reads as an unlisted address does), whatever command is taken.
(Choices of the model's that it rests on: notes/assumptions 11.) -/
def Obligations.MemoriesKeepTheirForm : Prop :=
  ∀ (s t : State), s.memOk → step s = .next t → t.memOk

/-- The memories have their form right after reset, and nothing waits.
Right after reset every object reads its default (R460), among them these that the chapters state: W and its hold-off (R401, R402), the sources' clocks (R389), the Reedbed port, no
plan, no owner, no channel running, no weir armed (R338), nothing frozen.
(Choices of the model's that it rests on: notes/assumptions 6, 11, 13, 92.) -/
def Obligations.ResetState : Prop :=
  (State.reset.memOk ∧ State.reset.pending = [] ∧ (∀ a, Memory.byte State.reset.mem.pad a = 0) ∧ (∀ a, Memory.byte State.reset.mem.gddr a = 0)) ∧
  ((∀ r : Reg, State.reset.dev.rd r = objDefault r.key) ∧
  State.reset.dev.rd Obj.fusionWindow = 1000 ∧ State.reset.dev.rd Obj.closeHoldoff = 150 ∧ State.reset.dev.rd Obj.reedbedPort = 40962 ∧
  (∀ c : Fin 64, State.reset.dev.rd (Obj.inputRate c.val) = 1000 ∧ State.reset.dev.rd (Obj.channelDelay c.val) = 32 ∧ State.reset.dev.reedState c.val = 0 ∧
    State.reset.dev.chanState c.val = 0 ∧ State.reset.dev.rd (Obj.channelOwner c.val) = 0xFF) ∧
  (∀ p : Fin 16, State.reset.dev.rd (Obj.planState p.val) = 0 ∧ State.reset.dev.rd (Obj.planOwner p.val) = 0xFF) ∧
  (∀ b : Fin 128, State.reset.dev.rd (Obj.weirBlockOwner b.val) = 0xFF) ∧ (∀ w : Nat, (State.reset.dev.weir w).armed = false ∧ (State.reset.dev.weir w).count = 0) ∧
  State.reset.dev.rd Obj.fusionOwner = 0xFF ∧ State.reset.dev.frozen = false ∧ State.reset.dev.stillAck = false ∧ State.reset.dev.rd Obj.freezeState = 0)

/-- No command puts another into the queue or takes one from it.
(Choices of the model's that it rests on: notes/assumptions 14.) -/
def Obligations.CommandsLeaveTheQueue : Prop :=
  ∀ (c : Instr) (s t : State), exec c s = .next t → t.pending = s.pending

/-- Every command completes, in every state and with every operand: the block neither faults nor refuses.
(Choices of the model's that it rests on: notes/assumptions 2.) -/
def Obligations.EveryCommandCompletes : Prop :=
  ∀ (c : Instr) (s : State), ∃ t, exec c s = .next t

/-- R587: while the device is frozen no command changes a byte of either memory, but a reset, a loss of the supplies, the resumption and what waits for it.
(Choices of the model's that it rests on: notes/assumptions 100.) -/
def Obligations.FreezeKeepsMemories : Prop :=
  ∀ (c : Instr) (s t : State), s.dev.frozen = true →
    (match c with
     | .powerOnReset .. | .lossOfSupplies | .warmReset .. | .stillResume | .reBasing => False
     | _ => True) →
    exec c s = .next t → t.mem = s.mem
end

