-- ==== Sys2Proof/Laws/Tab.lean ====
section
/-! SUPPORT. The laws of sparse tables: reading after writing, and the canonical form, which every operation keeps. -/

namespace Sys2Proof.Machine

variable {α : Type} [DecidableEq α] {d : α}

/-! ### Reading after writing -/

theorem Tab.get_erase_same {α : Type} (d : α) (t : Tab α) (k : Nat) : Tab.get d (Tab.erase t k) k = d := by
  induction t with
  | nil => rfl
  | cons x t ih =>
    obtain ⟨j, a⟩ := x
    by_cases h : j = k
    · simp [Tab.erase, h, ih]
    · simp [Tab.erase, Tab.get, h, ih]

theorem Tab.get_erase_other {α : Type} (d : α) (t : Tab α) {k k' : Nat} (h : k' ≠ k) : Tab.get d (Tab.erase t k) k' = Tab.get d t k' := by
  induction t with
  | nil => rfl
  | cons x t ih =>
    obtain ⟨j, a⟩ := x
    by_cases hj : j = k
    · have : j ≠ k' := fun e => h (e ▸ hj)
      simp [Tab.erase, Tab.get, hj, ih, Ne.symm h]
    · simp [Tab.erase, Tab.get, hj, ih]

theorem Tab.get_insert_other {α : Type} (d : α) (t : Tab α) {k k' : Nat} (a : α) (h : k' ≠ k) : Tab.get d (Tab.insert t k a) k' = Tab.get d t k' := by
  induction t with
  | nil => simp [Tab.insert, Tab.get, Ne.symm h]
  | cons x t ih =>
    obtain ⟨j, b⟩ := x
    simp only [Tab.insert]
    split
    · simp [Tab.get, Ne.symm h]
    · simp [Tab.get, ih]

theorem Tab.get_insert_erase {α : Type} (d : α) (t : Tab α) (k : Nat) (a : α) : Tab.get d (Tab.insert (Tab.erase t k) k a) k = a := by
  induction t with
  | nil => simp [Tab.erase, Tab.insert, Tab.get]
  | cons x t ih =>
    obtain ⟨j, b⟩ := x
    by_cases h : j = k
    · simp [Tab.erase, h, ih]
    · simp only [Tab.erase, h, if_false, Tab.insert]
      split
      · simp [Tab.get]
      · simp [Tab.get, h, ih]

/-- A table read where it was written gives what was written. -/
@[simp] theorem Tab.get_put_same (t : Tab α) (k : Nat) (a : α) : Tab.get d (Tab.put d t k a) k = a := by
  unfold Tab.put
  split
  · next h => rw [Tab.get_erase_same, h]
  · exact Tab.get_insert_erase d t k a

/-- A table read elsewhere gives what it gave. -/
theorem Tab.get_put_other (d' : α) (t : Tab α) {k k' : Nat} (a : α) (h : k' ≠ k) : Tab.get d' (Tab.put d t k a) k' = Tab.get d' t k' := by
  unfold Tab.put
  split
  · exact Tab.get_erase_other d' t h
  · rw [Tab.get_insert_other d' _ a h, Tab.get_erase_other d' t h]

@[simp] theorem Tab.get_upd_same (t : Tab α) (k : Nat) (f : α → α) : Tab.get d (Tab.upd d t k f) k = f (Tab.get d t k) := by
  simp [Tab.upd]

theorem Tab.get_upd_other (t : Tab α) {k k' : Nat} (f : α → α) (h : k' ≠ k) : Tab.get d (Tab.upd d t k f) k' = Tab.get d t k' :=
  Tab.get_put_other d t _ h

@[simp] theorem Tab.get_nil {α : Type} (d : α) (k : Nat) : Tab.get d [] k = d := rfl

/-! ### The canonical form -/

theorem Tab.wfFrom_weaken (t : Tab α) : ∀ {lo lo' : Option Nat}, (∀ l, lo' = some l → ∃ m, lo = some m ∧ l ≤ m) → Tab.wfFrom d lo t = true → Tab.wfFrom d lo' t = true := by
  intro lo lo' h hw
  cases t with
  | nil => rfl
  | cons x t =>
    obtain ⟨j, a⟩ := x
    simp only [Tab.wfFrom, Bool.and_eq_true] at hw ⊢
    refine ⟨⟨?_, hw.1.2⟩, hw.2⟩
    cases lo' with
    | none => rfl
    | some l =>
      obtain ⟨m, rfl, hm⟩ := h l rfl
      have := hw.1.1
      simp only [decide_eq_true_eq] at this ⊢
      omega

theorem Tab.wf_of_wfFrom (t : Tab α) {lo : Option Nat} (h : Tab.wfFrom d lo t = true) : Tab.wf d t = true :=
  Tab.wfFrom_weaken t (by simp) h

theorem Tab.wfFrom_erase (t : Tab α) (k : Nat) : ∀ {lo : Option Nat}, Tab.wfFrom d lo t = true → Tab.wfFrom d lo (Tab.erase t k) = true := by
  induction t with
  | nil => intro lo _; rfl
  | cons x t ih =>
    obtain ⟨j, a⟩ := x
    intro lo h
    simp only [Tab.wfFrom, Bool.and_eq_true] at h
    simp only [Tab.erase]
    split
    · refine ih (Tab.wfFrom_weaken t ?_ h.2)
      intro l hl
      subst hl
      have := h.1.1
      simp only [decide_eq_true_eq] at this
      exact ⟨j, rfl, by omega⟩
    · simp only [Tab.wfFrom, Bool.and_eq_true]
      exact ⟨h.1, ih h.2⟩

theorem Tab.erase_absent {α : Type} (t : Tab α) (k : Nat) : ∀ x ∈ Tab.erase t k, x.1 ≠ k := by
  induction t with
  | nil => simp [Tab.erase]
  | cons x t ih =>
    obtain ⟨j, a⟩ := x
    simp only [Tab.erase]
    split
    · exact ih
    · next h =>
      intro y hy
      rcases List.mem_cons.mp hy with rfl | hy
      · exact h
      · exact ih y hy

theorem Tab.wfFrom_insert (t : Tab α) (k : Nat) (a : α) (ha : a ≠ d) : ∀ {lo : Option Nat}, (∀ l, lo = some l → l < k) → (∀ x ∈ t, x.1 ≠ k) →
    Tab.wfFrom d lo t = true → Tab.wfFrom d lo (Tab.insert t k a) = true := by
  induction t with
  | nil =>
    intro lo hlo _ _
    cases lo with
    | none => simp [Tab.insert, Tab.wfFrom, ha]
    | some l => simp [Tab.insert, Tab.wfFrom, ha, hlo l rfl]
  | cons x t ih =>
    obtain ⟨j, b⟩ := x
    intro lo hlo hk h
    simp only [Tab.wfFrom, Bool.and_eq_true] at h
    have hj : j ≠ k := hk (j, b) (List.mem_cons_self ..)
    simp only [Tab.insert]
    split
    · next hlt =>
      simp only [Tab.wfFrom, Bool.and_eq_true]
      refine ⟨⟨?_, by simp [ha]⟩, ⟨⟨by simp [hlt], h.1.2⟩, h.2⟩⟩
      cases lo with
      | none => rfl
      | some l => simp [hlo l rfl]
    · next hge =>
      simp only [Tab.wfFrom, Bool.and_eq_true]
      refine ⟨h.1, ih ?_ ?_ h.2⟩
      · intro l hl
        cases hl
        omega
      · intro y hy
        exact hk y (List.mem_cons_of_mem _ hy)

/-- Writing keeps the canonical form. -/
theorem Tab.wf_put {t : Tab α} (k : Nat) (a : α) (h : Tab.wf d t = true) : Tab.wf d (Tab.put d t k a) = true := by
  unfold Tab.put
  split
  · exact Tab.wfFrom_erase t k h
  · next ha => exact Tab.wfFrom_insert _ k a ha (by simp) (Tab.erase_absent t k) (Tab.wfFrom_erase t k h)

theorem Tab.wf_upd {t : Tab α} (k : Nat) (f : α → α) (h : Tab.wf d t = true) : Tab.wf d (Tab.upd d t k f) = true := Tab.wf_put k _ h

theorem Tab.wfFrom_filter (t : Tab α) (p : Nat × α → Bool) : ∀ {lo : Option Nat}, Tab.wfFrom d lo t = true → Tab.wfFrom d lo (t.filter p) = true := by
  induction t with
  | nil => intro lo _; rfl
  | cons x t ih =>
    obtain ⟨j, a⟩ := x
    intro lo h
    simp only [Tab.wfFrom, Bool.and_eq_true] at h
    rw [List.filter_cons]
    split
    · simp only [Tab.wfFrom, Bool.and_eq_true]
      exact ⟨h.1, ih h.2⟩
    · refine ih (Tab.wfFrom_weaken t ?_ h.2)
      intro l hl
      subst hl
      have := h.1.1
      simp only [decide_eq_true_eq] at this
      exact ⟨j, rfl, by omega⟩

/-- Taking entries out keeps the canonical form. -/
theorem Tab.wf_filter {t : Tab α} (p : Nat × α → Bool) (h : Tab.wf d t = true) : Tab.wf d (t.filter p) = true := Tab.wfFrom_filter t p h

@[simp] theorem Tab.wf_nil : Tab.wf d ([] : Tab α) = true := rfl

end Sys2Proof.Machine
end

