-- ==== Sys2Proof/Laws/Ops.lean ====
section
/-! SUPPORT. The laws of bit fields and of the dictionary's registers: what reads back after a write, and what a write leaves alone. -/

namespace Sys2Proof.Machine

open Sys2Proof

/-! ### Bit fields -/

/-- A number as the part below a field, the field and the part above it. -/
theorem field_split (v lo w : Nat) : v = v % 2 ^ lo + field v lo w * 2 ^ lo + v / 2 ^ (lo + w) * 2 ^ (lo + w) := by
  unfold field
  have h1 := Nat.div_add_mod v (2 ^ lo)
  have h2 := Nat.div_add_mod (v / 2 ^ lo) (2 ^ w)
  rw [Nat.div_div_eq_div_mul, ← Nat.pow_add] at h2
  calc v = 2 ^ lo * (v / 2 ^ lo) + v % 2 ^ lo := h1.symm
    _ = 2 ^ lo * (2 ^ w * (v / 2 ^ (lo + w)) + v / 2 ^ lo % 2 ^ w) + v % 2 ^ lo := by rw [h2]
    _ = _ := by rw [Nat.pow_add]; ring

/-- A number with a field replaced, in the same three parts. -/
theorem setField_split (v lo w x : Nat) : setField v lo w x = v % 2 ^ lo + x % 2 ^ w * 2 ^ lo + v / 2 ^ (lo + w) * 2 ^ (lo + w) := by
  have h := field_split v lo w
  unfold setField
  omega

theorem field_of_parts {a b c lo w : Nat} (ha : a < 2 ^ lo) (hb : b < 2 ^ w) : field (a + b * 2 ^ lo + c * 2 ^ (lo + w)) lo w = b := by
  unfold field
  have : a + b * 2 ^ lo + c * 2 ^ (lo + w) = a + (b + c * 2 ^ w) * 2 ^ lo := by rw [Nat.pow_add]; ring
  rw [this, Nat.add_mul_div_right _ _ (Nat.two_pow_pos lo), Nat.div_eq_of_lt ha, Nat.zero_add, Nat.add_mul_mod_self_right, Nat.mod_eq_of_lt hb]

theorem field_lt (v lo w : Nat) : field v lo w < 2 ^ w := Nat.mod_lt _ (Nat.two_pow_pos w)

/-- A field reads back as it was set. -/
@[simp] theorem field_setField_same (v lo w x : Nat) : field (setField v lo w x) lo w = x % 2 ^ w := by
  rw [setField_split]
  exact field_of_parts (Nat.mod_lt _ (Nat.two_pow_pos lo)) (Nat.mod_lt _ (Nat.two_pow_pos w))

/-- A field above another that is set. -/
theorem field_setField_above (v : Nat) {lo w lo' w' : Nat} (x : Nat) (h : lo + w ≤ lo') : field (setField v lo w x) lo' w' = field v lo' w' := by
  have hd : setField v lo w x / 2 ^ (lo + w) = v / 2 ^ (lo + w) := by
    rw [setField_split, Nat.add_mul_div_right _ _ (Nat.two_pow_pos _)]
    have hx : x % 2 ^ w ≤ 2 ^ w - 1 := Nat.le_sub_one_of_lt (Nat.mod_lt _ (Nat.two_pow_pos w))
    have ha := Nat.mod_lt v (Nat.two_pow_pos lo)
    have : v % 2 ^ lo + x % 2 ^ w * 2 ^ lo < 2 ^ (lo + w) := by
      have := Nat.mul_le_mul_right (2 ^ lo) hx
      have h2 : (2 ^ w - 1) * 2 ^ lo + 2 ^ lo = 2 ^ (lo + w) := by
        rw [Nat.pow_add, Nat.mul_comm (2 ^ lo), ← Nat.succ_mul]
        congr 1
        have := Nat.two_pow_pos w
        omega
      omega
    rw [Nat.div_eq_of_lt this, Nat.zero_add]
  obtain ⟨k, rfl⟩ := Nat.exists_eq_add_of_le h
  unfold field
  rw [Nat.pow_add 2 (lo + w) k, ← Nat.div_div_eq_div_mul, ← Nat.div_div_eq_div_mul, hd]

/-- A field does not see bits cut off above it. -/
theorem field_mod {v lo w b : Nat} (h : lo + w ≤ b) : field (v % 2 ^ b) lo w = field v lo w := by
  unfold field
  apply Nat.eq_of_testBit_eq
  intro i
  simp only [Nat.testBit_mod_two_pow, Nat.testBit_div_two_pow]
  by_cases hi : i < w
  · have : i + lo < b := by omega
    simp [hi, this]
  · simp [hi]

/-- A field below another that is set. -/
theorem field_setField_below (v : Nat) {lo w lo' w' : Nat} (x : Nat) (h : lo' + w' ≤ lo) : field (setField v lo w x) lo' w' = field v lo' w' := by
  have hm : setField v lo w x % 2 ^ lo = v % 2 ^ lo := by
    rw [setField_split]
    have : v % 2 ^ lo + x % 2 ^ w * 2 ^ lo + v / 2 ^ (lo + w) * 2 ^ (lo + w) = v % 2 ^ lo + (x % 2 ^ w + v / 2 ^ (lo + w) * 2 ^ w) * 2 ^ lo := by
      rw [Nat.pow_add]; ring
    rw [this, Nat.add_mul_mod_self_right, Nat.mod_mod]
  have key (u : Nat) : field u lo' w' = field (u % 2 ^ lo) lo' w' := (field_mod h).symm
  rw [key, hm, ← key]

theorem bitAt_eq_field (v i : Nat) : bitAt v i = (field v i 1 == 1) := rfl

@[simp] theorem b2n_mod (b : Bool) : b2n b % 2 = b2n b := by cases b <;> rfl

@[simp] theorem b2n_eq_one (b : Bool) : (b2n b == 1) = b := by cases b <;> rfl

/-! ### Registers -/

/-- A register reads what was written to it, cut to its width. -/
@[simp] theorem Dev.rd_wr_same (s : Dev) (r : Reg) (v : Nat) : (s.wr r v).rd r = v % 2 ^ r.bits := Tab.get_put_same ..

/-- A write leaves every other register alone. -/
theorem Dev.rd_wr_other (s : Dev) {r r' : Reg} (v : Nat) (h : r'.key ≠ r.key) : (s.wr r v).rd r' = s.rd r' := Tab.get_put_other _ _ _ h

@[simp] theorem Dev.rd_setF_same (s : Dev) (r : Reg) (lo w v : Nat) : (s.setF r lo w v).rd r = setField (s.rd r) lo w v % 2 ^ r.bits := Dev.rd_wr_same ..

theorem Dev.rd_setF_other (s : Dev) {r r' : Reg} (lo w v : Nat) (h : r'.key ≠ r.key) : (s.setF r lo w v).rd r' = s.rd r' := s.rd_wr_other _ h

theorem Dev.rd_setBit_other (s : Dev) {r r' : Reg} (i : Nat) (b : Bool) (h : r'.key ≠ r.key) : (s.setBit r i b).rd r' = s.rd r' := s.rd_wr_other _ h

@[simp] theorem Dev.rd_bump_same (s : Dev) (r : Reg) : (s.bump r).rd r = (s.rd r + 1) % 2 ^ r.bits := by
  simp [Dev.bump, Dev.bumpBy, wrapAdd]

@[simp] theorem Dev.rd_bumpBy_same (s : Dev) (r : Reg) (n : Nat) : (s.bumpBy r n).rd r = (s.rd r + n) % 2 ^ r.bits := by
  simp [Dev.bumpBy, wrapAdd]

theorem Dev.rd_bumpBy_other (s : Dev) {r r' : Reg} (n : Nat) (h : r'.key ≠ r.key) : (s.bumpBy r n).rd r' = s.rd r' := s.rd_wr_other _ h

theorem Dev.rd_bump_other (s : Dev) {r r' : Reg} (h : r'.key ≠ r.key) : (s.bump r).rd r' = s.rd r' := s.rd_wr_other _ h

theorem Dev.rd_bumpSat_other (s : Dev) {r r' : Reg} (n : Nat) (h : r'.key ≠ r.key) : (s.bumpSat r n).rd r' = s.rd r' := s.rd_wr_other _ h

theorem Dev.rd_raiseTo_other (s : Dev) {r r' : Reg} (v : Nat) (h : r'.key ≠ r.key) : (s.raiseTo r v).rd r' = s.rd r' := by
  unfold Dev.raiseTo
  split
  · exact s.rd_wr_other _ h
  · rfl

/-- A field of a register reads back as it was set. -/
theorem Dev.getF_setF_same (s : Dev) (r : Reg) {lo w : Nat} (v : Nat) (h : lo + w ≤ r.bits) : (s.setF r lo w v).getF r lo w = v % 2 ^ w := by
  simp only [Dev.getF, Dev.rd_setF_same]
  rw [field_mod h, field_setField_same]

/-- The other fields of the register are left alone. -/
theorem Dev.getF_setF_other (s : Dev) (r : Reg) {lo w lo' w' : Nat} (v : Nat) (h : lo' + w' ≤ lo ∨ lo + w ≤ lo') (hb : lo' + w' ≤ r.bits) :
    (s.setF r lo w v).getF r lo' w' = s.getF r lo' w' := by
  simp only [Dev.getF, Dev.rd_setF_same]
  rw [field_mod hb]
  rcases h with h | h
  · exact field_setField_below _ _ h
  · exact field_setField_above _ _ h

theorem Dev.bit_setBit_same (s : Dev) (r : Reg) {i : Nat} (b : Bool) (h : i < r.bits) : (s.setBit r i b).bit r i = b := by
  have := s.getF_setF_same r (lo := i) (w := 1) (b2n b) h
  simp only [Dev.getF] at this
  simp only [Dev.bit, Dev.setBit, bitAt_eq_field, this, pow_one, b2n_mod, b2n_eq_one]

theorem Dev.bit_setF_other (s : Dev) (r : Reg) {lo w i : Nat} (v : Nat) (h : i < lo ∨ lo + w ≤ i) (hb : i < r.bits) : (s.setF r lo w v).bit r i = s.bit r i := by
  have := s.getF_setF_other r (lo := lo) (w := w) (lo' := i) (w' := 1) v (by omega) (by omega)
  simp only [Dev.getF] at this
  simp only [Dev.bit, bitAt_eq_field, this]

theorem Dev.getF_setBit_other (s : Dev) (r : Reg) {i lo w : Nat} (b : Bool) (h : lo + w ≤ i ∨ i < lo) (hb : lo + w ≤ r.bits) :
    (s.setBit r i b).getF r lo w = s.getF r lo w := s.getF_setF_other r _ (by omega) hb

theorem Dev.getF_eq (s t : Dev) (r : Reg) (lo w : Nat) (h : s.rd r = t.rd r) : s.getF r lo w = t.getF r lo w := by simp [Dev.getF, h]

theorem Dev.bit_eq (s t : Dev) (r : Reg) (i : Nat) (h : s.rd r = t.rd r) : s.bit r i = t.bit r i := by simp [Dev.bit, h]

/-! ### Byte strings -/

@[simp] theorem Dev.blob_setBlob_same (s : Dev) (r : Reg) (bs : List Byte) : (s.setBlob r bs).blob r = bs := Tab.get_put_same ..

theorem Dev.blob_setBlob_other (s : Dev) {r r' : Reg} (bs : List Byte) (h : r'.key ≠ r.key) : (s.setBlob r bs).blob r' = s.blob r' := Tab.get_put_other _ _ _ h

@[simp] theorem Dev.blob_wr (s : Dev) (r r' : Reg) (v : Nat) : (s.wr r v).blob r' = s.blob r' := rfl

@[simp] theorem Dev.rd_setBlob (s : Dev) (r r' : Reg) (bs : List Byte) : (s.setBlob r bs).rd r' = s.rd r' := rfl

@[simp] theorem Dev.rd_emit (s : Dev) (o : Out) (r : Reg) : (s.emit o).rd r = s.rd r := rfl

@[simp] theorem Dev.blob_emit (s : Dev) (o : Out) (r : Reg) : (s.emit o).blob r = s.blob r := rfl

@[simp] theorem Dev.rd_drawn (s : Dev) (r : Reg) : s.drawn.rd r = s.rd r := rfl

@[simp] theorem Dev.blob_drawn (s : Dev) (r : Reg) : s.drawn.blob r = s.blob r := rfl

@[simp] theorem Dev.rd_meter (s : Dev) (r r' : Reg) (n : Nat) : (s.meter r n).rd r' = s.rd r' := rfl

@[simp] theorem Dev.out_emit (s : Dev) (o : Out) : (s.emit o).out = s.out ++ [o] := rfl

/-! ### Repetition -/

/-- What every round leaves alone, a repetition leaves alone. -/
theorem Dev.each_keeps {α : Type} (g : Dev → α) (n : Nat) (f : Nat → Dev → Dev) (h : ∀ i s, g (f i s) = g s) (s : Dev) : g (s.each n f) = g s := by
  unfold Dev.each loop
  generalize List.range n = l
  induction l generalizing s with
  | nil => rfl
  | cons i l ih => rw [List.foldl_cons, ih, h]

theorem foldl_keeps {α β γ : Type} (g : α → γ) (f : α → β → α) (h : ∀ a b, g (f a b) = g a) (l : List β) (a : α) : g (l.foldl f a) = g a := by
  induction l generalizing a with
  | nil => rfl
  | cons b l ih => rw [List.foldl_cons, ih, h]

/-- What every round keeps true, a fold keeps true. -/
theorem foldl_holds {α β : Type} (p : α → Prop) (f : α → β → α) (h : ∀ a b, p a → p (f a b)) (l : List β) {a : α} (ha : p a) : p (l.foldl f a) := by
  induction l generalizing a with
  | nil => exact ha
  | cons b l ih => exact ih (h a b ha)

theorem loop_holds {α : Type} (p : α → Prop) (n : Nat) (f : Nat → α → α) (h : ∀ i a, p a → p (f i a)) {a : α} (ha : p a) : p (loop n f a) :=
  foldl_holds p _ (fun a i => h i a) _ ha

end Sys2Proof.Machine
end

