-- ==== Sys2Proof/Laws/State.lean ====
section
/-! SUPPORT. What each named update of the device leaves alone, field by field. -/

namespace Sys2Proof.Machine

open Sys2Proof

/-! ### A register written -/

@[simp] theorem Dev.wr_blobs (s : Dev) (r : Reg) (v : Nat) : (s.wr r v).blobs = s.blobs := rfl
@[simp] theorem Dev.wr_out (s : Dev) (r : Reg) (v : Nat) : (s.wr r v).out = s.out := rfl
@[simp] theorem Dev.wr_free (s : Dev) (r : Reg) (v : Nat) : (s.wr r v).free = s.free := rfl
@[simp] theorem Dev.wr_f (s : Dev) (r : Reg) (v : Nat) : (s.wr r v).f = s.f := rfl
@[simp] theorem Dev.wr_aon (s : Dev) (r : Reg) (v : Nat) : (s.wr r v).aon = s.aon := rfl
@[simp] theorem Dev.wr_aonPhase (s : Dev) (r : Reg) (v : Nat) : (s.wr r v).aonPhase = s.aonPhase := rfl
@[simp] theorem Dev.wr_f0 (s : Dev) (r : Reg) (v : Nat) : (s.wr r v).f0 = s.f0 := rfl
@[simp] theorem Dev.wr_a0 (s : Dev) (r : Reg) (v : Nat) : (s.wr r v).a0 = s.a0 := rfl
@[simp] theorem Dev.wr_unbridged (s : Dev) (r : Reg) (v : Nat) : (s.wr r v).unbridged = s.unbridged := rfl
@[simp] theorem Dev.wr_entryWait (s : Dev) (r : Reg) (v : Nat) : (s.wr r v).entryWait = s.entryWait := rfl
@[simp] theorem Dev.wr_stopped (s : Dev) (r : Reg) (v : Nat) : (s.wr r v).stopped = s.stopped := rfl
@[simp] theorem Dev.wr_holdoverF (s : Dev) (r : Reg) (v : Nat) : (s.wr r v).holdoverF = s.holdoverF := rfl
@[simp] theorem Dev.wr_cmpFromF (s : Dev) (r : Reg) (v : Nat) : (s.wr r v).cmpFromF = s.cmpFromF := rfl
@[simp] theorem Dev.wr_lockRun (s : Dev) (r : Reg) (v : Nat) : (s.wr r v).lockRun = s.lockRun := rfl
@[simp] theorem Dev.wr_trigs (s : Dev) (r : Reg) (v : Nat) : (s.wr r v).trigs = s.trigs := rfl
@[simp] theorem Dev.wr_caps (s : Dev) (r : Reg) (v : Nat) : (s.wr r v).caps = s.caps := rfl
@[simp] theorem Dev.wr_clocks (s : Dev) (r : Reg) (v : Nat) : (s.wr r v).clocks = s.clocks := rfl
@[simp] theorem Dev.wr_reconvert (s : Dev) (r : Reg) (v : Nat) : (s.wr r v).reconvert = s.reconvert := rfl
@[simp] theorem Dev.wr_residence (s : Dev) (r : Reg) (v : Nat) : (s.wr r v).residence = s.residence := rfl
@[simp] theorem Dev.wr_ptpParent (s : Dev) (r : Reg) (v : Nat) : (s.wr r v).ptpParent = s.ptpParent := rfl
@[simp] theorem Dev.wr_skewDraws (s : Dev) (r : Reg) (v : Nat) : (s.wr r v).skewDraws = s.skewDraws := rfl
@[simp] theorem Dev.wr_meters (s : Dev) (r : Reg) (v : Nat) : (s.wr r v).meters = s.meters := rfl
@[simp] theorem Dev.wr_alive (s : Dev) (r : Reg) (v : Nat) : (s.wr r v).alive = s.alive := rfl
@[simp] theorem Dev.wr_frozen (s : Dev) (r : Reg) (v : Nat) : (s.wr r v).frozen = s.frozen := rfl
@[simp] theorem Dev.wr_freezeF (s : Dev) (r : Reg) (v : Nat) : (s.wr r v).freezeF = s.freezeF := rfl
@[simp] theorem Dev.wr_freezes (s : Dev) (r : Reg) (v : Nat) : (s.wr r v).freezes = s.freezes := rfl
@[simp] theorem Dev.wr_frozenNs (s : Dev) (r : Reg) (v : Nat) : (s.wr r v).frozenNs = s.frozenNs := rfl
@[simp] theorem Dev.wr_held (s : Dev) (r : Reg) (v : Nat) : (s.wr r v).held = s.held := rfl
@[simp] theorem Dev.wr_transfers (s : Dev) (r : Reg) (v : Nat) : (s.wr r v).transfers = s.transfers := rfl
@[simp] theorem Dev.wr_abandoned (s : Dev) (r : Reg) (v : Nat) : (s.wr r v).abandoned = s.abandoned := rfl
@[simp] theorem Dev.wr_mailboxes (s : Dev) (r : Reg) (v : Nat) : (s.wr r v).mailboxes = s.mailboxes := rfl
@[simp] theorem Dev.wr_discarded (s : Dev) (r : Reg) (v : Nat) : (s.wr r v).discarded = s.discarded := rfl
@[simp] theorem Dev.wr_stillAck (s : Dev) (r : Reg) (v : Nat) : (s.wr r v).stillAck = s.stillAck := rfl
@[simp] theorem Dev.wr_resumeF (s : Dev) (r : Reg) (v : Nat) : (s.wr r v).resumeF = s.resumeF := rfl
@[simp] theorem Dev.wr_bootWait (s : Dev) (r : Reg) (v : Nat) : (s.wr r v).bootWait = s.bootWait := rfl
@[simp] theorem Dev.wr_pufOk (s : Dev) (r : Reg) (v : Nat) : (s.wr r v).pufOk = s.pufOk := rfl
@[simp] theorem Dev.wr_tapAddr (s : Dev) (r : Reg) (v : Nat) : (s.wr r v).tapAddr = s.tapAddr := rfl
@[simp] theorem Dev.wr_ferries (s : Dev) (r : Reg) (v : Nat) : (s.wr r v).ferries = s.ferries := rfl
@[simp] theorem Dev.wr_starts (s : Dev) (r : Reg) (v : Nat) : (s.wr r v).starts = s.starts := rfl
@[simp] theorem Dev.wr_heldStarts (s : Dev) (r : Reg) (v : Nat) : (s.wr r v).heldStarts = s.heldStarts := rfl
@[simp] theorem Dev.wr_edcRepeats (s : Dev) (r : Reg) (v : Nat) : (s.wr r v).edcRepeats = s.edcRepeats := rfl
@[simp] theorem Dev.wr_gddrUncorr (s : Dev) (r : Reg) (v : Nat) : (s.wr r v).gddrUncorr = s.gddrUncorr := rfl
@[simp] theorem Dev.wr_coolMs (s : Dev) (r : Reg) (v : Nat) : (s.wr r v).coolMs = s.coolMs := rfl
@[simp] theorem Dev.wr_lastTick (s : Dev) (r : Reg) (v : Nat) : (s.wr r v).lastTick = s.lastTick := rfl
@[simp] theorem Dev.wr_confFullF (s : Dev) (r : Reg) (v : Nat) : (s.wr r v).confFullF = s.confFullF := rfl
@[simp] theorem Dev.wr_confFullNs (s : Dev) (r : Reg) (v : Nat) : (s.wr r v).confFullNs = s.confFullNs := rfl
@[simp] theorem Dev.wr_moved (s : Dev) (r : Reg) (v : Nat) : (s.wr r v).moved = s.moved := rfl
@[simp] theorem Dev.wr_filled (s : Dev) (r : Reg) (v : Nat) : (s.wr r v).filled = s.filled := rfl
@[simp] theorem Dev.wr_failedFirst (s : Dev) (r : Reg) (v : Nat) : (s.wr r v).failedFirst = s.failedFirst := rfl
@[simp] theorem Dev.wr_mirrorTurn (s : Dev) (r : Reg) (v : Nat) : (s.wr r v).mirrorTurn = s.mirrorTurn := rfl
@[simp] theorem Dev.wr_plans (s : Dev) (r : Reg) (v : Nat) : (s.wr r v).plans = s.plans := rfl
@[simp] theorem Dev.wr_phaseReq (s : Dev) (r : Reg) (v : Nat) : (s.wr r v).phaseReq = s.phaseReq := rfl
@[simp] theorem Dev.wr_planPhases (s : Dev) (r : Reg) (v : Nat) : (s.wr r v).planPhases = s.planPhases := rfl
@[simp] theorem Dev.wr_allocs (s : Dev) (r : Reg) (v : Nat) : (s.wr r v).allocs = s.allocs := rfl
@[simp] theorem Dev.wr_pops (s : Dev) (r : Reg) (v : Nat) : (s.wr r v).pops = s.pops := rfl
@[simp] theorem Dev.wr_neurons (s : Dev) (r : Reg) (v : Nat) : (s.wr r v).neurons = s.neurons := rfl
@[simp] theorem Dev.wr_accs (s : Dev) (r : Reg) (v : Nat) : (s.wr r v).accs = s.accs := rfl
@[simp] theorem Dev.wr_residues (s : Dev) (r : Reg) (v : Nat) : (s.wr r v).residues = s.residues := rfl
@[simp] theorem Dev.wr_neuronBad (s : Dev) (r : Reg) (v : Nat) : (s.wr r v).neuronBad = s.neuronBad := rfl
@[simp] theorem Dev.wr_counts (s : Dev) (r : Reg) (v : Nat) : (s.wr r v).counts = s.counts := rfl
@[simp] theorem Dev.wr_layers (s : Dev) (r : Reg) (v : Nat) : (s.wr r v).layers = s.layers := rfl
@[simp] theorem Dev.wr_lfsr (s : Dev) (r : Reg) (v : Nat) : (s.wr r v).lfsr = s.lfsr := rfl
@[simp] theorem Dev.wr_phaseSeed (s : Dev) (r : Reg) (v : Nat) : (s.wr r v).phaseSeed = s.phaseSeed := rfl
@[simp] theorem Dev.wr_unitF (s : Dev) (r : Reg) (v : Nat) : (s.wr r v).unitF = s.unitF := rfl
@[simp] theorem Dev.wr_sedLive (s : Dev) (r : Reg) (v : Nat) : (s.wr r v).sedLive = s.sedLive := rfl
@[simp] theorem Dev.wr_sedShadow (s : Dev) (r : Reg) (v : Nat) : (s.wr r v).sedShadow = s.sedShadow := rfl
@[simp] theorem Dev.wr_powerOn (s : Dev) (r : Reg) (v : Nat) : (s.wr r v).powerOn = s.powerOn := rfl
@[simp] theorem Dev.wr_mram0 (s : Dev) (r : Reg) (v : Nat) : (s.wr r v).mram0 = s.mram0 := rfl
@[simp] theorem Dev.wr_mram1 (s : Dev) (r : Reg) (v : Nat) : (s.wr r v).mram1 = s.mram1 := rfl
@[simp] theorem Dev.wr_sedFuse (s : Dev) (r : Reg) (v : Nat) : (s.wr r v).sedFuse = s.sedFuse := rfl
@[simp] theorem Dev.wr_commitReason (s : Dev) (r : Reg) (v : Nat) : (s.wr r v).commitReason = s.commitReason := rfl
@[simp] theorem Dev.wr_rateSeen (s : Dev) (r : Reg) (v : Nat) : (s.wr r v).rateSeen = s.rateSeen := rfl
@[simp] theorem Dev.wr_sedTickAon (s : Dev) (r : Reg) (v : Nat) : (s.wr r v).sedTickAon = s.sedTickAon := rfl
@[simp] theorem Dev.wr_commitF (s : Dev) (r : Reg) (v : Nat) : (s.wr r v).commitF = s.commitF := rfl
@[simp] theorem Dev.wr_commitBytes (s : Dev) (r : Reg) (v : Nat) : (s.wr r v).commitBytes = s.commitBytes := rfl
@[simp] theorem Dev.wr_weirs (s : Dev) (r : Reg) (v : Nat) : (s.wr r v).weirs = s.weirs := rfl
@[simp] theorem Dev.wr_waits (s : Dev) (r : Reg) (v : Nat) : (s.wr r v).waits = s.waits := rfl
@[simp] theorem Dev.wr_sess (s : Dev) (r : Reg) (v : Nat) : (s.wr r v).sess = s.sess := rfl
@[simp] theorem Dev.wr_chans (s : Dev) (r : Reg) (v : Nat) : (s.wr r v).chans = s.chans := rfl
@[simp] theorem Dev.wr_tenantHoldF (s : Dev) (r : Reg) (v : Nat) : (s.wr r v).tenantHoldF = s.tenantHoldF := rfl
@[simp] theorem Dev.wr_lldpNeighbour (s : Dev) (r : Reg) (v : Nat) : (s.wr r v).lldpNeighbour = s.lldpNeighbour := rfl
@[simp] theorem Dev.wr_detachF (s : Dev) (r : Reg) (v : Nat) : (s.wr r v).detachF = s.detachF := rfl
@[simp] theorem Dev.wr_faultQ (s : Dev) (r : Reg) (v : Nat) : (s.wr r v).faultQ = s.faultQ := rfl
@[simp] theorem Dev.wr_planFaultMs (s : Dev) (r : Reg) (v : Nat) : (s.wr r v).planFaultMs = s.planFaultMs := rfl
@[simp] theorem Dev.wr_alertFault (s : Dev) (r : Reg) (v : Nat) : (s.wr r v).alertFault = s.alertFault := rfl
@[simp] theorem Dev.wr_unitMap (s : Dev) (r : Reg) (v : Nat) : (s.wr r v).unitMap = s.unitMap := rfl
@[simp] theorem Dev.wr_poisonMs (s : Dev) (r : Reg) (v : Nat) : (s.wr r v).poisonMs = s.poisonMs := rfl
@[simp] theorem Dev.wr_pathRecalF (s : Dev) (r : Reg) (v : Nat) : (s.wr r v).pathRecalF = s.pathRecalF := rfl
@[simp] theorem Dev.wr_linkMs (s : Dev) (r : Reg) (v : Nat) : (s.wr r v).linkMs = s.linkMs := rfl
@[simp] theorem Dev.wr_linkRetrainF (s : Dev) (r : Reg) (v : Nat) : (s.wr r v).linkRetrainF = s.linkRetrainF := rfl
@[simp] theorem Dev.wr_streams (s : Dev) (r : Reg) (v : Nat) : (s.wr r v).streams = s.streams := rfl
@[simp] theorem Dev.wr_spillWin (s : Dev) (r : Reg) (v : Nat) : (s.wr r v).spillWin = s.spillWin := rfl
@[simp] theorem Dev.wr_spillMoved (s : Dev) (r : Reg) (v : Nat) : (s.wr r v).spillMoved = s.spillMoved := rfl
@[simp] theorem Dev.wr_mere (s : Dev) (r : Reg) (v : Nat) : (s.wr r v).mere = s.mere := rfl
@[simp] theorem Dev.wr_mereBad (s : Dev) (r : Reg) (v : Nat) : (s.wr r v).mereBad = s.mereBad := rfl
@[simp] theorem Dev.wr_parityRun (s : Dev) (r : Reg) (v : Nat) : (s.wr r v).parityRun = s.parityRun := rfl
@[simp] theorem Dev.wr_sweepPos (s : Dev) (r : Reg) (v : Nat) : (s.wr r v).sweepPos = s.sweepPos := rfl
@[simp] theorem Dev.wr_transit (s : Dev) (r : Reg) (v : Nat) : (s.wr r v).transit = s.transit := rfl
@[simp] theorem Dev.wr_routeHold (s : Dev) (r : Reg) (v : Nat) : (s.wr r v).routeHold = s.routeHold := rfl
@[simp] theorem Dev.wr_eddyTurn (s : Dev) (r : Reg) (v : Nat) : (s.wr r v).eddyTurn = s.eddyTurn := rfl
@[simp] theorem Dev.wr_sluices (s : Dev) (r : Reg) (v : Nat) : (s.wr r v).sluices = s.sluices := rfl
@[simp] theorem Dev.wr_regions (s : Dev) (r : Reg) (v : Nat) : (s.wr r v).regions = s.regions := rfl
@[simp] theorem Dev.wr_marches (s : Dev) (r : Reg) (v : Nat) : (s.wr r v).marches = s.marches := rfl
@[simp] theorem Dev.wr_padUncorr (s : Dev) (r : Reg) (v : Nat) : (s.wr r v).padUncorr = s.padUncorr := rfl
@[simp] theorem Dev.wr_silted (s : Dev) (r : Reg) (v : Nat) : (s.wr r v).silted = s.silted := rfl
@[simp] theorem Dev.wr_spareBits (s : Dev) (r : Reg) (v : Nat) : (s.wr r v).spareBits = s.spareBits := rfl
@[simp] theorem Dev.wr_doms (s : Dev) (r : Reg) (v : Nat) : (s.wr r v).doms = s.doms := rfl
@[simp] theorem Dev.wr_wakeIns (s : Dev) (r : Reg) (v : Nat) : (s.wr r v).wakeIns = s.wakeIns := rfl
@[simp] theorem Dev.wr_baseOff (s : Dev) (r : Reg) (v : Nat) : (s.wr r v).baseOff = s.baseOff := rfl
@[simp] theorem Dev.wr_thermtrip (s : Dev) (r : Reg) (v : Nat) : (s.wr r v).thermtrip = s.thermtrip := rfl
@[simp] theorem Dev.wr_hotDies (s : Dev) (r : Reg) (v : Nat) : (s.wr r v).hotDies = s.hotDies := rfl
@[simp] theorem Dev.wr_tjLast (s : Dev) (r : Reg) (v : Nat) : (s.wr r v).tjLast = s.tjLast := rfl
@[simp] theorem Dev.wr_alertRecovery (s : Dev) (r : Reg) (v : Nat) : (s.wr r v).alertRecovery = s.alertRecovery := rfl
@[simp] theorem Dev.wr_rimFrames (s : Dev) (r : Reg) (v : Nat) : (s.wr r v).rimFrames = s.rimFrames := rfl
@[simp] theorem Dev.wr_paces (s : Dev) (r : Reg) (v : Nat) : (s.wr r v).paces = s.paces := rfl
@[simp] theorem Dev.wr_rails (s : Dev) (r : Reg) (v : Nat) : (s.wr r v).rails = s.rails := rfl
@[simp] theorem Dev.wr_deviceKey (s : Dev) (r : Reg) (v : Nat) : (s.wr r v).deviceKey = s.deviceKey := rfl
@[simp] theorem Dev.wr_dataKeys (s : Dev) (r : Reg) (v : Nat) : (s.wr r v).dataKeys = s.dataKeys := rfl
@[simp] theorem Dev.wr_exchanges (s : Dev) (r : Reg) (v : Nat) : (s.wr r v).exchanges = s.exchanges := rfl
@[simp] theorem Dev.wr_trngPass (s : Dev) (r : Reg) (v : Nat) : (s.wr r v).trngPass = s.trngPass := rfl
@[simp] theorem Dev.wr_reeds (s : Dev) (r : Reg) (v : Nat) : (s.wr r v).reeds = s.reeds := rfl
@[simp] theorem Dev.wr_spis (s : Dev) (r : Reg) (v : Nat) : (s.wr r v).spis = s.spis := rfl
@[simp] theorem Dev.wr_fines (s : Dev) (r : Reg) (v : Nat) : (s.wr r v).fines = s.fines := rfl
@[simp] theorem Dev.wr_fusion (s : Dev) (r : Reg) (v : Nat) : (s.wr r v).fusion = s.fusion := rfl

/-! ### A register at its default -/

@[simp] theorem Dev.clear_blobs (s : Dev) (r : Reg) : (s.clear r).blobs = s.blobs := rfl
@[simp] theorem Dev.clear_out (s : Dev) (r : Reg) : (s.clear r).out = s.out := rfl
@[simp] theorem Dev.clear_free (s : Dev) (r : Reg) : (s.clear r).free = s.free := rfl
@[simp] theorem Dev.clear_f (s : Dev) (r : Reg) : (s.clear r).f = s.f := rfl
@[simp] theorem Dev.clear_aon (s : Dev) (r : Reg) : (s.clear r).aon = s.aon := rfl
@[simp] theorem Dev.clear_aonPhase (s : Dev) (r : Reg) : (s.clear r).aonPhase = s.aonPhase := rfl
@[simp] theorem Dev.clear_f0 (s : Dev) (r : Reg) : (s.clear r).f0 = s.f0 := rfl
@[simp] theorem Dev.clear_a0 (s : Dev) (r : Reg) : (s.clear r).a0 = s.a0 := rfl
@[simp] theorem Dev.clear_unbridged (s : Dev) (r : Reg) : (s.clear r).unbridged = s.unbridged := rfl
@[simp] theorem Dev.clear_entryWait (s : Dev) (r : Reg) : (s.clear r).entryWait = s.entryWait := rfl
@[simp] theorem Dev.clear_stopped (s : Dev) (r : Reg) : (s.clear r).stopped = s.stopped := rfl
@[simp] theorem Dev.clear_holdoverF (s : Dev) (r : Reg) : (s.clear r).holdoverF = s.holdoverF := rfl
@[simp] theorem Dev.clear_cmpFromF (s : Dev) (r : Reg) : (s.clear r).cmpFromF = s.cmpFromF := rfl
@[simp] theorem Dev.clear_lockRun (s : Dev) (r : Reg) : (s.clear r).lockRun = s.lockRun := rfl
@[simp] theorem Dev.clear_trigs (s : Dev) (r : Reg) : (s.clear r).trigs = s.trigs := rfl
@[simp] theorem Dev.clear_caps (s : Dev) (r : Reg) : (s.clear r).caps = s.caps := rfl
@[simp] theorem Dev.clear_clocks (s : Dev) (r : Reg) : (s.clear r).clocks = s.clocks := rfl
@[simp] theorem Dev.clear_reconvert (s : Dev) (r : Reg) : (s.clear r).reconvert = s.reconvert := rfl
@[simp] theorem Dev.clear_residence (s : Dev) (r : Reg) : (s.clear r).residence = s.residence := rfl
@[simp] theorem Dev.clear_ptpParent (s : Dev) (r : Reg) : (s.clear r).ptpParent = s.ptpParent := rfl
@[simp] theorem Dev.clear_skewDraws (s : Dev) (r : Reg) : (s.clear r).skewDraws = s.skewDraws := rfl
@[simp] theorem Dev.clear_meters (s : Dev) (r : Reg) : (s.clear r).meters = s.meters := rfl
@[simp] theorem Dev.clear_alive (s : Dev) (r : Reg) : (s.clear r).alive = s.alive := rfl
@[simp] theorem Dev.clear_frozen (s : Dev) (r : Reg) : (s.clear r).frozen = s.frozen := rfl
@[simp] theorem Dev.clear_freezeF (s : Dev) (r : Reg) : (s.clear r).freezeF = s.freezeF := rfl
@[simp] theorem Dev.clear_freezes (s : Dev) (r : Reg) : (s.clear r).freezes = s.freezes := rfl
@[simp] theorem Dev.clear_frozenNs (s : Dev) (r : Reg) : (s.clear r).frozenNs = s.frozenNs := rfl
@[simp] theorem Dev.clear_held (s : Dev) (r : Reg) : (s.clear r).held = s.held := rfl
@[simp] theorem Dev.clear_transfers (s : Dev) (r : Reg) : (s.clear r).transfers = s.transfers := rfl
@[simp] theorem Dev.clear_abandoned (s : Dev) (r : Reg) : (s.clear r).abandoned = s.abandoned := rfl
@[simp] theorem Dev.clear_mailboxes (s : Dev) (r : Reg) : (s.clear r).mailboxes = s.mailboxes := rfl
@[simp] theorem Dev.clear_discarded (s : Dev) (r : Reg) : (s.clear r).discarded = s.discarded := rfl
@[simp] theorem Dev.clear_stillAck (s : Dev) (r : Reg) : (s.clear r).stillAck = s.stillAck := rfl
@[simp] theorem Dev.clear_resumeF (s : Dev) (r : Reg) : (s.clear r).resumeF = s.resumeF := rfl
@[simp] theorem Dev.clear_bootWait (s : Dev) (r : Reg) : (s.clear r).bootWait = s.bootWait := rfl
@[simp] theorem Dev.clear_pufOk (s : Dev) (r : Reg) : (s.clear r).pufOk = s.pufOk := rfl
@[simp] theorem Dev.clear_tapAddr (s : Dev) (r : Reg) : (s.clear r).tapAddr = s.tapAddr := rfl
@[simp] theorem Dev.clear_ferries (s : Dev) (r : Reg) : (s.clear r).ferries = s.ferries := rfl
@[simp] theorem Dev.clear_starts (s : Dev) (r : Reg) : (s.clear r).starts = s.starts := rfl
@[simp] theorem Dev.clear_heldStarts (s : Dev) (r : Reg) : (s.clear r).heldStarts = s.heldStarts := rfl
@[simp] theorem Dev.clear_edcRepeats (s : Dev) (r : Reg) : (s.clear r).edcRepeats = s.edcRepeats := rfl
@[simp] theorem Dev.clear_gddrUncorr (s : Dev) (r : Reg) : (s.clear r).gddrUncorr = s.gddrUncorr := rfl
@[simp] theorem Dev.clear_coolMs (s : Dev) (r : Reg) : (s.clear r).coolMs = s.coolMs := rfl
@[simp] theorem Dev.clear_lastTick (s : Dev) (r : Reg) : (s.clear r).lastTick = s.lastTick := rfl
@[simp] theorem Dev.clear_confFullF (s : Dev) (r : Reg) : (s.clear r).confFullF = s.confFullF := rfl
@[simp] theorem Dev.clear_confFullNs (s : Dev) (r : Reg) : (s.clear r).confFullNs = s.confFullNs := rfl
@[simp] theorem Dev.clear_moved (s : Dev) (r : Reg) : (s.clear r).moved = s.moved := rfl
@[simp] theorem Dev.clear_filled (s : Dev) (r : Reg) : (s.clear r).filled = s.filled := rfl
@[simp] theorem Dev.clear_failedFirst (s : Dev) (r : Reg) : (s.clear r).failedFirst = s.failedFirst := rfl
@[simp] theorem Dev.clear_mirrorTurn (s : Dev) (r : Reg) : (s.clear r).mirrorTurn = s.mirrorTurn := rfl
@[simp] theorem Dev.clear_plans (s : Dev) (r : Reg) : (s.clear r).plans = s.plans := rfl
@[simp] theorem Dev.clear_phaseReq (s : Dev) (r : Reg) : (s.clear r).phaseReq = s.phaseReq := rfl
@[simp] theorem Dev.clear_planPhases (s : Dev) (r : Reg) : (s.clear r).planPhases = s.planPhases := rfl
@[simp] theorem Dev.clear_allocs (s : Dev) (r : Reg) : (s.clear r).allocs = s.allocs := rfl
@[simp] theorem Dev.clear_pops (s : Dev) (r : Reg) : (s.clear r).pops = s.pops := rfl
@[simp] theorem Dev.clear_neurons (s : Dev) (r : Reg) : (s.clear r).neurons = s.neurons := rfl
@[simp] theorem Dev.clear_accs (s : Dev) (r : Reg) : (s.clear r).accs = s.accs := rfl
@[simp] theorem Dev.clear_residues (s : Dev) (r : Reg) : (s.clear r).residues = s.residues := rfl
@[simp] theorem Dev.clear_neuronBad (s : Dev) (r : Reg) : (s.clear r).neuronBad = s.neuronBad := rfl
@[simp] theorem Dev.clear_counts (s : Dev) (r : Reg) : (s.clear r).counts = s.counts := rfl
@[simp] theorem Dev.clear_layers (s : Dev) (r : Reg) : (s.clear r).layers = s.layers := rfl
@[simp] theorem Dev.clear_lfsr (s : Dev) (r : Reg) : (s.clear r).lfsr = s.lfsr := rfl
@[simp] theorem Dev.clear_phaseSeed (s : Dev) (r : Reg) : (s.clear r).phaseSeed = s.phaseSeed := rfl
@[simp] theorem Dev.clear_unitF (s : Dev) (r : Reg) : (s.clear r).unitF = s.unitF := rfl
@[simp] theorem Dev.clear_sedLive (s : Dev) (r : Reg) : (s.clear r).sedLive = s.sedLive := rfl
@[simp] theorem Dev.clear_sedShadow (s : Dev) (r : Reg) : (s.clear r).sedShadow = s.sedShadow := rfl
@[simp] theorem Dev.clear_powerOn (s : Dev) (r : Reg) : (s.clear r).powerOn = s.powerOn := rfl
@[simp] theorem Dev.clear_mram0 (s : Dev) (r : Reg) : (s.clear r).mram0 = s.mram0 := rfl
@[simp] theorem Dev.clear_mram1 (s : Dev) (r : Reg) : (s.clear r).mram1 = s.mram1 := rfl
@[simp] theorem Dev.clear_sedFuse (s : Dev) (r : Reg) : (s.clear r).sedFuse = s.sedFuse := rfl
@[simp] theorem Dev.clear_commitReason (s : Dev) (r : Reg) : (s.clear r).commitReason = s.commitReason := rfl
@[simp] theorem Dev.clear_rateSeen (s : Dev) (r : Reg) : (s.clear r).rateSeen = s.rateSeen := rfl
@[simp] theorem Dev.clear_sedTickAon (s : Dev) (r : Reg) : (s.clear r).sedTickAon = s.sedTickAon := rfl
@[simp] theorem Dev.clear_commitF (s : Dev) (r : Reg) : (s.clear r).commitF = s.commitF := rfl
@[simp] theorem Dev.clear_commitBytes (s : Dev) (r : Reg) : (s.clear r).commitBytes = s.commitBytes := rfl
@[simp] theorem Dev.clear_weirs (s : Dev) (r : Reg) : (s.clear r).weirs = s.weirs := rfl
@[simp] theorem Dev.clear_waits (s : Dev) (r : Reg) : (s.clear r).waits = s.waits := rfl
@[simp] theorem Dev.clear_sess (s : Dev) (r : Reg) : (s.clear r).sess = s.sess := rfl
@[simp] theorem Dev.clear_chans (s : Dev) (r : Reg) : (s.clear r).chans = s.chans := rfl
@[simp] theorem Dev.clear_tenantHoldF (s : Dev) (r : Reg) : (s.clear r).tenantHoldF = s.tenantHoldF := rfl
@[simp] theorem Dev.clear_lldpNeighbour (s : Dev) (r : Reg) : (s.clear r).lldpNeighbour = s.lldpNeighbour := rfl
@[simp] theorem Dev.clear_detachF (s : Dev) (r : Reg) : (s.clear r).detachF = s.detachF := rfl
@[simp] theorem Dev.clear_faultQ (s : Dev) (r : Reg) : (s.clear r).faultQ = s.faultQ := rfl
@[simp] theorem Dev.clear_planFaultMs (s : Dev) (r : Reg) : (s.clear r).planFaultMs = s.planFaultMs := rfl
@[simp] theorem Dev.clear_alertFault (s : Dev) (r : Reg) : (s.clear r).alertFault = s.alertFault := rfl
@[simp] theorem Dev.clear_unitMap (s : Dev) (r : Reg) : (s.clear r).unitMap = s.unitMap := rfl
@[simp] theorem Dev.clear_poisonMs (s : Dev) (r : Reg) : (s.clear r).poisonMs = s.poisonMs := rfl
@[simp] theorem Dev.clear_pathRecalF (s : Dev) (r : Reg) : (s.clear r).pathRecalF = s.pathRecalF := rfl
@[simp] theorem Dev.clear_linkMs (s : Dev) (r : Reg) : (s.clear r).linkMs = s.linkMs := rfl
@[simp] theorem Dev.clear_linkRetrainF (s : Dev) (r : Reg) : (s.clear r).linkRetrainF = s.linkRetrainF := rfl
@[simp] theorem Dev.clear_streams (s : Dev) (r : Reg) : (s.clear r).streams = s.streams := rfl
@[simp] theorem Dev.clear_spillWin (s : Dev) (r : Reg) : (s.clear r).spillWin = s.spillWin := rfl
@[simp] theorem Dev.clear_spillMoved (s : Dev) (r : Reg) : (s.clear r).spillMoved = s.spillMoved := rfl
@[simp] theorem Dev.clear_mere (s : Dev) (r : Reg) : (s.clear r).mere = s.mere := rfl
@[simp] theorem Dev.clear_mereBad (s : Dev) (r : Reg) : (s.clear r).mereBad = s.mereBad := rfl
@[simp] theorem Dev.clear_parityRun (s : Dev) (r : Reg) : (s.clear r).parityRun = s.parityRun := rfl
@[simp] theorem Dev.clear_sweepPos (s : Dev) (r : Reg) : (s.clear r).sweepPos = s.sweepPos := rfl
@[simp] theorem Dev.clear_transit (s : Dev) (r : Reg) : (s.clear r).transit = s.transit := rfl
@[simp] theorem Dev.clear_routeHold (s : Dev) (r : Reg) : (s.clear r).routeHold = s.routeHold := rfl
@[simp] theorem Dev.clear_eddyTurn (s : Dev) (r : Reg) : (s.clear r).eddyTurn = s.eddyTurn := rfl
@[simp] theorem Dev.clear_sluices (s : Dev) (r : Reg) : (s.clear r).sluices = s.sluices := rfl
@[simp] theorem Dev.clear_regions (s : Dev) (r : Reg) : (s.clear r).regions = s.regions := rfl
@[simp] theorem Dev.clear_marches (s : Dev) (r : Reg) : (s.clear r).marches = s.marches := rfl
@[simp] theorem Dev.clear_padUncorr (s : Dev) (r : Reg) : (s.clear r).padUncorr = s.padUncorr := rfl
@[simp] theorem Dev.clear_silted (s : Dev) (r : Reg) : (s.clear r).silted = s.silted := rfl
@[simp] theorem Dev.clear_spareBits (s : Dev) (r : Reg) : (s.clear r).spareBits = s.spareBits := rfl
@[simp] theorem Dev.clear_doms (s : Dev) (r : Reg) : (s.clear r).doms = s.doms := rfl
@[simp] theorem Dev.clear_wakeIns (s : Dev) (r : Reg) : (s.clear r).wakeIns = s.wakeIns := rfl
@[simp] theorem Dev.clear_baseOff (s : Dev) (r : Reg) : (s.clear r).baseOff = s.baseOff := rfl
@[simp] theorem Dev.clear_thermtrip (s : Dev) (r : Reg) : (s.clear r).thermtrip = s.thermtrip := rfl
@[simp] theorem Dev.clear_hotDies (s : Dev) (r : Reg) : (s.clear r).hotDies = s.hotDies := rfl
@[simp] theorem Dev.clear_tjLast (s : Dev) (r : Reg) : (s.clear r).tjLast = s.tjLast := rfl
@[simp] theorem Dev.clear_alertRecovery (s : Dev) (r : Reg) : (s.clear r).alertRecovery = s.alertRecovery := rfl
@[simp] theorem Dev.clear_rimFrames (s : Dev) (r : Reg) : (s.clear r).rimFrames = s.rimFrames := rfl
@[simp] theorem Dev.clear_paces (s : Dev) (r : Reg) : (s.clear r).paces = s.paces := rfl
@[simp] theorem Dev.clear_rails (s : Dev) (r : Reg) : (s.clear r).rails = s.rails := rfl
@[simp] theorem Dev.clear_deviceKey (s : Dev) (r : Reg) : (s.clear r).deviceKey = s.deviceKey := rfl
@[simp] theorem Dev.clear_dataKeys (s : Dev) (r : Reg) : (s.clear r).dataKeys = s.dataKeys := rfl
@[simp] theorem Dev.clear_exchanges (s : Dev) (r : Reg) : (s.clear r).exchanges = s.exchanges := rfl
@[simp] theorem Dev.clear_trngPass (s : Dev) (r : Reg) : (s.clear r).trngPass = s.trngPass := rfl
@[simp] theorem Dev.clear_reeds (s : Dev) (r : Reg) : (s.clear r).reeds = s.reeds := rfl
@[simp] theorem Dev.clear_spis (s : Dev) (r : Reg) : (s.clear r).spis = s.spis := rfl
@[simp] theorem Dev.clear_fines (s : Dev) (r : Reg) : (s.clear r).fines = s.fines := rfl
@[simp] theorem Dev.clear_fusion (s : Dev) (r : Reg) : (s.clear r).fusion = s.fusion := rfl

/-! ### A field written -/

@[simp] theorem Dev.setF_blobs (s : Dev) (r : Reg) (lo w v : Nat) : (s.setF r lo w v).blobs = s.blobs := rfl
@[simp] theorem Dev.setF_out (s : Dev) (r : Reg) (lo w v : Nat) : (s.setF r lo w v).out = s.out := rfl
@[simp] theorem Dev.setF_free (s : Dev) (r : Reg) (lo w v : Nat) : (s.setF r lo w v).free = s.free := rfl
@[simp] theorem Dev.setF_f (s : Dev) (r : Reg) (lo w v : Nat) : (s.setF r lo w v).f = s.f := rfl
@[simp] theorem Dev.setF_aon (s : Dev) (r : Reg) (lo w v : Nat) : (s.setF r lo w v).aon = s.aon := rfl
@[simp] theorem Dev.setF_aonPhase (s : Dev) (r : Reg) (lo w v : Nat) : (s.setF r lo w v).aonPhase = s.aonPhase := rfl
@[simp] theorem Dev.setF_f0 (s : Dev) (r : Reg) (lo w v : Nat) : (s.setF r lo w v).f0 = s.f0 := rfl
@[simp] theorem Dev.setF_a0 (s : Dev) (r : Reg) (lo w v : Nat) : (s.setF r lo w v).a0 = s.a0 := rfl
@[simp] theorem Dev.setF_unbridged (s : Dev) (r : Reg) (lo w v : Nat) : (s.setF r lo w v).unbridged = s.unbridged := rfl
@[simp] theorem Dev.setF_entryWait (s : Dev) (r : Reg) (lo w v : Nat) : (s.setF r lo w v).entryWait = s.entryWait := rfl
@[simp] theorem Dev.setF_stopped (s : Dev) (r : Reg) (lo w v : Nat) : (s.setF r lo w v).stopped = s.stopped := rfl
@[simp] theorem Dev.setF_holdoverF (s : Dev) (r : Reg) (lo w v : Nat) : (s.setF r lo w v).holdoverF = s.holdoverF := rfl
@[simp] theorem Dev.setF_cmpFromF (s : Dev) (r : Reg) (lo w v : Nat) : (s.setF r lo w v).cmpFromF = s.cmpFromF := rfl
@[simp] theorem Dev.setF_lockRun (s : Dev) (r : Reg) (lo w v : Nat) : (s.setF r lo w v).lockRun = s.lockRun := rfl
@[simp] theorem Dev.setF_trigs (s : Dev) (r : Reg) (lo w v : Nat) : (s.setF r lo w v).trigs = s.trigs := rfl
@[simp] theorem Dev.setF_caps (s : Dev) (r : Reg) (lo w v : Nat) : (s.setF r lo w v).caps = s.caps := rfl
@[simp] theorem Dev.setF_clocks (s : Dev) (r : Reg) (lo w v : Nat) : (s.setF r lo w v).clocks = s.clocks := rfl
@[simp] theorem Dev.setF_reconvert (s : Dev) (r : Reg) (lo w v : Nat) : (s.setF r lo w v).reconvert = s.reconvert := rfl
@[simp] theorem Dev.setF_residence (s : Dev) (r : Reg) (lo w v : Nat) : (s.setF r lo w v).residence = s.residence := rfl
@[simp] theorem Dev.setF_ptpParent (s : Dev) (r : Reg) (lo w v : Nat) : (s.setF r lo w v).ptpParent = s.ptpParent := rfl
@[simp] theorem Dev.setF_skewDraws (s : Dev) (r : Reg) (lo w v : Nat) : (s.setF r lo w v).skewDraws = s.skewDraws := rfl
@[simp] theorem Dev.setF_meters (s : Dev) (r : Reg) (lo w v : Nat) : (s.setF r lo w v).meters = s.meters := rfl
@[simp] theorem Dev.setF_alive (s : Dev) (r : Reg) (lo w v : Nat) : (s.setF r lo w v).alive = s.alive := rfl
@[simp] theorem Dev.setF_frozen (s : Dev) (r : Reg) (lo w v : Nat) : (s.setF r lo w v).frozen = s.frozen := rfl
@[simp] theorem Dev.setF_freezeF (s : Dev) (r : Reg) (lo w v : Nat) : (s.setF r lo w v).freezeF = s.freezeF := rfl
@[simp] theorem Dev.setF_freezes (s : Dev) (r : Reg) (lo w v : Nat) : (s.setF r lo w v).freezes = s.freezes := rfl
@[simp] theorem Dev.setF_frozenNs (s : Dev) (r : Reg) (lo w v : Nat) : (s.setF r lo w v).frozenNs = s.frozenNs := rfl
@[simp] theorem Dev.setF_held (s : Dev) (r : Reg) (lo w v : Nat) : (s.setF r lo w v).held = s.held := rfl
@[simp] theorem Dev.setF_transfers (s : Dev) (r : Reg) (lo w v : Nat) : (s.setF r lo w v).transfers = s.transfers := rfl
@[simp] theorem Dev.setF_abandoned (s : Dev) (r : Reg) (lo w v : Nat) : (s.setF r lo w v).abandoned = s.abandoned := rfl
@[simp] theorem Dev.setF_mailboxes (s : Dev) (r : Reg) (lo w v : Nat) : (s.setF r lo w v).mailboxes = s.mailboxes := rfl
@[simp] theorem Dev.setF_discarded (s : Dev) (r : Reg) (lo w v : Nat) : (s.setF r lo w v).discarded = s.discarded := rfl
@[simp] theorem Dev.setF_stillAck (s : Dev) (r : Reg) (lo w v : Nat) : (s.setF r lo w v).stillAck = s.stillAck := rfl
@[simp] theorem Dev.setF_resumeF (s : Dev) (r : Reg) (lo w v : Nat) : (s.setF r lo w v).resumeF = s.resumeF := rfl
@[simp] theorem Dev.setF_bootWait (s : Dev) (r : Reg) (lo w v : Nat) : (s.setF r lo w v).bootWait = s.bootWait := rfl
@[simp] theorem Dev.setF_pufOk (s : Dev) (r : Reg) (lo w v : Nat) : (s.setF r lo w v).pufOk = s.pufOk := rfl
@[simp] theorem Dev.setF_tapAddr (s : Dev) (r : Reg) (lo w v : Nat) : (s.setF r lo w v).tapAddr = s.tapAddr := rfl
@[simp] theorem Dev.setF_ferries (s : Dev) (r : Reg) (lo w v : Nat) : (s.setF r lo w v).ferries = s.ferries := rfl
@[simp] theorem Dev.setF_starts (s : Dev) (r : Reg) (lo w v : Nat) : (s.setF r lo w v).starts = s.starts := rfl
@[simp] theorem Dev.setF_heldStarts (s : Dev) (r : Reg) (lo w v : Nat) : (s.setF r lo w v).heldStarts = s.heldStarts := rfl
@[simp] theorem Dev.setF_edcRepeats (s : Dev) (r : Reg) (lo w v : Nat) : (s.setF r lo w v).edcRepeats = s.edcRepeats := rfl
@[simp] theorem Dev.setF_gddrUncorr (s : Dev) (r : Reg) (lo w v : Nat) : (s.setF r lo w v).gddrUncorr = s.gddrUncorr := rfl
@[simp] theorem Dev.setF_coolMs (s : Dev) (r : Reg) (lo w v : Nat) : (s.setF r lo w v).coolMs = s.coolMs := rfl
@[simp] theorem Dev.setF_lastTick (s : Dev) (r : Reg) (lo w v : Nat) : (s.setF r lo w v).lastTick = s.lastTick := rfl
@[simp] theorem Dev.setF_confFullF (s : Dev) (r : Reg) (lo w v : Nat) : (s.setF r lo w v).confFullF = s.confFullF := rfl
@[simp] theorem Dev.setF_confFullNs (s : Dev) (r : Reg) (lo w v : Nat) : (s.setF r lo w v).confFullNs = s.confFullNs := rfl
@[simp] theorem Dev.setF_moved (s : Dev) (r : Reg) (lo w v : Nat) : (s.setF r lo w v).moved = s.moved := rfl
@[simp] theorem Dev.setF_filled (s : Dev) (r : Reg) (lo w v : Nat) : (s.setF r lo w v).filled = s.filled := rfl
@[simp] theorem Dev.setF_failedFirst (s : Dev) (r : Reg) (lo w v : Nat) : (s.setF r lo w v).failedFirst = s.failedFirst := rfl
@[simp] theorem Dev.setF_mirrorTurn (s : Dev) (r : Reg) (lo w v : Nat) : (s.setF r lo w v).mirrorTurn = s.mirrorTurn := rfl
@[simp] theorem Dev.setF_plans (s : Dev) (r : Reg) (lo w v : Nat) : (s.setF r lo w v).plans = s.plans := rfl
@[simp] theorem Dev.setF_phaseReq (s : Dev) (r : Reg) (lo w v : Nat) : (s.setF r lo w v).phaseReq = s.phaseReq := rfl
@[simp] theorem Dev.setF_planPhases (s : Dev) (r : Reg) (lo w v : Nat) : (s.setF r lo w v).planPhases = s.planPhases := rfl
@[simp] theorem Dev.setF_allocs (s : Dev) (r : Reg) (lo w v : Nat) : (s.setF r lo w v).allocs = s.allocs := rfl
@[simp] theorem Dev.setF_pops (s : Dev) (r : Reg) (lo w v : Nat) : (s.setF r lo w v).pops = s.pops := rfl
@[simp] theorem Dev.setF_neurons (s : Dev) (r : Reg) (lo w v : Nat) : (s.setF r lo w v).neurons = s.neurons := rfl
@[simp] theorem Dev.setF_accs (s : Dev) (r : Reg) (lo w v : Nat) : (s.setF r lo w v).accs = s.accs := rfl
@[simp] theorem Dev.setF_residues (s : Dev) (r : Reg) (lo w v : Nat) : (s.setF r lo w v).residues = s.residues := rfl
@[simp] theorem Dev.setF_neuronBad (s : Dev) (r : Reg) (lo w v : Nat) : (s.setF r lo w v).neuronBad = s.neuronBad := rfl
@[simp] theorem Dev.setF_counts (s : Dev) (r : Reg) (lo w v : Nat) : (s.setF r lo w v).counts = s.counts := rfl
@[simp] theorem Dev.setF_layers (s : Dev) (r : Reg) (lo w v : Nat) : (s.setF r lo w v).layers = s.layers := rfl
@[simp] theorem Dev.setF_lfsr (s : Dev) (r : Reg) (lo w v : Nat) : (s.setF r lo w v).lfsr = s.lfsr := rfl
@[simp] theorem Dev.setF_phaseSeed (s : Dev) (r : Reg) (lo w v : Nat) : (s.setF r lo w v).phaseSeed = s.phaseSeed := rfl
@[simp] theorem Dev.setF_unitF (s : Dev) (r : Reg) (lo w v : Nat) : (s.setF r lo w v).unitF = s.unitF := rfl
@[simp] theorem Dev.setF_sedLive (s : Dev) (r : Reg) (lo w v : Nat) : (s.setF r lo w v).sedLive = s.sedLive := rfl
@[simp] theorem Dev.setF_sedShadow (s : Dev) (r : Reg) (lo w v : Nat) : (s.setF r lo w v).sedShadow = s.sedShadow := rfl
@[simp] theorem Dev.setF_powerOn (s : Dev) (r : Reg) (lo w v : Nat) : (s.setF r lo w v).powerOn = s.powerOn := rfl
@[simp] theorem Dev.setF_mram0 (s : Dev) (r : Reg) (lo w v : Nat) : (s.setF r lo w v).mram0 = s.mram0 := rfl
@[simp] theorem Dev.setF_mram1 (s : Dev) (r : Reg) (lo w v : Nat) : (s.setF r lo w v).mram1 = s.mram1 := rfl
@[simp] theorem Dev.setF_sedFuse (s : Dev) (r : Reg) (lo w v : Nat) : (s.setF r lo w v).sedFuse = s.sedFuse := rfl
@[simp] theorem Dev.setF_commitReason (s : Dev) (r : Reg) (lo w v : Nat) : (s.setF r lo w v).commitReason = s.commitReason := rfl
@[simp] theorem Dev.setF_rateSeen (s : Dev) (r : Reg) (lo w v : Nat) : (s.setF r lo w v).rateSeen = s.rateSeen := rfl
@[simp] theorem Dev.setF_sedTickAon (s : Dev) (r : Reg) (lo w v : Nat) : (s.setF r lo w v).sedTickAon = s.sedTickAon := rfl
@[simp] theorem Dev.setF_commitF (s : Dev) (r : Reg) (lo w v : Nat) : (s.setF r lo w v).commitF = s.commitF := rfl
@[simp] theorem Dev.setF_commitBytes (s : Dev) (r : Reg) (lo w v : Nat) : (s.setF r lo w v).commitBytes = s.commitBytes := rfl
@[simp] theorem Dev.setF_weirs (s : Dev) (r : Reg) (lo w v : Nat) : (s.setF r lo w v).weirs = s.weirs := rfl
@[simp] theorem Dev.setF_waits (s : Dev) (r : Reg) (lo w v : Nat) : (s.setF r lo w v).waits = s.waits := rfl
@[simp] theorem Dev.setF_sess (s : Dev) (r : Reg) (lo w v : Nat) : (s.setF r lo w v).sess = s.sess := rfl
@[simp] theorem Dev.setF_chans (s : Dev) (r : Reg) (lo w v : Nat) : (s.setF r lo w v).chans = s.chans := rfl
@[simp] theorem Dev.setF_tenantHoldF (s : Dev) (r : Reg) (lo w v : Nat) : (s.setF r lo w v).tenantHoldF = s.tenantHoldF := rfl
@[simp] theorem Dev.setF_lldpNeighbour (s : Dev) (r : Reg) (lo w v : Nat) : (s.setF r lo w v).lldpNeighbour = s.lldpNeighbour := rfl
@[simp] theorem Dev.setF_detachF (s : Dev) (r : Reg) (lo w v : Nat) : (s.setF r lo w v).detachF = s.detachF := rfl
@[simp] theorem Dev.setF_faultQ (s : Dev) (r : Reg) (lo w v : Nat) : (s.setF r lo w v).faultQ = s.faultQ := rfl
@[simp] theorem Dev.setF_planFaultMs (s : Dev) (r : Reg) (lo w v : Nat) : (s.setF r lo w v).planFaultMs = s.planFaultMs := rfl
@[simp] theorem Dev.setF_alertFault (s : Dev) (r : Reg) (lo w v : Nat) : (s.setF r lo w v).alertFault = s.alertFault := rfl
@[simp] theorem Dev.setF_unitMap (s : Dev) (r : Reg) (lo w v : Nat) : (s.setF r lo w v).unitMap = s.unitMap := rfl
@[simp] theorem Dev.setF_poisonMs (s : Dev) (r : Reg) (lo w v : Nat) : (s.setF r lo w v).poisonMs = s.poisonMs := rfl
@[simp] theorem Dev.setF_pathRecalF (s : Dev) (r : Reg) (lo w v : Nat) : (s.setF r lo w v).pathRecalF = s.pathRecalF := rfl
@[simp] theorem Dev.setF_linkMs (s : Dev) (r : Reg) (lo w v : Nat) : (s.setF r lo w v).linkMs = s.linkMs := rfl
@[simp] theorem Dev.setF_linkRetrainF (s : Dev) (r : Reg) (lo w v : Nat) : (s.setF r lo w v).linkRetrainF = s.linkRetrainF := rfl
@[simp] theorem Dev.setF_streams (s : Dev) (r : Reg) (lo w v : Nat) : (s.setF r lo w v).streams = s.streams := rfl
@[simp] theorem Dev.setF_spillWin (s : Dev) (r : Reg) (lo w v : Nat) : (s.setF r lo w v).spillWin = s.spillWin := rfl
@[simp] theorem Dev.setF_spillMoved (s : Dev) (r : Reg) (lo w v : Nat) : (s.setF r lo w v).spillMoved = s.spillMoved := rfl
@[simp] theorem Dev.setF_mere (s : Dev) (r : Reg) (lo w v : Nat) : (s.setF r lo w v).mere = s.mere := rfl
@[simp] theorem Dev.setF_mereBad (s : Dev) (r : Reg) (lo w v : Nat) : (s.setF r lo w v).mereBad = s.mereBad := rfl
@[simp] theorem Dev.setF_parityRun (s : Dev) (r : Reg) (lo w v : Nat) : (s.setF r lo w v).parityRun = s.parityRun := rfl
@[simp] theorem Dev.setF_sweepPos (s : Dev) (r : Reg) (lo w v : Nat) : (s.setF r lo w v).sweepPos = s.sweepPos := rfl
@[simp] theorem Dev.setF_transit (s : Dev) (r : Reg) (lo w v : Nat) : (s.setF r lo w v).transit = s.transit := rfl
@[simp] theorem Dev.setF_routeHold (s : Dev) (r : Reg) (lo w v : Nat) : (s.setF r lo w v).routeHold = s.routeHold := rfl
@[simp] theorem Dev.setF_eddyTurn (s : Dev) (r : Reg) (lo w v : Nat) : (s.setF r lo w v).eddyTurn = s.eddyTurn := rfl
@[simp] theorem Dev.setF_sluices (s : Dev) (r : Reg) (lo w v : Nat) : (s.setF r lo w v).sluices = s.sluices := rfl
@[simp] theorem Dev.setF_regions (s : Dev) (r : Reg) (lo w v : Nat) : (s.setF r lo w v).regions = s.regions := rfl
@[simp] theorem Dev.setF_marches (s : Dev) (r : Reg) (lo w v : Nat) : (s.setF r lo w v).marches = s.marches := rfl
@[simp] theorem Dev.setF_padUncorr (s : Dev) (r : Reg) (lo w v : Nat) : (s.setF r lo w v).padUncorr = s.padUncorr := rfl
@[simp] theorem Dev.setF_silted (s : Dev) (r : Reg) (lo w v : Nat) : (s.setF r lo w v).silted = s.silted := rfl
@[simp] theorem Dev.setF_spareBits (s : Dev) (r : Reg) (lo w v : Nat) : (s.setF r lo w v).spareBits = s.spareBits := rfl
@[simp] theorem Dev.setF_doms (s : Dev) (r : Reg) (lo w v : Nat) : (s.setF r lo w v).doms = s.doms := rfl
@[simp] theorem Dev.setF_wakeIns (s : Dev) (r : Reg) (lo w v : Nat) : (s.setF r lo w v).wakeIns = s.wakeIns := rfl
@[simp] theorem Dev.setF_baseOff (s : Dev) (r : Reg) (lo w v : Nat) : (s.setF r lo w v).baseOff = s.baseOff := rfl
@[simp] theorem Dev.setF_thermtrip (s : Dev) (r : Reg) (lo w v : Nat) : (s.setF r lo w v).thermtrip = s.thermtrip := rfl
@[simp] theorem Dev.setF_hotDies (s : Dev) (r : Reg) (lo w v : Nat) : (s.setF r lo w v).hotDies = s.hotDies := rfl
@[simp] theorem Dev.setF_tjLast (s : Dev) (r : Reg) (lo w v : Nat) : (s.setF r lo w v).tjLast = s.tjLast := rfl
@[simp] theorem Dev.setF_alertRecovery (s : Dev) (r : Reg) (lo w v : Nat) : (s.setF r lo w v).alertRecovery = s.alertRecovery := rfl
@[simp] theorem Dev.setF_rimFrames (s : Dev) (r : Reg) (lo w v : Nat) : (s.setF r lo w v).rimFrames = s.rimFrames := rfl
@[simp] theorem Dev.setF_paces (s : Dev) (r : Reg) (lo w v : Nat) : (s.setF r lo w v).paces = s.paces := rfl
@[simp] theorem Dev.setF_rails (s : Dev) (r : Reg) (lo w v : Nat) : (s.setF r lo w v).rails = s.rails := rfl
@[simp] theorem Dev.setF_deviceKey (s : Dev) (r : Reg) (lo w v : Nat) : (s.setF r lo w v).deviceKey = s.deviceKey := rfl
@[simp] theorem Dev.setF_dataKeys (s : Dev) (r : Reg) (lo w v : Nat) : (s.setF r lo w v).dataKeys = s.dataKeys := rfl
@[simp] theorem Dev.setF_exchanges (s : Dev) (r : Reg) (lo w v : Nat) : (s.setF r lo w v).exchanges = s.exchanges := rfl
@[simp] theorem Dev.setF_trngPass (s : Dev) (r : Reg) (lo w v : Nat) : (s.setF r lo w v).trngPass = s.trngPass := rfl
@[simp] theorem Dev.setF_reeds (s : Dev) (r : Reg) (lo w v : Nat) : (s.setF r lo w v).reeds = s.reeds := rfl
@[simp] theorem Dev.setF_spis (s : Dev) (r : Reg) (lo w v : Nat) : (s.setF r lo w v).spis = s.spis := rfl
@[simp] theorem Dev.setF_fines (s : Dev) (r : Reg) (lo w v : Nat) : (s.setF r lo w v).fines = s.fines := rfl
@[simp] theorem Dev.setF_fusion (s : Dev) (r : Reg) (lo w v : Nat) : (s.setF r lo w v).fusion = s.fusion := rfl

/-! ### A bit written -/

@[simp] theorem Dev.setBit_blobs (s : Dev) (r : Reg) (i : Nat) (b : Bool) : (s.setBit r i b).blobs = s.blobs := rfl
@[simp] theorem Dev.setBit_out (s : Dev) (r : Reg) (i : Nat) (b : Bool) : (s.setBit r i b).out = s.out := rfl
@[simp] theorem Dev.setBit_free (s : Dev) (r : Reg) (i : Nat) (b : Bool) : (s.setBit r i b).free = s.free := rfl
@[simp] theorem Dev.setBit_f (s : Dev) (r : Reg) (i : Nat) (b : Bool) : (s.setBit r i b).f = s.f := rfl
@[simp] theorem Dev.setBit_aon (s : Dev) (r : Reg) (i : Nat) (b : Bool) : (s.setBit r i b).aon = s.aon := rfl
@[simp] theorem Dev.setBit_aonPhase (s : Dev) (r : Reg) (i : Nat) (b : Bool) : (s.setBit r i b).aonPhase = s.aonPhase := rfl
@[simp] theorem Dev.setBit_f0 (s : Dev) (r : Reg) (i : Nat) (b : Bool) : (s.setBit r i b).f0 = s.f0 := rfl
@[simp] theorem Dev.setBit_a0 (s : Dev) (r : Reg) (i : Nat) (b : Bool) : (s.setBit r i b).a0 = s.a0 := rfl
@[simp] theorem Dev.setBit_unbridged (s : Dev) (r : Reg) (i : Nat) (b : Bool) : (s.setBit r i b).unbridged = s.unbridged := rfl
@[simp] theorem Dev.setBit_entryWait (s : Dev) (r : Reg) (i : Nat) (b : Bool) : (s.setBit r i b).entryWait = s.entryWait := rfl
@[simp] theorem Dev.setBit_stopped (s : Dev) (r : Reg) (i : Nat) (b : Bool) : (s.setBit r i b).stopped = s.stopped := rfl
@[simp] theorem Dev.setBit_holdoverF (s : Dev) (r : Reg) (i : Nat) (b : Bool) : (s.setBit r i b).holdoverF = s.holdoverF := rfl
@[simp] theorem Dev.setBit_cmpFromF (s : Dev) (r : Reg) (i : Nat) (b : Bool) : (s.setBit r i b).cmpFromF = s.cmpFromF := rfl
@[simp] theorem Dev.setBit_lockRun (s : Dev) (r : Reg) (i : Nat) (b : Bool) : (s.setBit r i b).lockRun = s.lockRun := rfl
@[simp] theorem Dev.setBit_trigs (s : Dev) (r : Reg) (i : Nat) (b : Bool) : (s.setBit r i b).trigs = s.trigs := rfl
@[simp] theorem Dev.setBit_caps (s : Dev) (r : Reg) (i : Nat) (b : Bool) : (s.setBit r i b).caps = s.caps := rfl
@[simp] theorem Dev.setBit_clocks (s : Dev) (r : Reg) (i : Nat) (b : Bool) : (s.setBit r i b).clocks = s.clocks := rfl
@[simp] theorem Dev.setBit_reconvert (s : Dev) (r : Reg) (i : Nat) (b : Bool) : (s.setBit r i b).reconvert = s.reconvert := rfl
@[simp] theorem Dev.setBit_residence (s : Dev) (r : Reg) (i : Nat) (b : Bool) : (s.setBit r i b).residence = s.residence := rfl
@[simp] theorem Dev.setBit_ptpParent (s : Dev) (r : Reg) (i : Nat) (b : Bool) : (s.setBit r i b).ptpParent = s.ptpParent := rfl
@[simp] theorem Dev.setBit_skewDraws (s : Dev) (r : Reg) (i : Nat) (b : Bool) : (s.setBit r i b).skewDraws = s.skewDraws := rfl
@[simp] theorem Dev.setBit_meters (s : Dev) (r : Reg) (i : Nat) (b : Bool) : (s.setBit r i b).meters = s.meters := rfl
@[simp] theorem Dev.setBit_alive (s : Dev) (r : Reg) (i : Nat) (b : Bool) : (s.setBit r i b).alive = s.alive := rfl
@[simp] theorem Dev.setBit_frozen (s : Dev) (r : Reg) (i : Nat) (b : Bool) : (s.setBit r i b).frozen = s.frozen := rfl
@[simp] theorem Dev.setBit_freezeF (s : Dev) (r : Reg) (i : Nat) (b : Bool) : (s.setBit r i b).freezeF = s.freezeF := rfl
@[simp] theorem Dev.setBit_freezes (s : Dev) (r : Reg) (i : Nat) (b : Bool) : (s.setBit r i b).freezes = s.freezes := rfl
@[simp] theorem Dev.setBit_frozenNs (s : Dev) (r : Reg) (i : Nat) (b : Bool) : (s.setBit r i b).frozenNs = s.frozenNs := rfl
@[simp] theorem Dev.setBit_held (s : Dev) (r : Reg) (i : Nat) (b : Bool) : (s.setBit r i b).held = s.held := rfl
@[simp] theorem Dev.setBit_transfers (s : Dev) (r : Reg) (i : Nat) (b : Bool) : (s.setBit r i b).transfers = s.transfers := rfl
@[simp] theorem Dev.setBit_abandoned (s : Dev) (r : Reg) (i : Nat) (b : Bool) : (s.setBit r i b).abandoned = s.abandoned := rfl
@[simp] theorem Dev.setBit_mailboxes (s : Dev) (r : Reg) (i : Nat) (b : Bool) : (s.setBit r i b).mailboxes = s.mailboxes := rfl
@[simp] theorem Dev.setBit_discarded (s : Dev) (r : Reg) (i : Nat) (b : Bool) : (s.setBit r i b).discarded = s.discarded := rfl
@[simp] theorem Dev.setBit_stillAck (s : Dev) (r : Reg) (i : Nat) (b : Bool) : (s.setBit r i b).stillAck = s.stillAck := rfl
@[simp] theorem Dev.setBit_resumeF (s : Dev) (r : Reg) (i : Nat) (b : Bool) : (s.setBit r i b).resumeF = s.resumeF := rfl
@[simp] theorem Dev.setBit_bootWait (s : Dev) (r : Reg) (i : Nat) (b : Bool) : (s.setBit r i b).bootWait = s.bootWait := rfl
@[simp] theorem Dev.setBit_pufOk (s : Dev) (r : Reg) (i : Nat) (b : Bool) : (s.setBit r i b).pufOk = s.pufOk := rfl
@[simp] theorem Dev.setBit_tapAddr (s : Dev) (r : Reg) (i : Nat) (b : Bool) : (s.setBit r i b).tapAddr = s.tapAddr := rfl
@[simp] theorem Dev.setBit_ferries (s : Dev) (r : Reg) (i : Nat) (b : Bool) : (s.setBit r i b).ferries = s.ferries := rfl
@[simp] theorem Dev.setBit_starts (s : Dev) (r : Reg) (i : Nat) (b : Bool) : (s.setBit r i b).starts = s.starts := rfl
@[simp] theorem Dev.setBit_heldStarts (s : Dev) (r : Reg) (i : Nat) (b : Bool) : (s.setBit r i b).heldStarts = s.heldStarts := rfl
@[simp] theorem Dev.setBit_edcRepeats (s : Dev) (r : Reg) (i : Nat) (b : Bool) : (s.setBit r i b).edcRepeats = s.edcRepeats := rfl
@[simp] theorem Dev.setBit_gddrUncorr (s : Dev) (r : Reg) (i : Nat) (b : Bool) : (s.setBit r i b).gddrUncorr = s.gddrUncorr := rfl
@[simp] theorem Dev.setBit_coolMs (s : Dev) (r : Reg) (i : Nat) (b : Bool) : (s.setBit r i b).coolMs = s.coolMs := rfl
@[simp] theorem Dev.setBit_lastTick (s : Dev) (r : Reg) (i : Nat) (b : Bool) : (s.setBit r i b).lastTick = s.lastTick := rfl
@[simp] theorem Dev.setBit_confFullF (s : Dev) (r : Reg) (i : Nat) (b : Bool) : (s.setBit r i b).confFullF = s.confFullF := rfl
@[simp] theorem Dev.setBit_confFullNs (s : Dev) (r : Reg) (i : Nat) (b : Bool) : (s.setBit r i b).confFullNs = s.confFullNs := rfl
@[simp] theorem Dev.setBit_moved (s : Dev) (r : Reg) (i : Nat) (b : Bool) : (s.setBit r i b).moved = s.moved := rfl
@[simp] theorem Dev.setBit_filled (s : Dev) (r : Reg) (i : Nat) (b : Bool) : (s.setBit r i b).filled = s.filled := rfl
@[simp] theorem Dev.setBit_failedFirst (s : Dev) (r : Reg) (i : Nat) (b : Bool) : (s.setBit r i b).failedFirst = s.failedFirst := rfl
@[simp] theorem Dev.setBit_mirrorTurn (s : Dev) (r : Reg) (i : Nat) (b : Bool) : (s.setBit r i b).mirrorTurn = s.mirrorTurn := rfl
@[simp] theorem Dev.setBit_plans (s : Dev) (r : Reg) (i : Nat) (b : Bool) : (s.setBit r i b).plans = s.plans := rfl
@[simp] theorem Dev.setBit_phaseReq (s : Dev) (r : Reg) (i : Nat) (b : Bool) : (s.setBit r i b).phaseReq = s.phaseReq := rfl
@[simp] theorem Dev.setBit_planPhases (s : Dev) (r : Reg) (i : Nat) (b : Bool) : (s.setBit r i b).planPhases = s.planPhases := rfl
@[simp] theorem Dev.setBit_allocs (s : Dev) (r : Reg) (i : Nat) (b : Bool) : (s.setBit r i b).allocs = s.allocs := rfl
@[simp] theorem Dev.setBit_pops (s : Dev) (r : Reg) (i : Nat) (b : Bool) : (s.setBit r i b).pops = s.pops := rfl
@[simp] theorem Dev.setBit_neurons (s : Dev) (r : Reg) (i : Nat) (b : Bool) : (s.setBit r i b).neurons = s.neurons := rfl
@[simp] theorem Dev.setBit_accs (s : Dev) (r : Reg) (i : Nat) (b : Bool) : (s.setBit r i b).accs = s.accs := rfl
@[simp] theorem Dev.setBit_residues (s : Dev) (r : Reg) (i : Nat) (b : Bool) : (s.setBit r i b).residues = s.residues := rfl
@[simp] theorem Dev.setBit_neuronBad (s : Dev) (r : Reg) (i : Nat) (b : Bool) : (s.setBit r i b).neuronBad = s.neuronBad := rfl
@[simp] theorem Dev.setBit_counts (s : Dev) (r : Reg) (i : Nat) (b : Bool) : (s.setBit r i b).counts = s.counts := rfl
@[simp] theorem Dev.setBit_layers (s : Dev) (r : Reg) (i : Nat) (b : Bool) : (s.setBit r i b).layers = s.layers := rfl
@[simp] theorem Dev.setBit_lfsr (s : Dev) (r : Reg) (i : Nat) (b : Bool) : (s.setBit r i b).lfsr = s.lfsr := rfl
@[simp] theorem Dev.setBit_phaseSeed (s : Dev) (r : Reg) (i : Nat) (b : Bool) : (s.setBit r i b).phaseSeed = s.phaseSeed := rfl
@[simp] theorem Dev.setBit_unitF (s : Dev) (r : Reg) (i : Nat) (b : Bool) : (s.setBit r i b).unitF = s.unitF := rfl
@[simp] theorem Dev.setBit_sedLive (s : Dev) (r : Reg) (i : Nat) (b : Bool) : (s.setBit r i b).sedLive = s.sedLive := rfl
@[simp] theorem Dev.setBit_sedShadow (s : Dev) (r : Reg) (i : Nat) (b : Bool) : (s.setBit r i b).sedShadow = s.sedShadow := rfl
@[simp] theorem Dev.setBit_powerOn (s : Dev) (r : Reg) (i : Nat) (b : Bool) : (s.setBit r i b).powerOn = s.powerOn := rfl
@[simp] theorem Dev.setBit_mram0 (s : Dev) (r : Reg) (i : Nat) (b : Bool) : (s.setBit r i b).mram0 = s.mram0 := rfl
@[simp] theorem Dev.setBit_mram1 (s : Dev) (r : Reg) (i : Nat) (b : Bool) : (s.setBit r i b).mram1 = s.mram1 := rfl
@[simp] theorem Dev.setBit_sedFuse (s : Dev) (r : Reg) (i : Nat) (b : Bool) : (s.setBit r i b).sedFuse = s.sedFuse := rfl
@[simp] theorem Dev.setBit_commitReason (s : Dev) (r : Reg) (i : Nat) (b : Bool) : (s.setBit r i b).commitReason = s.commitReason := rfl
@[simp] theorem Dev.setBit_rateSeen (s : Dev) (r : Reg) (i : Nat) (b : Bool) : (s.setBit r i b).rateSeen = s.rateSeen := rfl
@[simp] theorem Dev.setBit_sedTickAon (s : Dev) (r : Reg) (i : Nat) (b : Bool) : (s.setBit r i b).sedTickAon = s.sedTickAon := rfl
@[simp] theorem Dev.setBit_commitF (s : Dev) (r : Reg) (i : Nat) (b : Bool) : (s.setBit r i b).commitF = s.commitF := rfl
@[simp] theorem Dev.setBit_commitBytes (s : Dev) (r : Reg) (i : Nat) (b : Bool) : (s.setBit r i b).commitBytes = s.commitBytes := rfl
@[simp] theorem Dev.setBit_weirs (s : Dev) (r : Reg) (i : Nat) (b : Bool) : (s.setBit r i b).weirs = s.weirs := rfl
@[simp] theorem Dev.setBit_waits (s : Dev) (r : Reg) (i : Nat) (b : Bool) : (s.setBit r i b).waits = s.waits := rfl
@[simp] theorem Dev.setBit_sess (s : Dev) (r : Reg) (i : Nat) (b : Bool) : (s.setBit r i b).sess = s.sess := rfl
@[simp] theorem Dev.setBit_chans (s : Dev) (r : Reg) (i : Nat) (b : Bool) : (s.setBit r i b).chans = s.chans := rfl
@[simp] theorem Dev.setBit_tenantHoldF (s : Dev) (r : Reg) (i : Nat) (b : Bool) : (s.setBit r i b).tenantHoldF = s.tenantHoldF := rfl
@[simp] theorem Dev.setBit_lldpNeighbour (s : Dev) (r : Reg) (i : Nat) (b : Bool) : (s.setBit r i b).lldpNeighbour = s.lldpNeighbour := rfl
@[simp] theorem Dev.setBit_detachF (s : Dev) (r : Reg) (i : Nat) (b : Bool) : (s.setBit r i b).detachF = s.detachF := rfl
@[simp] theorem Dev.setBit_faultQ (s : Dev) (r : Reg) (i : Nat) (b : Bool) : (s.setBit r i b).faultQ = s.faultQ := rfl
@[simp] theorem Dev.setBit_planFaultMs (s : Dev) (r : Reg) (i : Nat) (b : Bool) : (s.setBit r i b).planFaultMs = s.planFaultMs := rfl
@[simp] theorem Dev.setBit_alertFault (s : Dev) (r : Reg) (i : Nat) (b : Bool) : (s.setBit r i b).alertFault = s.alertFault := rfl
@[simp] theorem Dev.setBit_unitMap (s : Dev) (r : Reg) (i : Nat) (b : Bool) : (s.setBit r i b).unitMap = s.unitMap := rfl
@[simp] theorem Dev.setBit_poisonMs (s : Dev) (r : Reg) (i : Nat) (b : Bool) : (s.setBit r i b).poisonMs = s.poisonMs := rfl
@[simp] theorem Dev.setBit_pathRecalF (s : Dev) (r : Reg) (i : Nat) (b : Bool) : (s.setBit r i b).pathRecalF = s.pathRecalF := rfl
@[simp] theorem Dev.setBit_linkMs (s : Dev) (r : Reg) (i : Nat) (b : Bool) : (s.setBit r i b).linkMs = s.linkMs := rfl
@[simp] theorem Dev.setBit_linkRetrainF (s : Dev) (r : Reg) (i : Nat) (b : Bool) : (s.setBit r i b).linkRetrainF = s.linkRetrainF := rfl
@[simp] theorem Dev.setBit_streams (s : Dev) (r : Reg) (i : Nat) (b : Bool) : (s.setBit r i b).streams = s.streams := rfl
@[simp] theorem Dev.setBit_spillWin (s : Dev) (r : Reg) (i : Nat) (b : Bool) : (s.setBit r i b).spillWin = s.spillWin := rfl
@[simp] theorem Dev.setBit_spillMoved (s : Dev) (r : Reg) (i : Nat) (b : Bool) : (s.setBit r i b).spillMoved = s.spillMoved := rfl
@[simp] theorem Dev.setBit_mere (s : Dev) (r : Reg) (i : Nat) (b : Bool) : (s.setBit r i b).mere = s.mere := rfl
@[simp] theorem Dev.setBit_mereBad (s : Dev) (r : Reg) (i : Nat) (b : Bool) : (s.setBit r i b).mereBad = s.mereBad := rfl
@[simp] theorem Dev.setBit_parityRun (s : Dev) (r : Reg) (i : Nat) (b : Bool) : (s.setBit r i b).parityRun = s.parityRun := rfl
@[simp] theorem Dev.setBit_sweepPos (s : Dev) (r : Reg) (i : Nat) (b : Bool) : (s.setBit r i b).sweepPos = s.sweepPos := rfl
@[simp] theorem Dev.setBit_transit (s : Dev) (r : Reg) (i : Nat) (b : Bool) : (s.setBit r i b).transit = s.transit := rfl
@[simp] theorem Dev.setBit_routeHold (s : Dev) (r : Reg) (i : Nat) (b : Bool) : (s.setBit r i b).routeHold = s.routeHold := rfl
@[simp] theorem Dev.setBit_eddyTurn (s : Dev) (r : Reg) (i : Nat) (b : Bool) : (s.setBit r i b).eddyTurn = s.eddyTurn := rfl
@[simp] theorem Dev.setBit_sluices (s : Dev) (r : Reg) (i : Nat) (b : Bool) : (s.setBit r i b).sluices = s.sluices := rfl
@[simp] theorem Dev.setBit_regions (s : Dev) (r : Reg) (i : Nat) (b : Bool) : (s.setBit r i b).regions = s.regions := rfl
@[simp] theorem Dev.setBit_marches (s : Dev) (r : Reg) (i : Nat) (b : Bool) : (s.setBit r i b).marches = s.marches := rfl
@[simp] theorem Dev.setBit_padUncorr (s : Dev) (r : Reg) (i : Nat) (b : Bool) : (s.setBit r i b).padUncorr = s.padUncorr := rfl
@[simp] theorem Dev.setBit_silted (s : Dev) (r : Reg) (i : Nat) (b : Bool) : (s.setBit r i b).silted = s.silted := rfl
@[simp] theorem Dev.setBit_spareBits (s : Dev) (r : Reg) (i : Nat) (b : Bool) : (s.setBit r i b).spareBits = s.spareBits := rfl
@[simp] theorem Dev.setBit_doms (s : Dev) (r : Reg) (i : Nat) (b : Bool) : (s.setBit r i b).doms = s.doms := rfl
@[simp] theorem Dev.setBit_wakeIns (s : Dev) (r : Reg) (i : Nat) (b : Bool) : (s.setBit r i b).wakeIns = s.wakeIns := rfl
@[simp] theorem Dev.setBit_baseOff (s : Dev) (r : Reg) (i : Nat) (b : Bool) : (s.setBit r i b).baseOff = s.baseOff := rfl
@[simp] theorem Dev.setBit_thermtrip (s : Dev) (r : Reg) (i : Nat) (b : Bool) : (s.setBit r i b).thermtrip = s.thermtrip := rfl
@[simp] theorem Dev.setBit_hotDies (s : Dev) (r : Reg) (i : Nat) (b : Bool) : (s.setBit r i b).hotDies = s.hotDies := rfl
@[simp] theorem Dev.setBit_tjLast (s : Dev) (r : Reg) (i : Nat) (b : Bool) : (s.setBit r i b).tjLast = s.tjLast := rfl
@[simp] theorem Dev.setBit_alertRecovery (s : Dev) (r : Reg) (i : Nat) (b : Bool) : (s.setBit r i b).alertRecovery = s.alertRecovery := rfl
@[simp] theorem Dev.setBit_rimFrames (s : Dev) (r : Reg) (i : Nat) (b : Bool) : (s.setBit r i b).rimFrames = s.rimFrames := rfl
@[simp] theorem Dev.setBit_paces (s : Dev) (r : Reg) (i : Nat) (b : Bool) : (s.setBit r i b).paces = s.paces := rfl
@[simp] theorem Dev.setBit_rails (s : Dev) (r : Reg) (i : Nat) (b : Bool) : (s.setBit r i b).rails = s.rails := rfl
@[simp] theorem Dev.setBit_deviceKey (s : Dev) (r : Reg) (i : Nat) (b : Bool) : (s.setBit r i b).deviceKey = s.deviceKey := rfl
@[simp] theorem Dev.setBit_dataKeys (s : Dev) (r : Reg) (i : Nat) (b : Bool) : (s.setBit r i b).dataKeys = s.dataKeys := rfl
@[simp] theorem Dev.setBit_exchanges (s : Dev) (r : Reg) (i : Nat) (b : Bool) : (s.setBit r i b).exchanges = s.exchanges := rfl
@[simp] theorem Dev.setBit_trngPass (s : Dev) (r : Reg) (i : Nat) (b : Bool) : (s.setBit r i b).trngPass = s.trngPass := rfl
@[simp] theorem Dev.setBit_reeds (s : Dev) (r : Reg) (i : Nat) (b : Bool) : (s.setBit r i b).reeds = s.reeds := rfl
@[simp] theorem Dev.setBit_spis (s : Dev) (r : Reg) (i : Nat) (b : Bool) : (s.setBit r i b).spis = s.spis := rfl
@[simp] theorem Dev.setBit_fines (s : Dev) (r : Reg) (i : Nat) (b : Bool) : (s.setBit r i b).fines = s.fines := rfl
@[simp] theorem Dev.setBit_fusion (s : Dev) (r : Reg) (i : Nat) (b : Bool) : (s.setBit r i b).fusion = s.fusion := rfl

/-! ### A counter counted on -/

@[simp] theorem Dev.bumpBy_blobs (s : Dev) (r : Reg) (n : Nat) : (s.bumpBy r n).blobs = s.blobs := rfl
@[simp] theorem Dev.bumpBy_out (s : Dev) (r : Reg) (n : Nat) : (s.bumpBy r n).out = s.out := rfl
@[simp] theorem Dev.bumpBy_free (s : Dev) (r : Reg) (n : Nat) : (s.bumpBy r n).free = s.free := rfl
@[simp] theorem Dev.bumpBy_f (s : Dev) (r : Reg) (n : Nat) : (s.bumpBy r n).f = s.f := rfl
@[simp] theorem Dev.bumpBy_aon (s : Dev) (r : Reg) (n : Nat) : (s.bumpBy r n).aon = s.aon := rfl
@[simp] theorem Dev.bumpBy_aonPhase (s : Dev) (r : Reg) (n : Nat) : (s.bumpBy r n).aonPhase = s.aonPhase := rfl
@[simp] theorem Dev.bumpBy_f0 (s : Dev) (r : Reg) (n : Nat) : (s.bumpBy r n).f0 = s.f0 := rfl
@[simp] theorem Dev.bumpBy_a0 (s : Dev) (r : Reg) (n : Nat) : (s.bumpBy r n).a0 = s.a0 := rfl
@[simp] theorem Dev.bumpBy_unbridged (s : Dev) (r : Reg) (n : Nat) : (s.bumpBy r n).unbridged = s.unbridged := rfl
@[simp] theorem Dev.bumpBy_entryWait (s : Dev) (r : Reg) (n : Nat) : (s.bumpBy r n).entryWait = s.entryWait := rfl
@[simp] theorem Dev.bumpBy_stopped (s : Dev) (r : Reg) (n : Nat) : (s.bumpBy r n).stopped = s.stopped := rfl
@[simp] theorem Dev.bumpBy_holdoverF (s : Dev) (r : Reg) (n : Nat) : (s.bumpBy r n).holdoverF = s.holdoverF := rfl
@[simp] theorem Dev.bumpBy_cmpFromF (s : Dev) (r : Reg) (n : Nat) : (s.bumpBy r n).cmpFromF = s.cmpFromF := rfl
@[simp] theorem Dev.bumpBy_lockRun (s : Dev) (r : Reg) (n : Nat) : (s.bumpBy r n).lockRun = s.lockRun := rfl
@[simp] theorem Dev.bumpBy_trigs (s : Dev) (r : Reg) (n : Nat) : (s.bumpBy r n).trigs = s.trigs := rfl
@[simp] theorem Dev.bumpBy_caps (s : Dev) (r : Reg) (n : Nat) : (s.bumpBy r n).caps = s.caps := rfl
@[simp] theorem Dev.bumpBy_clocks (s : Dev) (r : Reg) (n : Nat) : (s.bumpBy r n).clocks = s.clocks := rfl
@[simp] theorem Dev.bumpBy_reconvert (s : Dev) (r : Reg) (n : Nat) : (s.bumpBy r n).reconvert = s.reconvert := rfl
@[simp] theorem Dev.bumpBy_residence (s : Dev) (r : Reg) (n : Nat) : (s.bumpBy r n).residence = s.residence := rfl
@[simp] theorem Dev.bumpBy_ptpParent (s : Dev) (r : Reg) (n : Nat) : (s.bumpBy r n).ptpParent = s.ptpParent := rfl
@[simp] theorem Dev.bumpBy_skewDraws (s : Dev) (r : Reg) (n : Nat) : (s.bumpBy r n).skewDraws = s.skewDraws := rfl
@[simp] theorem Dev.bumpBy_meters (s : Dev) (r : Reg) (n : Nat) : (s.bumpBy r n).meters = s.meters := rfl
@[simp] theorem Dev.bumpBy_alive (s : Dev) (r : Reg) (n : Nat) : (s.bumpBy r n).alive = s.alive := rfl
@[simp] theorem Dev.bumpBy_frozen (s : Dev) (r : Reg) (n : Nat) : (s.bumpBy r n).frozen = s.frozen := rfl
@[simp] theorem Dev.bumpBy_freezeF (s : Dev) (r : Reg) (n : Nat) : (s.bumpBy r n).freezeF = s.freezeF := rfl
@[simp] theorem Dev.bumpBy_freezes (s : Dev) (r : Reg) (n : Nat) : (s.bumpBy r n).freezes = s.freezes := rfl
@[simp] theorem Dev.bumpBy_frozenNs (s : Dev) (r : Reg) (n : Nat) : (s.bumpBy r n).frozenNs = s.frozenNs := rfl
@[simp] theorem Dev.bumpBy_held (s : Dev) (r : Reg) (n : Nat) : (s.bumpBy r n).held = s.held := rfl
@[simp] theorem Dev.bumpBy_transfers (s : Dev) (r : Reg) (n : Nat) : (s.bumpBy r n).transfers = s.transfers := rfl
@[simp] theorem Dev.bumpBy_abandoned (s : Dev) (r : Reg) (n : Nat) : (s.bumpBy r n).abandoned = s.abandoned := rfl
@[simp] theorem Dev.bumpBy_mailboxes (s : Dev) (r : Reg) (n : Nat) : (s.bumpBy r n).mailboxes = s.mailboxes := rfl
@[simp] theorem Dev.bumpBy_discarded (s : Dev) (r : Reg) (n : Nat) : (s.bumpBy r n).discarded = s.discarded := rfl
@[simp] theorem Dev.bumpBy_stillAck (s : Dev) (r : Reg) (n : Nat) : (s.bumpBy r n).stillAck = s.stillAck := rfl
@[simp] theorem Dev.bumpBy_resumeF (s : Dev) (r : Reg) (n : Nat) : (s.bumpBy r n).resumeF = s.resumeF := rfl
@[simp] theorem Dev.bumpBy_bootWait (s : Dev) (r : Reg) (n : Nat) : (s.bumpBy r n).bootWait = s.bootWait := rfl
@[simp] theorem Dev.bumpBy_pufOk (s : Dev) (r : Reg) (n : Nat) : (s.bumpBy r n).pufOk = s.pufOk := rfl
@[simp] theorem Dev.bumpBy_tapAddr (s : Dev) (r : Reg) (n : Nat) : (s.bumpBy r n).tapAddr = s.tapAddr := rfl
@[simp] theorem Dev.bumpBy_ferries (s : Dev) (r : Reg) (n : Nat) : (s.bumpBy r n).ferries = s.ferries := rfl
@[simp] theorem Dev.bumpBy_starts (s : Dev) (r : Reg) (n : Nat) : (s.bumpBy r n).starts = s.starts := rfl
@[simp] theorem Dev.bumpBy_heldStarts (s : Dev) (r : Reg) (n : Nat) : (s.bumpBy r n).heldStarts = s.heldStarts := rfl
@[simp] theorem Dev.bumpBy_edcRepeats (s : Dev) (r : Reg) (n : Nat) : (s.bumpBy r n).edcRepeats = s.edcRepeats := rfl
@[simp] theorem Dev.bumpBy_gddrUncorr (s : Dev) (r : Reg) (n : Nat) : (s.bumpBy r n).gddrUncorr = s.gddrUncorr := rfl
@[simp] theorem Dev.bumpBy_coolMs (s : Dev) (r : Reg) (n : Nat) : (s.bumpBy r n).coolMs = s.coolMs := rfl
@[simp] theorem Dev.bumpBy_lastTick (s : Dev) (r : Reg) (n : Nat) : (s.bumpBy r n).lastTick = s.lastTick := rfl
@[simp] theorem Dev.bumpBy_confFullF (s : Dev) (r : Reg) (n : Nat) : (s.bumpBy r n).confFullF = s.confFullF := rfl
@[simp] theorem Dev.bumpBy_confFullNs (s : Dev) (r : Reg) (n : Nat) : (s.bumpBy r n).confFullNs = s.confFullNs := rfl
@[simp] theorem Dev.bumpBy_moved (s : Dev) (r : Reg) (n : Nat) : (s.bumpBy r n).moved = s.moved := rfl
@[simp] theorem Dev.bumpBy_filled (s : Dev) (r : Reg) (n : Nat) : (s.bumpBy r n).filled = s.filled := rfl
@[simp] theorem Dev.bumpBy_failedFirst (s : Dev) (r : Reg) (n : Nat) : (s.bumpBy r n).failedFirst = s.failedFirst := rfl
@[simp] theorem Dev.bumpBy_mirrorTurn (s : Dev) (r : Reg) (n : Nat) : (s.bumpBy r n).mirrorTurn = s.mirrorTurn := rfl
@[simp] theorem Dev.bumpBy_plans (s : Dev) (r : Reg) (n : Nat) : (s.bumpBy r n).plans = s.plans := rfl
@[simp] theorem Dev.bumpBy_phaseReq (s : Dev) (r : Reg) (n : Nat) : (s.bumpBy r n).phaseReq = s.phaseReq := rfl
@[simp] theorem Dev.bumpBy_planPhases (s : Dev) (r : Reg) (n : Nat) : (s.bumpBy r n).planPhases = s.planPhases := rfl
@[simp] theorem Dev.bumpBy_allocs (s : Dev) (r : Reg) (n : Nat) : (s.bumpBy r n).allocs = s.allocs := rfl
@[simp] theorem Dev.bumpBy_pops (s : Dev) (r : Reg) (n : Nat) : (s.bumpBy r n).pops = s.pops := rfl
@[simp] theorem Dev.bumpBy_neurons (s : Dev) (r : Reg) (n : Nat) : (s.bumpBy r n).neurons = s.neurons := rfl
@[simp] theorem Dev.bumpBy_accs (s : Dev) (r : Reg) (n : Nat) : (s.bumpBy r n).accs = s.accs := rfl
@[simp] theorem Dev.bumpBy_residues (s : Dev) (r : Reg) (n : Nat) : (s.bumpBy r n).residues = s.residues := rfl
@[simp] theorem Dev.bumpBy_neuronBad (s : Dev) (r : Reg) (n : Nat) : (s.bumpBy r n).neuronBad = s.neuronBad := rfl
@[simp] theorem Dev.bumpBy_counts (s : Dev) (r : Reg) (n : Nat) : (s.bumpBy r n).counts = s.counts := rfl
@[simp] theorem Dev.bumpBy_layers (s : Dev) (r : Reg) (n : Nat) : (s.bumpBy r n).layers = s.layers := rfl
@[simp] theorem Dev.bumpBy_lfsr (s : Dev) (r : Reg) (n : Nat) : (s.bumpBy r n).lfsr = s.lfsr := rfl
@[simp] theorem Dev.bumpBy_phaseSeed (s : Dev) (r : Reg) (n : Nat) : (s.bumpBy r n).phaseSeed = s.phaseSeed := rfl
@[simp] theorem Dev.bumpBy_unitF (s : Dev) (r : Reg) (n : Nat) : (s.bumpBy r n).unitF = s.unitF := rfl
@[simp] theorem Dev.bumpBy_sedLive (s : Dev) (r : Reg) (n : Nat) : (s.bumpBy r n).sedLive = s.sedLive := rfl
@[simp] theorem Dev.bumpBy_sedShadow (s : Dev) (r : Reg) (n : Nat) : (s.bumpBy r n).sedShadow = s.sedShadow := rfl
@[simp] theorem Dev.bumpBy_powerOn (s : Dev) (r : Reg) (n : Nat) : (s.bumpBy r n).powerOn = s.powerOn := rfl
@[simp] theorem Dev.bumpBy_mram0 (s : Dev) (r : Reg) (n : Nat) : (s.bumpBy r n).mram0 = s.mram0 := rfl
@[simp] theorem Dev.bumpBy_mram1 (s : Dev) (r : Reg) (n : Nat) : (s.bumpBy r n).mram1 = s.mram1 := rfl
@[simp] theorem Dev.bumpBy_sedFuse (s : Dev) (r : Reg) (n : Nat) : (s.bumpBy r n).sedFuse = s.sedFuse := rfl
@[simp] theorem Dev.bumpBy_commitReason (s : Dev) (r : Reg) (n : Nat) : (s.bumpBy r n).commitReason = s.commitReason := rfl
@[simp] theorem Dev.bumpBy_rateSeen (s : Dev) (r : Reg) (n : Nat) : (s.bumpBy r n).rateSeen = s.rateSeen := rfl
@[simp] theorem Dev.bumpBy_sedTickAon (s : Dev) (r : Reg) (n : Nat) : (s.bumpBy r n).sedTickAon = s.sedTickAon := rfl
@[simp] theorem Dev.bumpBy_commitF (s : Dev) (r : Reg) (n : Nat) : (s.bumpBy r n).commitF = s.commitF := rfl
@[simp] theorem Dev.bumpBy_commitBytes (s : Dev) (r : Reg) (n : Nat) : (s.bumpBy r n).commitBytes = s.commitBytes := rfl
@[simp] theorem Dev.bumpBy_weirs (s : Dev) (r : Reg) (n : Nat) : (s.bumpBy r n).weirs = s.weirs := rfl
@[simp] theorem Dev.bumpBy_waits (s : Dev) (r : Reg) (n : Nat) : (s.bumpBy r n).waits = s.waits := rfl
@[simp] theorem Dev.bumpBy_sess (s : Dev) (r : Reg) (n : Nat) : (s.bumpBy r n).sess = s.sess := rfl
@[simp] theorem Dev.bumpBy_chans (s : Dev) (r : Reg) (n : Nat) : (s.bumpBy r n).chans = s.chans := rfl
@[simp] theorem Dev.bumpBy_tenantHoldF (s : Dev) (r : Reg) (n : Nat) : (s.bumpBy r n).tenantHoldF = s.tenantHoldF := rfl
@[simp] theorem Dev.bumpBy_lldpNeighbour (s : Dev) (r : Reg) (n : Nat) : (s.bumpBy r n).lldpNeighbour = s.lldpNeighbour := rfl
@[simp] theorem Dev.bumpBy_detachF (s : Dev) (r : Reg) (n : Nat) : (s.bumpBy r n).detachF = s.detachF := rfl
@[simp] theorem Dev.bumpBy_faultQ (s : Dev) (r : Reg) (n : Nat) : (s.bumpBy r n).faultQ = s.faultQ := rfl
@[simp] theorem Dev.bumpBy_planFaultMs (s : Dev) (r : Reg) (n : Nat) : (s.bumpBy r n).planFaultMs = s.planFaultMs := rfl
@[simp] theorem Dev.bumpBy_alertFault (s : Dev) (r : Reg) (n : Nat) : (s.bumpBy r n).alertFault = s.alertFault := rfl
@[simp] theorem Dev.bumpBy_unitMap (s : Dev) (r : Reg) (n : Nat) : (s.bumpBy r n).unitMap = s.unitMap := rfl
@[simp] theorem Dev.bumpBy_poisonMs (s : Dev) (r : Reg) (n : Nat) : (s.bumpBy r n).poisonMs = s.poisonMs := rfl
@[simp] theorem Dev.bumpBy_pathRecalF (s : Dev) (r : Reg) (n : Nat) : (s.bumpBy r n).pathRecalF = s.pathRecalF := rfl
@[simp] theorem Dev.bumpBy_linkMs (s : Dev) (r : Reg) (n : Nat) : (s.bumpBy r n).linkMs = s.linkMs := rfl
@[simp] theorem Dev.bumpBy_linkRetrainF (s : Dev) (r : Reg) (n : Nat) : (s.bumpBy r n).linkRetrainF = s.linkRetrainF := rfl
@[simp] theorem Dev.bumpBy_streams (s : Dev) (r : Reg) (n : Nat) : (s.bumpBy r n).streams = s.streams := rfl
@[simp] theorem Dev.bumpBy_spillWin (s : Dev) (r : Reg) (n : Nat) : (s.bumpBy r n).spillWin = s.spillWin := rfl
@[simp] theorem Dev.bumpBy_spillMoved (s : Dev) (r : Reg) (n : Nat) : (s.bumpBy r n).spillMoved = s.spillMoved := rfl
@[simp] theorem Dev.bumpBy_mere (s : Dev) (r : Reg) (n : Nat) : (s.bumpBy r n).mere = s.mere := rfl
@[simp] theorem Dev.bumpBy_mereBad (s : Dev) (r : Reg) (n : Nat) : (s.bumpBy r n).mereBad = s.mereBad := rfl
@[simp] theorem Dev.bumpBy_parityRun (s : Dev) (r : Reg) (n : Nat) : (s.bumpBy r n).parityRun = s.parityRun := rfl
@[simp] theorem Dev.bumpBy_sweepPos (s : Dev) (r : Reg) (n : Nat) : (s.bumpBy r n).sweepPos = s.sweepPos := rfl
@[simp] theorem Dev.bumpBy_transit (s : Dev) (r : Reg) (n : Nat) : (s.bumpBy r n).transit = s.transit := rfl
@[simp] theorem Dev.bumpBy_routeHold (s : Dev) (r : Reg) (n : Nat) : (s.bumpBy r n).routeHold = s.routeHold := rfl
@[simp] theorem Dev.bumpBy_eddyTurn (s : Dev) (r : Reg) (n : Nat) : (s.bumpBy r n).eddyTurn = s.eddyTurn := rfl
@[simp] theorem Dev.bumpBy_sluices (s : Dev) (r : Reg) (n : Nat) : (s.bumpBy r n).sluices = s.sluices := rfl
@[simp] theorem Dev.bumpBy_regions (s : Dev) (r : Reg) (n : Nat) : (s.bumpBy r n).regions = s.regions := rfl
@[simp] theorem Dev.bumpBy_marches (s : Dev) (r : Reg) (n : Nat) : (s.bumpBy r n).marches = s.marches := rfl
@[simp] theorem Dev.bumpBy_padUncorr (s : Dev) (r : Reg) (n : Nat) : (s.bumpBy r n).padUncorr = s.padUncorr := rfl
@[simp] theorem Dev.bumpBy_silted (s : Dev) (r : Reg) (n : Nat) : (s.bumpBy r n).silted = s.silted := rfl
@[simp] theorem Dev.bumpBy_spareBits (s : Dev) (r : Reg) (n : Nat) : (s.bumpBy r n).spareBits = s.spareBits := rfl
@[simp] theorem Dev.bumpBy_doms (s : Dev) (r : Reg) (n : Nat) : (s.bumpBy r n).doms = s.doms := rfl
@[simp] theorem Dev.bumpBy_wakeIns (s : Dev) (r : Reg) (n : Nat) : (s.bumpBy r n).wakeIns = s.wakeIns := rfl
@[simp] theorem Dev.bumpBy_baseOff (s : Dev) (r : Reg) (n : Nat) : (s.bumpBy r n).baseOff = s.baseOff := rfl
@[simp] theorem Dev.bumpBy_thermtrip (s : Dev) (r : Reg) (n : Nat) : (s.bumpBy r n).thermtrip = s.thermtrip := rfl
@[simp] theorem Dev.bumpBy_hotDies (s : Dev) (r : Reg) (n : Nat) : (s.bumpBy r n).hotDies = s.hotDies := rfl
@[simp] theorem Dev.bumpBy_tjLast (s : Dev) (r : Reg) (n : Nat) : (s.bumpBy r n).tjLast = s.tjLast := rfl
@[simp] theorem Dev.bumpBy_alertRecovery (s : Dev) (r : Reg) (n : Nat) : (s.bumpBy r n).alertRecovery = s.alertRecovery := rfl
@[simp] theorem Dev.bumpBy_rimFrames (s : Dev) (r : Reg) (n : Nat) : (s.bumpBy r n).rimFrames = s.rimFrames := rfl
@[simp] theorem Dev.bumpBy_paces (s : Dev) (r : Reg) (n : Nat) : (s.bumpBy r n).paces = s.paces := rfl
@[simp] theorem Dev.bumpBy_rails (s : Dev) (r : Reg) (n : Nat) : (s.bumpBy r n).rails = s.rails := rfl
@[simp] theorem Dev.bumpBy_deviceKey (s : Dev) (r : Reg) (n : Nat) : (s.bumpBy r n).deviceKey = s.deviceKey := rfl
@[simp] theorem Dev.bumpBy_dataKeys (s : Dev) (r : Reg) (n : Nat) : (s.bumpBy r n).dataKeys = s.dataKeys := rfl
@[simp] theorem Dev.bumpBy_exchanges (s : Dev) (r : Reg) (n : Nat) : (s.bumpBy r n).exchanges = s.exchanges := rfl
@[simp] theorem Dev.bumpBy_trngPass (s : Dev) (r : Reg) (n : Nat) : (s.bumpBy r n).trngPass = s.trngPass := rfl
@[simp] theorem Dev.bumpBy_reeds (s : Dev) (r : Reg) (n : Nat) : (s.bumpBy r n).reeds = s.reeds := rfl
@[simp] theorem Dev.bumpBy_spis (s : Dev) (r : Reg) (n : Nat) : (s.bumpBy r n).spis = s.spis := rfl
@[simp] theorem Dev.bumpBy_fines (s : Dev) (r : Reg) (n : Nat) : (s.bumpBy r n).fines = s.fines := rfl
@[simp] theorem Dev.bumpBy_fusion (s : Dev) (r : Reg) (n : Nat) : (s.bumpBy r n).fusion = s.fusion := rfl

/-! ### A counter counted -/

@[simp] theorem Dev.bump_blobs (s : Dev) (r : Reg) : (s.bump r).blobs = s.blobs := rfl
@[simp] theorem Dev.bump_out (s : Dev) (r : Reg) : (s.bump r).out = s.out := rfl
@[simp] theorem Dev.bump_free (s : Dev) (r : Reg) : (s.bump r).free = s.free := rfl
@[simp] theorem Dev.bump_f (s : Dev) (r : Reg) : (s.bump r).f = s.f := rfl
@[simp] theorem Dev.bump_aon (s : Dev) (r : Reg) : (s.bump r).aon = s.aon := rfl
@[simp] theorem Dev.bump_aonPhase (s : Dev) (r : Reg) : (s.bump r).aonPhase = s.aonPhase := rfl
@[simp] theorem Dev.bump_f0 (s : Dev) (r : Reg) : (s.bump r).f0 = s.f0 := rfl
@[simp] theorem Dev.bump_a0 (s : Dev) (r : Reg) : (s.bump r).a0 = s.a0 := rfl
@[simp] theorem Dev.bump_unbridged (s : Dev) (r : Reg) : (s.bump r).unbridged = s.unbridged := rfl
@[simp] theorem Dev.bump_entryWait (s : Dev) (r : Reg) : (s.bump r).entryWait = s.entryWait := rfl
@[simp] theorem Dev.bump_stopped (s : Dev) (r : Reg) : (s.bump r).stopped = s.stopped := rfl
@[simp] theorem Dev.bump_holdoverF (s : Dev) (r : Reg) : (s.bump r).holdoverF = s.holdoverF := rfl
@[simp] theorem Dev.bump_cmpFromF (s : Dev) (r : Reg) : (s.bump r).cmpFromF = s.cmpFromF := rfl
@[simp] theorem Dev.bump_lockRun (s : Dev) (r : Reg) : (s.bump r).lockRun = s.lockRun := rfl
@[simp] theorem Dev.bump_trigs (s : Dev) (r : Reg) : (s.bump r).trigs = s.trigs := rfl
@[simp] theorem Dev.bump_caps (s : Dev) (r : Reg) : (s.bump r).caps = s.caps := rfl
@[simp] theorem Dev.bump_clocks (s : Dev) (r : Reg) : (s.bump r).clocks = s.clocks := rfl
@[simp] theorem Dev.bump_reconvert (s : Dev) (r : Reg) : (s.bump r).reconvert = s.reconvert := rfl
@[simp] theorem Dev.bump_residence (s : Dev) (r : Reg) : (s.bump r).residence = s.residence := rfl
@[simp] theorem Dev.bump_ptpParent (s : Dev) (r : Reg) : (s.bump r).ptpParent = s.ptpParent := rfl
@[simp] theorem Dev.bump_skewDraws (s : Dev) (r : Reg) : (s.bump r).skewDraws = s.skewDraws := rfl
@[simp] theorem Dev.bump_meters (s : Dev) (r : Reg) : (s.bump r).meters = s.meters := rfl
@[simp] theorem Dev.bump_alive (s : Dev) (r : Reg) : (s.bump r).alive = s.alive := rfl
@[simp] theorem Dev.bump_frozen (s : Dev) (r : Reg) : (s.bump r).frozen = s.frozen := rfl
@[simp] theorem Dev.bump_freezeF (s : Dev) (r : Reg) : (s.bump r).freezeF = s.freezeF := rfl
@[simp] theorem Dev.bump_freezes (s : Dev) (r : Reg) : (s.bump r).freezes = s.freezes := rfl
@[simp] theorem Dev.bump_frozenNs (s : Dev) (r : Reg) : (s.bump r).frozenNs = s.frozenNs := rfl
@[simp] theorem Dev.bump_held (s : Dev) (r : Reg) : (s.bump r).held = s.held := rfl
@[simp] theorem Dev.bump_transfers (s : Dev) (r : Reg) : (s.bump r).transfers = s.transfers := rfl
@[simp] theorem Dev.bump_abandoned (s : Dev) (r : Reg) : (s.bump r).abandoned = s.abandoned := rfl
@[simp] theorem Dev.bump_mailboxes (s : Dev) (r : Reg) : (s.bump r).mailboxes = s.mailboxes := rfl
@[simp] theorem Dev.bump_discarded (s : Dev) (r : Reg) : (s.bump r).discarded = s.discarded := rfl
@[simp] theorem Dev.bump_stillAck (s : Dev) (r : Reg) : (s.bump r).stillAck = s.stillAck := rfl
@[simp] theorem Dev.bump_resumeF (s : Dev) (r : Reg) : (s.bump r).resumeF = s.resumeF := rfl
@[simp] theorem Dev.bump_bootWait (s : Dev) (r : Reg) : (s.bump r).bootWait = s.bootWait := rfl
@[simp] theorem Dev.bump_pufOk (s : Dev) (r : Reg) : (s.bump r).pufOk = s.pufOk := rfl
@[simp] theorem Dev.bump_tapAddr (s : Dev) (r : Reg) : (s.bump r).tapAddr = s.tapAddr := rfl
@[simp] theorem Dev.bump_ferries (s : Dev) (r : Reg) : (s.bump r).ferries = s.ferries := rfl
@[simp] theorem Dev.bump_starts (s : Dev) (r : Reg) : (s.bump r).starts = s.starts := rfl
@[simp] theorem Dev.bump_heldStarts (s : Dev) (r : Reg) : (s.bump r).heldStarts = s.heldStarts := rfl
@[simp] theorem Dev.bump_edcRepeats (s : Dev) (r : Reg) : (s.bump r).edcRepeats = s.edcRepeats := rfl
@[simp] theorem Dev.bump_gddrUncorr (s : Dev) (r : Reg) : (s.bump r).gddrUncorr = s.gddrUncorr := rfl
@[simp] theorem Dev.bump_coolMs (s : Dev) (r : Reg) : (s.bump r).coolMs = s.coolMs := rfl
@[simp] theorem Dev.bump_lastTick (s : Dev) (r : Reg) : (s.bump r).lastTick = s.lastTick := rfl
@[simp] theorem Dev.bump_confFullF (s : Dev) (r : Reg) : (s.bump r).confFullF = s.confFullF := rfl
@[simp] theorem Dev.bump_confFullNs (s : Dev) (r : Reg) : (s.bump r).confFullNs = s.confFullNs := rfl
@[simp] theorem Dev.bump_moved (s : Dev) (r : Reg) : (s.bump r).moved = s.moved := rfl
@[simp] theorem Dev.bump_filled (s : Dev) (r : Reg) : (s.bump r).filled = s.filled := rfl
@[simp] theorem Dev.bump_failedFirst (s : Dev) (r : Reg) : (s.bump r).failedFirst = s.failedFirst := rfl
@[simp] theorem Dev.bump_mirrorTurn (s : Dev) (r : Reg) : (s.bump r).mirrorTurn = s.mirrorTurn := rfl
@[simp] theorem Dev.bump_plans (s : Dev) (r : Reg) : (s.bump r).plans = s.plans := rfl
@[simp] theorem Dev.bump_phaseReq (s : Dev) (r : Reg) : (s.bump r).phaseReq = s.phaseReq := rfl
@[simp] theorem Dev.bump_planPhases (s : Dev) (r : Reg) : (s.bump r).planPhases = s.planPhases := rfl
@[simp] theorem Dev.bump_allocs (s : Dev) (r : Reg) : (s.bump r).allocs = s.allocs := rfl
@[simp] theorem Dev.bump_pops (s : Dev) (r : Reg) : (s.bump r).pops = s.pops := rfl
@[simp] theorem Dev.bump_neurons (s : Dev) (r : Reg) : (s.bump r).neurons = s.neurons := rfl
@[simp] theorem Dev.bump_accs (s : Dev) (r : Reg) : (s.bump r).accs = s.accs := rfl
@[simp] theorem Dev.bump_residues (s : Dev) (r : Reg) : (s.bump r).residues = s.residues := rfl
@[simp] theorem Dev.bump_neuronBad (s : Dev) (r : Reg) : (s.bump r).neuronBad = s.neuronBad := rfl
@[simp] theorem Dev.bump_counts (s : Dev) (r : Reg) : (s.bump r).counts = s.counts := rfl
@[simp] theorem Dev.bump_layers (s : Dev) (r : Reg) : (s.bump r).layers = s.layers := rfl
@[simp] theorem Dev.bump_lfsr (s : Dev) (r : Reg) : (s.bump r).lfsr = s.lfsr := rfl
@[simp] theorem Dev.bump_phaseSeed (s : Dev) (r : Reg) : (s.bump r).phaseSeed = s.phaseSeed := rfl
@[simp] theorem Dev.bump_unitF (s : Dev) (r : Reg) : (s.bump r).unitF = s.unitF := rfl
@[simp] theorem Dev.bump_sedLive (s : Dev) (r : Reg) : (s.bump r).sedLive = s.sedLive := rfl
@[simp] theorem Dev.bump_sedShadow (s : Dev) (r : Reg) : (s.bump r).sedShadow = s.sedShadow := rfl
@[simp] theorem Dev.bump_powerOn (s : Dev) (r : Reg) : (s.bump r).powerOn = s.powerOn := rfl
@[simp] theorem Dev.bump_mram0 (s : Dev) (r : Reg) : (s.bump r).mram0 = s.mram0 := rfl
@[simp] theorem Dev.bump_mram1 (s : Dev) (r : Reg) : (s.bump r).mram1 = s.mram1 := rfl
@[simp] theorem Dev.bump_sedFuse (s : Dev) (r : Reg) : (s.bump r).sedFuse = s.sedFuse := rfl
@[simp] theorem Dev.bump_commitReason (s : Dev) (r : Reg) : (s.bump r).commitReason = s.commitReason := rfl
@[simp] theorem Dev.bump_rateSeen (s : Dev) (r : Reg) : (s.bump r).rateSeen = s.rateSeen := rfl
@[simp] theorem Dev.bump_sedTickAon (s : Dev) (r : Reg) : (s.bump r).sedTickAon = s.sedTickAon := rfl
@[simp] theorem Dev.bump_commitF (s : Dev) (r : Reg) : (s.bump r).commitF = s.commitF := rfl
@[simp] theorem Dev.bump_commitBytes (s : Dev) (r : Reg) : (s.bump r).commitBytes = s.commitBytes := rfl
@[simp] theorem Dev.bump_weirs (s : Dev) (r : Reg) : (s.bump r).weirs = s.weirs := rfl
@[simp] theorem Dev.bump_waits (s : Dev) (r : Reg) : (s.bump r).waits = s.waits := rfl
@[simp] theorem Dev.bump_sess (s : Dev) (r : Reg) : (s.bump r).sess = s.sess := rfl
@[simp] theorem Dev.bump_chans (s : Dev) (r : Reg) : (s.bump r).chans = s.chans := rfl
@[simp] theorem Dev.bump_tenantHoldF (s : Dev) (r : Reg) : (s.bump r).tenantHoldF = s.tenantHoldF := rfl
@[simp] theorem Dev.bump_lldpNeighbour (s : Dev) (r : Reg) : (s.bump r).lldpNeighbour = s.lldpNeighbour := rfl
@[simp] theorem Dev.bump_detachF (s : Dev) (r : Reg) : (s.bump r).detachF = s.detachF := rfl
@[simp] theorem Dev.bump_faultQ (s : Dev) (r : Reg) : (s.bump r).faultQ = s.faultQ := rfl
@[simp] theorem Dev.bump_planFaultMs (s : Dev) (r : Reg) : (s.bump r).planFaultMs = s.planFaultMs := rfl
@[simp] theorem Dev.bump_alertFault (s : Dev) (r : Reg) : (s.bump r).alertFault = s.alertFault := rfl
@[simp] theorem Dev.bump_unitMap (s : Dev) (r : Reg) : (s.bump r).unitMap = s.unitMap := rfl
@[simp] theorem Dev.bump_poisonMs (s : Dev) (r : Reg) : (s.bump r).poisonMs = s.poisonMs := rfl
@[simp] theorem Dev.bump_pathRecalF (s : Dev) (r : Reg) : (s.bump r).pathRecalF = s.pathRecalF := rfl
@[simp] theorem Dev.bump_linkMs (s : Dev) (r : Reg) : (s.bump r).linkMs = s.linkMs := rfl
@[simp] theorem Dev.bump_linkRetrainF (s : Dev) (r : Reg) : (s.bump r).linkRetrainF = s.linkRetrainF := rfl
@[simp] theorem Dev.bump_streams (s : Dev) (r : Reg) : (s.bump r).streams = s.streams := rfl
@[simp] theorem Dev.bump_spillWin (s : Dev) (r : Reg) : (s.bump r).spillWin = s.spillWin := rfl
@[simp] theorem Dev.bump_spillMoved (s : Dev) (r : Reg) : (s.bump r).spillMoved = s.spillMoved := rfl
@[simp] theorem Dev.bump_mere (s : Dev) (r : Reg) : (s.bump r).mere = s.mere := rfl
@[simp] theorem Dev.bump_mereBad (s : Dev) (r : Reg) : (s.bump r).mereBad = s.mereBad := rfl
@[simp] theorem Dev.bump_parityRun (s : Dev) (r : Reg) : (s.bump r).parityRun = s.parityRun := rfl
@[simp] theorem Dev.bump_sweepPos (s : Dev) (r : Reg) : (s.bump r).sweepPos = s.sweepPos := rfl
@[simp] theorem Dev.bump_transit (s : Dev) (r : Reg) : (s.bump r).transit = s.transit := rfl
@[simp] theorem Dev.bump_routeHold (s : Dev) (r : Reg) : (s.bump r).routeHold = s.routeHold := rfl
@[simp] theorem Dev.bump_eddyTurn (s : Dev) (r : Reg) : (s.bump r).eddyTurn = s.eddyTurn := rfl
@[simp] theorem Dev.bump_sluices (s : Dev) (r : Reg) : (s.bump r).sluices = s.sluices := rfl
@[simp] theorem Dev.bump_regions (s : Dev) (r : Reg) : (s.bump r).regions = s.regions := rfl
@[simp] theorem Dev.bump_marches (s : Dev) (r : Reg) : (s.bump r).marches = s.marches := rfl
@[simp] theorem Dev.bump_padUncorr (s : Dev) (r : Reg) : (s.bump r).padUncorr = s.padUncorr := rfl
@[simp] theorem Dev.bump_silted (s : Dev) (r : Reg) : (s.bump r).silted = s.silted := rfl
@[simp] theorem Dev.bump_spareBits (s : Dev) (r : Reg) : (s.bump r).spareBits = s.spareBits := rfl
@[simp] theorem Dev.bump_doms (s : Dev) (r : Reg) : (s.bump r).doms = s.doms := rfl
@[simp] theorem Dev.bump_wakeIns (s : Dev) (r : Reg) : (s.bump r).wakeIns = s.wakeIns := rfl
@[simp] theorem Dev.bump_baseOff (s : Dev) (r : Reg) : (s.bump r).baseOff = s.baseOff := rfl
@[simp] theorem Dev.bump_thermtrip (s : Dev) (r : Reg) : (s.bump r).thermtrip = s.thermtrip := rfl
@[simp] theorem Dev.bump_hotDies (s : Dev) (r : Reg) : (s.bump r).hotDies = s.hotDies := rfl
@[simp] theorem Dev.bump_tjLast (s : Dev) (r : Reg) : (s.bump r).tjLast = s.tjLast := rfl
@[simp] theorem Dev.bump_alertRecovery (s : Dev) (r : Reg) : (s.bump r).alertRecovery = s.alertRecovery := rfl
@[simp] theorem Dev.bump_rimFrames (s : Dev) (r : Reg) : (s.bump r).rimFrames = s.rimFrames := rfl
@[simp] theorem Dev.bump_paces (s : Dev) (r : Reg) : (s.bump r).paces = s.paces := rfl
@[simp] theorem Dev.bump_rails (s : Dev) (r : Reg) : (s.bump r).rails = s.rails := rfl
@[simp] theorem Dev.bump_deviceKey (s : Dev) (r : Reg) : (s.bump r).deviceKey = s.deviceKey := rfl
@[simp] theorem Dev.bump_dataKeys (s : Dev) (r : Reg) : (s.bump r).dataKeys = s.dataKeys := rfl
@[simp] theorem Dev.bump_exchanges (s : Dev) (r : Reg) : (s.bump r).exchanges = s.exchanges := rfl
@[simp] theorem Dev.bump_trngPass (s : Dev) (r : Reg) : (s.bump r).trngPass = s.trngPass := rfl
@[simp] theorem Dev.bump_reeds (s : Dev) (r : Reg) : (s.bump r).reeds = s.reeds := rfl
@[simp] theorem Dev.bump_spis (s : Dev) (r : Reg) : (s.bump r).spis = s.spis := rfl
@[simp] theorem Dev.bump_fines (s : Dev) (r : Reg) : (s.bump r).fines = s.fines := rfl
@[simp] theorem Dev.bump_fusion (s : Dev) (r : Reg) : (s.bump r).fusion = s.fusion := rfl

/-! ### A byte string written -/

@[simp] theorem Dev.setBlob_dict (s : Dev) (r : Reg) (bs : List Byte) : (s.setBlob r bs).dict = s.dict := rfl
@[simp] theorem Dev.setBlob_out (s : Dev) (r : Reg) (bs : List Byte) : (s.setBlob r bs).out = s.out := rfl
@[simp] theorem Dev.setBlob_free (s : Dev) (r : Reg) (bs : List Byte) : (s.setBlob r bs).free = s.free := rfl
@[simp] theorem Dev.setBlob_f (s : Dev) (r : Reg) (bs : List Byte) : (s.setBlob r bs).f = s.f := rfl
@[simp] theorem Dev.setBlob_aon (s : Dev) (r : Reg) (bs : List Byte) : (s.setBlob r bs).aon = s.aon := rfl
@[simp] theorem Dev.setBlob_aonPhase (s : Dev) (r : Reg) (bs : List Byte) : (s.setBlob r bs).aonPhase = s.aonPhase := rfl
@[simp] theorem Dev.setBlob_f0 (s : Dev) (r : Reg) (bs : List Byte) : (s.setBlob r bs).f0 = s.f0 := rfl
@[simp] theorem Dev.setBlob_a0 (s : Dev) (r : Reg) (bs : List Byte) : (s.setBlob r bs).a0 = s.a0 := rfl
@[simp] theorem Dev.setBlob_unbridged (s : Dev) (r : Reg) (bs : List Byte) : (s.setBlob r bs).unbridged = s.unbridged := rfl
@[simp] theorem Dev.setBlob_entryWait (s : Dev) (r : Reg) (bs : List Byte) : (s.setBlob r bs).entryWait = s.entryWait := rfl
@[simp] theorem Dev.setBlob_stopped (s : Dev) (r : Reg) (bs : List Byte) : (s.setBlob r bs).stopped = s.stopped := rfl
@[simp] theorem Dev.setBlob_holdoverF (s : Dev) (r : Reg) (bs : List Byte) : (s.setBlob r bs).holdoverF = s.holdoverF := rfl
@[simp] theorem Dev.setBlob_cmpFromF (s : Dev) (r : Reg) (bs : List Byte) : (s.setBlob r bs).cmpFromF = s.cmpFromF := rfl
@[simp] theorem Dev.setBlob_lockRun (s : Dev) (r : Reg) (bs : List Byte) : (s.setBlob r bs).lockRun = s.lockRun := rfl
@[simp] theorem Dev.setBlob_trigs (s : Dev) (r : Reg) (bs : List Byte) : (s.setBlob r bs).trigs = s.trigs := rfl
@[simp] theorem Dev.setBlob_caps (s : Dev) (r : Reg) (bs : List Byte) : (s.setBlob r bs).caps = s.caps := rfl
@[simp] theorem Dev.setBlob_clocks (s : Dev) (r : Reg) (bs : List Byte) : (s.setBlob r bs).clocks = s.clocks := rfl
@[simp] theorem Dev.setBlob_reconvert (s : Dev) (r : Reg) (bs : List Byte) : (s.setBlob r bs).reconvert = s.reconvert := rfl
@[simp] theorem Dev.setBlob_residence (s : Dev) (r : Reg) (bs : List Byte) : (s.setBlob r bs).residence = s.residence := rfl
@[simp] theorem Dev.setBlob_ptpParent (s : Dev) (r : Reg) (bs : List Byte) : (s.setBlob r bs).ptpParent = s.ptpParent := rfl
@[simp] theorem Dev.setBlob_skewDraws (s : Dev) (r : Reg) (bs : List Byte) : (s.setBlob r bs).skewDraws = s.skewDraws := rfl
@[simp] theorem Dev.setBlob_meters (s : Dev) (r : Reg) (bs : List Byte) : (s.setBlob r bs).meters = s.meters := rfl
@[simp] theorem Dev.setBlob_alive (s : Dev) (r : Reg) (bs : List Byte) : (s.setBlob r bs).alive = s.alive := rfl
@[simp] theorem Dev.setBlob_frozen (s : Dev) (r : Reg) (bs : List Byte) : (s.setBlob r bs).frozen = s.frozen := rfl
@[simp] theorem Dev.setBlob_freezeF (s : Dev) (r : Reg) (bs : List Byte) : (s.setBlob r bs).freezeF = s.freezeF := rfl
@[simp] theorem Dev.setBlob_freezes (s : Dev) (r : Reg) (bs : List Byte) : (s.setBlob r bs).freezes = s.freezes := rfl
@[simp] theorem Dev.setBlob_frozenNs (s : Dev) (r : Reg) (bs : List Byte) : (s.setBlob r bs).frozenNs = s.frozenNs := rfl
@[simp] theorem Dev.setBlob_held (s : Dev) (r : Reg) (bs : List Byte) : (s.setBlob r bs).held = s.held := rfl
@[simp] theorem Dev.setBlob_transfers (s : Dev) (r : Reg) (bs : List Byte) : (s.setBlob r bs).transfers = s.transfers := rfl
@[simp] theorem Dev.setBlob_abandoned (s : Dev) (r : Reg) (bs : List Byte) : (s.setBlob r bs).abandoned = s.abandoned := rfl
@[simp] theorem Dev.setBlob_mailboxes (s : Dev) (r : Reg) (bs : List Byte) : (s.setBlob r bs).mailboxes = s.mailboxes := rfl
@[simp] theorem Dev.setBlob_discarded (s : Dev) (r : Reg) (bs : List Byte) : (s.setBlob r bs).discarded = s.discarded := rfl
@[simp] theorem Dev.setBlob_stillAck (s : Dev) (r : Reg) (bs : List Byte) : (s.setBlob r bs).stillAck = s.stillAck := rfl
@[simp] theorem Dev.setBlob_resumeF (s : Dev) (r : Reg) (bs : List Byte) : (s.setBlob r bs).resumeF = s.resumeF := rfl
@[simp] theorem Dev.setBlob_bootWait (s : Dev) (r : Reg) (bs : List Byte) : (s.setBlob r bs).bootWait = s.bootWait := rfl
@[simp] theorem Dev.setBlob_pufOk (s : Dev) (r : Reg) (bs : List Byte) : (s.setBlob r bs).pufOk = s.pufOk := rfl
@[simp] theorem Dev.setBlob_tapAddr (s : Dev) (r : Reg) (bs : List Byte) : (s.setBlob r bs).tapAddr = s.tapAddr := rfl
@[simp] theorem Dev.setBlob_ferries (s : Dev) (r : Reg) (bs : List Byte) : (s.setBlob r bs).ferries = s.ferries := rfl
@[simp] theorem Dev.setBlob_starts (s : Dev) (r : Reg) (bs : List Byte) : (s.setBlob r bs).starts = s.starts := rfl
@[simp] theorem Dev.setBlob_heldStarts (s : Dev) (r : Reg) (bs : List Byte) : (s.setBlob r bs).heldStarts = s.heldStarts := rfl
@[simp] theorem Dev.setBlob_edcRepeats (s : Dev) (r : Reg) (bs : List Byte) : (s.setBlob r bs).edcRepeats = s.edcRepeats := rfl
@[simp] theorem Dev.setBlob_gddrUncorr (s : Dev) (r : Reg) (bs : List Byte) : (s.setBlob r bs).gddrUncorr = s.gddrUncorr := rfl
@[simp] theorem Dev.setBlob_coolMs (s : Dev) (r : Reg) (bs : List Byte) : (s.setBlob r bs).coolMs = s.coolMs := rfl
@[simp] theorem Dev.setBlob_lastTick (s : Dev) (r : Reg) (bs : List Byte) : (s.setBlob r bs).lastTick = s.lastTick := rfl
@[simp] theorem Dev.setBlob_confFullF (s : Dev) (r : Reg) (bs : List Byte) : (s.setBlob r bs).confFullF = s.confFullF := rfl
@[simp] theorem Dev.setBlob_confFullNs (s : Dev) (r : Reg) (bs : List Byte) : (s.setBlob r bs).confFullNs = s.confFullNs := rfl
@[simp] theorem Dev.setBlob_moved (s : Dev) (r : Reg) (bs : List Byte) : (s.setBlob r bs).moved = s.moved := rfl
@[simp] theorem Dev.setBlob_filled (s : Dev) (r : Reg) (bs : List Byte) : (s.setBlob r bs).filled = s.filled := rfl
@[simp] theorem Dev.setBlob_failedFirst (s : Dev) (r : Reg) (bs : List Byte) : (s.setBlob r bs).failedFirst = s.failedFirst := rfl
@[simp] theorem Dev.setBlob_mirrorTurn (s : Dev) (r : Reg) (bs : List Byte) : (s.setBlob r bs).mirrorTurn = s.mirrorTurn := rfl
@[simp] theorem Dev.setBlob_plans (s : Dev) (r : Reg) (bs : List Byte) : (s.setBlob r bs).plans = s.plans := rfl
@[simp] theorem Dev.setBlob_phaseReq (s : Dev) (r : Reg) (bs : List Byte) : (s.setBlob r bs).phaseReq = s.phaseReq := rfl
@[simp] theorem Dev.setBlob_planPhases (s : Dev) (r : Reg) (bs : List Byte) : (s.setBlob r bs).planPhases = s.planPhases := rfl
@[simp] theorem Dev.setBlob_allocs (s : Dev) (r : Reg) (bs : List Byte) : (s.setBlob r bs).allocs = s.allocs := rfl
@[simp] theorem Dev.setBlob_pops (s : Dev) (r : Reg) (bs : List Byte) : (s.setBlob r bs).pops = s.pops := rfl
@[simp] theorem Dev.setBlob_neurons (s : Dev) (r : Reg) (bs : List Byte) : (s.setBlob r bs).neurons = s.neurons := rfl
@[simp] theorem Dev.setBlob_accs (s : Dev) (r : Reg) (bs : List Byte) : (s.setBlob r bs).accs = s.accs := rfl
@[simp] theorem Dev.setBlob_residues (s : Dev) (r : Reg) (bs : List Byte) : (s.setBlob r bs).residues = s.residues := rfl
@[simp] theorem Dev.setBlob_neuronBad (s : Dev) (r : Reg) (bs : List Byte) : (s.setBlob r bs).neuronBad = s.neuronBad := rfl
@[simp] theorem Dev.setBlob_counts (s : Dev) (r : Reg) (bs : List Byte) : (s.setBlob r bs).counts = s.counts := rfl
@[simp] theorem Dev.setBlob_layers (s : Dev) (r : Reg) (bs : List Byte) : (s.setBlob r bs).layers = s.layers := rfl
@[simp] theorem Dev.setBlob_lfsr (s : Dev) (r : Reg) (bs : List Byte) : (s.setBlob r bs).lfsr = s.lfsr := rfl
@[simp] theorem Dev.setBlob_phaseSeed (s : Dev) (r : Reg) (bs : List Byte) : (s.setBlob r bs).phaseSeed = s.phaseSeed := rfl
@[simp] theorem Dev.setBlob_unitF (s : Dev) (r : Reg) (bs : List Byte) : (s.setBlob r bs).unitF = s.unitF := rfl
@[simp] theorem Dev.setBlob_sedLive (s : Dev) (r : Reg) (bs : List Byte) : (s.setBlob r bs).sedLive = s.sedLive := rfl
@[simp] theorem Dev.setBlob_sedShadow (s : Dev) (r : Reg) (bs : List Byte) : (s.setBlob r bs).sedShadow = s.sedShadow := rfl
@[simp] theorem Dev.setBlob_powerOn (s : Dev) (r : Reg) (bs : List Byte) : (s.setBlob r bs).powerOn = s.powerOn := rfl
@[simp] theorem Dev.setBlob_mram0 (s : Dev) (r : Reg) (bs : List Byte) : (s.setBlob r bs).mram0 = s.mram0 := rfl
@[simp] theorem Dev.setBlob_mram1 (s : Dev) (r : Reg) (bs : List Byte) : (s.setBlob r bs).mram1 = s.mram1 := rfl
@[simp] theorem Dev.setBlob_sedFuse (s : Dev) (r : Reg) (bs : List Byte) : (s.setBlob r bs).sedFuse = s.sedFuse := rfl
@[simp] theorem Dev.setBlob_commitReason (s : Dev) (r : Reg) (bs : List Byte) : (s.setBlob r bs).commitReason = s.commitReason := rfl
@[simp] theorem Dev.setBlob_rateSeen (s : Dev) (r : Reg) (bs : List Byte) : (s.setBlob r bs).rateSeen = s.rateSeen := rfl
@[simp] theorem Dev.setBlob_sedTickAon (s : Dev) (r : Reg) (bs : List Byte) : (s.setBlob r bs).sedTickAon = s.sedTickAon := rfl
@[simp] theorem Dev.setBlob_commitF (s : Dev) (r : Reg) (bs : List Byte) : (s.setBlob r bs).commitF = s.commitF := rfl
@[simp] theorem Dev.setBlob_commitBytes (s : Dev) (r : Reg) (bs : List Byte) : (s.setBlob r bs).commitBytes = s.commitBytes := rfl
@[simp] theorem Dev.setBlob_weirs (s : Dev) (r : Reg) (bs : List Byte) : (s.setBlob r bs).weirs = s.weirs := rfl
@[simp] theorem Dev.setBlob_waits (s : Dev) (r : Reg) (bs : List Byte) : (s.setBlob r bs).waits = s.waits := rfl
@[simp] theorem Dev.setBlob_sess (s : Dev) (r : Reg) (bs : List Byte) : (s.setBlob r bs).sess = s.sess := rfl
@[simp] theorem Dev.setBlob_chans (s : Dev) (r : Reg) (bs : List Byte) : (s.setBlob r bs).chans = s.chans := rfl
@[simp] theorem Dev.setBlob_tenantHoldF (s : Dev) (r : Reg) (bs : List Byte) : (s.setBlob r bs).tenantHoldF = s.tenantHoldF := rfl
@[simp] theorem Dev.setBlob_lldpNeighbour (s : Dev) (r : Reg) (bs : List Byte) : (s.setBlob r bs).lldpNeighbour = s.lldpNeighbour := rfl
@[simp] theorem Dev.setBlob_detachF (s : Dev) (r : Reg) (bs : List Byte) : (s.setBlob r bs).detachF = s.detachF := rfl
@[simp] theorem Dev.setBlob_faultQ (s : Dev) (r : Reg) (bs : List Byte) : (s.setBlob r bs).faultQ = s.faultQ := rfl
@[simp] theorem Dev.setBlob_planFaultMs (s : Dev) (r : Reg) (bs : List Byte) : (s.setBlob r bs).planFaultMs = s.planFaultMs := rfl
@[simp] theorem Dev.setBlob_alertFault (s : Dev) (r : Reg) (bs : List Byte) : (s.setBlob r bs).alertFault = s.alertFault := rfl
@[simp] theorem Dev.setBlob_unitMap (s : Dev) (r : Reg) (bs : List Byte) : (s.setBlob r bs).unitMap = s.unitMap := rfl
@[simp] theorem Dev.setBlob_poisonMs (s : Dev) (r : Reg) (bs : List Byte) : (s.setBlob r bs).poisonMs = s.poisonMs := rfl
@[simp] theorem Dev.setBlob_pathRecalF (s : Dev) (r : Reg) (bs : List Byte) : (s.setBlob r bs).pathRecalF = s.pathRecalF := rfl
@[simp] theorem Dev.setBlob_linkMs (s : Dev) (r : Reg) (bs : List Byte) : (s.setBlob r bs).linkMs = s.linkMs := rfl
@[simp] theorem Dev.setBlob_linkRetrainF (s : Dev) (r : Reg) (bs : List Byte) : (s.setBlob r bs).linkRetrainF = s.linkRetrainF := rfl
@[simp] theorem Dev.setBlob_streams (s : Dev) (r : Reg) (bs : List Byte) : (s.setBlob r bs).streams = s.streams := rfl
@[simp] theorem Dev.setBlob_spillWin (s : Dev) (r : Reg) (bs : List Byte) : (s.setBlob r bs).spillWin = s.spillWin := rfl
@[simp] theorem Dev.setBlob_spillMoved (s : Dev) (r : Reg) (bs : List Byte) : (s.setBlob r bs).spillMoved = s.spillMoved := rfl
@[simp] theorem Dev.setBlob_mere (s : Dev) (r : Reg) (bs : List Byte) : (s.setBlob r bs).mere = s.mere := rfl
@[simp] theorem Dev.setBlob_mereBad (s : Dev) (r : Reg) (bs : List Byte) : (s.setBlob r bs).mereBad = s.mereBad := rfl
@[simp] theorem Dev.setBlob_parityRun (s : Dev) (r : Reg) (bs : List Byte) : (s.setBlob r bs).parityRun = s.parityRun := rfl
@[simp] theorem Dev.setBlob_sweepPos (s : Dev) (r : Reg) (bs : List Byte) : (s.setBlob r bs).sweepPos = s.sweepPos := rfl
@[simp] theorem Dev.setBlob_transit (s : Dev) (r : Reg) (bs : List Byte) : (s.setBlob r bs).transit = s.transit := rfl
@[simp] theorem Dev.setBlob_routeHold (s : Dev) (r : Reg) (bs : List Byte) : (s.setBlob r bs).routeHold = s.routeHold := rfl
@[simp] theorem Dev.setBlob_eddyTurn (s : Dev) (r : Reg) (bs : List Byte) : (s.setBlob r bs).eddyTurn = s.eddyTurn := rfl
@[simp] theorem Dev.setBlob_sluices (s : Dev) (r : Reg) (bs : List Byte) : (s.setBlob r bs).sluices = s.sluices := rfl
@[simp] theorem Dev.setBlob_regions (s : Dev) (r : Reg) (bs : List Byte) : (s.setBlob r bs).regions = s.regions := rfl
@[simp] theorem Dev.setBlob_marches (s : Dev) (r : Reg) (bs : List Byte) : (s.setBlob r bs).marches = s.marches := rfl
@[simp] theorem Dev.setBlob_padUncorr (s : Dev) (r : Reg) (bs : List Byte) : (s.setBlob r bs).padUncorr = s.padUncorr := rfl
@[simp] theorem Dev.setBlob_silted (s : Dev) (r : Reg) (bs : List Byte) : (s.setBlob r bs).silted = s.silted := rfl
@[simp] theorem Dev.setBlob_spareBits (s : Dev) (r : Reg) (bs : List Byte) : (s.setBlob r bs).spareBits = s.spareBits := rfl
@[simp] theorem Dev.setBlob_doms (s : Dev) (r : Reg) (bs : List Byte) : (s.setBlob r bs).doms = s.doms := rfl
@[simp] theorem Dev.setBlob_wakeIns (s : Dev) (r : Reg) (bs : List Byte) : (s.setBlob r bs).wakeIns = s.wakeIns := rfl
@[simp] theorem Dev.setBlob_baseOff (s : Dev) (r : Reg) (bs : List Byte) : (s.setBlob r bs).baseOff = s.baseOff := rfl
@[simp] theorem Dev.setBlob_thermtrip (s : Dev) (r : Reg) (bs : List Byte) : (s.setBlob r bs).thermtrip = s.thermtrip := rfl
@[simp] theorem Dev.setBlob_hotDies (s : Dev) (r : Reg) (bs : List Byte) : (s.setBlob r bs).hotDies = s.hotDies := rfl
@[simp] theorem Dev.setBlob_tjLast (s : Dev) (r : Reg) (bs : List Byte) : (s.setBlob r bs).tjLast = s.tjLast := rfl
@[simp] theorem Dev.setBlob_alertRecovery (s : Dev) (r : Reg) (bs : List Byte) : (s.setBlob r bs).alertRecovery = s.alertRecovery := rfl
@[simp] theorem Dev.setBlob_rimFrames (s : Dev) (r : Reg) (bs : List Byte) : (s.setBlob r bs).rimFrames = s.rimFrames := rfl
@[simp] theorem Dev.setBlob_paces (s : Dev) (r : Reg) (bs : List Byte) : (s.setBlob r bs).paces = s.paces := rfl
@[simp] theorem Dev.setBlob_rails (s : Dev) (r : Reg) (bs : List Byte) : (s.setBlob r bs).rails = s.rails := rfl
@[simp] theorem Dev.setBlob_deviceKey (s : Dev) (r : Reg) (bs : List Byte) : (s.setBlob r bs).deviceKey = s.deviceKey := rfl
@[simp] theorem Dev.setBlob_dataKeys (s : Dev) (r : Reg) (bs : List Byte) : (s.setBlob r bs).dataKeys = s.dataKeys := rfl
@[simp] theorem Dev.setBlob_exchanges (s : Dev) (r : Reg) (bs : List Byte) : (s.setBlob r bs).exchanges = s.exchanges := rfl
@[simp] theorem Dev.setBlob_trngPass (s : Dev) (r : Reg) (bs : List Byte) : (s.setBlob r bs).trngPass = s.trngPass := rfl
@[simp] theorem Dev.setBlob_reeds (s : Dev) (r : Reg) (bs : List Byte) : (s.setBlob r bs).reeds = s.reeds := rfl
@[simp] theorem Dev.setBlob_spis (s : Dev) (r : Reg) (bs : List Byte) : (s.setBlob r bs).spis = s.spis := rfl
@[simp] theorem Dev.setBlob_fines (s : Dev) (r : Reg) (bs : List Byte) : (s.setBlob r bs).fines = s.fines := rfl
@[simp] theorem Dev.setBlob_fusion (s : Dev) (r : Reg) (bs : List Byte) : (s.setBlob r bs).fusion = s.fusion := rfl

/-! ### Something sent -/

@[simp] theorem Dev.emit_dict (s : Dev) (o : Out) : (s.emit o).dict = s.dict := rfl
@[simp] theorem Dev.emit_blobs (s : Dev) (o : Out) : (s.emit o).blobs = s.blobs := rfl
@[simp] theorem Dev.emit_free (s : Dev) (o : Out) : (s.emit o).free = s.free := rfl
@[simp] theorem Dev.emit_f (s : Dev) (o : Out) : (s.emit o).f = s.f := rfl
@[simp] theorem Dev.emit_aon (s : Dev) (o : Out) : (s.emit o).aon = s.aon := rfl
@[simp] theorem Dev.emit_aonPhase (s : Dev) (o : Out) : (s.emit o).aonPhase = s.aonPhase := rfl
@[simp] theorem Dev.emit_f0 (s : Dev) (o : Out) : (s.emit o).f0 = s.f0 := rfl
@[simp] theorem Dev.emit_a0 (s : Dev) (o : Out) : (s.emit o).a0 = s.a0 := rfl
@[simp] theorem Dev.emit_unbridged (s : Dev) (o : Out) : (s.emit o).unbridged = s.unbridged := rfl
@[simp] theorem Dev.emit_entryWait (s : Dev) (o : Out) : (s.emit o).entryWait = s.entryWait := rfl
@[simp] theorem Dev.emit_stopped (s : Dev) (o : Out) : (s.emit o).stopped = s.stopped := rfl
@[simp] theorem Dev.emit_holdoverF (s : Dev) (o : Out) : (s.emit o).holdoverF = s.holdoverF := rfl
@[simp] theorem Dev.emit_cmpFromF (s : Dev) (o : Out) : (s.emit o).cmpFromF = s.cmpFromF := rfl
@[simp] theorem Dev.emit_lockRun (s : Dev) (o : Out) : (s.emit o).lockRun = s.lockRun := rfl
@[simp] theorem Dev.emit_trigs (s : Dev) (o : Out) : (s.emit o).trigs = s.trigs := rfl
@[simp] theorem Dev.emit_caps (s : Dev) (o : Out) : (s.emit o).caps = s.caps := rfl
@[simp] theorem Dev.emit_clocks (s : Dev) (o : Out) : (s.emit o).clocks = s.clocks := rfl
@[simp] theorem Dev.emit_reconvert (s : Dev) (o : Out) : (s.emit o).reconvert = s.reconvert := rfl
@[simp] theorem Dev.emit_residence (s : Dev) (o : Out) : (s.emit o).residence = s.residence := rfl
@[simp] theorem Dev.emit_ptpParent (s : Dev) (o : Out) : (s.emit o).ptpParent = s.ptpParent := rfl
@[simp] theorem Dev.emit_skewDraws (s : Dev) (o : Out) : (s.emit o).skewDraws = s.skewDraws := rfl
@[simp] theorem Dev.emit_meters (s : Dev) (o : Out) : (s.emit o).meters = s.meters := rfl
@[simp] theorem Dev.emit_alive (s : Dev) (o : Out) : (s.emit o).alive = s.alive := rfl
@[simp] theorem Dev.emit_frozen (s : Dev) (o : Out) : (s.emit o).frozen = s.frozen := rfl
@[simp] theorem Dev.emit_freezeF (s : Dev) (o : Out) : (s.emit o).freezeF = s.freezeF := rfl
@[simp] theorem Dev.emit_freezes (s : Dev) (o : Out) : (s.emit o).freezes = s.freezes := rfl
@[simp] theorem Dev.emit_frozenNs (s : Dev) (o : Out) : (s.emit o).frozenNs = s.frozenNs := rfl
@[simp] theorem Dev.emit_held (s : Dev) (o : Out) : (s.emit o).held = s.held := rfl
@[simp] theorem Dev.emit_transfers (s : Dev) (o : Out) : (s.emit o).transfers = s.transfers := rfl
@[simp] theorem Dev.emit_abandoned (s : Dev) (o : Out) : (s.emit o).abandoned = s.abandoned := rfl
@[simp] theorem Dev.emit_mailboxes (s : Dev) (o : Out) : (s.emit o).mailboxes = s.mailboxes := rfl
@[simp] theorem Dev.emit_discarded (s : Dev) (o : Out) : (s.emit o).discarded = s.discarded := rfl
@[simp] theorem Dev.emit_stillAck (s : Dev) (o : Out) : (s.emit o).stillAck = s.stillAck := rfl
@[simp] theorem Dev.emit_resumeF (s : Dev) (o : Out) : (s.emit o).resumeF = s.resumeF := rfl
@[simp] theorem Dev.emit_bootWait (s : Dev) (o : Out) : (s.emit o).bootWait = s.bootWait := rfl
@[simp] theorem Dev.emit_pufOk (s : Dev) (o : Out) : (s.emit o).pufOk = s.pufOk := rfl
@[simp] theorem Dev.emit_tapAddr (s : Dev) (o : Out) : (s.emit o).tapAddr = s.tapAddr := rfl
@[simp] theorem Dev.emit_ferries (s : Dev) (o : Out) : (s.emit o).ferries = s.ferries := rfl
@[simp] theorem Dev.emit_starts (s : Dev) (o : Out) : (s.emit o).starts = s.starts := rfl
@[simp] theorem Dev.emit_heldStarts (s : Dev) (o : Out) : (s.emit o).heldStarts = s.heldStarts := rfl
@[simp] theorem Dev.emit_edcRepeats (s : Dev) (o : Out) : (s.emit o).edcRepeats = s.edcRepeats := rfl
@[simp] theorem Dev.emit_gddrUncorr (s : Dev) (o : Out) : (s.emit o).gddrUncorr = s.gddrUncorr := rfl
@[simp] theorem Dev.emit_coolMs (s : Dev) (o : Out) : (s.emit o).coolMs = s.coolMs := rfl
@[simp] theorem Dev.emit_lastTick (s : Dev) (o : Out) : (s.emit o).lastTick = s.lastTick := rfl
@[simp] theorem Dev.emit_confFullF (s : Dev) (o : Out) : (s.emit o).confFullF = s.confFullF := rfl
@[simp] theorem Dev.emit_confFullNs (s : Dev) (o : Out) : (s.emit o).confFullNs = s.confFullNs := rfl
@[simp] theorem Dev.emit_moved (s : Dev) (o : Out) : (s.emit o).moved = s.moved := rfl
@[simp] theorem Dev.emit_filled (s : Dev) (o : Out) : (s.emit o).filled = s.filled := rfl
@[simp] theorem Dev.emit_failedFirst (s : Dev) (o : Out) : (s.emit o).failedFirst = s.failedFirst := rfl
@[simp] theorem Dev.emit_mirrorTurn (s : Dev) (o : Out) : (s.emit o).mirrorTurn = s.mirrorTurn := rfl
@[simp] theorem Dev.emit_plans (s : Dev) (o : Out) : (s.emit o).plans = s.plans := rfl
@[simp] theorem Dev.emit_phaseReq (s : Dev) (o : Out) : (s.emit o).phaseReq = s.phaseReq := rfl
@[simp] theorem Dev.emit_planPhases (s : Dev) (o : Out) : (s.emit o).planPhases = s.planPhases := rfl
@[simp] theorem Dev.emit_allocs (s : Dev) (o : Out) : (s.emit o).allocs = s.allocs := rfl
@[simp] theorem Dev.emit_pops (s : Dev) (o : Out) : (s.emit o).pops = s.pops := rfl
@[simp] theorem Dev.emit_neurons (s : Dev) (o : Out) : (s.emit o).neurons = s.neurons := rfl
@[simp] theorem Dev.emit_accs (s : Dev) (o : Out) : (s.emit o).accs = s.accs := rfl
@[simp] theorem Dev.emit_residues (s : Dev) (o : Out) : (s.emit o).residues = s.residues := rfl
@[simp] theorem Dev.emit_neuronBad (s : Dev) (o : Out) : (s.emit o).neuronBad = s.neuronBad := rfl
@[simp] theorem Dev.emit_counts (s : Dev) (o : Out) : (s.emit o).counts = s.counts := rfl
@[simp] theorem Dev.emit_layers (s : Dev) (o : Out) : (s.emit o).layers = s.layers := rfl
@[simp] theorem Dev.emit_lfsr (s : Dev) (o : Out) : (s.emit o).lfsr = s.lfsr := rfl
@[simp] theorem Dev.emit_phaseSeed (s : Dev) (o : Out) : (s.emit o).phaseSeed = s.phaseSeed := rfl
@[simp] theorem Dev.emit_unitF (s : Dev) (o : Out) : (s.emit o).unitF = s.unitF := rfl
@[simp] theorem Dev.emit_sedLive (s : Dev) (o : Out) : (s.emit o).sedLive = s.sedLive := rfl
@[simp] theorem Dev.emit_sedShadow (s : Dev) (o : Out) : (s.emit o).sedShadow = s.sedShadow := rfl
@[simp] theorem Dev.emit_powerOn (s : Dev) (o : Out) : (s.emit o).powerOn = s.powerOn := rfl
@[simp] theorem Dev.emit_mram0 (s : Dev) (o : Out) : (s.emit o).mram0 = s.mram0 := rfl
@[simp] theorem Dev.emit_mram1 (s : Dev) (o : Out) : (s.emit o).mram1 = s.mram1 := rfl
@[simp] theorem Dev.emit_sedFuse (s : Dev) (o : Out) : (s.emit o).sedFuse = s.sedFuse := rfl
@[simp] theorem Dev.emit_commitReason (s : Dev) (o : Out) : (s.emit o).commitReason = s.commitReason := rfl
@[simp] theorem Dev.emit_rateSeen (s : Dev) (o : Out) : (s.emit o).rateSeen = s.rateSeen := rfl
@[simp] theorem Dev.emit_sedTickAon (s : Dev) (o : Out) : (s.emit o).sedTickAon = s.sedTickAon := rfl
@[simp] theorem Dev.emit_commitF (s : Dev) (o : Out) : (s.emit o).commitF = s.commitF := rfl
@[simp] theorem Dev.emit_commitBytes (s : Dev) (o : Out) : (s.emit o).commitBytes = s.commitBytes := rfl
@[simp] theorem Dev.emit_weirs (s : Dev) (o : Out) : (s.emit o).weirs = s.weirs := rfl
@[simp] theorem Dev.emit_waits (s : Dev) (o : Out) : (s.emit o).waits = s.waits := rfl
@[simp] theorem Dev.emit_sess (s : Dev) (o : Out) : (s.emit o).sess = s.sess := rfl
@[simp] theorem Dev.emit_chans (s : Dev) (o : Out) : (s.emit o).chans = s.chans := rfl
@[simp] theorem Dev.emit_tenantHoldF (s : Dev) (o : Out) : (s.emit o).tenantHoldF = s.tenantHoldF := rfl
@[simp] theorem Dev.emit_lldpNeighbour (s : Dev) (o : Out) : (s.emit o).lldpNeighbour = s.lldpNeighbour := rfl
@[simp] theorem Dev.emit_detachF (s : Dev) (o : Out) : (s.emit o).detachF = s.detachF := rfl
@[simp] theorem Dev.emit_faultQ (s : Dev) (o : Out) : (s.emit o).faultQ = s.faultQ := rfl
@[simp] theorem Dev.emit_planFaultMs (s : Dev) (o : Out) : (s.emit o).planFaultMs = s.planFaultMs := rfl
@[simp] theorem Dev.emit_alertFault (s : Dev) (o : Out) : (s.emit o).alertFault = s.alertFault := rfl
@[simp] theorem Dev.emit_unitMap (s : Dev) (o : Out) : (s.emit o).unitMap = s.unitMap := rfl
@[simp] theorem Dev.emit_poisonMs (s : Dev) (o : Out) : (s.emit o).poisonMs = s.poisonMs := rfl
@[simp] theorem Dev.emit_pathRecalF (s : Dev) (o : Out) : (s.emit o).pathRecalF = s.pathRecalF := rfl
@[simp] theorem Dev.emit_linkMs (s : Dev) (o : Out) : (s.emit o).linkMs = s.linkMs := rfl
@[simp] theorem Dev.emit_linkRetrainF (s : Dev) (o : Out) : (s.emit o).linkRetrainF = s.linkRetrainF := rfl
@[simp] theorem Dev.emit_streams (s : Dev) (o : Out) : (s.emit o).streams = s.streams := rfl
@[simp] theorem Dev.emit_spillWin (s : Dev) (o : Out) : (s.emit o).spillWin = s.spillWin := rfl
@[simp] theorem Dev.emit_spillMoved (s : Dev) (o : Out) : (s.emit o).spillMoved = s.spillMoved := rfl
@[simp] theorem Dev.emit_mere (s : Dev) (o : Out) : (s.emit o).mere = s.mere := rfl
@[simp] theorem Dev.emit_mereBad (s : Dev) (o : Out) : (s.emit o).mereBad = s.mereBad := rfl
@[simp] theorem Dev.emit_parityRun (s : Dev) (o : Out) : (s.emit o).parityRun = s.parityRun := rfl
@[simp] theorem Dev.emit_sweepPos (s : Dev) (o : Out) : (s.emit o).sweepPos = s.sweepPos := rfl
@[simp] theorem Dev.emit_transit (s : Dev) (o : Out) : (s.emit o).transit = s.transit := rfl
@[simp] theorem Dev.emit_routeHold (s : Dev) (o : Out) : (s.emit o).routeHold = s.routeHold := rfl
@[simp] theorem Dev.emit_eddyTurn (s : Dev) (o : Out) : (s.emit o).eddyTurn = s.eddyTurn := rfl
@[simp] theorem Dev.emit_sluices (s : Dev) (o : Out) : (s.emit o).sluices = s.sluices := rfl
@[simp] theorem Dev.emit_regions (s : Dev) (o : Out) : (s.emit o).regions = s.regions := rfl
@[simp] theorem Dev.emit_marches (s : Dev) (o : Out) : (s.emit o).marches = s.marches := rfl
@[simp] theorem Dev.emit_padUncorr (s : Dev) (o : Out) : (s.emit o).padUncorr = s.padUncorr := rfl
@[simp] theorem Dev.emit_silted (s : Dev) (o : Out) : (s.emit o).silted = s.silted := rfl
@[simp] theorem Dev.emit_spareBits (s : Dev) (o : Out) : (s.emit o).spareBits = s.spareBits := rfl
@[simp] theorem Dev.emit_doms (s : Dev) (o : Out) : (s.emit o).doms = s.doms := rfl
@[simp] theorem Dev.emit_wakeIns (s : Dev) (o : Out) : (s.emit o).wakeIns = s.wakeIns := rfl
@[simp] theorem Dev.emit_baseOff (s : Dev) (o : Out) : (s.emit o).baseOff = s.baseOff := rfl
@[simp] theorem Dev.emit_thermtrip (s : Dev) (o : Out) : (s.emit o).thermtrip = s.thermtrip := rfl
@[simp] theorem Dev.emit_hotDies (s : Dev) (o : Out) : (s.emit o).hotDies = s.hotDies := rfl
@[simp] theorem Dev.emit_tjLast (s : Dev) (o : Out) : (s.emit o).tjLast = s.tjLast := rfl
@[simp] theorem Dev.emit_alertRecovery (s : Dev) (o : Out) : (s.emit o).alertRecovery = s.alertRecovery := rfl
@[simp] theorem Dev.emit_rimFrames (s : Dev) (o : Out) : (s.emit o).rimFrames = s.rimFrames := rfl
@[simp] theorem Dev.emit_paces (s : Dev) (o : Out) : (s.emit o).paces = s.paces := rfl
@[simp] theorem Dev.emit_rails (s : Dev) (o : Out) : (s.emit o).rails = s.rails := rfl
@[simp] theorem Dev.emit_deviceKey (s : Dev) (o : Out) : (s.emit o).deviceKey = s.deviceKey := rfl
@[simp] theorem Dev.emit_dataKeys (s : Dev) (o : Out) : (s.emit o).dataKeys = s.dataKeys := rfl
@[simp] theorem Dev.emit_exchanges (s : Dev) (o : Out) : (s.emit o).exchanges = s.exchanges := rfl
@[simp] theorem Dev.emit_trngPass (s : Dev) (o : Out) : (s.emit o).trngPass = s.trngPass := rfl
@[simp] theorem Dev.emit_reeds (s : Dev) (o : Out) : (s.emit o).reeds = s.reeds := rfl
@[simp] theorem Dev.emit_spis (s : Dev) (o : Out) : (s.emit o).spis = s.spis := rfl
@[simp] theorem Dev.emit_fines (s : Dev) (o : Out) : (s.emit o).fines = s.fines := rfl
@[simp] theorem Dev.emit_fusion (s : Dev) (o : Out) : (s.emit o).fusion = s.fusion := rfl

/-! ### Nothing sent yet -/

@[simp] theorem Dev.fresh_dict (s : Dev) : s.fresh.dict = s.dict := rfl
@[simp] theorem Dev.fresh_blobs (s : Dev) : s.fresh.blobs = s.blobs := rfl
@[simp] theorem Dev.fresh_free (s : Dev) : s.fresh.free = s.free := rfl
@[simp] theorem Dev.fresh_f (s : Dev) : s.fresh.f = s.f := rfl
@[simp] theorem Dev.fresh_aon (s : Dev) : s.fresh.aon = s.aon := rfl
@[simp] theorem Dev.fresh_aonPhase (s : Dev) : s.fresh.aonPhase = s.aonPhase := rfl
@[simp] theorem Dev.fresh_f0 (s : Dev) : s.fresh.f0 = s.f0 := rfl
@[simp] theorem Dev.fresh_a0 (s : Dev) : s.fresh.a0 = s.a0 := rfl
@[simp] theorem Dev.fresh_unbridged (s : Dev) : s.fresh.unbridged = s.unbridged := rfl
@[simp] theorem Dev.fresh_entryWait (s : Dev) : s.fresh.entryWait = s.entryWait := rfl
@[simp] theorem Dev.fresh_stopped (s : Dev) : s.fresh.stopped = s.stopped := rfl
@[simp] theorem Dev.fresh_holdoverF (s : Dev) : s.fresh.holdoverF = s.holdoverF := rfl
@[simp] theorem Dev.fresh_cmpFromF (s : Dev) : s.fresh.cmpFromF = s.cmpFromF := rfl
@[simp] theorem Dev.fresh_lockRun (s : Dev) : s.fresh.lockRun = s.lockRun := rfl
@[simp] theorem Dev.fresh_trigs (s : Dev) : s.fresh.trigs = s.trigs := rfl
@[simp] theorem Dev.fresh_caps (s : Dev) : s.fresh.caps = s.caps := rfl
@[simp] theorem Dev.fresh_clocks (s : Dev) : s.fresh.clocks = s.clocks := rfl
@[simp] theorem Dev.fresh_reconvert (s : Dev) : s.fresh.reconvert = s.reconvert := rfl
@[simp] theorem Dev.fresh_residence (s : Dev) : s.fresh.residence = s.residence := rfl
@[simp] theorem Dev.fresh_ptpParent (s : Dev) : s.fresh.ptpParent = s.ptpParent := rfl
@[simp] theorem Dev.fresh_skewDraws (s : Dev) : s.fresh.skewDraws = s.skewDraws := rfl
@[simp] theorem Dev.fresh_meters (s : Dev) : s.fresh.meters = s.meters := rfl
@[simp] theorem Dev.fresh_alive (s : Dev) : s.fresh.alive = s.alive := rfl
@[simp] theorem Dev.fresh_frozen (s : Dev) : s.fresh.frozen = s.frozen := rfl
@[simp] theorem Dev.fresh_freezeF (s : Dev) : s.fresh.freezeF = s.freezeF := rfl
@[simp] theorem Dev.fresh_freezes (s : Dev) : s.fresh.freezes = s.freezes := rfl
@[simp] theorem Dev.fresh_frozenNs (s : Dev) : s.fresh.frozenNs = s.frozenNs := rfl
@[simp] theorem Dev.fresh_held (s : Dev) : s.fresh.held = s.held := rfl
@[simp] theorem Dev.fresh_transfers (s : Dev) : s.fresh.transfers = s.transfers := rfl
@[simp] theorem Dev.fresh_abandoned (s : Dev) : s.fresh.abandoned = s.abandoned := rfl
@[simp] theorem Dev.fresh_mailboxes (s : Dev) : s.fresh.mailboxes = s.mailboxes := rfl
@[simp] theorem Dev.fresh_discarded (s : Dev) : s.fresh.discarded = s.discarded := rfl
@[simp] theorem Dev.fresh_stillAck (s : Dev) : s.fresh.stillAck = s.stillAck := rfl
@[simp] theorem Dev.fresh_resumeF (s : Dev) : s.fresh.resumeF = s.resumeF := rfl
@[simp] theorem Dev.fresh_bootWait (s : Dev) : s.fresh.bootWait = s.bootWait := rfl
@[simp] theorem Dev.fresh_pufOk (s : Dev) : s.fresh.pufOk = s.pufOk := rfl
@[simp] theorem Dev.fresh_tapAddr (s : Dev) : s.fresh.tapAddr = s.tapAddr := rfl
@[simp] theorem Dev.fresh_ferries (s : Dev) : s.fresh.ferries = s.ferries := rfl
@[simp] theorem Dev.fresh_starts (s : Dev) : s.fresh.starts = s.starts := rfl
@[simp] theorem Dev.fresh_heldStarts (s : Dev) : s.fresh.heldStarts = s.heldStarts := rfl
@[simp] theorem Dev.fresh_edcRepeats (s : Dev) : s.fresh.edcRepeats = s.edcRepeats := rfl
@[simp] theorem Dev.fresh_gddrUncorr (s : Dev) : s.fresh.gddrUncorr = s.gddrUncorr := rfl
@[simp] theorem Dev.fresh_coolMs (s : Dev) : s.fresh.coolMs = s.coolMs := rfl
@[simp] theorem Dev.fresh_lastTick (s : Dev) : s.fresh.lastTick = s.lastTick := rfl
@[simp] theorem Dev.fresh_confFullF (s : Dev) : s.fresh.confFullF = s.confFullF := rfl
@[simp] theorem Dev.fresh_confFullNs (s : Dev) : s.fresh.confFullNs = s.confFullNs := rfl
@[simp] theorem Dev.fresh_moved (s : Dev) : s.fresh.moved = s.moved := rfl
@[simp] theorem Dev.fresh_filled (s : Dev) : s.fresh.filled = s.filled := rfl
@[simp] theorem Dev.fresh_failedFirst (s : Dev) : s.fresh.failedFirst = s.failedFirst := rfl
@[simp] theorem Dev.fresh_mirrorTurn (s : Dev) : s.fresh.mirrorTurn = s.mirrorTurn := rfl
@[simp] theorem Dev.fresh_plans (s : Dev) : s.fresh.plans = s.plans := rfl
@[simp] theorem Dev.fresh_phaseReq (s : Dev) : s.fresh.phaseReq = s.phaseReq := rfl
@[simp] theorem Dev.fresh_planPhases (s : Dev) : s.fresh.planPhases = s.planPhases := rfl
@[simp] theorem Dev.fresh_allocs (s : Dev) : s.fresh.allocs = s.allocs := rfl
@[simp] theorem Dev.fresh_pops (s : Dev) : s.fresh.pops = s.pops := rfl
@[simp] theorem Dev.fresh_neurons (s : Dev) : s.fresh.neurons = s.neurons := rfl
@[simp] theorem Dev.fresh_accs (s : Dev) : s.fresh.accs = s.accs := rfl
@[simp] theorem Dev.fresh_residues (s : Dev) : s.fresh.residues = s.residues := rfl
@[simp] theorem Dev.fresh_neuronBad (s : Dev) : s.fresh.neuronBad = s.neuronBad := rfl
@[simp] theorem Dev.fresh_counts (s : Dev) : s.fresh.counts = s.counts := rfl
@[simp] theorem Dev.fresh_layers (s : Dev) : s.fresh.layers = s.layers := rfl
@[simp] theorem Dev.fresh_lfsr (s : Dev) : s.fresh.lfsr = s.lfsr := rfl
@[simp] theorem Dev.fresh_phaseSeed (s : Dev) : s.fresh.phaseSeed = s.phaseSeed := rfl
@[simp] theorem Dev.fresh_unitF (s : Dev) : s.fresh.unitF = s.unitF := rfl
@[simp] theorem Dev.fresh_sedLive (s : Dev) : s.fresh.sedLive = s.sedLive := rfl
@[simp] theorem Dev.fresh_sedShadow (s : Dev) : s.fresh.sedShadow = s.sedShadow := rfl
@[simp] theorem Dev.fresh_powerOn (s : Dev) : s.fresh.powerOn = s.powerOn := rfl
@[simp] theorem Dev.fresh_mram0 (s : Dev) : s.fresh.mram0 = s.mram0 := rfl
@[simp] theorem Dev.fresh_mram1 (s : Dev) : s.fresh.mram1 = s.mram1 := rfl
@[simp] theorem Dev.fresh_sedFuse (s : Dev) : s.fresh.sedFuse = s.sedFuse := rfl
@[simp] theorem Dev.fresh_commitReason (s : Dev) : s.fresh.commitReason = s.commitReason := rfl
@[simp] theorem Dev.fresh_rateSeen (s : Dev) : s.fresh.rateSeen = s.rateSeen := rfl
@[simp] theorem Dev.fresh_sedTickAon (s : Dev) : s.fresh.sedTickAon = s.sedTickAon := rfl
@[simp] theorem Dev.fresh_commitF (s : Dev) : s.fresh.commitF = s.commitF := rfl
@[simp] theorem Dev.fresh_commitBytes (s : Dev) : s.fresh.commitBytes = s.commitBytes := rfl
@[simp] theorem Dev.fresh_weirs (s : Dev) : s.fresh.weirs = s.weirs := rfl
@[simp] theorem Dev.fresh_waits (s : Dev) : s.fresh.waits = s.waits := rfl
@[simp] theorem Dev.fresh_sess (s : Dev) : s.fresh.sess = s.sess := rfl
@[simp] theorem Dev.fresh_chans (s : Dev) : s.fresh.chans = s.chans := rfl
@[simp] theorem Dev.fresh_tenantHoldF (s : Dev) : s.fresh.tenantHoldF = s.tenantHoldF := rfl
@[simp] theorem Dev.fresh_lldpNeighbour (s : Dev) : s.fresh.lldpNeighbour = s.lldpNeighbour := rfl
@[simp] theorem Dev.fresh_detachF (s : Dev) : s.fresh.detachF = s.detachF := rfl
@[simp] theorem Dev.fresh_faultQ (s : Dev) : s.fresh.faultQ = s.faultQ := rfl
@[simp] theorem Dev.fresh_planFaultMs (s : Dev) : s.fresh.planFaultMs = s.planFaultMs := rfl
@[simp] theorem Dev.fresh_alertFault (s : Dev) : s.fresh.alertFault = s.alertFault := rfl
@[simp] theorem Dev.fresh_unitMap (s : Dev) : s.fresh.unitMap = s.unitMap := rfl
@[simp] theorem Dev.fresh_poisonMs (s : Dev) : s.fresh.poisonMs = s.poisonMs := rfl
@[simp] theorem Dev.fresh_pathRecalF (s : Dev) : s.fresh.pathRecalF = s.pathRecalF := rfl
@[simp] theorem Dev.fresh_linkMs (s : Dev) : s.fresh.linkMs = s.linkMs := rfl
@[simp] theorem Dev.fresh_linkRetrainF (s : Dev) : s.fresh.linkRetrainF = s.linkRetrainF := rfl
@[simp] theorem Dev.fresh_streams (s : Dev) : s.fresh.streams = s.streams := rfl
@[simp] theorem Dev.fresh_spillWin (s : Dev) : s.fresh.spillWin = s.spillWin := rfl
@[simp] theorem Dev.fresh_spillMoved (s : Dev) : s.fresh.spillMoved = s.spillMoved := rfl
@[simp] theorem Dev.fresh_mere (s : Dev) : s.fresh.mere = s.mere := rfl
@[simp] theorem Dev.fresh_mereBad (s : Dev) : s.fresh.mereBad = s.mereBad := rfl
@[simp] theorem Dev.fresh_parityRun (s : Dev) : s.fresh.parityRun = s.parityRun := rfl
@[simp] theorem Dev.fresh_sweepPos (s : Dev) : s.fresh.sweepPos = s.sweepPos := rfl
@[simp] theorem Dev.fresh_transit (s : Dev) : s.fresh.transit = s.transit := rfl
@[simp] theorem Dev.fresh_routeHold (s : Dev) : s.fresh.routeHold = s.routeHold := rfl
@[simp] theorem Dev.fresh_eddyTurn (s : Dev) : s.fresh.eddyTurn = s.eddyTurn := rfl
@[simp] theorem Dev.fresh_sluices (s : Dev) : s.fresh.sluices = s.sluices := rfl
@[simp] theorem Dev.fresh_regions (s : Dev) : s.fresh.regions = s.regions := rfl
@[simp] theorem Dev.fresh_marches (s : Dev) : s.fresh.marches = s.marches := rfl
@[simp] theorem Dev.fresh_padUncorr (s : Dev) : s.fresh.padUncorr = s.padUncorr := rfl
@[simp] theorem Dev.fresh_silted (s : Dev) : s.fresh.silted = s.silted := rfl
@[simp] theorem Dev.fresh_spareBits (s : Dev) : s.fresh.spareBits = s.spareBits := rfl
@[simp] theorem Dev.fresh_doms (s : Dev) : s.fresh.doms = s.doms := rfl
@[simp] theorem Dev.fresh_wakeIns (s : Dev) : s.fresh.wakeIns = s.wakeIns := rfl
@[simp] theorem Dev.fresh_baseOff (s : Dev) : s.fresh.baseOff = s.baseOff := rfl
@[simp] theorem Dev.fresh_thermtrip (s : Dev) : s.fresh.thermtrip = s.thermtrip := rfl
@[simp] theorem Dev.fresh_hotDies (s : Dev) : s.fresh.hotDies = s.hotDies := rfl
@[simp] theorem Dev.fresh_tjLast (s : Dev) : s.fresh.tjLast = s.tjLast := rfl
@[simp] theorem Dev.fresh_alertRecovery (s : Dev) : s.fresh.alertRecovery = s.alertRecovery := rfl
@[simp] theorem Dev.fresh_rimFrames (s : Dev) : s.fresh.rimFrames = s.rimFrames := rfl
@[simp] theorem Dev.fresh_paces (s : Dev) : s.fresh.paces = s.paces := rfl
@[simp] theorem Dev.fresh_rails (s : Dev) : s.fresh.rails = s.rails := rfl
@[simp] theorem Dev.fresh_deviceKey (s : Dev) : s.fresh.deviceKey = s.deviceKey := rfl
@[simp] theorem Dev.fresh_dataKeys (s : Dev) : s.fresh.dataKeys = s.dataKeys := rfl
@[simp] theorem Dev.fresh_exchanges (s : Dev) : s.fresh.exchanges = s.exchanges := rfl
@[simp] theorem Dev.fresh_trngPass (s : Dev) : s.fresh.trngPass = s.trngPass := rfl
@[simp] theorem Dev.fresh_reeds (s : Dev) : s.fresh.reeds = s.reeds := rfl
@[simp] theorem Dev.fresh_spis (s : Dev) : s.fresh.spis = s.spis := rfl
@[simp] theorem Dev.fresh_fines (s : Dev) : s.fresh.fines = s.fines := rfl
@[simp] theorem Dev.fresh_fusion (s : Dev) : s.fresh.fusion = s.fusion := rfl

/-! ### An open value drawn -/

@[simp] theorem Dev.drawn_dict (s : Dev) : s.drawn.dict = s.dict := rfl
@[simp] theorem Dev.drawn_blobs (s : Dev) : s.drawn.blobs = s.blobs := rfl
@[simp] theorem Dev.drawn_out (s : Dev) : s.drawn.out = s.out := rfl
@[simp] theorem Dev.drawn_f (s : Dev) : s.drawn.f = s.f := rfl
@[simp] theorem Dev.drawn_aon (s : Dev) : s.drawn.aon = s.aon := rfl
@[simp] theorem Dev.drawn_aonPhase (s : Dev) : s.drawn.aonPhase = s.aonPhase := rfl
@[simp] theorem Dev.drawn_f0 (s : Dev) : s.drawn.f0 = s.f0 := rfl
@[simp] theorem Dev.drawn_a0 (s : Dev) : s.drawn.a0 = s.a0 := rfl
@[simp] theorem Dev.drawn_unbridged (s : Dev) : s.drawn.unbridged = s.unbridged := rfl
@[simp] theorem Dev.drawn_entryWait (s : Dev) : s.drawn.entryWait = s.entryWait := rfl
@[simp] theorem Dev.drawn_stopped (s : Dev) : s.drawn.stopped = s.stopped := rfl
@[simp] theorem Dev.drawn_holdoverF (s : Dev) : s.drawn.holdoverF = s.holdoverF := rfl
@[simp] theorem Dev.drawn_cmpFromF (s : Dev) : s.drawn.cmpFromF = s.cmpFromF := rfl
@[simp] theorem Dev.drawn_lockRun (s : Dev) : s.drawn.lockRun = s.lockRun := rfl
@[simp] theorem Dev.drawn_trigs (s : Dev) : s.drawn.trigs = s.trigs := rfl
@[simp] theorem Dev.drawn_caps (s : Dev) : s.drawn.caps = s.caps := rfl
@[simp] theorem Dev.drawn_clocks (s : Dev) : s.drawn.clocks = s.clocks := rfl
@[simp] theorem Dev.drawn_reconvert (s : Dev) : s.drawn.reconvert = s.reconvert := rfl
@[simp] theorem Dev.drawn_residence (s : Dev) : s.drawn.residence = s.residence := rfl
@[simp] theorem Dev.drawn_ptpParent (s : Dev) : s.drawn.ptpParent = s.ptpParent := rfl
@[simp] theorem Dev.drawn_skewDraws (s : Dev) : s.drawn.skewDraws = s.skewDraws := rfl
@[simp] theorem Dev.drawn_meters (s : Dev) : s.drawn.meters = s.meters := rfl
@[simp] theorem Dev.drawn_alive (s : Dev) : s.drawn.alive = s.alive := rfl
@[simp] theorem Dev.drawn_frozen (s : Dev) : s.drawn.frozen = s.frozen := rfl
@[simp] theorem Dev.drawn_freezeF (s : Dev) : s.drawn.freezeF = s.freezeF := rfl
@[simp] theorem Dev.drawn_freezes (s : Dev) : s.drawn.freezes = s.freezes := rfl
@[simp] theorem Dev.drawn_frozenNs (s : Dev) : s.drawn.frozenNs = s.frozenNs := rfl
@[simp] theorem Dev.drawn_held (s : Dev) : s.drawn.held = s.held := rfl
@[simp] theorem Dev.drawn_transfers (s : Dev) : s.drawn.transfers = s.transfers := rfl
@[simp] theorem Dev.drawn_abandoned (s : Dev) : s.drawn.abandoned = s.abandoned := rfl
@[simp] theorem Dev.drawn_mailboxes (s : Dev) : s.drawn.mailboxes = s.mailboxes := rfl
@[simp] theorem Dev.drawn_discarded (s : Dev) : s.drawn.discarded = s.discarded := rfl
@[simp] theorem Dev.drawn_stillAck (s : Dev) : s.drawn.stillAck = s.stillAck := rfl
@[simp] theorem Dev.drawn_resumeF (s : Dev) : s.drawn.resumeF = s.resumeF := rfl
@[simp] theorem Dev.drawn_bootWait (s : Dev) : s.drawn.bootWait = s.bootWait := rfl
@[simp] theorem Dev.drawn_pufOk (s : Dev) : s.drawn.pufOk = s.pufOk := rfl
@[simp] theorem Dev.drawn_tapAddr (s : Dev) : s.drawn.tapAddr = s.tapAddr := rfl
@[simp] theorem Dev.drawn_ferries (s : Dev) : s.drawn.ferries = s.ferries := rfl
@[simp] theorem Dev.drawn_starts (s : Dev) : s.drawn.starts = s.starts := rfl
@[simp] theorem Dev.drawn_heldStarts (s : Dev) : s.drawn.heldStarts = s.heldStarts := rfl
@[simp] theorem Dev.drawn_edcRepeats (s : Dev) : s.drawn.edcRepeats = s.edcRepeats := rfl
@[simp] theorem Dev.drawn_gddrUncorr (s : Dev) : s.drawn.gddrUncorr = s.gddrUncorr := rfl
@[simp] theorem Dev.drawn_coolMs (s : Dev) : s.drawn.coolMs = s.coolMs := rfl
@[simp] theorem Dev.drawn_lastTick (s : Dev) : s.drawn.lastTick = s.lastTick := rfl
@[simp] theorem Dev.drawn_confFullF (s : Dev) : s.drawn.confFullF = s.confFullF := rfl
@[simp] theorem Dev.drawn_confFullNs (s : Dev) : s.drawn.confFullNs = s.confFullNs := rfl
@[simp] theorem Dev.drawn_moved (s : Dev) : s.drawn.moved = s.moved := rfl
@[simp] theorem Dev.drawn_filled (s : Dev) : s.drawn.filled = s.filled := rfl
@[simp] theorem Dev.drawn_failedFirst (s : Dev) : s.drawn.failedFirst = s.failedFirst := rfl
@[simp] theorem Dev.drawn_mirrorTurn (s : Dev) : s.drawn.mirrorTurn = s.mirrorTurn := rfl
@[simp] theorem Dev.drawn_plans (s : Dev) : s.drawn.plans = s.plans := rfl
@[simp] theorem Dev.drawn_phaseReq (s : Dev) : s.drawn.phaseReq = s.phaseReq := rfl
@[simp] theorem Dev.drawn_planPhases (s : Dev) : s.drawn.planPhases = s.planPhases := rfl
@[simp] theorem Dev.drawn_allocs (s : Dev) : s.drawn.allocs = s.allocs := rfl
@[simp] theorem Dev.drawn_pops (s : Dev) : s.drawn.pops = s.pops := rfl
@[simp] theorem Dev.drawn_neurons (s : Dev) : s.drawn.neurons = s.neurons := rfl
@[simp] theorem Dev.drawn_accs (s : Dev) : s.drawn.accs = s.accs := rfl
@[simp] theorem Dev.drawn_residues (s : Dev) : s.drawn.residues = s.residues := rfl
@[simp] theorem Dev.drawn_neuronBad (s : Dev) : s.drawn.neuronBad = s.neuronBad := rfl
@[simp] theorem Dev.drawn_counts (s : Dev) : s.drawn.counts = s.counts := rfl
@[simp] theorem Dev.drawn_layers (s : Dev) : s.drawn.layers = s.layers := rfl
@[simp] theorem Dev.drawn_lfsr (s : Dev) : s.drawn.lfsr = s.lfsr := rfl
@[simp] theorem Dev.drawn_phaseSeed (s : Dev) : s.drawn.phaseSeed = s.phaseSeed := rfl
@[simp] theorem Dev.drawn_unitF (s : Dev) : s.drawn.unitF = s.unitF := rfl
@[simp] theorem Dev.drawn_sedLive (s : Dev) : s.drawn.sedLive = s.sedLive := rfl
@[simp] theorem Dev.drawn_sedShadow (s : Dev) : s.drawn.sedShadow = s.sedShadow := rfl
@[simp] theorem Dev.drawn_powerOn (s : Dev) : s.drawn.powerOn = s.powerOn := rfl
@[simp] theorem Dev.drawn_mram0 (s : Dev) : s.drawn.mram0 = s.mram0 := rfl
@[simp] theorem Dev.drawn_mram1 (s : Dev) : s.drawn.mram1 = s.mram1 := rfl
@[simp] theorem Dev.drawn_sedFuse (s : Dev) : s.drawn.sedFuse = s.sedFuse := rfl
@[simp] theorem Dev.drawn_commitReason (s : Dev) : s.drawn.commitReason = s.commitReason := rfl
@[simp] theorem Dev.drawn_rateSeen (s : Dev) : s.drawn.rateSeen = s.rateSeen := rfl
@[simp] theorem Dev.drawn_sedTickAon (s : Dev) : s.drawn.sedTickAon = s.sedTickAon := rfl
@[simp] theorem Dev.drawn_commitF (s : Dev) : s.drawn.commitF = s.commitF := rfl
@[simp] theorem Dev.drawn_commitBytes (s : Dev) : s.drawn.commitBytes = s.commitBytes := rfl
@[simp] theorem Dev.drawn_weirs (s : Dev) : s.drawn.weirs = s.weirs := rfl
@[simp] theorem Dev.drawn_waits (s : Dev) : s.drawn.waits = s.waits := rfl
@[simp] theorem Dev.drawn_sess (s : Dev) : s.drawn.sess = s.sess := rfl
@[simp] theorem Dev.drawn_chans (s : Dev) : s.drawn.chans = s.chans := rfl
@[simp] theorem Dev.drawn_tenantHoldF (s : Dev) : s.drawn.tenantHoldF = s.tenantHoldF := rfl
@[simp] theorem Dev.drawn_lldpNeighbour (s : Dev) : s.drawn.lldpNeighbour = s.lldpNeighbour := rfl
@[simp] theorem Dev.drawn_detachF (s : Dev) : s.drawn.detachF = s.detachF := rfl
@[simp] theorem Dev.drawn_faultQ (s : Dev) : s.drawn.faultQ = s.faultQ := rfl
@[simp] theorem Dev.drawn_planFaultMs (s : Dev) : s.drawn.planFaultMs = s.planFaultMs := rfl
@[simp] theorem Dev.drawn_alertFault (s : Dev) : s.drawn.alertFault = s.alertFault := rfl
@[simp] theorem Dev.drawn_unitMap (s : Dev) : s.drawn.unitMap = s.unitMap := rfl
@[simp] theorem Dev.drawn_poisonMs (s : Dev) : s.drawn.poisonMs = s.poisonMs := rfl
@[simp] theorem Dev.drawn_pathRecalF (s : Dev) : s.drawn.pathRecalF = s.pathRecalF := rfl
@[simp] theorem Dev.drawn_linkMs (s : Dev) : s.drawn.linkMs = s.linkMs := rfl
@[simp] theorem Dev.drawn_linkRetrainF (s : Dev) : s.drawn.linkRetrainF = s.linkRetrainF := rfl
@[simp] theorem Dev.drawn_streams (s : Dev) : s.drawn.streams = s.streams := rfl
@[simp] theorem Dev.drawn_spillWin (s : Dev) : s.drawn.spillWin = s.spillWin := rfl
@[simp] theorem Dev.drawn_spillMoved (s : Dev) : s.drawn.spillMoved = s.spillMoved := rfl
@[simp] theorem Dev.drawn_mere (s : Dev) : s.drawn.mere = s.mere := rfl
@[simp] theorem Dev.drawn_mereBad (s : Dev) : s.drawn.mereBad = s.mereBad := rfl
@[simp] theorem Dev.drawn_parityRun (s : Dev) : s.drawn.parityRun = s.parityRun := rfl
@[simp] theorem Dev.drawn_sweepPos (s : Dev) : s.drawn.sweepPos = s.sweepPos := rfl
@[simp] theorem Dev.drawn_transit (s : Dev) : s.drawn.transit = s.transit := rfl
@[simp] theorem Dev.drawn_routeHold (s : Dev) : s.drawn.routeHold = s.routeHold := rfl
@[simp] theorem Dev.drawn_eddyTurn (s : Dev) : s.drawn.eddyTurn = s.eddyTurn := rfl
@[simp] theorem Dev.drawn_sluices (s : Dev) : s.drawn.sluices = s.sluices := rfl
@[simp] theorem Dev.drawn_regions (s : Dev) : s.drawn.regions = s.regions := rfl
@[simp] theorem Dev.drawn_marches (s : Dev) : s.drawn.marches = s.marches := rfl
@[simp] theorem Dev.drawn_padUncorr (s : Dev) : s.drawn.padUncorr = s.padUncorr := rfl
@[simp] theorem Dev.drawn_silted (s : Dev) : s.drawn.silted = s.silted := rfl
@[simp] theorem Dev.drawn_spareBits (s : Dev) : s.drawn.spareBits = s.spareBits := rfl
@[simp] theorem Dev.drawn_doms (s : Dev) : s.drawn.doms = s.doms := rfl
@[simp] theorem Dev.drawn_wakeIns (s : Dev) : s.drawn.wakeIns = s.wakeIns := rfl
@[simp] theorem Dev.drawn_baseOff (s : Dev) : s.drawn.baseOff = s.baseOff := rfl
@[simp] theorem Dev.drawn_thermtrip (s : Dev) : s.drawn.thermtrip = s.thermtrip := rfl
@[simp] theorem Dev.drawn_hotDies (s : Dev) : s.drawn.hotDies = s.hotDies := rfl
@[simp] theorem Dev.drawn_tjLast (s : Dev) : s.drawn.tjLast = s.tjLast := rfl
@[simp] theorem Dev.drawn_alertRecovery (s : Dev) : s.drawn.alertRecovery = s.alertRecovery := rfl
@[simp] theorem Dev.drawn_rimFrames (s : Dev) : s.drawn.rimFrames = s.rimFrames := rfl
@[simp] theorem Dev.drawn_paces (s : Dev) : s.drawn.paces = s.paces := rfl
@[simp] theorem Dev.drawn_rails (s : Dev) : s.drawn.rails = s.rails := rfl
@[simp] theorem Dev.drawn_deviceKey (s : Dev) : s.drawn.deviceKey = s.deviceKey := rfl
@[simp] theorem Dev.drawn_dataKeys (s : Dev) : s.drawn.dataKeys = s.dataKeys := rfl
@[simp] theorem Dev.drawn_exchanges (s : Dev) : s.drawn.exchanges = s.exchanges := rfl
@[simp] theorem Dev.drawn_trngPass (s : Dev) : s.drawn.trngPass = s.trngPass := rfl
@[simp] theorem Dev.drawn_reeds (s : Dev) : s.drawn.reeds = s.reeds := rfl
@[simp] theorem Dev.drawn_spis (s : Dev) : s.drawn.spis = s.spis := rfl
@[simp] theorem Dev.drawn_fines (s : Dev) : s.drawn.fines = s.fines := rfl
@[simp] theorem Dev.drawn_fusion (s : Dev) : s.drawn.fusion = s.fusion := rfl

/-! ### A session changed -/

@[simp] theorem Dev.updSession_dict (s : Dev) (n : Nat) (g : Session → Session) : (s.updSession n g).dict = s.dict := rfl
@[simp] theorem Dev.updSession_blobs (s : Dev) (n : Nat) (g : Session → Session) : (s.updSession n g).blobs = s.blobs := rfl
@[simp] theorem Dev.updSession_out (s : Dev) (n : Nat) (g : Session → Session) : (s.updSession n g).out = s.out := rfl
@[simp] theorem Dev.updSession_free (s : Dev) (n : Nat) (g : Session → Session) : (s.updSession n g).free = s.free := rfl
@[simp] theorem Dev.updSession_f (s : Dev) (n : Nat) (g : Session → Session) : (s.updSession n g).f = s.f := rfl
@[simp] theorem Dev.updSession_aon (s : Dev) (n : Nat) (g : Session → Session) : (s.updSession n g).aon = s.aon := rfl
@[simp] theorem Dev.updSession_aonPhase (s : Dev) (n : Nat) (g : Session → Session) : (s.updSession n g).aonPhase = s.aonPhase := rfl
@[simp] theorem Dev.updSession_f0 (s : Dev) (n : Nat) (g : Session → Session) : (s.updSession n g).f0 = s.f0 := rfl
@[simp] theorem Dev.updSession_a0 (s : Dev) (n : Nat) (g : Session → Session) : (s.updSession n g).a0 = s.a0 := rfl
@[simp] theorem Dev.updSession_unbridged (s : Dev) (n : Nat) (g : Session → Session) : (s.updSession n g).unbridged = s.unbridged := rfl
@[simp] theorem Dev.updSession_entryWait (s : Dev) (n : Nat) (g : Session → Session) : (s.updSession n g).entryWait = s.entryWait := rfl
@[simp] theorem Dev.updSession_stopped (s : Dev) (n : Nat) (g : Session → Session) : (s.updSession n g).stopped = s.stopped := rfl
@[simp] theorem Dev.updSession_holdoverF (s : Dev) (n : Nat) (g : Session → Session) : (s.updSession n g).holdoverF = s.holdoverF := rfl
@[simp] theorem Dev.updSession_cmpFromF (s : Dev) (n : Nat) (g : Session → Session) : (s.updSession n g).cmpFromF = s.cmpFromF := rfl
@[simp] theorem Dev.updSession_lockRun (s : Dev) (n : Nat) (g : Session → Session) : (s.updSession n g).lockRun = s.lockRun := rfl
@[simp] theorem Dev.updSession_trigs (s : Dev) (n : Nat) (g : Session → Session) : (s.updSession n g).trigs = s.trigs := rfl
@[simp] theorem Dev.updSession_caps (s : Dev) (n : Nat) (g : Session → Session) : (s.updSession n g).caps = s.caps := rfl
@[simp] theorem Dev.updSession_clocks (s : Dev) (n : Nat) (g : Session → Session) : (s.updSession n g).clocks = s.clocks := rfl
@[simp] theorem Dev.updSession_reconvert (s : Dev) (n : Nat) (g : Session → Session) : (s.updSession n g).reconvert = s.reconvert := rfl
@[simp] theorem Dev.updSession_residence (s : Dev) (n : Nat) (g : Session → Session) : (s.updSession n g).residence = s.residence := rfl
@[simp] theorem Dev.updSession_ptpParent (s : Dev) (n : Nat) (g : Session → Session) : (s.updSession n g).ptpParent = s.ptpParent := rfl
@[simp] theorem Dev.updSession_skewDraws (s : Dev) (n : Nat) (g : Session → Session) : (s.updSession n g).skewDraws = s.skewDraws := rfl
@[simp] theorem Dev.updSession_meters (s : Dev) (n : Nat) (g : Session → Session) : (s.updSession n g).meters = s.meters := rfl
@[simp] theorem Dev.updSession_alive (s : Dev) (n : Nat) (g : Session → Session) : (s.updSession n g).alive = s.alive := rfl
@[simp] theorem Dev.updSession_frozen (s : Dev) (n : Nat) (g : Session → Session) : (s.updSession n g).frozen = s.frozen := rfl
@[simp] theorem Dev.updSession_freezeF (s : Dev) (n : Nat) (g : Session → Session) : (s.updSession n g).freezeF = s.freezeF := rfl
@[simp] theorem Dev.updSession_freezes (s : Dev) (n : Nat) (g : Session → Session) : (s.updSession n g).freezes = s.freezes := rfl
@[simp] theorem Dev.updSession_frozenNs (s : Dev) (n : Nat) (g : Session → Session) : (s.updSession n g).frozenNs = s.frozenNs := rfl
@[simp] theorem Dev.updSession_held (s : Dev) (n : Nat) (g : Session → Session) : (s.updSession n g).held = s.held := rfl
@[simp] theorem Dev.updSession_transfers (s : Dev) (n : Nat) (g : Session → Session) : (s.updSession n g).transfers = s.transfers := rfl
@[simp] theorem Dev.updSession_abandoned (s : Dev) (n : Nat) (g : Session → Session) : (s.updSession n g).abandoned = s.abandoned := rfl
@[simp] theorem Dev.updSession_mailboxes (s : Dev) (n : Nat) (g : Session → Session) : (s.updSession n g).mailboxes = s.mailboxes := rfl
@[simp] theorem Dev.updSession_discarded (s : Dev) (n : Nat) (g : Session → Session) : (s.updSession n g).discarded = s.discarded := rfl
@[simp] theorem Dev.updSession_stillAck (s : Dev) (n : Nat) (g : Session → Session) : (s.updSession n g).stillAck = s.stillAck := rfl
@[simp] theorem Dev.updSession_resumeF (s : Dev) (n : Nat) (g : Session → Session) : (s.updSession n g).resumeF = s.resumeF := rfl
@[simp] theorem Dev.updSession_bootWait (s : Dev) (n : Nat) (g : Session → Session) : (s.updSession n g).bootWait = s.bootWait := rfl
@[simp] theorem Dev.updSession_pufOk (s : Dev) (n : Nat) (g : Session → Session) : (s.updSession n g).pufOk = s.pufOk := rfl
@[simp] theorem Dev.updSession_tapAddr (s : Dev) (n : Nat) (g : Session → Session) : (s.updSession n g).tapAddr = s.tapAddr := rfl
@[simp] theorem Dev.updSession_ferries (s : Dev) (n : Nat) (g : Session → Session) : (s.updSession n g).ferries = s.ferries := rfl
@[simp] theorem Dev.updSession_starts (s : Dev) (n : Nat) (g : Session → Session) : (s.updSession n g).starts = s.starts := rfl
@[simp] theorem Dev.updSession_heldStarts (s : Dev) (n : Nat) (g : Session → Session) : (s.updSession n g).heldStarts = s.heldStarts := rfl
@[simp] theorem Dev.updSession_edcRepeats (s : Dev) (n : Nat) (g : Session → Session) : (s.updSession n g).edcRepeats = s.edcRepeats := rfl
@[simp] theorem Dev.updSession_gddrUncorr (s : Dev) (n : Nat) (g : Session → Session) : (s.updSession n g).gddrUncorr = s.gddrUncorr := rfl
@[simp] theorem Dev.updSession_coolMs (s : Dev) (n : Nat) (g : Session → Session) : (s.updSession n g).coolMs = s.coolMs := rfl
@[simp] theorem Dev.updSession_lastTick (s : Dev) (n : Nat) (g : Session → Session) : (s.updSession n g).lastTick = s.lastTick := rfl
@[simp] theorem Dev.updSession_confFullF (s : Dev) (n : Nat) (g : Session → Session) : (s.updSession n g).confFullF = s.confFullF := rfl
@[simp] theorem Dev.updSession_confFullNs (s : Dev) (n : Nat) (g : Session → Session) : (s.updSession n g).confFullNs = s.confFullNs := rfl
@[simp] theorem Dev.updSession_moved (s : Dev) (n : Nat) (g : Session → Session) : (s.updSession n g).moved = s.moved := rfl
@[simp] theorem Dev.updSession_filled (s : Dev) (n : Nat) (g : Session → Session) : (s.updSession n g).filled = s.filled := rfl
@[simp] theorem Dev.updSession_failedFirst (s : Dev) (n : Nat) (g : Session → Session) : (s.updSession n g).failedFirst = s.failedFirst := rfl
@[simp] theorem Dev.updSession_mirrorTurn (s : Dev) (n : Nat) (g : Session → Session) : (s.updSession n g).mirrorTurn = s.mirrorTurn := rfl
@[simp] theorem Dev.updSession_plans (s : Dev) (n : Nat) (g : Session → Session) : (s.updSession n g).plans = s.plans := rfl
@[simp] theorem Dev.updSession_phaseReq (s : Dev) (n : Nat) (g : Session → Session) : (s.updSession n g).phaseReq = s.phaseReq := rfl
@[simp] theorem Dev.updSession_planPhases (s : Dev) (n : Nat) (g : Session → Session) : (s.updSession n g).planPhases = s.planPhases := rfl
@[simp] theorem Dev.updSession_allocs (s : Dev) (n : Nat) (g : Session → Session) : (s.updSession n g).allocs = s.allocs := rfl
@[simp] theorem Dev.updSession_pops (s : Dev) (n : Nat) (g : Session → Session) : (s.updSession n g).pops = s.pops := rfl
@[simp] theorem Dev.updSession_neurons (s : Dev) (n : Nat) (g : Session → Session) : (s.updSession n g).neurons = s.neurons := rfl
@[simp] theorem Dev.updSession_accs (s : Dev) (n : Nat) (g : Session → Session) : (s.updSession n g).accs = s.accs := rfl
@[simp] theorem Dev.updSession_residues (s : Dev) (n : Nat) (g : Session → Session) : (s.updSession n g).residues = s.residues := rfl
@[simp] theorem Dev.updSession_neuronBad (s : Dev) (n : Nat) (g : Session → Session) : (s.updSession n g).neuronBad = s.neuronBad := rfl
@[simp] theorem Dev.updSession_counts (s : Dev) (n : Nat) (g : Session → Session) : (s.updSession n g).counts = s.counts := rfl
@[simp] theorem Dev.updSession_layers (s : Dev) (n : Nat) (g : Session → Session) : (s.updSession n g).layers = s.layers := rfl
@[simp] theorem Dev.updSession_lfsr (s : Dev) (n : Nat) (g : Session → Session) : (s.updSession n g).lfsr = s.lfsr := rfl
@[simp] theorem Dev.updSession_phaseSeed (s : Dev) (n : Nat) (g : Session → Session) : (s.updSession n g).phaseSeed = s.phaseSeed := rfl
@[simp] theorem Dev.updSession_unitF (s : Dev) (n : Nat) (g : Session → Session) : (s.updSession n g).unitF = s.unitF := rfl
@[simp] theorem Dev.updSession_sedLive (s : Dev) (n : Nat) (g : Session → Session) : (s.updSession n g).sedLive = s.sedLive := rfl
@[simp] theorem Dev.updSession_sedShadow (s : Dev) (n : Nat) (g : Session → Session) : (s.updSession n g).sedShadow = s.sedShadow := rfl
@[simp] theorem Dev.updSession_powerOn (s : Dev) (n : Nat) (g : Session → Session) : (s.updSession n g).powerOn = s.powerOn := rfl
@[simp] theorem Dev.updSession_mram0 (s : Dev) (n : Nat) (g : Session → Session) : (s.updSession n g).mram0 = s.mram0 := rfl
@[simp] theorem Dev.updSession_mram1 (s : Dev) (n : Nat) (g : Session → Session) : (s.updSession n g).mram1 = s.mram1 := rfl
@[simp] theorem Dev.updSession_sedFuse (s : Dev) (n : Nat) (g : Session → Session) : (s.updSession n g).sedFuse = s.sedFuse := rfl
@[simp] theorem Dev.updSession_commitReason (s : Dev) (n : Nat) (g : Session → Session) : (s.updSession n g).commitReason = s.commitReason := rfl
@[simp] theorem Dev.updSession_rateSeen (s : Dev) (n : Nat) (g : Session → Session) : (s.updSession n g).rateSeen = s.rateSeen := rfl
@[simp] theorem Dev.updSession_sedTickAon (s : Dev) (n : Nat) (g : Session → Session) : (s.updSession n g).sedTickAon = s.sedTickAon := rfl
@[simp] theorem Dev.updSession_commitF (s : Dev) (n : Nat) (g : Session → Session) : (s.updSession n g).commitF = s.commitF := rfl
@[simp] theorem Dev.updSession_commitBytes (s : Dev) (n : Nat) (g : Session → Session) : (s.updSession n g).commitBytes = s.commitBytes := rfl
@[simp] theorem Dev.updSession_weirs (s : Dev) (n : Nat) (g : Session → Session) : (s.updSession n g).weirs = s.weirs := rfl
@[simp] theorem Dev.updSession_waits (s : Dev) (n : Nat) (g : Session → Session) : (s.updSession n g).waits = s.waits := rfl
@[simp] theorem Dev.updSession_chans (s : Dev) (n : Nat) (g : Session → Session) : (s.updSession n g).chans = s.chans := rfl
@[simp] theorem Dev.updSession_tenantHoldF (s : Dev) (n : Nat) (g : Session → Session) : (s.updSession n g).tenantHoldF = s.tenantHoldF := rfl
@[simp] theorem Dev.updSession_lldpNeighbour (s : Dev) (n : Nat) (g : Session → Session) : (s.updSession n g).lldpNeighbour = s.lldpNeighbour := rfl
@[simp] theorem Dev.updSession_detachF (s : Dev) (n : Nat) (g : Session → Session) : (s.updSession n g).detachF = s.detachF := rfl
@[simp] theorem Dev.updSession_faultQ (s : Dev) (n : Nat) (g : Session → Session) : (s.updSession n g).faultQ = s.faultQ := rfl
@[simp] theorem Dev.updSession_planFaultMs (s : Dev) (n : Nat) (g : Session → Session) : (s.updSession n g).planFaultMs = s.planFaultMs := rfl
@[simp] theorem Dev.updSession_alertFault (s : Dev) (n : Nat) (g : Session → Session) : (s.updSession n g).alertFault = s.alertFault := rfl
@[simp] theorem Dev.updSession_unitMap (s : Dev) (n : Nat) (g : Session → Session) : (s.updSession n g).unitMap = s.unitMap := rfl
@[simp] theorem Dev.updSession_poisonMs (s : Dev) (n : Nat) (g : Session → Session) : (s.updSession n g).poisonMs = s.poisonMs := rfl
@[simp] theorem Dev.updSession_pathRecalF (s : Dev) (n : Nat) (g : Session → Session) : (s.updSession n g).pathRecalF = s.pathRecalF := rfl
@[simp] theorem Dev.updSession_linkMs (s : Dev) (n : Nat) (g : Session → Session) : (s.updSession n g).linkMs = s.linkMs := rfl
@[simp] theorem Dev.updSession_linkRetrainF (s : Dev) (n : Nat) (g : Session → Session) : (s.updSession n g).linkRetrainF = s.linkRetrainF := rfl
@[simp] theorem Dev.updSession_streams (s : Dev) (n : Nat) (g : Session → Session) : (s.updSession n g).streams = s.streams := rfl
@[simp] theorem Dev.updSession_spillWin (s : Dev) (n : Nat) (g : Session → Session) : (s.updSession n g).spillWin = s.spillWin := rfl
@[simp] theorem Dev.updSession_spillMoved (s : Dev) (n : Nat) (g : Session → Session) : (s.updSession n g).spillMoved = s.spillMoved := rfl
@[simp] theorem Dev.updSession_mere (s : Dev) (n : Nat) (g : Session → Session) : (s.updSession n g).mere = s.mere := rfl
@[simp] theorem Dev.updSession_mereBad (s : Dev) (n : Nat) (g : Session → Session) : (s.updSession n g).mereBad = s.mereBad := rfl
@[simp] theorem Dev.updSession_parityRun (s : Dev) (n : Nat) (g : Session → Session) : (s.updSession n g).parityRun = s.parityRun := rfl
@[simp] theorem Dev.updSession_sweepPos (s : Dev) (n : Nat) (g : Session → Session) : (s.updSession n g).sweepPos = s.sweepPos := rfl
@[simp] theorem Dev.updSession_transit (s : Dev) (n : Nat) (g : Session → Session) : (s.updSession n g).transit = s.transit := rfl
@[simp] theorem Dev.updSession_routeHold (s : Dev) (n : Nat) (g : Session → Session) : (s.updSession n g).routeHold = s.routeHold := rfl
@[simp] theorem Dev.updSession_eddyTurn (s : Dev) (n : Nat) (g : Session → Session) : (s.updSession n g).eddyTurn = s.eddyTurn := rfl
@[simp] theorem Dev.updSession_sluices (s : Dev) (n : Nat) (g : Session → Session) : (s.updSession n g).sluices = s.sluices := rfl
@[simp] theorem Dev.updSession_regions (s : Dev) (n : Nat) (g : Session → Session) : (s.updSession n g).regions = s.regions := rfl
@[simp] theorem Dev.updSession_marches (s : Dev) (n : Nat) (g : Session → Session) : (s.updSession n g).marches = s.marches := rfl
@[simp] theorem Dev.updSession_padUncorr (s : Dev) (n : Nat) (g : Session → Session) : (s.updSession n g).padUncorr = s.padUncorr := rfl
@[simp] theorem Dev.updSession_silted (s : Dev) (n : Nat) (g : Session → Session) : (s.updSession n g).silted = s.silted := rfl
@[simp] theorem Dev.updSession_spareBits (s : Dev) (n : Nat) (g : Session → Session) : (s.updSession n g).spareBits = s.spareBits := rfl
@[simp] theorem Dev.updSession_doms (s : Dev) (n : Nat) (g : Session → Session) : (s.updSession n g).doms = s.doms := rfl
@[simp] theorem Dev.updSession_wakeIns (s : Dev) (n : Nat) (g : Session → Session) : (s.updSession n g).wakeIns = s.wakeIns := rfl
@[simp] theorem Dev.updSession_baseOff (s : Dev) (n : Nat) (g : Session → Session) : (s.updSession n g).baseOff = s.baseOff := rfl
@[simp] theorem Dev.updSession_thermtrip (s : Dev) (n : Nat) (g : Session → Session) : (s.updSession n g).thermtrip = s.thermtrip := rfl
@[simp] theorem Dev.updSession_hotDies (s : Dev) (n : Nat) (g : Session → Session) : (s.updSession n g).hotDies = s.hotDies := rfl
@[simp] theorem Dev.updSession_tjLast (s : Dev) (n : Nat) (g : Session → Session) : (s.updSession n g).tjLast = s.tjLast := rfl
@[simp] theorem Dev.updSession_alertRecovery (s : Dev) (n : Nat) (g : Session → Session) : (s.updSession n g).alertRecovery = s.alertRecovery := rfl
@[simp] theorem Dev.updSession_rimFrames (s : Dev) (n : Nat) (g : Session → Session) : (s.updSession n g).rimFrames = s.rimFrames := rfl
@[simp] theorem Dev.updSession_paces (s : Dev) (n : Nat) (g : Session → Session) : (s.updSession n g).paces = s.paces := rfl
@[simp] theorem Dev.updSession_rails (s : Dev) (n : Nat) (g : Session → Session) : (s.updSession n g).rails = s.rails := rfl
@[simp] theorem Dev.updSession_deviceKey (s : Dev) (n : Nat) (g : Session → Session) : (s.updSession n g).deviceKey = s.deviceKey := rfl
@[simp] theorem Dev.updSession_dataKeys (s : Dev) (n : Nat) (g : Session → Session) : (s.updSession n g).dataKeys = s.dataKeys := rfl
@[simp] theorem Dev.updSession_exchanges (s : Dev) (n : Nat) (g : Session → Session) : (s.updSession n g).exchanges = s.exchanges := rfl
@[simp] theorem Dev.updSession_trngPass (s : Dev) (n : Nat) (g : Session → Session) : (s.updSession n g).trngPass = s.trngPass := rfl
@[simp] theorem Dev.updSession_reeds (s : Dev) (n : Nat) (g : Session → Session) : (s.updSession n g).reeds = s.reeds := rfl
@[simp] theorem Dev.updSession_spis (s : Dev) (n : Nat) (g : Session → Session) : (s.updSession n g).spis = s.spis := rfl
@[simp] theorem Dev.updSession_fines (s : Dev) (n : Nat) (g : Session → Session) : (s.updSession n g).fines = s.fines := rfl
@[simp] theorem Dev.updSession_fusion (s : Dev) (n : Nat) (g : Session → Session) : (s.updSession n g).fusion = s.fusion := rfl

/-! ### An answer given -/

/-- An answer changes counters, what was sent, the mailboxes and the sessions alone. -/
theorem Dev.answer_only (s : Dev) (q : Requester) (st : Status) (d : List Byte) :
    ∃ D O M S, s.answer q st d = { s with dict := D, out := O, mailboxes := M, sess := S } := by
  cases q with
  | mailbox p m =>
    simp only [Dev.answer, Dev.delivered, Dev.mailboxDone]
    split
    · exact ⟨_, _, _, _, rfl⟩
    · exact ⟨_, _, _, _, rfl⟩
  | omtos k => exact ⟨_, _, _, _, rfl⟩
  | source ip udp => exact ⟨_, _, _, _, rfl⟩
  | can c => exact ⟨_, _, _, _, rfl⟩

theorem Dev.refuse_only (s : Dev) (q : Requester) (st : Status) :
    ∃ D O M S, s.refuse q st = { s with dict := D, out := O, mailboxes := M, sess := S } := by
  unfold Dev.refuse Dev.replyStatus
  split
  · obtain ⟨D, O, M, S, h⟩ := (s.bump (Obj.transportCounter 6)).answer_only q st (st.shown q)
    exact ⟨D, O, M, S, h⟩
  · exact s.answer_only q st (st.shown q)

@[simp] theorem Dev.answer_blobs (s : Dev) (q : Requester) (st : Status) (d : List Byte) : (s.answer q st d).blobs = s.blobs := by
  obtain ⟨_, _, _, _, h⟩ := s.answer_only q st d
  rw [h]
@[simp] theorem Dev.answer_free (s : Dev) (q : Requester) (st : Status) (d : List Byte) : (s.answer q st d).free = s.free := by
  obtain ⟨_, _, _, _, h⟩ := s.answer_only q st d
  rw [h]
@[simp] theorem Dev.answer_f (s : Dev) (q : Requester) (st : Status) (d : List Byte) : (s.answer q st d).f = s.f := by
  obtain ⟨_, _, _, _, h⟩ := s.answer_only q st d
  rw [h]
@[simp] theorem Dev.answer_aon (s : Dev) (q : Requester) (st : Status) (d : List Byte) : (s.answer q st d).aon = s.aon := by
  obtain ⟨_, _, _, _, h⟩ := s.answer_only q st d
  rw [h]
@[simp] theorem Dev.answer_aonPhase (s : Dev) (q : Requester) (st : Status) (d : List Byte) : (s.answer q st d).aonPhase = s.aonPhase := by
  obtain ⟨_, _, _, _, h⟩ := s.answer_only q st d
  rw [h]
@[simp] theorem Dev.answer_f0 (s : Dev) (q : Requester) (st : Status) (d : List Byte) : (s.answer q st d).f0 = s.f0 := by
  obtain ⟨_, _, _, _, h⟩ := s.answer_only q st d
  rw [h]
@[simp] theorem Dev.answer_a0 (s : Dev) (q : Requester) (st : Status) (d : List Byte) : (s.answer q st d).a0 = s.a0 := by
  obtain ⟨_, _, _, _, h⟩ := s.answer_only q st d
  rw [h]
@[simp] theorem Dev.answer_unbridged (s : Dev) (q : Requester) (st : Status) (d : List Byte) : (s.answer q st d).unbridged = s.unbridged := by
  obtain ⟨_, _, _, _, h⟩ := s.answer_only q st d
  rw [h]
@[simp] theorem Dev.answer_entryWait (s : Dev) (q : Requester) (st : Status) (d : List Byte) : (s.answer q st d).entryWait = s.entryWait := by
  obtain ⟨_, _, _, _, h⟩ := s.answer_only q st d
  rw [h]
@[simp] theorem Dev.answer_stopped (s : Dev) (q : Requester) (st : Status) (d : List Byte) : (s.answer q st d).stopped = s.stopped := by
  obtain ⟨_, _, _, _, h⟩ := s.answer_only q st d
  rw [h]
@[simp] theorem Dev.answer_holdoverF (s : Dev) (q : Requester) (st : Status) (d : List Byte) : (s.answer q st d).holdoverF = s.holdoverF := by
  obtain ⟨_, _, _, _, h⟩ := s.answer_only q st d
  rw [h]
@[simp] theorem Dev.answer_cmpFromF (s : Dev) (q : Requester) (st : Status) (d : List Byte) : (s.answer q st d).cmpFromF = s.cmpFromF := by
  obtain ⟨_, _, _, _, h⟩ := s.answer_only q st d
  rw [h]
@[simp] theorem Dev.answer_lockRun (s : Dev) (q : Requester) (st : Status) (d : List Byte) : (s.answer q st d).lockRun = s.lockRun := by
  obtain ⟨_, _, _, _, h⟩ := s.answer_only q st d
  rw [h]
@[simp] theorem Dev.answer_trigs (s : Dev) (q : Requester) (st : Status) (d : List Byte) : (s.answer q st d).trigs = s.trigs := by
  obtain ⟨_, _, _, _, h⟩ := s.answer_only q st d
  rw [h]
@[simp] theorem Dev.answer_caps (s : Dev) (q : Requester) (st : Status) (d : List Byte) : (s.answer q st d).caps = s.caps := by
  obtain ⟨_, _, _, _, h⟩ := s.answer_only q st d
  rw [h]
@[simp] theorem Dev.answer_clocks (s : Dev) (q : Requester) (st : Status) (d : List Byte) : (s.answer q st d).clocks = s.clocks := by
  obtain ⟨_, _, _, _, h⟩ := s.answer_only q st d
  rw [h]
@[simp] theorem Dev.answer_reconvert (s : Dev) (q : Requester) (st : Status) (d : List Byte) : (s.answer q st d).reconvert = s.reconvert := by
  obtain ⟨_, _, _, _, h⟩ := s.answer_only q st d
  rw [h]
@[simp] theorem Dev.answer_residence (s : Dev) (q : Requester) (st : Status) (d : List Byte) : (s.answer q st d).residence = s.residence := by
  obtain ⟨_, _, _, _, h⟩ := s.answer_only q st d
  rw [h]
@[simp] theorem Dev.answer_ptpParent (s : Dev) (q : Requester) (st : Status) (d : List Byte) : (s.answer q st d).ptpParent = s.ptpParent := by
  obtain ⟨_, _, _, _, h⟩ := s.answer_only q st d
  rw [h]
@[simp] theorem Dev.answer_skewDraws (s : Dev) (q : Requester) (st : Status) (d : List Byte) : (s.answer q st d).skewDraws = s.skewDraws := by
  obtain ⟨_, _, _, _, h⟩ := s.answer_only q st d
  rw [h]
@[simp] theorem Dev.answer_meters (s : Dev) (q : Requester) (st : Status) (d : List Byte) : (s.answer q st d).meters = s.meters := by
  obtain ⟨_, _, _, _, h⟩ := s.answer_only q st d
  rw [h]
@[simp] theorem Dev.answer_alive (s : Dev) (q : Requester) (st : Status) (d : List Byte) : (s.answer q st d).alive = s.alive := by
  obtain ⟨_, _, _, _, h⟩ := s.answer_only q st d
  rw [h]
@[simp] theorem Dev.answer_frozen (s : Dev) (q : Requester) (st : Status) (d : List Byte) : (s.answer q st d).frozen = s.frozen := by
  obtain ⟨_, _, _, _, h⟩ := s.answer_only q st d
  rw [h]
@[simp] theorem Dev.answer_freezeF (s : Dev) (q : Requester) (st : Status) (d : List Byte) : (s.answer q st d).freezeF = s.freezeF := by
  obtain ⟨_, _, _, _, h⟩ := s.answer_only q st d
  rw [h]
@[simp] theorem Dev.answer_freezes (s : Dev) (q : Requester) (st : Status) (d : List Byte) : (s.answer q st d).freezes = s.freezes := by
  obtain ⟨_, _, _, _, h⟩ := s.answer_only q st d
  rw [h]
@[simp] theorem Dev.answer_frozenNs (s : Dev) (q : Requester) (st : Status) (d : List Byte) : (s.answer q st d).frozenNs = s.frozenNs := by
  obtain ⟨_, _, _, _, h⟩ := s.answer_only q st d
  rw [h]
@[simp] theorem Dev.answer_held (s : Dev) (q : Requester) (st : Status) (d : List Byte) : (s.answer q st d).held = s.held := by
  obtain ⟨_, _, _, _, h⟩ := s.answer_only q st d
  rw [h]
@[simp] theorem Dev.answer_transfers (s : Dev) (q : Requester) (st : Status) (d : List Byte) : (s.answer q st d).transfers = s.transfers := by
  obtain ⟨_, _, _, _, h⟩ := s.answer_only q st d
  rw [h]
@[simp] theorem Dev.answer_abandoned (s : Dev) (q : Requester) (st : Status) (d : List Byte) : (s.answer q st d).abandoned = s.abandoned := by
  obtain ⟨_, _, _, _, h⟩ := s.answer_only q st d
  rw [h]
@[simp] theorem Dev.answer_discarded (s : Dev) (q : Requester) (st : Status) (d : List Byte) : (s.answer q st d).discarded = s.discarded := by
  obtain ⟨_, _, _, _, h⟩ := s.answer_only q st d
  rw [h]
@[simp] theorem Dev.answer_stillAck (s : Dev) (q : Requester) (st : Status) (d : List Byte) : (s.answer q st d).stillAck = s.stillAck := by
  obtain ⟨_, _, _, _, h⟩ := s.answer_only q st d
  rw [h]
@[simp] theorem Dev.answer_resumeF (s : Dev) (q : Requester) (st : Status) (d : List Byte) : (s.answer q st d).resumeF = s.resumeF := by
  obtain ⟨_, _, _, _, h⟩ := s.answer_only q st d
  rw [h]
@[simp] theorem Dev.answer_bootWait (s : Dev) (q : Requester) (st : Status) (d : List Byte) : (s.answer q st d).bootWait = s.bootWait := by
  obtain ⟨_, _, _, _, h⟩ := s.answer_only q st d
  rw [h]
@[simp] theorem Dev.answer_pufOk (s : Dev) (q : Requester) (st : Status) (d : List Byte) : (s.answer q st d).pufOk = s.pufOk := by
  obtain ⟨_, _, _, _, h⟩ := s.answer_only q st d
  rw [h]
@[simp] theorem Dev.answer_tapAddr (s : Dev) (q : Requester) (st : Status) (d : List Byte) : (s.answer q st d).tapAddr = s.tapAddr := by
  obtain ⟨_, _, _, _, h⟩ := s.answer_only q st d
  rw [h]
@[simp] theorem Dev.answer_ferries (s : Dev) (q : Requester) (st : Status) (d : List Byte) : (s.answer q st d).ferries = s.ferries := by
  obtain ⟨_, _, _, _, h⟩ := s.answer_only q st d
  rw [h]
@[simp] theorem Dev.answer_starts (s : Dev) (q : Requester) (st : Status) (d : List Byte) : (s.answer q st d).starts = s.starts := by
  obtain ⟨_, _, _, _, h⟩ := s.answer_only q st d
  rw [h]
@[simp] theorem Dev.answer_heldStarts (s : Dev) (q : Requester) (st : Status) (d : List Byte) : (s.answer q st d).heldStarts = s.heldStarts := by
  obtain ⟨_, _, _, _, h⟩ := s.answer_only q st d
  rw [h]
@[simp] theorem Dev.answer_edcRepeats (s : Dev) (q : Requester) (st : Status) (d : List Byte) : (s.answer q st d).edcRepeats = s.edcRepeats := by
  obtain ⟨_, _, _, _, h⟩ := s.answer_only q st d
  rw [h]
@[simp] theorem Dev.answer_gddrUncorr (s : Dev) (q : Requester) (st : Status) (d : List Byte) : (s.answer q st d).gddrUncorr = s.gddrUncorr := by
  obtain ⟨_, _, _, _, h⟩ := s.answer_only q st d
  rw [h]
@[simp] theorem Dev.answer_coolMs (s : Dev) (q : Requester) (st : Status) (d : List Byte) : (s.answer q st d).coolMs = s.coolMs := by
  obtain ⟨_, _, _, _, h⟩ := s.answer_only q st d
  rw [h]
@[simp] theorem Dev.answer_lastTick (s : Dev) (q : Requester) (st : Status) (d : List Byte) : (s.answer q st d).lastTick = s.lastTick := by
  obtain ⟨_, _, _, _, h⟩ := s.answer_only q st d
  rw [h]
@[simp] theorem Dev.answer_confFullF (s : Dev) (q : Requester) (st : Status) (d : List Byte) : (s.answer q st d).confFullF = s.confFullF := by
  obtain ⟨_, _, _, _, h⟩ := s.answer_only q st d
  rw [h]
@[simp] theorem Dev.answer_confFullNs (s : Dev) (q : Requester) (st : Status) (d : List Byte) : (s.answer q st d).confFullNs = s.confFullNs := by
  obtain ⟨_, _, _, _, h⟩ := s.answer_only q st d
  rw [h]
@[simp] theorem Dev.answer_moved (s : Dev) (q : Requester) (st : Status) (d : List Byte) : (s.answer q st d).moved = s.moved := by
  obtain ⟨_, _, _, _, h⟩ := s.answer_only q st d
  rw [h]
@[simp] theorem Dev.answer_filled (s : Dev) (q : Requester) (st : Status) (d : List Byte) : (s.answer q st d).filled = s.filled := by
  obtain ⟨_, _, _, _, h⟩ := s.answer_only q st d
  rw [h]
@[simp] theorem Dev.answer_failedFirst (s : Dev) (q : Requester) (st : Status) (d : List Byte) : (s.answer q st d).failedFirst = s.failedFirst := by
  obtain ⟨_, _, _, _, h⟩ := s.answer_only q st d
  rw [h]
@[simp] theorem Dev.answer_mirrorTurn (s : Dev) (q : Requester) (st : Status) (d : List Byte) : (s.answer q st d).mirrorTurn = s.mirrorTurn := by
  obtain ⟨_, _, _, _, h⟩ := s.answer_only q st d
  rw [h]
@[simp] theorem Dev.answer_plans (s : Dev) (q : Requester) (st : Status) (d : List Byte) : (s.answer q st d).plans = s.plans := by
  obtain ⟨_, _, _, _, h⟩ := s.answer_only q st d
  rw [h]
@[simp] theorem Dev.answer_phaseReq (s : Dev) (q : Requester) (st : Status) (d : List Byte) : (s.answer q st d).phaseReq = s.phaseReq := by
  obtain ⟨_, _, _, _, h⟩ := s.answer_only q st d
  rw [h]
@[simp] theorem Dev.answer_planPhases (s : Dev) (q : Requester) (st : Status) (d : List Byte) : (s.answer q st d).planPhases = s.planPhases := by
  obtain ⟨_, _, _, _, h⟩ := s.answer_only q st d
  rw [h]
@[simp] theorem Dev.answer_allocs (s : Dev) (q : Requester) (st : Status) (d : List Byte) : (s.answer q st d).allocs = s.allocs := by
  obtain ⟨_, _, _, _, h⟩ := s.answer_only q st d
  rw [h]
@[simp] theorem Dev.answer_pops (s : Dev) (q : Requester) (st : Status) (d : List Byte) : (s.answer q st d).pops = s.pops := by
  obtain ⟨_, _, _, _, h⟩ := s.answer_only q st d
  rw [h]
@[simp] theorem Dev.answer_neurons (s : Dev) (q : Requester) (st : Status) (d : List Byte) : (s.answer q st d).neurons = s.neurons := by
  obtain ⟨_, _, _, _, h⟩ := s.answer_only q st d
  rw [h]
@[simp] theorem Dev.answer_accs (s : Dev) (q : Requester) (st : Status) (d : List Byte) : (s.answer q st d).accs = s.accs := by
  obtain ⟨_, _, _, _, h⟩ := s.answer_only q st d
  rw [h]
@[simp] theorem Dev.answer_residues (s : Dev) (q : Requester) (st : Status) (d : List Byte) : (s.answer q st d).residues = s.residues := by
  obtain ⟨_, _, _, _, h⟩ := s.answer_only q st d
  rw [h]
@[simp] theorem Dev.answer_neuronBad (s : Dev) (q : Requester) (st : Status) (d : List Byte) : (s.answer q st d).neuronBad = s.neuronBad := by
  obtain ⟨_, _, _, _, h⟩ := s.answer_only q st d
  rw [h]
@[simp] theorem Dev.answer_counts (s : Dev) (q : Requester) (st : Status) (d : List Byte) : (s.answer q st d).counts = s.counts := by
  obtain ⟨_, _, _, _, h⟩ := s.answer_only q st d
  rw [h]
@[simp] theorem Dev.answer_layers (s : Dev) (q : Requester) (st : Status) (d : List Byte) : (s.answer q st d).layers = s.layers := by
  obtain ⟨_, _, _, _, h⟩ := s.answer_only q st d
  rw [h]
@[simp] theorem Dev.answer_lfsr (s : Dev) (q : Requester) (st : Status) (d : List Byte) : (s.answer q st d).lfsr = s.lfsr := by
  obtain ⟨_, _, _, _, h⟩ := s.answer_only q st d
  rw [h]
@[simp] theorem Dev.answer_phaseSeed (s : Dev) (q : Requester) (st : Status) (d : List Byte) : (s.answer q st d).phaseSeed = s.phaseSeed := by
  obtain ⟨_, _, _, _, h⟩ := s.answer_only q st d
  rw [h]
@[simp] theorem Dev.answer_unitF (s : Dev) (q : Requester) (st : Status) (d : List Byte) : (s.answer q st d).unitF = s.unitF := by
  obtain ⟨_, _, _, _, h⟩ := s.answer_only q st d
  rw [h]
@[simp] theorem Dev.answer_sedLive (s : Dev) (q : Requester) (st : Status) (d : List Byte) : (s.answer q st d).sedLive = s.sedLive := by
  obtain ⟨_, _, _, _, h⟩ := s.answer_only q st d
  rw [h]
@[simp] theorem Dev.answer_sedShadow (s : Dev) (q : Requester) (st : Status) (d : List Byte) : (s.answer q st d).sedShadow = s.sedShadow := by
  obtain ⟨_, _, _, _, h⟩ := s.answer_only q st d
  rw [h]
@[simp] theorem Dev.answer_powerOn (s : Dev) (q : Requester) (st : Status) (d : List Byte) : (s.answer q st d).powerOn = s.powerOn := by
  obtain ⟨_, _, _, _, h⟩ := s.answer_only q st d
  rw [h]
@[simp] theorem Dev.answer_mram0 (s : Dev) (q : Requester) (st : Status) (d : List Byte) : (s.answer q st d).mram0 = s.mram0 := by
  obtain ⟨_, _, _, _, h⟩ := s.answer_only q st d
  rw [h]
@[simp] theorem Dev.answer_mram1 (s : Dev) (q : Requester) (st : Status) (d : List Byte) : (s.answer q st d).mram1 = s.mram1 := by
  obtain ⟨_, _, _, _, h⟩ := s.answer_only q st d
  rw [h]
@[simp] theorem Dev.answer_sedFuse (s : Dev) (q : Requester) (st : Status) (d : List Byte) : (s.answer q st d).sedFuse = s.sedFuse := by
  obtain ⟨_, _, _, _, h⟩ := s.answer_only q st d
  rw [h]
@[simp] theorem Dev.answer_commitReason (s : Dev) (q : Requester) (st : Status) (d : List Byte) : (s.answer q st d).commitReason = s.commitReason := by
  obtain ⟨_, _, _, _, h⟩ := s.answer_only q st d
  rw [h]
@[simp] theorem Dev.answer_rateSeen (s : Dev) (q : Requester) (st : Status) (d : List Byte) : (s.answer q st d).rateSeen = s.rateSeen := by
  obtain ⟨_, _, _, _, h⟩ := s.answer_only q st d
  rw [h]
@[simp] theorem Dev.answer_sedTickAon (s : Dev) (q : Requester) (st : Status) (d : List Byte) : (s.answer q st d).sedTickAon = s.sedTickAon := by
  obtain ⟨_, _, _, _, h⟩ := s.answer_only q st d
  rw [h]
@[simp] theorem Dev.answer_commitF (s : Dev) (q : Requester) (st : Status) (d : List Byte) : (s.answer q st d).commitF = s.commitF := by
  obtain ⟨_, _, _, _, h⟩ := s.answer_only q st d
  rw [h]
@[simp] theorem Dev.answer_commitBytes (s : Dev) (q : Requester) (st : Status) (d : List Byte) : (s.answer q st d).commitBytes = s.commitBytes := by
  obtain ⟨_, _, _, _, h⟩ := s.answer_only q st d
  rw [h]
@[simp] theorem Dev.answer_weirs (s : Dev) (q : Requester) (st : Status) (d : List Byte) : (s.answer q st d).weirs = s.weirs := by
  obtain ⟨_, _, _, _, h⟩ := s.answer_only q st d
  rw [h]
@[simp] theorem Dev.answer_waits (s : Dev) (q : Requester) (st : Status) (d : List Byte) : (s.answer q st d).waits = s.waits := by
  obtain ⟨_, _, _, _, h⟩ := s.answer_only q st d
  rw [h]
@[simp] theorem Dev.answer_chans (s : Dev) (q : Requester) (st : Status) (d : List Byte) : (s.answer q st d).chans = s.chans := by
  obtain ⟨_, _, _, _, h⟩ := s.answer_only q st d
  rw [h]
@[simp] theorem Dev.answer_tenantHoldF (s : Dev) (q : Requester) (st : Status) (d : List Byte) : (s.answer q st d).tenantHoldF = s.tenantHoldF := by
  obtain ⟨_, _, _, _, h⟩ := s.answer_only q st d
  rw [h]
@[simp] theorem Dev.answer_lldpNeighbour (s : Dev) (q : Requester) (st : Status) (d : List Byte) : (s.answer q st d).lldpNeighbour = s.lldpNeighbour := by
  obtain ⟨_, _, _, _, h⟩ := s.answer_only q st d
  rw [h]
@[simp] theorem Dev.answer_detachF (s : Dev) (q : Requester) (st : Status) (d : List Byte) : (s.answer q st d).detachF = s.detachF := by
  obtain ⟨_, _, _, _, h⟩ := s.answer_only q st d
  rw [h]
@[simp] theorem Dev.answer_faultQ (s : Dev) (q : Requester) (st : Status) (d : List Byte) : (s.answer q st d).faultQ = s.faultQ := by
  obtain ⟨_, _, _, _, h⟩ := s.answer_only q st d
  rw [h]
@[simp] theorem Dev.answer_planFaultMs (s : Dev) (q : Requester) (st : Status) (d : List Byte) : (s.answer q st d).planFaultMs = s.planFaultMs := by
  obtain ⟨_, _, _, _, h⟩ := s.answer_only q st d
  rw [h]
@[simp] theorem Dev.answer_alertFault (s : Dev) (q : Requester) (st : Status) (d : List Byte) : (s.answer q st d).alertFault = s.alertFault := by
  obtain ⟨_, _, _, _, h⟩ := s.answer_only q st d
  rw [h]
@[simp] theorem Dev.answer_unitMap (s : Dev) (q : Requester) (st : Status) (d : List Byte) : (s.answer q st d).unitMap = s.unitMap := by
  obtain ⟨_, _, _, _, h⟩ := s.answer_only q st d
  rw [h]
@[simp] theorem Dev.answer_poisonMs (s : Dev) (q : Requester) (st : Status) (d : List Byte) : (s.answer q st d).poisonMs = s.poisonMs := by
  obtain ⟨_, _, _, _, h⟩ := s.answer_only q st d
  rw [h]
@[simp] theorem Dev.answer_pathRecalF (s : Dev) (q : Requester) (st : Status) (d : List Byte) : (s.answer q st d).pathRecalF = s.pathRecalF := by
  obtain ⟨_, _, _, _, h⟩ := s.answer_only q st d
  rw [h]
@[simp] theorem Dev.answer_linkMs (s : Dev) (q : Requester) (st : Status) (d : List Byte) : (s.answer q st d).linkMs = s.linkMs := by
  obtain ⟨_, _, _, _, h⟩ := s.answer_only q st d
  rw [h]
@[simp] theorem Dev.answer_linkRetrainF (s : Dev) (q : Requester) (st : Status) (d : List Byte) : (s.answer q st d).linkRetrainF = s.linkRetrainF := by
  obtain ⟨_, _, _, _, h⟩ := s.answer_only q st d
  rw [h]
@[simp] theorem Dev.answer_streams (s : Dev) (q : Requester) (st : Status) (d : List Byte) : (s.answer q st d).streams = s.streams := by
  obtain ⟨_, _, _, _, h⟩ := s.answer_only q st d
  rw [h]
@[simp] theorem Dev.answer_spillWin (s : Dev) (q : Requester) (st : Status) (d : List Byte) : (s.answer q st d).spillWin = s.spillWin := by
  obtain ⟨_, _, _, _, h⟩ := s.answer_only q st d
  rw [h]
@[simp] theorem Dev.answer_spillMoved (s : Dev) (q : Requester) (st : Status) (d : List Byte) : (s.answer q st d).spillMoved = s.spillMoved := by
  obtain ⟨_, _, _, _, h⟩ := s.answer_only q st d
  rw [h]
@[simp] theorem Dev.answer_mere (s : Dev) (q : Requester) (st : Status) (d : List Byte) : (s.answer q st d).mere = s.mere := by
  obtain ⟨_, _, _, _, h⟩ := s.answer_only q st d
  rw [h]
@[simp] theorem Dev.answer_mereBad (s : Dev) (q : Requester) (st : Status) (d : List Byte) : (s.answer q st d).mereBad = s.mereBad := by
  obtain ⟨_, _, _, _, h⟩ := s.answer_only q st d
  rw [h]
@[simp] theorem Dev.answer_parityRun (s : Dev) (q : Requester) (st : Status) (d : List Byte) : (s.answer q st d).parityRun = s.parityRun := by
  obtain ⟨_, _, _, _, h⟩ := s.answer_only q st d
  rw [h]
@[simp] theorem Dev.answer_sweepPos (s : Dev) (q : Requester) (st : Status) (d : List Byte) : (s.answer q st d).sweepPos = s.sweepPos := by
  obtain ⟨_, _, _, _, h⟩ := s.answer_only q st d
  rw [h]
@[simp] theorem Dev.answer_transit (s : Dev) (q : Requester) (st : Status) (d : List Byte) : (s.answer q st d).transit = s.transit := by
  obtain ⟨_, _, _, _, h⟩ := s.answer_only q st d
  rw [h]
@[simp] theorem Dev.answer_routeHold (s : Dev) (q : Requester) (st : Status) (d : List Byte) : (s.answer q st d).routeHold = s.routeHold := by
  obtain ⟨_, _, _, _, h⟩ := s.answer_only q st d
  rw [h]
@[simp] theorem Dev.answer_eddyTurn (s : Dev) (q : Requester) (st : Status) (d : List Byte) : (s.answer q st d).eddyTurn = s.eddyTurn := by
  obtain ⟨_, _, _, _, h⟩ := s.answer_only q st d
  rw [h]
@[simp] theorem Dev.answer_sluices (s : Dev) (q : Requester) (st : Status) (d : List Byte) : (s.answer q st d).sluices = s.sluices := by
  obtain ⟨_, _, _, _, h⟩ := s.answer_only q st d
  rw [h]
@[simp] theorem Dev.answer_regions (s : Dev) (q : Requester) (st : Status) (d : List Byte) : (s.answer q st d).regions = s.regions := by
  obtain ⟨_, _, _, _, h⟩ := s.answer_only q st d
  rw [h]
@[simp] theorem Dev.answer_marches (s : Dev) (q : Requester) (st : Status) (d : List Byte) : (s.answer q st d).marches = s.marches := by
  obtain ⟨_, _, _, _, h⟩ := s.answer_only q st d
  rw [h]
@[simp] theorem Dev.answer_padUncorr (s : Dev) (q : Requester) (st : Status) (d : List Byte) : (s.answer q st d).padUncorr = s.padUncorr := by
  obtain ⟨_, _, _, _, h⟩ := s.answer_only q st d
  rw [h]
@[simp] theorem Dev.answer_silted (s : Dev) (q : Requester) (st : Status) (d : List Byte) : (s.answer q st d).silted = s.silted := by
  obtain ⟨_, _, _, _, h⟩ := s.answer_only q st d
  rw [h]
@[simp] theorem Dev.answer_spareBits (s : Dev) (q : Requester) (st : Status) (d : List Byte) : (s.answer q st d).spareBits = s.spareBits := by
  obtain ⟨_, _, _, _, h⟩ := s.answer_only q st d
  rw [h]
@[simp] theorem Dev.answer_doms (s : Dev) (q : Requester) (st : Status) (d : List Byte) : (s.answer q st d).doms = s.doms := by
  obtain ⟨_, _, _, _, h⟩ := s.answer_only q st d
  rw [h]
@[simp] theorem Dev.answer_wakeIns (s : Dev) (q : Requester) (st : Status) (d : List Byte) : (s.answer q st d).wakeIns = s.wakeIns := by
  obtain ⟨_, _, _, _, h⟩ := s.answer_only q st d
  rw [h]
@[simp] theorem Dev.answer_baseOff (s : Dev) (q : Requester) (st : Status) (d : List Byte) : (s.answer q st d).baseOff = s.baseOff := by
  obtain ⟨_, _, _, _, h⟩ := s.answer_only q st d
  rw [h]
@[simp] theorem Dev.answer_thermtrip (s : Dev) (q : Requester) (st : Status) (d : List Byte) : (s.answer q st d).thermtrip = s.thermtrip := by
  obtain ⟨_, _, _, _, h⟩ := s.answer_only q st d
  rw [h]
@[simp] theorem Dev.answer_hotDies (s : Dev) (q : Requester) (st : Status) (d : List Byte) : (s.answer q st d).hotDies = s.hotDies := by
  obtain ⟨_, _, _, _, h⟩ := s.answer_only q st d
  rw [h]
@[simp] theorem Dev.answer_tjLast (s : Dev) (q : Requester) (st : Status) (d : List Byte) : (s.answer q st d).tjLast = s.tjLast := by
  obtain ⟨_, _, _, _, h⟩ := s.answer_only q st d
  rw [h]
@[simp] theorem Dev.answer_alertRecovery (s : Dev) (q : Requester) (st : Status) (d : List Byte) : (s.answer q st d).alertRecovery = s.alertRecovery := by
  obtain ⟨_, _, _, _, h⟩ := s.answer_only q st d
  rw [h]
@[simp] theorem Dev.answer_rimFrames (s : Dev) (q : Requester) (st : Status) (d : List Byte) : (s.answer q st d).rimFrames = s.rimFrames := by
  obtain ⟨_, _, _, _, h⟩ := s.answer_only q st d
  rw [h]
@[simp] theorem Dev.answer_paces (s : Dev) (q : Requester) (st : Status) (d : List Byte) : (s.answer q st d).paces = s.paces := by
  obtain ⟨_, _, _, _, h⟩ := s.answer_only q st d
  rw [h]
@[simp] theorem Dev.answer_rails (s : Dev) (q : Requester) (st : Status) (d : List Byte) : (s.answer q st d).rails = s.rails := by
  obtain ⟨_, _, _, _, h⟩ := s.answer_only q st d
  rw [h]
@[simp] theorem Dev.answer_deviceKey (s : Dev) (q : Requester) (st : Status) (d : List Byte) : (s.answer q st d).deviceKey = s.deviceKey := by
  obtain ⟨_, _, _, _, h⟩ := s.answer_only q st d
  rw [h]
@[simp] theorem Dev.answer_dataKeys (s : Dev) (q : Requester) (st : Status) (d : List Byte) : (s.answer q st d).dataKeys = s.dataKeys := by
  obtain ⟨_, _, _, _, h⟩ := s.answer_only q st d
  rw [h]
@[simp] theorem Dev.answer_exchanges (s : Dev) (q : Requester) (st : Status) (d : List Byte) : (s.answer q st d).exchanges = s.exchanges := by
  obtain ⟨_, _, _, _, h⟩ := s.answer_only q st d
  rw [h]
@[simp] theorem Dev.answer_trngPass (s : Dev) (q : Requester) (st : Status) (d : List Byte) : (s.answer q st d).trngPass = s.trngPass := by
  obtain ⟨_, _, _, _, h⟩ := s.answer_only q st d
  rw [h]
@[simp] theorem Dev.answer_reeds (s : Dev) (q : Requester) (st : Status) (d : List Byte) : (s.answer q st d).reeds = s.reeds := by
  obtain ⟨_, _, _, _, h⟩ := s.answer_only q st d
  rw [h]
@[simp] theorem Dev.answer_spis (s : Dev) (q : Requester) (st : Status) (d : List Byte) : (s.answer q st d).spis = s.spis := by
  obtain ⟨_, _, _, _, h⟩ := s.answer_only q st d
  rw [h]
@[simp] theorem Dev.answer_fines (s : Dev) (q : Requester) (st : Status) (d : List Byte) : (s.answer q st d).fines = s.fines := by
  obtain ⟨_, _, _, _, h⟩ := s.answer_only q st d
  rw [h]
@[simp] theorem Dev.answer_fusion (s : Dev) (q : Requester) (st : Status) (d : List Byte) : (s.answer q st d).fusion = s.fusion := by
  obtain ⟨_, _, _, _, h⟩ := s.answer_only q st d
  rw [h]

@[simp] theorem Dev.accept_blobs (s : Dev) (q : Requester) : (s.accept q).blobs = s.blobs := Dev.answer_blobs ..
@[simp] theorem Dev.accept_free (s : Dev) (q : Requester) : (s.accept q).free = s.free := Dev.answer_free ..
@[simp] theorem Dev.accept_f (s : Dev) (q : Requester) : (s.accept q).f = s.f := Dev.answer_f ..
@[simp] theorem Dev.accept_aon (s : Dev) (q : Requester) : (s.accept q).aon = s.aon := Dev.answer_aon ..
@[simp] theorem Dev.accept_aonPhase (s : Dev) (q : Requester) : (s.accept q).aonPhase = s.aonPhase := Dev.answer_aonPhase ..
@[simp] theorem Dev.accept_f0 (s : Dev) (q : Requester) : (s.accept q).f0 = s.f0 := Dev.answer_f0 ..
@[simp] theorem Dev.accept_a0 (s : Dev) (q : Requester) : (s.accept q).a0 = s.a0 := Dev.answer_a0 ..
@[simp] theorem Dev.accept_unbridged (s : Dev) (q : Requester) : (s.accept q).unbridged = s.unbridged := Dev.answer_unbridged ..
@[simp] theorem Dev.accept_entryWait (s : Dev) (q : Requester) : (s.accept q).entryWait = s.entryWait := Dev.answer_entryWait ..
@[simp] theorem Dev.accept_stopped (s : Dev) (q : Requester) : (s.accept q).stopped = s.stopped := Dev.answer_stopped ..
@[simp] theorem Dev.accept_holdoverF (s : Dev) (q : Requester) : (s.accept q).holdoverF = s.holdoverF := Dev.answer_holdoverF ..
@[simp] theorem Dev.accept_cmpFromF (s : Dev) (q : Requester) : (s.accept q).cmpFromF = s.cmpFromF := Dev.answer_cmpFromF ..
@[simp] theorem Dev.accept_lockRun (s : Dev) (q : Requester) : (s.accept q).lockRun = s.lockRun := Dev.answer_lockRun ..
@[simp] theorem Dev.accept_trigs (s : Dev) (q : Requester) : (s.accept q).trigs = s.trigs := Dev.answer_trigs ..
@[simp] theorem Dev.accept_caps (s : Dev) (q : Requester) : (s.accept q).caps = s.caps := Dev.answer_caps ..
@[simp] theorem Dev.accept_clocks (s : Dev) (q : Requester) : (s.accept q).clocks = s.clocks := Dev.answer_clocks ..
@[simp] theorem Dev.accept_reconvert (s : Dev) (q : Requester) : (s.accept q).reconvert = s.reconvert := Dev.answer_reconvert ..
@[simp] theorem Dev.accept_residence (s : Dev) (q : Requester) : (s.accept q).residence = s.residence := Dev.answer_residence ..
@[simp] theorem Dev.accept_ptpParent (s : Dev) (q : Requester) : (s.accept q).ptpParent = s.ptpParent := Dev.answer_ptpParent ..
@[simp] theorem Dev.accept_skewDraws (s : Dev) (q : Requester) : (s.accept q).skewDraws = s.skewDraws := Dev.answer_skewDraws ..
@[simp] theorem Dev.accept_meters (s : Dev) (q : Requester) : (s.accept q).meters = s.meters := Dev.answer_meters ..
@[simp] theorem Dev.accept_alive (s : Dev) (q : Requester) : (s.accept q).alive = s.alive := Dev.answer_alive ..
@[simp] theorem Dev.accept_frozen (s : Dev) (q : Requester) : (s.accept q).frozen = s.frozen := Dev.answer_frozen ..
@[simp] theorem Dev.accept_freezeF (s : Dev) (q : Requester) : (s.accept q).freezeF = s.freezeF := Dev.answer_freezeF ..
@[simp] theorem Dev.accept_freezes (s : Dev) (q : Requester) : (s.accept q).freezes = s.freezes := Dev.answer_freezes ..
@[simp] theorem Dev.accept_frozenNs (s : Dev) (q : Requester) : (s.accept q).frozenNs = s.frozenNs := Dev.answer_frozenNs ..
@[simp] theorem Dev.accept_held (s : Dev) (q : Requester) : (s.accept q).held = s.held := Dev.answer_held ..
@[simp] theorem Dev.accept_transfers (s : Dev) (q : Requester) : (s.accept q).transfers = s.transfers := Dev.answer_transfers ..
@[simp] theorem Dev.accept_abandoned (s : Dev) (q : Requester) : (s.accept q).abandoned = s.abandoned := Dev.answer_abandoned ..
@[simp] theorem Dev.accept_discarded (s : Dev) (q : Requester) : (s.accept q).discarded = s.discarded := Dev.answer_discarded ..
@[simp] theorem Dev.accept_stillAck (s : Dev) (q : Requester) : (s.accept q).stillAck = s.stillAck := Dev.answer_stillAck ..
@[simp] theorem Dev.accept_resumeF (s : Dev) (q : Requester) : (s.accept q).resumeF = s.resumeF := Dev.answer_resumeF ..
@[simp] theorem Dev.accept_bootWait (s : Dev) (q : Requester) : (s.accept q).bootWait = s.bootWait := Dev.answer_bootWait ..
@[simp] theorem Dev.accept_pufOk (s : Dev) (q : Requester) : (s.accept q).pufOk = s.pufOk := Dev.answer_pufOk ..
@[simp] theorem Dev.accept_tapAddr (s : Dev) (q : Requester) : (s.accept q).tapAddr = s.tapAddr := Dev.answer_tapAddr ..
@[simp] theorem Dev.accept_ferries (s : Dev) (q : Requester) : (s.accept q).ferries = s.ferries := Dev.answer_ferries ..
@[simp] theorem Dev.accept_starts (s : Dev) (q : Requester) : (s.accept q).starts = s.starts := Dev.answer_starts ..
@[simp] theorem Dev.accept_heldStarts (s : Dev) (q : Requester) : (s.accept q).heldStarts = s.heldStarts := Dev.answer_heldStarts ..
@[simp] theorem Dev.accept_edcRepeats (s : Dev) (q : Requester) : (s.accept q).edcRepeats = s.edcRepeats := Dev.answer_edcRepeats ..
@[simp] theorem Dev.accept_gddrUncorr (s : Dev) (q : Requester) : (s.accept q).gddrUncorr = s.gddrUncorr := Dev.answer_gddrUncorr ..
@[simp] theorem Dev.accept_coolMs (s : Dev) (q : Requester) : (s.accept q).coolMs = s.coolMs := Dev.answer_coolMs ..
@[simp] theorem Dev.accept_lastTick (s : Dev) (q : Requester) : (s.accept q).lastTick = s.lastTick := Dev.answer_lastTick ..
@[simp] theorem Dev.accept_confFullF (s : Dev) (q : Requester) : (s.accept q).confFullF = s.confFullF := Dev.answer_confFullF ..
@[simp] theorem Dev.accept_confFullNs (s : Dev) (q : Requester) : (s.accept q).confFullNs = s.confFullNs := Dev.answer_confFullNs ..
@[simp] theorem Dev.accept_moved (s : Dev) (q : Requester) : (s.accept q).moved = s.moved := Dev.answer_moved ..
@[simp] theorem Dev.accept_filled (s : Dev) (q : Requester) : (s.accept q).filled = s.filled := Dev.answer_filled ..
@[simp] theorem Dev.accept_failedFirst (s : Dev) (q : Requester) : (s.accept q).failedFirst = s.failedFirst := Dev.answer_failedFirst ..
@[simp] theorem Dev.accept_mirrorTurn (s : Dev) (q : Requester) : (s.accept q).mirrorTurn = s.mirrorTurn := Dev.answer_mirrorTurn ..
@[simp] theorem Dev.accept_plans (s : Dev) (q : Requester) : (s.accept q).plans = s.plans := Dev.answer_plans ..
@[simp] theorem Dev.accept_phaseReq (s : Dev) (q : Requester) : (s.accept q).phaseReq = s.phaseReq := Dev.answer_phaseReq ..
@[simp] theorem Dev.accept_planPhases (s : Dev) (q : Requester) : (s.accept q).planPhases = s.planPhases := Dev.answer_planPhases ..
@[simp] theorem Dev.accept_allocs (s : Dev) (q : Requester) : (s.accept q).allocs = s.allocs := Dev.answer_allocs ..
@[simp] theorem Dev.accept_pops (s : Dev) (q : Requester) : (s.accept q).pops = s.pops := Dev.answer_pops ..
@[simp] theorem Dev.accept_neurons (s : Dev) (q : Requester) : (s.accept q).neurons = s.neurons := Dev.answer_neurons ..
@[simp] theorem Dev.accept_accs (s : Dev) (q : Requester) : (s.accept q).accs = s.accs := Dev.answer_accs ..
@[simp] theorem Dev.accept_residues (s : Dev) (q : Requester) : (s.accept q).residues = s.residues := Dev.answer_residues ..
@[simp] theorem Dev.accept_neuronBad (s : Dev) (q : Requester) : (s.accept q).neuronBad = s.neuronBad := Dev.answer_neuronBad ..
@[simp] theorem Dev.accept_counts (s : Dev) (q : Requester) : (s.accept q).counts = s.counts := Dev.answer_counts ..
@[simp] theorem Dev.accept_layers (s : Dev) (q : Requester) : (s.accept q).layers = s.layers := Dev.answer_layers ..
@[simp] theorem Dev.accept_lfsr (s : Dev) (q : Requester) : (s.accept q).lfsr = s.lfsr := Dev.answer_lfsr ..
@[simp] theorem Dev.accept_phaseSeed (s : Dev) (q : Requester) : (s.accept q).phaseSeed = s.phaseSeed := Dev.answer_phaseSeed ..
@[simp] theorem Dev.accept_unitF (s : Dev) (q : Requester) : (s.accept q).unitF = s.unitF := Dev.answer_unitF ..
@[simp] theorem Dev.accept_sedLive (s : Dev) (q : Requester) : (s.accept q).sedLive = s.sedLive := Dev.answer_sedLive ..
@[simp] theorem Dev.accept_sedShadow (s : Dev) (q : Requester) : (s.accept q).sedShadow = s.sedShadow := Dev.answer_sedShadow ..
@[simp] theorem Dev.accept_powerOn (s : Dev) (q : Requester) : (s.accept q).powerOn = s.powerOn := Dev.answer_powerOn ..
@[simp] theorem Dev.accept_mram0 (s : Dev) (q : Requester) : (s.accept q).mram0 = s.mram0 := Dev.answer_mram0 ..
@[simp] theorem Dev.accept_mram1 (s : Dev) (q : Requester) : (s.accept q).mram1 = s.mram1 := Dev.answer_mram1 ..
@[simp] theorem Dev.accept_sedFuse (s : Dev) (q : Requester) : (s.accept q).sedFuse = s.sedFuse := Dev.answer_sedFuse ..
@[simp] theorem Dev.accept_commitReason (s : Dev) (q : Requester) : (s.accept q).commitReason = s.commitReason := Dev.answer_commitReason ..
@[simp] theorem Dev.accept_rateSeen (s : Dev) (q : Requester) : (s.accept q).rateSeen = s.rateSeen := Dev.answer_rateSeen ..
@[simp] theorem Dev.accept_sedTickAon (s : Dev) (q : Requester) : (s.accept q).sedTickAon = s.sedTickAon := Dev.answer_sedTickAon ..
@[simp] theorem Dev.accept_commitF (s : Dev) (q : Requester) : (s.accept q).commitF = s.commitF := Dev.answer_commitF ..
@[simp] theorem Dev.accept_commitBytes (s : Dev) (q : Requester) : (s.accept q).commitBytes = s.commitBytes := Dev.answer_commitBytes ..
@[simp] theorem Dev.accept_weirs (s : Dev) (q : Requester) : (s.accept q).weirs = s.weirs := Dev.answer_weirs ..
@[simp] theorem Dev.accept_waits (s : Dev) (q : Requester) : (s.accept q).waits = s.waits := Dev.answer_waits ..
@[simp] theorem Dev.accept_chans (s : Dev) (q : Requester) : (s.accept q).chans = s.chans := Dev.answer_chans ..
@[simp] theorem Dev.accept_tenantHoldF (s : Dev) (q : Requester) : (s.accept q).tenantHoldF = s.tenantHoldF := Dev.answer_tenantHoldF ..
@[simp] theorem Dev.accept_lldpNeighbour (s : Dev) (q : Requester) : (s.accept q).lldpNeighbour = s.lldpNeighbour := Dev.answer_lldpNeighbour ..
@[simp] theorem Dev.accept_detachF (s : Dev) (q : Requester) : (s.accept q).detachF = s.detachF := Dev.answer_detachF ..
@[simp] theorem Dev.accept_faultQ (s : Dev) (q : Requester) : (s.accept q).faultQ = s.faultQ := Dev.answer_faultQ ..
@[simp] theorem Dev.accept_planFaultMs (s : Dev) (q : Requester) : (s.accept q).planFaultMs = s.planFaultMs := Dev.answer_planFaultMs ..
@[simp] theorem Dev.accept_alertFault (s : Dev) (q : Requester) : (s.accept q).alertFault = s.alertFault := Dev.answer_alertFault ..
@[simp] theorem Dev.accept_unitMap (s : Dev) (q : Requester) : (s.accept q).unitMap = s.unitMap := Dev.answer_unitMap ..
@[simp] theorem Dev.accept_poisonMs (s : Dev) (q : Requester) : (s.accept q).poisonMs = s.poisonMs := Dev.answer_poisonMs ..
@[simp] theorem Dev.accept_pathRecalF (s : Dev) (q : Requester) : (s.accept q).pathRecalF = s.pathRecalF := Dev.answer_pathRecalF ..
@[simp] theorem Dev.accept_linkMs (s : Dev) (q : Requester) : (s.accept q).linkMs = s.linkMs := Dev.answer_linkMs ..
@[simp] theorem Dev.accept_linkRetrainF (s : Dev) (q : Requester) : (s.accept q).linkRetrainF = s.linkRetrainF := Dev.answer_linkRetrainF ..
@[simp] theorem Dev.accept_streams (s : Dev) (q : Requester) : (s.accept q).streams = s.streams := Dev.answer_streams ..
@[simp] theorem Dev.accept_spillWin (s : Dev) (q : Requester) : (s.accept q).spillWin = s.spillWin := Dev.answer_spillWin ..
@[simp] theorem Dev.accept_spillMoved (s : Dev) (q : Requester) : (s.accept q).spillMoved = s.spillMoved := Dev.answer_spillMoved ..
@[simp] theorem Dev.accept_mere (s : Dev) (q : Requester) : (s.accept q).mere = s.mere := Dev.answer_mere ..
@[simp] theorem Dev.accept_mereBad (s : Dev) (q : Requester) : (s.accept q).mereBad = s.mereBad := Dev.answer_mereBad ..
@[simp] theorem Dev.accept_parityRun (s : Dev) (q : Requester) : (s.accept q).parityRun = s.parityRun := Dev.answer_parityRun ..
@[simp] theorem Dev.accept_sweepPos (s : Dev) (q : Requester) : (s.accept q).sweepPos = s.sweepPos := Dev.answer_sweepPos ..
@[simp] theorem Dev.accept_transit (s : Dev) (q : Requester) : (s.accept q).transit = s.transit := Dev.answer_transit ..
@[simp] theorem Dev.accept_routeHold (s : Dev) (q : Requester) : (s.accept q).routeHold = s.routeHold := Dev.answer_routeHold ..
@[simp] theorem Dev.accept_eddyTurn (s : Dev) (q : Requester) : (s.accept q).eddyTurn = s.eddyTurn := Dev.answer_eddyTurn ..
@[simp] theorem Dev.accept_sluices (s : Dev) (q : Requester) : (s.accept q).sluices = s.sluices := Dev.answer_sluices ..
@[simp] theorem Dev.accept_regions (s : Dev) (q : Requester) : (s.accept q).regions = s.regions := Dev.answer_regions ..
@[simp] theorem Dev.accept_marches (s : Dev) (q : Requester) : (s.accept q).marches = s.marches := Dev.answer_marches ..
@[simp] theorem Dev.accept_padUncorr (s : Dev) (q : Requester) : (s.accept q).padUncorr = s.padUncorr := Dev.answer_padUncorr ..
@[simp] theorem Dev.accept_silted (s : Dev) (q : Requester) : (s.accept q).silted = s.silted := Dev.answer_silted ..
@[simp] theorem Dev.accept_spareBits (s : Dev) (q : Requester) : (s.accept q).spareBits = s.spareBits := Dev.answer_spareBits ..
@[simp] theorem Dev.accept_doms (s : Dev) (q : Requester) : (s.accept q).doms = s.doms := Dev.answer_doms ..
@[simp] theorem Dev.accept_wakeIns (s : Dev) (q : Requester) : (s.accept q).wakeIns = s.wakeIns := Dev.answer_wakeIns ..
@[simp] theorem Dev.accept_baseOff (s : Dev) (q : Requester) : (s.accept q).baseOff = s.baseOff := Dev.answer_baseOff ..
@[simp] theorem Dev.accept_thermtrip (s : Dev) (q : Requester) : (s.accept q).thermtrip = s.thermtrip := Dev.answer_thermtrip ..
@[simp] theorem Dev.accept_hotDies (s : Dev) (q : Requester) : (s.accept q).hotDies = s.hotDies := Dev.answer_hotDies ..
@[simp] theorem Dev.accept_tjLast (s : Dev) (q : Requester) : (s.accept q).tjLast = s.tjLast := Dev.answer_tjLast ..
@[simp] theorem Dev.accept_alertRecovery (s : Dev) (q : Requester) : (s.accept q).alertRecovery = s.alertRecovery := Dev.answer_alertRecovery ..
@[simp] theorem Dev.accept_rimFrames (s : Dev) (q : Requester) : (s.accept q).rimFrames = s.rimFrames := Dev.answer_rimFrames ..
@[simp] theorem Dev.accept_paces (s : Dev) (q : Requester) : (s.accept q).paces = s.paces := Dev.answer_paces ..
@[simp] theorem Dev.accept_rails (s : Dev) (q : Requester) : (s.accept q).rails = s.rails := Dev.answer_rails ..
@[simp] theorem Dev.accept_deviceKey (s : Dev) (q : Requester) : (s.accept q).deviceKey = s.deviceKey := Dev.answer_deviceKey ..
@[simp] theorem Dev.accept_dataKeys (s : Dev) (q : Requester) : (s.accept q).dataKeys = s.dataKeys := Dev.answer_dataKeys ..
@[simp] theorem Dev.accept_exchanges (s : Dev) (q : Requester) : (s.accept q).exchanges = s.exchanges := Dev.answer_exchanges ..
@[simp] theorem Dev.accept_trngPass (s : Dev) (q : Requester) : (s.accept q).trngPass = s.trngPass := Dev.answer_trngPass ..
@[simp] theorem Dev.accept_reeds (s : Dev) (q : Requester) : (s.accept q).reeds = s.reeds := Dev.answer_reeds ..
@[simp] theorem Dev.accept_spis (s : Dev) (q : Requester) : (s.accept q).spis = s.spis := Dev.answer_spis ..
@[simp] theorem Dev.accept_fines (s : Dev) (q : Requester) : (s.accept q).fines = s.fines := Dev.answer_fines ..
@[simp] theorem Dev.accept_fusion (s : Dev) (q : Requester) : (s.accept q).fusion = s.fusion := Dev.answer_fusion ..

@[simp] theorem Dev.refuse_blobs (s : Dev) (q : Requester) (st : Status) : (s.refuse q st).blobs = s.blobs := by
  obtain ⟨_, _, _, _, h⟩ := s.refuse_only q st
  rw [h]
@[simp] theorem Dev.refuse_free (s : Dev) (q : Requester) (st : Status) : (s.refuse q st).free = s.free := by
  obtain ⟨_, _, _, _, h⟩ := s.refuse_only q st
  rw [h]
@[simp] theorem Dev.refuse_f (s : Dev) (q : Requester) (st : Status) : (s.refuse q st).f = s.f := by
  obtain ⟨_, _, _, _, h⟩ := s.refuse_only q st
  rw [h]
@[simp] theorem Dev.refuse_aon (s : Dev) (q : Requester) (st : Status) : (s.refuse q st).aon = s.aon := by
  obtain ⟨_, _, _, _, h⟩ := s.refuse_only q st
  rw [h]
@[simp] theorem Dev.refuse_aonPhase (s : Dev) (q : Requester) (st : Status) : (s.refuse q st).aonPhase = s.aonPhase := by
  obtain ⟨_, _, _, _, h⟩ := s.refuse_only q st
  rw [h]
@[simp] theorem Dev.refuse_f0 (s : Dev) (q : Requester) (st : Status) : (s.refuse q st).f0 = s.f0 := by
  obtain ⟨_, _, _, _, h⟩ := s.refuse_only q st
  rw [h]
@[simp] theorem Dev.refuse_a0 (s : Dev) (q : Requester) (st : Status) : (s.refuse q st).a0 = s.a0 := by
  obtain ⟨_, _, _, _, h⟩ := s.refuse_only q st
  rw [h]
@[simp] theorem Dev.refuse_unbridged (s : Dev) (q : Requester) (st : Status) : (s.refuse q st).unbridged = s.unbridged := by
  obtain ⟨_, _, _, _, h⟩ := s.refuse_only q st
  rw [h]
@[simp] theorem Dev.refuse_entryWait (s : Dev) (q : Requester) (st : Status) : (s.refuse q st).entryWait = s.entryWait := by
  obtain ⟨_, _, _, _, h⟩ := s.refuse_only q st
  rw [h]
@[simp] theorem Dev.refuse_stopped (s : Dev) (q : Requester) (st : Status) : (s.refuse q st).stopped = s.stopped := by
  obtain ⟨_, _, _, _, h⟩ := s.refuse_only q st
  rw [h]
@[simp] theorem Dev.refuse_holdoverF (s : Dev) (q : Requester) (st : Status) : (s.refuse q st).holdoverF = s.holdoverF := by
  obtain ⟨_, _, _, _, h⟩ := s.refuse_only q st
  rw [h]
@[simp] theorem Dev.refuse_cmpFromF (s : Dev) (q : Requester) (st : Status) : (s.refuse q st).cmpFromF = s.cmpFromF := by
  obtain ⟨_, _, _, _, h⟩ := s.refuse_only q st
  rw [h]
@[simp] theorem Dev.refuse_lockRun (s : Dev) (q : Requester) (st : Status) : (s.refuse q st).lockRun = s.lockRun := by
  obtain ⟨_, _, _, _, h⟩ := s.refuse_only q st
  rw [h]
@[simp] theorem Dev.refuse_trigs (s : Dev) (q : Requester) (st : Status) : (s.refuse q st).trigs = s.trigs := by
  obtain ⟨_, _, _, _, h⟩ := s.refuse_only q st
  rw [h]
@[simp] theorem Dev.refuse_caps (s : Dev) (q : Requester) (st : Status) : (s.refuse q st).caps = s.caps := by
  obtain ⟨_, _, _, _, h⟩ := s.refuse_only q st
  rw [h]
@[simp] theorem Dev.refuse_clocks (s : Dev) (q : Requester) (st : Status) : (s.refuse q st).clocks = s.clocks := by
  obtain ⟨_, _, _, _, h⟩ := s.refuse_only q st
  rw [h]
@[simp] theorem Dev.refuse_reconvert (s : Dev) (q : Requester) (st : Status) : (s.refuse q st).reconvert = s.reconvert := by
  obtain ⟨_, _, _, _, h⟩ := s.refuse_only q st
  rw [h]
@[simp] theorem Dev.refuse_residence (s : Dev) (q : Requester) (st : Status) : (s.refuse q st).residence = s.residence := by
  obtain ⟨_, _, _, _, h⟩ := s.refuse_only q st
  rw [h]
@[simp] theorem Dev.refuse_ptpParent (s : Dev) (q : Requester) (st : Status) : (s.refuse q st).ptpParent = s.ptpParent := by
  obtain ⟨_, _, _, _, h⟩ := s.refuse_only q st
  rw [h]
@[simp] theorem Dev.refuse_skewDraws (s : Dev) (q : Requester) (st : Status) : (s.refuse q st).skewDraws = s.skewDraws := by
  obtain ⟨_, _, _, _, h⟩ := s.refuse_only q st
  rw [h]
@[simp] theorem Dev.refuse_meters (s : Dev) (q : Requester) (st : Status) : (s.refuse q st).meters = s.meters := by
  obtain ⟨_, _, _, _, h⟩ := s.refuse_only q st
  rw [h]
@[simp] theorem Dev.refuse_alive (s : Dev) (q : Requester) (st : Status) : (s.refuse q st).alive = s.alive := by
  obtain ⟨_, _, _, _, h⟩ := s.refuse_only q st
  rw [h]
@[simp] theorem Dev.refuse_frozen (s : Dev) (q : Requester) (st : Status) : (s.refuse q st).frozen = s.frozen := by
  obtain ⟨_, _, _, _, h⟩ := s.refuse_only q st
  rw [h]
@[simp] theorem Dev.refuse_freezeF (s : Dev) (q : Requester) (st : Status) : (s.refuse q st).freezeF = s.freezeF := by
  obtain ⟨_, _, _, _, h⟩ := s.refuse_only q st
  rw [h]
@[simp] theorem Dev.refuse_freezes (s : Dev) (q : Requester) (st : Status) : (s.refuse q st).freezes = s.freezes := by
  obtain ⟨_, _, _, _, h⟩ := s.refuse_only q st
  rw [h]
@[simp] theorem Dev.refuse_frozenNs (s : Dev) (q : Requester) (st : Status) : (s.refuse q st).frozenNs = s.frozenNs := by
  obtain ⟨_, _, _, _, h⟩ := s.refuse_only q st
  rw [h]
@[simp] theorem Dev.refuse_held (s : Dev) (q : Requester) (st : Status) : (s.refuse q st).held = s.held := by
  obtain ⟨_, _, _, _, h⟩ := s.refuse_only q st
  rw [h]
@[simp] theorem Dev.refuse_transfers (s : Dev) (q : Requester) (st : Status) : (s.refuse q st).transfers = s.transfers := by
  obtain ⟨_, _, _, _, h⟩ := s.refuse_only q st
  rw [h]
@[simp] theorem Dev.refuse_abandoned (s : Dev) (q : Requester) (st : Status) : (s.refuse q st).abandoned = s.abandoned := by
  obtain ⟨_, _, _, _, h⟩ := s.refuse_only q st
  rw [h]
@[simp] theorem Dev.refuse_discarded (s : Dev) (q : Requester) (st : Status) : (s.refuse q st).discarded = s.discarded := by
  obtain ⟨_, _, _, _, h⟩ := s.refuse_only q st
  rw [h]
@[simp] theorem Dev.refuse_stillAck (s : Dev) (q : Requester) (st : Status) : (s.refuse q st).stillAck = s.stillAck := by
  obtain ⟨_, _, _, _, h⟩ := s.refuse_only q st
  rw [h]
@[simp] theorem Dev.refuse_resumeF (s : Dev) (q : Requester) (st : Status) : (s.refuse q st).resumeF = s.resumeF := by
  obtain ⟨_, _, _, _, h⟩ := s.refuse_only q st
  rw [h]
@[simp] theorem Dev.refuse_bootWait (s : Dev) (q : Requester) (st : Status) : (s.refuse q st).bootWait = s.bootWait := by
  obtain ⟨_, _, _, _, h⟩ := s.refuse_only q st
  rw [h]
@[simp] theorem Dev.refuse_pufOk (s : Dev) (q : Requester) (st : Status) : (s.refuse q st).pufOk = s.pufOk := by
  obtain ⟨_, _, _, _, h⟩ := s.refuse_only q st
  rw [h]
@[simp] theorem Dev.refuse_tapAddr (s : Dev) (q : Requester) (st : Status) : (s.refuse q st).tapAddr = s.tapAddr := by
  obtain ⟨_, _, _, _, h⟩ := s.refuse_only q st
  rw [h]
@[simp] theorem Dev.refuse_ferries (s : Dev) (q : Requester) (st : Status) : (s.refuse q st).ferries = s.ferries := by
  obtain ⟨_, _, _, _, h⟩ := s.refuse_only q st
  rw [h]
@[simp] theorem Dev.refuse_starts (s : Dev) (q : Requester) (st : Status) : (s.refuse q st).starts = s.starts := by
  obtain ⟨_, _, _, _, h⟩ := s.refuse_only q st
  rw [h]
@[simp] theorem Dev.refuse_heldStarts (s : Dev) (q : Requester) (st : Status) : (s.refuse q st).heldStarts = s.heldStarts := by
  obtain ⟨_, _, _, _, h⟩ := s.refuse_only q st
  rw [h]
@[simp] theorem Dev.refuse_edcRepeats (s : Dev) (q : Requester) (st : Status) : (s.refuse q st).edcRepeats = s.edcRepeats := by
  obtain ⟨_, _, _, _, h⟩ := s.refuse_only q st
  rw [h]
@[simp] theorem Dev.refuse_gddrUncorr (s : Dev) (q : Requester) (st : Status) : (s.refuse q st).gddrUncorr = s.gddrUncorr := by
  obtain ⟨_, _, _, _, h⟩ := s.refuse_only q st
  rw [h]
@[simp] theorem Dev.refuse_coolMs (s : Dev) (q : Requester) (st : Status) : (s.refuse q st).coolMs = s.coolMs := by
  obtain ⟨_, _, _, _, h⟩ := s.refuse_only q st
  rw [h]
@[simp] theorem Dev.refuse_lastTick (s : Dev) (q : Requester) (st : Status) : (s.refuse q st).lastTick = s.lastTick := by
  obtain ⟨_, _, _, _, h⟩ := s.refuse_only q st
  rw [h]
@[simp] theorem Dev.refuse_confFullF (s : Dev) (q : Requester) (st : Status) : (s.refuse q st).confFullF = s.confFullF := by
  obtain ⟨_, _, _, _, h⟩ := s.refuse_only q st
  rw [h]
@[simp] theorem Dev.refuse_confFullNs (s : Dev) (q : Requester) (st : Status) : (s.refuse q st).confFullNs = s.confFullNs := by
  obtain ⟨_, _, _, _, h⟩ := s.refuse_only q st
  rw [h]
@[simp] theorem Dev.refuse_moved (s : Dev) (q : Requester) (st : Status) : (s.refuse q st).moved = s.moved := by
  obtain ⟨_, _, _, _, h⟩ := s.refuse_only q st
  rw [h]
@[simp] theorem Dev.refuse_filled (s : Dev) (q : Requester) (st : Status) : (s.refuse q st).filled = s.filled := by
  obtain ⟨_, _, _, _, h⟩ := s.refuse_only q st
  rw [h]
@[simp] theorem Dev.refuse_failedFirst (s : Dev) (q : Requester) (st : Status) : (s.refuse q st).failedFirst = s.failedFirst := by
  obtain ⟨_, _, _, _, h⟩ := s.refuse_only q st
  rw [h]
@[simp] theorem Dev.refuse_mirrorTurn (s : Dev) (q : Requester) (st : Status) : (s.refuse q st).mirrorTurn = s.mirrorTurn := by
  obtain ⟨_, _, _, _, h⟩ := s.refuse_only q st
  rw [h]
@[simp] theorem Dev.refuse_plans (s : Dev) (q : Requester) (st : Status) : (s.refuse q st).plans = s.plans := by
  obtain ⟨_, _, _, _, h⟩ := s.refuse_only q st
  rw [h]
@[simp] theorem Dev.refuse_phaseReq (s : Dev) (q : Requester) (st : Status) : (s.refuse q st).phaseReq = s.phaseReq := by
  obtain ⟨_, _, _, _, h⟩ := s.refuse_only q st
  rw [h]
@[simp] theorem Dev.refuse_planPhases (s : Dev) (q : Requester) (st : Status) : (s.refuse q st).planPhases = s.planPhases := by
  obtain ⟨_, _, _, _, h⟩ := s.refuse_only q st
  rw [h]
@[simp] theorem Dev.refuse_allocs (s : Dev) (q : Requester) (st : Status) : (s.refuse q st).allocs = s.allocs := by
  obtain ⟨_, _, _, _, h⟩ := s.refuse_only q st
  rw [h]
@[simp] theorem Dev.refuse_pops (s : Dev) (q : Requester) (st : Status) : (s.refuse q st).pops = s.pops := by
  obtain ⟨_, _, _, _, h⟩ := s.refuse_only q st
  rw [h]
@[simp] theorem Dev.refuse_neurons (s : Dev) (q : Requester) (st : Status) : (s.refuse q st).neurons = s.neurons := by
  obtain ⟨_, _, _, _, h⟩ := s.refuse_only q st
  rw [h]
@[simp] theorem Dev.refuse_accs (s : Dev) (q : Requester) (st : Status) : (s.refuse q st).accs = s.accs := by
  obtain ⟨_, _, _, _, h⟩ := s.refuse_only q st
  rw [h]
@[simp] theorem Dev.refuse_residues (s : Dev) (q : Requester) (st : Status) : (s.refuse q st).residues = s.residues := by
  obtain ⟨_, _, _, _, h⟩ := s.refuse_only q st
  rw [h]
@[simp] theorem Dev.refuse_neuronBad (s : Dev) (q : Requester) (st : Status) : (s.refuse q st).neuronBad = s.neuronBad := by
  obtain ⟨_, _, _, _, h⟩ := s.refuse_only q st
  rw [h]
@[simp] theorem Dev.refuse_counts (s : Dev) (q : Requester) (st : Status) : (s.refuse q st).counts = s.counts := by
  obtain ⟨_, _, _, _, h⟩ := s.refuse_only q st
  rw [h]
@[simp] theorem Dev.refuse_layers (s : Dev) (q : Requester) (st : Status) : (s.refuse q st).layers = s.layers := by
  obtain ⟨_, _, _, _, h⟩ := s.refuse_only q st
  rw [h]
@[simp] theorem Dev.refuse_lfsr (s : Dev) (q : Requester) (st : Status) : (s.refuse q st).lfsr = s.lfsr := by
  obtain ⟨_, _, _, _, h⟩ := s.refuse_only q st
  rw [h]
@[simp] theorem Dev.refuse_phaseSeed (s : Dev) (q : Requester) (st : Status) : (s.refuse q st).phaseSeed = s.phaseSeed := by
  obtain ⟨_, _, _, _, h⟩ := s.refuse_only q st
  rw [h]
@[simp] theorem Dev.refuse_unitF (s : Dev) (q : Requester) (st : Status) : (s.refuse q st).unitF = s.unitF := by
  obtain ⟨_, _, _, _, h⟩ := s.refuse_only q st
  rw [h]
@[simp] theorem Dev.refuse_sedLive (s : Dev) (q : Requester) (st : Status) : (s.refuse q st).sedLive = s.sedLive := by
  obtain ⟨_, _, _, _, h⟩ := s.refuse_only q st
  rw [h]
@[simp] theorem Dev.refuse_sedShadow (s : Dev) (q : Requester) (st : Status) : (s.refuse q st).sedShadow = s.sedShadow := by
  obtain ⟨_, _, _, _, h⟩ := s.refuse_only q st
  rw [h]
@[simp] theorem Dev.refuse_powerOn (s : Dev) (q : Requester) (st : Status) : (s.refuse q st).powerOn = s.powerOn := by
  obtain ⟨_, _, _, _, h⟩ := s.refuse_only q st
  rw [h]
@[simp] theorem Dev.refuse_mram0 (s : Dev) (q : Requester) (st : Status) : (s.refuse q st).mram0 = s.mram0 := by
  obtain ⟨_, _, _, _, h⟩ := s.refuse_only q st
  rw [h]
@[simp] theorem Dev.refuse_mram1 (s : Dev) (q : Requester) (st : Status) : (s.refuse q st).mram1 = s.mram1 := by
  obtain ⟨_, _, _, _, h⟩ := s.refuse_only q st
  rw [h]
@[simp] theorem Dev.refuse_sedFuse (s : Dev) (q : Requester) (st : Status) : (s.refuse q st).sedFuse = s.sedFuse := by
  obtain ⟨_, _, _, _, h⟩ := s.refuse_only q st
  rw [h]
@[simp] theorem Dev.refuse_commitReason (s : Dev) (q : Requester) (st : Status) : (s.refuse q st).commitReason = s.commitReason := by
  obtain ⟨_, _, _, _, h⟩ := s.refuse_only q st
  rw [h]
@[simp] theorem Dev.refuse_rateSeen (s : Dev) (q : Requester) (st : Status) : (s.refuse q st).rateSeen = s.rateSeen := by
  obtain ⟨_, _, _, _, h⟩ := s.refuse_only q st
  rw [h]
@[simp] theorem Dev.refuse_sedTickAon (s : Dev) (q : Requester) (st : Status) : (s.refuse q st).sedTickAon = s.sedTickAon := by
  obtain ⟨_, _, _, _, h⟩ := s.refuse_only q st
  rw [h]
@[simp] theorem Dev.refuse_commitF (s : Dev) (q : Requester) (st : Status) : (s.refuse q st).commitF = s.commitF := by
  obtain ⟨_, _, _, _, h⟩ := s.refuse_only q st
  rw [h]
@[simp] theorem Dev.refuse_commitBytes (s : Dev) (q : Requester) (st : Status) : (s.refuse q st).commitBytes = s.commitBytes := by
  obtain ⟨_, _, _, _, h⟩ := s.refuse_only q st
  rw [h]
@[simp] theorem Dev.refuse_weirs (s : Dev) (q : Requester) (st : Status) : (s.refuse q st).weirs = s.weirs := by
  obtain ⟨_, _, _, _, h⟩ := s.refuse_only q st
  rw [h]
@[simp] theorem Dev.refuse_waits (s : Dev) (q : Requester) (st : Status) : (s.refuse q st).waits = s.waits := by
  obtain ⟨_, _, _, _, h⟩ := s.refuse_only q st
  rw [h]
@[simp] theorem Dev.refuse_chans (s : Dev) (q : Requester) (st : Status) : (s.refuse q st).chans = s.chans := by
  obtain ⟨_, _, _, _, h⟩ := s.refuse_only q st
  rw [h]
@[simp] theorem Dev.refuse_tenantHoldF (s : Dev) (q : Requester) (st : Status) : (s.refuse q st).tenantHoldF = s.tenantHoldF := by
  obtain ⟨_, _, _, _, h⟩ := s.refuse_only q st
  rw [h]
@[simp] theorem Dev.refuse_lldpNeighbour (s : Dev) (q : Requester) (st : Status) : (s.refuse q st).lldpNeighbour = s.lldpNeighbour := by
  obtain ⟨_, _, _, _, h⟩ := s.refuse_only q st
  rw [h]
@[simp] theorem Dev.refuse_detachF (s : Dev) (q : Requester) (st : Status) : (s.refuse q st).detachF = s.detachF := by
  obtain ⟨_, _, _, _, h⟩ := s.refuse_only q st
  rw [h]
@[simp] theorem Dev.refuse_faultQ (s : Dev) (q : Requester) (st : Status) : (s.refuse q st).faultQ = s.faultQ := by
  obtain ⟨_, _, _, _, h⟩ := s.refuse_only q st
  rw [h]
@[simp] theorem Dev.refuse_planFaultMs (s : Dev) (q : Requester) (st : Status) : (s.refuse q st).planFaultMs = s.planFaultMs := by
  obtain ⟨_, _, _, _, h⟩ := s.refuse_only q st
  rw [h]
@[simp] theorem Dev.refuse_alertFault (s : Dev) (q : Requester) (st : Status) : (s.refuse q st).alertFault = s.alertFault := by
  obtain ⟨_, _, _, _, h⟩ := s.refuse_only q st
  rw [h]
@[simp] theorem Dev.refuse_unitMap (s : Dev) (q : Requester) (st : Status) : (s.refuse q st).unitMap = s.unitMap := by
  obtain ⟨_, _, _, _, h⟩ := s.refuse_only q st
  rw [h]
@[simp] theorem Dev.refuse_poisonMs (s : Dev) (q : Requester) (st : Status) : (s.refuse q st).poisonMs = s.poisonMs := by
  obtain ⟨_, _, _, _, h⟩ := s.refuse_only q st
  rw [h]
@[simp] theorem Dev.refuse_pathRecalF (s : Dev) (q : Requester) (st : Status) : (s.refuse q st).pathRecalF = s.pathRecalF := by
  obtain ⟨_, _, _, _, h⟩ := s.refuse_only q st
  rw [h]
@[simp] theorem Dev.refuse_linkMs (s : Dev) (q : Requester) (st : Status) : (s.refuse q st).linkMs = s.linkMs := by
  obtain ⟨_, _, _, _, h⟩ := s.refuse_only q st
  rw [h]
@[simp] theorem Dev.refuse_linkRetrainF (s : Dev) (q : Requester) (st : Status) : (s.refuse q st).linkRetrainF = s.linkRetrainF := by
  obtain ⟨_, _, _, _, h⟩ := s.refuse_only q st
  rw [h]
@[simp] theorem Dev.refuse_streams (s : Dev) (q : Requester) (st : Status) : (s.refuse q st).streams = s.streams := by
  obtain ⟨_, _, _, _, h⟩ := s.refuse_only q st
  rw [h]
@[simp] theorem Dev.refuse_spillWin (s : Dev) (q : Requester) (st : Status) : (s.refuse q st).spillWin = s.spillWin := by
  obtain ⟨_, _, _, _, h⟩ := s.refuse_only q st
  rw [h]
@[simp] theorem Dev.refuse_spillMoved (s : Dev) (q : Requester) (st : Status) : (s.refuse q st).spillMoved = s.spillMoved := by
  obtain ⟨_, _, _, _, h⟩ := s.refuse_only q st
  rw [h]
@[simp] theorem Dev.refuse_mere (s : Dev) (q : Requester) (st : Status) : (s.refuse q st).mere = s.mere := by
  obtain ⟨_, _, _, _, h⟩ := s.refuse_only q st
  rw [h]
@[simp] theorem Dev.refuse_mereBad (s : Dev) (q : Requester) (st : Status) : (s.refuse q st).mereBad = s.mereBad := by
  obtain ⟨_, _, _, _, h⟩ := s.refuse_only q st
  rw [h]
@[simp] theorem Dev.refuse_parityRun (s : Dev) (q : Requester) (st : Status) : (s.refuse q st).parityRun = s.parityRun := by
  obtain ⟨_, _, _, _, h⟩ := s.refuse_only q st
  rw [h]
@[simp] theorem Dev.refuse_sweepPos (s : Dev) (q : Requester) (st : Status) : (s.refuse q st).sweepPos = s.sweepPos := by
  obtain ⟨_, _, _, _, h⟩ := s.refuse_only q st
  rw [h]
@[simp] theorem Dev.refuse_transit (s : Dev) (q : Requester) (st : Status) : (s.refuse q st).transit = s.transit := by
  obtain ⟨_, _, _, _, h⟩ := s.refuse_only q st
  rw [h]
@[simp] theorem Dev.refuse_routeHold (s : Dev) (q : Requester) (st : Status) : (s.refuse q st).routeHold = s.routeHold := by
  obtain ⟨_, _, _, _, h⟩ := s.refuse_only q st
  rw [h]
@[simp] theorem Dev.refuse_eddyTurn (s : Dev) (q : Requester) (st : Status) : (s.refuse q st).eddyTurn = s.eddyTurn := by
  obtain ⟨_, _, _, _, h⟩ := s.refuse_only q st
  rw [h]
@[simp] theorem Dev.refuse_sluices (s : Dev) (q : Requester) (st : Status) : (s.refuse q st).sluices = s.sluices := by
  obtain ⟨_, _, _, _, h⟩ := s.refuse_only q st
  rw [h]
@[simp] theorem Dev.refuse_regions (s : Dev) (q : Requester) (st : Status) : (s.refuse q st).regions = s.regions := by
  obtain ⟨_, _, _, _, h⟩ := s.refuse_only q st
  rw [h]
@[simp] theorem Dev.refuse_marches (s : Dev) (q : Requester) (st : Status) : (s.refuse q st).marches = s.marches := by
  obtain ⟨_, _, _, _, h⟩ := s.refuse_only q st
  rw [h]
@[simp] theorem Dev.refuse_padUncorr (s : Dev) (q : Requester) (st : Status) : (s.refuse q st).padUncorr = s.padUncorr := by
  obtain ⟨_, _, _, _, h⟩ := s.refuse_only q st
  rw [h]
@[simp] theorem Dev.refuse_silted (s : Dev) (q : Requester) (st : Status) : (s.refuse q st).silted = s.silted := by
  obtain ⟨_, _, _, _, h⟩ := s.refuse_only q st
  rw [h]
@[simp] theorem Dev.refuse_spareBits (s : Dev) (q : Requester) (st : Status) : (s.refuse q st).spareBits = s.spareBits := by
  obtain ⟨_, _, _, _, h⟩ := s.refuse_only q st
  rw [h]
@[simp] theorem Dev.refuse_doms (s : Dev) (q : Requester) (st : Status) : (s.refuse q st).doms = s.doms := by
  obtain ⟨_, _, _, _, h⟩ := s.refuse_only q st
  rw [h]
@[simp] theorem Dev.refuse_wakeIns (s : Dev) (q : Requester) (st : Status) : (s.refuse q st).wakeIns = s.wakeIns := by
  obtain ⟨_, _, _, _, h⟩ := s.refuse_only q st
  rw [h]
@[simp] theorem Dev.refuse_baseOff (s : Dev) (q : Requester) (st : Status) : (s.refuse q st).baseOff = s.baseOff := by
  obtain ⟨_, _, _, _, h⟩ := s.refuse_only q st
  rw [h]
@[simp] theorem Dev.refuse_thermtrip (s : Dev) (q : Requester) (st : Status) : (s.refuse q st).thermtrip = s.thermtrip := by
  obtain ⟨_, _, _, _, h⟩ := s.refuse_only q st
  rw [h]
@[simp] theorem Dev.refuse_hotDies (s : Dev) (q : Requester) (st : Status) : (s.refuse q st).hotDies = s.hotDies := by
  obtain ⟨_, _, _, _, h⟩ := s.refuse_only q st
  rw [h]
@[simp] theorem Dev.refuse_tjLast (s : Dev) (q : Requester) (st : Status) : (s.refuse q st).tjLast = s.tjLast := by
  obtain ⟨_, _, _, _, h⟩ := s.refuse_only q st
  rw [h]
@[simp] theorem Dev.refuse_alertRecovery (s : Dev) (q : Requester) (st : Status) : (s.refuse q st).alertRecovery = s.alertRecovery := by
  obtain ⟨_, _, _, _, h⟩ := s.refuse_only q st
  rw [h]
@[simp] theorem Dev.refuse_rimFrames (s : Dev) (q : Requester) (st : Status) : (s.refuse q st).rimFrames = s.rimFrames := by
  obtain ⟨_, _, _, _, h⟩ := s.refuse_only q st
  rw [h]
@[simp] theorem Dev.refuse_paces (s : Dev) (q : Requester) (st : Status) : (s.refuse q st).paces = s.paces := by
  obtain ⟨_, _, _, _, h⟩ := s.refuse_only q st
  rw [h]
@[simp] theorem Dev.refuse_rails (s : Dev) (q : Requester) (st : Status) : (s.refuse q st).rails = s.rails := by
  obtain ⟨_, _, _, _, h⟩ := s.refuse_only q st
  rw [h]
@[simp] theorem Dev.refuse_deviceKey (s : Dev) (q : Requester) (st : Status) : (s.refuse q st).deviceKey = s.deviceKey := by
  obtain ⟨_, _, _, _, h⟩ := s.refuse_only q st
  rw [h]
@[simp] theorem Dev.refuse_dataKeys (s : Dev) (q : Requester) (st : Status) : (s.refuse q st).dataKeys = s.dataKeys := by
  obtain ⟨_, _, _, _, h⟩ := s.refuse_only q st
  rw [h]
@[simp] theorem Dev.refuse_exchanges (s : Dev) (q : Requester) (st : Status) : (s.refuse q st).exchanges = s.exchanges := by
  obtain ⟨_, _, _, _, h⟩ := s.refuse_only q st
  rw [h]
@[simp] theorem Dev.refuse_trngPass (s : Dev) (q : Requester) (st : Status) : (s.refuse q st).trngPass = s.trngPass := by
  obtain ⟨_, _, _, _, h⟩ := s.refuse_only q st
  rw [h]
@[simp] theorem Dev.refuse_reeds (s : Dev) (q : Requester) (st : Status) : (s.refuse q st).reeds = s.reeds := by
  obtain ⟨_, _, _, _, h⟩ := s.refuse_only q st
  rw [h]
@[simp] theorem Dev.refuse_spis (s : Dev) (q : Requester) (st : Status) : (s.refuse q st).spis = s.spis := by
  obtain ⟨_, _, _, _, h⟩ := s.refuse_only q st
  rw [h]
@[simp] theorem Dev.refuse_fines (s : Dev) (q : Requester) (st : Status) : (s.refuse q st).fines = s.fines := by
  obtain ⟨_, _, _, _, h⟩ := s.refuse_only q st
  rw [h]
@[simp] theorem Dev.refuse_fusion (s : Dev) (q : Requester) (st : Status) : (s.refuse q st).fusion = s.fusion := by
  obtain ⟨_, _, _, _, h⟩ := s.refuse_only q st
  rw [h]

end Sys2Proof.Machine
end

