-- ==== Sys2Proof/Laws/Access.lean ====
section
/-! SUPPORT. What an answer does (R468, R488): the response leaves, one transport counter counts, and no other register or byte string changes. -/

namespace Sys2Proof.Machine

open Sys2Proof

@[simp] theorem Reg.at_key (i k b : Nat) : (Reg.at i k b).key = i * 256 + k := rfl

@[simp] theorem Reg.at_bits (i k b : Nat) : (Reg.at i k b).bits = b := rfl

theorem Dev.rd_mailboxDone (s : Dev) (p m c : Nat) (d : List Byte) (r : Reg) : (s.mailboxDone p m c d).rd r = s.rd r := by
  simp only [Dev.mailboxDone]
  split <;> rfl

/-- What a register of another object reads after an answer. -/
theorem Dev.rd_answer (s : Dev) (q : Requester) (st : Status) (d : List Byte) {r : Reg} (h : r.key / 256 ≠ 0x1110) : (s.answer q st d).rd r = s.rd r := by
  have hk : ∀ k, k ≤ 1 → r.key ≠ (Obj.transportCounter k).key := by
    intro k hk e
    apply h
    rw [e]
    simp only [Obj.transportCounter, Reg.at_key]
    omega
  have key : ∀ k, k ≤ 1 → (((s.emit (.response q st.code d)).bump (Obj.transportCounter k)).delivered q st.code d).rd r = s.rd r := by
    intro k hk'
    cases q with
    | mailbox p m => rw [Dev.delivered, Dev.rd_mailboxDone, Dev.rd_bump_other _ (hk k hk'), Dev.rd_emit]
    | omtos _ => exact Dev.rd_bump_other _ (hk k hk')
    | source _ _ => exact Dev.rd_bump_other _ (hk k hk')
    | can _ => exact Dev.rd_bump_other _ (hk k hk')
  unfold Dev.answer
  split
  · exact key 0 (by omega)
  · exact key 1 (by omega)

theorem Dev.rd_accept (s : Dev) (q : Requester) {r : Reg} (h : r.key / 256 ≠ 0x1110) : (s.accept q).rd r = s.rd r := Dev.rd_answer s q _ _ h

theorem Dev.rd_refuse (s : Dev) (q : Requester) (st : Status) {r : Reg} (h : r.key / 256 ≠ 0x1110) : (s.refuse q st).rd r = s.rd r := by
  unfold Dev.refuse Dev.replyStatus
  rw [Dev.rd_answer _ q st (st.shown q) h]
  split
  · refine Dev.rd_bump_other s ?_
    intro e
    apply h
    rw [e]
    simp [Obj.transportCounter]
  · rfl

/-- The response to a request is among what the device sent. -/
theorem Dev.response_answer (s : Dev) (q : Requester) (st : Status) (d : List Byte) : .response q st.code d ∈ (s.answer q st d).out := by
  have key : ∀ r : Reg, .response q st.code d ∈ (((s.emit (.response q st.code d)).bump r).delivered q st.code d).out := by
    intro r
    cases q with
    | mailbox p m =>
      simp only [Dev.delivered, Dev.mailboxDone]
      split <;> simp [Dev.bump, Dev.bumpBy, Dev.wr, Dev.emit]
    | omtos _ => simp [Dev.delivered]
    | source _ _ => simp [Dev.delivered]
    | can _ => simp [Dev.delivered]
  exact key _

theorem Dev.response_accept (s : Dev) (q : Requester) : .response q 0 [] ∈ (s.accept q).out := Dev.response_answer s q .ok []

theorem Dev.response_refuse (s : Dev) (q : Requester) (st : Status) : .response q st.code (st.shown q) ∈ (s.refuse q st).out := by
  unfold Dev.refuse Dev.replyStatus
  split
  · exact Dev.response_answer ..
  · exact Dev.response_answer ..

@[simp] theorem Dev.rd_updSession (s : Dev) (n : Nat) (g : Session → Session) (r : Reg) : (s.updSession n g).rd r = s.rd r := rfl

@[simp] theorem Dev.rd_fresh (s : Dev) (r : Reg) : s.fresh.rd r = s.rd r := rfl

@[simp] theorem Dev.blob_fresh (s : Dev) (r : Reg) : s.fresh.blob r = s.blob r := rfl

@[simp] theorem Dev.domOn_fresh (s : Dev) (n : Nat) : s.fresh.domOn n = s.domOn n := rfl

end Sys2Proof.Machine
end

