-- ==== Sys2Proof/Laws/Act.lean ====
section
/-! SUPPORT. When a command acts: the forms that the meanings share (State.act, State.run, State.request, State.asked) each answer a next state,
and this says which. -/

namespace Sys2Proof.Machine

open Sys2Proof

/-- The same state, its outputs empty: what a command starts from. -/
abbrev State.start (s : State) : State := { s with dev := s.dev.fresh }

theorem State.act_next {s : State} (f : Dev → Dev) (h : s.dev.alive = true) : s.act f = .next { s with dev := f s.dev.fresh } := by
  simp [State.act, h]

theorem State.run_next {s : State} (f : Dev → Dev) (h : s.dev.working = true) : s.run f = .next { s with dev := f s.dev.fresh } := by
  simp [State.run, h]

theorem State.runM_next {s : State} (f : State → State) (h : s.dev.working = true) : s.runM f = .next (f s.start) := by
  simp [State.runM, h]

theorem State.runIn_next {s : State} {n : Nat} (f : Dev → Dev) (h : s.dev.working = true) (hn : s.dev.domOn n = true) :
    s.runIn n f = .next { s with dev := f s.dev.fresh } := by
  unfold State.runIn
  rw [State.run_next _ h]
  simp [hn]

theorem State.runInM_next {s : State} {n : Nat} (f : State → State) (h : s.dev.working = true) (hn : s.dev.domOn n = true) :
    s.runInM n f = .next (f s.start) := by
  unfold State.runInM
  rw [State.runM_next _ h]
  simp [State.start, hn]

theorem State.framed_next {s : State} (i : Instr) (f : State → State) (h : s.dev.working = true) : s.framed i f = .next (f s.start) := by
  simp [State.framed, h]

theorem State.unheld_next {s : State} (f : State → State) (h : s.dev.working = true) : s.unheld f = .next (f s.start) := by
  simp [State.unheld, h]

/-- A request meets an open device (R490, R494): it takes effect. -/
theorem State.meet_open {s : State} (r : Request) (f : State → State) (hb : s.dev.bootWait = false) (hr : s.dev.bit Obj.securityState 2 = false) :
    s.meet r f = f s := by
  simp [State.meet, hb, hr]

theorem Dev.bit_fresh (s : Dev) (r : Reg) (i : Nat) : s.fresh.bit r i = s.bit r i := rfl

theorem State.request_next {s : State} (r : Request) (f : State → State) (h : s.dev.working = true) (hb : s.dev.bootWait = false)
    (hr : s.dev.bit Obj.securityState 2 = false) : s.request r f = .next (f s.start) := by
  unfold State.request
  rw [if_pos h, State.meet_open r f (by simpa using hb) (by simpa [Dev.bit_fresh] using hr)]

/-- A request whose domains are on takes effect at once (R534). -/
theorem State.reachAll_on {s : State} (r : Request) (f : State → State) : ∀ ns : List Nat, (∀ n ∈ ns, s.dev.domOn n = true) → s.reachAll r ns f = f s := by
  intro ns
  induction ns with
  | nil => intro _; rfl
  | cons n ns ih =>
    intro h
    have hn : s.dev.domState n = 0 := by
      have := h n (List.mem_cons_self ..)
      simpa [Dev.domOn, Dev.domState] using this
    have := ih (fun m hm => h m (List.mem_cons_of_mem _ hm))
    simp [State.reachAll, State.reach, hn, this]

theorem Dev.judge_fresh (s : Dev) (q : Requester) (r : Reg) (v : Nat) : s.fresh.judge q r v = s.judge q r v := rfl

theorem Dev.judgeWrite_fresh (s : Dev) (q : Requester) (op i k : Nat) (d : List Byte) : s.fresh.judgeWrite q op i k d = s.judgeWrite q op i k d := rfl

theorem Dev.judgeRead_fresh (s : Dev) (q : Requester) (op i k : Nat) : s.fresh.judgeRead q op i k = s.judgeRead q op i k := rfl

theorem Dev.needs_fresh (s : Dev) (r : Request) : s.fresh.needs r = s.needs r := rfl

/-- A write that passes the checks of R469, its domains on, has its effect. -/
theorem State.askedM_next {s : State} (q : Requester) (r : Reg) (v : Nat) (k : State → State) (h : s.dev.working = true) (hb : s.dev.bootWait = false)
    (hr : s.dev.bit Obj.securityState 2 = false) (hj : s.dev.judge q r v = .ok) (hn : ∀ n ∈ s.dev.needs (writeReq q r v), s.dev.domOn n = true) :
    s.askedM q r v k = .next (k s.start) := by
  unfold State.askedM
  dsimp only
  rw [State.request_next _ _ h hb hr]
  dsimp only [State.start]
  rw [Dev.judge_fresh, if_pos hj, State.reachAll_on]
  exact hn

theorem State.asked_next {s : State} (q : Requester) (r : Reg) (v : Nat) (k : Dev → Dev) (h : s.dev.working = true) (hb : s.dev.bootWait = false)
    (hr : s.dev.bit Obj.securityState 2 = false) (hj : s.dev.judge q r v = .ok) (hn : ∀ n ∈ s.dev.needs (writeReq q r v), s.dev.domOn n = true) :
    s.asked q r v k = .next { s with dev := k s.dev.fresh } := by
  unfold State.asked
  rw [State.askedM_next q r v _ h hb hr hj hn]

end Sys2Proof.Machine
end

