-- ==== Sys2Proof/Laws/Read.lean ====
section
/-! SUPPORT. What fields and bits of a register read after another register, or another field of the same one, has been written. -/

namespace Sys2Proof.Machine

open Sys2Proof

theorem Dev.bit_setBit_other (s : Dev) (r : Reg) {i j : Nat} (b : Bool) (h : i ≠ j) (hb : i < r.bits) : (s.setBit r j b).bit r i = s.bit r i :=
  s.bit_setF_other r _ (by omega) hb

theorem Dev.bit_wr_other (s : Dev) {r r' : Reg} (v i : Nat) (h : r'.key ≠ r.key) : (s.wr r v).bit r' i = s.bit r' i := by
  simp [Dev.bit, Dev.rd_wr_other s v h]

theorem Dev.getF_wr_other (s : Dev) {r r' : Reg} (v lo w : Nat) (h : r'.key ≠ r.key) : (s.wr r v).getF r' lo w = s.getF r' lo w := by
  simp [Dev.getF, Dev.rd_wr_other s v h]

theorem Dev.bit_setF_key (s : Dev) {r r' : Reg} (lo w v i : Nat) (h : r'.key ≠ r.key) : (s.setF r lo w v).bit r' i = s.bit r' i :=
  s.bit_wr_other _ _ h

theorem Dev.getF_setF_key (s : Dev) {r r' : Reg} (lo w v lo' w' : Nat) (h : r'.key ≠ r.key) : (s.setF r lo w v).getF r' lo' w' = s.getF r' lo' w' :=
  s.getF_wr_other _ _ _ h

theorem Dev.bit_setBit_key (s : Dev) {r r' : Reg} (j i : Nat) (b : Bool) (h : r'.key ≠ r.key) : (s.setBit r j b).bit r' i = s.bit r' i :=
  s.bit_setF_key _ _ _ _ h

theorem Dev.getF_setBit_key (s : Dev) {r r' : Reg} (j : Nat) (b : Bool) (lo w : Nat) (h : r'.key ≠ r.key) : (s.setBit r j b).getF r' lo w = s.getF r' lo w :=
  s.getF_setF_key _ _ _ _ _ h

theorem Dev.bit_bumpBy_key (s : Dev) {r r' : Reg} (n i : Nat) (h : r'.key ≠ r.key) : (s.bumpBy r n).bit r' i = s.bit r' i := s.bit_wr_other _ _ h

theorem Dev.getF_bumpBy_key (s : Dev) {r r' : Reg} (n lo w : Nat) (h : r'.key ≠ r.key) : (s.bumpBy r n).getF r' lo w = s.getF r' lo w :=
  s.getF_wr_other _ _ _ h

theorem Dev.bit_bump_key (s : Dev) {r r' : Reg} (i : Nat) (h : r'.key ≠ r.key) : (s.bump r).bit r' i = s.bit r' i := s.bit_wr_other _ _ h

theorem Dev.getF_bump_key (s : Dev) {r r' : Reg} (lo w : Nat) (h : r'.key ≠ r.key) : (s.bump r).getF r' lo w = s.getF r' lo w := s.getF_wr_other _ _ _ h

theorem Dev.rdI_wr_other (s : Dev) {r r' : Reg} (v : Nat) (h : r'.key ≠ r.key) : (s.wr r v).rdI r' = s.rdI r' := by
  simp [Dev.rdI, Dev.rd_wr_other s v h]

theorem Dev.rd_wrI_other (s : Dev) {r r' : Reg} (v : Int) (h : r'.key ≠ r.key) : (s.wrI r v).rd r' = s.rd r' := s.rd_wr_other _ h

theorem Dev.bit_answer (s : Dev) (q : Requester) (st : Status) (d : List Byte) {r : Reg} (i : Nat) (h : r.key / 256 ≠ 0x1110) :
    (s.answer q st d).bit r i = s.bit r i := by simp [Dev.bit, Dev.rd_answer s q st d h]

theorem Dev.getF_answer (s : Dev) (q : Requester) (st : Status) (d : List Byte) {r : Reg} (lo w : Nat) (h : r.key / 256 ≠ 0x1110) :
    (s.answer q st d).getF r lo w = s.getF r lo w := by simp [Dev.getF, Dev.rd_answer s q st d h]

theorem Dev.rdI_answer (s : Dev) (q : Requester) (st : Status) (d : List Byte) {r : Reg} (h : r.key / 256 ≠ 0x1110) :
    (s.answer q st d).rdI r = s.rdI r := by simp [Dev.rdI, Dev.rd_answer s q st d h]

/-- A register that holds a number within its width reads back what was written to it. -/
theorem Dev.rd_wr_fits (s : Dev) (r : Reg) {v : Nat} (h : v < 2 ^ r.bits) : (s.wr r v).rd r = v := by
  rw [Dev.rd_wr_same, Nat.mod_eq_of_lt h]

end Sys2Proof.Machine
end

