-- ==== Sys2Proof/Laws/Dict.lean ====
section
/-! SUPPORT. Registers read through the dictionary alone. A register's value, a field and a bit depend on the device's dictionary and on nothing
else of it, so a chain of updates is read by turning each register into a read of the dictionary (`simp only [Dev.rd_dict, …]`), which no update of another
part of the device touches. -/

namespace Sys2Proof.Machine

open Sys2Proof

/-- The value of a register in a dictionary. -/
def dictRd (d : Tab Nat) (r : Reg) : Nat := Tab.get (objDefault r.key) d r.key

/-- A dictionary with a register written. -/
def dictWr (d : Tab Nat) (r : Reg) (v : Nat) : Tab Nat := Tab.put (objDefault r.key) d r.key (v % 2 ^ r.bits)

/-- A field of a register in a dictionary. -/
def dictF (d : Tab Nat) (r : Reg) (lo w : Nat) : Nat := field (dictRd d r) lo w

/-- A bit of a register in a dictionary. -/
def dictBit (d : Tab Nat) (r : Reg) (i : Nat) : Bool := bitAt (dictRd d r) i

/-- A dictionary with a field of a register written. -/
def dictSetF (d : Tab Nat) (r : Reg) (lo w v : Nat) : Tab Nat := dictWr d r (setField (dictRd d r) lo w v)

/-- A dictionary with a number added to a register. -/
def dictBump (d : Tab Nat) (r : Reg) (n : Nat) : Tab Nat := dictWr d r (wrapAdd r.bits (dictRd d r) n)

/-! ### From the device to its dictionary -/

theorem Dev.rd_dict (s : Dev) (r : Reg) : s.rd r = dictRd s.dict r := rfl

theorem Dev.getF_dict (s : Dev) (r : Reg) (lo w : Nat) : s.getF r lo w = dictF s.dict r lo w := rfl

theorem Dev.bit_dict (s : Dev) (r : Reg) (i : Nat) : s.bit r i = dictBit s.dict r i := rfl

theorem Dev.rdI_dict (s : Dev) (r : Reg) : s.rdI r = signed r.bits (dictRd s.dict r) := rfl

@[simp] theorem Dev.dict_wr (s : Dev) (r : Reg) (v : Nat) : (s.wr r v).dict = dictWr s.dict r v := rfl

@[simp] theorem Dev.dict_wrI (s : Dev) (r : Reg) (v : Int) : (s.wrI r v).dict = dictWr s.dict r (unsigned r.bits v) := rfl

@[simp] theorem Dev.dict_wrT (s : Dev) (r : Reg) (v : Int) : (s.wrT r v).dict = dictWr s.dict r (t80 v) := rfl

@[simp] theorem Dev.dict_setF (s : Dev) (r : Reg) (lo w v : Nat) : (s.setF r lo w v).dict = dictSetF s.dict r lo w v := rfl

@[simp] theorem Dev.dict_setBit (s : Dev) (r : Reg) (i : Nat) (b : Bool) : (s.setBit r i b).dict = dictSetF s.dict r i 1 (b2n b) := rfl

@[simp] theorem Dev.dict_bumpBy (s : Dev) (r : Reg) (n : Nat) : (s.bumpBy r n).dict = dictBump s.dict r n := rfl

@[simp] theorem Dev.dict_bump (s : Dev) (r : Reg) : (s.bump r).dict = dictBump s.dict r 1 := rfl

@[simp] theorem Dev.dict_fresh (s : Dev) : s.fresh.dict = s.dict := rfl

@[simp] theorem Dev.dict_emit (s : Dev) (o : Out) : (s.emit o).dict = s.dict := rfl

@[simp] theorem Dev.dict_drawn (s : Dev) : s.drawn.dict = s.dict := rfl

@[simp] theorem Dev.dict_meter (s : Dev) (r : Reg) (n : Nat) : (s.meter r n).dict = s.dict := rfl

@[simp] theorem Dev.dict_setBlob (s : Dev) (r : Reg) (bs : List Byte) : (s.setBlob r bs).dict = s.dict := rfl

@[simp] theorem Dev.dict_updSession (s : Dev) (n : Nat) (g : Session → Session) : (s.updSession n g).dict = s.dict := rfl

/-- What a register of another object reads after an answer. -/
theorem dictRd_answer (s : Dev) (q : Requester) (st : Status) (d : List Byte) {r : Reg} (h : r.key / 256 ≠ 0x1110) :
    dictRd (s.answer q st d).dict r = dictRd s.dict r := Dev.rd_answer s q st d h

/-! ### Reading a chain of writes -/

@[simp] theorem dictRd_wr (d : Tab Nat) (r : Reg) (v : Nat) : dictRd (dictWr d r v) r = v % 2 ^ r.bits := Tab.get_put_same ..

theorem dictRd_wr_other (d : Tab Nat) {r r' : Reg} (v : Nat) (h : r'.key ≠ r.key) : dictRd (dictWr d r v) r' = dictRd d r' := Tab.get_put_other _ _ _ h

@[simp] theorem dictRd_bump (d : Tab Nat) (r : Reg) (n : Nat) : dictRd (dictBump d r n) r = (dictRd d r + n) % 2 ^ r.bits := by
  simp [dictBump, wrapAdd]

theorem dictRd_bump_other (d : Tab Nat) {r r' : Reg} (n : Nat) (h : r'.key ≠ r.key) : dictRd (dictBump d r n) r' = dictRd d r' := dictRd_wr_other d _ h

theorem dictRd_setF_other (d : Tab Nat) {r r' : Reg} (lo w v : Nat) (h : r'.key ≠ r.key) : dictRd (dictSetF d r lo w v) r' = dictRd d r' :=
  dictRd_wr_other d _ h

theorem dictF_setF (d : Tab Nat) (r : Reg) {lo w : Nat} (v : Nat) (h : lo + w ≤ r.bits) : dictF (dictSetF d r lo w v) r lo w = v % 2 ^ w := by
  simp only [dictF, dictSetF, dictRd_wr]
  rw [field_mod h, field_setField_same]

theorem dictF_setF_other (d : Tab Nat) (r : Reg) {lo w lo' w' : Nat} (v : Nat) (h : lo' + w' ≤ lo ∨ lo + w ≤ lo') (hb : lo' + w' ≤ r.bits) :
    dictF (dictSetF d r lo w v) r lo' w' = dictF d r lo' w' := by
  simp only [dictF, dictSetF, dictRd_wr]
  rw [field_mod hb]
  rcases h with h | h
  · exact field_setField_below _ _ h
  · exact field_setField_above _ _ h

theorem dictF_wr (d : Tab Nat) (r : Reg) {lo w : Nat} (v : Nat) (h : lo + w ≤ r.bits) : dictF (dictWr d r v) r lo w = field v lo w := by
  simp only [dictF, dictRd_wr]
  exact field_mod h

theorem dictF_key {d d' : Tab Nat} {r : Reg} (lo w : Nat) (h : dictRd d r = dictRd d' r) : dictF d r lo w = dictF d' r lo w := by simp [dictF, h]

theorem dictF_wr_other (d : Tab Nat) {r r' : Reg} (v lo w : Nat) (h : r'.key ≠ r.key) : dictF (dictWr d r v) r' lo w = dictF d r' lo w :=
  dictF_key _ _ (dictRd_wr_other d v h)

theorem dictF_setF_key (d : Tab Nat) {r r' : Reg} (a b v lo w : Nat) (h : r'.key ≠ r.key) : dictF (dictSetF d r a b v) r' lo w = dictF d r' lo w :=
  dictF_wr_other d _ _ _ h

theorem dictF_bump_other (d : Tab Nat) {r r' : Reg} (n lo w : Nat) (h : r'.key ≠ r.key) : dictF (dictBump d r n) r' lo w = dictF d r' lo w :=
  dictF_wr_other d _ _ _ h

theorem dictBit_eq (d : Tab Nat) (r : Reg) (i : Nat) : dictBit d r i = (dictF d r i 1 == 1) := rfl

theorem dictBit_setBit (d : Tab Nat) (r : Reg) {i : Nat} (b : Bool) (h : i < r.bits) : dictBit (dictSetF d r i 1 (b2n b)) r i = b := by
  rw [dictBit_eq, dictF_setF d r _ h]
  cases b <;> rfl

theorem dictBit_setF_other (d : Tab Nat) (r : Reg) {lo w i : Nat} (v : Nat) (h : i < lo ∨ lo + w ≤ i) (hb : i < r.bits) :
    dictBit (dictSetF d r lo w v) r i = dictBit d r i := by
  rw [dictBit_eq, dictBit_eq, dictF_setF_other d r v (by omega) hb]

theorem dictBit_setBit_other (d : Tab Nat) (r : Reg) {i j : Nat} (v : Nat) (h : i ≠ j) (hb : i < r.bits) :
    dictBit (dictSetF d r j 1 v) r i = dictBit d r i := dictBit_setF_other d r v (by omega) hb

theorem dictF_setBit_other (d : Tab Nat) (r : Reg) {lo w j : Nat} (v : Nat) (h : j < lo ∨ lo + w ≤ j) (hb : lo + w ≤ r.bits) :
    dictF (dictSetF d r j 1 v) r lo w = dictF d r lo w := dictF_setF_other d r v (by omega) hb

theorem dictBit_key {d d' : Tab Nat} {r : Reg} (i : Nat) (h : dictRd d r = dictRd d' r) : dictBit d r i = dictBit d' r i := by simp [dictBit, h]

theorem dictBit_wr (d : Tab Nat) (r : Reg) {i : Nat} (v : Nat) (h : i < r.bits) : dictBit (dictWr d r v) r i = bitAt v i := by
  rw [dictBit_eq, dictF_wr d r v h]
  rfl

theorem dictBit_wr_other (d : Tab Nat) {r r' : Reg} (v i : Nat) (h : r'.key ≠ r.key) : dictBit (dictWr d r v) r' i = dictBit d r' i :=
  dictBit_key _ (dictRd_wr_other d v h)

theorem dictBit_setF_key (d : Tab Nat) {r r' : Reg} (a b v i : Nat) (h : r'.key ≠ r.key) : dictBit (dictSetF d r a b v) r' i = dictBit d r' i :=
  dictBit_wr_other d _ _ h

theorem dictBit_bump_other (d : Tab Nat) {r r' : Reg} (n i : Nat) (h : r'.key ≠ r.key) : dictBit (dictBump d r n) r' i = dictBit d r' i :=
  dictBit_wr_other d _ _ h

theorem dictBit_answer (s : Dev) (q : Requester) (st : Status) (d : List Byte) {r : Reg} (i : Nat) (h : r.key / 256 ≠ 0x1110) :
    dictBit (s.answer q st d).dict r i = dictBit s.dict r i := dictBit_key _ (dictRd_answer s q st d h)

theorem dictF_answer (s : Dev) (q : Requester) (st : Status) (d : List Byte) {r : Reg} (lo w : Nat) (h : r.key / 256 ≠ 0x1110) :
    dictF (s.answer q st d).dict r lo w = dictF s.dict r lo w := dictF_key _ _ (dictRd_answer s q st d h)

end Sys2Proof.Machine
end

