-- ==== Sys2Proof/Laws/Faults.lean ====
section
/-! SUPPORT. What a detection leaves alone (R551, R554). -/

namespace Sys2Proof.Machine

open Sys2Proof

@[simp] theorem Dev.dict_updQueue (s : Dev) (q : Nat) (f : FaultQueue → FaultQueue) : (s.updQueue q f).dict = s.dict := rfl

@[simp] theorem Dev.dict_sedCount (s : Dev) (off : Nat) : (s.sedCount off).dict = s.dict := rfl

@[simp] theorem Dev.dict_sedError (s : Dev) (c : Nat) : (s.sedError c).dict = s.dict := rfl

@[simp] theorem Dev.dict_pushFault (s : Dev) (q cls : Nat) (e : Elem) (d o : Nat) : (s.pushFault q cls e d o).dict = s.dict := rfl

theorem Dev.rd_mergeFault (s : Dev) (q : Nat) (p : FaultEntry → Bool) {r : Reg} (h : r.key ≠ (faultCtr q 1).key) : (s.mergeFault q p).rd r = s.rd r := by
  unfold Dev.mergeFault
  split
  · rfl
  · exact Dev.rd_bump_other _ h

/-- A report-only detection on an I/O die's queue touches no register but that queue's counters (R554, R572). -/
theorem Dev.rd_detectReport (s : Dev) {q : Nat} (cls : Nat) (e : Elem) (d o : Nat) {r : Reg} (hq : 4 ≤ q) (h : r.key ≠ (faultCtr q 1).key) :
    (s.detectReport q cls e d o).rd r = s.rd r := by
  unfold Dev.detectReport
  dsimp only
  split
  · exact Dev.rd_mergeFault _ _ _ h
  · split
    · rw [if_neg (by omega)]
    · rfl

/-- The same of the whole detection, of a class that is reported only. -/
theorem Dev.rd_detect_report (s : Dev) {cls : Nat} {e : Elem} (d : Nat) {r : Reg} (hc : reportOnly cls = true) (h20 : cls ≠ 0x20) (h21 : cls ≠ 0x21)
    (h30 : cls ≠ 0x30) (h31 : cls ≠ 0x31) (hq : 4 ≤ e.queue) (h0 : r.key ≠ (faultCtr e.queue 0).key) (h1 : r.key ≠ (faultCtr e.queue 1).key) :
    (s.detect cls e d).rd r = s.rd r := by
  simp only [Dev.detect, Dev.detectFor, h20, h21, h30, h31, hc, or_self, if_false, if_true]
  rw [Dev.rd_detectReport _ _ _ _ _ hq h1]
  exact Dev.rd_bump_other _ h0

end Sys2Proof.Machine
end

