-- ==== Sys2Proof/Laws/Hears.lean ====
section
/-! SUPPORT. The forms of Laws/Act.lean under the conditions that claims name. -/

namespace Sys2Proof.Machine

open Sys2Proof

theorem State.runIn_up {s : State} {n : Nat} (f : Dev → Dev) (h : s.dev.up n) : s.runIn n f = .next { s with dev := f s.dev.fresh } :=
  State.runIn_next f h.1 h.2

theorem State.runInM_up {s : State} {n : Nat} (f : State → State) (h : s.dev.up n) : s.runInM n f = .next (f s.start) := State.runInM_next f h.1 h.2

theorem State.request_opened {s : State} (r : Request) (f : State → State) (h : s.dev.opened) : s.request r f = .next (f s.start) :=
  State.request_next r f h.1 h.2.1 h.2.2

theorem State.askedM_hears {s : State} {q : Requester} {r : Reg} {v : Nat} (k : State → State) (h : s.dev.hears q r v) :
    s.askedM q r v k = .next (k s.start) := State.askedM_next q r v k h.1.1 h.1.2.1 h.1.2.2 h.2.1 h.2.2

theorem State.asked_hears {s : State} {q : Requester} {r : Reg} {v : Nat} (k : Dev → Dev) (h : s.dev.hears q r v) :
    s.asked q r v k = .next { s with dev := k s.dev.fresh } := State.asked_next q r v k h.1.1 h.1.2.1 h.1.2.2 h.2.1 h.2.2

theorem Dev.told_accept (s : Dev) (q : Requester) : (s.accept q).told q .ok := by
  cases q <;> exact Dev.response_accept s _

theorem Dev.told_refuse (s : Dev) (q : Requester) (st : Status) : (s.refuse q st).told q st := Dev.response_refuse s q st

/-- Watching Confluence's input queue changes only the two fields that measure how long it has been full (R426). -/
theorem Dev.confWatch_cases (s : Dev) :
    s.confWatch = s ∨ s.confWatch = { s with confFullF := s.rf + 1 } ∨ s.confWatch = { s with confFullNs := s.confFullTime, confFullF := 0 } := by
  unfold Dev.confWatch
  split
  · split
    · exact .inr (.inl rfl)
    · exact .inl rfl
  · exact .inr (.inr rfl)

@[simp] theorem Dev.confWatch_transit (s : Dev) : s.confWatch.transit = s.transit := by
  rcases s.confWatch_cases with h | h | h <;> rw [h]

@[simp] theorem Dev.confWatch_routeHold (s : Dev) : s.confWatch.routeHold = s.routeHold := by
  rcases s.confWatch_cases with h | h | h <;> rw [h]

/-- What a consumer's acceptance leaves on its way (R176). -/
@[simp] theorem Dev.accepting_transit (s : Dev) (rs : List Nat) (rest : List Transit) : (s.accepting rs rest).transit = rest := by
  simp only [Dev.accepting, Dev.confWatch_transit]

@[simp] theorem Dev.tookWord_transit (s : Dev) (t : Transit) (rest : List Transit) : (s.tookWord t rest).transit = rest :=
  s.accepting_transit _ rest

end Sys2Proof.Machine
end

