-- ==== Sys2Proof/Laws/Mem.lean ====
section
/-! SUPPORT. The laws of the two addressed memories: a byte reads as it was last written, a write leaves every other byte alone, and every
operation keeps the canonical form. -/

namespace Sys2Proof.Machine

open Sys2Proof

/-! ### Bytes -/

/-- A byte reads as it was written. -/
@[simp] theorem Memory.byte_put_same (m : List Host.Cell) (a : Nat) (b : Byte) : Memory.byte (Memory.put m a b) a = b := Tab.get_put_same ..

/-- Every other byte reads as before. -/
theorem Memory.byte_put_other (m : List Host.Cell) {a a' : Nat} (b : Byte) (h : a' ≠ a) : Memory.byte (Memory.put m a b) a' = Memory.byte m a' :=
  Tab.get_put_other _ _ _ h

theorem Memory.wf_put {m : List Host.Cell} (a : Nat) (b : Byte) (h : Memory.wf m) : Memory.wf (Memory.put m a b) := Tab.wf_put a b h

theorem Memory.wf_wipe {m : List Host.Cell} (lo hi : Nat) (h : Memory.wf m) : Memory.wf (Memory.wipe m lo hi) := Tab.wf_filter _ h

theorem Memory.wf_write {m : List Host.Cell} (bs : List Byte) (a : Nat) (h : Memory.wf m) : Memory.wf (Memory.write m a bs) := by
  induction bs generalizing m a with
  | nil => exact h
  | cons b bs ih => exact ih (a + 1) (Memory.wf_put a b h)

theorem wf_wipeMarks {t : Tab Bool} (lo hi : Nat) (h : Tab.wf false t = true) : Tab.wf false (wipeMarks t lo hi) = true := Tab.wf_filter _ h

theorem Tab.get_filter_kept {α : Type} (d : α) (t : Tab α) (p : Nat × α → Bool) (k : Nat) (h : ∀ a, p (k, a) = true) : Tab.get d (t.filter p) k = Tab.get d t k := by
  induction t with
  | nil => rfl
  | cons x t ih =>
    obtain ⟨j, a⟩ := x
    rw [List.filter_cons]
    by_cases hj : j = k
    · subst hj
      simp [h a, Tab.get]
    · split
      · simp [Tab.get, hj, ih]
      · simp [Tab.get, hj, ih]

theorem Tab.get_filter_gone {α : Type} (d : α) (t : Tab α) (p : Nat × α → Bool) (k : Nat) (h : ∀ a, p (k, a) = false) : Tab.get d (t.filter p) k = d := by
  induction t with
  | nil => rfl
  | cons x t ih =>
    obtain ⟨j, a⟩ := x
    rw [List.filter_cons]
    by_cases hj : j = k
    · subst hj
      simp [h a, ih]
    · split
      · simp [Tab.get, hj, ih]
      · exact ih

/-- A wiped byte reads as an unlisted one. -/
theorem Memory.byte_wipe_in (m : List Host.Cell) {lo hi a : Nat} (h : lo ≤ a ∧ a < hi) : Memory.byte (Memory.wipe m lo hi) a = unlisted :=
  Tab.get_filter_gone _ _ _ _ (fun _ => by simp; omega)

theorem Memory.byte_wipe_out (m : List Host.Cell) {lo hi a : Nat} (h : a < lo ∨ hi ≤ a) : Memory.byte (Memory.wipe m lo hi) a = Memory.byte m a :=
  Tab.get_filter_kept _ _ _ _ (fun _ => by simp; omega)

/-! ### Scratchpads -/

theorem Mem.wf_empty : Mem.wf {} := ⟨rfl, rfl, rfl, rfl, rfl⟩

theorem Mem.wf_padPut {m : Mem} (c a : Nat) (bs : List Byte) (h : Mem.wf m) : Mem.wf (m.padPut c a bs) :=
  ⟨h.1, foldl_holds Memory.wf _ (fun _ b hp => Memory.wf_put _ b.1 hp) _ h.2.1, h.2.2⟩

theorem Mem.wf_padMark {m : Mem} (c a n : Nat) (bad : Bool) (h : Mem.wf m) : Mem.wf (m.padMark c a n bad) := by
  refine ⟨h.1, h.2.1, h.2.2.1, h.2.2.2.1, ?_⟩
  refine foldl_holds (fun t => Tab.wf false t = true) _ ?_ _ h.2.2.2.2
  intro t i ht
  dsimp only
  split
  · exact Tab.wf_put _ _ ht
  · exact ht

theorem Mem.wf_padWrite {m : Mem} (c a : Nat) (bs : List Byte) (bad : Bool) (h : Mem.wf m) : Mem.wf (m.padWrite c a bs bad) :=
  Mem.wf_padMark _ _ _ _ (Mem.wf_padPut _ _ _ h)

theorem Mem.wf_padClear {m : Mem} (c : Nat) (h : Mem.wf m) : Mem.wf (m.padClear c) :=
  ⟨h.1, Memory.wf_wipe _ _ h.2.1, h.2.2.1, h.2.2.2.1, wf_wipeMarks _ _ h.2.2.2.2⟩

theorem Mem.wf_padMasked {m : Mem} (c a data mask : Nat) (h : Mem.wf m) : Mem.wf (m.padMasked c a data mask) := by
  unfold Mem.padMasked
  dsimp only
  split
  · exact Mem.wf_padMark _ _ _ _ (Mem.wf_padPut _ _ _ h)
  · exact Mem.wf_padPut _ _ _ h

/-- What a scratchpad reads after it is cleared: zeros. -/
theorem Mem.byte_padClear_in (m : Mem) (c a : Nat) (h : a < 2 ^ 20) : Memory.byte (m.padClear c).pad (padKey c a) = 0 := by
  refine Memory.byte_wipe_in _ ?_
  simp only [padKey, Nat.mod_eq_of_lt h, Nat.zero_mod]
  omega

/-- Clearing one scratchpad leaves the others alone. -/
theorem Mem.byte_padClear_out (m : Mem) {c c' : Nat} (a : Nat) (h : c' ≠ c) : Memory.byte (m.padClear c).pad (padKey c' a) = Memory.byte m.pad (padKey c' a) := by
  refine Memory.byte_wipe_out _ ?_
  have := Nat.mod_lt a (Nat.two_pow_pos 20)
  simp only [padKey, Nat.zero_mod]
  omega

end Sys2Proof.Machine
end

