-- ==== Sys2Proof/Laws/Keeps.lean ====
section
/-! SUPPORT. What every command keeps: the queue of commands as it was, and the canonical form of the memories. One lemma per function over the
whole state; each says that what held since the command began still holds after the function. -/

namespace Sys2Proof.Machine

open Sys2Proof

/-- From state `s` to state `t` the queue stands as it was, and memories in canonical form are still in canonical form. -/
def State.Keeps (s t : State) : Prop := t.pending = s.pending ∧ (Mem.wf s.mem → Mem.wf t.mem)

theorem State.Keeps.refl (s : State) : s.Keeps s := ⟨rfl, id⟩

theorem State.Keeps.trans {s t u : State} (h : s.Keeps t) (k : t.Keeps u) : s.Keeps u := ⟨k.1.trans h.1, fun w => k.2 (h.2 w)⟩

/-- A change of the device alone. -/
@[simp] theorem State.keeps_dev (s0 : State) (d : Dev) (s : State) : s0.Keeps ⟨d, s.mem, s.pending⟩ ↔ s0.Keeps s := Iff.rfl

theorem State.keeps_ite {s0 a b : State} {c : Prop} [Decidable c] (ha : s0.Keeps a) (hb : s0.Keeps b) : s0.Keeps (if c then a else b) := by
  split
  · exact ha
  · exact hb

/-- A change of the memories that keeps their form. -/
theorem State.Keeps.mem {s0 s : State} {d : Dev} {m : Mem} (h : s0.Keeps s) (k : Mem.wf s.mem → Mem.wf m) : s0.Keeps ⟨d, m, s.pending⟩ :=
  ⟨h.1, fun w => k (h.2 w)⟩

theorem State.keeps_loop {s0 : State} {n : Nat} {f : Nat → State → State} (hf : ∀ i s, s0.Keeps s → s0.Keeps (f i s)) {s : State} (h : s0.Keeps s) :
    s0.Keeps (loop n f s) := loop_holds _ _ _ hf h

theorem State.keeps_foldl {β : Type} {s0 : State} {l : List β} {f : State → β → State} (hf : ∀ s b, s0.Keeps s → s0.Keeps (f s b)) {s : State}
    (h : s0.Keeps s) : s0.Keeps (l.foldl f s) := foldl_holds _ _ hf _ h

/-! ### GDDR6 (chapter 9) -/

theorem State.keeps_gddrPutByte {s0 s : State} (t a : Nat) (b : Byte) (h : s0.Keeps s) : s0.Keeps (s.gddrPutByte t a b) := by
  unfold State.gddrPutByte
  split
  · exact h
  · refine h.mem (fun w => ⟨foldl_holds Memory.wf _ ?_ _ w.1, w.2⟩)
    intro m x hm
    split
    · exact Memory.wf_put _ _ hm
    · exact hm

theorem State.keeps_gddrMark {s0 s : State} (t b : Nat) (w bad : Bool) (h : s0.Keeps s) : s0.Keeps (s.gddrMark t b w bad) := by
  unfold State.gddrMark
  split
  · exact h
  · refine State.keeps_foldl ?_ h
    intro s x h
    split
    · exact h
    · rename_i y _
      split
      · exact h.mem (fun w => ⟨w.1, w.2.1, Tab.wf_put (y / 64) bad w.2.2.1, Tab.wf_put (y / 64) false w.2.2.2.1, w.2.2.2.2⟩)
      · split
        · exact h.mem (fun w => ⟨w.1, w.2.1, Tab.wf_put (y / 64) true w.2.2.1, w.2.2.2⟩)
        · exact h

theorem State.keeps_gddrWrite {s0 s : State} (t a : Nat) (bs : List (Byte × Bool)) (h : s0.Keeps s) : s0.Keeps (s.gddrWrite t a bs) := by
  unfold State.gddrWrite
  exact State.keeps_loop (fun _ _ => State.keeps_gddrMark _ _ _ _) (State.keeps_foldl (fun _ _ => State.keeps_gddrPutByte _ _ _) h)

theorem State.keeps_gddrPut {s0 s : State} (t a : Nat) (bs : List Byte) (h : s0.Keeps s) : s0.Keeps (s.gddrPut t a bs) := State.keeps_gddrWrite _ _ _ h

theorem State.keeps_zeroRange {s0 s : State} (t a n : Nat) (h : s0.Keeps s) : s0.Keeps (s.zeroRange t a n) := State.keeps_gddrPut _ _ _ h

theorem State.keeps_gddrZero {s0 s : State} (lo hi : Nat) (h : s0.Keeps s) : s0.Keeps (s.gddrZero lo hi) :=
  h.mem (fun w => ⟨Tab.wf_filter _ w.1, w.2.1, Tab.wf_filter _ w.2.2.1, Tab.wf_filter _ w.2.2.2.1, w.2.2.2.2⟩)

theorem State.keeps_blockCheck {s0 s : State} (a : Nat) (c : Check) (h : s0.Keeps s) : s0.Keeps (s.blockCheck a c) := by
  unfold State.blockCheck
  dsimp only
  split
  · exact h
  · split
    · exact h.mem (fun w => ⟨w.1, w.2.1, w.2.2.1, Tab.wf_put (a / 64) true w.2.2.2.1, w.2.2.2.2⟩)
    · split <;> exact h

theorem State.keeps_copiesCheck {s0 : State} (m : Bool) : ∀ (l : List Nat) (c : Check) {s : State}, s0.Keeps s → s0.Keeps (s.copiesCheck m c l)
  | [], _, _, h => h
  | a :: as, c, _, h => by
    unfold State.copiesCheck
    split
    · exact State.keeps_copiesCheck m as c h
    · dsimp only
      exact State.keeps_ite (State.keeps_copiesCheck m as c h)
        (State.keeps_ite (State.keeps_copiesCheck m as .ok (State.keeps_blockCheck _ _ h)) (State.keeps_blockCheck _ _ h))

theorem State.keeps_regionAssign {s0 s : State} (r v : Nat) (h : s0.Keeps s) : s0.Keeps (s.regionAssign r v) :=
  State.keeps_gddrZero (s := s) (s.dev.regionLo r) (s.dev.occupiedHi r) h

theorem State.keeps_regionOwnerWrite {s0 s : State} (q : Requester) (r v : Nat) (h : s0.Keeps s) : s0.Keeps (s.regionOwnerWrite q r v) := by
  unfold State.regionOwnerWrite
  split
  · exact h
  · split
    · exact h
    · dsimp only
      rw [State.keeps_dev]
      exact State.keeps_ite h (State.keeps_regionAssign _ _ h)

theorem State.keeps_blockRead {s0 s : State} (m : GddrMaster) (a : Nat) (c : Check) (h : s0.Keeps s) : s0.Keeps (s.blockRead m a c) := by
  unfold State.blockRead
  dsimp only
  split
  · exact h
  · exact State.keeps_ite h (State.keeps_copiesCheck _ _ _ h)

theorem State.keeps_scrubPass {s0 s : State} (l : List (BitVec 28 × Bool)) (h : s0.Keeps s) : s0.Keeps (s.scrubPass l) := by
  unfold State.scrubPass
  exact State.keeps_foldl (fun _ _ => State.keeps_blockCheck _ _) h

/-! ### Scratchpads (chapter 8) -/

theorem State.keeps_padWord {s0 s : State} (c a : Nat) (k : Check) (h : s0.Keeps s) : s0.Keeps (s.padWord c a k).1 := by
  unfold State.padWord
  dsimp only
  split
  · exact h.mem (fun w => ⟨w.1, w.2.1, w.2.2.1, w.2.2.2.1, Tab.wf_put (padWordKey c a) true w.2.2.2.2⟩)
  · split <;> exact h

theorem State.keeps_padHalf {s0 s : State} (c a : Nat) (k : Check) (x : Option PortWrite) (h : s0.Keeps s) : s0.Keeps (s.padHalf c a k x).s := by
  unfold State.padHalf
  split
  · exact h.mem (Mem.wf_padMasked _ _ _ _)
  · exact State.keeps_padWord _ _ _ h

theorem State.keeps_padAccess {s0 s : State} (c m a : Nat) (k0 k1 : Check) (x y : Option PortWrite) (n : Nat) (h : s0.Keeps s) :
    s0.Keeps (s.padAccess c m a k0 k1 x y n) := by
  unfold State.padAccess
  extract_lets l b s1 r0 r1
  have h1 : s0.Keeps s1 := State.keeps_ite h h
  have h2 : s0.Keeps r0.s := State.keeps_padHalf _ _ _ _ h1
  have h3 : s0.Keeps r1.s := by
    unfold r1
    split
    · exact State.keeps_padHalf _ _ _ _ h2
    · exact h2
  exact State.keeps_ite h (State.keeps_ite h h3)

theorem State.keeps_padPut {s0 s : State} {d : Dev} (c a : Nat) (bs : List Byte) (h : s0.Keeps s) : s0.Keeps ⟨d, s.mem.padPut c a bs, s.pending⟩ :=
  h.mem (Mem.wf_padPut c a bs)

theorem State.keeps_padMark {s0 s : State} {d : Dev} (c a n : Nat) (bad : Bool) (h : s0.Keeps s) : s0.Keeps ⟨d, s.mem.padMark c a n bad, s.pending⟩ :=
  h.mem (Mem.wf_padMark c a n bad)

theorem State.keeps_padWrite {s0 s : State} {d : Dev} (c a : Nat) (bs : List Byte) (bad : Bool) (h : s0.Keeps s) :
    s0.Keeps ⟨d, s.mem.padWrite c a bs bad, s.pending⟩ := h.mem (Mem.wf_padWrite c a bs bad)

theorem State.keeps_padMasked {s0 s : State} {d : Dev} (c a x k : Nat) (h : s0.Keeps s) : s0.Keeps ⟨d, s.mem.padMasked c a x k, s.pending⟩ :=
  h.mem (Mem.wf_padMasked c a x k)

theorem State.keeps_wipe {s0 s : State} {d : Dev} (lo hi p q : Nat) (h : s0.Keeps s) :
    s0.Keeps ⟨d, { s.mem with pad := Memory.wipe s.mem.pad lo hi, padBad := wipeMarks s.mem.padBad p q }, s.pending⟩ :=
  h.mem (fun w => ⟨w.1, Memory.wf_wipe lo hi w.2.1, w.2.2.1, w.2.2.2.1, wf_wipeMarks p q w.2.2.2.2⟩)

theorem State.keeps_clearPad {s0 s : State} (c : Nat) (h : s0.Keeps s) : s0.Keeps (s.clearPad c) := h.mem (Mem.wf_padClear c)

theorem State.keeps_marchEnd {s0 s : State} (c : Nat) (f : List MarchFound) (h : s0.Keeps s) : s0.Keeps (s.marchEnd c f) := by
  unfold State.marchEnd
  split
  · exact h
  · split
    · exact State.keeps_clearPad _ h
    · exact h

/-! ### The functions over the whole state, each after those it calls -/

theorem State.keeps_planFree {s0 s : State} (p : Nat) (h : s0.Keeps s) : s0.Keeps (s.planFree p) := by
  unfold State.planFree
  try dsimp only
  repeat' with_reducible (first | assumption | simp only [↓State.keeps_dev] | refine State.keeps_zeroRange _ _ _ ?_ | refine State.keeps_foldl (fun _ _ h => ?_) ?_ | split)

theorem State.keeps_loadsAborted {s0 s : State}  (h : s0.Keeps s) : s0.Keeps (s.loadsAborted) := by
  unfold State.loadsAborted
  try dsimp only
  repeat' with_reducible (first | assumption | simp only [↓State.keeps_dev] | refine State.keeps_planFree _ ?_ | refine State.keeps_loop (fun _ _ h => ?_) ?_ | refine State.keeps_ite ?_ ?_ | split)

theorem State.keeps_segmentWith {s0 s : State} (r : Request) (start : Status) (max : Nat) (began : Dev → Dev) (arrived : List Byte → State → State)
    (finish : List Byte → State → State × Status) (ha : ∀ bs u, s0.Keeps u → s0.Keeps (arrived bs u))
    (hf : ∀ bs u, s0.Keeps u → s0.Keeps (finish bs u).1) (h : s0.Keeps s) : s0.Keeps (s.segmentWith r start max began arrived finish) := by
  unfold State.segmentWith
  refine State.keeps_ite h ?_
  extract_lets st
  refine State.keeps_ite h ?_
  exact State.keeps_ite (hf _ _ (ha _ ⟨_, s.mem, s.pending⟩ h)) (ha _ ⟨_, s.mem, s.pending⟩ h)

theorem State.keeps_segment {s0 s : State} (r : Request) (start : Status) (max : Nat) (began : Dev → Dev) (finish : List Byte → State → State × Status)
    (hf : ∀ bs u, s0.Keeps u → s0.Keeps (finish bs u).1) (h : s0.Keeps s) : s0.Keeps (s.segment r start max began finish) :=
  State.keeps_segmentWith _ _ _ _ _ _ (fun _ _ h => h) hf h

theorem State.keeps_portWrite {s0 s : State} (c : Nat) (u : Nat) (a : Nat) (bs : List Byte) (bad : Bool) (h : s0.Keeps s) : s0.Keeps (s.portWrite c u a bs bad) := by
  unfold State.portWrite
  try dsimp only
  repeat' with_reducible (first | assumption | simp only [↓State.keeps_dev] | refine State.keeps_padWrite _ _ _ _ ?_ | refine State.keeps_loop (fun _ _ h => ?_) ?_ | refine State.keeps_ite ?_ ?_ | split)

theorem State.keeps_buildPut {s0 s : State} (surface : Bool) (c : Nat) (a : Nat) (bs : List Byte) (h : s0.Keeps s) : s0.Keeps (s.buildPut surface c a bs) := by
  unfold State.buildPut
  repeat' with_reducible (first | assumption | simp only [↓State.keeps_dev] | refine State.keeps_padPut _ _ _ ?_ | refine State.keeps_ite ?_ ?_ | split)

theorem State.keeps_buildWipe {s0 s : State} (surface : Bool) (c a n : Nat) (h : s0.Keeps s) : s0.Keeps (s.buildWipe surface c a n) := by
  unfold State.buildWipe
  refine State.keeps_loop (fun i s h => ?_) h
  exact State.keeps_ite (State.keeps_wipe _ _ _ _ h) h

theorem State.keeps_confReach {s0 s : State} (t : Nat) (a : Nat) (n : Nat) (h : s0.Keeps s) : s0.Keeps (s.confReach t a n) := by
  unfold State.confReach
  repeat' with_reducible (first | assumption | simp only [↓State.keeps_dev] | refine State.keeps_ite ?_ ?_ | split)

theorem State.keeps_confPut {s0 s : State} (t : Nat) (a : Nat) (bs : List Byte) (h : s0.Keeps s) : s0.Keeps (s.confPut t a bs) := by
  unfold State.confPut
  repeat' with_reducible (first | assumption | simp only [↓State.keeps_dev] | refine State.keeps_gddrPut _ _ _ ?_ | refine State.keeps_confReach _ _ _ ?_ | refine State.keeps_ite ?_ ?_ | split)

theorem State.keeps_calReach {s0 s : State} (st : Nat) (x : Nat) (y : Nat) (h : s0.Keeps s) : s0.Keeps (s.calReach st x y) := by
  unfold State.calReach
  repeat' with_reducible (first | assumption | simp only [↓State.keeps_dev] | refine State.keeps_confReach _ _ _ ?_ | refine State.keeps_ite ?_ ?_ | split)

theorem State.keeps_planBytes {s0 s : State} (t : Nat) (p : Nat) (off : Nat) (data : List Byte) (h : s0.Keeps s) : s0.Keeps (s.planBytes t p off data) := by
  unfold State.planBytes
  try dsimp only
  repeat' with_reducible (first | assumption | simp only [↓State.keeps_dev] | refine State.keeps_gddrPut _ _ _ ?_ | refine State.keeps_foldl (fun _ _ h => ?_) ?_ | refine State.keeps_ite ?_ ?_ | split)

theorem State.keeps_planArrive {s0 s : State} (p off : Nat) (bs : List Byte) (h : s0.Keeps s) : s0.Keeps (State.planArrive p off bs s) := by
  unfold State.planArrive
  exact State.keeps_ite (State.keeps_planBytes _ _ _ _ h) (State.keeps_planBytes _ _ _ _ h)

theorem State.keeps_voxelAdd {s0 s : State} (l : Nat) (e : LayerEntry) (w : Nat) (ch : Nat) (y : Nat) (x : Nat) (d : Int) (poisoned : Bool) (h : s0.Keeps s) : s0.Keeps (s.voxelAdd l e w ch y x d poisoned) := by
  unfold State.voxelAdd
  try dsimp only
  repeat' with_reducible (first | assumption | simp only [↓State.keeps_dev] | refine State.keeps_buildPut _ _ _ _ ?_ | refine State.keeps_padMark _ _ _ _ ?_ | refine State.keeps_ite ?_ ?_ | split)

theorem State.keeps_buildClear {s0 s : State} (l : Nat) (e : LayerEntry) (n : Nat) (h : s0.Keeps s) : s0.Keeps (s.buildClear l e n) := by
  unfold State.buildClear
  try dsimp only
  repeat' with_reducible (first | assumption | simp only [↓State.keeps_dev] | refine State.keeps_buildWipe _ _ _ _ ?_ | refine State.keeps_foldl (fun _ _ h => ?_) ?_)

theorem State.keeps_voxelWord {s0 s : State} (l : Nat) (e : LayerEntry) (x : Nat) (y : Nat) (pol : Nat) (dt : Int) (poisoned : Bool) (h : s0.Keeps s) : s0.Keeps (s.voxelWord l e x y pol dt poisoned) := by
  unfold State.voxelWord
  try dsimp only
  repeat' with_reducible (first | assumption | simp only [↓State.keeps_dev] | refine State.keeps_voxelAdd _ _ _ _ _ _ _ _ ?_ | refine State.keeps_ite ?_ ?_ | split)

theorem State.keeps_surfaceFill {s0 s : State} (l : Nat) (e : LayerEntry) (h : s0.Keeps s) : s0.Keeps (s.surfaceFill l e) := by
  unfold State.surfaceFill
  try dsimp only
  repeat' with_reducible (first | assumption | simp only [↓State.keeps_dev] | refine State.keeps_buildPut _ _ _ _ ?_ | refine State.keeps_foldl (fun _ _ h => ?_) ?_ | refine State.keeps_ite ?_ ?_ | split)

theorem State.keeps_windowOpen {s0 s : State} (l : Nat) (e : LayerEntry) (k : Int) (h : s0.Keeps s) : s0.Keeps (s.windowOpen l e k) := by
  unfold State.windowOpen
  try dsimp only
  repeat' with_reducible (first | assumption | simp only [↓State.keeps_dev] | refine State.keeps_buildClear _ _ _ ?_ | refine State.keeps_ite ?_ ?_ | split)

theorem State.keeps_windowClose {s0 s : State} (l : Nat) (e : LayerEntry) (h : s0.Keeps s) : s0.Keeps (s.windowClose l e) := by
  unfold State.windowClose
  try dsimp only
  repeat' with_reducible (first | assumption | simp only [↓State.keeps_dev] | refine State.keeps_surfaceFill _ _ ?_ | refine State.keeps_windowOpen _ _ _ ?_ | refine State.keeps_ite ?_ ?_ | split)

theorem State.keeps_buildWord {s0 s : State} (l : Nat) (h : s0.Keeps s) : s0.Keeps (s.buildWord l) := by
  unfold State.buildWord
  try dsimp only
  repeat' with_reducible (first | assumption | simp only [↓State.keeps_dev] | refine State.keeps_voxelWord _ _ _ _ _ _ _ ?_ | refine State.keeps_windowClose _ _ ?_ | refine State.keeps_loop (fun _ _ h => ?_) ?_ | refine State.keeps_ite ?_ ?_ | split)

theorem State.keeps_buildTimeout {s0 s : State} (l : Nat) (h : s0.Keeps s) : s0.Keeps (s.buildTimeout l) := by
  unfold State.buildTimeout
  repeat' with_reducible (first | assumption | simp only [↓State.keeps_dev] | refine State.keeps_windowClose _ _ ?_ | refine State.keeps_ite ?_ ?_ | split)

theorem State.keeps_buildCount {s0 s : State} (l : Nat) (h : s0.Keeps s) : s0.Keeps (s.buildCount l) := by
  unfold State.buildCount
  try dsimp only
  repeat' with_reducible (first | assumption | simp only [↓State.keeps_dev] | refine State.keeps_buildPut _ _ _ _ ?_ | refine State.keeps_buildClear _ _ _ ?_ | refine State.keeps_foldl (fun _ _ h => ?_) ?_ | refine State.keeps_ite ?_ ?_ | split)

theorem State.keeps_layerStart {s0 s : State} (l : Nat) (h : s0.Keeps s) : s0.Keeps (s.layerStart l) := by
  unfold State.layerStart
  try dsimp only
  repeat' with_reducible (first | assumption | simp only [↓State.keeps_dev] | refine State.keeps_windowOpen _ _ _ ?_ | refine State.keeps_ite ?_ ?_ | split)

theorem State.keeps_writeRow {s0 s : State} (v : TileEnv) (sp : TileSpan) (bad : Bool) (z : Nat × Nat × List Nat) (h : s0.Keeps s) : s0.Keeps (s.writeRow v sp bad z) := by
  unfold State.writeRow
  try dsimp only
  repeat' with_reducible (first | assumption | simp only [↓State.keeps_dev] | refine State.keeps_portWrite _ _ _ _ _ ?_ | refine State.keeps_ite ?_ ?_ | split)

theorem State.keeps_tileDrain {s0 s : State} (l : Nat) (c : Nat) (u : Nat) (upset : Bool) (h : s0.Keeps s) : s0.Keeps (s.tileDrain l c u upset) := by
  unfold State.tileDrain
  try dsimp only
  repeat' with_reducible (first | assumption | simp only [↓State.keeps_dev] | refine State.keeps_writeRow _ _ _ _ ?_ | refine State.keeps_foldl (fun _ _ h => ?_) ?_ | refine State.keeps_ite ?_ ?_ | split)

theorem State.keeps_slotWord {s0 s : State} (n : Nat) (w : Nat) (second : Nat) (h : s0.Keeps s) : s0.Keeps (s.slotWord n w second) := by
  unfold State.slotWord
  try dsimp only
  repeat' with_reducible (first | assumption | simp only [↓State.keeps_dev] | refine State.keeps_calReach _ _ _ ?_ | refine State.keeps_ite ?_ ?_ | split)

theorem State.keeps_slotSpike {s0 s : State} (n : Nat) (w : Nat) (tick : Nat) (h : s0.Keeps s) : s0.Keeps (s.slotSpike n w tick) := by
  unfold State.slotSpike
  try dsimp only
  repeat' with_reducible (first | assumption | simp only [↓State.keeps_dev] | refine State.keeps_calReach _ _ _ ?_ | refine State.keeps_ite ?_ ?_ | split)

theorem State.keeps_splatInput {s0 s : State} (t : Transit) (h : s0.Keeps s) : s0.Keeps (s.splatInput t) := by
  unfold State.splatInput
  try dsimp only
  repeat' with_reducible (first | assumption | simp only [↓State.keeps_dev] | refine State.keeps_slotWord _ _ _ ?_ | refine State.keeps_foldl (fun _ _ h => ?_) ?_ | refine State.keeps_ite ?_ ?_ | split)

theorem State.keeps_releaseSpikes {s0 s : State} (h_ : Nat) (t : Transit) (h : s0.Keeps s) : s0.Keeps (s.releaseSpikes h_ t) := by
  unfold State.releaseSpikes
  try dsimp only
  repeat' with_reducible (first | assumption | simp only [↓State.keeps_dev] | refine State.keeps_slotSpike _ _ _ ?_ | refine State.keeps_foldl (fun _ _ h => ?_) ?_ | refine State.keeps_ite ?_ ?_ | split)

theorem State.keeps_featureAdd {s0 s : State} (st : Nat) (j : Int) (lvl : Nat) (i : Nat) (vs : List Nat) (h : s0.Keeps s) : s0.Keeps (s.featureAdd st j lvl i vs) := by
  unfold State.featureAdd
  try dsimp only
  repeat' with_reducible (first | assumption | simp only [↓State.keeps_dev] | refine State.keeps_confReach _ _ _ ?_ | refine State.keeps_confPut _ _ _ ?_ | refine State.keeps_ite ?_ ?_ | split)

theorem State.keeps_featureMap {s0 s : State} (n : Nat) (j : Int) (data : List Byte) (h : s0.Keeps s) : s0.Keeps (s.featureMap n j data) := by
  unfold State.featureMap
  try dsimp only
  repeat' with_reducible (first | assumption | simp only [↓State.keeps_dev] | refine State.keeps_calReach _ _ _ ?_ | refine State.keeps_featureAdd _ _ _ _ _ ?_ | refine State.keeps_loop (fun _ _ h => ?_) ?_ | refine State.keeps_ite ?_ ?_ | split)

theorem State.keeps_deliveryApply {s0 s : State} (n : Nat) (stamp : Int) (data : List Byte) (h : s0.Keeps s) : s0.Keeps (s.deliveryApply n stamp data) := by
  unfold State.deliveryApply
  try dsimp only
  repeat' with_reducible (first | assumption | simp only [↓State.keeps_dev] | refine State.keeps_featureMap _ _ _ ?_ | refine State.keeps_foldl (fun _ _ h => ?_) ?_ | refine State.keeps_ite ?_ ?_ | split)

theorem State.keeps_deliveryRead {s0 s : State} (n : Nat) (age : Nat) (h : s0.Keeps s) : s0.Keeps (s.deliveryRead n age) := by
  unfold State.deliveryRead
  try dsimp only
  repeat' with_reducible (first | assumption | simp only [↓State.keeps_dev] | refine State.keeps_deliveryApply _ _ _ ?_ | refine State.keeps_ite ?_ ?_ | split)

theorem State.keeps_drainEnd {s0 s : State} (bad : List Nat) (h : s0.Keeps s) : s0.Keeps (s.drainEnd bad) := by
  unfold State.drainEnd
  try dsimp only
  repeat' with_reducible (first | assumption | simp only [↓State.keeps_dev] | refine State.keeps_zeroRange _ _ _ ?_ | refine State.keeps_confPut _ _ _ ?_ | refine State.keeps_foldl (fun _ _ h => ?_) ?_ | refine State.keeps_ite ?_ ?_ | split)

theorem State.keeps_convertEnd {s0 s : State}  (h : s0.Keeps s) : s0.Keeps (s.convertEnd) := by
  unfold State.convertEnd
  try dsimp only
  repeat' with_reducible (first | assumption | simp only [↓State.keeps_dev] | refine State.keeps_confPut _ _ _ ?_ | refine State.keeps_loop (fun _ _ h => ?_) ?_ | split)

theorem State.keeps_fusionFlush {s0 s : State}  (h : s0.Keeps s) : s0.Keeps (s.fusionFlush) := by
  unfold State.fusionFlush
  try dsimp only
  repeat' with_reducible (first | assumption | simp only [↓State.keeps_dev] | refine State.keeps_drainEnd _ ?_ | refine State.keeps_convertEnd  ?_ | refine State.keeps_loop (fun _ _ h => ?_) ?_)

theorem State.keeps_instantClose {s0 s : State}  (h : s0.Keeps s) : s0.Keeps (s.instantClose) := by
  unfold State.instantClose
  try dsimp only
  repeat' with_reducible (first | assumption | simp only [↓State.keeps_dev] | refine State.keeps_fusionFlush  ?_ | refine State.keeps_ite ?_ ?_ | split)

theorem State.keeps_closeAll {s0 s : State} (step : Bool) (stopped : Bool) (h : s0.Keeps s) : s0.Keeps (s.closeAll step stopped) := by
  unfold State.closeAll
  try dsimp only
  repeat' with_reducible (first | assumption | simp only [↓State.keeps_dev] | refine State.keeps_fusionFlush  ?_ | refine State.keeps_loop (fun _ _ h => ?_) ?_)

theorem State.keeps_fusionStepped {s0 s : State}  (h : s0.Keeps s) : s0.Keeps (s.fusionStepped) := by
  unfold State.fusionStepped
  try dsimp only
  repeat' with_reducible (first | assumption | simp only [↓State.keeps_dev] | refine State.keeps_closeAll _ _ ?_ | refine State.keeps_ite ?_ ?_ | split)

theorem State.keeps_fusionHalt {s0 s : State}  (h : s0.Keeps s) : s0.Keeps (s.fusionHalt) := by
  unfold State.fusionHalt
  try dsimp only
  repeat' with_reducible (first | assumption | simp only [↓State.keeps_dev] | refine State.keeps_closeAll _ _ ?_ | refine State.keeps_ite ?_ ?_ | split)

theorem State.keeps_fusionRevoke {s0 s : State}  (h : s0.Keeps s) : s0.Keeps (s.fusionRevoke) := by
  unfold State.fusionRevoke
  try dsimp only
  repeat' with_reducible (first | assumption | simp only [↓State.keeps_dev] | refine State.keeps_fusionHalt  ?_)

theorem State.keeps_fusionCommandDo {s0 s : State} (q : Requester) (v : Nat) (h : s0.Keeps s) : s0.Keeps (s.fusionCommandDo q v) := by
  unfold State.fusionCommandDo
  try dsimp only
  repeat' with_reducible (first | assumption | simp only [↓State.keeps_dev] | refine State.keeps_fusionHalt  ?_ | refine State.keeps_ite ?_ ?_ | split)

theorem State.keeps_calLoad {s0 s : State} (n : Nat) (bs : List Byte) (h : s0.Keeps s) : s0.Keeps (s.calLoad n bs).1 := by
  unfold State.calLoad
  try dsimp only
  repeat' with_reducible (first | assumption | simp only [↓State.keeps_dev] | refine State.keeps_gddrPut _ _ _ ?_ | refine State.keeps_ite ?_ ?_ | split)

theorem State.keeps_calSegment {s0 s : State} (r : Request) (n : Nat) (h : s0.Keeps s) : s0.Keeps (s.calSegment r n) := by
  unfold State.calSegment
  try dsimp only
  repeat' with_reducible (first | assumption | simp only [↓State.keeps_dev] | refine State.keeps_segment _ _ _ _ _ (fun _ _ h => ?_) ?_ | refine State.keeps_calLoad _ _ ?_ | refine State.keeps_ite ?_ ?_ | split)

theorem State.keeps_confWord {s0 s : State} (p : Transit → Bool) (k : Transit → State → State) (hf : ∀ t u, s0.Keeps u → s0.Keeps (k t u)) (h : s0.Keeps s) : s0.Keeps (s.confWord p k) := by
  unfold State.confWord
  try dsimp only
  repeat' with_reducible (first | assumption | simp only [↓State.keeps_dev] | refine hf _ _ ?_ | refine State.keeps_ite ?_ ?_ | split)

theorem State.keeps_popWord {s0 s : State} (tick : Bool) (k : Nat → Transit → State → State) (hf : ∀ i t u, s0.Keeps u → s0.Keeps (k i t u)) (h : s0.Keeps s) : s0.Keeps (s.popWord tick k) := by
  unfold State.popWord
  try dsimp only
  repeat' with_reducible (first | assumption | simp only [↓State.keeps_dev] | refine hf _ _ _ ?_ | refine State.keeps_confWord _ _ (fun _ _ h => ?_) ?_ | refine State.keeps_ite ?_ ?_ | split)

theorem State.keeps_timeStepped {s0 s : State} (cause : Nat) (h : s0.Keeps s) : s0.Keeps (s.timeStepped cause) := by
  unfold State.timeStepped
  try dsimp only
  repeat' with_reducible (first | assumption | simp only [↓State.keeps_dev] | refine State.keeps_fusionStepped  ?_)

theorem State.keeps_timeStep {s0 s : State} (v : Int) (h : s0.Keeps s) : s0.Keeps (s.timeStep v) := by
  unfold State.timeStep
  repeat' with_reducible (first | assumption | simp only [↓State.keeps_dev] | refine State.keeps_timeStepped _ ?_ | refine State.keeps_ite ?_ ?_ | split)

theorem State.keeps_timeOffsetWrite {s0 s : State} (q : Requester) (v : Nat) (h : s0.Keeps s) : s0.Keeps (s.timeOffsetWrite q v) := by
  unfold State.timeOffsetWrite
  try dsimp only
  repeat' with_reducible (first | assumption | simp only [↓State.keeps_dev] | refine State.keeps_timeStep _ ?_ | refine State.keeps_ite ?_ ?_ | split)

theorem State.keeps_servoCorrect {s0 s : State} (e : Int) (h : s0.Keeps s) : s0.Keeps (s.servoCorrect e) := by
  unfold State.servoCorrect
  try dsimp only
  repeat' with_reducible (first | assumption | simp only [↓State.keeps_dev] | refine State.keeps_timeStep _ ?_ | refine State.keeps_ite ?_ ?_ | split)

theorem State.keeps_servo {s0 s : State} (e : Int) (delay : Nat) (identity : List Byte) (h : s0.Keeps s) : s0.Keeps (s.servo e delay identity) := by
  unfold State.servo
  try dsimp only
  repeat' with_reducible (first | assumption | simp only [↓State.keeps_dev] | refine State.keeps_servoCorrect _ ?_ | refine State.keeps_ite ?_ ?_ | split)

theorem State.keeps_reBase {s0 s : State}  (h : s0.Keeps s) : s0.Keeps (s.reBase) := by
  unfold State.reBase
  try dsimp only
  repeat' with_reducible (first | assumption | simp only [↓State.keeps_dev] | refine State.keeps_timeStepped _ ?_ | refine State.keeps_ite ?_ ?_ | split)

theorem State.keeps_linkDown {s0 s : State} (h_ : Nat) (queued : Nat) (h : s0.Keeps s) : s0.Keeps (s.linkDown h_ queued) := by
  unfold State.linkDown
  try dsimp only
  repeat' with_reducible (first | assumption | simp only [↓State.keeps_dev] | refine State.keeps_loadsAborted  ?_ | refine State.keeps_foldl (fun _ _ h => ?_) ?_ | refine State.keeps_ite ?_ ?_ | split)

theorem State.keeps_planLoad {s0 s : State} (p : Nat) (img : List Byte) (h : s0.Keeps s) : s0.Keeps (State.planLoad p img s).1 := by
  unfold State.planLoad
  dsimp only
  split
  · exact h
  · exact State.keeps_planFree _ h

theorem State.keeps_planSegment {s0 s : State} (r : Request) (p : Nat) (h : s0.Keeps s) : s0.Keeps (s.planSegment r p) := by
  unfold State.planSegment
  refine State.keeps_ite h (State.keeps_ite h ?_)
  exact State.keeps_segmentWith _ _ _ _ _ _ (fun _ _ h => State.keeps_planArrive _ _ _ h) (fun _ _ h => State.keeps_planLoad _ _ h) h

theorem State.keeps_phaseRun {s0 s : State} (p : Nat) (q : Nat) (h : s0.Keeps s) : s0.Keeps (s.phaseRun p q) := by
  unfold State.phaseRun
  try dsimp only
  repeat' with_reducible (first | assumption | simp only [↓State.keeps_dev] | refine State.keeps_layerStart _ ?_ | refine State.keeps_foldl (fun _ _ h => ?_) ?_ | refine State.keeps_ite ?_ ?_ | split)

theorem State.keeps_phaseGo {s0 s : State} (p : Nat) (h : s0.Keeps s) : s0.Keeps (s.phaseGo p) := by
  unfold State.phaseGo
  try dsimp only
  repeat' with_reducible (first | assumption | simp only [↓State.keeps_dev] | refine State.keeps_phaseRun _ _ ?_ | refine State.keeps_ite ?_ ?_ | split)

theorem State.keeps_phaseStart {s0 s : State} (p : Nat) (h : s0.Keeps s) : s0.Keeps (s.phaseStart p) := by
  unfold State.phaseStart
  try dsimp only
  repeat' with_reducible (first | assumption | simp only [↓State.keeps_dev] | refine State.keeps_phaseGo _ ?_ | refine State.keeps_ite ?_ ?_ | split)

theorem State.keeps_planRelease {s0 s : State} (p : Nat) (h : s0.Keeps s) : s0.Keeps (s.planRelease p) := by
  unfold State.planRelease
  try dsimp only
  repeat' with_reducible (first | assumption | simp only [↓State.keeps_dev] | refine State.keeps_planFree _ ?_ | refine State.keeps_foldl (fun _ _ h => ?_) ?_)

theorem State.keeps_planCommand {s0 s : State} (q : Requester) (p : Nat) (v : Nat) (h : s0.Keeps s) : s0.Keeps (s.planCommand q p v) := by
  unfold State.planCommand
  try dsimp only
  repeat' with_reducible (first | assumption | simp only [↓State.keeps_dev] | refine State.keeps_planRelease _ ?_ | refine State.keeps_ite ?_ ?_ | split)

theorem State.keeps_planRevoke {s0 s : State} (p : Nat) (h : s0.Keeps s) : s0.Keeps (s.planRevoke p) := by
  unfold State.planRevoke
  try dsimp only
  repeat' with_reducible (first | assumption | simp only [↓State.keeps_dev] | refine State.keeps_planRelease _ ?_ | refine State.keeps_foldl (fun _ _ h => ?_) ?_ | refine State.keeps_ite ?_ ?_ | split)

theorem State.keeps_eachOf {s0 s : State} (n : Nat) (own : Nat → Reg) (t : Nat) (f : Nat → State → State) (hf : ∀ i u, s0.Keeps u → s0.Keeps (f i u)) (h : s0.Keeps s) : s0.Keeps (s.eachOf n own t f) := by
  unfold State.eachOf
  try dsimp only
  repeat' with_reducible (first | assumption | simp only [↓State.keeps_dev] | refine hf _ _ ?_ | refine State.keeps_loop (fun _ _ h => ?_) ?_ | refine State.keeps_ite ?_ ?_ | split)

theorem State.keeps_revokeTenant {s0 s : State} (t : Nat) (h : s0.Keeps s) : s0.Keeps (s.revokeTenant t) := by
  unfold State.revokeTenant
  try dsimp only
  repeat' with_reducible (first | assumption | simp only [↓State.keeps_dev] | refine State.keeps_regionAssign _ _ ?_ | refine State.keeps_clearPad _ ?_ | refine State.keeps_fusionRevoke  ?_ | refine State.keeps_planRevoke _ ?_ | refine State.keeps_eachOf _ _ _ _ (fun _ _ h => ?_) ?_ | refine State.keeps_ite ?_ ?_ | split)

theorem State.keeps_holdExpiry {s0 s : State} (t : Nat) (h : s0.Keeps s) : s0.Keeps (s.holdExpiry t) := by
  unfold State.holdExpiry
  repeat' with_reducible (first | assumption | simp only [↓State.keeps_dev] | refine State.keeps_revokeTenant _ ?_ | refine State.keeps_ite ?_ ?_ | split)

theorem State.keeps_clusterOwnerWrite {s0 s : State} (q : Requester) (c : Nat) (v : Nat) (h : s0.Keeps s) : s0.Keeps (s.clusterOwnerWrite q c v) := by
  unfold State.clusterOwnerWrite
  try dsimp only
  repeat' with_reducible (first | assumption | simp only [↓State.keeps_dev] | refine State.keeps_clearPad _ ?_ | refine State.keeps_ite ?_ ?_ | split)

theorem State.keeps_reach {s0 s : State} (r : Request) (n : Nat) (f : State → State) (hf : ∀ u, s0.Keeps u → s0.Keeps (f u)) (h : s0.Keeps s) : s0.Keeps (s.reach r n f) := by
  unfold State.reach
  try dsimp only
  repeat' with_reducible (first | assumption | simp only [↓State.keeps_dev] | refine hf _ ?_ | refine State.keeps_ite ?_ ?_ | split)

theorem State.keeps_reachAll {s0 : State} (r : Request) (ns : List Nat) (f : State → State) (hf : ∀ u, s0.Keeps u → s0.Keeps (f u)) :
    ∀ {s : State}, s0.Keeps s → s0.Keeps (s.reachAll r ns f) := by
  induction ns with
  | nil => exact hf _
  | cons n ns ih => exact State.keeps_reach _ _ _ (fun _ => ih)

theorem State.keeps_meet {s0 s : State} (r : Request) (f : State → State) (hf : ∀ u, s0.Keeps u → s0.Keeps (f u)) (h : s0.Keeps s) : s0.Keeps (s.meet r f) := by
  unfold State.meet
  repeat' with_reducible (first | assumption | simp only [↓State.keeps_dev] | refine hf _ ?_ | refine State.keeps_ite ?_ ?_ | split)

theorem State.keeps_recoverySegment {s0 s : State} (r : Request) (h : s0.Keeps s) : s0.Keeps (s.recoverySegment r) := by
  unfold State.recoverySegment
  try dsimp only
  repeat' with_reducible (first | assumption | simp only [↓State.keeps_dev] | refine State.keeps_segment _ _ _ _ _ (fun _ _ h => ?_) ?_ | refine State.keeps_ite ?_ ?_ | split)

theorem State.keeps_authorise {s0 s : State} (b : List Byte) (h : s0.Keeps s) : s0.Keeps (s.authorise b).1 := by
  unfold State.authorise
  try dsimp only
  repeat' with_reducible (first | assumption | simp only [↓State.keeps_dev] | refine State.keeps_loadsAborted  ?_ | refine State.keeps_revokeTenant _ ?_ | refine State.keeps_loop (fun _ _ h => ?_) ?_ | refine State.keeps_ite ?_ ?_ | split)

theorem State.keeps_debugSegment {s0 s : State} (r : Request) (h : s0.Keeps s) : s0.Keeps (s.debugSegment r) := by
  unfold State.debugSegment
  try dsimp only
  repeat' with_reducible (first | assumption | simp only [↓State.keeps_dev] | refine State.keeps_segment _ _ _ _ _ (fun _ _ h => ?_) ?_ | refine State.keeps_authorise _ ?_)

theorem State.keeps_domainDown {s0 s : State} (n : Nat) (h : s0.Keeps s) : s0.Keeps (s.domainDown n) := by
  unfold State.domainDown
  repeat' with_reducible (first | assumption | simp only [↓State.keeps_dev] | refine State.keeps_linkDown _ _ ?_ | refine State.keeps_ite ?_ ?_ | split)

theorem State.keeps_entryDone {s0 s : State} (n : Nat) (h : s0.Keeps s) : s0.Keeps (s.entryDone n) := by
  unfold State.entryDone
  try dsimp only
  repeat' with_reducible (first | assumption | simp only [↓State.keeps_dev] | refine State.keeps_domainDown _ ?_ | refine State.keeps_foldl (fun _ _ h => ?_) ?_ | refine State.keeps_ite ?_ ?_ | split)

theorem State.keeps_domainFresh {s0 s : State} (n : Nat) (h : s0.Keeps s) : s0.Keeps (s.domainFresh n) := by
  unfold State.domainFresh
  repeat' with_reducible (first | assumption | simp only [↓State.keeps_dev] | refine State.keeps_clearPad _ ?_ | refine State.keeps_ite ?_ ?_ | split)

theorem State.keeps_wakeDone {s0 s : State} (n : Nat) (failed : List Nat) (h : s0.Keeps s) : s0.Keeps (s.wakeDone n failed) := by
  unfold State.wakeDone
  try dsimp only
  repeat' with_reducible (first | assumption | simp only [↓State.keeps_dev] | refine State.keeps_domainFresh _ ?_ | refine State.keeps_ite ?_ ?_ | split)

theorem State.keeps_rimFailed {s0 s : State}  (h : s0.Keeps s) : s0.Keeps (s.rimFailed) := by
  unfold State.rimFailed
  try dsimp only
  repeat' with_reducible (first | assumption | simp only [↓State.keeps_dev] | refine State.keeps_linkDown _ _ ?_ | refine State.keeps_loop (fun _ _ h => ?_) ?_ | refine State.keeps_ite ?_ ?_ | split)

theorem State.keeps_resumed {s0 s : State}  (h : s0.Keeps s) : s0.Keeps (s.resumed) := by
  unfold State.resumed
  try dsimp only
  repeat' with_reducible (first | assumption | simp only [↓State.keeps_dev] | refine State.keeps_fusionStepped  ?_ | refine State.keeps_ite ?_ ?_ | split)

theorem State.keeps_ringRead {s0 s : State} (a : Nat) (h : s0.Keeps s) : s0.Keeps (s.ringRead a).1 := by
  unfold State.ringRead
  try dsimp only
  repeat' with_reducible (first | assumption | simp only [↓State.keeps_dev] | refine State.keeps_ite ?_ ?_ | split)

theorem State.keeps_readout {s0 s : State} (addr : Option Nat) (h : s0.Keeps s) : s0.Keeps (s.readout addr) := by
  unfold State.readout
  try dsimp only
  repeat' with_reducible (first | assumption | simp only [↓State.keeps_dev] | refine State.keeps_ringRead _ ?_ | refine State.keeps_ite ?_ ?_ | split)

theorem State.keeps_powerOnReset {s0 s : State} (v : Nat) (puf still cool : Bool) (h : s0.Keeps s) : s0.Keeps (s.powerOnReset v puf still cool) :=
  h.mem (fun _ => Mem.wf_empty)

theorem State.keeps_suppliesLost {s0 s : State} (h : s0.Keeps s) : s0.Keeps s.suppliesLost := h.mem (fun _ => Mem.wf_empty)

theorem State.keeps_warmReset {s0 s : State} (puf : Bool) (h : s0.Keeps s) : s0.Keeps (s.warmReset puf) :=
  State.keeps_ite h (h.mem (fun _ => Mem.wf_empty))

theorem State.keeps_baseDown {s0 s : State} (h : s0.Keeps s) : s0.Keeps s.baseDown := by
  unfold State.baseDown
  split
  · refine State.keeps_ite ?_ h
    have k (d : Dev) (p : Nat) : s0.Keeps ((State.linkDown ⟨d, s.mem, s.pending⟩ (2 * (p / 2)) 0).linkDown (2 * (p / 2) + 1) 0) :=
      State.keeps_linkDown _ _ (State.keeps_linkDown _ _ h)
    exact (k _ _).mem (fun w => ⟨rfl, w.2.1, rfl, rfl, w.2.2.2.2⟩)
  · exact h

theorem State.keeps_baseWoken {s0 s : State} (puf : Bool) (h : s0.Keeps s) : s0.Keeps (s.baseWoken puf) := h.mem (fun _ => Mem.wf_empty)

theorem State.keeps_writeScalar {s0 s : State} (r : Request) (reg : Reg) (h : s0.Keeps s) : s0.Keeps (s.writeScalar r reg) := by
  unfold State.writeScalar
  try dsimp only
  repeat' with_reducible (first | assumption | simp only [↓State.keeps_dev] | refine State.keeps_regionOwnerWrite _ _ _ ?_ | refine State.keeps_fusionCommandDo _ _ ?_ | refine State.keeps_timeOffsetWrite _ _ ?_ | refine State.keeps_clusterOwnerWrite _ _ _ ?_ | refine State.keeps_ite ?_ ?_ | split)

theorem State.keeps_writeBytes {s0 s : State} (r : Request) (h : s0.Keeps s) : s0.Keeps (s.writeBytes r) := by
  unfold State.writeBytes
  try dsimp only
  repeat' with_reducible (first | assumption | simp only [↓State.keeps_dev] | refine State.keeps_ite ?_ ?_ | split)

theorem State.keeps_gridSegment {s0 s : State} (r : Request) (n : Nat) (h : s0.Keeps s) : s0.Keeps (s.gridSegment r n) := by
  unfold State.gridSegment
  try dsimp only
  repeat' with_reducible (first | assumption | simp only [↓State.keeps_dev] | refine State.keeps_segment _ _ _ _ _ (fun _ _ h => ?_) ?_)

theorem State.keeps_plainSegment {s0 s : State} (r : Request) (start : Status) (max : Nat) (ok : List Byte → Status) (h : s0.Keeps s) : s0.Keeps (s.plainSegment r start max ok) := by
  unfold State.plainSegment
  try dsimp only
  repeat' with_reducible (first | assumption | simp only [↓State.keeps_dev] | refine State.keeps_segment _ _ _ _ _ (fun _ _ h => ?_) ?_ | refine State.keeps_ite ?_ ?_ | split)

theorem State.keeps_sessionSegment {s0 s : State} (r : Request) (h_ : Fin 4) (h : s0.Keeps s) : s0.Keeps (s.sessionSegment r h_) := by
  unfold State.sessionSegment
  try dsimp only
  repeat' with_reducible (first | assumption | simp only [↓State.keeps_dev] | refine State.keeps_segment _ _ _ _ _ (fun _ _ h => ?_) ?_ | refine State.keeps_ite ?_ ?_ | split)

theorem State.keeps_writeSegment {s0 s : State} (r : Request) (max : Nat) (h : s0.Keeps s) : s0.Keeps (s.writeSegment r max) := by
  unfold State.writeSegment
  try dsimp only
  repeat' with_reducible (first | assumption | simp only [↓State.keeps_dev] | refine State.keeps_segment _ _ _ _ _ (fun _ _ h => ?_) ?_ | refine State.keeps_recoverySegment _ ?_ | refine State.keeps_debugSegment _ ?_ | refine State.keeps_gridSegment _ _ ?_ | refine State.keeps_plainSegment _ _ _ _ ?_ | refine State.keeps_sessionSegment _ _ ?_ | refine State.keeps_ite ?_ ?_ | split)

theorem State.keeps_writeEffect {s0 s : State} (r : Request) (row : ObjRow) (h : s0.Keeps s) : s0.Keeps (s.writeEffect r row) := by
  unfold State.writeEffect
  repeat' with_reducible (first | assumption | simp only [↓State.keeps_dev] | refine State.keeps_writeScalar _ _ ?_ | refine State.keeps_writeBytes _ ?_ | refine State.keeps_writeSegment _ _ ?_ | split)

theorem State.keeps_writeDo {s0 s : State} (r : Request) (h : s0.Keeps s) : s0.Keeps (s.writeDo r) := by
  unfold State.writeDo
  try dsimp only
  repeat' with_reducible (first | assumption | simp only [↓State.keeps_dev] | refine State.keeps_calSegment _ _ ?_ | refine State.keeps_planSegment _ _ ?_ | refine State.keeps_planCommand _ _ _ ?_ | refine State.keeps_reachAll _ _ _ (fun _ h => ?_) ?_ | refine State.keeps_writeEffect _ _ ?_ | refine State.keeps_ite ?_ ?_ | split)

theorem State.keeps_writeIfDo {s0 s : State} (r : Request) (h : s0.Keeps s) : s0.Keeps (s.writeIfDo r) := by
  unfold State.writeIfDo
  try dsimp only
  repeat' with_reducible (first | assumption | simp only [↓State.keeps_dev] | refine State.keeps_reachAll _ _ _ (fun _ h => ?_) ?_ | refine State.keeps_writeEffect _ _ ?_ | refine State.keeps_ite ?_ ?_ | split)

theorem State.keeps_readDo {s0 s : State} (r : Request) (h : s0.Keeps s) : s0.Keeps (s.readDo r) := by
  unfold State.readDo
  try dsimp only
  repeat' with_reducible (first | assumption | simp only [↓State.keeps_dev] | refine State.keeps_reachAll _ _ _ (fun _ h => ?_) ?_ | refine State.keeps_ite ?_ ?_ | split)

theorem State.keeps_readRecordDo {s0 s : State} (r : Request) (h : s0.Keeps s) : s0.Keeps (s.readRecordDo r) := by
  unfold State.readRecordDo
  try dsimp only
  repeat' with_reducible (first | assumption | simp only [↓State.keeps_dev] | refine State.keeps_reachAll _ _ _ (fun _ h => ?_) ?_ | refine State.keeps_foldl (fun _ _ h => ?_) ?_ | refine State.keeps_ite ?_ ?_ | split)

theorem State.keeps_describeDo {s0 s : State} (r : Request) (h : s0.Keeps s) : s0.Keeps (s.describeDo r) := by
  unfold State.describeDo
  try dsimp only
  repeat' with_reducible (first | assumption | simp only [↓State.keeps_dev] | refine State.keeps_ite ?_ ?_ | split)

theorem State.keeps_doRequest {s0 s : State} (r : Request) (h : s0.Keeps s) : s0.Keeps (s.doRequest r) := by
  unfold State.doRequest
  try dsimp only
  repeat' with_reducible (first | assumption | simp only [↓State.keeps_dev] | refine State.keeps_loadsAborted  ?_ | refine State.keeps_reachAll _ _ _ (fun _ h => ?_) ?_ | refine State.keeps_writeDo _ ?_ | refine State.keeps_writeIfDo _ ?_ | refine State.keeps_readDo _ ?_ | refine State.keeps_readRecordDo _ ?_ | refine State.keeps_describeDo _ ?_ | refine State.keeps_ite ?_ ?_ | split)

theorem State.keeps_served {s0 s : State} (k : Fin 2) (h : s0.Keeps s) : s0.Keeps (s.served k) := by
  unfold State.served
  try dsimp only
  repeat' with_reducible (first | assumption | simp only [↓State.keeps_dev])

theorem State.keeps_omtosRequest {s0 s : State} (k : Fin 2) (n : Nat) (f : State → State) (hf : ∀ u, s0.Keeps u → s0.Keeps (f u)) (h : s0.Keeps s) : s0.Keeps (s.omtosRequest k n f) := by
  unfold State.omtosRequest
  repeat' with_reducible (first | assumption | simp only [↓State.keeps_dev] | refine hf _ ?_ | refine State.keeps_served _ ?_ | split)

theorem State.keeps_arrive {s0 s : State} (r : Request) (e : Envelope) (f : State → State) (hf : ∀ u, s0.Keeps u → s0.Keeps (f u)) (h : s0.Keeps s) : s0.Keeps (s.arrive r e f) := by
  unfold State.arrive
  try dsimp only
  repeat' with_reducible (first | assumption | simp only [↓State.keeps_dev] | refine hf _ ?_ | refine State.keeps_meet _ _ (fun _ h => ?_) ?_ | refine State.keeps_omtosRequest _ _ _ (fun _ h => ?_) ?_ | refine State.keeps_ite ?_ ?_ | split)

/-! ### The forms that the meanings share -/

/-- Every next state of `o` keeps what `s` had. -/
def State.Lands (s : State) (o : Host.Outcome State Fault Refusal) : Prop := ∀ t, o = .next t → s.Keeps t

theorem State.lands_next {s t : State} (h : s.Keeps t) : s.Lands (.next t) := by
  intro u hu
  cases hu
  exact h

theorem State.lands_act (s : State) (f : Dev → Dev) : s.Lands (s.act f) := State.lands_next (State.keeps_ite (.refl s) (.refl s))

theorem State.lands_run (s : State) (f : Dev → Dev) : s.Lands (s.run f) := State.lands_next (State.keeps_ite (.refl s) (.refl s))

theorem State.lands_runIn (s : State) (n : Nat) (f : Dev → Dev) : s.Lands (s.runIn n f) := State.lands_run _ _

theorem State.lands_runM (s : State) {f : State → State} (hf : ∀ u, s.Keeps u → s.Keeps (f u)) : s.Lands (s.runM f) :=
  State.lands_next (State.keeps_ite (hf _ (.refl s)) (.refl s))

theorem State.lands_runInM (s : State) (n : Nat) {f : State → State} (hf : ∀ u, s.Keeps u → s.Keeps (f u)) : s.Lands (s.runInM n f) :=
  State.lands_runM s (fun u h => State.keeps_ite (hf u h) h)

theorem State.lands_framed (s : State) (i : Instr) {f : State → State} (hf : ∀ u, s.Keeps u → s.Keeps (f u)) : s.Lands (s.framed i f) :=
  State.lands_next (State.keeps_ite (hf _ (.refl s)) (State.keeps_ite (.refl s) (.refl s)))

theorem State.lands_unheld (s : State) {f : State → State} (hf : ∀ u, s.Keeps u → s.Keeps (f u)) : s.Lands (s.unheld f) :=
  State.lands_next (State.keeps_ite (hf _ (.refl s)) (State.keeps_ite (.refl s) (.refl s)))

theorem State.lands_request (s : State) (r : Request) {f : State → State} (hf : ∀ u, s.Keeps u → s.Keeps (f u)) : s.Lands (s.request r f) := by
  refine State.lands_next (State.keeps_ite (State.keeps_meet _ _ hf (.refl s)) (State.keeps_ite ?_ (.refl s)))
  split <;> exact .refl s

theorem State.lands_askedM (s : State) (q : Requester) (r : Reg) (v : Nat) {k : State → State} (hk : ∀ u, s.Keeps u → s.Keeps (k u)) :
    s.Lands (s.askedM q r v k) :=
  State.lands_request s _ (fun _ h => State.keeps_ite (State.keeps_reachAll _ _ _ hk h) h)

theorem State.lands_asked (s : State) (q : Requester) (r : Reg) (v : Nat) (k : Dev → Dev) : s.Lands (s.asked q r v k) :=
  State.lands_askedM s q r v (fun _ h => h)

theorem State.lands_askedBytes (s : State) (q : Requester) (r : Reg) (bs : List Byte) {k : State → State} (hk : ∀ u, s.Keeps u → s.Keeps (k u)) :
    s.Lands (s.askedBytes q r bs k) := State.lands_request s _ (fun u h => State.keeps_ite (hk u h) h)

theorem State.lands_askedSegment (s : State) (q : Requester) (r : Reg) (g : Seg) {k : Request → State → State}
    (hk : ∀ x u, s.Keeps u → s.Keeps (k x u)) : s.Lands (s.askedSegment q r g k) :=
  State.lands_request s _ (fun u h => State.keeps_ite (hk _ u h) h)

theorem State.lands_planAsked (s : State) (q : Requester) (p v : Nat) : s.Lands (s.planAsked q p v) :=
  State.lands_request s _ (fun _ h => State.keeps_ite (State.keeps_planCommand _ _ _ h) h)

theorem State.lands_windowAsk (s : State) (r : Request) : s.Lands (s.windowAsk r) :=
  State.lands_request s _ (fun u h => State.keeps_reachAll r (u.dev.needs r) (fun s => { s with dev := s.dev.windowDo r }) (fun _ h => h) h)

theorem State.lands_weirOpAsk (s : State) (r : Request) : s.Lands (s.weirOpAsk r) :=
  State.lands_request s _ (fun u h => State.keeps_ite
    (State.keeps_reachAll r (u.dev.needs r) (fun s => { s with dev := s.dev.weirOpDo r.q r.data }) (fun _ h => h) h) h)

theorem State.lands_carried (s : State) (r : Request) (e : Envelope) : s.Lands (s.carried r e) := by
  refine State.lands_next (State.keeps_ite (.refl s) (State.keeps_ite (State.keeps_arrive _ _ _ (fun _ h => State.keeps_doRequest _ h) (.refl s))
    (State.keeps_ite ?_ (.refl s))))
  dsimp only
  split
  · split <;> exact .refl s
  · exact State.keeps_ite (.refl s) (.refl s)
  · exact .refl s
  · exact .refl s

theorem State.keeps_again {s0 s : State} (r : Request) (h : s0.Keeps s) : s0.Keeps (s.again r) := by
  unfold State.again
  try dsimp only
  repeat' with_reducible (first | assumption | simp only [↓State.keeps_dev] | refine State.keeps_doRequest _ ?_ | refine State.keeps_served _ ?_ | refine State.keeps_ite ?_ ?_ | split)

theorem State.keeps_release {s0 s : State} (n : Nat) (h : s0.Keeps s) : s0.Keeps (s.release n) := by
  unfold State.release
  try dsimp only
  repeat' with_reducible (first | assumption | simp only [↓State.keeps_dev] | refine State.keeps_again _ ?_ | refine State.keeps_foldl (fun _ _ h => ?_) ?_)

theorem State.keeps_entryEnd {s0 s : State} (n : Nat) (h : s0.Keeps s) : s0.Keeps (s.entryEnd n) := by
  unfold State.entryEnd
  repeat' with_reducible (first | assumption | simp only [↓State.keeps_dev] | refine State.keeps_entryDone _ ?_ | refine State.keeps_release _ ?_ | refine State.keeps_ite ?_ ?_ | split)

theorem State.keeps_wakeEnd {s0 s : State} (n : Nat) (failed : List Nat) (puf : Bool) (h : s0.Keeps s) : s0.Keeps (s.wakeEnd n failed puf) := by
  unfold State.wakeEnd
  repeat' with_reducible (first | assumption | simp only [↓State.keeps_dev] | refine State.keeps_wakeDone _ _ ?_ | refine State.keeps_baseWoken _ ?_ | refine State.keeps_release _ ?_ | refine State.keeps_ite ?_ ?_ | split)

theorem State.keeps_rimRequest {s0 s : State} (r : Request) (h : s0.Keeps s) : s0.Keeps (s.rimRequest r) := by
  unfold State.rimRequest
  try dsimp only
  repeat' with_reducible (first | assumption | simp only [↓State.keeps_dev] | refine State.keeps_meet _ _ (fun _ h => ?_) ?_ | refine State.keeps_doRequest _ ?_ | refine State.keeps_omtosRequest _ _ _ (fun _ h => ?_) ?_ | refine State.keeps_ite ?_ ?_ | split)

theorem State.keeps_replay {s0 s : State} (i : Instr) (h : s0.Keeps s) : s0.Keeps (s.replay i) := by
  unfold State.replay
  extract_lets z
  have hz : s.Lands z := by
    unfold z
    split
    · exact State.lands_framed s _ (fun _ h => State.keeps_ite h h)
    · exact State.lands_framed s _ (fun _ h => h)
    · exact State.lands_framed s _ (fun _ h => h)
    · exact State.lands_framed s _ (fun _ h => h)
    · exact State.lands_framed s _ (fun _ h => h)
    · exact State.lands_next (.refl s)
  clear_value z
  cases z with
  | next t => exact h.trans (hz t rfl)
  | fault _ => exact h
  | refused _ => exact h

theorem State.keeps_rimRelease {s0 : State} : ∀ (n : Nat) (rs : List (Nat × Request)) (fs : List (Nat × Instr)) {s : State}, s0.Keeps s →
    s0.Keeps (State.rimRelease n rs fs s)
  | 0, _, _, _, h => by simpa [State.rimRelease] using h
  | n + 1, [], [], _, h => by simpa [State.rimRelease] using h
  | n + 1, r :: rs, [], _, h => by
    simp only [State.rimRelease]
    exact State.keeps_rimRelease n rs [] (State.keeps_rimRequest _ h)
  | n + 1, [], f :: fs, _, h => by
    simp only [State.rimRelease]
    exact State.keeps_rimRelease n [] fs (State.keeps_replay _ h)
  | n + 1, r :: rs, f :: fs, _, h => by
    simp only [State.rimRelease]
    exact State.keeps_ite (State.keeps_rimRelease n rs (f :: fs) (State.keeps_rimRequest _ h))
      (State.keeps_rimRelease n (r :: rs) fs (State.keeps_replay _ h))

theorem State.keeps_stillResume {s0 s : State} (h : s0.Keeps s) : s0.Keeps s.stillResume := by
  unfold State.stillResume
  refine State.keeps_ite h ?_
  dsimp only
  refine State.keeps_rimRelease _ _ _ ((State.keeps_dev s0 _ _).2 (State.keeps_loadsAborted ((State.keeps_dev s0 _ _).2 (State.keeps_rimFailed ?_))))
  exact (State.keeps_dev s0 _ _).2 h

theorem State.keeps_resumeEnd {s0 s : State}  (h : s0.Keeps s) : s0.Keeps (s.resumeEnd) := by
  unfold State.resumeEnd
  try dsimp only
  repeat' with_reducible (first | assumption | simp only [↓State.keeps_dev] | refine State.keeps_resumed  ?_ | refine State.keeps_ite ?_ ?_ | split)


/-! ### The Ferries (chapter 9) -/

theorem Move.keeps_readWord {s0 : State} {m : Move} (cl : List Clash) (c w : Nat) (h : s0.Keeps m.s) : s0.Keeps (m.readWord cl c w).1.s := by
  unfold Move.readWord
  split
  · exact State.keeps_padMasked _ _ _ _ h
  · exact State.keeps_padWord _ _ _ h

theorem Move.keeps_readPad {s0 : State} {m : Move} (cl : List Clash) (c a n : Nat) (h : s0.Keeps m.s) : s0.Keeps (m.readPad cl c a n).1.s := by
  unfold Move.readPad
  refine foldl_holds (fun z : Move × List (Byte × Bool) => s0.Keeps z.1.s) _ ?_ _ h
  intro z w hz
  exact Move.keeps_readWord _ _ _ hz

theorem Move.keeps_writeWord {s0 : State} {m : Move} (cl : List Clash) (c w o : Nat) (bs : List (Byte × Bool)) (h : s0.Keeps m.s) :
    s0.Keeps (m.writeWord cl c w o bs).s := by
  unfold Move.writeWord
  dsimp only
  split
  · exact State.keeps_padWrite _ _ _ _ h
  · exact State.keeps_padWrite _ _ _ _ h
  · split
    · exact State.keeps_padWrite _ _ _ _ h
    · exact State.keeps_padMasked _ _ _ _ h

theorem Move.keeps_writePad {s0 : State} {m : Move} (cl : List Clash) (c a : Nat) (bs : List (Byte × Bool)) (h : s0.Keeps m.s) :
    s0.Keeps (m.writePad cl c a bs).s := by
  unfold Move.writePad
  exact foldl_holds (fun z : Move => s0.Keeps z.s) _ (fun _ _ hz => Move.keeps_writeWord _ _ _ _ _ hz) _ h

theorem Move.keeps_readGddr {s0 : State} {m : Move} (f : Fin 40) (t a n : Nat) (h : s0.Keeps m.s) : s0.Keeps (m.readGddr f t a n).1.s := by
  unfold Move.readGddr
  refine foldl_holds (fun z : Move × List (Byte × Bool) => s0.Keeps z.1.s) _ ?_ _ h
  intro z w hz
  exact State.keeps_blockRead _ _ _ hz

theorem Move.keeps_readHost {s0 : State} {m : Move} (t : Nat) (a : Int) (n : Nat) (h : s0.Keeps m.s) : s0.Keeps (m.readHost t a n).1.s := by
  unfold Move.readHost
  split
  · exact h
  · dsimp only
    split <;> exact h

theorem Move.keeps_readRow {s0 : State} {m : Move} (cl : List Clash) (f : Fin 40) (t space : Nat) (a : Int) (n : Nat) (h : s0.Keeps m.s) :
    s0.Keeps (m.readRow cl f t space a n).1.s := by
  unfold Move.readRow
  split
  · exact h
  · split
    · refine foldl_holds (fun z : Move × List (Byte × Bool) => s0.Keeps z.1.s) _ ?_ _ h
      intro z p hz
      exact Move.keeps_readPad _ _ _ _ hz
    · exact Move.keeps_readGddr _ _ _ _ h
    · exact Move.keeps_readHost _ _ _ h

theorem Move.keeps_writeRow {s0 : State} {m : Move} (cl : List Clash) (f : Fin 40) (t space : Nat) (a : Int) (bs : List (Byte × Bool)) (h : s0.Keeps m.s) :
    s0.Keeps (m.writeRow cl f t space a bs).s := by
  unfold Move.writeRow
  split
  · exact h
  · dsimp only
    split
    · refine foldl_holds (fun z : Move × List (Byte × Bool) => s0.Keeps z.1.s) _ ?_ _ h
      intro z p hz
      exact Move.keeps_writePad _ _ _ _ hz
    · unfold Move.writeGddr
      exact State.keeps_gddrWrite (s := ⟨m.s.dev.bumpBy (Obj.ferryBytes f.val) bs.length, m.s.mem, m.s.pending⟩) t a.toNat bs h
    · split <;> exact h

theorem Move.keeps_copyRow {s0 : State} {m : Move} (cl : List Clash) (f : Fin 40) (t : Nat) (d : Desc) (p : Int × Int) (h : s0.Keeps m.s) :
    s0.Keeps (m.copyRow cl f t d p).s := by
  unfold Move.copyRow
  split
  · exact h
  · split
    · exact h
    · dsimp only
      split
      · exact Move.keeps_readRow _ _ _ _ _ _ h
      · exact Move.keeps_writeRow _ _ _ _ _ _ (Move.keeps_readRow _ _ _ _ _ _ h)

theorem Move.keeps_snapshotRow {s0 : State} {m : Move} (cl : List Clash) (f : Fin 40) (t : Nat) (d : Desc) (ps : List (BitVec 12 × BitVec 12)) (y : Nat)
    (h : s0.Keeps m.s) : s0.Keeps (m.snapshotRow cl f t d ps y).s := by
  unfold Move.snapshotRow
  dsimp only
  split
  · exact h
  · split
    · exact h
    · exact Move.keeps_writeRow _ _ _ _ _ _ h

theorem Move.keeps_snapshot {s0 : State} {m : Move} (cl : List Clash) (f : Fin 40) (t : Nat) (d : Desc) (ps : List (BitVec 12 × BitVec 12))
    (h : s0.Keeps m.s) : s0.Keeps (m.snapshot cl f t d ps).s := by
  unfold Move.snapshot
  extract_lets n rows
  have k := foldl_holds (fun z : Move => s0.Keeps z.s) (fun (m : Move) (y : Nat) => m.snapshotRow cl f t d ps y)
    (fun _ _ hz => Move.keeps_snapshotRow _ _ _ _ _ _ hz) (List.range rows) h
  split
  · exact k
  · exact Move.keeps_writeRow _ _ _ _ _ _ k

theorem Move.keeps_run {s0 : State} {m : Move} (cl : List Clash) (f : Fin 40) (t : Nat) (d : Desc) (ps : List (BitVec 12 × BitVec 12)) (h : s0.Keeps m.s) :
    s0.Keeps (m.run cl f t d ps).s := by
  unfold Move.run
  split
  · exact h
  · split
    · exact h
    · split
      · exact Move.keeps_snapshot _ _ _ _ _ h
      · refine foldl_holds (fun z : Move => s0.Keeps z.s) _ ?_ _ h
        intro z p hz
        split
        · exact hz
        · exact Move.keeps_writeRow _ _ _ _ _ _ hz
      · dsimp only
        have k : s0.Keeps (if d.indexed then m.readRow cl f t d.indexSpace d.indexAddr (4 * d.planes) else (m, [])).1.s := by
          split
          · exact Move.keeps_readRow _ _ _ _ _ _ h
          · exact h
        generalize (if d.indexed then m.readRow cl f t d.indexSpace d.indexAddr (4 * d.planes) else (m, [])) = r at k ⊢
        split
        · exact k
        · split
          · exact k
          · exact foldl_holds (fun z : Move => s0.Keeps z.s) _ (fun _ _ hz => Move.keeps_copyRow _ _ _ _ _ hz) _ k

theorem State.keeps_descMove {s0 s : State} (f : Fin 40) (t : Nat) (d : Desc) (host : Option (List Byte)) (cl : List Clash) (w : List (Fin 128 × Nat))
    (ps : List (BitVec 12 × BitVec 12)) (h : s0.Keeps s) : s0.Keeps (s.descMove f t d host cl w ps) := by
  unfold State.descMove
  dsimp only
  generalize hd : List.foldl _ _ w = d0
  have k : s0.Keeps (Move.run { s := { s with dev := d0 }, host := host } cl f t d ps).s := Move.keeps_run _ _ _ _ _ h
  generalize Move.run { s := { s with dev := d0 }, host := host } cl f t d ps = m at k ⊢
  exact State.keeps_ite (k.mem id) (State.keeps_ite (k.mem id) (k.mem id))

theorem State.keeps_descFetch {s0 s : State} (f : Fin 40) (a : Nat) (h : s0.Keeps s) : s0.Keeps (s.descFetch f a) :=
  State.keeps_ite h (State.keeps_blockRead _ _ _ h)

theorem State.keeps_descriptorRun {s0 s : State} (f : Fin 40) (host : Option (List Byte)) (cl : List Clash) (w : List (Fin 128 × Nat))
    (ps : List (BitVec 12 × BitVec 12)) (h : s0.Keeps s) : s0.Keeps (s.descriptorRun f host cl w ps) := by
  unfold State.descriptorRun
  split
  · exact h
  · dsimp only
    repeat' with_reducible (first | assumption | refine State.keeps_descMove _ _ _ _ _ _ _ ?_ | refine State.keeps_descFetch _ _ ?_ | simp only [↓State.keeps_dev] | split)

end Sys2Proof.Machine
end

