-- ==== Sys2Proof/Tests/Slice0.lean ====
section
/-! SUPPORT. The model's own tests: an ill-formed term for each check of well-formedness, known answers from the spec's worked examples, and
for each statement a state that meets the hypotheses of each of its clauses. -/

namespace Sys2Proof.Tests

open Sys2Proof Sys2Proof.Machine

set_option Elab.async false

/-! ### Small states -/

/-- A device with two hosts: tenant 0, the custodian too, on port 0, and tenant 1 on port 1. -/
def hostDev : Dev :=
  let bound (p t : Nat) (c : Bool) (d : Dev) : Dev := ((d.setF (Obj.attachState p) 0 3 2).setF (Obj.attachState p) 8 4 t).setBit (Obj.attachState p) 13 c
  bound 1 1 false (bound 0 0 true {})
/-- A state built from it. -/
def st (f : Dev → Dev) : State := { dev := f hostDev }
/-- Mailbox 0 of that port. -/
def q0 : Requester := .mailbox 0 0
/-- Mailbox 0 of port 1, tenant 1. -/
def q1 : Requester := .mailbox 1 0
/-- A one-step event message. -/
def ptp0 : PtpMessage := { type := .sync, twoStep := false, number := 1, correction := 5, transport := 0, checksum := 0, trailer := 0 }
/-- A cluster in domain state `k`. -/
def cl (k : Nat) (d : Dev) : Dev := d.setF (Obj.domainState 5) 0 3 k
/-- Weir block 0 belongs to tenant 0. -/
def own (d : Dev) : Dev := d.wr (Obj.weirBlockOwner 0) 0
/-- Plan slot 3 in state `k`, tenant 0's. -/
def plan (k : Nat) (d : Dev) : Dev := (d.wr (Obj.planState 3) k).wr (Obj.planOwner 3) 0
/-- A population of two neurons on unit 0 of cluster 5, fed through source slot 4. -/
def pe0 : PopEntry :=
  { number := 0, width := 2, height := 1, channels := 1, tickLength := 1000, tickOrigin := 0, threshold := 9, leakMode := 0, resetMode := 0, multiplicity := 0,
    refractory := 0, leakParam := 0, horizonTimeout := 0, gateMask := 0, countTicks := 0, countPool := 1, countFormat := 4, countWeir := 0, phaseMask := 1,
    map := [⟨5, 0, 0, 0, 2⟩], routes := [], projections := [], slots := [⟨4, 0, 0, 5⟩] }
/-- ClusterHealth of cluster 5 reads `v`. -/
def health (v : Nat) (d : Dev) : Dev := { d with dict := d.dict ++ [((Obj.clusterHealth 5).key, v)] }
/-- Cluster 5 is in service, its slots are sound and slot 0 is the spare. -/
def sound (d : Dev) : Dev := health 4 d
/-- Every cluster is in service and sound. -/
def allSound (d : Dev) : Dev := { d with dict := d.dict ++ (List.range 128).map (fun c => ((Obj.clusterHealth c).key, 4)) }
/-- That population, of plan slot 3, running with handle 7 and what `x` says of its cluster, and words on their way to it. -/
def popOn (x : PopCluster) (words : List Transit) (d : Dev) : Dev :=
  { ((sound d).wr (Obj.popState 7) 2).wr (Obj.clusterMode 5) 1 with
    pops := [(7, { slot := 3, entry := 0, clusters := [x] })], plans := [(3, { pops := [pe0] })], transit := words, unitMap := [(80, 1)] }
/-- The population with a 1 × 1 kernel over its source slot, a population's: one INT8 weight of 5. -/
def pe1 : PopEntry :=
  { pe0 with slots := [⟨4, 1, 0, 5⟩], projections := [⟨0, 0, 0, 0, 0, 4, 1, 1, 3, 0, 0, 8, 0, 1⟩] }
/-- That population in place of the other. -/
def kernel (d : Dev) : Dev := { d with plans := [(3, { pops := [pe1], blobs := [⟨0, 3, [5]⟩] })] }
/-- A word for that population from another one: its low bits. -/
def spike (w : Nat) : Transit := { dest := .population 7 5 4, route := 2 ^ 24, word := w }
/-- A fault-queue entry of class `c` for element `e`. -/
def fe (c : Nat) (e : Elem) (ph : FaultPhase) : FaultEntry := { seq := 1, cls := c, elem := e, detail := 0, time := 0, phase := ph }
/-- Queue `q` with that entry at its head. -/
def queued (q : Nat) (e : FaultEntry) (d : Dev) : Dev := { sound d with faultQ := [(q, { entries := [e], nextSeq := 2 })], unitMap := [(80, 1)] }
/-- Stream 4 of tenant 0 in state `k`, with what `x` says. -/
def stream (k : Nat) (x : Stream) (d : Dev) : Dev := { (d.setSt 4 k).wr (Obj.streamTenant 4) 0 with streams := [(4, x)] }
/-- The same matched to profile 2: 16-bit words of type 0, whose table entry is `e`. -/
def profiled (e : Nat) (d : Dev) : Dev :=
  (((((d.setF (Obj.streamState 4) 16 8 2).wr (Obj.wordBits 2) 16).wr (Obj.typeLsb 2) 12).wr (Obj.typeBits 2) 4).wr (Obj.pixelWidth 2) 100).wr (Obj.pixelHeight 2) 100
    |>.setBlob (Obj.decodeTable 2) (leBytes 8 e)
/-- A layer of operation `op` over one INT8 element on cluster 5. -/
def le0 (op : Nat) : LayerEntry :=
  { number := 0, op := op, mapping := 0, inC := 1, inH := 1, inW := 1, inFormat := 4, outFormat := 4, outC := 1, kh := 1, kw := 1, sy := 1, sx := 1, dy := 1, dx := 1,
    groups := 1, padMode := 0, padT := 0, padB := 0, padL := 0, padR := 0, rounding := 0, param := 0, weightFormat := 4, weir := 0, weights := 0xFFFF,
    convert := 0xFFFF, activation := 0xFFFF, phaseMask := 1, input := 0, input2 := 0, output := 64, inLayer := 0xFFFF, inLayer2 := 0xFFFF,
    stripes := [⟨5, 0, 1, 0, 64⟩], halos := [], buildSource := 4, buildBins := 1, buildWindow := 1000, buildOrigin := 0, buildTimeout := 0, buildControl := 0,
    surfaceSpan := 0 }
/-- It running with handle 9 and what `z` says, and words on their way to it. -/
def layerOn (op : Nat) (z : Layer) (words : List Transit) (d : Dev) : Dev :=
  { ((sound d).wr (Obj.layerState 9) 2).wr (Obj.clusterMode 5) 2 with
    layers := [(9, { z with slot := 3, entry := 0 })], plans := [(3, { layers := [le0 op] })], transit := words, unitMap := [(80, 1), (81, 2)] }
/-- A brightness word of stream 4 on its way to it: pixel (0, 0), negative, at 100 µs. -/
def built : Transit := { dest := .builder 9, route := 0, word := mkWord 4 0 0 0 0 100 }
/-- That stream's output, one pixel, and the layer's source, with the window that `w` µs long. -/
def source (w : Nat) (d : Dev) : Dev :=
  ((((d.wr (Obj.buildSource 9) 4).wr (Obj.outputWidth 4) 1).wr (Obj.outputHeight 4) 1).wr (Obj.buildBins 9) 1).wr (Obj.buildWindow 9) w
/-- Tenant 0 owns region 0, the first 2 MiB of GDDR6, and cluster 5, whose ferry port may write its first pages; ferry 1 runs a chain at address 0. -/
def ferry1 (d : Dev) : Dev :=
  { (((d.wr (Obj.regionOwner 0) 0).wr (Obj.regionBase 0) 0).wr (Obj.regionSize 0) 2).wr (Obj.clusterOwner 5) 0 with
    ferries := [(1, { cur := some ⟨1, 0, 0, 16384, 0⟩ })], regions := [(regionKey 5 16 2, 2 ^ 26 + 2 ^ 25 + 5 * 2 ^ 12)] }
/-- The first unit of cluster 5 may read and write the first pages of its scratchpad. -/
def granted (d : Dev) : Dev := { d with regions := [(regionKey 5 0 2, 2 ^ 26 + 2 ^ 25 + 2 ^ 24 + 5 * 2 ^ 12)] }
/-- Bytes in an addressed memory from `a`. -/
def cells (a : Nat) (bs : List Byte) : List Host.Cell := (bs.zipIdx.map (fun b => (a + b.2, b.1))).filter (fun c => c.2 != 0)
/-- A descriptor that ends its chain: FILL of 16 bytes of cluster 5 from 256. -/
def fill : List Byte :=
  [5, 4, 0, 0] ++ zeros 12 ++ leBytes 8 0x0807060504030201 ++ leBytes 8 (5 * 2 ^ 20 + 256) ++ leBytes 4 16 ++ leBytes 4 1 ++ zeros 8 ++ leBytes 4 1 ++ zeros 12
/-- Fusion runs for tenant 0 with source slot 2 of kind `kind` and reference `ref`, stream 4 calibrated at address 0, and what `x` says. -/
def fused (kind ref : Nat) (x : Fusion) (words : List Transit) (d : Dev) : Dev :=
  let d := ((((own (ferry1 d)).wr Obj.fusionOwner 0).wr Obj.fusionState 1).wr (Obj.sourceKind 2) kind).wr (Obj.sourceRef 2) ref
  let d := (((d.wr (Obj.streamTenant 4) 0).wr (Obj.outputWidth 4) 32).wr (Obj.outputHeight 4) 16).wr Obj.gridControl 1
  { (d.wr (Obj.sourceStream 2) 4).wr (Obj.readyWeir 2) 5 with fusion := x, transit := words }
/-- Two open instants from `k`. -/
def two (k : Int) : Fusion := { opened := [{ k := k, set := 0 }, { k := k + 1, set := 1 }] }
/-- The calibration entry of its pixel (0, 0): column 5, row 3. -/
def calibrated (s : State) : State := { s with mem := { gddr := cells 4096 (leBytes 8 (2 ^ 29 + 5 + 3 * 4096)) } }
/-- A word on its way to fusion, of a stream or of population 7. -/
def fusedWord (kind : Nat) (w : Nat) : Transit := { dest := .fusion kind 7, route := 2 ^ 24, word := w }
/-- Outfall channel 7 of tenant 0 runs on its host path with a ring of 4,096 bytes, and what `x` says. -/
def channel (x : Chan) (d : Dev) : Dev :=
  { (((d.wr (Obj.channelOwner 7) 0).wr (Obj.outfallStatus 7) 1).wr (Obj.ringBytes 7) 4096).wr (Obj.channelPath 7) 0 with chans := [(7, x)] }
/-- Omtos slot 1 holds a session of tenant 2. -/
def attached (d : Dev) : Dev := d.wr (Obj.sessionState 1) (2 + 2 * 2 ^ 8)

/-- Host port 2 is LINKED. -/
def linked (d : Dev) : Dev := d.setF (Obj.attachState 2) 0 3 1
/-- A HELLO in role `r` for tenant 3. -/
def hello0 (r : Nat) : List Byte := leBytes 2 0x0100 ++ leBytes 1 r ++ [3] ++ zeros 1344
/-- A FINISH of session 5. -/
def finish0 : List Byte := [0, 1, 0, 0, 5, 0, 0, 0] ++ zeros 3512
/-- Port 2 with an exchange in role `r` that waits for its FINISH. -/
def finishing (r : Nat) (d : Dev) : Dev := { linked d with exchanges := [(2, { hello := (hello0 r).take 36, challenge := [0, 1, 0, 0, 5, 0, 0, 0] })] }
/-- The last segment of a debug authorisation, and the transfer it ends. -/
def lastSeg : Seg := ⟨16, false, true, zeros 16⟩
def authTransfer : Transfer := { q := q0, key := Obj.debugAuthorisation.key, writing := true, data := zeros 16, next := 16, lastF := 0 }

/-- An address of region 0 lies in region 0 for its owner. -/
theorem regionAt_first (d : Dev) (t x : Nat) (ht : t < 8) (ho : d.rd (Obj.regionOwner 0) = t) (hl : d.regionLo 0 ≤ x) (hh : x < d.regionHi 0) :
    d.regionAt t x = some 0 := by
  have h : List.range 32 = 0 :: List.range' 1 31 := by decide
  unfold Dev.regionAt
  rw [h, List.find?_cons_of_pos]
  simp [ht, ho, hl, hh]

/-! ### Well-formedness: each check refuses an ill-formed term -/

theorem test_ill_source_ip : (Instr.fusionStart (.source (2 ^ 32) 0)).wellFormed = false := by decide
theorem test_ill_source_udp : (Instr.fusionStart (.source 0 (2 ^ 16))).wellFormed = false := by decide
theorem test_ill_peer : (Instr.hello (.omtos (2 ^ 32) 0 0) []).wellFormed = false := by decide
theorem test_ill_weir_source : (Instr.addWeir (.request (.source 0 (2 ^ 16))) 0 1 false).wellFormed = false := by decide
theorem test_ill_record_path : (Instr.actionRecordWrite (.request (.source (2 ^ 32) 0)) (zeros 32)).wellFormed = false := by decide
theorem test_ill_record_length : (Instr.actionRecordWrite (.window 0 0) (zeros 31)).wellFormed = false := by decide
theorem test_ill_segment_offset : (Instr.planImageWrite q0 0 ⟨2 ^ 32, true, true, []⟩).wellFormed = false := by decide
theorem test_ill_segment_length : segOk ⟨0, true, true, zeros 4097⟩ = false := by decide +kernel
theorem test_ill_room_mailbox : (Instr.describe q0 {} 0 0 4097).wellFormed = false := by decide
theorem test_ill_room_omtos : (Instr.describe (.omtos 0) {} 0 0 1025).wellFormed = false := by decide
theorem test_ill_read_offset : (Instr.readObj q0 {} 0 0 (2 ^ 32) true true 64).wellFormed = false := by decide
theorem test_ill_packet_vc : (Instr.csi2Packet 0 ⟨16, 0x12, [], .ok, true⟩).wellFormed = false := by decide
theorem test_ill_packet_dt : (Instr.csi2Packet 0 ⟨0, 64, [], .ok, true⟩).wellFormed = false := by decide
theorem test_ill_packet_short : (Instr.csi2Packet 0 ⟨0, 0x0F, [1], .ok, true⟩).wellFormed = false := by decide
theorem test_ill_can_length : (Instr.canFrame 0 5 false (zeros 9) 0).wellFormed = false := by decide
theorem test_ill_can_id : (Instr.canFrame 0 0x800 false [] 0).wellFormed = false := by decide
theorem test_ill_host_keys : (Instr.tenantHostKeysWrite q0 (.hostKeys 0 0 (zeros 31))).wellFormed = false := by decide
theorem test_ill_march_twice : (Instr.marchPassEnd 0 [⟨3, 1, false⟩, ⟨3, 2, false⟩]).wellFormed = false := by decide
theorem test_ill_march_nothing : (Instr.marchPassEnd 0 [⟨3, 0, false⟩]).wellFormed = false := by decide
theorem test_ill_servo_identity : (Instr.servoMeasurement 0 0 (zeros 7)).wellFormed = false := by decide
theorem test_ill_ptp_ports : (Instr.ptpEventMessage 1 1 ptp0 0 0 true).wellFormed = false := by decide
theorem test_ill_link_source : (Instr.linkActivity 0 (zeros 15) none).wellFormed = false := by decide
theorem test_ill_identity : (Instr.identityRead 0 (zeros 5) 0 0 [] none).wellFormed = false := by decide
theorem test_ill_serial : (Instr.identityRead 0 (zeros 6) 0 0 (zeros 9) none).wellFormed = false := by decide
theorem test_ill_flow_udp : (Instr.flowDatagram 0 (2 ^ 16) (zeros 16) [] true).wellFormed = false := by decide
theorem test_ill_reedbed_source : (Instr.reedbedDatagram 0 0 (zeros 15) [] true).wellFormed = false := by decide
theorem test_ill_write_if : (Instr.writeIf q0 {} 0 0 (zeros 4097)).wellFormed = false := by decide +kernel
theorem test_well_short_packet : (Instr.csi2Packet 0 ⟨15, 0x0F, [1, 2], .ok, true⟩).wellFormed = true := by decide
theorem test_well_can : (Instr.canFrame 0 0x800 true (zeros 12) 0).wellFormed = true := by decide

/-! ### Known answers: values from the spec's worked examples and tables, and by hand from its rules -/

/-- The worked example of 02_handshake_fabric.md: die 2 at 85 °C, 0.65 V and 0.75 V. -/
theorem test_pace_at_85 :
    let d : Dev := ({} : Dev).wr (Obj.dieTemperature 2) 10880
    d.supportedAt 2 650 = 43 ∧ d.supportedAt 2 750 = 61 := by decide +kernel

/-- The worked example of 08_number_formats.md: 300.7 becomes 288 in E4M3, to nearest and toward zero. -/
theorem test_e4m3 :
    (convert 7 .nearestEven (.fin false (3007 / 10))).bits = 0x79 ∧ (convert 7 .towardZero (.fin false (3007 / 10))).bits = 0x79 := by decide +kernel

/-- An INT8 rescale of bias 500, multiplier 3 and shift 8 (R263): 123 from 10,000, and from 20,000 the greatest number, counted. -/
theorem test_rescale :
    convert 3 .nearestEven (.fin false (rescale .nearestEven (500, 3, 8) 10000 : Rat)) = { bits := 123 } ∧
    convert 3 .nearestEven (.fin false (rescale .nearestEven (500, 3, 8) 20000 : Rat)) = { bits := 127, sat := true } := by decide +kernel

/-- Three closes of a neuron of threshold 1,000 and no leak (R193). -/
theorem test_close_neuron :
    let p : CloseParams := ⟨1000, 1, 5, true, false, 0⟩
    (closeNeuron p 900 0 200).m = 72 ∧ (closeNeuron p 900 0 200).spikes = 1 ∧ (closeNeuron p 72 0 (-100)).m = -30 ∧
      (closeNeuron p (-30) 0 0).m = -29 := by decide +kernel

/-- The example of R301: items of 1, 1 and 4 bytes, the last with Last, fill bytes 0, 1 and 4 to 7. -/
theorem test_sluice_packing :
    let d : Dev := (((({} : Dev).sluiceWrite 0 (.item1 0xA1) false).sluiceWrite 0 (.item1 0xB2) false).sluiceWrite 0 (.item4 0x04030201) true)
    (d.sluice 0).words = [SluiceWord.of 0x040302010000B2A1 0xF3 true false] := by decide +kernel

/-- 03_time_base.md: device time −1 ns reads as seconds 2⁴⁸ − 1 and nanoseconds 999,999,999. -/
theorem test_negative_time : t80 (-1) = 999999999 + (2 ^ 48 - 1) * 2 ^ 32 := by decide

/-- The SHA3-256 of the empty string, from FIPS 202 (R490). -/
theorem test_sha3 : ofLe (sha3 []).reverse = 0xa7ffc6f8bf1ed76651c14756a061d662f580ff4de43b49fa82d80a4b80f8434a := by decide +kernel

/-- The product of R76 is rounded down: 2.0000007 ns is 2, −2.0000007 ns is −3. -/
theorem test_rate_term : rateTerm 1099512 2000000 = 2 ∧ rateTerm (-1099512) 2000000 = -3 := by decide

/-- An ADD wraps Count at 32 bits (R338). -/
theorem test_weir_add_wraps : (Weir.add 2 true { count := 0xFFFFFFFF : Weir }).count = 1 := by decide

/-- A seed that equals the unit's constant loads 1, not 0 (R267). -/
theorem test_lfsr_seed : lfsrSeed 0x9E3779B97F4A7C15 0 = 1 := by decide

/-- The residue arithmetic of stamps (R80): a stamp just past the wrap is after one just before it. -/
theorem test_stamp_wraps : stampDiff 15 3 32766 = 5 := by decide

/-! ### One step -/

/-- A step takes the command at the front and leaves the rest (R2). -/
theorem test_step_front :
    (match step { (st id) with pending := [.canBusOffRecovery 0, .sedimentTick] } with | .next t => t.pending | _ => []) = [.sedimentTick] := by decide +kernel

/-- No word spells a command. -/
theorem test_no_word (s : State) (n w : Nat) : s.withFetchWord n w = s := rfl

/-- An object that no chapter defines answers ABSENT, status 0x04 (R468, R470). -/
theorem test_absent_object :
    (match exec (.readObj q0 {} 0xFFFF 0 0 true true 64) (st id) with
      | .next t => t.dev.out.map (fun o => match o with | .response q n _ => (q, n) | _ => (q1, 0))
      | _ => []) = [(q0, 4)] := by decide +kernel

/-! ### The hypotheses of the statements are met -/

/-- The hypotheses of `ReferenceAndRebasing` are met, each clause's by a state of its own. -/
theorem witness_ReferenceAndRebasing :
    (∃ (s : State), (s.dev.up 179) ∧ (s.dev.bit Obj.timeStatus 5 = false)) ∧
    (∃ (s : State), (s.dev.up 179) ∧ (s.dev.bit Obj.timeStatus 5 = true)) ∧
    (∃ (s : State) (ppb : BitVec 32), (s.dev.up 179) ∧ (s.dev.bit Obj.timeStatus 5 = false) ∧ (s.dev.cmpFromF + 1000000000 ≤ s.dev.f) ∧ (ppb.toInt.natAbs ≤ (500 + s.dev.rd Obj.aonCrystalPpm) * 1000)) ∧
    (∃ (s : State) (ppb : BitVec 32), (s.dev.up 179) ∧ (s.dev.bit Obj.timeStatus 5 = false) ∧ (s.dev.cmpFromF + 1000000000 ≤ s.dev.f) ∧ ((500 + s.dev.rd Obj.aonCrystalPpm) * 1000 < ppb.toInt.natAbs)) ∧
    (∃ (s : State), (s.dev.up 179) ∧ (s.dev.bit Obj.timeStatus 5 = true)) ∧
    (∃ (s : State), (s.dev.alive = true) ∧ (s.dev.stopped = true) ∧ (s.dev.domState 179 = 4)) ∧
    (∃ (s : State) (q : Requester) (v : BitVec 64), (s.dev.hears q Obj.timeOffset v.toNat) ∧ (s.dev.rd Obj.disciplineMode ≠ 1)) ∧
    (∃ (s : State) (q : Requester) (v : BitVec 64), (s.dev.hears q Obj.timeOffset v.toNat) ∧ (s.dev.rd Obj.disciplineMode = 1) ∧ (s.dev.rdI Obj.timeOffset = v.toInt)) ∧
    (∃ (s : State) (q : Requester) (v : BitVec 64), (s.dev.hears q Obj.timeOffset v.toNat) ∧ (s.dev.rd Obj.disciplineMode = 1) ∧ (s.dev.rdI Obj.timeOffset ≠ v.toInt)) :=
  ⟨⟨st (fun d => d.setBit Obj.timeStatus 3 true), by dsimp only [Dev.up]; decide +kernel⟩,
   ⟨st (fun d => { (d.setBit Obj.timeStatus 5 true).wr Obj.uncertainty 0xFFFFFFF0 with f := 2500000, holdoverF := 100 }), by dsimp only [Dev.up]; decide +kernel⟩,
   ⟨st (fun d => { d.setBit Obj.timeStatus 6 true with f := 1000000000 }), 500000, by dsimp only [Dev.up]; decide +kernel⟩,
   ⟨st (fun d => { d with f := 1000000000 }), 0xFFF00000, by dsimp only [Dev.up]; decide +kernel⟩,
   ⟨st (fun d => d.setBit Obj.timeStatus 5 true), by dsimp only [Dev.up]; decide +kernel⟩,
   ⟨st (fun d => { d.setF (Obj.domainState 179) 0 3 4 with stopped := true, f0 := 1000, a0 := 2, aon := 32770, unbridged := true }), by decide +kernel⟩,
   ⟨st id, q0, 5, by dsimp only [Dev.hears, Dev.opened]; decide +kernel⟩,
   ⟨st (fun d => (d.wr Obj.disciplineMode 1).wr Obj.timeOffset 7), q0, 7, by dsimp only [Dev.hears, Dev.opened]; decide +kernel⟩,
   ⟨st (fun d => d.wr Obj.disciplineMode 1), q0, 7, by dsimp only [Dev.hears, Dev.opened]; decide +kernel⟩⟩

/-- The hypotheses of `SleepLatchesTime` are met, each clause's by a state of its own. -/
theorem witness_SleepLatchesTime :
    (∃ (s : State), (s.dev.alive = true) ∧ (s.dev.entryWait = true) ∧ (s.dev.aonPhase < 512)) ∧
    (∃ (s : State), (s.dev.alive = true) ∧ (s.dev.entryWait = true) ∧ (512 ≤ s.dev.aonPhase) ∧ (s.dev.stopped = false)) ∧
    (∃ (s : State), (s.dev.alive = true) ∧ (s.dev.stopped = true) ∧ (s.dev.a0 + 2 ^ 32 ≤ s.dev.aon)) :=
  ⟨⟨st (fun d => { d with entryWait := true, f := 77, aon := 9 }), by decide +kernel⟩,
   ⟨st (fun d => { d with entryWait := true, f := 77, aon := 9, aonPhase := 600 }), by decide +kernel⟩,
   ⟨st (fun d => { d with stopped := true, a0 := 3, aon := 2 ^ 32 + 3 }), by decide +kernel⟩⟩

/-- The hypotheses of `RateChangeKeepsDeviceTime` are met, each clause's by a state of its own. -/
theorem witness_RateChangeKeepsDeviceTime :
    (∃ (d : Dev) (b : Int), (-(2 ^ 31) ≤ b) ∧ (b < 2 ^ 31) ∧ ((let o := d.rdI Obj.timeOffset + (rateTerm (d.rdI Obj.rateAdjust) d.f - rateTerm b d.f); -(2 ^ 63) ≤ o ∧ o < 2 ^ 63))) ∧
    (∃ (s : State) (q : Requester) (v : BitVec 32), (s.dev.hears q Obj.rateAdjust v.toNat) ∧ (s.dev.rd Obj.disciplineMode ≠ 1)) ∧
    (∃ (s : State) (q : Requester) (v : BitVec 32), (s.dev.hears q Obj.rateAdjust v.toNat) ∧ (s.dev.rd Obj.disciplineMode = 1) ∧ ((let o := s.dev.rdI Obj.timeOffset + (rateTerm (s.dev.rdI Obj.rateAdjust) s.dev.f - rateTerm v.toInt s.dev.f); -(2 ^ 63) ≤ o ∧ o < 2 ^ 63))) :=
  ⟨⟨{ f := 123456789012 }, -5, by decide +kernel⟩,
   ⟨st id, q0, 5, by dsimp only [Dev.hears, Dev.opened]; decide +kernel⟩,
   ⟨st (fun d => { d.wr Obj.disciplineMode 1 with f := 123456789012 }), q0, 500000000, by dsimp only [Dev.hears, Dev.opened]; decide +kernel⟩⟩

/-- The hypotheses of `DisciplineModeChange` are met, each clause's by a state of its own. -/
theorem witness_DisciplineModeChange :
    (∃ (s : State) (q : Requester) (v : BitVec 8), (s.dev.hears q Obj.disciplineMode v.toNat)) :=
  ⟨st (fun d => d.setBit Obj.timeStatus 3 true), q0, 3, by dsimp only [Dev.hears, Dev.opened]; decide +kernel⟩

/-- The hypotheses of `ServoSlews` are met, each clause's by a state of its own. -/
theorem witness_ServoSlews :
    (∃ (s : State), (s.dev.up 179) ∧ ((s.dev.rd Obj.disciplineMode = 0 ∨ s.dev.rd Obj.disciplineMode = 1))) ∧
    (∃ (s : State), (s.dev.up 179) ∧ (s.dev.rd Obj.disciplineMode = 3) ∧ (s.dev.bit (Obj.capStatus (s.dev.rd Obj.ppsCapture)) 2 = true)) ∧
    (∃ (s : State) (e : BitVec 64), (s.dev.up 179) ∧ (s.dev.rd Obj.disciplineMode = 3) ∧ (s.dev.bit (Obj.capStatus (s.dev.rd Obj.ppsCapture)) 2 = false) ∧ (500000000 < e.toInt.natAbs)) ∧
    (∃ (s : State) (e : BitVec 64), (s.dev.up 179) ∧ (s.dev.rd Obj.disciplineMode = 3) ∧ (s.dev.bit (Obj.capStatus (s.dev.rd Obj.ppsCapture)) 2 = false) ∧ (e.toInt.natAbs ≤ 500000000) ∧ (e.toInt.natAbs ≤ s.dev.rd Obj.stepLimit)) :=
  ⟨⟨st id, by dsimp only [Dev.up]; decide +kernel⟩,
   ⟨st (fun d => (d.wr Obj.disciplineMode 3).setBit (Obj.capStatus (d.rd Obj.ppsCapture)) 2 true), by dsimp only [Dev.up]; decide +kernel⟩,
   ⟨st (fun d => d.wr Obj.disciplineMode 3), 500000001, by dsimp only [Dev.up]; decide +kernel⟩,
   ⟨st (fun d => { d.wr Obj.disciplineMode 3 with lockRun := 15 }), 100, by dsimp only [Dev.up]; decide +kernel⟩⟩

/-- The hypotheses of `TriggersArmAndFire` are met, each clause's by a state of its own. -/
theorem witness_TriggersArmAndFire :
    (∃ (s : State) (q : Requester) (n : Fin 16) (v : BitVec 32), (s.dev.hears q (Obj.trigControl n.val) (v.toNat / 2 * 2 + 1)) ∧ (500000000000 < (s.dev.rdT (Obj.trigTarget n.val) - s.dev.dt).natAbs)) ∧
    (∃ (s : State) (q : Requester) (n : Fin 16) (v : BitVec 32), (s.dev.hears q (Obj.trigControl n.val) (v.toNat / 2 * 2 + 1)) ∧ ((s.dev.rdT (Obj.trigTarget n.val) - s.dev.dt).natAbs ≤ 500000000000) ∧ (s.dev.trigArmed n.val = true)) ∧
    (∃ (s : State) (q : Requester) (n : Fin 16) (v : BitVec 32), (s.dev.hears q (Obj.trigControl n.val) (v.toNat / 2 * 2 + 1)) ∧ ((s.dev.rdT (Obj.trigTarget n.val) - s.dev.dt).natAbs ≤ 500000000000) ∧ (s.dev.trigArmed n.val = false) ∧ (v.toNat.testBit 1 = false) ∧ (s.dev.dt ≤ s.dev.rdT (Obj.trigTarget n.val))) ∧
    (∃ (s : State), (s.dev.up 179) ∧ (s.dev.reconvert = .rate)) ∧
    (∃ (s : State), (s.dev.up 179) ∧ (s.dev.reconvert = .none)) ∧
    (∃ (s : State) (n : Fin 16), (s.dev.up 179) ∧ (s.dev.padsHeld 179 = false) ∧ ((2 ^ 39 : Int) ≤ s.dev.fOf (s.dev.trigEdge n.val) - s.dev.f)) ∧
    (∃ (s : State) (n : Fin 16), (s.dev.up 179) ∧ (s.dev.padsHeld 179 = false) ∧ (s.dev.trigArmed n.val = true) ∧ (s.dev.fOf (s.dev.trigEdge n.val) - s.dev.f < (2 ^ 39 : Int)) ∧ (0 ≤ stampDiff 40 s.dev.f (s.dev.trig n.val).f40) ∧ (s.dev.bit (Obj.trigControl n.val) 1 = false) ∧ (s.dev.bit (Obj.trigControl n.val) 3 = false)) ∧
    (∃ (s : State), (s.dev.up 179) ∧ (s.dev.padsHeld 179 = true)) :=
  ⟨⟨st (fun d => d.wrT (Obj.trigTarget 3) 500000000001), q0, 3, 0, by dsimp only [Dev.hears, Dev.opened]; decide +kernel⟩,
   ⟨st (fun d => d.setBit (Obj.trigStatus 3) 0 true), q0, 3, 4, by dsimp only [Dev.hears, Dev.opened]; decide +kernel⟩,
   ⟨st (fun d => d.wrT (Obj.trigTarget 15) 500000000000), q0, 15, 4, by dsimp only [Dev.hears, Dev.opened]; decide +kernel⟩,
   ⟨st (fun d => { (d.wr (Obj.trigStatus 3) 1).wrT (Obj.trigTarget 3) 1000 with reconvert := .rate, trigs := [(3, { f40 := 90 })] }), by dsimp only [Dev.up]; decide +kernel⟩,
   ⟨st id, by dsimp only [Dev.up]; decide +kernel⟩,
   ⟨st (fun d => (d.wr (Obj.trigStatus 3) 3).wrT (Obj.trigTarget 3) 600000000000), 3, by dsimp only [Dev.up]; decide +kernel⟩,
   ⟨st (fun d => { d.wr (Obj.trigStatus 3) 3 with f := 100, trigs := [(3, { f40 := 90 })] }), 3, by dsimp only [Dev.up]; decide +kernel⟩,
   ⟨st (fun d => d.setBit (Obj.domainState 179) 3 true), by dsimp only [Dev.up]; decide +kernel⟩⟩

/-- The hypotheses of `TriggerDisarming` are met, each clause's by a state of its own. -/
theorem witness_TriggerDisarming :
    (∃ (s : State) (q : Requester) (n : Fin 16) (v : BitVec 32), (s.dev.hears q (Obj.trigControl n.val) (v.toNat / 2 * 2))) ∧
    (∃ (s : State) (n : Fin 16) (e : Int), (s.dev.up 179) ∧ (s.dev.padsHeld 179 = false) ∧ ((s.dev.trig n.val).pulseEnd = some e) ∧ (e ≤ s.dev.dt)) ∧
    (∃ (s : State) (n : Fin 16) (e : Int), (s.dev.up 179) ∧ (s.dev.padsHeld 179 = false) ∧ ((s.dev.trig n.val).pulseEnd = some e) ∧ (s.dev.dt < e)) ∧
    (∃ (s : State), (s.dev.up 179) ∧ (s.dev.padsHeld 179 = true)) :=
  ⟨⟨st (fun d => d.wr (Obj.trigStatus 3) 7), q0, 3, 5, by dsimp only [Dev.hears, Dev.opened]; decide +kernel⟩,
   ⟨st (fun d => { d with f := 100, trigs := [(3, { pulseEnd := some 90, pin := true })] }), 3, 90, by dsimp only [Dev.up]; decide +kernel⟩,
   ⟨st (fun d => { d with f := 100, trigs := [(3, { pulseEnd := some 190, pin := true })] }), 3, 190, by dsimp only [Dev.up]; decide +kernel⟩,
   ⟨st (fun d => d.setBit (Obj.domainState 179) 3 true), by dsimp only [Dev.up]; decide +kernel⟩⟩

/-- The hypotheses of `CaptureInputs` are met, each clause's by a state of its own. -/
theorem witness_CaptureInputs :
    (∃ (s : State) (age : Nat), (s.dev.up 179) ∧ (age < 20)) ∧
    (∃ (s : State) (m : Fin 8) (level : Bool) (age : Nat), (s.dev.up 179) ∧ (20 ≤ age) ∧ (level ≠ (s.dev.cap m.val).level) ∧ (s.dev.bit (Obj.capControl m.val) 0 = true) ∧ (s.dev.bit (Obj.capStatus m.val) 2 = false) ∧ ((s.dev.cap m.val).win = s.dev.win 1000000) ∧ ((s.dev.cap m.val).count < s.dev.rd (Obj.capFloodLimit m.val)) ∧ (s.dev.bit (Obj.capControl m.val) (if level then 1 else 2) = true) ∧ (s.dev.bit (Obj.capControl m.val) 3 = false) ∧ (s.dev.bit (Obj.capControl m.val) 18 = false)) ∧
    (∃ (s : State) (m : Fin 8), (s.dev.up 179) ∧ (s.dev.bit (Obj.capControl m.val) 0 = true) ∧ (s.dev.rd (Obj.capStuckTime m.val) * 1000 < s.dev.rf - (s.dev.cap m.val).restF)) ∧
    (∃ (s : State) (m : Fin 8), (s.dev.up 179) ∧ (s.dev.bit (Obj.capStatus m.val) 2 = true) ∧ ((s.dev.cap m.val).win = s.dev.win 1000000) ∧ (10 ≤ (s.dev.cap m.val).quiet)) ∧
    (∃ (s : State) (q : Requester) (m : Fin 8) (v : BitVec 32), (s.dev.hears q (Obj.capControl m.val) v.toNat)) ∧
    (∃ (s : State) (q : Requester) (m : Fin 8), (s.dev.opened) ∧ (s.dev.judgeRead q 1 (0x3420 + m.val) 2 = .ok)) :=
  ⟨⟨st id, 19, by dsimp only [Dev.up]; decide +kernel⟩,
   ⟨st (fun d => d.wr (Obj.capControl 3) 3), 3, true, 20, by dsimp only [Dev.up]; decide +kernel⟩,
   ⟨st (fun d => { (d.wr (Obj.capControl 3) 3).wr (Obj.capStuckTime 3) 5 with f := 5001 }), 3, by dsimp only [Dev.up]; decide +kernel⟩,
   ⟨st (fun d => { (d.wr (Obj.capStatus 3) 4) with caps := [(3, { quiet := 10 })] }), 3, by dsimp only [Dev.up]; decide +kernel⟩,
   ⟨st (fun d => (d.wr (Obj.capControl 3) 1).wr (Obj.capStatus 3) 6), q0, 3, 2, by dsimp only [Dev.hears, Dev.opened]; decide +kernel⟩,
   ⟨st id, q0, 3, by dsimp only [Dev.opened]; decide +kernel⟩⟩

/-- The hypotheses of `ClocksAndMarks` are met, each clause's by a state of its own. -/
theorem witness_ClocksAndMarks :
    (∃ (s : State) (i : Fin 3) (e : Fin 3), (s.dev.up 180) ∧ (i ≠ e) ∧ ((e.val ≠ 2 ∨ s.dev.rd Obj.ptpRole = 0)) ∧ (s.dev.dieOut 5 = false) ∧ (s.dev.rd Obj.tcMode = 0)) ∧
    (∃ (s : State) (i : Fin 3) (e : Fin 3), (s.dev.up 180) ∧ (i ≠ e) ∧ ((e.val ≠ 2 ∨ s.dev.rd Obj.ptpRole = 0)) ∧ (s.dev.dieOut 5 = false) ∧ (s.dev.rd Obj.tcMode ≠ 0)) ∧
    (∃ (s : State) (i : Fin 3) (e : Fin 3) (m : PtpMessage), (s.dev.up 180) ∧ (i ≠ e) ∧ ((e.val ≠ 2 ∨ s.dev.rd Obj.ptpRole = 0)) ∧ (s.dev.dieOut 5 = false) ∧ (s.dev.rd Obj.tcMode = 1) ∧ (m.type.event = true) ∧ (m.twoStep = false)) ∧
    (∃ (s : State) (i : Fin 3) (e : Fin 3) (m : PtpMessage), (s.dev.up 180) ∧ (i ≠ e) ∧ ((e.val ≠ 2 ∨ s.dev.rd Obj.ptpRole = 0)) ∧ (s.dev.dieOut 5 = false) ∧ (s.dev.rd Obj.tcMode = 1) ∧ (m.type = .sync) ∧ (m.twoStep = true)) ∧
    (∃ (s : State) (i : Fin 3) (e : Fin 3) (m : PtpMessage), (s.dev.up 180) ∧ (i ≠ e) ∧ ((e.val ≠ 2 ∨ s.dev.rd Obj.ptpRole = 0)) ∧ (s.dev.dieOut 5 = false) ∧ (s.dev.rd Obj.tcMode ≠ 0) ∧ (m.type = .followUp)) ∧
    (∃ (s : State) (i : Fin 3) (e : Fin 3), (s.dev.up 180) ∧ (i ≠ e) ∧ ((e.val ≠ 2 ∨ s.dev.rd Obj.ptpRole = 0)) ∧ (s.dev.dieOut 5 = true)) ∧
    (∃ (s : State) (i : Fin 3) (m : PtpMessage), (s.dev.up 180) ∧ (s.dev.dieOut 5 = false) ∧ (i.val ≠ 2) ∧ (s.dev.rd Obj.tcMode = 0) ∧ (s.dev.rd Obj.ptpRole ≠ 0) ∧ ((s.dev.rd Obj.ptpDomain ≠ m.domain.toNat ∨ s.dev.rd Obj.ptpTransport ≠ m.transport.val))) ∧
    (∃ (s : State) (i : Fin 3) (m : PtpMessage), (s.dev.up 180) ∧ (s.dev.dieOut 5 = false) ∧ (i.val ≠ 2) ∧ (s.dev.rd Obj.tcMode = 0) ∧ (s.dev.rd Obj.ptpRole ≠ 0) ∧ (s.dev.rd Obj.ptpDomain = m.domain.toNat) ∧ (s.dev.rd Obj.ptpTransport = m.transport.val) ∧ (m.type = .delayReq) ∧ (s.dev.rd Obj.ptpDelayMech = 0) ∧ (s.dev.rd Obj.portState = 6)) ∧
    (∃ (s : State) (i : Fin 3) (m : PtpMessage) (r : PtpRank), (s.dev.up 180) ∧ (s.dev.dieOut 5 = false) ∧ (i.val ≠ 2) ∧ (s.dev.rd Obj.tcMode = 0) ∧ (s.dev.rd Obj.ptpRole ≠ 0) ∧ (s.dev.rd Obj.ptpDomain = m.domain.toNat) ∧ (s.dev.rd Obj.ptpTransport = m.transport.val) ∧ (m.type = .announce) ∧ (m.rank = some r) ∧ (s.dev.rd Obj.ptpRole = 2) ∧ (s.dev.ptpParent = none)) ∧
    (∃ (s : State) (i : Fin 3) (m : PtpMessage) (r : PtpRank), (s.dev.up 180) ∧ (s.dev.dieOut 5 = false) ∧ (i.val ≠ 2) ∧ (s.dev.rd Obj.tcMode = 0) ∧ (s.dev.rd Obj.ptpRole ≠ 0) ∧ (s.dev.rd Obj.ptpDomain = m.domain.toNat) ∧ (s.dev.rd Obj.ptpTransport = m.transport.val) ∧ (m.type = .announce) ∧ (m.rank = some r) ∧ (s.dev.rd Obj.ptpRole = 3)) ∧
    (∃ (s : State) (n : Fin 36) (ps : Nat) (arrival : Int) (e : Int) (es : List Int), let interval : Rat := match (s.dev.clock n.val).lastMark with | some l => ((ps : Int) - (l : Int) : Int) / 1000 | none => 0; let pred := (s.dev.clock n.val).predict ps; (s.dev.up 179) ∧ ((s.dev.clock n.val).marks = [(ps, arrival)]) ∧ ((s.dev.rd (Obj.streamSyncMethod n.val) = 1 ∨ s.dev.rd (Obj.streamSyncMethod n.val) = 2)) ∧ ((s.dev.clock n.val).edges = e :: es) ∧ ((interval ≤ 0 ∨ |(e : Rat) - pred| ≤ interval / 2))) ∧
    (∃ (s : State) (n : Fin 36) (ps : Nat) (arrival : Int), let interval : Rat := match (s.dev.clock n.val).lastMark with | some l => ((ps : Int) - (l : Int) : Int) / 1000 | none => 0; let pred := (s.dev.clock n.val).predict ps; (s.dev.up 179) ∧ ((s.dev.clock n.val).marks = [(ps, arrival)]) ∧ ((s.dev.rd (Obj.streamSyncMethod n.val) = 1 ∨ s.dev.rd (Obj.streamSyncMethod n.val) = 2)) ∧ ((s.dev.clock n.val).edges = []) ∧ ((interval ≤ 0 ∨ pred + interval / 2 < (s.dev.dt : Rat)))) ∧
    (∃ (s : State) (n : Fin 36) (ps : Nat) (arrival : Int), let interval : Rat := match (s.dev.clock n.val).lastMark with | some l => ((ps : Int) - (l : Int) : Int) / 1000 | none => 0; let pred := (s.dev.clock n.val).predict ps; (s.dev.up 179) ∧ ((s.dev.clock n.val).marks = [(ps, arrival)]) ∧ ((s.dev.rd (Obj.streamSyncMethod n.val) = 1 ∨ s.dev.rd (Obj.streamSyncMethod n.val) = 2)) ∧ ((s.dev.clock n.val).edges = []) ∧ (0 < interval) ∧ ((s.dev.dt : Rat) ≤ pred + interval / 2)) ∧
    (∃ (s : State) (n : Fin 36) (f : Nat), (s.dev.up 179) ∧ ((s.dev.clock n.val).pairF = some f) ∧ (8 * (s.dev.clock n.val).interval < ((s.dev.f - f : Nat) : Rat))) :=
  ⟨⟨st id, 0, 1, by dsimp only [Dev.up]; decide +kernel⟩,
   ⟨st (fun d => d.wr Obj.tcMode 1), 0, 1, by dsimp only [Dev.up]; decide +kernel⟩,
   ⟨st (fun d => d.wr Obj.tcMode 1), 0, 1, ptp0, by dsimp only [Dev.up]; decide +kernel⟩,
   ⟨st (fun d => d.wr Obj.tcMode 1), 0, 1, { ptp0 with twoStep := true }, by dsimp only [Dev.up]; decide +kernel⟩,
   ⟨st (fun d => { d.wr Obj.tcMode 1 with residence := [(ptpKey 0 1 0 1, 9)] }), 0, 1, { ptp0 with type := .followUp }, by dsimp only [Dev.up]; decide +kernel⟩,
   ⟨st (fun d => d.wr (Obj.dieHealth 5) 1), 0, 1, by dsimp only [Dev.up]; decide +kernel⟩,
   ⟨st (fun d => d.wr Obj.ptpRole 1), 0, { ptp0 with domain := 1 }, by dsimp only [Dev.up]; decide +kernel⟩,
   ⟨st (fun d => (d.wr Obj.ptpRole 3).wr Obj.portState 6), 0, { ptp0 with type := .delayReq }, by dsimp only [Dev.up]; decide +kernel⟩,
   ⟨st (fun d => d.wr Obj.ptpRole 2), 0, { ptp0 with type := .announce, rank := some ⟨1, 2, 3, 4⟩ }, ⟨1, 2, 3, 4⟩, by dsimp only [Dev.up]; decide +kernel⟩,
   ⟨st (fun d => d.wr Obj.ptpRole 3), 0, { ptp0 with type := .announce, rank := some ⟨1, 2, 3, 4⟩ }, ⟨1, 2, 3, 4⟩, by dsimp only [Dev.up]; decide +kernel⟩,
   ⟨st (fun d => { d.wr (Obj.streamSyncMethod 4) 1 with clocks := [(4, { marks := [(5, 6)], edges := [7] })] }), 4, 5, 6, 7, [], by dsimp only [Dev.up]; decide +kernel⟩,
   ⟨st (fun d => { d.wr (Obj.streamSyncMethod 4) 1 with f := 2000000, clocks := [(4, { marks := [(1000000, 6)], lastMark := some 0 })] }), 4, 1000000, 6, by dsimp only [Dev.up]; decide +kernel⟩,
   ⟨st (fun d => { d.wr (Obj.streamSyncMethod 4) 1 with clocks := [(4, { marks := [(1000000, 6)], lastMark := some 0 })] }), 4, 1000000, 6, by dsimp only [Dev.up]; decide +kernel⟩,
   ⟨st (fun d => { d with f := 9, clocks := [(4, { pairF := some 0, interval := 1 })] }), 4, 0, by dsimp only [Dev.up]; decide +kernel⟩⟩

/-- The hypotheses of `PaceAndVoltage` are met, each clause's by a state of its own. -/
theorem witness_PaceAndVoltage :
    (∃ (s : State) (q : Requester) (d : Fin 4) (v : BitVec 8), (s.dev.hears q (Obj.paceCap d.val) v.toNat) ∧ (s.dev.tjSeen d.val = true) ∧ (v.toNat ≤ s.dev.supportedAt d.val (s.dev.presentVolt d.val))) ∧
    (∃ (s : State) (q : Requester) (d : Fin 4) (v : BitVec 8), (s.dev.hears q (Obj.paceCap d.val) v.toNat) ∧ (s.dev.tjSeen d.val = true) ∧ (s.dev.supportedAt d.val (s.dev.presentVolt d.val) < v.toNat) ∧ (s.dev.getF (Obj.paceStatus d.val) 16 2 ≠ 1)) ∧
    (∃ (s : State) (q : Requester) (d : Fin 4) (v : BitVec 8), (s.dev.hears q (Obj.paceCap d.val) v.toNat) ∧ (s.dev.tjSeen d.val = false)) ∧
    (∃ (s : State) (q : Requester) (d : Fin 4) (v : BitVec 16), (s.dev.hears q (Obj.voltageTarget d.val) v.toNat) ∧ (s.dev.tjSeen d.val = true) ∧ ((s.dev.pace d.val).changeF ≠ 0)) ∧
    (∃ (s : State) (q : Requester) (d : Fin 4) (v : BitVec 16), (s.dev.hears q (Obj.voltageTarget d.val) v.toNat) ∧ (s.dev.tjSeen d.val = true) ∧ ((s.dev.pace d.val).changeF = 0) ∧ (s.dev.rd (Obj.voltageTarget d.val) = v.toNat)) ∧
    (∃ (s : State) (q : Requester) (d : Fin 4) (v : BitVec 16), (s.dev.hears q (Obj.voltageTarget d.val) v.toNat) ∧ (s.dev.tjSeen d.val = true) ∧ ((s.dev.pace d.val).changeF = 0) ∧ (s.dev.rd (Obj.voltageTarget d.val) ≠ v.toNat) ∧ (v.toNat < s.dev.presentVolt d.val) ∧ (s.dev.supportedAt d.val v.toNat < s.dev.presentCap d.val)) ∧
    (∃ (s : State) (q : Requester) (d : Fin 4) (v : BitVec 16), (s.dev.hears q (Obj.voltageTarget d.val) v.toNat) ∧ (s.dev.tjSeen d.val = true) ∧ ((s.dev.pace d.val).changeF = 0) ∧ (s.dev.rd (Obj.voltageTarget d.val) ≠ v.toNat) ∧ ((s.dev.presentVolt d.val ≤ v.toNat ∨ s.dev.presentCap d.val ≤ s.dev.supportedAt d.val v.toNat)) ∧ (s.dev.coreOff d.val = false)) ∧
    (∃ (s : State) (d : Fin 4), (s.dev.working = true) ∧ ((s.dev.pace d.val).changeF ≠ 0) ∧ (s.dev.rf ≤ (s.dev.pace d.val).changeF - 1 + 2000000)) ∧
    (∃ (s : State) (d : Fin 4), (s.dev.working = true) ∧ ((s.dev.pace d.val).changeF ≠ 0) ∧ ((s.dev.pace d.val).changeF - 1 + 2000000 < s.dev.rf)) ∧
    (∃ (s : State) (d : Fin 4), (s.dev.working = true) ∧ ((s.dev.pace d.val).changeF ≠ 0) ∧ ((s.dev.pace d.val).changeF - 1 + 2000000 ≤ s.dev.rf)) ∧
    (∃ (s : State) (d : Fin 4), (s.dev.working = true) ∧ (s.dev.throttled d.val = true) ∧ (12160 ≤ s.dev.rdI (Obj.dieTemperature d.val)) ∧ ((s.dev.pace d.val).stepF + 100000 ≤ s.dev.rf)) ∧
    (∃ (s : State) (d : Fin 4), (s.dev.working = true) ∧ (s.dev.throttled d.val = true) ∧ (s.dev.rdI (Obj.dieTemperature d.val) < 12160) ∧ ((s.dev.pace d.val).stepF + 1000000 ≤ s.dev.rf)) ∧
    (∃ (s : State) (d : Fin 4), (s.dev.working = true) ∧ (s.dev.coreOff d.val = false) ∧ ((s.dev.pace d.val).measWin < s.dev.win 1000000)) ∧
    (∃ (s : State) (d : Fin 4), (s.dev.working = true) ∧ (s.dev.win 1000000 ≤ (s.dev.pace d.val).measWin)) :=
  ⟨⟨st (fun d => d.setF (Obj.paceStatus 2) 8 8 64), q0, 2, 64, by dsimp only [Dev.hears, Dev.opened]; decide +kernel⟩,
   ⟨st (fun d => d.setF (Obj.paceStatus 2) 8 8 64), q0, 2, 80, by dsimp only [Dev.hears, Dev.opened]; decide +kernel⟩,
   ⟨st (fun d => d.setF (Obj.paceStatus 2) 8 8 0), q0, 2, 40, by dsimp only [Dev.hears, Dev.opened]; decide +kernel⟩,
   ⟨st (fun d => { d.setF (Obj.paceStatus 2) 8 8 64 with paces := [(2, { changeF := 1 })] }), q0, 2, 700, by dsimp only [Dev.hears, Dev.opened]; decide +kernel⟩,
   ⟨st (fun d => d.setF (Obj.paceStatus 2) 8 8 64), q0, 2, 750, by dsimp only [Dev.hears, Dev.opened]; decide +kernel⟩,
   ⟨st (fun d => d.setF (Obj.paceStatus 2) 8 8 64), q0, 2, 700, by dsimp only [Dev.hears, Dev.opened]; decide +kernel⟩,
   ⟨st (fun d => d.setF (Obj.paceStatus 2) 8 8 64), q0, 2, 850, by dsimp only [Dev.hears, Dev.opened]; decide +kernel⟩,
   ⟨st (fun d => { d with paces := [(2, { changeF := 1 })] }), 2, by decide +kernel⟩,
   ⟨st (fun d => { d with f := 2000001, paces := [(2, { changeF := 1, pending := 5 })] }), 2, by decide +kernel⟩,
   ⟨st (fun d => { d with f := 2000000, paces := [(2, { changeF := 1, pending := 5 })] }), 2, by decide +kernel⟩,
   ⟨st (fun d => { (d.setBit (Obj.paceStatus 2) 19 true).wrI (Obj.dieTemperature 2) 12160 with f := 100000 }), 2, by decide +kernel⟩,
   ⟨st (fun d => { ((d.setBit (Obj.paceStatus 2) 19 true).setF (Obj.paceStatus 2) 0 8 63).wrI (Obj.dieTemperature 2) 12159 with f := 1000000 }), 2, by decide +kernel⟩,
   ⟨st (fun d => { d with f := 1000000 }), 2, by decide +kernel⟩,
   ⟨st (fun d => { d with f := 1500000, paces := [(2, { measWin := 1 })] }), 2, by decide +kernel⟩⟩

/-- The hypotheses of `PackageStates` are met, each clause's by a state of its own. -/
theorem witness_PackageStates :
    (∃ (s : State) (v : BitVec 16), (s.dev.alive = true) ∧ (v.toInt < 14720) ∧ (s.dev.bootWait = false)) ∧
    (∃ (s : State) (v : BitVec 16), (s.dev.alive = true) ∧ (14720 ≤ v.toInt)) ∧
    (∃ (s : State), (s.dev.alive = true) ∧ (s.dev.domOn 179 = true) ∧ (s.dev.stopped = false)) ∧
    (∃ (s : State) (p : Nat) (at_ : Nat), (s.dev.up 179) ∧ (s.dev.baseOff = (p + 1, at_)) ∧ (at_ + 1000000 ≤ s.dev.f)) :=
  ⟨⟨st id, 13440, by decide +kernel⟩,
   ⟨st id, 14720, by decide +kernel⟩,
   ⟨st (fun d => { d with f := 100 }), by decide +kernel⟩,
   ⟨st (fun d => { d with f := 1000005, baseOff := (1, 5) }), 0, 5, by dsimp only [Dev.up]; decide +kernel⟩⟩

/-- The hypotheses of `DomainCommands` are met, each clause's by a state of its own. -/
theorem witness_DomainCommands :
    (∃ (s : State) (q : Requester) (n : Fin 181) (code : Fin 3), (s.dev.hears q (Obj.domainCommand n.val) (code.val + 1)) ∧ ((s.dev.domState n.val = 3 ∨ s.dev.domState n.val = 4))) ∧
    (∃ (s : State) (q : Requester) (n : Fin 181) (code : Fin 3), (s.dev.hears q (Obj.domainCommand n.val) (code.val + 1)) ∧ (s.dev.domState n.val < 3) ∧ (s.dev.commandCode (some q) n.val (code.val + 1) ≠ 0)) ∧
    (∃ (s : State) (q : Requester) (n : Fin 181) (code : Fin 3), (s.dev.hears q (Obj.domainCommand n.val) (code.val + 1)) ∧ (s.dev.domState n.val = 0) ∧ (code.val ≠ 0) ∧ (n.val ≠ 179) ∧ (s.dev.commandCode (some q) n.val (code.val + 1) = 0)) ∧
    (∃ (s : State) (q : Requester) (n : Fin 181) (code : Fin 3), (s.dev.hears q (Obj.domainCommand n.val) (code.val + 1)) ∧ ((s.dev.domState n.val = 1 ∨ s.dev.domState n.val = 2)) ∧ (code.val = 0) ∧ (s.dev.domOn 179 = true)) :=
  ⟨⟨st (cl 3), q0, 5, 2, by dsimp only [Dev.hears, Dev.opened]; decide +kernel⟩,
   ⟨st (fun d => d.wr (Obj.domainState 181) 1), q0, 179, 2, by dsimp only [Dev.hears, Dev.opened]; decide +kernel⟩,
   ⟨st id, q0, 5, 2, by dsimp only [Dev.hears, Dev.opened]; decide +kernel⟩,
   ⟨st (cl 1), q0, 5, 0, by dsimp only [Dev.hears, Dev.opened]; decide +kernel⟩⟩

/-- The hypotheses of `EntriesAndWakes` are met, each clause's by a state of its own. -/
theorem witness_EntriesAndWakes :
    (∃ (s : State) (n : Fin 181), (s.dev.working = true) ∧ (s.dev.domState n.val = 3) ∧ (((s.dev.dom n.val).target = 1 ∨ ((s.dev.dom n.val).target = 2 ∧ n.val ≠ 173 ∧ n.val ≠ 174))) ∧ ((s.dev.dom n.val).wakeAfter = false) ∧ ((s.dev.dom n.val).waiters = []) ∧ (s.dev.bit (Obj.domainState n.val) 4 = false) ∧ ((∀ i, i < 4 → s.dev.bit (Obj.wakeControl i) 0 = false)) ∧ ((∀ x ∈ s.dev.held, x.domain ≠ n.val))) ∧
    (∃ (s : State) (n : Fin 181) (failed : List (Fin 17)), (s.dev.working = true) ∧ (n.val ≠ 179) ∧ (s.dev.domState n.val = 4) ∧ (s.dev.wakeReady n.val = true) ∧ ((failed = [] ∨ 128 ≤ n.val)) ∧ (s.dev.bit (Obj.domainState n.val) 4 = false) ∧ ((∀ x ∈ s.dev.held, x.domain ≠ n.val))) :=
  ⟨⟨st (fun d => { cl 3 d with doms := [(5, { target := 2 })] }), 5, by decide +kernel⟩,
   ⟨{ st (fun d => { cl 4 d with doms := [(5, { source := 2, byAccess := true })] }) with mem := { pad := [(5 * 2 ^ 20 + 3, 7)] } }, 5, [], by decide +kernel⟩⟩

/-- The hypotheses of `AccessesAndWakeInputs` are met, each clause's by a state of its own. -/
theorem witness_AccessesAndWakeInputs :
    (∃ (s : State) (n : Fin 181) (who : Accessor), (s.dev.working = true) ∧ ((s.dev.domState n.val = 1 ∨ s.dev.domState n.val = 2)) ∧ (s.dev.accessRight who n.val = true) ∧ (s.dev.on (Obj.wakeOnAccess n.val) = true) ∧ ((s.dev.domOn 179 = true ∨ n.val = 179))) ∧
    (∃ (s : State) (n : Fin 181) (who : Accessor), (s.dev.working = true) ∧ ((s.dev.domState n.val = 1 ∨ s.dev.domState n.val = 2)) ∧ ((s.dev.accessRight who n.val = false ∨ s.dev.on (Obj.wakeOnAccess n.val) = false))) ∧
    (∃ (s : State) (i : Fin 4) (level : Bool), (s.dev.alive = true) ∧ (s.dev.bit (Obj.wakeStatus i.val) 0 ≠ level) ∧ (s.dev.wakeAsserted i.val level = true) ∧ (s.dev.wakeTakes i.val = true)) ∧
    (∃ (s : State) (i : Fin 4), (s.dev.alive = true) ∧ (s.dev.bit (Obj.wakeControl i.val) 0 = false)) :=
  ⟨⟨st (fun d => cl 1 (d.wr (Obj.wakeOnAccess 5) 1)), 5, .firmware, by decide +kernel⟩,
   ⟨st (fun d => cl 2 d), 5, .nobody, by decide +kernel⟩,
   ⟨st (fun d => cl 2 ((d.wr (Obj.wakeControl 1) 1).setBlob (Obj.wakeTargets 1) (32 :: zeros 22)) ), 1, true, by decide +kernel⟩,
   ⟨st (cl 2), 1, by decide +kernel⟩⟩

/-- The hypotheses of `WakeSettingsAndRails` are met, each clause's by a state of its own. -/
theorem witness_WakeSettingsAndRails :
    (∃ (s : State) (i : Fin 4), (s.dev.alive = true) ∧ (s.dev.bit (Obj.wakeControl i.val) 0 = true) ∧ (2 ≤ s.dev.wakeMode i.val) ∧ (s.dev.wakeAsserted i.val (s.dev.bit (Obj.wakeStatus i.val) 0) = true) ∧ (s.dev.rd (Obj.wakeStuckTime i.val) * 32768 ≤ (s.dev.aon - (s.dev.wakeIn i.val).sinceAon) * 1000)) ∧
    (∃ (s : State) (q : Requester) (i : Fin 4) (v : BitVec 32), (s.dev.hears q (Obj.wakeControl i.val) v.toNat)) ∧
    (∃ (s : State) (q : Requester) (n : Fin 181), (s.dev.hears q (Obj.padRelease n.val) 1) ∧ (s.dev.domState n.val = 0)) ∧
    (∃ (s : State) (q : Requester) (n : Fin 181), (s.dev.hears q (Obj.padRelease n.val) 1) ∧ (s.dev.domState n.val ≠ 0)) ∧
    (∃ (s : State) (r : Fin 10), (s.dev.alive = true) ∧ (s.dev.getF (Obj.railState r.val) 0 2 = 1)) ∧
    (∃ (s : State) (r : Fin 10), (s.dev.alive = true) ∧ (s.dev.getF (Obj.railState r.val) 0 2 = 1) ∧ (s.dev.stopped = false) ∧ ((Tab.get ({} : Rail) s.dev.rails r.val).onF + 5000000 ≤ s.dev.rf)) ∧
    (∃ (s : State), (s.dev.alive = true)) ∧
    (∃ (s : State), (s.dev.alive = true)) :=
  ⟨⟨st (fun d => { (d.wr (Obj.wakeControl 1) 7).wr (Obj.wakeStuckTime 1) 1000 with aon := 32768 }), 1, by decide +kernel⟩,
   ⟨st (fun d => d.wr (Obj.wakeStatus 1) 4), q0, 1, 1, by dsimp only [Dev.hears, Dev.opened]; decide +kernel⟩,
   ⟨st (fun d => d.setBit (Obj.domainState 179) 3 true), q0, 179, by dsimp only [Dev.hears, Dev.opened]; decide +kernel⟩,
   ⟨st (fun d => d.wr (Obj.domainState 150) 9), q0, 150, by dsimp only [Dev.hears, Dev.opened]; decide +kernel⟩,
   ⟨st (fun d => (d.setF (Obj.railState 9) 0 2 1).setF (Obj.domainState 179) 0 3 4), 9, by decide +kernel⟩,
   ⟨st (fun d => { d.setF (Obj.railState 3) 0 2 1 with f := 5000000 }), 3, by decide +kernel⟩,
   ⟨st id, by decide +kernel⟩,
   ⟨st id, by decide +kernel⟩⟩

/-- The hypotheses of `WeirArmDisarmReset` are met, each clause's by a state of its own. -/
theorem witness_WeirArmDisarmReset :
    (∃ (s : State) (src : WeirSource) (w : Fin 16384) (v : BitVec 64), (s.dev.mayOperate src w.val = true) ∧ (s.dev.weirMeets src w.val (weirOpReq (.can 0) w.val 3 v.toNat).data) ∧ (armValid v.toNat = true) ∧ ((v.getLsbD 24 = true → stampDiff 32 (s.dev.weir w.val).count 0 < (field v.toNat 0 24 : Int)))) ∧
    (∃ (s : State) (src : WeirSource) (w : Fin 16384), (s.dev.mayOperate src w.val = true) ∧ (s.dev.weirMeets src w.val (weirOpReq (.can 0) w.val 4 0).data)) ∧
    (∃ (s : State) (src : WeirSource) (w : Fin 16384), (s.dev.mayOperate src w.val = true) ∧ (s.dev.weirMeets src w.val (weirOpReq (.can 0) w.val 2 0).data) ∧ (((s.dev.weir w.val).armed = true → 0 < (s.dev.weir w.val).target))) ∧
    (∃ (s : State) (src : WeirSource) (w : Fin 16384) (n : BitVec 32), (s.dev.mayOperate src w.val = false) ∧ (s.dev.weirMeets src w.val (weirOpReq (.can 0) w.val 1 n.toNat).data)) ∧
    (∃ (s : State) (src : WeirSource) (w : Fin 16384) (v : BitVec 64), (s.dev.mayOperate src w.val = true) ∧ (s.dev.weirMeets src w.val (weirOpReq (.can 0) w.val 3 v.toNat).data) ∧ (v.toNat ≠ 0) ∧ (armValid v.toNat = false)) :=
  ⟨⟨st own, .window 0, 5, 0x04000003, by dsimp only [Dev.weirMeets, Dev.opened]; decide +kernel⟩,
   ⟨st (fun d => { own d with weirs := [(5, { count := 2, armed := true, rearm := true, target := 9 })] }), .window 0, 5, by dsimp only [Dev.weirMeets, Dev.opened]; decide +kernel⟩,
   ⟨st (fun d => { own d with weirs := [(5, { count := 7, base := 5, armed := true, rearm := true, target := 9, reached := true })] }), .request q0, 5, by dsimp only [Dev.weirMeets, Dev.opened]; decide +kernel⟩,
   ⟨st id, .request q1, 5, 1, by dsimp only [Dev.weirMeets, Dev.opened]; decide +kernel⟩,
   ⟨st own, .request q0, 5, 5, by dsimp only [Dev.weirMeets, Dev.opened]; decide +kernel⟩⟩

/-- The hypotheses of `WeirAddsAndWaits` are met, each clause's by a state of its own. -/
theorem witness_WeirAddsAndWaits :
    (∃ (s : State) (src : WeirSource) (w : Fin 16384) (n : BitVec 32), (s.dev.weirMeets src w.val (weirOpReq (.can 0) w.val 1 n.toNat).data) ∧ (s.dev.mayOperate src w.val = true)) ∧
    (∃ (s : State) (c : Fin 128 ⊕ Fin 40) (w : Fin 16384), let src : WeirSource := match c with | .inl c => .cluster c | .inr f => .ferry f; (s.dev.working = true) ∧ (s.dev.dieOut (w.val / 4096) = false) ∧ (s.dev.mayOperate src w.val = true)) :=
  ⟨⟨st (fun d => { own d with weirs := [(5, { count := 2, target := 3, armed := true, rearm := true, actionKind := 2, action := [4, 0, 0, 0, 0, 0, 0, 0, 64] })] }), .window 0, 5, 7, by dsimp only [Dev.weirMeets, Dev.opened]; decide +kernel⟩,
   ⟨st (fun d => (own d).wr (Obj.clusterOwner 3) 0), .inl 3, 5, by dsimp only; decide +kernel⟩⟩

/-- The hypotheses of `ActionRecords` are met, each clause's by a state of its own. -/
theorem witness_ActionRecords :
    (∃ (s : State) (q : Requester) (data : List Byte), let w := (s.dev.session (sessOf q)).weirSelect; (data.length = 32) ∧ (w < 16384) ∧ (s.dev.opened) ∧ (s.dev.judgeWrite q 2 0x6813 0 data = .ok) ∧ (s.dev.domOn (132 + w / 4096) = true) ∧ (s.dev.dieOut (w / 4096) = false) ∧ (s.dev.mayOperate (.request q) w = true) ∧ (actionOk data = false)) ∧
    (∃ (s : State) (q : Requester) (data : List Byte), let w := (s.dev.session (sessOf q)).weirSelect; (data.length = 32) ∧ (w < 16384) ∧ (s.dev.opened) ∧ (s.dev.judgeWrite q 2 0x6813 0 data = .ok) ∧ (s.dev.domOn (132 + w / 4096) = true) ∧ (s.dev.dieOut (w / 4096) = false) ∧ (s.dev.mayOperate (.request q) w = true) ∧ (actionOk data = true) ∧ ((s.dev.weir w).armed = false)) ∧
    (∃ (s : State) (q : Requester) (data : List Byte), let w := (s.dev.session (sessOf q)).weirSelect; (data.length = 32) ∧ (w < 16384) ∧ (s.dev.opened) ∧ (s.dev.judgeWrite q 2 0x6813 0 data = .ok) ∧ (s.dev.domOn (132 + w / 4096) = true) ∧ (s.dev.dieOut (w / 4096) = false) ∧ (s.dev.mayOperate (.request q) w = true) ∧ (actionOk data = true) ∧ ((s.dev.weir w).armed = true)) :=
  ⟨⟨st own, q0, zeros 31 ++ [1], by dsimp only [Dev.opened]; decide +kernel⟩,
   ⟨st own, q0, zeros 32, by dsimp only [Dev.opened]; decide +kernel⟩,
   ⟨st (fun d => { own d with weirs := [(0, { armed := true, target := 9 })] }), q0, zeros 32, by dsimp only [Dev.opened]; decide +kernel⟩⟩

/-- The hypotheses of `PlanImageSegments` are met, each clause's by a state of its own. -/
theorem witness_PlanImageSegments :
    (∃ (s : State) (q : Requester) (p : Fin 16) (g : Seg) (t : Nat), (s.dev.reaches (segReq q (Obj.planImage p.val) g)) ∧ (Dev.sessionOk q 2 (0x6000 + p.val) = true) ∧ (s.dev.tenantOf q = some t) ∧ (s.dev.rd (Obj.planState p.val) = 0) ∧ (g.first = true) ∧ (g.offset = 0) ∧ (g.data.length ≤ segLimit q) ∧ (g.data.length ≤ 2 ^ 30) ∧ (s.dev.transferBusy q (Obj.planImage p.val).key true = false) ∧ (g.last = false)) ∧
    (∃ (s : State) (q : Requester) (p : Fin 16) (g : Seg) (t : Nat), (s.dev.reaches (segReq q (Obj.planImage p.val) g)) ∧ (Dev.sessionOk q 2 (0x6000 + p.val) = true) ∧ (s.dev.tenantOf q = some t) ∧ (s.dev.rd (Obj.planState p.val) = 0) ∧ (g.first = true) ∧ (g.offset = 0) ∧ (g.data.length ≤ segLimit q) ∧ (g.data.length ≤ 2 ^ 30) ∧ (s.dev.transferBusy q (Obj.planImage p.val).key true = false) ∧ (g.last = true) ∧ ((g.data.length < 64 ∨ leAt g.data 8 8 ≠ g.data.length))) ∧
    (∃ (s : State) (q : Requester) (p : Fin 16) (g : Seg), (s.dev.reaches (segReq q (Obj.planImage p.val) g)) ∧ (Dev.sessionOk q 2 (0x6000 + p.val) = true) ∧ ((∀ t, s.dev.tenantOf q = some t → s.dev.rd (Obj.planOwner p.val) ≠ t)) ∧ (2 ≤ s.dev.rd (Obj.planState p.val))) :=
  ⟨⟨st id, q0, 3, ⟨0, true, false, [1, 2]⟩, 0, by dsimp only [Dev.reaches, Dev.opened]; decide +kernel⟩,
   ⟨st id, q0, 3, ⟨0, true, true, [1, 2]⟩, 0, by dsimp only [Dev.reaches, Dev.opened]; decide +kernel⟩,
   ⟨st (fun d => (d.wr (Obj.planState 3) 2).wr (Obj.planOwner 3) 1), q0, 3, ⟨0, true, true, [1, 2]⟩, by dsimp only [Dev.reaches, Dev.opened]; decide +kernel⟩⟩

/-- The hypotheses of `PlansRun` are met, each clause's by a state of its own. -/
theorem witness_PlansRun :
    (∃ (s : State) (q : Requester) (p : Fin 16), (s.dev.opened) ∧ (s.dev.judgePlanCommand q p.val 1 = .ok) ∧ ((s.dev.rd (Obj.planState p.val) = 2 ∨ s.dev.rd (Obj.planState p.val) = 5))) ∧
    (∃ (s : State) (q : Requester) (p : Fin 16), (s.dev.opened) ∧ (s.dev.judgePlanCommand q p.val 1 = .ok) ∧ (s.dev.rd (Obj.planState p.val) ≠ 2) ∧ (s.dev.rd (Obj.planState p.val) ≠ 5)) ∧
    (∃ (s : State) (q : Requester) (p : Fin 16), (s.dev.opened) ∧ (s.dev.judgePlanCommand q p.val 2 = .ok) ∧ (s.dev.rd (Obj.planState p.val) = 3)) ∧
    (∃ (s : State) (p : Fin 16), (s.dev.working = true) ∧ (s.dev.rd (Obj.planState p.val) = 4) ∧ (s.dev.tilesLeft p.val = false) ∧ (s.dev.chainsLeft p.val = false) ∧ ((∀ e ∈ (s.dev.plan p.val).places, e.cluster < 128))) ∧
    (∃ (s : State) (q : Requester) (p : Fin 16), (s.dev.opened) ∧ (s.dev.judgePlanCommand q p.val 3 = .ok) ∧ ((s.dev.rd (Obj.planState p.val) = 2 ∨ s.dev.rd (Obj.planState p.val) = 5))) ∧
    (∃ (s : State) (p : Fin 16) (n : Nat), (s.dev.working = true) ∧ (n < 16) ∧ (Tab.get 0 s.dev.phaseReq p.val = n + 1) ∧ ((s.dev.rd (Obj.planState p.val) = 2 ∨ s.dev.rd (Obj.planState p.val) = 5)) ∧ (s.dev.tilesLeft p.val = false) ∧ ((∀ c ∈ (s.dev.plan p.val).phaseClusters n, s.dev.domOn c = true ∧ s.dev.padFree c = true)) ∧ ((∀ e ∈ (s.dev.plan p.val).places, e.cluster < 128))) ∧
    (∃ (s : State) (p : Fin 16) (e : PhaseEntry), (s.dev.working = true) ∧ ((s.dev.plan p.val).phases.find? (fun e => e.phase == s.dev.rd (Obj.phaseNow p.val)) = some e) ∧ (s.dev.rd (Obj.planState p.val) = 3) ∧ (e.timeout ≠ 0) ∧ ((s.dev.plan p.val).phaseF + 1000 * e.timeout ≤ s.dev.rf)) ∧
    (∃ (s : State) (p : Fin 16), (s.dev.working = true) ∧ (((∃ w ∈ s.dev.waits, s.dev.waiterPlan w.waiter = some p.val ∧ w.limit ≠ 0 ∧ w.sinceF + w.limit < s.dev.rf) ∨ (∃ z ∈ (s.dev.plan p.val).layers.zip (s.dev.plan p.val).layerHandles, ∃ h ∈ (s.dev.layer z.2).halo, s.dev.layerRuns z.2 = true ∧ h.limit ≠ 0 ∧ h.sinceF + h.limit < s.dev.rf ∧ (s.dev.windowHeld z.2 z.1 (h.unit / 16)).isSome = true)))) :=
  ⟨⟨st (plan 2), q0, 3, by dsimp only [Dev.opened]; decide +kernel⟩,
   ⟨st (plan 3), q0, 3, by dsimp only [Dev.opened]; decide +kernel⟩,
   ⟨st (fun d => { plan 3 d with plans := [(3, { descriptors := 2, chainsBase := 4096, weirs := [⟨5, 0, 0, 0, []⟩] })], starts := [⟨1, 4096, 0, 16384, 0⟩, ⟨1, 8192, 0, 16384, 0⟩], weirs := [(5, { count := 3, armed := true, target := 9 })] }), q0, 3, by dsimp only [Dev.opened]; decide +kernel⟩,
   ⟨st (plan 4), 3, by decide +kernel⟩,
   ⟨st (fun d => { (plan 2 d).wr (Obj.popOwner 7) 0 with plans := [(3, { popHandles := [7], layerHandles := [2] })], allocs := [⟨3, 0, 64⟩, ⟨2, 64, 64⟩] }), q0, 3, by dsimp only [Dev.opened]; decide +kernel⟩,
   ⟨st (fun d => { plan 2 d with phaseReq := [(3, 3)], plans := [(3, { phases := [⟨2, 0, [(1, 4)]⟩], chainsBase := 4096, entry := 2 })] }), 3, 2, by decide +kernel⟩,
   ⟨st (fun d => { plan 3 d with f := 5000, plans := [(3, { phases := [⟨255, 5, []⟩] })] }), 3, ⟨255, 5, []⟩, by decide +kernel⟩,
   ⟨st (fun d => { (plan 3 d).wr (Obj.clusterOwner 2) 0 with f := 101, plans := [(3, {places := [⟨255, 0, 2, false, 0, 0, 0, []⟩]})], waits := [⟨5, 3, .steward 2, 0, true, 100⟩] }), 3, by decide +kernel⟩⟩

/-- The hypotheses of `ShoalWords` are met, each clause's by a state of its own. -/
theorem witness_ShoalWords :
    (∃ (s : State) (h : Fin 1024) (c : Fin 128) (slot : Fin 64) (e : PopEntry) (x : PopCluster) (w : Transit) (rest : List Transit), (s.dev.up c.val) ∧ (s.dev.popEntry h.val = some e) ∧ ((s.dev.pop h.val).on c.val = some x) ∧ (s.dev.popRuns h.val = true) ∧ (s.dev.shoalMode c.val = true) ∧ (x.waiting = []) ∧ (takeFirst (fun t => decide (t.dest = .population h.val c.val slot.val)) s.dev.transit = some (w, rest)) ∧ (w.horizon = false) ∧ ((2 ^ 24 ≤ w.route ∨ wKind w.word ≤ 1)) ∧ (x.tick < s.dev.wordTick h.val x w) ∧ (x.future.length < 4096)) ∧
    (∃ (s : State) (h : Fin 1024) (c : Fin 128) (slot : Fin 64) (e : PopEntry) (x : PopCluster) (w : Transit) (rest : List Transit), (s.dev.up c.val) ∧ (s.dev.popEntry h.val = some e) ∧ ((s.dev.pop h.val).on c.val = some x) ∧ (s.dev.popRuns h.val = true) ∧ (s.dev.shoalMode c.val = true) ∧ (x.waiting = []) ∧ (takeFirst (fun t => decide (t.dest = .population h.val c.val slot.val)) s.dev.transit = some (w, rest)) ∧ (w.horizon = false) ∧ ((2 ^ 24 ≤ w.route ∨ wKind w.word ≤ 1)) ∧ (x.tick < s.dev.wordTick h.val x w) ∧ (4096 ≤ x.future.length)) ∧
    (∃ (s : State) (h : Fin 1024) (c : Fin 128) (slot : Fin 64) (poisoned : Bool) (e : PopEntry) (x : PopCluster) (w : Transit) (rest : List Transit) (z : Synapse), let y : FutureInput := ⟨x.tick, slot.val, w.word, w.second, poisoned || w.poisoned⟩; (s.dev.up c.val) ∧ (s.dev.popEntry h.val = some e) ∧ ((s.dev.pop h.val).on c.val = some x) ∧ (s.dev.popRuns h.val = true) ∧ (s.dev.shoalMode c.val = true) ∧ (x.waiting = []) ∧ (takeFirst (fun t => decide (t.dest = .population h.val c.val slot.val)) s.dev.transit = some (w, rest)) ∧ (w.horizon = false) ∧ ((2 ^ 24 ≤ w.route ∨ wKind w.word ≤ 1)) ∧ (s.dev.wordTick h.val x w = x.tick) ∧ (s.dev.heldSynapses h.val c.val y = [z]) ∧ (s.dev.unitWorks z.unit = true)) ∧
    (∃ (s : State) (h : Fin 1024) (c : Fin 128) (slot : Fin 64) (poisoned : Bool) (e : PopEntry) (x : PopCluster) (w : Transit) (rest : List Transit), let y : FutureInput := ⟨x.tick, slot.val, w.word, w.second, poisoned || w.poisoned⟩; (s.dev.up c.val) ∧ (s.dev.popEntry h.val = some e) ∧ ((s.dev.pop h.val).on c.val = some x) ∧ (s.dev.popRuns h.val = true) ∧ (s.dev.shoalMode c.val = true) ∧ (x.waiting = []) ∧ (takeFirst (fun t => decide (t.dest = .population h.val c.val slot.val)) s.dev.transit = some (w, rest)) ∧ (w.horizon = false) ∧ ((2 ^ 24 ≤ w.route ∨ wKind w.word ≤ 1)) ∧ (s.dev.wordTick h.val x w = x.tick) ∧ (s.dev.heldSynapses h.val c.val y ≠ []) ∧ ((∀ z ∈ s.dev.heldSynapses h.val c.val y, s.dev.unitWorks z.unit = false))) ∧
    (∃ (s : State) (h : Fin 1024) (c : Fin 128) (slot : Fin 64) (e : PopEntry) (x : PopCluster) (w : Transit) (rest : List Transit), (s.dev.up c.val) ∧ (s.dev.popEntry h.val = some e) ∧ ((s.dev.pop h.val).on c.val = some x) ∧ (s.dev.popRuns h.val = true) ∧ (s.dev.shoalMode c.val = true) ∧ (x.waiting = []) ∧ (takeFirst (fun t => decide (t.dest = .population h.val c.val slot.val)) s.dev.transit = some (w, rest)) ∧ (w.horizon = false) ∧ ((2 ^ 24 ≤ w.route ∨ wKind w.word ≤ 1)) ∧ (s.dev.wordTick h.val x w < x.tick)) ∧
    (∃ (s : State) (h : Fin 1024) (c : Fin 128) (slot : Fin 64) (e : PopEntry) (x : PopCluster) (w : Transit) (rest : List Transit), (s.dev.up c.val) ∧ (s.dev.popEntry h.val = some e) ∧ ((s.dev.pop h.val).on c.val = some x) ∧ (s.dev.popRuns h.val = true) ∧ (s.dev.shoalMode c.val = true) ∧ (x.waiting = []) ∧ (takeFirst (fun t => decide (t.dest = .population h.val c.val slot.val)) s.dev.transit = some (w, rest)) ∧ (w.horizon = true)) :=
  ⟨⟨st (popOn { cluster := 5 } [spike (5 + 2 ^ 18)]), 7, 5, 4, pe0, { cluster := 5 }, spike (5 + 2 ^ 18), [], by dsimp only [Dev.up]; decide +kernel⟩,
   ⟨st (popOn { cluster := 5, future := List.replicate 4096 ⟨1, 0, 0, 0, false⟩ } [spike (5 + 2 ^ 18)]), 7, 5, 4, pe0, { cluster := 5, future := List.replicate 4096 ⟨1, 0, 0, 0, false⟩ }, spike (5 + 2 ^ 18), [], by refine ⟨by dsimp only [Dev.up]; decide +kernel, by decide +kernel, rfl, by decide +kernel, by decide +kernel, rfl, by decide +kernel, by decide +kernel, by decide +kernel, by decide +kernel, Nat.le_of_eq List.length_replicate.symm⟩⟩,
   ⟨st (fun d => kernel (popOn { cluster := 5 } [spike (2 ^ 18)] d)), 7, 5, 4, true, pe1, { cluster := 5 }, spike (2 ^ 18), [], ⟨80 * 4096, 5, 1, 0⟩, by dsimp only [Dev.up]; decide +kernel⟩,
   ⟨st (fun d => kernel (popOn { cluster := 5 } [spike (2 ^ 18)] (health 5 d))), 7, 5, 4, true, pe1, { cluster := 5 }, spike (2 ^ 18), [], by dsimp only [Dev.up]; decide +kernel⟩,
   ⟨st (popOn { cluster := 5, tick := 6 } [spike (5 + 2 ^ 18)]), 7, 5, 4, pe0, { cluster := 5, tick := 6 }, spike (5 + 2 ^ 18), [], by dsimp only [Dev.up]; decide +kernel⟩,
   ⟨st (popOn { cluster := 5, horizons := [(4, 1), (2, 3)] } [spike 6]), 7, 5, 4, pe0, { cluster := 5, horizons := [(4, 1), (2, 3)] }, spike 6, [], by dsimp only [Dev.up]; decide +kernel⟩⟩

/-- The hypotheses of `TicksClose` are met, each clause's by a state of its own. -/
theorem witness_TicksClose :
    (∃ (s : State) (h : Fin 1024) (c : Fin 128) (e : PopEntry) (x : PopCluster), (s.dev.up c.val) ∧ (s.dev.popEntry h.val = some e) ∧ ((s.dev.pop h.val).on c.val = some x) ∧ (s.dev.popRuns h.val = true) ∧ (s.dev.shoalMode c.val = true) ∧ (x.waiting = []) ∧ ((∀ m ∈ e.unitsOn c.val, s.dev.residueOff e c.val m.unit false = false)) ∧ (s.dev.gatesOpen h.val e x = true)) ∧
    (∃ (s : State) (h : Fin 1024) (c : Fin 128) (e : PopEntry) (x : PopCluster), (s.dev.up c.val) ∧ (s.dev.popEntry h.val = some e) ∧ ((s.dev.pop h.val).on c.val = some x) ∧ (s.dev.popRuns h.val = true) ∧ (s.dev.shoalMode c.val = true) ∧ (x.waiting = []) ∧ ((∀ m ∈ e.unitsOn c.val, s.dev.residueOff e c.val m.unit false = false)) ∧ (s.dev.passed (s.dev.tickEnd h.val x.tick) (s.dev.rd (Obj.horizonTimeout h.val)) = true)) ∧
    (∃ (s : State) (h : Fin 1024) (c : Fin 128) (e : PopEntry) (x : PopCluster), (s.dev.up c.val) ∧ (s.dev.popEntry h.val = some e) ∧ ((s.dev.pop h.val).on c.val = some x) ∧ (s.dev.popRuns h.val = true) ∧ (s.dev.shoalMode c.val = true) ∧ (x.waiting = []) ∧ ((∀ m ∈ e.unitsOn c.val, s.dev.residueOff e c.val m.unit false = false)) ∧ ((x.stepped = true ∨ s.dev.tickEnd h.val x.tick + 100000000 < s.dev.dt))) ∧
    (∃ (a : ResAcc), (a.agrees 0 = true)) ∧
    (∃ (a : ResAcc), (a.agrees 0 = true)) ∧
    (∃ (d : Dev) (y : Synapse), ((d.accRes y.key).agrees 0 = true)) ∧
    (∃ (y : Synapse) (k : Nat), (k ≠ y.key)) :=
  ⟨⟨st (fun d => { (popOn { cluster := 5, horizons := [(4, 0)] } [] d).wr (Obj.gateMask 7) 16 with neurons := [(80 * 4096, 2 ^ 31 + 3)], accs := [(80 * 4096, 7)], residues := [(80 * 4096, 1)] }), 7, 5, pe0, { cluster := 5, horizons := [(4, 0)] }, by dsimp only [Dev.up]; decide +kernel⟩,
   ⟨st (fun d => { (popOn { cluster := 5 } [] d).wr (Obj.gateMask 7) 16 with f := 3000000 }), 7, 5, pe0, { cluster := 5 }, by dsimp only [Dev.up]; decide +kernel⟩,
   ⟨st (fun d => { popOn { cluster := 5, stepped := true } [] d with f := 5000000 }), 7, 5, pe0, { cluster := 5, stepped := true }, by dsimp only [Dev.up]; decide +kernel⟩,
   ⟨⟨2 ^ 31 - 1, 1⟩, by decide +kernel⟩,
   ⟨⟨2 ^ 31 - 1, 1⟩, by decide +kernel⟩,
   ⟨{ accs := [(5, 7)], residues := [(5, 1)] }, ⟨5, -7, 3, 5⟩, by decide +kernel⟩,
   ⟨⟨5, -7, 3, 5⟩, 6, by decide +kernel⟩⟩

/-- The hypotheses of `DetectionsQueue` are met, each clause's by a state of its own. -/
theorem witness_DetectionsQueue :
    (∃ (s : State) (w : Watched ⊕ Detection), let x : Detection := match w with | .inl (.unit g) => .watchUnit g | .inl (.cluster c) => .watchCluster c | .inl (.region r) => .watchRegion r | .inl (.eddy d) => .watchEddy d | .inr y => y; let cls := (detectionEntry x).1; let e := (detectionEntry x).2; let covers : FaultEntry → Bool := fun y => y.phase != .isolated && !reportOnly y.cls && Elem.under e y.elem; (s.dev.working = true) ∧ (reportOnly cls = false) ∧ (cls ≠ 0x30) ∧ (cls ≠ 0x31) ∧ ((s.dev.queueOf e.queue).entries.any covers = false) ∧ (s.dev.takenUnder e.queue e = false) ∧ (s.dev.handling e.queue = none) ∧ (s.dev.alreadyOut e = false) ∧ ((s.dev.queueOf e.queue).entries.length < 64)) ∧
    (∃ (s : State) (w : Watched ⊕ Detection), let x : Detection := match w with | .inl (.unit g) => .watchUnit g | .inl (.cluster c) => .watchCluster c | .inl (.region r) => .watchRegion r | .inl (.eddy d) => .watchEddy d | .inr y => y; let cls := (detectionEntry x).1; let e := (detectionEntry x).2; let covers : FaultEntry → Bool := fun y => y.phase != .isolated && !reportOnly y.cls && Elem.under e y.elem; (s.dev.working = true) ∧ (reportOnly cls = false) ∧ (cls ≠ 0x30) ∧ (cls ≠ 0x31) ∧ ((s.dev.queueOf e.queue).entries.any covers = true)) ∧
    (∃ (s : State) (w : Watched ⊕ Detection), let x : Detection := match w with | .inl (.unit g) => .watchUnit g | .inl (.cluster c) => .watchCluster c | .inl (.region r) => .watchRegion r | .inl (.eddy d) => .watchEddy d | .inr y => y; let cls := (detectionEntry x).1; let e := (detectionEntry x).2; let covers : FaultEntry → Bool := fun y => y.phase != .isolated && !reportOnly y.cls && Elem.under e y.elem; (s.dev.working = true) ∧ (reportOnly cls = false) ∧ (cls ≠ 0x30) ∧ (cls ≠ 0x31) ∧ ((s.dev.queueOf e.queue).entries.any covers = false) ∧ (s.dev.takenUnder e.queue e = true) ∧ ((match e with | .die _ => false | _ => true) = true)) ∧
    (∃ (s : State) (d : Fin 6), (s.dev.working = true) ∧ (s.dev.rd (Obj.dieHealth d.val) = 0)) ∧
    (∃ (s : State) (d : Fin 4), (s.dev.working = true) ∧ (s.dev.rd (Obj.dieHealth d.val) = 0)) :=
  ⟨⟨st allSound, .inr (.ferry 39), by dsimp only; decide +kernel⟩,
   ⟨st (queued 0 (fe 4 (.cluster 5) .queued)), .inl (.unit 80), by dsimp only; decide +kernel⟩,
   ⟨st (queued 0 (fe 4 (.unit 80) .taken)), .inl (.cluster 5), by dsimp only; decide +kernel⟩,
   ⟨st id, 5, by decide +kernel⟩,
   ⟨st id, 3, by decide +kernel⟩⟩

/-- The hypotheses of `FaultsAreHandled` are met, each clause's by a state of its own. -/
theorem witness_FaultsAreHandled :
    (∃ (s : State) (q : Fin 6) (e : FaultEntry) (es : List FaultEntry), (s.dev.working = true) ∧ ((s.dev.queueOf q.val).entries = e :: es) ∧ (s.dev.mayTake q.val e = true) ∧ (e.phase ≠ .isolated) ∧ (reportOnly e.cls = true) ∧ (e.cls ≠ 0x0E)) ∧
    (∃ (s : State) (q : Fin 6) (e : FaultEntry) (es : List FaultEntry), (s.dev.working = true) ∧ ((s.dev.queueOf q.val).entries = e :: es) ∧ (s.dev.mayTake q.val e = true) ∧ (e.phase = .queued) ∧ (reportOnly e.cls = false)) ∧
    (∃ (s : State) (q : Fin 6) (e : FaultEntry) (es : List FaultEntry) (g : Fin 2048), (s.dev.working = true) ∧ ((s.dev.queueOf q.val).entries = e :: es) ∧ (e.elem = .unit g.val) ∧ (s.dev.mayTake q.val e = true) ∧ (e.phase = .queued) ∧ (reportOnly e.cls = false) ∧ (s.dev.bit (Obj.clusterHealth (g.val / 16)) 2 = true) ∧ (s.dev.slotOf g.val < 17) ∧ (s.dev.getF (Obj.clusterHealth (g.val / 16)) 20 5 ≠ s.dev.slotOf g.val)) ∧
    (∃ (s : State) (q : Fin 6) (e : FaultEntry) (es : List FaultEntry) (g : Fin 2048), (s.dev.working = true) ∧ ((s.dev.queueOf q.val).entries = e :: es) ∧ (e.elem = .unit g.val) ∧ (e.phase = .isolated)) ∧
    (∃ (s : State) (q : Fin 6) (e : FaultEntry) (es : List FaultEntry), (s.dev.working = true) ∧ ((s.dev.queueOf q.val).entries = e :: es) ∧ ((e.phase = .taken ∧ e.takenF + 50000 < s.dev.rf) ∨ (e.phase = .isolated ∧ e.takenF + 740000 < s.dev.rf)) ∧ (s.dev.rd (Obj.dieHealth q.val) = 0)) :=
  ⟨⟨st (queued 4 (fe 0x0F .timeBase .queued)), 4, fe 0x0F .timeBase .queued, [], by decide +kernel⟩,
   ⟨st (queued 0 (fe 1 (.unit 80) .queued)), 0, fe 1 (.unit 80) .queued, [], by decide +kernel⟩,
   ⟨st (fun d => { health (4 + 16 * 2 ^ 20) d with faultQ := [(0, { entries := [fe 1 (.unit 80) .queued], nextSeq := 2 })], unitMap := [(80, 1)] }), 0, fe 1 (.unit 80) .queued, [], 80, by decide +kernel⟩,
   ⟨st (fun d => { health (12 + 16 * 2 ^ 20) d with faultQ := [(0, { entries := [fe 1 (.unit 80) .isolated], nextSeq := 2 })], unitMap := [(80, 1)] }), 0, fe 1 (.unit 80) .isolated, [], 80, by decide +kernel⟩,
   ⟨st (fun d => { queued 0 (fe 1 (.unit 80) .taken) d with f := 50001 }), 0, fe 1 (.unit 80) .taken, [], by decide +kernel⟩⟩

/-- The hypotheses of `RecoveryCommands` are met, each clause's by a state of its own. -/
theorem witness_RecoveryCommands :
    (∃ (s : State) (q : Requester) (d : Fin 4) (v : BitVec 8), (s.dev.hears q (Obj.dieCommand d.val) v.toNat) ∧ (s.dev.rd (Obj.dieHealth d.val) = 1) ∧ (s.dev.getF (Obj.faultEngineState d.val) 9 3 ≠ 5) ∧ (s.dev.getF (Obj.railState d.val) 0 2 ≠ 3)) ∧
    (∃ (s : State) (q : Requester) (d : Fin 4) (v : BitVec 8), (s.dev.hears q (Obj.dieCommand d.val) v.toNat) ∧ (s.dev.rd (Obj.dieHealth d.val) ≠ 1)) ∧
    (∃ (s : State) (q : Requester) (c : Fin 128) (v : BitVec 8), (s.dev.hears q (Obj.slotRetest c.val) v.toNat) ∧ (s.dev.bit (Obj.clusterHealth c.val) (3 + v.toNat) = true) ∧ (s.dev.march c.val = none)) ∧
    (∃ (s : State) (q : Requester) (c : Fin 128) (v : BitVec 8), (s.dev.hears q (Obj.slotRetest c.val) v.toNat) ∧ (s.dev.bit (Obj.clusterHealth c.val) (3 + v.toNat) = false ∨ (s.dev.march c.val).isSome = true)) ∧
    (∃ (s : State) (q : Requester) (v : BitVec 8), (s.dev.hears q Obj.alertClear v.toNat)) ∧
    (∃ (s : State), (s.dev.working = true)) ∧
    (∃ (s : State) (l : Fin 12), (s.dev.working = true) ∧ (Tab.get 0 s.dev.linkRetrainF l.val ≠ 0)) ∧
    (∃ (s : State), (s.dev.working = true)) :=
  ⟨⟨st (fun d => { (d.wr (Obj.dieHealth 2) 1).setF (Obj.faultEngineState 2) 9 3 1 with weirs := [(5, {count := 1}), (8195, { count := 4 })] }), q0, 2, 1, by dsimp only [Dev.hears, Dev.opened]; decide +kernel⟩,
   ⟨st id, q0, 2, 1, by dsimp only [Dev.hears, Dev.opened]; decide +kernel⟩,
   ⟨st (health 8), q0, 5, 0, by dsimp only [Dev.hears, Dev.opened]; decide +kernel⟩,
   ⟨st sound, q0, 5, 0, by dsimp only [Dev.hears, Dev.opened]; decide +kernel⟩,
   ⟨st (fun d => { d with alertFault := true, alertRecovery := true }), q0, 1, by dsimp only [Dev.hears, Dev.opened]; decide +kernel⟩,
   ⟨st (fun d => { d with linkMs := [(3, (1, 16))] }), by decide +kernel⟩,
   ⟨st (fun d => { d with linkRetrainF := [(3, 1)] }), 3, by decide +kernel⟩,
   ⟨st (fun d => { d with pathRecalF := 5 }), by decide +kernel⟩⟩

/-- The hypotheses of `SensorsAreIdentified` are met, each clause's by a state of its own. -/
theorem witness_SensorsAreIdentified :
    (∃ (s : State) (n : Fin 36), (s.dev.up (portDomain n.val)) ∧ (s.dev.stState n.val = 0) ∧ (s.dev.rd (Obj.streamSource n.val) = 0)) ∧
    (∃ (s : State) (n : Fin 36), (s.dev.up (portDomain n.val)) ∧ (s.dev.stState n.val ≠ 0)) ∧
    (∃ (s : State) (n : Fin 36), (s.dev.up (portDomain n.val)) ∧ (s.dev.i3cLatched = false) ∧ (s.dev.stState n.val = 1) ∧ (s.dev.rd (Obj.streamSource n.val) = 0) ∧ ((s.dev.str n.val).i3cOut = true) ∧ ((s.dev.rd (Obj.i3cStaticAddress n.val) ≠ 0 ∨ s.dev.stState (busMate n.val) ≠ 1))) ∧
    (∃ (s : State) (n : Fin 36), (s.dev.up (portDomain n.val)) ∧ (s.dev.i3cLatched = false) ∧ (s.dev.stState n.val = 1) ∧ ((s.dev.str n.val).i3cOut = true) ∧ ((s.dev.str n.val).i3cF + 10000000 ≤ s.dev.rf)) ∧
    (∃ (s : State), (s.dev.up 180) ∧ (s.dev.i3cLatched = false)) ∧
    (∃ (s : State) (n : Fin 36) (q : Requester), (s.dev.hears q (Obj.streamCommand n.val) 3) ∧ (s.dev.isCustodian q = false)) ∧
    (∃ (s : State) (n : Fin 36) (q : Requester), (s.dev.hears q (Obj.streamCommand n.val) 3) ∧ (s.dev.isCustodian q = true) ∧ (s.dev.stState n.val ≠ 2)) ∧
    (∃ (s : State) (n : Fin 36) (q : Requester), (s.dev.hears q (Obj.streamCommand n.val) 3) ∧ (s.dev.isCustodian q = true) ∧ (s.dev.stState n.val = 2)) :=
  ⟨⟨st id, 4, by dsimp only [Dev.up]; decide +kernel⟩,
   ⟨st (stream 5 {}), 4, by dsimp only [Dev.up]; decide +kernel⟩,
   ⟨st (stream 1 { i3cOut := true }), 4, by dsimp only [Dev.up]; decide +kernel⟩,
   ⟨st (fun d => { stream 1 { i3cOut := true } d with f := 10000000 }), 4, by dsimp only [Dev.up]; decide +kernel⟩,
   ⟨st (stream 1 {}), by dsimp only [Dev.up]; decide +kernel⟩,
   ⟨st (fun d => (stream 2 {} d).wr (Obj.streamTenant 4) 1), 4, q1, by dsimp only [Dev.hears, Dev.opened]; decide +kernel⟩,
   ⟨st (stream 4 {}), 4, q0, by dsimp only [Dev.hears, Dev.opened]; decide +kernel⟩,
   ⟨st (stream 2 { identity := [1, 2] }), 4, q0, by dsimp only [Dev.hears, Dev.opened]; decide +kernel⟩⟩

/-- The hypotheses of `StreamsStartAndEnd` are met, each clause's by a state of its own. -/
theorem witness_StreamsStartAndEnd :
    (∃ (s : State) (q : Requester) (n : Fin 36), (s.dev.hears q (Obj.streamCommand n.val) 1) ∧ (s.dev.stState n.val = 4) ∧ (s.dev.startError n.val = 0) ∧ ((s.dev.str n.val).queue.length + 1 < queueWords)) ∧
    (∃ (s : State) (q : Requester) (n : Fin 36), (s.dev.hears q (Obj.streamCommand n.val) 1) ∧ (s.dev.stState n.val = 4) ∧ (s.dev.startError n.val ≠ 0)) ∧
    (∃ (s : State) (q : Requester) (n : Fin 36), (s.dev.hears q (Obj.streamCommand n.val) 1) ∧ (s.dev.stState n.val ≠ 4)) ∧
    (∃ (s : State) (n : Fin 36), (s.dev.up (portDomain n.val)) ∧ (s.dev.stState n.val = 4) ∧ (s.dev.rd (Obj.autoRestart n.val) = 1) ∧ (s.dev.bit (Obj.streamState n.val) 11 = true) ∧ (s.dev.startError n.val = 0)) ∧
    (∃ (s : State) (q : Requester) (n : Fin 36), (s.dev.hears q (Obj.streamCommand n.val) 2) ∧ (s.dev.stState n.val = 5)) ∧
    (∃ (s : State) (n : Fin 36) (q : Requester), (s.dev.hears q (Obj.streamCommand n.val) 4) ∧ (s.dev.isCustodian q = true) ∧ (s.dev.stState n.val ≠ 0) ∧ (s.dev.rd (Obj.streamSource n.val) = 0)) ∧
    (∃ (s : State) (n : Fin 36), (s.dev.up (portDomain n.val)) ∧ ((s.dev.rd Obj.linkTimeout * 1000 ≤ s.dev.rf - (s.dev.str n.val).activeF ∨ 3 ≤ (s.dev.str n.val).i3cMissed)) ∧ (s.dev.stState n.val = 5)) ∧
    (∃ (s : State) (n : Fin 36), (s.dev.up (portDomain n.val)) ∧ ((s.dev.rd Obj.linkTimeout * 1000 ≤ s.dev.rf - (s.dev.str n.val).activeF ∨ 3 ≤ (s.dev.str n.val).i3cMissed)) ∧ (s.dev.stState n.val ≠ 0) ∧ (s.dev.stState n.val ≠ 5) ∧ (s.dev.stState n.val ≠ 6)) ∧
    (∃ (s : State) (n : Fin 36), (s.dev.up (portDomain n.val)) ∧ (s.dev.stState n.val = 6) ∧ ((s.dev.str n.val).queue = []) ∧ ((s.dev.str n.val).ring = []) ∧ ((s.dev.str n.val).sluice = [])) ∧
    (∃ (s : State) (n : Fin 36), (s.dev.up (portDomain n.val)) ∧ (s.dev.stState n.val = 5) ∧ ((s.dev.str n.val).queue ≠ []) ∧ (s.dev.rd (Obj.queueStallLimit n.val) * 1000 ≤ s.dev.rf - max (s.dev.str n.val).takenF (s.dev.str n.val).headF)) :=
  ⟨⟨st (fun d => (stream 4 {} d).wr (Obj.spillBytes 4) 0), q0, 4, by dsimp only [Dev.hears, Dev.opened]; decide +kernel⟩,
   ⟨st (fun d => (stream 4 {} d).wr (Obj.gridNodes 4) 5), q0, 4, by dsimp only [Dev.hears, Dev.opened]; decide +kernel⟩,
   ⟨st (stream 1 {}), q0, 4, by dsimp only [Dev.hears, Dev.opened]; decide +kernel⟩,
   ⟨st (fun d => (((stream 4 {} d).wr (Obj.spillBytes 4) 0).wr (Obj.autoRestart 4) 1).setBit (Obj.streamState 4) 11 true), 4, by dsimp only [Dev.up]; decide +kernel⟩,
   ⟨st (stream 5 { queue := [3] }), q0, 4, by dsimp only [Dev.hears, Dev.opened]; decide +kernel⟩,
   ⟨st (fun d => { stream 5 { queue := [3] } d with allocs := [⟨68, 0, 64⟩, ⟨2, 64, 64⟩] }), 4, q0, by dsimp only [Dev.hears, Dev.opened]; decide +kernel⟩,
   ⟨st (stream 5 { i3cMissed := 3 }), 4, by dsimp only [Dev.up]; decide +kernel⟩,
   ⟨st (stream 4 { i3cMissed := 3 }), 4, by dsimp only [Dev.up]; decide +kernel⟩,
   ⟨st (fun d => { stream 6 { drainEmpty := true, hot := [⟨1, 2, true⟩] } d with allocs := [⟨68, 0, 64⟩] }), 4, by dsimp only [Dev.up]; decide +kernel⟩,
   ⟨st (fun d => { stream 5 { queue := [3] } d with f := 10000000000 }), 4, by dsimp only [Dev.up]; decide +kernel⟩⟩

/-- The hypotheses of `PacketsDecode` are met, each clause's by a state of its own. -/
theorem witness_PacketsDecode :
    (∃ (s : State) (n : Fin 36) (k : CsiPacket), (s.dev.up (portDomain n.val)) ∧ (s.dev.rd (Obj.streamSource n.val) = 0) ∧ (s.dev.stState n.val = 5) ∧ (k.header = .uncorrectable)) ∧
    (∃ (s : State) (n : Fin 36) (k : CsiPacket), (s.dev.up (portDomain n.val)) ∧ (s.dev.rd (Obj.streamSource n.val) = 0) ∧ (s.dev.stState n.val = 5) ∧ (k.header = .ok) ∧ (k.vc ≠ s.dev.rd (Obj.virtualChannel n.val))) ∧
    (∃ (s : State) (n : Fin 36) (k : CsiPacket), (s.dev.up (portDomain n.val)) ∧ (s.dev.rd (Obj.streamSource n.val) = 0) ∧ (s.dev.stState n.val = 5) ∧ (k.header = .ok) ∧ (k.vc = s.dev.rd (Obj.virtualChannel n.val)) ∧ (0x10 ≤ k.dt) ∧ (k.dt = s.dev.rd (Obj.dataType n.val)) ∧ (k.crcOk = false)) ∧
    (∃ (s : State) (n : Fin 36) (k : CsiPacket), let words := s.dev.wordsIn n.val k.payload; let b := s.dev.rd (Obj.wordBits (s.dev.profileOf n.val)) / 8; let w := leAt k.payload 0 b; let e := leAt (s.dev.blob (Obj.decodeTable (s.dev.profileOf n.val))) (8 * field w (s.dev.rd (Obj.typeLsb (s.dev.profileOf n.val))) (s.dev.rd (Obj.typeBits (s.dev.profileOf n.val)))) 8; (s.dev.up (portDomain n.val)) ∧ (s.dev.rd (Obj.streamSource n.val) = 0) ∧ (s.dev.stState n.val = 5) ∧ (k.header = .ok) ∧ (k.vc = s.dev.rd (Obj.virtualChannel n.val)) ∧ (0x10 ≤ k.dt) ∧ (k.dt = s.dev.rd (Obj.dataType n.val)) ∧ (k.crcOk = true) ∧ (words = 1) ∧ (field e 0 4 = 7)) ∧
    (∃ (s : State) (n : Fin 36) (k : CsiPacket), let words := s.dev.wordsIn n.val k.payload; let b := s.dev.rd (Obj.wordBits (s.dev.profileOf n.val)) / 8; let w := leAt k.payload 0 b; let e := leAt (s.dev.blob (Obj.decodeTable (s.dev.profileOf n.val))) (8 * field w (s.dev.rd (Obj.typeLsb (s.dev.profileOf n.val))) (s.dev.rd (Obj.typeBits (s.dev.profileOf n.val)))) 8; (s.dev.up (portDomain n.val)) ∧ (s.dev.rd (Obj.streamSource n.val) = 0) ∧ (s.dev.stState n.val = 5) ∧ (k.header = .ok) ∧ (k.vc = s.dev.rd (Obj.virtualChannel n.val)) ∧ (0x10 ≤ k.dt) ∧ (k.dt = s.dev.rd (Obj.dataType n.val)) ∧ (k.crcOk = true) ∧ (words = 1) ∧ (field e 0 4 = 2)) ∧
    (∃ (s : State) (n : Fin 36) (k : CsiPacket), let words := s.dev.wordsIn n.val k.payload; let b := s.dev.rd (Obj.wordBits (s.dev.profileOf n.val)) / 8; let w := leAt k.payload 0 b; let e := leAt (s.dev.blob (Obj.decodeTable (s.dev.profileOf n.val))) (8 * field w (s.dev.rd (Obj.typeLsb (s.dev.profileOf n.val))) (s.dev.rd (Obj.typeBits (s.dev.profileOf n.val)))) 8; let a := wordField w (field e 4 5) (field e 9 5); (s.dev.up (portDomain n.val)) ∧ (s.dev.rd (Obj.streamSource n.val) = 0) ∧ (s.dev.stState n.val = 5) ∧ (k.header = .ok) ∧ (k.vc = s.dev.rd (Obj.virtualChannel n.val)) ∧ (0x10 ≤ k.dt) ∧ (k.dt = s.dev.rd (Obj.dataType n.val)) ∧ (k.crcOk = true) ∧ (words = 1) ∧ (field e 0 4 = 4) ∧ (field e 19 5 = 0) ∧ (a < 4096) ∧ (a < s.dev.rd (Obj.pixelWidth (s.dev.profileOf n.val))) ∧ ((s.dev.str n.val).y < s.dev.rd (Obj.pixelHeight (s.dev.profileOf n.val))) ∧ (s.dev.rd (Obj.hotEnable n.val) = 0) ∧ ((∀ z ∈ (s.dev.str n.val).hot, ¬ (z.x = a ∧ z.y = (s.dev.str n.val).y))) ∧ ((if (s.dev.str n.val).floodWin = s.dev.dtWin 100000 then (s.dev.str n.val).floodCount else 0) < s.dev.rd (Obj.floodCeiling n.val)) ∧ ((s.dev.str n.val).lost = 0) ∧ ((s.dev.str n.val).lostBack = 0) ∧ ((s.dev.str n.val).ring = []) ∧ ((s.dev.str n.val).queue.length < queueWords)) ∧
    (∃ (s : State) (n : Fin 36) (k : CsiPacket), (s.dev.up (portDomain n.val)) ∧ (s.dev.rd (Obj.streamSource n.val) = 0) ∧ (s.dev.stState n.val ≠ 5) ∧ (k.header = .uncorrectable)) ∧
    (∃ (s : State) (port : Fin 2), (s.dev.up (175 + port.val))) ∧
    (∃ (s : State) (n : Fin 36) (port : Fin 2) (udp : Nat) (source : List Byte), (s.dev.up (175 + port.val)) ∧ (s.dev.domOn (portDomain n.val) = true) ∧ (s.dev.rd (Obj.streamSource n.val) = 1) ∧ (udp ≠ 0) ∧ (s.dev.rd (Obj.flowPort n.val) = udp) ∧ (s.dev.flowForeign n.val (bytesAt source 0 16) = true)) ∧
    (∃ (s : State) (port : Fin 2) (udp : Nat), let feeds : Nat → Prop := fun m => s.dev.domOn (portDomain m) = true ∧ s.dev.rd (Obj.streamSource m) = 1 ∧ udp ≠ 0 ∧ s.dev.rd (Obj.flowPort m) = udp; (s.dev.up (175 + port.val)) ∧ ((∀ m, m < 36 → ¬ feeds m))) ∧
    (∃ (s : State) (n : Fin 36) (port : Fin 2) (udp : Nat) (source : List Byte) (payload : List Byte), let feeds : Nat → Prop := fun m => s.dev.domOn (portDomain m) = true ∧ s.dev.rd (Obj.streamSource m) = 1 ∧ udp ≠ 0 ∧ s.dev.rd (Obj.flowPort m) = udp; (s.dev.up (175 + port.val)) ∧ (feeds n.val) ∧ ((∀ m, m < 36 → m ≠ n.val → ¬ feeds m)) ∧ (s.dev.stState n.val = 5) ∧ (s.dev.flowForeign n.val (bytesAt source 0 16) = false) ∧ (leAt payload 0 2 ≠ 0x0100)) ∧
    (∃ (s : State) (n : Fin 36) (port : Fin 2) (udp : Nat) (source : List Byte) (payload : List Byte) (p : Nat), let feeds : Nat → Prop := fun m => s.dev.domOn (portDomain m) = true ∧ s.dev.rd (Obj.streamSource m) = 1 ∧ udp ≠ 0 ∧ s.dev.rd (Obj.flowPort m) = udp; (s.dev.up (175 + port.val)) ∧ (feeds n.val) ∧ ((∀ m, m < 36 → m ≠ n.val → ¬ feeds m)) ∧ (s.dev.stState n.val = 5) ∧ (s.dev.flowForeign n.val (bytesAt source 0 16) = false) ∧ (leAt payload 0 2 = 0x0100) ∧ ((s.dev.str n.val).flowSeq = some p) ∧ (stampDiff 32 (leAt payload 4 4) (wrapAdd 32 p 1) < 0)) ∧
    (∃ (s : State) (n : Fin 36) (port : Fin 2) (udp : Nat) (source : List Byte) (payload : List Byte), let feeds : Nat → Prop := fun m => s.dev.domOn (portDomain m) = true ∧ s.dev.rd (Obj.streamSource m) = 1 ∧ udp ≠ 0 ∧ s.dev.rd (Obj.flowPort m) = udp; let b := s.dev.rd (Obj.wordBits (s.dev.profileOf n.val)) / 8; let w := leAt (payload.drop 16) 0 b; let e := leAt (s.dev.blob (Obj.decodeTable (s.dev.profileOf n.val))) (8 * field w (s.dev.rd (Obj.typeLsb (s.dev.profileOf n.val))) (s.dev.rd (Obj.typeBits (s.dev.profileOf n.val)))) 8; (s.dev.up (175 + port.val)) ∧ (feeds n.val) ∧ ((∀ m, m < 36 → m ≠ n.val → ¬ feeds m)) ∧ (s.dev.stState n.val = 5) ∧ (s.dev.flowForeign n.val (bytesAt source 0 16) = false) ∧ (leAt payload 0 2 = 0x0100) ∧ (((s.dev.str n.val).flowSeq = none ∨ ∃ p, (s.dev.str n.val).flowSeq = some p ∧ leAt payload 4 4 = wrapAdd 32 p 1)) ∧ (min (leAt payload 2 2) (s.dev.wordsIn n.val (payload.drop 16)) = 1) ∧ (field e 0 4 = 2)) ∧
    (∃ (s : State) (n : Fin 36) (port : Fin 2) (udp : Nat) (source : List Byte) (payload : List Byte), let feeds : Nat → Prop := fun m => s.dev.domOn (portDomain m) = true ∧ s.dev.rd (Obj.streamSource m) = 1 ∧ udp ≠ 0 ∧ s.dev.rd (Obj.flowPort m) = udp; let b := s.dev.rd (Obj.wordBits (s.dev.profileOf n.val)) / 8; let w := leAt (payload.drop 16) 0 b; let e := leAt (s.dev.blob (Obj.decodeTable (s.dev.profileOf n.val))) (8 * field w (s.dev.rd (Obj.typeLsb (s.dev.profileOf n.val))) (s.dev.rd (Obj.typeBits (s.dev.profileOf n.val)))) 8; let a := wordField w (field e 4 5) (field e 9 5); (s.dev.up (175 + port.val)) ∧ (feeds n.val) ∧ ((∀ m, m < 36 → m ≠ n.val → ¬ feeds m)) ∧ (s.dev.stState n.val = 5) ∧ (s.dev.flowForeign n.val (bytesAt source 0 16) = false) ∧ (leAt payload 0 2 = 0x0100) ∧ (((s.dev.str n.val).flowSeq = none ∨ ∃ p, (s.dev.str n.val).flowSeq = some p ∧ leAt payload 4 4 = wrapAdd 32 p 1)) ∧ (min (leAt payload 2 2) (s.dev.wordsIn n.val (payload.drop 16)) = 1) ∧ (field e 0 4 = 4) ∧ (field e 19 5 = 0) ∧ (a < 4096) ∧ (a < s.dev.rd (Obj.pixelWidth (s.dev.profileOf n.val))) ∧ ((s.dev.str n.val).y < s.dev.rd (Obj.pixelHeight (s.dev.profileOf n.val))) ∧ (s.dev.rd (Obj.hotEnable n.val) = 0) ∧ ((∀ z ∈ (s.dev.str n.val).hot, ¬ (z.x = a ∧ z.y = (s.dev.str n.val).y))) ∧ ((if (s.dev.str n.val).floodWin = s.dev.dtWin 100000 then (s.dev.str n.val).floodCount else 0) < s.dev.rd (Obj.floodCeiling n.val)) ∧ ((s.dev.str n.val).lost = 0) ∧ ((s.dev.str n.val).lostBack = 0) ∧ ((s.dev.str n.val).ring = []) ∧ ((s.dev.str n.val).queue.length < queueWords)) :=
  ⟨⟨st (fun d => profiled 0 ((stream 5 {} d).wr (Obj.hotEnable 4) 0)), 4, ⟨0, 43, [5, 0], .uncorrectable, true⟩, by dsimp only [Dev.up]; decide +kernel⟩,
   ⟨st (fun d => profiled 0 ((stream 5 {} d).wr (Obj.hotEnable 4) 0)), 4, ⟨1, 43, [5, 0], .ok, true⟩, by dsimp only [Dev.up]; decide +kernel⟩,
   ⟨st (fun d => profiled 0 ((stream 5 {} d).wr (Obj.hotEnable 4) 0)), 4, ⟨0, 48, [5, 0], .ok, false⟩, by dsimp only [Dev.up]; decide +kernel⟩,
   ⟨st (fun d => profiled 7 ((stream 5 {} d).wr (Obj.hotEnable 4) 0)), 4, ⟨0, 48, [5, 0], .ok, true⟩, by dsimp only [Dev.up]; decide +kernel⟩,
   ⟨st (fun d => profiled (2 + 8 * 2 ^ 9) ((stream 5 {} d).wr (Obj.hotEnable 4) 0)), 4, ⟨0, 48, [5, 0], .ok, true⟩, by dsimp only [Dev.up]; decide +kernel⟩,
   ⟨st (fun d => profiled (4 + 8 * 2 ^ 9) ((stream 5 { y := 7 } d).wr (Obj.hotEnable 4) 0)), 4, ⟨0, 48, [5, 0], .ok, true⟩, by dsimp only [Dev.up]; decide +kernel⟩,
   ⟨st (fun d => profiled 0 ((stream 1 {} d).wr (Obj.hotEnable 4) 0)), 4, ⟨0, 43, [5, 0], .uncorrectable, true⟩, by dsimp only [Dev.up]; decide +kernel⟩,
   ⟨st id, 1, by dsimp only [Dev.up]; decide +kernel⟩,
   ⟨st (fun d => ((stream 5 {} d).wr (Obj.streamSource 4) 1).wr (Obj.flowPort 4) 5000 |>.setBlob (Obj.flowSource 4) [1]), 4, 1, 5000, [2], by dsimp only [Dev.up]; decide +kernel⟩,
   ⟨st id, 1, 5000, by dsimp only [Dev.up]; decide +kernel⟩,
   ⟨st (fun d => (((profiled 0 (stream 5 {} d)).wr (Obj.streamSource 4) 1).wr (Obj.flowPort 4) 5000).wr (Obj.hotEnable 4) 0), 4, 1, 5000, [2], [1, 1], by dsimp only [Dev.up]; decide +kernel⟩,
   ⟨st (fun d => (((profiled 0 (stream 5 { flowSeq := some 7 } d)).wr (Obj.streamSource 4) 1).wr (Obj.flowPort 4) 5000).wr (Obj.hotEnable 4) 0), 4, 1, 5000, [2], [0, 1, 1, 0, 7, 0, 0, 0], 7, by dsimp only [Dev.up]; decide +kernel⟩,
   ⟨st (fun d => (((profiled (2 + 8 * 2 ^ 9) (stream 5 { flowSeq := some 7 } d)).wr (Obj.streamSource 4) 1).wr (Obj.flowPort 4) 5000).wr (Obj.hotEnable 4) 0), 4, 1, 5000, [2], [0, 1, 1, 0, 8] ++ zeros 11 ++ [5, 0], by dsimp only [Dev.up]; decide +kernel⟩,
   ⟨st (fun d => (((profiled (4 + 8 * 2 ^ 9) (stream 5 { y := 7 } d)).wr (Obj.streamSource 4) 1).wr (Obj.flowPort 4) 5000).wr (Obj.hotEnable 4) 0), 4, 1, 5000, [2], [0, 1, 1, 0, 8] ++ zeros 11 ++ [5, 0], by dsimp only [Dev.up]; decide +kernel⟩⟩

/-- The hypotheses of `InletSettings` are met, each clause's by a state of its own. -/
theorem witness_InletSettings :
    (∃ (s : State) (n : Fin 36), (s.dev.up (portDomain n.val)) ∧ ((s.dev.str n.val).hotWin ≠ s.dev.dtWin (s.dev.rd (Obj.hotWindow n.val) * 1000000 : Nat))) ∧
    (∃ (s : State) (q : Requester) (n : Fin 36), (s.dev.hears q (Obj.hotListClear n.val) 1)) ∧
    (∃ (s : State) (q : Requester) (n : Fin 36), (s.dev.hears q (Obj.hotListClear n.val) 2)) ∧
    (∃ (s : State) (q : Requester) (p : Fin 16) (v : BitVec 16), (s.dev.hears q (Obj.profileVersion p.val) v.toNat) ∧ (s.dev.profileUsed p.val = true)) ∧
    (∃ (s : State) (q : Requester) (p : Fin 16) (v : BitVec 16), (s.dev.hears q (Obj.profileVersion p.val) v.toNat) ∧ (s.dev.profileUsed p.val = false)) ∧
    (∃ (s : State) (q : Requester) (n : Fin 36) (v : BitVec 8), (s.dev.hears q (Obj.i3cStaticAddress n.val) v.toNat) ∧ (s.dev.bit (Obj.streamState n.val) 10 = false ∨ v.toNat = 0)) ∧
    (∃ (s : State) (q : Requester) (n : Fin 36) (v : BitVec 8), (s.dev.hears q (Obj.i3cStaticAddress n.val) v.toNat) ∧ (s.dev.bit (Obj.streamState n.val) 10 = true) ∧ (v.toNat ≠ 0)) :=
  ⟨⟨st (stream 5 { hotWin := -1, cand := [(4096 * 3 + 5, 1000000)] }), 4, by dsimp only [Dev.up]; decide +kernel⟩,
   ⟨st (stream 5 { hot := [⟨1, 2, true⟩, ⟨1, 3, false⟩] }), q0, 4, by dsimp only [Dev.hears, Dev.opened]; decide +kernel⟩,
   ⟨st (stream 5 { hot := [⟨1, 2, true⟩, ⟨1, 3, false⟩] }), q0, 4, by dsimp only [Dev.hears, Dev.opened]; decide +kernel⟩,
   ⟨st (fun d => (stream 5 {} d).setF (Obj.streamState 4) 16 8 2), q0, 2, 0x0102, by dsimp only [Dev.hears, Dev.opened]; decide +kernel⟩,
   ⟨st id, q0, 2, 0x0102, by dsimp only [Dev.hears, Dev.opened]; decide +kernel⟩,
   ⟨st id, q0, 4, 0x20, by dsimp only [Dev.hears, Dev.opened]; decide +kernel⟩,
   ⟨st (fun d => (stream 1 {} d).setBit (Obj.streamState 4) 10 true), q0, 4, 0x20, by dsimp only [Dev.hears, Dev.opened]; decide +kernel⟩⟩

/-- The hypotheses of `QueuesMove` are met, each clause's by a state of its own. -/
theorem witness_QueuesMove :
    (∃ (s : State) (n : Fin 36) (w : Nat) (ws : List Nat), (s.dev.up (portDomain n.val)) ∧ (s.dev.domOn 172 = true) ∧ ((s.dev.str n.val).ring = w :: ws) ∧ ((s.dev.str n.val).queue.length < queueWords) ∧ (s.dev.spillTurn n.val = true) ∧ ((let a := (s.dev.str n.val).ringBase + 8 * (s.dev.str n.val).ringAt; s.dev.retraining (gddrChan a) = false ∧ (s.dev.regionAt (s.dev.rd (Obj.streamTenant n.val)) a).isSome = true)) ∧ (s.dev.dt - s.dev.ofT31 (wT w) ≤ (s.dev.rd (Obj.spillAgeLimit n.val) * 1000 : Nat)) ∧ ((s.dev.str n.val).lostBack = 0) ∧ ((s.dev.str n.val).ringBad.contains (s.dev.str n.val).ringAt = false)) ∧
    (∃ (s : State) (n : Fin 36) (w : Nat) (ws : List Nat), (s.dev.up (portDomain n.val)) ∧ (s.dev.domOn 172 = true) ∧ ((s.dev.str n.val).ring = w :: ws) ∧ ((s.dev.str n.val).queue.length < queueWords) ∧ (s.dev.spillTurn n.val = true) ∧ ((let a := (s.dev.str n.val).ringBase + 8 * (s.dev.str n.val).ringAt; s.dev.retraining (gddrChan a) = false ∧ (s.dev.regionAt (s.dev.rd (Obj.streamTenant n.val)) a).isSome = true))) ∧
    (∃ (s : State) (n : Fin 36) (g : GyroSample) (gs : List GyroSample), (s.dev.up (portDomain n.val)) ∧ ((s.dev.str n.val).gyroIn = g :: gs) ∧ ((s.dev.stState n.val = 5 ∨ s.dev.stState n.val = 6)) ∧ ((s.dev.str n.val).derotOff ≠ 2)) ∧
    (∃ (s : State) (n : Fin 36) (g : GyroSample) (gs : List GyroSample), (s.dev.up (portDomain n.val)) ∧ ((s.dev.str n.val).gyroIn = g :: gs) ∧ ((s.dev.stState n.val = 5 ∨ s.dev.stState n.val = 6)) ∧ ((s.dev.str n.val).derotOff = 2) ∧ ((∀ t, (s.dev.str n.val).tg = some t → t < g.stamp))) ∧
    (∃ (s : State) (n : Fin 36) (w : Nat) (ws : List Nat), (s.dev.up (portDomain n.val)) ∧ ((s.dev.str n.val).queue = w :: ws) ∧ ((s.dev.stState n.val = 5 ∨ s.dev.stState n.val = 6)) ∧ (wKind w ≠ 0) ∧ ((s.dev.str n.val).sluice.length < 32)) ∧
    (∃ (s : State) (n : Fin 36) (w : Nat) (ws : List Nat), (s.dev.up (portDomain n.val)) ∧ ((s.dev.str n.val).queue = w :: ws) ∧ ((s.dev.stState n.val = 5 ∨ s.dev.stState n.val = 6)) ∧ (wKind w ≠ 0) ∧ (32 ≤ (s.dev.str n.val).sluice.length)) ∧
    (∃ (s : State) (n : Fin 36) (w : Nat) (ws : List Nat), (s.dev.up (portDomain n.val)) ∧ ((s.dev.str n.val).queue = w :: ws) ∧ ((s.dev.stState n.val = 5 ∨ s.dev.stState n.val = 6)) ∧ (wKind w = 0) ∧ (((s.dev.str n.val).derotOff = 3 ∨ (s.dev.str n.val).derotOff = 4)) ∧ ((s.dev.str n.val).onMark = false) ∧ ((s.dev.str n.val).sluice.length < 32)) :=
  ⟨⟨st (fun d => (((stream 5 { ring := [(mkWord 4 5 6 1 0 100), 7] } d).wr (Obj.regionOwner 0) 0).wr (Obj.regionBase 0) 0).wr (Obj.regionSize 0) 2), 4, (mkWord 4 5 6 1 0 100), [7], by dsimp only [Dev.up]; decide +kernel⟩,
   ⟨st (fun d => (((stream 5 { ring := [(mkWord 4 5 6 1 0 100), 7] } d).wr (Obj.regionOwner 0) 0).wr (Obj.regionBase 0) 0).wr (Obj.regionSize 0) 2), 4, (mkWord 4 5 6 1 0 100), [7], by dsimp only [Dev.up]; decide +kernel⟩,
   ⟨st (stream 5 { gyroIn := [⟨5, 0, 0, 0⟩] }), 4, ⟨5, 0, 0, 0⟩, [], by dsimp only [Dev.up]; decide +kernel⟩,
   ⟨st (stream 5 { derotOff := 2, tg := some 4, gyroIn := [⟨5, 0, 0, 0⟩] }), 4, ⟨5, 0, 0, 0⟩, [], by dsimp only [Dev.up]; decide +kernel⟩,
   ⟨st (stream 5 { queue := [(marker 4 0 1 100), 7] }), 4, (marker 4 0 1 100), [7], by dsimp only [Dev.up]; decide +kernel⟩,
   ⟨st (stream 5 { queue := [(marker 4 0 1 100)], sluice := List.replicate 32 0 }), 4, (marker 4 0 1 100), [], by dsimp only [Dev.up]; decide +kernel⟩,
   ⟨st (fun d => profiled 0 (stream 6 { derotOff := 3, queue := [(mkWord 4 5 6 1 0 100), 7] } d)), 4, (mkWord 4 5 6 1 0 100), [7], by dsimp only [Dev.up]; decide +kernel⟩⟩

/-- The hypotheses of `MereAndEddy` are met, each clause's by a state of its own. -/
theorem witness_MereAndEddy :
    (∃ (s : State) (d : Fin 4) (n : Nat) (w : Nat) (ws : List Nat), let key := s.dev.cellKey n (wX w) (wY w); let tc := timeCode (wT w); (s.dev.up (mereDomain d.val)) ∧ (s.dev.dieOut d.val = false) ∧ (s.dev.mereBad = []) ∧ (s.dev.eddyNext d.val = some n) ∧ ((s.dev.str n).sluice = w :: ws) ∧ (wKind w ≠ 2) ∧ ((s.dev.str n).wiped = []) ∧ (s.dev.rd (Obj.mereBase n) ≠ 0xFFFF) ∧ (wX w < s.dev.rd (Obj.outputWidth n)) ∧ (wY w < s.dev.rd (Obj.outputHeight n)) ∧ (s.dev.gated n tc (wPol w) (s.dev.cell key) = false)) ∧
    (∃ (s : State) (d : Fin 4) (n : Nat) (w : Nat) (ws : List Nat), let key := s.dev.cellKey n (wX w) (wY w); let tc := timeCode (wT w); (s.dev.up (mereDomain d.val)) ∧ (s.dev.dieOut d.val = false) ∧ (s.dev.mereBad = []) ∧ (s.dev.eddyNext d.val = some n) ∧ ((s.dev.str n).sluice = w :: ws) ∧ (wKind w ≠ 2) ∧ ((s.dev.str n).wiped = []) ∧ (s.dev.rd (Obj.mereBase n) ≠ 0xFFFF) ∧ (wX w < s.dev.rd (Obj.outputWidth n)) ∧ (wY w < s.dev.rd (Obj.outputHeight n)) ∧ (s.dev.gated n tc (wPol w) (s.dev.cell key) = true)) ∧
    (∃ (s : State) (d : Fin 4) (b : Nat) (n : Nat), (s.dev.up (mereDomain d.val)) ∧ (s.dev.mereBad = []) ∧ (s.dev.nextBlock d.val (Tab.get 0 s.dev.sweepPos d.val) = some (b, n))) ∧
    (∃ (s : State) (p : Fin 16) (i : Nat), (s.dev.working = true) ∧ ((waiting s.dev.transit 0).any (fun x => x.route == routeId p.val i) = true) ∧ (s.dev.rd (Obj.featureHoldLimit (s.dev.routeStream p.val i)) * 1000 ≤ s.dev.rf - (Tab.get {} s.dev.routeHold (routeId p.val i)).acceptF)) ∧
    (∃ (s : State) (p : Fin 16) (i : Nat), (s.dev.working = true) ∧ ((waiting s.dev.transit 0).any (fun x => x.route == routeId p.val i) = false)) :=
  ⟨⟨st (fun d => ((((stream 5 { sluice := [(mkWord 4 5 6 1 0 100), 7] } d).wr (Obj.mereBase 4) 10).wr (Obj.mereBlocks 4) 4).wr (Obj.outputWidth 4) 32).wr (Obj.outputHeight 4) 16 |>.wr (Obj.homeDie 4) 2), 2, 4, (mkWord 4 5 6 1 0 100), [7], by dsimp only [Dev.up]; decide +kernel⟩,
   ⟨st (fun d => { ((((stream 5 { sluice := [(mkWord 4 5 6 1 0 100), 7] } d).wr (Obj.mereBase 4) 10).wr (Obj.mereBlocks 4) 4).wr (Obj.outputWidth 4) 32).wr (Obj.outputHeight 4) 16 |>.wr (Obj.homeDie 4) 2 |>.wr (Obj.refractoryPeriod 4) 1000 with mere := [(mereKey 2 10 (6 * 32 + 5), 1)] }), 2, 4, (mkWord 4 5 6 1 0 100), [7], by dsimp only [Dev.up]; decide +kernel⟩,
   ⟨st (fun d => { ((((stream 5 { sluice := [(mkWord 4 5 6 1 0 100), 7] } d).wr (Obj.mereBase 4) 10).wr (Obj.mereBlocks 4) 4).wr (Obj.outputWidth 4) 32).wr (Obj.outputHeight 4) 16 |>.wr (Obj.homeDie 4) 2 with f := 15002 * 16000, mere := [(mereKey 2 10 3, 1), (mereKey 2 10 4, 14000), (mereKey 2 11 4, 1)] }), 2, 10, 4, by dsimp only [Dev.up]; decide +kernel⟩,
   ⟨st (fun d => { d with f := 10000000000, plans := [(3, { routes := [⟨4, 0, 0, 0, 0, 1⟩] })], transit := [{ dest := .builder 0, route := routeId 3 0, word := 5 }] }), 3, 0, by decide +kernel⟩,
   ⟨st id, 3, 0, by decide +kernel⟩⟩

/-- The hypotheses of `TilesIssueAndDrain` are met, each clause's by a state of its own. -/
theorem witness_TilesIssueAndDrain :
    (∃ (s : State) (l : Fin 256) (c : Fin 128) (u : Fin 16) (e : LayerEntry) (i : Nat) (st : Stripe) (q : TileSpan × Nat), (s.dev.up c.val) ∧ (s.dev.layerEntry l.val = some e) ∧ (e.stripeOn c.val = some (i, st)) ∧ (s.dev.layerRuns l.val = true) ∧ (s.dev.basinMode c.val = true) ∧ (e.builder = false) ∧ ((s.dev.plan (s.dev.layer l.val).slot).isEmpty 256 e = false) ∧ (s.dev.unitBusy c.val u.val = false) ∧ (s.dev.unitWorks (c.val * 16 + u.val) = true) ∧ ((s.dev.tileWindow l.val e i st).find? (fun q => s.dev.tileReady l.val e c.val q.1) = some q)) ∧
    (∃ (s : State) (l : Fin 256) (c : Fin 128) (u : Fin 16) (e : LayerEntry) (i : Nat) (st : Stripe), (s.dev.up c.val) ∧ (s.dev.layerEntry l.val = some e) ∧ (e.stripeOn c.val = some (i, st)) ∧ (s.dev.layerRuns l.val = true) ∧ (s.dev.basinMode c.val = true) ∧ (e.builder = false) ∧ ((s.dev.plan (s.dev.layer l.val).slot).isEmpty 256 e = false) ∧ (s.dev.unitBusy c.val u.val = false) ∧ (s.dev.unitWorks (c.val * 16 + u.val) = true) ∧ ((s.dev.tileWindow l.val e i st).find? (fun q => s.dev.tileReady l.val e c.val q.1) = none)) ∧
    (∃ (s : State) (l : Fin 256) (c : Fin 128) (u : Fin 16) (e : LayerEntry) (q : Tile) (st : Stripe) (sp : TileSpan), (s.dev.up c.val) ∧ (s.dev.layerEntry l.val = some e) ∧ ((s.dev.layer l.val).tiles.find? (fun x => x.cluster == c.val && x.unit == u.val) = some q) ∧ (e.stripes[q.stripe]? = some st) ∧ ((e.tiles st)[q.tile]? = some sp)) ∧
    (∃ (s : State) (l : Fin 256) (c : Fin 128) (u : Fin 16) (e : LayerEntry) (q : Tile) (st : Stripe) (sp : TileSpan), (s.dev.up c.val) ∧ (s.dev.layerEntry l.val = some e) ∧ ((s.dev.layer l.val).tiles.find? (fun x => x.cluster == c.val && x.unit == u.val) = some q) ∧ (e.stripes[q.stripe]? = some st) ∧ ((e.tiles st)[q.tile]? = some sp) ∧ (0 < sp.chans) ∧ (0 < sp.rows) ∧ (0 < sp.cols)) :=
  ⟨⟨st (layerOn 6 {} []), 9, 5, 0, le0 6, 0, ⟨5, 0, 1, 0, 64⟩, (⟨0, 1, 0, 1, 0, 1⟩, 0), by dsimp only [Dev.up]; decide +kernel⟩,
   ⟨st (layerOn 6 { tiles := [⟨5, 0, 0, 0⟩] } []), 9, 5, 1, le0 6, 0, ⟨5, 0, 1, 0, 64⟩, by dsimp only [Dev.up]; decide +kernel⟩,
   ⟨{ st (layerOn 6 { tiles := [⟨5, 0, 0, 0⟩], started := true } []) with mem := { pad := [(5 * 2 ^ 20, 7)] } }, 9, 5, 0, le0 6, ⟨5, 0, 0, 0⟩, ⟨5, 0, 1, 0, 64⟩, ⟨0, 1, 0, 1, 0, 1⟩, by dsimp only [Dev.up]; decide +kernel⟩,
   ⟨{ st (layerOn 6 { tiles := [⟨5, 0, 0, 0⟩], started := true } []) with mem := { pad := [(5 * 2 ^ 20, 7)] } }, 9, 5, 0, le0 6, ⟨5, 0, 0, 0⟩, ⟨5, 0, 1, 0, 64⟩, ⟨0, 1, 0, 1, 0, 1⟩, by dsimp only [Dev.up]; decide +kernel⟩⟩

/-- The hypotheses of `BuildersBuild` are met, each clause's by a state of its own. -/
theorem witness_BuildersBuild :
    (∃ (s : State) (l : Fin 256) (e : LayerEntry) (w : Transit) (rest : List Transit), let z := s.dev.buildWordOf w; (s.dev.working = true) ∧ (s.dev.layerEntry l.val = some e) ∧ (s.dev.layerRuns l.val = true) ∧ (takeFirst (fun t => decide (t.dest = .builder l.val)) s.dev.transit = some (w, rest)) ∧ ((e.op = 16 ∨ e.op = 17)) ∧ (s.dev.buildSelects l.val z.2.2.2.2 = true) ∧ (s.dev.windowOf l.val z.2.2.2.1 < (s.dev.layer l.val).build.window)) ∧
    (∃ (s : State) (l : Fin 256) (e : LayerEntry) (w : Transit) (rest : List Transit), let z := s.dev.buildWordOf w; (s.dev.working = true) ∧ (s.dev.layerEntry l.val = some e) ∧ (s.dev.layerRuns l.val = true) ∧ (takeFirst (fun t => decide (t.dest = .builder l.val)) s.dev.transit = some (w, rest)) ∧ ((e.op = 16 ∨ e.op = 17)) ∧ (s.dev.buildSelects l.val z.2.2.2.2 = true) ∧ (s.dev.windowOf l.val z.2.2.2.1 = (s.dev.layer l.val).build.window) ∧ ((s.dev.layer l.val).build.skipping = false) ∧ (e.op = 17)) ∧
    (∃ (s : State) (l : Fin 256) (e : LayerEntry) (w : Transit) (rest : List Transit) (c : Nat) (a : Nat), let z := s.dev.buildWordOf w; let q := 2 ^ field (s.dev.rd (Obj.buildControl l.val)) 1 2; let split := bitAt (s.dev.rd (Obj.buildControl l.val)) 0; (s.dev.working = true) ∧ (s.dev.layerEntry l.val = some e) ∧ (s.dev.layerRuns l.val = true) ∧ (takeFirst (fun t => decide (t.dest = .builder l.val)) s.dev.transit = some (w, rest)) ∧ ((e.op = 16 ∨ e.op = 17)) ∧ (s.dev.buildSelects l.val z.2.2.2.2 = true) ∧ (s.dev.windowOf l.val z.2.2.2.1 = (s.dev.layer l.val).build.window) ∧ ((s.dev.layer l.val).build.skipping = false) ∧ (e.op = 16) ∧ (s.dev.rd (Obj.buildBins l.val) = 1) ∧ (w.poisoned = false) ∧ (buildAddr e (s.dev.layer l.val).build.closed (s.dev.buildShape l.val e).2.2.1 5 (if split && z.2.2.1 == 1 then 1 else 0) (z.2.1 / q) (z.1 / q) = some (c, a)) ∧ (s.dev.buildPort false c a = false)) ∧
    (∃ (s : State) (l : Fin 256) (e : LayerEntry) (w : Transit) (rest : List Transit) (c : Nat) (a : Nat), let z := s.dev.buildWordOf w; let q := 2 ^ field (s.dev.rd (Obj.buildControl l.val)) 1 2; let split := bitAt (s.dev.rd (Obj.buildControl l.val)) 0; (s.dev.working = true) ∧ (s.dev.layerEntry l.val = some e) ∧ (s.dev.layerRuns l.val = true) ∧ (takeFirst (fun t => decide (t.dest = .builder l.val)) s.dev.transit = some (w, rest)) ∧ ((e.op = 16 ∨ e.op = 17)) ∧ (s.dev.buildSelects l.val z.2.2.2.2 = true) ∧ (s.dev.windowOf l.val z.2.2.2.1 = (s.dev.layer l.val).build.window) ∧ ((s.dev.layer l.val).build.skipping = false) ∧ (e.op = 16) ∧ (s.dev.rd (Obj.buildBins l.val) = 1) ∧ (w.poisoned = false) ∧ (buildAddr e (s.dev.layer l.val).build.closed (s.dev.buildShape l.val e).2.2.1 5 (if split && z.2.2.1 == 1 then 1 else 0) (z.2.1 / q) (z.1 / q) = some (c, a)) ∧ (s.dev.buildPort false c a = true)) ∧
    (∃ (s : State) (l : Fin 256) (e : LayerEntry), (s.dev.working = true) ∧ (s.dev.layerEntry l.val = some e) ∧ (s.dev.layerRuns l.val = true) ∧ ((e.op = 16 ∨ e.op = 17)) ∧ (s.dev.passed (s.dev.windowStart l.val ((s.dev.layer l.val).build.window + 1)) (s.dev.layer l.val).build.timeout = true)) ∧
    (∃ (s : State) (l : Fin 256) (e : LayerEntry), let h := s.dev.rd (Obj.buildSource l.val) - 0x400; let b := (s.dev.layer l.val).build; (s.dev.working = true) ∧ (s.dev.layerEntry l.val = some e) ∧ (s.dev.layerRuns l.val = true) ∧ (e.op = 18) ∧ (b.window < ((s.dev.pop h).maps : Int))) :=
  ⟨⟨st (fun d => source 1000 (layerOn 16 { build := { window := 1 } } [built] d)), 9, le0 16, built, [], by dsimp only; decide +kernel⟩,
   ⟨st (fun d => source 1000 (layerOn 17 {} [built] d)), 9, le0 17, built, [], by dsimp only; decide +kernel⟩,
   ⟨st (fun d => source 1000 (layerOn 16 {} [built] d)), 9, le0 16, built, [], 5, 0, by dsimp only; decide +kernel⟩,
   ⟨{ st (fun d => granted (source 1000 (layerOn 16 {} [built] d))) with mem := { pad := [(5 * 2 ^ 20, 7)] } }, 9, le0 16, built, [], 5, 0, by dsimp only; decide +kernel⟩,
   ⟨st (fun d => { source 1000 (layerOn 16 {} [] d) with f := 10000000 }), 9, le0 16, by decide +kernel⟩,
   ⟨st (fun d => { (layerOn 18 {} [] d).wr (Obj.buildSource 9) 0x407 with pops := [(7, { slot := 3, maps := 3 })] }), 9, le0 18, by dsimp only; decide +kernel⟩⟩

/-- The hypotheses of `ScratchpadsReadAndMarch` are met, each clause's by a state of its own. -/
theorem witness_ScratchpadsReadAndMarch :
    (∃ (s : State) (c : Fin 128), (s.dev.up c.val) ∧ (s.dev.padFree c.val = false)) ∧
    (∃ (s : State) (c : Fin 128) (m : Fin 19) (addr : BitVec 20), let n := if m.val = 18 then 8 else 16; let a := addr.toNat / n * n; (s.dev.up c.val) ∧ (s.dev.padFree c.val = true) ∧ (s.dev.padAllowed c.val m.val a n false = true) ∧ (Tab.get false s.mem.padBad (padWordKey c.val a) = false) ∧ (Tab.get false s.mem.padBad (padWordKey c.val (a + 8)) = false)) ∧
    (∃ (s : State) (c : Fin 128) (m : Fin 19) (addr : BitVec 20), let n := if m.val = 18 then 8 else 16; let a := addr.toNat / n * n; (s.dev.up c.val) ∧ (s.dev.padFree c.val = true) ∧ (s.dev.padAllowed c.val m.val a n false = false)) ∧
    (∃ (s : State) (c : Fin 128) (m : Fin 19) (addr : BitVec 20), let n := if m.val = 18 then 8 else 16; let a := addr.toNat / n * n; (s.dev.up c.val) ∧ (s.dev.padFree c.val = true) ∧ (m.val = 18) ∧ (s.dev.padAllowed c.val m.val a n false = true)) ∧
    (∃ (s : State) (c : Fin 128) (m : Fin 19) (addr : BitVec 20), let n := if m.val = 18 then 8 else 16; let a := addr.toNat / n * n; (s.dev.up c.val) ∧ (s.dev.padFree c.val = true) ∧ (m.val = 18) ∧ (s.dev.padAllowed c.val m.val a n false = true)) ∧
    (∃ (s : State) (c : Fin 128) (q : Requester) (destroys : Bool) (soft : Bool) (files : Bool) (pad : Bool) (slot : Fin 32), let v := marchWord (if destroys then 1 else 2) soft files pad slot.val; (s.dev.hears q (Obj.marchControl c.val) v) ∧ ((slot.val ≤ 16 ∨ slot.val = 31)) ∧ (s.dev.marchRefused c.val v = false)) ∧
    (∃ (s : State) (c : Fin 128) (q : Requester) (destroys : Bool) (soft : Bool) (files : Bool) (pad : Bool) (slot : Fin 32), let v := marchWord (if destroys then 1 else 2) soft files pad slot.val; (s.dev.hears q (Obj.marchControl c.val) v) ∧ ((slot.val ≤ 16 ∨ slot.val = 31)) ∧ (s.dev.marchRefused c.val v = true)) ∧
    (∃ (s : State) (c : Fin 128) (m : March), (s.dev.up c.val) ∧ (s.dev.march c.val = some m) ∧ (m.retest = false) ∧ ((field m.control 0 2 = 1 ∨ ∀ x ∈ s.badBanks c.val, marchTests m.control x.elem.val = false))) ∧
    (∃ (s : State) (c : Fin 128) (m : March) (x : MarchFound), (s.dev.up c.val) ∧ (s.dev.march c.val = some m) ∧ (m.retest = false) ∧ (field m.control 0 2 ≠ 1) ∧ (x ∈ s.badBanks c.val) ∧ (marchTests m.control x.elem.val = true)) ∧
    (∃ (s : State) (c : Fin 128) (m : March) (x : MarchFound), (s.dev.up c.val) ∧ (s.dev.march c.val = some m) ∧ (m.retest = false) ∧ (field m.control 0 2 = 1) ∧ (marchTests m.control x.elem.val = true) ∧ (x.word = true)) :=
  ⟨⟨st (fun d => { d with marches := [(5, some ⟨17, false⟩)] }), 5, by dsimp only [Dev.up]; decide +kernel⟩,
   ⟨{ dev := { hostDev with regions := [(regionKey 5 3 2, 2 ^ 26 + 2 ^ 24)] }, mem := { pad := [(5 * 2 ^ 20 + 17, 7)] } }, 5, 3, 19, by dsimp only [Dev.up]; decide +kernel⟩,
   ⟨st id, 5, 3, 16, by dsimp only [Dev.up]; decide +kernel⟩,
   ⟨{ dev := { hostDev with regions := [(regionKey 5 18 2, 2 ^ 26 + 2 ^ 24)] }, mem := { pad := [(5 * 2 ^ 20 + 17, 7)] } }, 5, 18, 19, by dsimp only [Dev.up]; decide +kernel⟩,
   ⟨{ dev := { hostDev with regions := [(regionKey 5 18 2, 2 ^ 26 + 2 ^ 24)] }, mem := { pad := [(5 * 2 ^ 20 + 17, 7)] } }, 5, 18, 19, by dsimp only [Dev.up]; decide +kernel⟩,
   ⟨st id, 5, q0, true, true, true, true, 31, by dsimp only [Dev.hears, Dev.opened]; decide +kernel⟩,
   ⟨st (fun d => d.wr (Obj.clusterOwner 5) 0), 5, q0, true, true, true, true, 31, by dsimp only [Dev.hears, Dev.opened]; decide +kernel⟩,
   ⟨{ st (fun d => { d with marches := [(5, some ⟨17, false⟩)] }) with mem := { pad := [(5 * 2 ^ 20 + 17, 7), (6 * 2 ^ 20, 3)] } }, 5, ⟨17, false⟩, by dsimp only [Dev.up]; decide +kernel⟩,
   ⟨{ st (fun d => { d with marches := [(5, some ⟨18, false⟩)] }) with mem := { pad := [(5 * 2 ^ 20 + 17, 7)], padBad := [(padWordKey 5 16, true)] } }, 5, ⟨18, false⟩, ⟨2, 0, true⟩, by dsimp only [Dev.up]; decide +kernel⟩,
   ⟨st (fun d => { d with marches := [(5, some ⟨17, false⟩)] }), 5, ⟨17, false⟩, ⟨3, 1, true⟩, by dsimp only [Dev.up]; decide +kernel⟩⟩

/-- The hypotheses of `SluicesCarry` are met, each clause's by a state of its own. -/
theorem witness_SluicesCarry :
    (∃ (s : State) (k : SluiceRef), let key := sluiceKey k; let x := s.dev.sluice key; (s.dev.up (sluiceDomain (sluiceKey k))) ∧ (x.full (sluiceDepth key) = false) ∧ (x.discarding = false) ∧ (x.part = none) ∧ (x.opened.length ≠ 64) ∧ (x.readWaits = none)) ∧
    (∃ (s : State) (k : SluiceRef) (v : BitVec 64) (poisoned : Bool) (w : SluiceWord) (ws : List SluiceWord), let key := sluiceKey k; let x := s.dev.sluice key; (s.dev.up (sluiceDomain (sluiceKey k))) ∧ (x.full (sluiceDepth key) = false) ∧ (x.discarding = false) ∧ (x.part = none) ∧ (x.opened.length ≠ 64) ∧ (x.readWaits = some (.ok, false)) ∧ (x.taken = x.words.length) ∧ (x.opened ++ [SluiceWord.of v.toNat 0xFF true poisoned] = w :: ws)) ∧
    (∃ (s : State) (k : SluiceRef), let key := sluiceKey k; let x := s.dev.sluice key; (s.dev.up (sluiceDomain (sluiceKey k))) ∧ (x.full (sluiceDepth key) = false) ∧ (x.discarding = false) ∧ (x.part = none) ∧ (x.opened.length ≠ 64)) ∧
    (∃ (s : State) (k : SluiceRef), let key := sluiceKey k; let x := s.dev.sluice key; (s.dev.up (sluiceDomain (sluiceKey k))) ∧ (x.full (sluiceDepth key) = false) ∧ (x.discarding = false) ∧ (x.part = none) ∧ (x.opened.length ≠ 64)) ∧
    (∃ (s : State) (k : SluiceRef), let key := sluiceKey k; let x := s.dev.sluice key; (s.dev.up (sluiceDomain (sluiceKey k))) ∧ (x.full (sluiceDepth key) = false) ∧ (x.discarding = false) ∧ (x.part = none) ∧ (x.opened.length = 64)) ∧
    (∃ (s : State) (k : SluiceRef), let key := sluiceKey k; let x := s.dev.sluice key; (s.dev.up (sluiceDomain (sluiceKey k))) ∧ (x.full (sluiceDepth key) = true) ∧ (x.discarding = false)) ∧
    (∃ (s : State) (k : SluiceRef) (w : SluiceWord), let key := sluiceKey k; let x := s.dev.sluice key; (s.dev.up (sluiceDomain (sluiceKey k))) ∧ (x.taken < x.words.length) ∧ (x.words[x.taken]? = some w)) ∧
    (∃ (s : State) (k : SluiceRef) (w : SluiceWord), let key := sluiceKey k; let x := s.dev.sluice key; (s.dev.up (sluiceDomain (sluiceKey k))) ∧ (x.taken < x.words.length) ∧ (x.words[x.taken]? = some w) ∧ (x.badMs.2 = 0) ∧ (x.badS.2 = 0)) ∧
    (∃ (s : State) (k : SluiceRef), let key := sluiceKey k; let x := s.dev.sluice key; (s.dev.up (sluiceDomain (sluiceKey k))) ∧ (x.words.length ≤ x.taken)) ∧
    (∃ (s : State) (k : SluiceRef) (n : Nat), let key := sluiceKey k; let x := s.dev.sluice key; (s.dev.up (sluiceDomain (sluiceKey k))) ∧ (n ≤ x.taken)) ∧
    (∃ (s : State) (k : SluiceRef), let key := sluiceKey k; let x := s.dev.sluice key; (s.dev.up (sluiceDomain (sluiceKey k))) ∧ (x.readWaits = none)) ∧
    (∃ (s : State) (k : SluiceRef) (w : SluiceWord), let key := sluiceKey k; let x := s.dev.sluice key; (s.dev.up (sluiceDomain (sluiceKey k))) ∧ (x.readWaits = some (.ok, false)) ∧ (x.words[0]? = some w)) ∧
    (∃ (s : State) (k : SluiceRef), (s.dev.up (sluiceDomain (sluiceKey k)))) :=
  ⟨⟨st (fun d => { d with sluices := [(42, { opened := [(SluiceWord.of 9 0xFF true false)] })] }), .cluster 5 2, by dsimp only [Dev.up, Dev.opened]; decide +kernel⟩,
   ⟨st (fun d => { d with sluices := [(42, { readWaits := some (.ok, false) })] }), .cluster 5 2, 7, true, (SluiceWord.of 7 0xFF true true), [], by dsimp only [Dev.up, Dev.opened]; decide +kernel⟩,
   ⟨st (fun d => { d with sluices := [(42, {})] }), .cluster 5 2, by dsimp only [Dev.up, Dev.opened]; decide +kernel⟩,
   ⟨st (fun d => { d with sluices := [(42, {})] }), .cluster 5 2, by dsimp only [Dev.up, Dev.opened]; decide +kernel⟩,
   ⟨st (fun d => { d with sluices := [(42, { opened := List.replicate 64 (SluiceWord.of 9 0xFF true false) })] }), .cluster 5 2, by dsimp only [Dev.up, Dev.opened]; decide +kernel⟩,
   ⟨st (fun d => { d with sluices := [(42, { words := List.replicate 128 (SluiceWord.of 0 0xFF true false) })] }), .cluster 5 2, by dsimp only [Dev.up]; decide +kernel⟩,
   ⟨st (fun d => { d with sluices := [(42, { words := [(SluiceWord.of 9 0xFF true false)] })] }), .cluster 5 2, (SluiceWord.of 9 0xFF true false), by dsimp only [Dev.up]; decide +kernel⟩,
   ⟨st (fun d => { d with sluices := [(42, { words := [(SluiceWord.of 9 0xFF true false)] })] }), .cluster 5 2, (SluiceWord.of 9 0xFF true false), by dsimp only [Dev.up]; decide +kernel⟩,
   ⟨st (fun d => { d with sluices := [(42, {})] }), .cluster 5 2, by dsimp only [Dev.up]; decide +kernel⟩,
   ⟨st (fun d => { d with sluices := [(42, { words := [(SluiceWord.of 9 0xFF true false), (SluiceWord.of 9 0xFF true false)], taken := 1 })] }), .cluster 5 2, 1, by dsimp only [Dev.up]; decide +kernel⟩,
   ⟨st (fun d => { d with sluices := [(42, { words := [(SluiceWord.of 9 0xFF true false)], taken := 1 })] }), .cluster 5 2, by dsimp only [Dev.up]; decide +kernel⟩,
   ⟨st (fun d => { d with sluices := [(42, { words := [(SluiceWord.of 9 0xFF true false)], taken := 1, readWaits := some (.ok, false) })] }), .cluster 5 2, (SluiceWord.of 9 0xFF true false), by dsimp only [Dev.up]; decide +kernel⟩,
   ⟨st (fun d => { d with sluices := [(42, { words := [(SluiceWord.of 9 0xFF true false)], opened := [(SluiceWord.of 9 0xFF true false)], taken := 1 })] }), .cluster 5 2, by dsimp only [Dev.up]; decide +kernel⟩⟩

/-- The hypotheses of `FerriesRun` are met, each clause's by a state of its own. -/
theorem witness_FerriesRun :
    (∃ (s : State) (f : Fin 40) (c : ChainStart), let g := s.dev.ferryFor f.val; (s.dev.working = true) ∧ (s.dev.starts.find? (fun c => c.ferry == f.val) = some c) ∧ ((s.dev.ferry g).starts.length < 16) ∧ (s.dev.heldStarts.any (fun c => c.ferry == g) = false)) ∧
    (∃ (s : State) (f : Fin 40) (c : ChainStart), let g := s.dev.ferryFor f.val; (s.dev.working = true) ∧ (s.dev.starts.find? (fun c => c.ferry == f.val) = some c) ∧ (16 ≤ (s.dev.ferry g).starts.length) ∧ (c.weir < 16384)) ∧
    (∃ (s : State) (f : Fin 40) (c : ChainStart), (s.dev.working = true) ∧ (s.dev.heldStarts.find? (fun c => c.ferry == f.val) = some c) ∧ ((s.dev.ferry (s.dev.ferryFor f.val)).starts.length < 16)) ∧
    (∃ (s : State) (f : Fin 40) (c : ChainStart), (s.dev.working = true) ∧ (s.dev.ferryWorks f.val = true) ∧ ((s.dev.ferry f.val).cur = some c) ∧ (s.descAt c.tenant (s.dev.ferry f.val).pc = none)) ∧
    (∃ (s : State) (f : Fin 40) (c : ChainStart) (d : Desc), (s.dev.working = true) ∧ (s.dev.ferryWorks f.val = true) ∧ ((s.dev.ferry f.val).cur = some c) ∧ (s.descAt c.tenant (s.dev.ferry f.val).pc = some d) ∧ (s.dev.gddrHeld c.tenant (s.dev.ferry f.val).pc 64 = true)) ∧
    (∃ (s : State) (f : Fin 40) (c : ChainStart) (d : Desc), (s.dev.working = true) ∧ (s.dev.ferryWorks f.val = true) ∧ ((s.dev.ferry f.val).cur = some c) ∧ (s.descAt c.tenant (s.dev.ferry f.val).pc = some d) ∧ (s.dev.gddrHeld c.tenant (s.dev.ferry f.val).pc 64 = false) ∧ (s.mem.gddrErr = []) ∧ (s.dev.descBad f.val c.tenant d = false) ∧ (d.waits = false) ∧ (d.signals = false) ∧ (d.ends = true) ∧ (d.op = 5) ∧ (s.descAwake c.tenant d = false)) ∧
    (∃ (s : State) (f : Fin 40) (c : ChainStart) (d : Desc), (s.dev.working = true) ∧ (s.dev.ferryWorks f.val = true) ∧ ((s.dev.ferry f.val).cur = some c) ∧ (s.descAt c.tenant (s.dev.ferry f.val).pc = some d) ∧ (s.dev.gddrHeld c.tenant (s.dev.ferry f.val).pc 64 = false) ∧ (s.mem.gddrErr = []) ∧ (s.dev.descBad f.val c.tenant d = false) ∧ (d.waits = false) ∧ (d.signals = false) ∧ (d.ends = true) ∧ (d.op = 0)) ∧
    (∃ (s : State) (f : Fin 40) (c : ChainStart) (d : Desc), (s.dev.working = true) ∧ (s.dev.ferryWorks f.val = true) ∧ ((s.dev.ferry f.val).cur = some c) ∧ (s.descAt c.tenant (s.dev.ferry f.val).pc = some d) ∧ (s.dev.gddrHeld c.tenant (s.dev.ferry f.val).pc 64 = false) ∧ (s.mem.gddrErr = []) ∧ (s.dev.descBad f.val c.tenant d = false) ∧ (d.waits = false) ∧ (d.signals = false) ∧ (d.ends = true) ∧ (d.op = 5) ∧ (d.dstSpace = 0) ∧ (d.rows = 1) ∧ (d.planes = 1) ∧ (d.dst % 2 ^ 20 + d.rowBytes ≤ 2 ^ 20) ∧ (s.descAwake c.tenant d = true) ∧ (s.dev.rowRefused f.val c.tenant 0 d.dst d.rowBytes true = none)) ∧
    (∃ (s : State) (f : Fin 40), (s.dev.working = true) ∧ (s.hostReadOf f.val = none)) ∧
    (∃ (s : State) (f : Fin 40) (p : Nat) (n : Nat), (s.dev.working = true) ∧ (s.hostReadOf f.val = some (p, n))) :=
  ⟨⟨st (fun d => { d with starts := [⟨2, 0, 0, 0, 0⟩, ⟨1, 64, 0, 5, 0⟩, ⟨1, 64, 0, 5, 0⟩] }), 1, ⟨1, 64, 0, 5, 0⟩, by dsimp only; decide +kernel⟩,
   ⟨st (fun d => { d with starts := [⟨1, 64, 0, 5, 0⟩], ferries := [(1, { starts := List.replicate 16 ⟨1, 64, 0, 5, 0⟩ })] }), 1, ⟨1, 64, 0, 5, 0⟩, by dsimp only; decide +kernel⟩,
   ⟨st (fun d => { d with heldStarts := [⟨1, 64, 0, 5, 0⟩, ⟨2, 0, 0, 0, 0⟩], weirs := [(5, { held := true })], ferries := [(1, { starts := List.replicate 15 ⟨1, 64, 0, 5, 0⟩ })] }), 1, ⟨1, 64, 0, 5, 0⟩, by decide +kernel⟩,
   ⟨st (fun d => { d with ferries := [(1, { cur := some ⟨1, 0, 0, 16384, 0⟩ })] }), 1, ⟨1, 0, 0, 16384, 0⟩, by decide +kernel⟩,
   ⟨{ st (fun d => (ferry1 d).setBit (Obj.gddrChannelState 0) 4 true) with mem := { gddr := cells 0 fill } }, 1, ⟨1, 0, 0, 16384, 0⟩, Desc.of fill, by decide +kernel⟩,
   ⟨{ st (fun d => cl 2 (ferry1 d)) with mem := { gddr := cells 0 fill } }, 1, ⟨1, 0, 0, 16384, 0⟩, Desc.of fill, by decide +kernel⟩,
   ⟨{ st ferry1 with mem := { gddr := cells 0 (0 :: fill.drop 1) } }, 1, ⟨1, 0, 0, 16384, 0⟩, Desc.of (0 :: fill.drop 1), by decide +kernel⟩,
   ⟨{ st ferry1 with mem := { gddr := cells 0 fill, pad := cells (5 * 2 ^ 20 + 250) [1, 2, 3, 4, 5, 6, 7, 8] } }, 1, ⟨1, 0, 0, 16384, 0⟩, Desc.of fill, by decide +kernel⟩,
   ⟨st ferry1, 1, by decide +kernel⟩,
   ⟨{ st ferry1 with mem := { gddr := cells 0 (1 :: 4 :: 2 :: fill.drop 3) } }, 1, 0, 0, by decide +kernel⟩⟩

/-- The hypotheses of `ArrayServes` are met, each clause's by a state of its own. -/
theorem witness_ArrayServes :
    (∃ (s : State) (m : GddrMaster) (addr : BitVec 34), let a := addr.toNat / 64 * 64; (s.dev.up 172) ∧ (s.dev.regionAt (s.dev.gddrMaster m).1 a = none)) ∧
    (∃ (s : State) (m : GddrMaster) (addr : BitVec 34) (r : Nat), let a := addr.toNat / 64 * 64; (s.dev.up 172) ∧ (s.dev.regionAt (s.dev.gddrMaster m).1 a = some r) ∧ (s.dev.gddrHeld (s.dev.gddrMaster m).1 a 64 = true)) ∧
    (∃ (s : State) (m : GddrMaster) (addr : BitVec 34) (r : Nat) (x : Nat), let a := addr.toNat / 64 * 64; let z := if s.dev.mirrorTurn % 2 = 0 then (s.dev.copies r a).headD a else (s.dev.copies r a).getLastD a; (s.dev.up 172) ∧ (s.dev.regionAt (s.dev.gddrMaster m).1 a = some r) ∧ (s.dev.gddrHeld (s.dev.gddrMaster m).1 a 64 = false) ∧ (s.dev.placeOf (s.dev.regionMirror r) z = some x) ∧ ((x = z ∨ s.dev.rewritten z = true)) ∧ (Tab.get false s.mem.gddrBad (x / 64) = false) ∧ (Tab.get false s.mem.gddrErr (x / 64) = false)) ∧
    (∃ (s : State) (m : GddrMaster) (addr : BitVec 34) (r : Nat) (x : Nat), let a := addr.toNat / 64 * 64; let z := if s.dev.mirrorTurn % 2 = 0 then (s.dev.copies r a).headD a else (s.dev.copies r a).getLastD a; (s.dev.up 172) ∧ (s.dev.regionAt (s.dev.gddrMaster m).1 a = some r) ∧ (s.dev.gddrHeld (s.dev.gddrMaster m).1 a 64 = false) ∧ (s.dev.placeOf (s.dev.regionMirror r) z = some x) ∧ ((x = z ∨ s.dev.rewritten z = true)) ∧ (Tab.get false s.mem.gddrBad (x / 64) = false) ∧ ((∀ b, b ≠ x / 64 → Tab.get false s.mem.gddrErr b = false))) ∧
    (∃ (s : State), (s.dev.up 172)) ∧
    (∃ (s : State) (k : Fin 8), (s.dev.up 172) ∧ (4 ≤ Tab.get 0 s.dev.edcRepeats k.val)) ∧
    (∃ (s : State) (k : Fin 8), (s.dev.up 172) ∧ (s.dev.bit (Obj.gddrChannelState k.val) 4 = true)) ∧
    (∃ (s : State) (k : Fin 8), (s.dev.up 172) ∧ (s.dev.bit (Obj.gddrChannelState k.val) 4 = true) ∧ (s.dev.chanFailed k.val = false)) ∧
    (∃ (s : State) (k : Fin 8), (s.dev.up 172) ∧ (s.dev.chanFailed k.val = false)) ∧
    (∃ (s : State), (s.dev.up 172)) :=
  ⟨⟨st id, .ferry 1, 64, by dsimp only [Dev.up]; decide +kernel⟩,
   ⟨st (fun d => (ferry1 d).setBit (Obj.gddrChannelState 0) 4 true), .ferry 1, 70, 0, by dsimp only [Dev.up]; decide +kernel⟩,
   ⟨st ferry1, .ferry 1, 70, 0, 64, by dsimp only [Dev.up]; decide +kernel⟩,
   ⟨st ferry1, .ferry 1, 70, 0, 64, by dsimp only [Dev.up]; exact ⟨by decide +kernel, by decide +kernel, by decide +kernel, by decide +kernel, by decide +kernel, by decide +kernel, fun _ _ => rfl⟩⟩,
   ⟨st id, by dsimp only [Dev.up]; decide +kernel⟩,
   ⟨st (fun d => { d with edcRepeats := [(3, 4)] }), 3, by dsimp only [Dev.up]; decide +kernel⟩,
   ⟨st (fun d => d.setBit (Obj.gddrChannelState 3) 4 true), 3, by dsimp only [Dev.up]; decide +kernel⟩,
   ⟨st (fun d => d.setBit (Obj.gddrChannelState 3) 4 true), 3, by dsimp only [Dev.up]; decide +kernel⟩,
   ⟨st id, 3, by dsimp only [Dev.up]; decide +kernel⟩,
   ⟨st id, by dsimp only [Dev.up]; decide +kernel⟩⟩

/-- The hypotheses of `PartitionsAreWritten` are met, each clause's by a state of its own. -/
theorem witness_PartitionsAreWritten :
    (∃ (s : State) (q : Requester) (c : Fin 128) (v : BitVec 8), (s.dev.hears q (Obj.clusterOwner c.val) v.toNat) ∧ (s.dev.loadedPlans.any (fun p => (s.dev.plan p).clusterNames.contains c.val) = true)) ∧
    (∃ (s : State) (q : Requester) (c : Fin 128) (v : BitVec 8), (s.dev.hears q (Obj.clusterOwner c.val) v.toNat) ∧ (s.dev.loadedPlans.any (fun p => (s.dev.plan p).clusterNames.contains c.val) = false)) ∧
    (∃ (s : State) (q : Requester) (b : Fin 128) (v : BitVec 8), (s.dev.hears q (Obj.weirBlockOwner b.val) v.toNat) ∧ (s.dev.blockNamed b.val = true)) ∧
    (∃ (s : State) (q : Requester) (b : Fin 128) (v : BitVec 8), (s.dev.hears q (Obj.weirBlockOwner b.val) v.toNat) ∧ (s.dev.blockNamed b.val = false)) ∧
    (∃ (s : State) (q : Requester) (n : Fin 64) (v : BitVec 8), (s.dev.hears q (Obj.channelOwner n.val) v.toNat) ∧ (s.dev.loadedPlans.any (fun p => (s.dev.plan p).namesChannel n.val) = true)) ∧
    (∃ (s : State) (q : Requester) (n : Fin 64) (v : BitVec 8), (s.dev.hears q (Obj.channelOwner n.val) v.toNat) ∧ (s.dev.loadedPlans.any (fun p => (s.dev.plan p).namesChannel n.val) = false)) ∧
    (∃ (s : State) (q : Requester) (r : Fin 32) (v : BitVec 8), (s.dev.hears q (Obj.regionOwner r.val) v.toNat) ∧ (v.toNat ≠ 0xFF) ∧ (s.dev.regionBad r.val = true)) ∧
    (∃ (s : State) (q : Requester) (r : Fin 32) (v : BitVec 8), (s.dev.hears q (Obj.regionOwner r.val) v.toNat) ∧ (v.toNat ≠ 0xFF) ∧ (s.dev.regionBad r.val = false) ∧ (s.dev.rd (Obj.tenantState v.toNat) = 0)) ∧
    (∃ (s : State) (q : Requester) (r : Fin 32) (v : BitVec 8), (s.dev.hears q (Obj.regionOwner r.val) v.toNat) ∧ (s.dev.rd (Obj.regionOwner r.val) ≠ v.toNat) ∧ ((v.toNat ≠ 0xFF → s.dev.regionBad r.val = false ∧ s.dev.rd (Obj.tenantState v.toNat) ≠ 0))) ∧
    (∃ (s : State) (q : Requester) (r : Fin 32) (v : BitVec 8), (s.dev.hears q (Obj.regionOwner r.val) v.toNat) ∧ (s.dev.rd (Obj.regionOwner r.val) = v.toNat) ∧ ((v.toNat ≠ 0xFF → s.dev.regionBad r.val = false ∧ s.dev.rd (Obj.tenantState v.toNat) ≠ 0))) ∧
    (∃ (s : State) (q : Requester) (n : Fin 36) (v : BitVec 8), (s.dev.hears q (Obj.streamTenant n.val) v.toNat)) ∧
    (∃ (s : State) (q : Requester) (x : Fin 8) (v : BitVec 8), (s.dev.hears q (Obj.tenantWeight x.val) v.toNat)) ∧
    (∃ (s : State) (q : Requester) (v : BitVec 8), (s.dev.hears q Obj.fusionOwner v.toNat)) ∧
    (∃ (s : State) (q : Requester) (x : Fin 8) (k : Fin 4) (bs : List Byte), let r := Obj.tenantHostKeys x.val k.val; (s.dev.reaches { q := q, op := 2, idx := r.key / 256, sub := r.key % 256, data := bs }) ∧ (s.dev.judgeWrite q 2 (r.key / 256) (r.key % 256) bs = .ok)) ∧
    (∃ (s : State) (q : Requester) (n : Fin 64) (v : BitVec 8), (s.dev.hears q (Obj.channelPath n.val) v.toNat)) :=
  ⟨⟨st (fun d => { plan 2 d with plans := [(3, { allPlaces := [⟨255, 0, 5, false, 0, 0, 0, []⟩], places := [⟨255, 0, 5, false, 0, 0, 0, []⟩], allWeirs := [⟨5, 0, 0, 0, []⟩], channels := [⟨7, 0, 0, 0, 0, 1⟩] })] }), q0, 5, 3, by dsimp only [Dev.hears, Dev.opened]; decide +kernel⟩,
   ⟨{ st id with mem := { pad := [(5 * 2 ^ 20 + 3, 7), (6 * 2 ^ 20, 8)] } }, q0, 5, 3, by dsimp only [Dev.hears, Dev.opened]; decide +kernel⟩,
   ⟨st (fun d => { plan 2 d with plans := [(3, { allPlaces := [⟨255, 0, 5, false, 0, 0, 0, []⟩], places := [⟨255, 0, 5, false, 0, 0, 0, []⟩], allWeirs := [⟨5, 0, 0, 0, []⟩], channels := [⟨7, 0, 0, 0, 0, 1⟩] })] }), q0, 0, 3, by dsimp only [Dev.hears, Dev.opened]; decide +kernel⟩,
   ⟨st (fun d => { d with weirs := [(5, { count := 3 }), (500, { count := 4 })] }), q0, 0, 3, by dsimp only [Dev.hears, Dev.opened]; decide +kernel⟩,
   ⟨st (fun d => { plan 2 d with plans := [(3, { allPlaces := [⟨255, 0, 5, false, 0, 0, 0, []⟩], places := [⟨255, 0, 5, false, 0, 0, 0, []⟩], allWeirs := [⟨5, 0, 0, 0, []⟩], channels := [⟨7, 0, 0, 0, 0, 1⟩] })] }), q0, 7, 3, by dsimp only [Dev.hears, Dev.opened]; decide +kernel⟩,
   ⟨st (fun d => ((((d.wr (Obj.ringBase 7) 4096).wr (Obj.outfallStatus 7) 1).wr (Obj.outfallCounter 7 2) 5).wr (Obj.faultChannel 1) 7).wr (Obj.faultChannel 2) 8), q0, 7, 3, by dsimp only [Dev.hears, Dev.opened]; decide +kernel⟩,
   ⟨st id, q0, 0, 3, by dsimp only [Dev.hears, Dev.opened]; decide +kernel⟩,
   ⟨st (fun d => d.wr (Obj.regionSize 0) 2), q0, 0, 3, by dsimp only [Dev.hears, Dev.opened]; decide +kernel⟩,
   ⟨{ st (fun d => (d.wr (Obj.regionSize 0) 2).wr (Obj.tenantState 3) 1) with mem := { gddr := [(7, 8), (2 ^ 21, 9)] } }, q0, 0, 3, by dsimp only [Dev.hears, Dev.opened]; decide +kernel⟩,
   ⟨st (fun d => ((d.wr (Obj.regionSize 0) 2).wr (Obj.regionOwner 0) 3).wr (Obj.tenantState 3) 1), q0, 0, 3, by dsimp only [Dev.hears, Dev.opened]; decide +kernel⟩,
   ⟨st id, q0, 4, 3, by dsimp only [Dev.hears, Dev.opened]; decide +kernel⟩,
   ⟨st id, q0, 4, 3, by dsimp only [Dev.hears, Dev.opened]; decide +kernel⟩,
   ⟨st id, q0, 3, by dsimp only [Dev.hears, Dev.opened]; decide +kernel⟩,
   ⟨st id, q0, 4, 2, zeros 32, by dsimp only [Dev.reaches, Dev.opened]; decide +kernel⟩,
   ⟨st (fun d => (d.wr (Obj.channelOwner 7) 0).wr (Obj.outfallStatus 7) 1), q0, 7, 1, by dsimp only [Dev.hears, Dev.opened]; decide +kernel⟩⟩

/-- The hypotheses of `ReedbedCommands` are met, each clause's by a state of its own. -/
theorem witness_ReedbedCommands :
    (∃ (s : State) (q : Requester) (c : Fin 64), let d := s.dev.rd (Obj.decimation c.val); let kind := s.dev.getF (Obj.sourceSpec c.val) 0 4; let unit_ := s.dev.getF (Obj.sourceSpec c.val) 4 4; let needs := 2 * s.dev.rd (Obj.channelDelay c.val) * d + s.dev.rd (Obj.phaseDelay c.val) / 64 + 1; let deep : Prop := s.dev.rd (Obj.channelDelay c.val) < 32 / 2 ^ s.dev.rd (Obj.preset c.val); let short : Prop := kind = 1 ∧ s.dev.rd (Obj.frameBytes unit_) < s.dev.getF (Obj.sourceSpec c.val) 8 8 + s.dev.getF (Obj.sourceSpec c.val) 16 2 + 2; (s.dev.hears q (Obj.reedbedCommand c.val) 1) ∧ (kind ≠ 0) ∧ (needs ≤ 4096) ∧ (¬deep) ∧ (¬short)) ∧
    (∃ (s : State) (q : Requester) (c : Fin 64) (e : Nat), let d := s.dev.rd (Obj.decimation c.val); let kind := s.dev.getF (Obj.sourceSpec c.val) 0 4; let unit_ := s.dev.getF (Obj.sourceSpec c.val) 4 4; let needs := 2 * s.dev.rd (Obj.channelDelay c.val) * d + s.dev.rd (Obj.phaseDelay c.val) / 64 + 1; let deep : Prop := s.dev.rd (Obj.channelDelay c.val) < 32 / 2 ^ s.dev.rd (Obj.preset c.val); let short : Prop := kind = 1 ∧ s.dev.rd (Obj.frameBytes unit_) < s.dev.getF (Obj.sourceSpec c.val) 8 8 + s.dev.getF (Obj.sourceSpec c.val) 16 2 + 2; (s.dev.hears q (Obj.reedbedCommand c.val) 1) ∧ ((e = 1 ∧ kind = 0) ∨ (e = 2 ∧ kind ≠ 0 ∧ 4096 < needs) ∨ (e = 3 ∧ kind ≠ 0 ∧ needs ≤ 4096 ∧ deep) ∨ (e = 4 ∧ needs ≤ 4096 ∧ ¬deep ∧ short))) ∧
    (∃ (s : State) (q : Requester) (c : Fin 64), (s.dev.hears q (Obj.reedbedCommand c.val) 2)) ∧
    (∃ (s : State) (q : Requester) (c : Fin 64) (v : BitVec 8), (s.dev.hears q (Obj.preset c.val) v.toNat) ∧ (s.dev.rd (Obj.channelDelay c.val) < 32 / 2 ^ v.toNat)) ∧
    (∃ (s : State) (q : Requester) (c : Fin 64) (v : BitVec 8), (s.dev.hears q (Obj.preset c.val) v.toNat) ∧ (32 / 2 ^ v.toNat ≤ s.dev.rd (Obj.channelDelay c.val))) :=
  ⟨⟨st (fun d => (((d.wr (Obj.sourceSpec 5) (4)).wr (Obj.inputRate 5) 1000).wr (Obj.channelDelay 5) 32).wr (Obj.decimation 5) 2), q0, 5, by dsimp only [Dev.hears, Dev.opened]; decide +kernel⟩,
   ⟨st (fun d => (((d.wr (Obj.sourceSpec 5) (0)).wr (Obj.inputRate 5) 1000).wr (Obj.channelDelay 5) 32).wr (Obj.decimation 5) 2), q0, 5, 1, by dsimp only [Dev.hears, Dev.opened]; decide +kernel⟩,
   ⟨st (fun d => (((d.wr (Obj.sourceSpec 5) (4)).wr (Obj.inputRate 5) 1000).wr (Obj.channelDelay 5) 32).wr (Obj.decimation 5) 2 |>.wr (Obj.reedbedStatus 5) 7 |>.wr (Obj.preset 5) 2), q0, 5, by dsimp only [Dev.hears, Dev.opened]; decide +kernel⟩,
   ⟨st (fun d => (((d.wr (Obj.sourceSpec 5) (4)).wr (Obj.inputRate 5) 1000).wr (Obj.channelDelay 5) 31).wr (Obj.decimation 5) 2), q0, 5, 0, by dsimp only [Dev.hears, Dev.opened]; decide +kernel⟩,
   ⟨st (fun d => (((d.wr (Obj.sourceSpec 5) (4)).wr (Obj.inputRate 5) 1000).wr (Obj.channelDelay 5) 32).wr (Obj.decimation 5) 2), q0, 5, 2, by dsimp only [Dev.hears, Dev.opened]; decide +kernel⟩⟩

/-- The hypotheses of `SamplesEnter` are met, each clause's by a state of its own. -/
theorem witness_SamplesEnter :
    (∃ (s : State) (k : Fin 8), let due (k rate : Nat) : Prop := Tab.get 0 s.dev.lastTick k = 0 ∨ s.dev.rf * rate / 1000000000 ≠ (Tab.get 0 s.dev.lastTick k - 1) * rate / 1000000000; (s.dev.up 180) ∧ (s.dev.padsHeld 180 = false) ∧ (8 ≤ s.dev.rd (Obj.spiTrigger k.val)) ∧ (due k.val (s.dev.rd (Obj.frameRate k.val))) ∧ ((Tab.get ({} : Spi) s.dev.spis k.val).frame = none)) ∧
    (∃ (s : State) (k : Fin 8), let due (k rate : Nat) : Prop := Tab.get 0 s.dev.lastTick k = 0 ∨ s.dev.rf * rate / 1000000000 ≠ (Tab.get 0 s.dev.lastTick k - 1) * rate / 1000000000; (s.dev.up 180) ∧ (s.dev.padsHeld 180 = false) ∧ (8 ≤ s.dev.rd (Obj.spiTrigger k.val)) ∧ (due k.val (s.dev.rd (Obj.frameRate k.val))) ∧ ((Tab.get ({} : Spi) s.dev.spis k.val).frame ≠ none)) ∧
    (∃ (s : State) (c : Fin 64) (data : List Byte) (at_ : Int) (k : Fin 8), let kind := s.dev.getF (Obj.sourceSpec c.val) 0 4; let unit_ := s.dev.getF (Obj.sourceSpec c.val) 4 4; (s.dev.up 177) ∧ ((∀ x : Fin 64, x ≠ c → s.dev.reedState x.val = 0)) ∧ (s.dev.reedState c.val = 1) ∧ ((s.dev.reed c.val).stamp = none) ∧ ((s.dev.reed c.val).inWin = 0) ∧ (0 < s.dev.rd (Obj.inputRate c.val)) ∧ ((s.dev.reed c.val).filled + 1 < s.dev.reedNeeds c.val) ∧ (kind = 1) ∧ (s.dev.getF (Obj.sourceSpec c.val) 16 2 = 0) ∧ (unit_ = k.val) ∧ ((Tab.get ({} : Spi) s.dev.spis k.val).frame = some at_) ∧ (data.length = s.dev.rd (Obj.frameBytes k.val))) ∧
    (∃ (s : State) (c : Fin 64) (k : Fin 2) (id : BitVec 29) (ext : Bool), let kind := s.dev.getF (Obj.sourceSpec c.val) 0 4; let unit_ := s.dev.getF (Obj.sourceSpec c.val) 4 4; (s.dev.up 177) ∧ ((∀ x : Fin 64, x ≠ c → s.dev.reedState x.val = 0)) ∧ (s.dev.reedState c.val = 1) ∧ ((s.dev.reed c.val).stamp = none) ∧ ((s.dev.reed c.val).inWin = 0) ∧ (0 < s.dev.rd (Obj.inputRate c.val)) ∧ ((s.dev.reed c.val).filled + 1 < s.dev.reedNeeds c.val) ∧ (kind = 2) ∧ (unit_ = k.val) ∧ (s.dev.getF (Obj.sourceSpec c.val) 16 2 = 1) ∧ (s.dev.getF (Obj.sourceSpec c.val) 20 29 = id.toNat) ∧ (s.dev.bit (Obj.sourceSpec c.val) 49 = ext)) ∧
    (∃ (s : State) (c : Fin 64) (port : Fin 2) (source : List Byte) (payload : List Byte), let kind := s.dev.getF (Obj.sourceSpec c.val) 0 4; let n := leAt payload 2 1; let good : Bool := (s.dev.blob Obj.reedbedSource == zeros 16 || s.dev.blob Obj.reedbedSource == source) && leAt payload 0 2 == 0x0100 && decide (1 ≤ n) && decide (n ≤ 64) && decide (16 + 4 * n ≤ payload.length); (s.dev.up 177) ∧ ((∀ x : Fin 64, x ≠ c → s.dev.reedState x.val = 0)) ∧ (s.dev.reedState c.val = 1) ∧ ((s.dev.reed c.val).stamp = none) ∧ ((s.dev.reed c.val).inWin = 0) ∧ (0 < s.dev.rd (Obj.inputRate c.val)) ∧ ((s.dev.reed c.val).filled + 1 < s.dev.reedNeeds c.val) ∧ (s.dev.up (175 + port.val)) ∧ (kind = 3) ∧ (good = true) ∧ (s.dev.getF (Obj.sourceSpec c.val) 8 8 < n)) ∧
    (∃ (s : State) (c : Fin 64) (port : Fin 2) (source : List Byte) (payload : List Byte), let kind := s.dev.getF (Obj.sourceSpec c.val) 0 4; let n := leAt payload 2 1; let good : Bool := (s.dev.blob Obj.reedbedSource == zeros 16 || s.dev.blob Obj.reedbedSource == source) && leAt payload 0 2 == 0x0100 && decide (1 ≤ n) && decide (n ≤ 64) && decide (16 + 4 * n ≤ payload.length); (s.dev.up 177) ∧ ((∀ x : Fin 64, x ≠ c → s.dev.reedState x.val = 0)) ∧ (s.dev.reedState c.val = 1) ∧ ((s.dev.reed c.val).stamp = none) ∧ ((s.dev.reed c.val).inWin = 0) ∧ (0 < s.dev.rd (Obj.inputRate c.val)) ∧ ((s.dev.reed c.val).filled + 1 < s.dev.reedNeeds c.val) ∧ (s.dev.up (175 + port.val)) ∧ (kind = 3) ∧ (good = false)) ∧
    (∃ (s : State) (c : Fin 64), let due (k rate : Nat) : Prop := Tab.get 0 s.dev.lastTick k = 0 ∨ s.dev.rf * rate / 1000000000 ≠ (Tab.get 0 s.dev.lastTick k - 1) * rate / 1000000000; let kind := s.dev.getF (Obj.sourceSpec c.val) 0 4; (s.dev.up 177) ∧ ((∀ x : Fin 64, x ≠ c → s.dev.reedState x.val = 0)) ∧ (s.dev.reedState c.val = 1) ∧ ((s.dev.reed c.val).stamp = none) ∧ ((s.dev.reed c.val).inWin = 0) ∧ (0 < s.dev.rd (Obj.inputRate c.val)) ∧ ((s.dev.reed c.val).filled + 1 < s.dev.reedNeeds c.val) ∧ (kind = 4) ∧ (s.dev.getF (Obj.sourceSpec c.val) 8 8 < 6) ∧ (due (64 + c.val) (s.dev.rd (Obj.inputRate c.val)))) ∧
    (∃ (s : State) (c : Fin 64) (p : Rat), let due (k rate : Nat) : Prop := Tab.get 0 s.dev.lastTick k = 0 ∨ s.dev.rf * rate / 1000000000 ≠ (Tab.get 0 s.dev.lastTick k - 1) * rate / 1000000000; (s.dev.up 177) ∧ (s.dev.getF (Obj.sourceSpec c.val) 0 4 = 4) ∧ (s.dev.getF (Obj.sourceSpec c.val) 8 8 < 46) ∧ (s.dev.reedState c.val ≠ 0) ∧ ((s.dev.reed c.val).stamp = some p) ∧ (((s.dev.dt : Int) : Rat) - p < 1000000000 / (s.dev.rd (Obj.inputRate c.val) : Rat) / 2) ∧ (due (64 + c.val) (s.dev.rd (Obj.inputRate c.val)))) ∧
    (∃ (s : State) (c : Fin 64) (p : Rat) (v : Int) (b : Bool) (hs : List (Int × Bool)), (s.dev.up 177) ∧ ((s.dev.reed c.val).stamp = some p) ∧ ((s.dev.reed c.val).hist = (v, b) :: hs) ∧ (s.dev.reedState c.val = 2) ∧ (p + 3 / 2 * s.dev.reedT c.val ≤ ((s.dev.dt : Int) : Rat))) ∧
    (∃ (s : State) (k : Fin 8), let due (k rate : Nat) : Prop := Tab.get 0 s.dev.lastTick k = 0 ∨ s.dev.rf * rate / 1000000000 ≠ (Tab.get 0 s.dev.lastTick k - 1) * rate / 1000000000; (s.dev.up 180) ∧ ((s.dev.padsHeld 180 = true ∨ (8 ≤ s.dev.rd (Obj.spiTrigger k.val) ∧ ¬due k.val (s.dev.rd (Obj.frameRate k.val)))))) ∧
    (∃ (s : State) (c : Fin 64), let due (k rate : Nat) : Prop := Tab.get 0 s.dev.lastTick k = 0 ∨ s.dev.rf * rate / 1000000000 ≠ (Tab.get 0 s.dev.lastTick k - 1) * rate / 1000000000; (s.dev.up 177) ∧ (s.dev.getF (Obj.sourceSpec c.val) 0 4 = 4) ∧ (¬due (64 + c.val) (s.dev.rd (Obj.inputRate c.val)))) :=
  ⟨⟨st (fun d => d.wr (Obj.spiTrigger 3) 8), 3, by dsimp only [Dev.up]; decide +kernel⟩,
   ⟨st (fun d => { d.wr (Obj.spiTrigger 3) 8 with spis := [(3, { frame := some 5 })] }), 3, by dsimp only [Dev.up]; decide +kernel⟩,
   ⟨st (fun d => { (((d.wr (Obj.sourceSpec 5) (1 + 3 * 2 ^ 4 + 2 ^ 8 + 2 ^ 19)).wr (Obj.inputRate 5) 1000).wr (Obj.channelDelay 5) 32).wr (Obj.decimation 5) 2 |>.wr (Obj.reedbedStatus 5) 1 |>.wr (Obj.frameBytes 3) 4 with f := 1000, aon := 0, spis := [(3, { frame := some 5 })] }), 5, [1, 2, 3, 4], 5, 3, by dsimp only [Dev.up]; decide +kernel⟩,
   ⟨st (fun d => { (((d.wr (Obj.sourceSpec 5) (2 + 2 ^ 4 + 2 ^ 8 + 2 ^ 16 + 2 ^ 18 + 77 * 2 ^ 20)).wr (Obj.inputRate 5) 1000).wr (Obj.channelDelay 5) 32).wr (Obj.decimation 5) 2 |>.wr (Obj.reedbedStatus 5) 1 with f := 1000, aon := 0 }), 5, 1, 77, false, by dsimp only [Dev.up]; decide +kernel⟩,
   ⟨st (fun d => { (((d.wr (Obj.sourceSpec 5) (3 + 2 ^ 8)).wr (Obj.inputRate 5) 1000).wr (Obj.channelDelay 5) 32).wr (Obj.decimation 5) 2 |>.wr (Obj.reedbedStatus 5) 1 with f := 1000, aon := 0 }), 5, 1, zeros 16, leBytes 2 0x0100 ++ [2, 0] ++ zeros 12 ++ [1, 2, 3, 4, 5, 6, 7, 8], by dsimp only [Dev.up]; decide +kernel⟩,
   ⟨st (fun d => { (((d.wr (Obj.sourceSpec 5) (3 + 2 ^ 8)).wr (Obj.inputRate 5) 1000).wr (Obj.channelDelay 5) 32).wr (Obj.decimation 5) 2 |>.wr (Obj.reedbedStatus 5) 1 with f := 1000, aon := 0 }), 5, 1, zeros 16, [5], by dsimp only [Dev.up]; decide +kernel⟩,
   ⟨st (fun d => { (((d.wr (Obj.sourceSpec 5) (4 + 5 * 2 ^ 8)).wr (Obj.inputRate 5) 1000).wr (Obj.channelDelay 5) 32).wr (Obj.decimation 5) 2 |>.wr (Obj.reedbedStatus 5) 1 |>.wr (Obj.dieTemperature 5) 0xFFF0 with f := 1000, aon := 0 }), 5, by dsimp only [Dev.up]; decide +kernel⟩,
   ⟨st (fun d => { (((d.wr (Obj.sourceSpec 5) (4)).wr (Obj.inputRate 5) 1000).wr (Obj.channelDelay 5) 32).wr (Obj.decimation 5) 2 |>.wr (Obj.reedbedStatus 5) 1 with f := 1000000, reeds := [(5, { stamp := some 600000 })] }), 5, 600000, by dsimp only [Dev.up]; decide +kernel⟩,
   ⟨st (fun d => { (((d.wr (Obj.sourceSpec 5) (4)).wr (Obj.inputRate 5) 1000).wr (Obj.channelDelay 5) 32).wr (Obj.decimation 5) 2 |>.wr (Obj.reedbedStatus 5) 2 with f := 3000000, reeds := [(5, { stamp := some 600000, hist := [(7, false)] })] }), 5, 600000, 7, false, [], by dsimp only [Dev.up]; decide +kernel⟩,
   ⟨st (fun d => { d.wr (Obj.spiTrigger 3) 8 with lastTick := [(3, 1)] }), 3, by dsimp only [Dev.up]; decide +kernel⟩,
   ⟨st (fun d => { d.wr (Obj.sourceSpec 9) 4 with lastTick := [(73, 1)] }), 9, by dsimp only [Dev.up]; decide +kernel⟩⟩

/-- The hypotheses of `InputsJoinInstants` are met, each clause's by a state of its own. -/
theorem witness_InputsJoinInstants :
    (∃ (s : State) (w : Transit) (rest : List Transit), (s.dev.up 178) ∧ (takeFirst (fun t => match t.dest with | .fusion 1 _ => true | _ => false) s.dev.transit = some (w, rest)) ∧ (w.poisoned = true)) ∧
    (∃ (s : State) (w : Transit) (rest : List Transit), (s.dev.up 178) ∧ (takeFirst (fun t => match t.dest with | .fusion 1 _ => true | _ => false) s.dev.transit = some (w, rest)) ∧ (w.poisoned = false) ∧ ((s.dev.fusionRuns = false ∨ ∀ n : Fin 96, s.dev.slotTakes n.val w.word = false))) ∧
    (∃ (s : State) (w : Transit) (rest : List Transit) (n : Fin 96), (s.dev.up 178) ∧ (takeFirst (fun t => match t.dest with | .fusion 1 _ => true | _ => false) s.dev.transit = some (w, rest)) ∧ (w.poisoned = false) ∧ (s.dev.fusionRuns = true) ∧ (s.dev.slotTakes n.val w.word = true) ∧ ((∀ m : Fin 96, m ≠ n → s.dev.slotTakes m.val w.word = false)) ∧ (wKind w.word = 0) ∧ (s.dev.adrift (wStream w.word) = true)) ∧
    (∃ (s : State) (w : Transit) (rest : List Transit) (n : Fin 96), (s.dev.up 178) ∧ (takeFirst (fun t => match t.dest with | .fusion 1 _ => true | _ => false) s.dev.transit = some (w, rest)) ∧ (w.poisoned = false) ∧ (s.dev.fusionRuns = true) ∧ (s.dev.slotTakes n.val w.word = true) ∧ ((∀ m : Fin 96, m ≠ n → s.dev.slotTakes m.val w.word = false)) ∧ (wKind w.word = 0) ∧ (s.dev.adrift (wStream w.word) = false) ∧ (s.dev.bit (Obj.sourceControl n.val) 1 = true) ∧ (s.dev.bit (Obj.sourceStatus n.val) 3 = true)) ∧
    (∃ (s : State) (w : Transit) (rest : List Transit) (n : Fin 96), let low := s.dev.fusion.low; let k := s.dev.instantOf (s.dev.ofT31 (wT w.word) + s.dev.rdI (Obj.sourceOffset n.val) * 1000); (s.dev.up 178) ∧ (takeFirst (fun t => match t.dest with | .fusion 1 _ => true | _ => false) s.dev.transit = some (w, rest)) ∧ (w.poisoned = false) ∧ (s.dev.fusionRuns = true) ∧ (s.dev.slotTakes n.val w.word = true) ∧ ((∀ m : Fin 96, m ≠ n → s.dev.slotTakes m.val w.word = false)) ∧ (wKind w.word = 0) ∧ (s.dev.adrift (wStream w.word) = false) ∧ (s.dev.bit (Obj.sourceStatus n.val) 3 = false) ∧ (k < low) ∧ (s.dev.bit (Obj.sourceControl n.val) 0 = false)) ∧
    (∃ (s : State) (w : Transit) (rest : List Transit) (n : Fin 96), let low := s.dev.fusion.low; let high := s.dev.fusion.high; let k := s.dev.instantOf (s.dev.ofT31 (wT w.word) + s.dev.rdI (Obj.sourceOffset n.val) * 1000); (s.dev.up 178) ∧ (takeFirst (fun t => match t.dest with | .fusion 1 _ => true | _ => false) s.dev.transit = some (w, rest)) ∧ (w.poisoned = false) ∧ (s.dev.fusionRuns = true) ∧ (s.dev.slotTakes n.val w.word = true) ∧ ((∀ m : Fin 96, m ≠ n → s.dev.slotTakes m.val w.word = false)) ∧ (wKind w.word = 0) ∧ (s.dev.adrift (wStream w.word) = false) ∧ (s.dev.bit (Obj.sourceStatus n.val) 3 = false) ∧ (low ≤ k) ∧ (k ≤ high) ∧ (s.dev.getF Obj.gridControl 0 3 = 1) ∧ (bitAt (s.calEntry (wStream w.word) (wX w.word) (wY w.word)) 29 = true)) ∧
    (∃ (s : State) (w : Transit) (rest : List Transit) (h : Nat), (s.dev.up 178) ∧ (takeFirst (fun t => match t.dest with | .fusion 2 _ => true | _ => false) s.dev.transit = some (w, rest)) ∧ (w.poisoned = false) ∧ (w.dest = .fusion 2 h) ∧ (tickWord? w = false) ∧ (s.dev.spikeSlots h = [])) ∧
    (∃ (s : State) (w : Transit) (rest : List Transit) (h : Nat) (n : Nat), (s.dev.up 178) ∧ (takeFirst (fun t => match t.dest with | .fusion 2 _ => true | _ => false) s.dev.transit = some (w, rest)) ∧ (w.poisoned = false) ∧ (w.dest = .fusion 2 h) ∧ (tickWord? w = false) ∧ (s.dev.spikeSlots h = [n])) ∧
    (∃ (s : State) (w : Transit) (rest : List Transit) (h : Nat) (n : Nat) (sw : Nat), (s.dev.up 178) ∧ (takeFirst (fun t => match t.dest with | .fusion 2 _ => true | _ => false) s.dev.transit = some (w, rest)) ∧ (w.poisoned = false) ∧ (w.dest = .fusion 2 h) ∧ (tickWord? w = true) ∧ (s.dev.spikeSlots h = [n]) ∧ (s.dev.fusion.spikes.filter (fun x => x.1 == n && x.2.1 == w.route) = [(n, w.route, sw)])) ∧
    (∃ (s : State) (r : FineRec) (rest : List FineRec), (s.dev.up 178) ∧ (s.dev.fines = r :: rest) ∧ (s.dev.fusionRuns = false)) ∧
    (∃ (s : State) (r : FineRec) (rest : List FineRec) (i : Fin 3), (s.dev.up 178) ∧ (s.dev.fines = r :: rest) ∧ (s.dev.fusionRuns = true) ∧ ((∀ j : Fin 3, s.dev.getF Obj.egoChannels (8 * j.val) 8 = r.channel ↔ j = i))) ∧
    (∃ (s : State) (n : Fin 96), (s.dev.up 178) ∧ (s.dev.deliveryReady n.val = false)) ∧
    (∃ (s : State) (n : Fin 96), let t0 := s.dev.rd Obj.fusionOwner; let a := s.dev.rd (Obj.deliveryAddress n.val); (s.dev.up 178) ∧ (s.dev.deliveryReady n.val = true) ∧ (s.dev.inRegions t0 a 16 = false)) ∧
    (∃ (s : State) (n : Fin 96) (age : Nat), let low := s.dev.fusion.low; let high := s.dev.fusion.high; let t0 := s.dev.rd Obj.fusionOwner; let a := s.dev.rd (Obj.deliveryAddress n.val); let got := s.gddrRead t0 a (s.deliveryBytes n.val); let e := bytesAt (got.map (·.1)) 16 48; let k := s.dev.instantOf (s.dev.dt - (age : Nat) + s.dev.rdI (Obj.sourceOffset n.val) * 1000); (s.dev.up 178) ∧ (s.dev.deliveryReady n.val = true) ∧ (s.dev.inRegions t0 a 16 = true) ∧ (s.dev.inRegions t0 a (s.deliveryBytes n.val) = true) ∧ (got.any (·.2) = false) ∧ (s.dev.rd (Obj.sourceKind n.val) = 4) ∧ (leAt (got.map (·.1)) 0 4 = 1) ∧ (detectBad e = false) ∧ ((leAt e 32 8 &&& s.dev.adriftMask) = 0) ∧ (low ≤ k) ∧ (k ≤ high) ∧ (s.dev.fusion.detsFull k = false) ∧ (16384 ≤ s.dev.rd (Obj.releaseWeir n.val))) :=
  ⟨⟨st (fun d => fused 1 4 (two 0) [{ fusedWord 1 (mkWord 4 0 0 1 0 100) with poisoned := true }] d), { fusedWord 1 (mkWord 4 0 0 1 0 100) with poisoned := true }, [], by dsimp only [Dev.up]; decide +kernel⟩,
   ⟨st (fun d => { d with transit := [fusedWord 1 (mkWord 4 0 0 1 0 100)] }), fusedWord 1 (mkWord 4 0 0 1 0 100), [], by dsimp only [Dev.up]; decide +kernel⟩,
   ⟨st (fun d => (fused 1 4 (two 0) [fusedWord 1 (mkWord 4 0 0 1 0 100)] d).wr (Obj.fusionStreamState 4) 2), fusedWord 1 (mkWord 4 0 0 1 0 100), [], 2, by dsimp only [Dev.up]; decide +kernel⟩,
   ⟨st (fun d => (fused 1 4 (two 0) [fusedWord 1 (mkWord 4 0 0 1 0 100)] d).wr (Obj.sourceControl 2) 2 |>.wr (Obj.sourceStatus 2) 8), fusedWord 1 (mkWord 4 0 0 1 0 100), [], 2, by dsimp only [Dev.up]; decide +kernel⟩,
   ⟨st (fun d => (fused 1 4 (two 5) [fusedWord 1 (mkWord 4 0 0 1 0 100)] d)), fusedWord 1 (mkWord 4 0 0 1 0 100), [], 2, by dsimp only [Dev.up]; decide +kernel⟩,
   ⟨calibrated (st (fun d => (fused 1 4 (two 0) [fusedWord 1 (mkWord 4 0 0 1 0 100)] d))), fusedWord 1 (mkWord 4 0 0 1 0 100), [], 2, by dsimp only [Dev.up]; decide +kernel⟩,
   ⟨st (fun d => { d with transit := [fusedWord 2 (2 ^ 18)] }), fusedWord 2 (2 ^ 18), [], 7, by dsimp only [Dev.up]; decide +kernel⟩,
   ⟨st (fun d => (fused 2 7 (two 0) [fusedWord 2 (2 ^ 18)] d)), fusedWord 2 (2 ^ 18), [], 7, 2, by dsimp only [Dev.up]; decide +kernel⟩,
   ⟨calibrated (st (fun d => (fused 2 7 ({ two 0 with spikes := [(2, 2 ^ 24, 2 ^ 18)] }) [fusedWord 2 (mkWord 63 0 0 0 3 1000)] d))), fusedWord 2 (mkWord 63 0 0 0 3 1000), [], 7, 2, 2 ^ 18, by dsimp only [Dev.up]; decide +kernel⟩,
   ⟨st (fun d => { d with fines := [⟨3, 0, 100, 50⟩] }), ⟨3, 0, 100, 50⟩, [], by dsimp only [Dev.up]; decide +kernel⟩,
   ⟨st (fun d => { (fused 1 4 (two 0) [] d).wr Obj.egoChannels 0xFF03FF with fines := [⟨3, 0, 100, 50⟩] }), ⟨3, 0, 100, 50⟩, [], 1, by dsimp only [Dev.up]; decide +kernel⟩,
   ⟨st id, 2, by dsimp only [Dev.up]; decide +kernel⟩,
   ⟨st (fun d => { (fused 4 0 (two 0) [] d).wr (Obj.deliveryAddress 2) (2 ^ 21) with weirs := [(5, { count := 1 })] }), 2, by dsimp only [Dev.up]; decide +kernel⟩,
   ⟨{ st (fun d => { fused 4 0 (two 0) [] d with weirs := [(5, { count := 1 })] }) with mem := { gddr := [(0, 1)] } }, 2, 0, by dsimp only [Dev.up]; decide +kernel⟩⟩

/-- The hypotheses of `InstantsClose` are met, each clause's by a state of its own. -/
theorem witness_InstantsClose :
    (∃ (s : State) (x : Instant) (y : Instant) (rest : List Instant), let end_ := s.dev.rdT Obj.fusionOrigin + (x.k + 1) * (s.dev.rd Obj.fusionWindow * 1000 : Nat) + (x.hold * 1000 : Nat); (s.dev.up 178) ∧ (s.dev.fusionRuns = true) ∧ (s.dev.fusion.opened = x :: y :: rest) ∧ (s.dev.dt < end_)) ∧
    (∃ (s : State) (x : Instant) (y : Instant) (rest : List Instant), let end_ := s.dev.rdT Obj.fusionOrigin + (x.k + 1) * (s.dev.rd Obj.fusionWindow * 1000 : Nat) + (x.hold * 1000 : Nat); (s.dev.up 178) ∧ (s.dev.fusionRuns = true) ∧ (s.dev.fusion.opened = x :: y :: rest) ∧ (end_ ≤ s.dev.dt) ∧ (rest = [])) ∧
    (∃ (s : State) (c : Draining) (rest : List Draining) (r : Nat), let own := s.dev.rd Obj.fusionOwner; let a := s.dev.rd Obj.eventSlotBase + (c.k % (s.dev.rd Obj.fusedSlots : Nat)).toNat * 9441280; (s.dev.up 178) ∧ (s.dev.fusion.drains = c :: rest) ∧ (Tab.wf 0 s.dev.fusion.grids = true) ∧ ((∀ x, a ≤ x → x < a + 9441280 → s.dev.regionAt own x = some r)) ∧ (s.dev.regionMirror r = false) ∧ ((∀ k < 8, s.dev.chanFailed k = false))) ∧
    (∃ (s : State) (c : Draining) (rest : List Draining) (r : Nat), let own := s.dev.rd Obj.fusionOwner; let a := s.dev.rd Obj.featureSlotBase + (c.k % (s.dev.rd Obj.fusedSlots : Nat)).toNat * 19992576; (s.dev.up 178) ∧ (s.dev.fusion.jobs = c :: rest) ∧ ((∀ x, a ≤ x → x < a + 19992576 → s.dev.regionAt own x = some r)) ∧ (s.dev.regionMirror r = false) ∧ ((∀ k < 8, s.dev.chanFailed k = false))) :=
  ⟨⟨st (fused 1 4 (two 0) []), { k := 0, set := 0 }, { k := 1, set := 1 }, [], by dsimp only [Dev.up, Dev.opened]; decide +kernel⟩,
   ⟨st (fun d => { (fused 1 4 (two 0) [] d).wr (Obj.streamSyncMethod 4) 0 with f := 1150000 }), { k := 0, set := 0 }, { k := 1, set := 1 }, [], by dsimp only [Dev.up, Dev.opened]; decide +kernel⟩,
   ⟨st (fun d => (fused 1 4 { drains := [⟨0, 0, 0, 0, 0, 0, 0⟩] } [] d).wr (Obj.regionSize 0) 32), ⟨0, 0, 0, 0, 0, 0, 0⟩, [], 0, by dsimp only [Dev.up]; refine ⟨by decide +kernel, by decide +kernel, by decide +kernel, fun x h1 h2 => regionAt_first _ _ _ (by decide +kernel) (by decide +kernel) (Nat.le_trans (by decide +kernel) h1) (Nat.lt_of_lt_of_le h2 (by decide +kernel)), by decide +kernel, by decide +kernel⟩⟩,
   ⟨st (fun d => (fused 1 4 { jobs := [⟨0, 0, 0, 0, 0, 0, 0⟩] } [] d).wr (Obj.regionSize 0) 32), ⟨0, 0, 0, 0, 0, 0, 0⟩, [], 0, by dsimp only [Dev.up]; refine ⟨by decide +kernel, by decide +kernel, fun x h1 h2 => regionAt_first _ _ _ (by decide +kernel) (by decide +kernel) (Nat.le_trans (by decide +kernel) h1) (Nat.lt_of_lt_of_le h2 (by decide +kernel)), by decide +kernel, by decide +kernel⟩⟩⟩

/-- The hypotheses of `FusionCommands` are met, each clause's by a state of its own. -/
theorem witness_FusionCommands :
    (∃ (s : State) (q : Requester), (s.dev.hears q Obj.fusionCommand 1) ∧ (s.dev.fusionRuns = true)) ∧
    (∃ (s : State) (q : Requester), (s.dev.hears q Obj.fusionCommand 1) ∧ (s.dev.fusionRuns = false) ∧ (s.dev.fusionError ≠ 0)) ∧
    (∃ (s : State) (q : Requester), (s.dev.hears q Obj.fusionCommand 1) ∧ (s.dev.fusionRuns = false) ∧ (s.dev.rd Obj.fusionOwner = 0xFF)) ∧
    (∃ (s : State) (q : Requester), (s.dev.hears q Obj.fusionCommand 1) ∧ (s.dev.fusionRuns = false) ∧ (s.dev.rd Obj.fusionOwner ≠ 0xFF) ∧ (s.dev.fusionTake ≠ none) ∧ (s.dev.bit Obj.gridControl 3 = true) ∧ (s.dev.rd Obj.featureInstants * s.dev.rd Obj.fusionWindow < 2000)) ∧
    (∃ (s : State) (q : Requester), (s.dev.hears q Obj.fusionCommand 1) ∧ (s.dev.fusionRuns = false) ∧ (s.dev.fusionError = 0)) ∧
    (∃ (s : State) (q : Requester), (s.dev.hears q Obj.fusionCommand 2) ∧ (s.dev.fusionRuns = false)) ∧
    (∃ (s : State) (q : Requester), (s.dev.hears q Obj.fusionCommand 2) ∧ (s.dev.fusionRuns = true)) ∧
    (∃ (s : State) (q : Requester) (n : Fin 36) (g : Seg), (s.dev.reaches (segReq q (Obj.calibrationImage n.val) g)) ∧ (Dev.sessionOk q 2 (0x7200 + n.val) = true) ∧ (s.dev.hasRight q .ownerOrCustodian .fusion n.val = true) ∧ (g.first = true) ∧ (g.offset = 0) ∧ (g.data.length ≤ segLimit q) ∧ (g.data.length ≤ 2 ^ 27) ∧ (s.dev.transferBusy q (Obj.calibrationImage n.val).key true = false) ∧ ((s.dev.fusionRuns && s.dev.fusedStreams.contains n.val) = true)) ∧
    (∃ (s : State) (q : Requester) (n : Fin 36) (g : Seg), (s.dev.reaches (segReq q (Obj.calibrationImage n.val) g)) ∧ (Dev.sessionOk q 2 (0x7200 + n.val) = true) ∧ (s.dev.hasRight q .ownerOrCustodian .fusion n.val = true) ∧ (g.first = true) ∧ (g.offset = 0) ∧ (g.data.length ≤ segLimit q) ∧ (g.data.length ≤ 2 ^ 27) ∧ (s.dev.transferBusy q (Obj.calibrationImage n.val).key true = false) ∧ ((s.dev.fusionRuns && s.dev.fusedStreams.contains n.val) = false) ∧ (g.last = false)) ∧
    (∃ (s : State) (q : Requester) (n : Fin 36) (g : Seg), (s.dev.reaches (segReq q (Obj.calibrationImage n.val) g)) ∧ (Dev.sessionOk q 2 (0x7200 + n.val) = true) ∧ (s.dev.hasRight q .ownerOrCustodian .fusion n.val = true) ∧ (g.first = true) ∧ (g.offset = 0) ∧ (g.data.length ≤ segLimit q) ∧ (g.data.length ≤ 2 ^ 27) ∧ (s.dev.transferBusy q (Obj.calibrationImage n.val).key true = false) ∧ ((s.dev.fusionRuns && s.dev.fusedStreams.contains n.val) = false) ∧ (g.last = true) ∧ (g.data.length ≠ 4096 + 8 * s.dev.rd (Obj.outputWidth n.val) * s.dev.rd (Obj.outputHeight n.val))) :=
  ⟨⟨st (fused 1 4 (two 0) []), q0, by dsimp only [Dev.hears, Dev.opened]; decide +kernel⟩,
   ⟨st (fun d => d.wr Obj.fusionOwner 0), q0, by dsimp only [Dev.hears, Dev.opened]; decide +kernel⟩,
   ⟨st id, q0, by dsimp only [Dev.hears, Dev.opened]; decide +kernel⟩,
   ⟨st (fun d => (((((ferry1 d).wr (Obj.regionSize 0) 400).wr Obj.fusionOwner 0).wr Obj.fusedSlots 2).wr Obj.fusedChannel 0xFF).wr Obj.trackChannel 0xFF |>.wr Obj.gridControl 9 |>.wr Obj.featureInstants 1), q0, by dsimp only [Dev.hears, Dev.opened]; decide +kernel⟩,
   ⟨st (fun d => (((((ferry1 d).wr (Obj.regionSize 0) 400).wr Obj.fusionOwner 0).wr Obj.fusedSlots 2).wr Obj.fusedChannel 0xFF).wr Obj.trackChannel 0xFF), q0, by dsimp only [Dev.hears, Dev.opened]; decide +kernel⟩,
   ⟨st id, q0, by dsimp only [Dev.hears, Dev.opened]; decide +kernel⟩,
   ⟨st (fun d => { fused 1 4 {} [] d with allocs := [⟨192, 0, 64⟩, ⟨3, 64, 64⟩] }), q0, by dsimp only [Dev.hears, Dev.opened]; decide +kernel⟩,
   ⟨st (fused 1 4 (two 0) []), q0, 4, ⟨0, true, false, [1, 2]⟩, by dsimp only [Dev.reaches, Dev.opened]; decide +kernel⟩,
   ⟨st id, q0, 4, ⟨0, true, false, [1, 2]⟩, by dsimp only [Dev.reaches, Dev.opened]; decide +kernel⟩,
   ⟨st id, q0, 4, ⟨0, true, true, [1, 2]⟩, by dsimp only [Dev.reaches, Dev.opened]; decide +kernel⟩⟩

/-- The hypotheses of `HostsComeAndGo` are met, each clause's by a state of its own. -/
theorem witness_HostsComeAndGo :
    (∃ (s : State) (h : Fin 4), let st := Obj.attachState h.val; (s.dev.up (173 + h.val / 2)) ∧ (s.dev.portState h.val = 0) ∧ (s.dev.bit st 3 = true) ∧ (s.dev.bootWait = false) ∧ ((s.dev.bit Obj.securityState 2 = false ∨ h.val = 0))) ∧
    (∃ (s : State) (h : Fin 4), (s.dev.up (173 + h.val / 2)) ∧ (s.dev.portState h.val ≠ 0)) ∧
    (∃ (s : State) (h : Fin 4), (s.dev.up 179) ∧ (s.dev.portState h.val = 0)) ∧
    (∃ (s : State) (h : Fin 4), (s.dev.up 179) ∧ (s.dev.portState h.val ≠ 0)) ∧
    (∃ (s : State) (h : Fin 4) (q : Requester), (s.dev.hears q (Obj.attachCommand h.val) 1) ∧ (s.dev.portState h.val ≠ 2)) ∧
    (∃ (s : State) (h : Fin 4) (q : Requester), (s.dev.hears q (Obj.attachCommand h.val) 1) ∧ (s.dev.portState h.val = 2)) ∧
    (∃ (s : State) (h : Fin 4) (written : Bool), (s.dev.working = true) ∧ (s.dev.portState h.val = 3) ∧ ((written = true ∨ Tab.get 0 s.dev.detachF h.val + 50000000 ≤ s.dev.rf))) ∧
    (∃ (s : State) (h : Fin 4) (written : Bool), let quiet : Prop := ∀ a ∈ s.dev.allocs, a.tag < 16 → 2 ≤ s.dev.rd (Obj.planState a.tag); (s.dev.working = true) ∧ (quiet) ∧ (s.dev.portState h.val = 3) ∧ (written = false) ∧ (s.dev.rf < Tab.get 0 s.dev.detachF h.val + 50000000)) ∧
    (∃ (s : State) (k : Fin 2), (s.dev.working = true) ∧ (s.dev.getF (Obj.sessionState k.val) 8 2 = 2) ∧ ((s.dev.session (4 + k.val)).lastBeatF + 3 * s.dev.rd Obj.heartbeatPeriod * 1000000 ≤ s.dev.rf)) ∧
    (∃ (s : State) (k : Fin 2), let quiet : Prop := ∀ a ∈ s.dev.allocs, a.tag < 16 → 2 ≤ s.dev.rd (Obj.planState a.tag); (s.dev.working = true) ∧ (s.dev.getF (Obj.sessionState k.val) 8 2 = 2) ∧ (quiet) ∧ (s.dev.rf < (s.dev.session (4 + k.val)).lastBeatF + 3 * s.dev.rd Obj.heartbeatPeriod * 1000000)) ∧
    (∃ (s : State) (x : Fin 8), (s.dev.working = true) ∧ (s.dev.rd (Obj.tenantState x.val) = 2) ∧ (Tab.get 0 s.dev.tenantHoldF x.val + 2000000000 ≤ s.dev.rf)) ∧
    (∃ (s : State) (x : Fin 8), (s.dev.working = true) ∧ (s.dev.rd (Obj.tenantState x.val) = 2) ∧ (s.dev.rf < Tab.get 0 s.dev.tenantHoldF x.val + 2000000000)) ∧
    (∃ (s : State), (s.dev.up 180)) :=
  ⟨⟨st (fun d => d.setBit (Obj.attachState 2) 3 true), 2, by dsimp only [Dev.up]; decide +kernel⟩,
   ⟨st id, 0, by dsimp only [Dev.up]; decide +kernel⟩,
   ⟨st id, 2, by dsimp only [Dev.up]; decide +kernel⟩,
   ⟨st (fun d => { (d.wr (Obj.tenantHosts 0) 1).wr (Obj.tenantState 0) 1 with held := [⟨0, 5, { q := q0, op := 1, idx := 0x3000, sub := 0, data := [] }⟩], mailboxes := [(1, { busy := true })], sess := [(0, { bound := true })] }), 0, by dsimp only [Dev.up]; decide +kernel⟩,
   ⟨st (fun d => d.setF (Obj.attachState 0) 0 3 3), 0, q0, by dsimp only [Dev.hears, Dev.opened]; decide +kernel⟩,
   ⟨st (fun d => { channel {} d with f := 7 }), 0, q0, by dsimp only [Dev.hears, Dev.opened]; decide +kernel⟩,
   ⟨st (fun d => (((d.setF (Obj.attachState 0) 0 3 3).wr (Obj.tenantHosts 0) 1).wr (Obj.tenantState 0) 1)), 0, true, by decide +kernel⟩,
   ⟨st (fun d => d.setF (Obj.attachState 0) 0 3 3), 0, false, by dsimp only; decide +kernel⟩,
   ⟨st (fun d => { attached d with f := 3000000000 }), 1, by decide +kernel⟩,
   ⟨st attached, 1, by dsimp only; decide +kernel⟩,
   ⟨{ st (fun d => { ((((d.wr (Obj.tenantState 2) 2).wr (Obj.planState 3) 2).wr (Obj.planOwner 3) 2).wr (Obj.clusterOwner 5) 2).wr (Obj.streamTenant 4) 2 |>.wr Obj.fusionOwner 2 |>.wr (Obj.weirBlockOwner 0) 2 |>.wr (Obj.channelOwner 7) 2 |>.wr (Obj.regionOwner 0) 2 with f := 2000000000 }) with mem := { pad := [(5 * 2 ^ 20 + 3, 7)] } }, 2, by decide +kernel⟩,
   ⟨st (fun d => d.wr (Obj.tenantState 2) 2), 2, by decide +kernel⟩,
   ⟨st id, by dsimp only [Dev.up]; decide +kernel⟩⟩

/-- The hypotheses of `EthernetPortsSpeak` are met, each clause's by a state of its own. -/
theorem witness_EthernetPortsSpeak :
    (∃ (s : State) (port : Fin 2), let due (k ns : Nat) : Prop := Tab.get 0 s.dev.lastTick k = 0 ∨ Tab.get 0 s.dev.lastTick k + ns ≤ s.dev.rf + 1; (s.dev.up (175 + port.val)) ∧ (s.dev.dieOut (4 + port.val) = false) ∧ (due (128 + port.val) 990000000)) ∧
    (∃ (s : State) (port : Fin 2), let due (k ns : Nat) : Prop := Tab.get 0 s.dev.lastTick k = 0 ∨ Tab.get 0 s.dev.lastTick k + ns ≤ s.dev.rf + 1; (s.dev.up (175 + port.val)) ∧ (s.dev.dieOut (4 + port.val) = false) ∧ (due (130 + port.val) 30000000000)) ∧
    (∃ (s : State) (port : Fin 2), let due (k ns : Nat) : Prop := Tab.get 0 s.dev.lastTick k = 0 ∨ Tab.get 0 s.dev.lastTick k + ns ≤ s.dev.rf + 1; (s.dev.up (175 + port.val)) ∧ (¬due (128 + port.val) 990000000)) ∧
    (∃ (s : State) (port : Fin 2), let due (k ns : Nat) : Prop := Tab.get 0 s.dev.lastTick k = 0 ∨ Tab.get 0 s.dev.lastTick k + ns ≤ s.dev.rf + 1; (s.dev.up (175 + port.val)) ∧ (¬due (130 + port.val) 30000000000)) ∧
    (∃ (s : State) (port : Fin 2), (s.dev.up (175 + port.val))) ∧
    (∃ (s : State) (k : Fin 2) (e : Envelope), (s.dev.working = true) ∧ (s.dev.getF (Obj.sessionState k.val) 8 2 = 2) ∧ (e.tagOk = false)) ∧
    (∃ (s : State) (k : Fin 2) (e : Envelope), (s.dev.working = true) ∧ (s.dev.getF (Obj.sessionState k.val) 8 2 = 2) ∧ (e.tagOk = true) ∧ (e.seq = 0)) ∧
    (∃ (s : State) (k : Fin 2) (e : Envelope), (s.dev.working = true) ∧ (s.dev.getF (Obj.sessionState k.val) 8 2 = 2) ∧ (e.tagOk = true) ∧ (e.seq ≠ 0) ∧ (1 ≤ stampDiff 32 e.seq.toNat (s.dev.session (4 + k.val)).highSeq) ∧ (stampDiff 32 e.seq.toNat (s.dev.session (4 + k.val)).highSeq ≤ 8)) :=
  ⟨⟨st id, 1, by dsimp only [Dev.up]; decide +kernel⟩,
   ⟨st id, 1, by dsimp only [Dev.up]; decide +kernel⟩,
   ⟨st (fun d => { d with f := 1989999999, lastTick := [(129, 1000000001)] }), 1, by dsimp only [Dev.up]; decide +kernel⟩,
   ⟨st (fun d => { d with f := 1990000000, lastTick := [(131, 1)] }), 1, by dsimp only [Dev.up]; decide +kernel⟩,
   ⟨st id, 1, by dsimp only [Dev.up]; decide +kernel⟩,
   ⟨st attached, 1, { tagOk := false }, by decide +kernel⟩,
   ⟨st attached, 1, {}, by decide +kernel⟩,
   ⟨st (fun d => { attached d with f := 9 }), 1, { seq := 8 }, by decide +kernel⟩⟩

/-- The hypotheses of `OutfallChannelsRun` are met, each clause's by a state of its own. -/
theorem witness_OutfallChannelsRun :
    (∃ (s : State) (n : Fin 64) (q : Requester), (s.dev.hears q (Obj.outfallCommand n.val) 1) ∧ (s.dev.chanState n.val ≠ 0)) ∧
    (∃ (s : State) (n : Fin 64) (q : Requester), let good : Prop := s.dev.rd (Obj.ringBase n.val) % 4096 = 0 ∧ s.dev.rd (Obj.consumerAddress n.val) % 8 = 0 ∧ ∃ k ∈ List.range 31, 12 ≤ k ∧ s.dev.rd (Obj.ringBytes n.val) = 2 ^ k; (s.dev.hears q (Obj.outfallCommand n.val) 1) ∧ (s.dev.chanState n.val = 0) ∧ (¬(good ∧ s.dev.rd (Obj.channelOwner n.val) < 8 ∧ s.dev.chanPath n.val ≠ none))) ∧
    (∃ (s : State) (n : Fin 64) (q : Requester), let good : Prop := s.dev.rd (Obj.ringBase n.val) % 4096 = 0 ∧ s.dev.rd (Obj.consumerAddress n.val) % 8 = 0 ∧ ∃ k ∈ List.range 31, 12 ≤ k ∧ s.dev.rd (Obj.ringBytes n.val) = 2 ^ k; (s.dev.hears q (Obj.outfallCommand n.val) 1) ∧ (s.dev.chanState n.val = 0) ∧ (good) ∧ (s.dev.rd (Obj.channelOwner n.val) < 8) ∧ (s.dev.chanPath n.val ≠ none)) ∧
    (∃ (s : State) (n : Fin 64) (q : Requester), (s.dev.hears q (Obj.outfallCommand n.val) 2)) ∧
    (∃ (s : State) (n : Fin 64) (p : Nat), let st := Obj.outfallStatus n.val; let c := s.dev.chan n.val; let now := s.dev.rf; let due : Prop := s.dev.rd (Obj.pollInterval n.val) * 1000 ≤ now - c.lastPollF ∨ (c.wantRead = true ∧ 2000 ≤ now - c.lastReadF) ∨ (s.dev.bit st 2 = true ∧ 10000 ≤ now - max c.lastReadF c.stallF); (s.dev.up 180) ∧ (s.dev.rd (Obj.dieHealth 5) = 0) ∧ (s.dev.chanPath n.val = some p) ∧ (p < 4) ∧ (s.dev.chanState n.val = 1) ∧ ((s.dev.chan n.val).reading = false) ∧ (due)) ∧
    (∃ (s : State) (n : Fin 64) (p : Nat), let st := Obj.outfallStatus n.val; let c := s.dev.chan n.val; let now := s.dev.rf; let due : Prop := s.dev.rd (Obj.pollInterval n.val) * 1000 ≤ now - c.lastPollF ∨ (c.wantRead = true ∧ 2000 ≤ now - c.lastReadF) ∨ (s.dev.bit st 2 = true ∧ 10000 ≤ now - max c.lastReadF c.stallF); (s.dev.up 180) ∧ (s.dev.rd (Obj.dieHealth 5) = 0) ∧ (s.dev.chanPath n.val = some p) ∧ (p < 4) ∧ (s.dev.chanState n.val = 1) ∧ ((s.dev.chan n.val).reading = false) ∧ (¬due)) ∧
    (∃ (s : State) (n : Fin 64), (s.dev.up 180) ∧ ((s.dev.chan n.val).reading = true)) ∧
    (∃ (s : State) (n : Fin 64), (s.dev.up 180) ∧ ((s.dev.chan n.val).reading = true)) ∧
    (∃ (s : State) (n : Fin 64) (q : Requester) (v : BitVec 64), (s.dev.hears q (Obj.ethConsumerIndex n.val) v.toNat)) :=
  ⟨⟨st (channel {}), 7, q0, by dsimp only [Dev.hears, Dev.opened]; decide +kernel⟩,
   ⟨st (fun d => (((channel {} d).wr (Obj.outfallStatus 7) 0).wr (Obj.ringBytes 7) 4097)), 7, q0, by dsimp only [Dev.hears, Dev.opened]; decide +kernel⟩,
   ⟨st (fun d => ((channel {} d).wr (Obj.outfallStatus 7) 0)), 7, q0, by dsimp only [Dev.hears, Dev.opened]; decide +kernel⟩,
   ⟨st (channel { queue := [⟨2, 0, [1, 2], 0, 128, {}⟩] }), 7, q0, by dsimp only [Dev.hears, Dev.opened]; decide +kernel⟩,
   ⟨st (fun d => { channel {} d with f := 1000000000 }), 7, 0, by dsimp only [Dev.up]; decide +kernel⟩,
   ⟨st (channel {}), 7, 0, by dsimp only [Dev.up]; decide +kernel⟩,
   ⟨st (channel { reading := true }), 7, by dsimp only [Dev.up]; decide +kernel⟩,
   ⟨st (channel { reading := true }), 7, by dsimp only [Dev.up]; decide +kernel⟩,
   ⟨st (channel {}), 7, q0, 1, by dsimp only [Dev.hears, Dev.opened]; decide +kernel⟩⟩

/-- The hypotheses of `RecordsAreDelivered` are met, each clause's by a state of its own. -/
theorem witness_RecordsAreDelivered :
    (∃ (s : State) (n : Fin 64) (r : Ready) (rs : List Ready), (s.dev.up 180) ∧ (s.dev.rd (Obj.dieHealth 5) = 0) ∧ ((s.dev.chan n.val).ready = r :: rs) ∧ (r.poisoned = true)) ∧
    (∃ (s : State) (n : Fin 64) (r : Ready) (rs : List Ready), let st := Obj.outfallStatus n.val; (s.dev.up 180) ∧ (s.dev.rd (Obj.dieHealth 5) = 0) ∧ ((s.dev.chan n.val).ready = r :: rs) ∧ (r.poisoned = false) ∧ (r.type = 4) ∧ (s.dev.getF st 16 8 = 0)) ∧
    (∃ (s : State) (n : Fin 64) (r : Ready) (rs : List Ready), let st := Obj.outfallStatus n.val; (s.dev.up 180) ∧ (s.dev.rd (Obj.dieHealth 5) = 0) ∧ ((s.dev.chan n.val).ready = r :: rs) ∧ (r.poisoned = false) ∧ ((r.type ≠ 4 ∨ 1 ≤ s.dev.getF st 16 8))) ∧
    (∃ (s : State) (n : Fin 64) (r : Rec) (rs : List Rec) (p : Nat), let ring := s.dev.rd (Obj.ringBytes n.val); let at_ := s.dev.rd (Obj.producerIndex n.val); let pad := if ring < at_ % ring + r.length then ring - at_ % ring else 0; let free := ring - (at_ - (s.dev.chan n.val).consumer); (s.dev.up 180) ∧ (s.dev.rd (Obj.dieHealth 5) = 0) ∧ ((s.dev.chan n.val).queue = r :: rs) ∧ (s.dev.chanPath n.val = some p) ∧ ((s.dev.pathDie p = 4 → s.dev.dieOut 4 = false)) ∧ (s.dev.chanState n.val = 1) ∧ (64 ≤ r.length) ∧ (free < pad + r.length)) ∧
    (∃ (s : State) (n : Fin 64) (r : Rec) (rs : List Rec) (p : Nat), let ring := s.dev.rd (Obj.ringBytes n.val); let at_ := s.dev.rd (Obj.producerIndex n.val); let pad := if ring < at_ % ring + r.length then ring - at_ % ring else 0; let free := ring - (at_ - (s.dev.chan n.val).consumer); (s.dev.up 180) ∧ (s.dev.rd (Obj.dieHealth 5) = 0) ∧ ((s.dev.chan n.val).queue = r :: rs) ∧ (s.dev.chanPath n.val = some p) ∧ ((s.dev.pathDie p = 4 → s.dev.dieOut 4 = false)) ∧ (s.dev.chanState n.val = 1) ∧ (64 ≤ r.length) ∧ (pad + r.length ≤ free)) ∧
    (∃ (s : State) (n : Fin 64) (b : Batch), (s.dev.up 180) ∧ (s.dev.rd (Obj.dieHealth 5) = 0) ∧ ((s.dev.chan n.val).batches = [b]) ∧ (s.dev.chanState n.val ≠ 0) ∧ (s.dev.rd (Obj.batchTime n.val) * 1000 ≤ s.dev.rf - b.firstF)) ∧
    (∃ (s : State) (n : Fin 64) (b : Batch), (s.dev.up 180) ∧ (s.dev.rd (Obj.dieHealth 5) = 0) ∧ ((s.dev.chan n.val).batches = [b]) ∧ (s.dev.chanState n.val ≠ 0) ∧ (s.dev.rf - b.firstF < s.dev.rd (Obj.batchTime n.val) * 1000)) :=
  ⟨⟨st (channel { ready := [⟨2, [1, 2], true⟩] }), 7, ⟨2, [1, 2], true⟩, [], by dsimp only [Dev.up]; decide +kernel⟩,
   ⟨st (channel { ready := [⟨4, [1, 2], false⟩] }), 7, ⟨4, [1, 2], false⟩, [], by dsimp only [Dev.up]; decide +kernel⟩,
   ⟨st (channel { ready := [⟨2, [1, 2], false⟩] }), 7, ⟨2, [1, 2], false⟩, [], by dsimp only [Dev.up]; decide +kernel⟩,
   ⟨st (fun d => (channel { queue := [⟨2, 0, [1, 2], 0, 128, {}⟩] } d).wr (Obj.producerIndex 7) 4032), 7, ⟨2, 0, [1, 2], 0, 128, {}⟩, [], 0, by dsimp only [Dev.up]; decide +kernel⟩,
   ⟨st (fun d => (channel { queue := [⟨2, 0, [1, 2], 0, 128, {}⟩] } d)), 7, ⟨2, 0, [1, 2], 0, 128, {}⟩, [], 0, by dsimp only [Dev.up]; decide +kernel⟩,
   ⟨st (fun d => { channel { batches := [⟨2, 0, [5, 6], 0, false⟩] } d with f := 1000000000 }), 7, ⟨2, 0, [5, 6], 0, false⟩, by dsimp only [Dev.up]; decide +kernel⟩,
   ⟨st (channel { batches := [⟨2, 0, [5, 6], 0, false⟩] }), 7, ⟨2, 0, [5, 6], 0, false⟩, by dsimp only [Dev.up]; decide +kernel⟩⟩

/-- The hypotheses of `ObjectsAreRead` are met, each clause's by a state of its own. -/
theorem witness_ObjectsAreRead :
    (∃ (s : State) (q : Requester) (e : Envelope) (p : Fin 4) (m : Fin 4) (b : Bool × BitVec 20), (s.dev.admits q e) ∧ (q = .mailbox p m) ∧ (e.bar = some b) ∧ (s.dev.portState p.val ≠ 0) ∧ (b.1 = false)) ∧
    (∃ (s : State) (q : Requester) (e : Envelope) (p : Fin 4) (m : Fin 4) (b : Bool × BitVec 20), (s.dev.admits q e) ∧ (q = .mailbox p m) ∧ (e.bar = some b) ∧ (s.dev.portState p.val ≠ 0) ∧ (b.1 = true) ∧ (s.dev.domOn (132 + b.2.toNat / 64 / 4096 % 4) = true)) ∧
    (∃ (s : State) (q : Requester) (e : Envelope) (idx : BitVec 16) (sub : BitVec 8), (s.dev.admits q e) ∧ (e.bar = none) ∧ (s.dev.judgeRead q 1 idx.toNat sub.toNat ≠ .ok)) ∧
    (∃ (s : State) (q : Requester) (e : Envelope) (idx : BitVec 16) (sub : BitVec 8) (room : Nat) (row : ObjRow), let awake (op : Nat) : Prop := ∀ n ∈ s.dev.needs { q := q, op := op, idx := idx.toNat, sub := sub.toNat }, s.dev.domOn n = true; (s.dev.admits q e) ∧ (e.bar = none) ∧ (s.dev.judgeRead q 1 idx.toNat sub.toNat = .ok) ∧ (objRow? idx.toNat sub.toNat = some row) ∧ (awake 1) ∧ ((∀ m, row.ty ≠ .domain m)) ∧ (¬(0x3420 ≤ idx.toNat ∧ idx.toNat < 0x3428 ∧ sub.toNat = 2)) ∧ (¬(idx.toNat = 0x9031 ∧ s.dev.bit Obj.securityState 3 = true)) ∧ ((∀ p m, q = .mailbox p m → (s.dev.liveObject q idx.toNat sub.toNat).length ≤ room % 2 ^ 32))) ∧
    (∃ (s : State) (q : Requester) (e : Envelope) (idx : BitVec 16) (sub : BitVec 8) (offset : Nat) (first : Bool) (row : ObjRow) (m : Nat), let key := idx.toNat * 256 + sub.toNat; let awake (op : Nat) : Prop := ∀ n ∈ s.dev.needs { q := q, op := op, idx := idx.toNat, sub := sub.toNat }, s.dev.domOn n = true; (s.dev.admits q e) ∧ (e.bar = none) ∧ (s.dev.judgeRead q 1 idx.toNat sub.toNat = .ok) ∧ (objRow? idx.toNat sub.toNat = some row) ∧ (awake 1) ∧ (row.ty = .domain m) ∧ (first = true) ∧ (offset = 0) ∧ (s.dev.transferBusy q key false = false)) ∧
    (∃ (s : State) (q : Requester) (e : Envelope) (idx : BitVec 16), (s.dev.admits q e) ∧ ((∀ c, q ≠ .can c)) ∧ (Dev.sessionOk q 4 idx.toNat = true) ∧ (indexKind idx.toNat = none)) ∧
    (∃ (s : State) (q : Requester) (e : Envelope) (idx : BitVec 16) (n : Nat), (s.dev.admits q e) ∧ ((∀ c, q ≠ .can c)) ∧ (Dev.sessionOk q 4 idx.toNat = true) ∧ (indexKind idx.toNat = some (0, n))) ∧
    (∃ (s : State) (q : Requester) (e : Envelope) (idx : BitVec 16) (sub : BitVec 8) (k : Nat) (n : Nat), let awake (op : Nat) : Prop := ∀ n ∈ s.dev.needs { q := q, op := op, idx := idx.toNat, sub := sub.toNat }, s.dev.domOn n = true; (s.dev.admits q e) ∧ ((∀ c, q ≠ .can c)) ∧ (Dev.sessionOk q 4 idx.toNat = true) ∧ (indexKind idx.toNat = some (k + 1, n)) ∧ (awake 4) ∧ (¬(0x3420 ≤ idx.toNat ∧ idx.toNat < 0x3428))) ∧
    (∃ (s : State) (q : Requester) (e : Envelope) (idx : BitVec 16) (sub : BitVec 8), (s.dev.admits q e) ∧ ((∀ c, q ≠ .can c)) ∧ (Dev.sessionOk q 5 idx.toNat = true) ∧ (describeObject idx.toNat sub.toNat = none)) ∧
    (∃ (s : State) (q : Requester) (e : Envelope) (idx : BitVec 16) (sub : BitVec 8) (bs : List Byte), (s.dev.admits q e) ∧ ((∀ c, q ≠ .can c)) ∧ (Dev.sessionOk q 5 idx.toNat = true) ∧ (describeObject idx.toNat sub.toNat = some bs) ∧ (s.dev.versionOk q 5 = false)) ∧
    (∃ (s : State) (q : Requester) (e : Envelope) (idx : BitVec 16) (sub : BitVec 8) (bs : List Byte), (s.dev.admits q e) ∧ ((∀ c, q ≠ .can c)) ∧ (Dev.sessionOk q 5 idx.toNat = true) ∧ (describeObject idx.toNat sub.toNat = some bs) ∧ (s.dev.versionOk q 5 = true)) ∧
    (∃ (s : State) (q : Requester) (e : Envelope) (idx : BitVec 16) (sub : BitVec 8) (x : Transfer), let key := idx.toNat * 256 + sub.toNat; (s.dev.admits q e) ∧ ((∀ c, q ≠ .can c)) ∧ (Dev.sessionOk q 6 idx.toNat = true) ∧ ((objRow? idx.toNat sub.toNat).isSome = true) ∧ (s.dev.transferOf q = some x) ∧ (x.key = key)) ∧
    (∃ (s : State) (q : Requester) (e : Envelope) (idx : BitVec 16) (sub : BitVec 8), let key := idx.toNat * 256 + sub.toNat; (s.dev.admits q e) ∧ ((∀ c, q ≠ .can c)) ∧ (Dev.sessionOk q 6 idx.toNat = true) ∧ ((objRow? idx.toNat sub.toNat).isSome = true) ∧ ((∀ x, s.dev.transferOf q = some x → x.key ≠ key))) ∧
    (∃ (s : State) (q : Requester) (e : Envelope) (x : Transfer), (s.dev.admits q e) ∧ (s.dev.transferOf q = some x) ∧ (x.lastF + 1000000000 ≤ s.dev.rf)) ∧
    (∃ (s : State) (q : Requester) (e : Envelope) (x : Transfer), let quiet : Prop := ∀ a ∈ s.dev.allocs, a.tag < 16 → 2 ≤ s.dev.rd (Obj.planState a.tag); (s.dev.admits q e) ∧ (s.dev.transferOf q = some x) ∧ (quiet) ∧ (s.dev.rf < x.lastF + 1000000000)) ∧
    (∃ (s : State) (q : Requester) (e : Envelope) (p : Fin 4) (m : Fin 4) (b : Bool × BitVec 20), let n := 132 + b.2.toNat / 64 / 4096 % 4; (s.dev.admits q e) ∧ (q = .mailbox p m) ∧ (e.bar = some b) ∧ (s.dev.portState p.val ≠ 0) ∧ (b.1 = true) ∧ ((s.dev.domState n = 1 ∨ s.dev.domState n = 2)) ∧ ((s.dev.on (Obj.wakeOnAccess n) && s.dev.wakeRight (.mailbox p 0) n) = false)) :=
  ⟨⟨st id, q0, { bar := some (false, 0x10) }, 0, 0, (false, 0x10), by dsimp only [Dev.admits, Dev.opened, q0, q1, attached]; decide +kernel⟩,
   ⟨st own, q0, { bar := some (true, 0x140) }, 0, 0, (true, 0x140), by dsimp only [Dev.admits, Dev.opened, q0, q1, attached]; decide +kernel⟩,
   ⟨st id, q0, {}, 0x2FFF, 0, by dsimp only [Dev.admits, Dev.opened, q0, q1, attached]; decide +kernel⟩,
   ⟨st id, q0, {}, 0x3001, 0, 4096, ((objRow? 0x3001 0).get (by decide +kernel)), by dsimp only [Dev.admits, Dev.opened, q0]; refine ⟨by decide +kernel, by decide +kernel, by decide +kernel, by decide +kernel, by decide +kernel, fun m h => ?_, by decide +kernel, by decide +kernel, by decide +kernel⟩; exact Ty.noConfusion (h.symm.trans (by decide +kernel : ObjRow.ty _ = Ty.i 8))⟩,
   ⟨st (fun d => d.setBlob (Obj.gridImage 4) [1, 2, 3, 4]), q0, {}, 0x4047, 1, 0, true, ((objRow? 0x4047 1).get (by decide +kernel)), 131072, by dsimp only [Dev.admits, Dev.opened, q0, q1, attached]; decide +kernel⟩,
   ⟨st id, q0, {}, 0x2FFF, by dsimp only [Dev.admits, Dev.opened, q0, q1, attached]; decide +kernel⟩,
   ⟨st id, q0, {}, 0x3001, 0, by dsimp only [Dev.admits, Dev.opened, q0, q1, attached]; decide +kernel⟩,
   ⟨st id, q0, {}, 0x4000, 0, 1, 13, by dsimp only [Dev.admits, Dev.opened, q0, q1, attached]; decide +kernel⟩,
   ⟨st id, q0, {}, 0x2FFF, 0, by dsimp only [Dev.admits, Dev.opened, q0, q1, attached]; decide +kernel⟩,
   ⟨st attached, .omtos 1, { seq := 5 }, 0x3001, 0, ((describeObject 0x3001 0).get (by decide +kernel)), by dsimp only [Dev.admits, Dev.opened, q0, q1, attached]; decide +kernel⟩,
   ⟨st id, q0, {}, 0x3001, 0, ((describeObject 0x3001 0).get (by decide +kernel)), by dsimp only [Dev.admits, Dev.opened, q0, q1, attached]; decide +kernel⟩,
   ⟨st (fun d => { d with transfers := [⟨q0, 0x3001 * 256, false, [1, 2], 1, 0⟩] }), q0, {}, 0x3001, 0, ⟨q0, 0x3001 * 256, false, [1, 2], 1, 0⟩, by dsimp only [Dev.admits, Dev.opened, q0, q1, attached]; decide +kernel⟩,
   ⟨st id, q0, {}, 0x3001, 0, by dsimp only [Dev.admits, Dev.opened, q0, q1, attached]; decide +kernel⟩,
   ⟨st (fun d => { d with transfers := [⟨q0, 0x3001 * 256, false, [1, 2], 1, 0⟩], f := 1000000000 }), q0, {}, ⟨q0, 0x3001 * 256, false, [1, 2], 1, 0⟩, by dsimp only [Dev.admits, Dev.opened, q0, q1, attached]; decide +kernel⟩,
   ⟨st (fun d => { d with transfers := [⟨q0, 0x3001 * 256, false, [1, 2], 1, 0⟩] }), q0, {}, ⟨q0, 0x3001 * 256, false, [1, 2], 1, 0⟩, by dsimp only [Dev.admits, Dev.opened, q0, q1, attached]; decide +kernel⟩,
   ⟨st (fun d => (d.setF (Obj.domainState 132) 0 3 2).wr (Obj.wakeOnAccess 132) 0), q0, { bar := some (true, 0x144) }, 0, 0, (true, 0x144), by dsimp only [Dev.admits, Dev.opened, q0, q1, attached]; decide +kernel⟩⟩

/-- The hypotheses of `ObjectsAreWritten` are met, each clause's by a state of its own. -/
theorem witness_ObjectsAreWritten :
    (∃ (s : State) (q : Requester) (e : Envelope) (idx : BitVec 16) (sub : BitVec 8) (data : List Byte) (g : Seg), let plan : Prop := 0x6000 ≤ idx.toNat ∧ idx.toNat < 0x6010; (s.dev.admits q e) ∧ (g.data = data) ∧ (¬plan) ∧ (s.dev.judgeWrite q 2 idx.toNat sub.toNat data ≠ .ok)) ∧
    (∃ (s : State) (q : Requester) (e : Envelope) (idx : BitVec 16) (sub : BitVec 8) (data : List Byte) (g : Seg) (row : ObjRow), let stored : Prop := (0x5811 ≤ idx.toNat ∧ idx.toNat ≤ 0x5813) ∨ (0x5815 ≤ idx.toNat ∧ idx.toNat ≤ 0x581B) ∨ (0x7802 ≤ idx.toNat ∧ idx.toNat ≤ 0x780A) ∨ (0x6400 ≤ idx.toNat ∧ idx.toNat < 0x6800); (s.dev.admits q e) ∧ (g.data = data) ∧ (s.dev.judgeWrite q 2 idx.toNat sub.toNat data = .ok) ∧ (objRow? idx.toNat sub.toNat = some row) ∧ (stored) ∧ (row.ty.scalar = true)) ∧
    (∃ (s : State) (q : Requester) (e : Envelope) (idx : BitVec 16) (sub : BitVec 8) (data : List Byte) (g : Seg) (row : ObjRow), (s.dev.admits q e) ∧ (g.data = data) ∧ (s.dev.judgeWrite q 2 idx.toNat sub.toNat data = .ok) ∧ (objRow? idx.toNat sub.toNat = some row) ∧ ((0x5840 ≤ idx.toNat ∧ idx.toNat < 0x5848)) ∧ ((∃ n, row.ty = .octets n))) ∧
    (∃ (s : State) (q : Requester) (e : Envelope) (idx : BitVec 16) (sub : BitVec 8) (data : List Byte), (s.dev.admits q e) ∧ ((∀ c, q ≠ .can c)) ∧ (s.dev.judgeWriteIf q idx.toNat sub.toNat data ≠ .ok)) ∧
    (∃ (s : State) (q : Requester) (e : Envelope) (idx : BitVec 16) (sub : BitVec 8) (data : List Byte) (row : ObjRow), let stored : Prop := (0x5811 ≤ idx.toNat ∧ idx.toNat ≤ 0x5813) ∨ (0x5815 ≤ idx.toNat ∧ idx.toNat ≤ 0x581B) ∨ (0x7802 ≤ idx.toNat ∧ idx.toNat ≤ 0x780A) ∨ (0x6400 ≤ idx.toNat ∧ idx.toNat < 0x6800); let n := row.ty.size; let present := s.dev.liveObject q idx.toNat sub.toNat; (s.dev.admits q e) ∧ ((∀ c, q ≠ .can c)) ∧ (s.dev.judgeWriteIf q idx.toNat sub.toNat data = .ok) ∧ (objRow? idx.toNat sub.toNat = some row) ∧ (stored) ∧ (present = data.take n)) ∧
    (∃ (s : State) (q : Requester) (e : Envelope) (idx : BitVec 16) (sub : BitVec 8) (data : List Byte) (row : ObjRow), let stored : Prop := (0x5811 ≤ idx.toNat ∧ idx.toNat ≤ 0x5813) ∨ (0x5815 ≤ idx.toNat ∧ idx.toNat ≤ 0x581B) ∨ (0x7802 ≤ idx.toNat ∧ idx.toNat ≤ 0x780A) ∨ (0x6400 ≤ idx.toNat ∧ idx.toNat < 0x6800); let n := row.ty.size; let present := s.dev.liveObject q idx.toNat sub.toNat; (s.dev.admits q e) ∧ ((∀ c, q ≠ .can c)) ∧ (s.dev.judgeWriteIf q idx.toNat sub.toNat data = .ok) ∧ (objRow? idx.toNat sub.toNat = some row) ∧ (stored) ∧ (present ≠ data.take n)) ∧
    (∃ (s : State) (q : Requester) (n : Fin 36) (g : Seg), (s.dev.reaches (segReq q (Obj.gridImage n.val) g)) ∧ (s.dev.judgeWrite q 2 ((Obj.gridImage n.val).key / 256) ((Obj.gridImage n.val).key % 256) g.data = .ok) ∧ (g.first = true) ∧ (g.offset = 0) ∧ (g.data.length ≤ segLimit q) ∧ (s.dev.transferBusy q (Obj.gridImage n.val).key true = false) ∧ (g.last = false)) ∧
    (∃ (s : State) (q : Requester) (n : Fin 36) (g : Seg), (s.dev.reaches (segReq q (Obj.gridImage n.val) g)) ∧ (s.dev.judgeWrite q 2 ((Obj.gridImage n.val).key / 256) ((Obj.gridImage n.val).key % 256) g.data = .ok) ∧ (g.first = true) ∧ (g.offset = 0) ∧ (g.data.length ≤ segLimit q) ∧ (s.dev.transferBusy q (Obj.gridImage n.val).key true = false) ∧ (g.last = true) ∧ (g.data.length % 4 ≠ 0)) ∧
    (∃ (s : State) (q : Requester) (n : Fin 36) (g : Seg), (s.dev.reaches (segReq q (Obj.gridImage n.val) g)) ∧ (s.dev.judgeWrite q 2 ((Obj.gridImage n.val).key / 256) ((Obj.gridImage n.val).key % 256) g.data = .ok) ∧ (g.first = true) ∧ (g.offset = 0) ∧ (g.data.length ≤ segLimit q) ∧ (s.dev.transferBusy q (Obj.gridImage n.val).key true = false) ∧ (g.last = true) ∧ (g.data.length % 4 = 0)) :=
  ⟨⟨st id, q0, {}, 0x2FFF, 0, [1], ⟨0, true, true, [1]⟩, by dsimp only [Dev.admits, Dev.opened, q0, q1, attached]; decide +kernel⟩,
   ⟨st id, q0, {}, 0x5811, 1, [1, 2, 0, 0], ⟨0, true, true, [1, 2, 0, 0]⟩, ((objRow? 0x5811 1).get (by decide +kernel)), by dsimp only [Dev.admits, Dev.opened, q0, q1, attached]; decide +kernel⟩,
   ⟨st id, q0, {}, BitVec.ofNat 16 ((Obj.frameCommand 3).key / 256), BitVec.ofNat 8 ((Obj.frameCommand 3).key % 256), zeros 64, ⟨0, true, true, zeros 64⟩, ((objRow? ((Obj.frameCommand 3).key / 256) ((Obj.frameCommand 3).key % 256)).get (by decide +kernel)), by dsimp only [Dev.admits, Dev.opened, q0]; refine ⟨by decide +kernel, by decide +kernel, by decide +kernel, by decide +kernel, by decide +kernel, 64, by decide +kernel⟩⟩,
   ⟨st id, q0, {}, 0x2FFF, 0, [1], by dsimp only [Dev.admits, Dev.opened, q0, q1, attached]; decide +kernel⟩,
   ⟨st id, q0, {}, 0x5811, 1, [232, 3, 0, 0, 2, 1, 0, 0], ((objRow? 0x5811 1).get (by decide +kernel)), by dsimp only [Dev.admits, Dev.opened, q0, q1, attached]; decide +kernel⟩,
   ⟨st id, q0, {}, 0x5811, 1, [232, 4, 0, 0, 2, 1, 0, 0], ((objRow? 0x5811 1).get (by decide +kernel)), by dsimp only [Dev.admits, Dev.opened, q0, q1, attached]; decide +kernel⟩,
   ⟨st (fun d => d.wr (Obj.streamTenant 4) 0), q0, 4, ⟨0, true, false, [1, 2, 3, 4]⟩, by dsimp only [Dev.reaches, Dev.opened]; decide +kernel⟩,
   ⟨st (fun d => d.wr (Obj.streamTenant 4) 0), q0, 4, ⟨0, true, true, [1, 2, 3]⟩, by dsimp only [Dev.reaches, Dev.opened]; decide +kernel⟩,
   ⟨st (fun d => d.wr (Obj.streamTenant 4) 0), q0, 4, ⟨0, true, true, [1, 2, 3, 4]⟩, by dsimp only [Dev.reaches, Dev.opened]; decide +kernel⟩⟩

/-- The hypotheses of `SessionsAreEstablished` are met, each clause's by a state of its own. -/
theorem witness_SessionsAreEstablished :
    (∃ (s : State) (p : SessionPeer) (data : List Byte), (s.dev.working = true) ∧ (s.dev.bootWait = false) ∧ (s.dev.bit Obj.securityState 2 = false) ∧ (s.dev.peerOn p = true) ∧ (helloGood data = false)) ∧
    (∃ (s : State) (p : SessionPeer) (data : List Byte), (s.dev.working = true) ∧ (s.dev.bootWait = false) ∧ (s.dev.bit Obj.securityState 2 = false) ∧ (s.dev.peerOn p = true) ∧ (helloGood data = true) ∧ ((s.dev.bit Obj.securityState 3 || s.dev.bit Obj.securityState 4) = true)) ∧
    (∃ (s : State) (p : SessionPeer) (data : List Byte), (s.dev.working = true) ∧ (s.dev.bootWait = false) ∧ (s.dev.bit Obj.securityState 2 = false) ∧ (s.dev.peerOn p = true) ∧ (helloGood data = true) ∧ (s.dev.bit Obj.securityState 3 = false) ∧ (s.dev.bit Obj.securityState 4 = false)) ∧
    (∃ (s : State) (p : SessionPeer) (data : List Byte), let x := s.dev.exchange (peerNum p); (s.dev.working = true) ∧ (s.dev.bootWait = false) ∧ (s.dev.bit Obj.securityState 2 = false) ∧ (s.dev.peerOn p = true) ∧ (x.challenge = [] ∨ finishGood data = false ∨ leAt data 4 4 ≠ leAt x.challenge 4 4 ∨ x.readyF + 1000000000 < s.dev.rf)) ∧
    (∃ (s : State) (h : Fin 4) (data : List Byte) (tn : Fin 8), let x := s.dev.exchange h.val; let hostKey := x.hello.drop 36; (s.dev.working = true) ∧ (s.dev.bootWait = false) ∧ (s.dev.bit Obj.securityState 2 = false) ∧ (s.dev.portState h.val = 1) ∧ (x.challenge ≠ []) ∧ (finishGood data = true) ∧ (leAt data 4 4 = leAt x.challenge 4 4) ∧ (s.dev.rf ≤ x.readyF + 1000000000) ∧ (x.slot = 2) ∧ (leAt x.hello 2 1 = 1) ∧ (leAt x.hello 3 1 = tn.val) ∧ ((∀ k : Fin 4, s.dev.blob (Obj.tenantHostKeys tn.val k.val) ≠ sha3 hostKey))) ∧
    (∃ (s : State) (h : Fin 4) (data : List Byte) (tn : Fin 8) (k : Fin 4) (v : Nat), let x := s.dev.exchange h.val; let hostKey := x.hello.drop 36; (s.dev.working = true) ∧ (s.dev.bootWait = false) ∧ (s.dev.bit Obj.securityState 2 = false) ∧ (s.dev.portState h.val = 1) ∧ (x.challenge ≠ []) ∧ (finishGood data = true) ∧ (leAt data 4 4 = leAt x.challenge 4 4) ∧ (s.dev.rf ≤ x.readyF + 1000000000) ∧ (x.slot = 2) ∧ (leAt x.hello 2 1 = 1) ∧ (leAt x.hello 3 1 = tn.val) ∧ (s.dev.blob (Obj.tenantHostKeys tn.val k.val) = sha3 hostKey) ∧ (sha3 hostKey ≠ zeros 32) ∧ (s.dev.rd (Obj.tenantHosts tn.val) = 0) ∧ (s.dev.rd (Obj.tenantState tn.val) ≠ 3) ∧ (agreedVersion ((s.dev.session h.val).offer.getD 2 0) ((s.dev.session h.val).offer.getD 3 0) = some v)) ∧
    (∃ (s : State) (h : Fin 4) (data : List Byte), let x := s.dev.exchange h.val; (s.dev.working = true) ∧ (s.dev.bootWait = false) ∧ (s.dev.bit Obj.securityState 2 = false) ∧ (s.dev.portState h.val = 1) ∧ (x.challenge ≠ []) ∧ (finishGood data = true) ∧ (leAt data 4 4 = leAt x.challenge 4 4) ∧ (s.dev.rf ≤ x.readyF + 1000000000) ∧ (x.slot = 2) ∧ (leAt x.hello 2 1 = 2)) ∧
    (∃ (s : State) (q : Requester), (s.dev.reaches { q := q, op := 1, idx := 0x9031, sub := 0 }) ∧ (s.dev.judgeRead q 1 0x9031 0 = .ok) ∧ (s.dev.bit Obj.securityState 3 = true)) ∧
    (∃ (s : State) (q : Requester), (s.dev.reaches { q := q, op := 1, idx := 0x9031, sub := 0 }) ∧ (s.dev.judgeRead q 1 0x9031 0 = .ok) ∧ (s.dev.bit Obj.securityState 3 = false)) :=
  ⟨⟨st linked, .port 2, [1], by decide +kernel⟩,
   ⟨st (fun d => (linked d).setBit Obj.securityState 4 true), .port 2, hello0 1, by decide +kernel⟩,
   ⟨st linked, .port 2, hello0 1, by decide +kernel⟩,
   ⟨st linked, .port 2, finish0, by dsimp only; decide +kernel⟩,
   ⟨st (finishing 1), 2, finish0, 3, by dsimp only; decide +kernel⟩,
   ⟨st (fun d => (finishing 1 d).setBlob (Obj.tenantHostKeys 3 1) (sha3 [])), 2, finish0, 3, 1, 0x0100, by dsimp only; decide +kernel⟩,
   ⟨st (finishing 2), 2, finish0, by dsimp only; decide +kernel⟩,
   ⟨st (fun d => d.setBit Obj.securityState 3 true), q0, by dsimp only [Dev.reaches, Dev.opened]; decide +kernel⟩,
   ⟨st id, q0, by dsimp only [Dev.reaches, Dev.opened]; decide +kernel⟩⟩

/-- The hypotheses of `SecurityCommands` are met, each clause's by a state of its own. -/
theorem witness_SecurityCommands :
    (∃ (s : State) (q : Requester), (s.dev.hears q Obj.rollbackCommit 1)) ∧
    (∃ (s : State) (q : Requester) (k : Fin 4), (s.dev.hears q Obj.provisioningCommand 1) ∧ (s.dev.blob (Obj.provisioningKeyDigest k.val) = zeros 32) ∧ ((∀ j < k.val, s.dev.blob (Obj.provisioningKeyDigest j) ≠ zeros 32))) ∧
    (∃ (s : State) (q : Requester), (s.dev.hears q Obj.provisioningCommand 1) ∧ ((∀ k : Fin 4, s.dev.blob (Obj.provisioningKeyDigest k.val) ≠ zeros 32))) ∧
    (∃ (s : State) (q : Requester) (g : Seg), (g.first = true) ∧ (g.offset = 0) ∧ (g.data.length ≤ segLimit q) ∧ (s.dev.transferBusy q Obj.recoveryImage.key true = false) ∧ (s.dev.judgeWrite q 2 (Obj.recoveryImage.key / 256) (Obj.recoveryImage.key % 256) g.data = .ok) ∧ (s.dev.opened)) ∧
    (∃ (s : State) (q : Requester) (g : Seg), (g.first = true) ∧ (g.offset = 0) ∧ (g.data.length ≤ segLimit q) ∧ (s.dev.transferBusy q Obj.recoveryImage.key true = false) ∧ (s.dev.judgeWrite q 2 (Obj.recoveryImage.key / 256) (Obj.recoveryImage.key % 256) g.data = .ok) ∧ (s.dev.working = true) ∧ (s.dev.bootWait = false) ∧ (s.dev.bit Obj.securityState 2 = true) ∧ (q = .mailbox 0 0) ∧ (g.last = true)) ∧
    (∃ (s : State) (q : Requester), let x := s.dev.session (sessOf q); (s.dev.hears q Obj.rekeyCommand 1) ∧ (x.bound = false)) ∧
    (∃ (s : State) (q : Requester), let x := s.dev.session (sessOf q); (s.dev.hears q Obj.rekeyCommand 1) ∧ (x.bound = true) ∧ (x.outfallVersion < 0x0102)) ∧
    (∃ (s : State) (q : Requester), let x := s.dev.session (sessOf q); (s.dev.hears q Obj.rekeyCommand 1) ∧ (x.bound = true) ∧ (0x0102 ≤ x.outfallVersion)) ∧
    (∃ (s : State) (q : Requester), let x := s.dev.session (sessOf q); (s.dev.hears q Obj.rekeyCommand 2) ∧ (x.bound = false)) ∧
    (∃ (s : State) (q : Requester), let x := s.dev.session (sessOf q); (s.dev.hears q Obj.rekeyCommand 2) ∧ (x.bound = true) ∧ (x.nextLinkKey = [])) ∧
    (∃ (s : State), (s.dev.working = true)) ∧
    (∃ (s : State) (q : Requester) (g : Seg) (x : Transfer), (s.dev.reaches (segReq q Obj.debugAuthorisation g)) ∧ (s.dev.judgeWrite q 2 (Obj.debugAuthorisation.key / 256) (Obj.debugAuthorisation.key % 256) g.data = .ok) ∧ (g.first = false) ∧ (g.last = true) ∧ (g.data.length ≤ segLimit q) ∧ (s.dev.transferOf q = some x) ∧ (x.writing = true) ∧ (x.key = Obj.debugAuthorisation.key) ∧ (x.next = g.offset) ∧ (x.data.length + g.data.length ≤ 6216) ∧ (s.dev.wasAbandoned q = false)) ∧
    (∃ (s : State), (s.dev.up 179)) :=
  ⟨⟨st id, q0, by dsimp only [Dev.hears, Dev.opened]; decide +kernel⟩,
   ⟨st (fun d => d.setBlob (Obj.provisioningKeyDigest 0) [1]), q0, 1, by dsimp only [Dev.hears, Dev.opened]; decide +kernel⟩,
   ⟨st (fun d => (((d.setBlob (Obj.provisioningKeyDigest 0) [1]).setBlob (Obj.provisioningKeyDigest 1) [1]).setBlob (Obj.provisioningKeyDigest 2) [1]).setBlob (Obj.provisioningKeyDigest 3) [1]), q0, by dsimp only [Dev.hears, Dev.opened]; decide +kernel⟩,
   ⟨st id, q0, ⟨0, true, true, [7]⟩, by dsimp only [Dev.opened]; decide +kernel⟩,
   ⟨st (fun d => (d.setBit Obj.securityState 2 true)), q0, ⟨0, true, true, [7]⟩, by decide +kernel⟩,
   ⟨st id, q0, by dsimp only [Dev.hears, Dev.opened]; decide +kernel⟩,
   ⟨st (fun d => { d with sess := [(0, { bound := true })] }), q0, by dsimp only [Dev.hears, Dev.opened]; decide +kernel⟩,
   ⟨st (fun d => { d with sess := [(0, { bound := true, outfallVersion := 0x0102, recordKey := zeros 32 })] }), q0, by dsimp only [Dev.hears, Dev.opened]; decide +kernel⟩,
   ⟨st id, q0, by dsimp only [Dev.hears, Dev.opened]; decide +kernel⟩,
   ⟨st (fun d => { d with sess := [(0, { bound := true })] }), q0, by dsimp only [Dev.hears, Dev.opened]; decide +kernel⟩,
   ⟨st id, by decide +kernel⟩,
   ⟨st (fun d => { d with transfers := [authTransfer] }), q0, lastSeg, authTransfer, by dsimp only [Dev.reaches, Dev.opened]; decide +kernel⟩,
   ⟨st id, by dsimp only [Dev.up]; decide +kernel⟩⟩

/-- The hypotheses of `SedimentRecords` are met, each clause's by a state of its own. -/
theorem witness_SedimentRecords :
    (∃ (s : State), (s.dev.alive = true) ∧ (s.dev.domOn 179 = true) ∧ (s.dev.stopped = false) ∧ (s.dev.aon / 32768 ≤ s.dev.sedTickAon / 32768)) ∧
    (∃ (s : State), (s.dev.alive = true) ∧ (s.dev.domOn 179 = true) ∧ (s.dev.stopped = false) ∧ (s.dev.sedTickAon / 32768 < s.dev.aon / 32768)) ∧
    (∃ (s : State), (s.dev.alive = true) ∧ (s.dev.domOn 179 = true) ∧ (s.dev.stopped = false) ∧ (s.dev.bit Obj.sedimentState 0 = true)) :=
  ⟨⟨st (fun d => { d with aon := 32767 }), by decide +kernel⟩,
   ⟨st (fun d => { d with aon := 32768, powerOn := 8 }), by decide +kernel⟩,
   ⟨st (fun d => { d.wr Obj.sedimentState 1 with commitBytes := [0, 0, 0, 0, 0, 0, 0, 0, 9], sedLive := { counts := [(64, 3)] }, sedShadow := { counts := [(68, 4)] } }), by decide +kernel⟩⟩

/-- The hypotheses of `StillFreezes` are met, each clause's by a state of its own. -/
theorem witness_StillFreezes :
    (∃ (s : State), (s.dev.alive = true) ∧ (s.dev.frozen = false) ∧ (s.dev.stopped = false)) ∧
    (∃ (s : State), (s.dev.alive = true) ∧ (s.dev.frozen = true)) ∧
    (∃ (s : State), (s.dev.alive = true) ∧ (s.dev.frozen = true) ∧ (s.dev.stillAck = false)) ∧
    (∃ (s : State), (s.dev.alive = true) ∧ (s.dev.frozen = true)) ∧
    (∃ (s : State), (s.dev.alive = true) ∧ (s.dev.frozen = true) ∧ (s.dev.stopped = false) ∧ ((∀ x ∈ s.dev.held, x.domain ≠ 181)) ∧ (s.dev.rimFrames = []) ∧ ((∀ x ∈ s.dev.transfers, ∀ c, x.q ≠ .can c)) ∧ ((∀ a ∈ s.dev.allocs, a.tag < 16 → 2 ≤ s.dev.rd (Obj.planState a.tag)))) ∧
    (∃ (s : State), (s.dev.alive = true) ∧ (s.dev.frozen = false) ∧ (s.dev.resumeF ≠ 0) ∧ (s.dev.bootWait = false) ∧ (s.dev.fusionRuns = false)) ∧
    (∃ (s : State), (s.dev.alive = true) ∧ (s.dev.bit Obj.securityState 9 = false)) ∧
    (∃ (s : State), (s.dev.alive = true) ∧ (s.dev.bit Obj.securityState 9 = true)) :=
  ⟨⟨st (fun d => { d.wr Obj.freezeControl 1 with f := 100 }), by decide +kernel⟩,
   ⟨st (fun d => { d with frozen := true, f := 60000000, freezeF := 100 }), by decide +kernel⟩,
   ⟨st (fun d => { d with frozen := true, f := 60000000, freezeF := 100 }), by decide +kernel⟩,
   ⟨st (fun d => { d with frozen := true, f := 60000000, freezeF := 100, held := [⟨100, 181, { q := q0, op := 1, idx := 0x3000, sub := 0, data := [] }⟩, ⟨10000001, 181, { q := q1, op := 1, idx := 0x3000, sub := 0, data := [] }⟩], rimFrames := [(100, .hotJoin 1)] }), by decide +kernel⟩,
   ⟨st (fun d => { d with frozen := true, f := 60000000, freezeF := 100 }), by decide +kernel⟩,
   ⟨st (fun d => { d.wr Obj.freezeState 2 with resumeF := 5, stillAck := true, f := 100, discarded := [{ q := q0, op := 1, idx := 0x3000, sub := 0, data := [] }] }), by decide +kernel⟩,
   ⟨st id, by decide +kernel⟩,
   ⟨st (fun d => d.setBit Obj.securityState 9 true), by decide +kernel⟩⟩

/-- The hypotheses of `NanosecondPasses` are met, each clause's by a state of its own. -/
theorem witness_NanosecondPasses :
    (∃ (s : State), (s.pending = [])) :=
  ⟨State.reset, by decide +kernel⟩

/-- The hypotheses of `MemoriesKeepTheirForm` are met, each clause's by a state of its own. -/
theorem witness_MemoriesKeepTheirForm :
    (∃ (s : State) (t : State), (s.memOk) ∧ (step s = .next t)) :=
  ⟨State.reset, _, by dsimp only [State.memOk]; decide +kernel, rfl⟩

/-- The hypotheses of `CommandsLeaveTheQueue` are met, each clause's by a state of its own. -/
theorem witness_CommandsLeaveTheQueue :
    (∃ (c : Instr) (s : State) (t : State), (exec c s = .next t)) :=
  ⟨.stillFreeze, State.reset, _, rfl⟩

/-- The hypotheses of `FreezeKeepsMemories` are met, each clause's by a state of its own. -/
theorem witness_FreezeKeepsMemories :
    (∃ (c : Instr) (s : State) (t : State), (s.dev.frozen = true) ∧ ((match c with | .powerOnReset .. | .lossOfSupplies | .warmReset .. | .stillResume | .reBasing => False | _ => True)) ∧ (exec c s = .next t)) :=
  ⟨.freezeAck, st (fun d => { d with frozen := true }), _, by decide +kernel, trivial, rfl⟩

end Sys2Proof.Tests
end

section
/-! The block as a whole: every command answers a next state, and none changes the queue of waiting commands. -/

namespace Sys2Proof.Machine

open Sys2Proof

/-- A step on a queue with a command in front runs that command on the queue's rest (R2). -/
theorem step_cons (c : Instr) (s : State) : step { s with pending := c :: s.pending } = exec c s := by
  unfold step
  rfl

theorem State.keeps_completionTimeout {s0 s : State} (r : HostReader) (h : s0.Keeps s) : s0.Keeps (s.completionTimeout r) := by
  unfold State.completionTimeout
  split
  · exact h
  · split
    · exact h
    · exact (State.keeps_dev s0 _ s).2 h

theorem State.lands_agentOp (s : State) (src : WeirSource) (w : Nat) (f : Weir → Weir) : s.Lands (s.agentOp src w f) := State.lands_run s _

theorem State.lands_domainAsked (s : State) (q : Requester) (n code : Nat) : s.Lands (s.domainAsked q n code) := State.lands_asked s _ _ _ _

theorem State.lands_windowFetch (s : State) (r : Request) : s.Lands (s.windowFetch r) :=
  State.lands_next (State.keeps_ite (State.keeps_doRequest r (.refl s)) (State.keeps_ite (.refl s) (.refl s)))

/-- A meaning that acts on a device that is powered and out of reset, and leaves any other alone. -/
theorem State.lands_alive {s t : State} (h : s.Keeps t) : s.Lands (.next (if s.dev.alive then t else s)) :=
  State.lands_next (State.keeps_ite h (.refl s))

/-- A request whose effect waits for the domains that it needs (R534). -/
theorem State.lands_request_reachAll (s : State) (r : Request) {f : State → State} (hf : ∀ u, s.Keeps u → s.Keeps (f u)) :
    s.Lands (s.request r (fun u => u.reachAll r (u.dev.needs r) f)) :=
  State.lands_request s r (fun u h => State.keeps_reachAll r (u.dev.needs r) f hf h)

theorem lands_execActionRecordWrite (path : RecordPath) (data : List Byte) (s : State) : s.Lands (execActionRecordWrite path data s) := by
  cases path with
  | window p w => exact State.lands_windowAsk s _
  | request q =>
    refine State.lands_request s _ (fun u h => State.keeps_ite ?_ h)
    exact State.keeps_reachAll _ _ (fun v => { v with dev := v.dev.weirActionDo q (bytesAt data 0 32) }) (fun _ hv => hv) h

theorem lands_execTenantHostKeysWrite (q : Requester) (x : PartitionWrite) (s : State) : s.Lands (execTenantHostKeysWrite q x s) := by
  unfold execTenantHostKeysWrite
  split
  · exact State.lands_askedBytes s _ _ _ (fun _ h => h)
  · exact State.lands_asked s _ _ _ _
  · exact State.lands_asked s _ _ _ _
  · exact State.lands_asked s _ _ _ _

theorem lands_execReadObj (q : Requester) (e : Envelope) (idx : BitVec 16) (sub : BitVec 8) (offset : Nat) (first last : Bool) (room : Nat) (s : State) :
    s.Lands (execReadObj q e idx sub offset first last room s) := by
  unfold execReadObj
  split
  · split
    · exact State.lands_run s _
    · exact State.lands_windowFetch s _
  · exact State.lands_carried s _ _

/-- Every next state that a command answers has the queue as it was, and memories in their form if they were: each command's meaning is one of the forms
that the lemmas `lands_…` speak of, around a function that the lemmas `keeps_…` speak of. -/
theorem exec_lands (c : Instr) (s : State) : s.Lands (exec c s) := by
  cases c <;> simp only [exec]
  case sleepEntryLatch | unbridgedDetect | tjReading | wakeInput | wakeStuck | railPowerGood | railTimeout | railReading | sedimentTick | commitComplete
      | stillFreeze | freezeAck | rimHoldExpiry => exact State.lands_act s _
  case voltageSettled | voltageTimeout | throttleStep | throttleReleaseStep | paceMeasureWindow | handshakeWatchdog | featureHoldExpiry | ferryStart |
      heldStartQueued | waitOn | planStopped | phaseTimeout | stallTimeout | linkKeySwitch | firstAccess | linkCrcError | laneRetrainEnd |
      faultDetection | faultHandle | recoveryComplete | handlingDeadline | pathRecalibrationEnd => exact State.lands_run s _
  case holdoverEntry | pllRelock | refclkComparison | tickSkip | triggerReconvert | triggerFire | triggerPulseEnd | captureTransition | captureStuck |
      captureFloodEnd | syncMark | syncAgeExpiry | linkActivity | identityRead | i3cTimeout | i3cInterrupt | hotJoin | autoRestart | linkLost |
      drainComplete | queueStall | hotWindowEnd | spillReadBack | gyroSample | queueExit | eddyEvent | sweepVisit | shoalInput | horizonWord | tickClose
      | horizonTimeout | tileIssue | sluiceWrite | sluiceRead | sluiceRelease | sluiceReplay | sluiceRewind | sluiceFlush | edcMismatch |
      channelRetrainEnd | channelFailure | gddr6TemperatureRead | linkTimingRetrain | spiFrameTrigger | spiFrameDone | canFrame | internalSample |
      gapFill | egoRecord | linkUp | announcement | lldpTransmit | canBusOffRecovery | recordForm | recordDeliver | batchTimeExpiry | consumerIndexPoll
      | consumerIndexReturn | trngHealthBlock => exact State.lands_runIn s _ _
  case rateAdjustWrite | disciplineModeWrite | paceCapWrite | voltageTargetWrite | confirm | streamStartCommand |
      streamStopCommand | rebind | hotListClearAuto | hotListClearAll | profileVersionWrite | marchDestructive | marchPreserving | weirBlockOwnerWrite |
      channelStart | channelStop | presetRequest | detach | channelOwnerWrite | enable | disable | ethConsumerIndexWrite | rollbackCommit |
      provisioningCommand | recordRekey | linkRekey | padRelease | dieRecover | slotRetest | alertClear | i3cStaticAddressWrite | capControlWrite |
      wakeControlWrite | channelPathWrite => exact State.lands_asked s _ _ _ _
  case domainOn | domainRetention | domainOff => exact State.lands_domainAsked s _ _ _
  case triggerArm | triggerDisarm =>
    dsimp only [execTriggerArm, execTriggerDisarm]
    exact State.lands_asked s _ _ _ _
  case planStart | planStop | planUnload => exact State.lands_planAsked s _ _ _
  case writeObj | writeIf | readRecord | describe | abortTransfer => exact State.lands_carried s _ _
  case powerOnReset => exact State.lands_next (State.keeps_powerOnReset _ _ _ _ (.refl s))
  case lossOfSupplies => exact State.lands_next (State.keeps_suppliesLost (.refl s))
  case warmReset => exact State.lands_alive (State.keeps_warmReset _ (.refl s))
  case reBasing => exact State.lands_alive (State.keeps_reBase (.refl s))
  case stillResume => exact State.lands_alive (State.keeps_stillResume (.refl s))
  case resumeComplete => exact State.lands_alive (State.keeps_resumeEnd (.refl s))
  case readoutData => exact State.lands_alive (State.keeps_readout _ (.refl s))
  case csi2Packet n k =>
    unfold execCsi2Packet
    dsimp only
    split
    · exact State.lands_next (.refl s)
    · exact State.lands_runIn s _ _
  case addWeir =>
    unfold execAddWeir
    split
    · exact State.lands_windowAsk s _
    · exact State.lands_weirOpAsk s _
    · exact State.lands_agentOp s _ _ _
  case armWeir =>
    unfold execArmWeir
    split
    · exact State.lands_windowAsk s _
    · exact State.lands_weirOpAsk s _
    · exact State.lands_run s _
  case disarmWeir =>
    unfold execDisarmWeir
    split
    · exact State.lands_windowAsk s _
    · exact State.lands_weirOpAsk s _
    · exact State.lands_agentOp s _ _ _
  case resetWeir =>
    unfold execResetWeir
    split
    · exact State.lands_windowAsk s _
    · exact State.lands_weirOpAsk s _
    · exact State.lands_agentOp s _ _ _
  case actionRecordWrite path data => exact lands_execActionRecordWrite path data s
  case readObj q e idx sub offset first last room => exact lands_execReadObj q e idx sub offset first last room s
  case tenantHostKeysWrite q x => exact lands_execTenantHostKeysWrite q x s
  case timeOffsetWrite => exact State.lands_askedM s _ _ _ (fun _ h => State.keeps_timeOffsetWrite _ _ h)
  case regionOwnerWrite => exact State.lands_askedM s _ _ _ (fun _ h => State.keeps_regionOwnerWrite _ _ _ h)
  case fusionStart | fusionStop => exact State.lands_askedM s _ _ _ (fun _ h => State.keeps_fusionCommandDo _ _ h)
  case clusterOwnerWrite => exact State.lands_askedM s _ _ _ (fun _ h => State.keeps_clusterOwnerWrite _ _ _ h)
  case servoMeasurement => exact State.lands_runInM s _ (fun _ h => State.keeps_servo _ _ _ h)
  case tileDrain => exact State.lands_runInM s _ (fun _ h => State.keeps_tileDrain _ _ _ _ h)
  case scratchpadRead => exact State.lands_runInM s _ (fun _ h => State.keeps_padAccess _ _ _ _ _ _ _ _ h)
  case marchPassEnd => exact State.lands_runInM s _ (fun _ h => State.keeps_marchEnd _ _ h)
  case gddr6Read => exact State.lands_runInM s _ (fun _ h => State.keeps_blockRead _ _ _ h)
  case scrubPass => exact State.lands_runInM s _ (fun _ h => State.keeps_scrubPass _ h)
  case splatInput => exact State.lands_runInM s _ (fun _ h => State.keeps_confWord _ _ (fun _ _ k => State.keeps_splatInput _ k) h)
  case spikeWord => exact State.lands_runInM s _ (fun _ h => State.keeps_popWord _ _ (fun _ _ _ k => k) h)
  case tickWord => exact State.lands_runInM s _ (fun _ h => State.keeps_popWord _ _ (fun _ _ _ k => State.keeps_releaseSpikes _ _ k) h)
  case deliveryRead => exact State.lands_runInM s _ (fun _ h => State.keeps_deliveryRead _ _ h)
  case instantClose => exact State.lands_runInM s _ (fun _ h => State.keeps_instantClose h)
  case instantDrainEnd => exact State.lands_runInM s _ (fun _ h => State.keeps_drainEnd _ h)
  case featureConversionEnd => exact State.lands_runInM s _ (fun _ h => State.keeps_convertEnd h)
  case linkDown => exact State.lands_runInM s _ (fun _ h => State.keeps_linkDown _ _ h)
  case capPop => exact State.lands_request s _ (fun _ h => State.keeps_ite h h)
  case attestReportRead => exact State.lands_request s _ (fun _ h => h)
  case planImageWrite => exact State.lands_request_reachAll s _ (fun _ h => State.keeps_planSegment _ _ h)
  case calibrationImageWrite => exact State.lands_request_reachAll s _ (fun _ h => State.keeps_calSegment _ _ h)
  case ptpEventMessage => exact State.lands_unheld s (fun _ h => State.keeps_ite h h)
  case lldpReceive => exact State.lands_unheld s (fun _ h => h)
  case flowDatagram => exact State.lands_framed s _ (fun _ h => State.keeps_ite h h)
  case reedbedDatagram | heartbeat | hello | finish => exact State.lands_framed s _ (fun _ h => h)
  case gridImageWrite => exact State.lands_askedSegment s _ _ _ (fun _ _ h => State.keeps_gridSegment _ _ h)
  case recoveryImageWrite => exact State.lands_askedSegment s _ _ _ (fun _ _ h => State.keeps_recoverySegment _ h)
  case debugAuthorisation => exact State.lands_askedSegment s _ _ _ (fun _ _ h => State.keeps_debugSegment _ h)
  case buildWord => exact State.lands_runM s (fun _ h => State.keeps_buildWord _ h)
  case buildTimeout => exact State.lands_runM s (fun _ h => State.keeps_buildTimeout _ h)
  case buildCountCopy => exact State.lands_runM s (fun _ h => State.keeps_buildCount _ h)
  case descriptorRun => exact State.lands_runM s (fun _ h => State.keeps_descriptorRun _ _ _ _ _ h)
  case phaseStart => exact State.lands_runM s (fun _ h => State.keeps_phaseStart _ h)
  case detachComplete | heartbeatMiss | transferIdleTimeout => exact State.lands_runM s (fun _ h => State.keeps_loadsAborted h)
  case tenantHoldExpiry => exact State.lands_runM s (fun _ h => State.keeps_holdExpiry _ h)
  case entryComplete => exact State.lands_runM s (fun _ h => State.keeps_entryEnd _ h)
  case iod0BaseOff => exact State.lands_runM s (fun _ h => State.keeps_baseDown h)
  case wakeComplete => exact State.lands_runM s (fun _ h => State.keeps_wakeEnd _ _ _ h)
  case completionTimeout => exact State.lands_runM s (fun _ h => State.keeps_completionTimeout _ h)

/-- Every form that a command's meaning takes answers a next state, whether its guard holds or not (log 2); where an operand chooses between two forms,
either does. -/
theorem exec_completes (c : Instr) (s : State) : ∃ t, exec c s = .next t := by
  cases c <;> simp only [exec]
  case addWeir src _ _ _ | armWeir src _ _ | disarmWeir src _ | resetWeir src _ => cases src <;> exact ⟨_, rfl⟩
  case actionRecordWrite path _ => cases path <;> exact ⟨_, rfl⟩
  case tenantHostKeysWrite _ x => cases x <;> exact ⟨_, rfl⟩
  case csi2Packet n k =>
    unfold execCsi2Packet
    dsimp only
    split <;> exact ⟨_, rfl⟩
  case readObj q e _ _ _ _ _ _ =>
    unfold execReadObj
    split
    · split <;> exact ⟨_, rfl⟩
    · exact ⟨_, rfl⟩
  all_goals exact ⟨_, rfl⟩

/-- Settles O54: the queue's front is taken by the definition of a step. -/
theorem stepTakesFront : Obligations.StepTakesFront := step_cons

/-- Settles O58: the queue's part of what every command keeps. -/
theorem commandsLeaveTheQueue : Obligations.CommandsLeaveTheQueue := fun c s t h => (exec_lands c s t h).1

/-- Settles O59: every form that a meaning takes answers a next state. -/
theorem everyCommandCompletes : Obligations.EveryCommandCompletes := exec_completes

end Sys2Proof.Machine
end

section
/-! Writing an action record (R345, R347 to R349). -/

namespace Sys2Proof.Machine

open Sys2Proof

/-! ### Bytes and answers -/

/-- A string of `n` bytes, cut to `n` bytes. -/
theorem bytesAt_of_length {bs : List Byte} {n : Nat} (h : bs.length = n) : bytesAt bs 0 n = bs := by
  simp [bytesAt, zeros, ← h]

theorem eq_zeros_of_all_zero {bs : List Byte} (h : bs.all (· == 0) = true) : bs = zeros bs.length := by
  refine List.eq_replicate_of_mem (fun b hb => ?_)
  simpa using List.all_eq_true.mp h b hb

theorem Dev.told_replyStatus (s : Dev) (q : Requester) (st : Status) : (s.replyStatus q st).told q st := Dev.response_answer s q st _

theorem Dev.rd_replyStatus (s : Dev) (q : Requester) (st : Status) {r : Reg} (h : r.key / 256 ≠ 0x1110) : (s.replyStatus q st).rd r = s.rd r :=
  Dev.rd_answer s q st _ h

/-! ### Weirs -/

@[simp] theorem Dev.weir_replyStatus (s : Dev) (q : Requester) (st : Status) (w : Nat) : (s.replyStatus q st).weir w = s.weir w := by
  simp [Dev.replyStatus, Dev.weir]

@[simp] theorem Dev.weir_updWeir_same (s : Dev) (w : Nat) (f : Weir → Weir) : (s.updWeir w f).weir w = f (s.weir w) := Tab.get_upd_same ..

theorem Dev.weir_updWeir_other (s : Dev) {u w : Nat} (f : Weir → Weir) (h : u ≠ w) : (s.updWeir w f).weir u = s.weir u := Tab.get_upd_other _ _ h

@[simp] theorem Dev.rd_updWeir (s : Dev) (w : Nat) (f : Weir → Weir) (r : Reg) : (s.updWeir w f).rd r = s.rd r := rfl

/-- A record of 32 bytes reads back as it was written, whether it is held or is the record at rest. -/
theorem actionBytes_actionHeld {data : List Byte} (h : data.length = 32) (x : Weir) : ({ x with action := actionHeld data } : Weir).actionBytes = data := by
  unfold Weir.actionBytes actionHeld
  split
  · next hz =>
    rw [eq_zeros_of_all_zero hz, h]
    rfl
  · rw [bytesAt_of_length h, bytesAt_of_length h]

/-- A write of an action record meets a die that takes operations and comes from the weir's owner or the custodian (R349): its effect, by the record and
by whether the weir is armed. -/
theorem Dev.actionWrite_eq {s : Dev} {src : WeirSource} {w : Nat} (data : List Byte) (hd : s.dieOut (w / 4096) = false) (hm : s.mayOperate src w = true) :
    s.actionWrite src w data =
      if actionOk data = false then (s.weirRefuse w, .range)
      else if (s.weir w).armed then (s.weirRefuse w, .state)
      else (s.updWeir w (fun x => { x with action := actionHeld data }), .ok) := by
  simp [Dev.actionWrite, hd, hm]

/-- The domain of the selected weir's die is what a write of WeirAction needs (R535). -/
theorem Dev.needs_weirAction (s : Dev) (q : Requester) (data : List Byte) :
    s.needs { q := q, op := 2, idx := 0x6813, sub := 0, data := data } = [132 + (s.session (sessOf q)).weirSelect / 4096] := by
  simp [Dev.needs, windowOp, windowReadOp]

/-- A write of WeirAction that passes the checks of R469, its weir's domain on, has its effect. -/
theorem execActionRecordWrite_request {s : State} {q : Requester} {data : List Byte} (hl : data.length = 32) (ho : s.dev.opened)
    (hj : s.dev.judgeWrite q 2 0x6813 0 data = .ok) (hn : s.dev.domOn (132 + (s.dev.session (sessOf q)).weirSelect / 4096) = true) :
    execActionRecordWrite (.request q) data s = .next { s with dev := s.dev.fresh.weirActionDo q data } := by
  simp only [execActionRecordWrite, bytesAt_of_length hl]
  rw [State.request_opened _ _ ho]
  dsimp only [State.start]
  rw [Dev.judgeWrite_fresh, if_pos hj, State.reachAll_on]
  rw [Dev.needs_fresh, Dev.needs_weirAction]
  exact List.forall_mem_singleton.mpr hn

/-- What a write of WeirAction that is answered with `st` leaves, the device as it was but for the selected weir. -/
theorem Dev.weirAnswered {s : Dev} {q : Requester} {w : Nat} (st : Status) (f : Weir → Weir) :
    ((s.fresh.updWeir w f).replyStatus q st).told q st ∧ ((s.fresh.updWeir w f).replyStatus q st).weir w = f (s.weir w) ∧
    (∀ u, u ≠ w → ((s.fresh.updWeir w f).replyStatus q st).weir u = s.weir u) ∧ s.regsKeptAnswered ((s.fresh.updWeir w f).replyStatus q st) [] := by
  refine ⟨Dev.told_replyStatus _ _ _, ?_, fun u hu => ?_, fun r hr _ => Dev.rd_replyStatus _ _ _ hr⟩
  · rw [Dev.weir_replyStatus, Dev.weir_updWeir_same]
    rfl
  · rw [Dev.weir_replyStatus, Dev.weir_updWeir_other _ _ hu]
    rfl

/-- Settles O18: by the three branches of a record's write, each an answer beside a change of the selected weir. -/
theorem actionRecords : Obligations.ActionRecords := by
  unfold Obligations.ActionRecords
  intro s q data w hl _ ho hj hn hd hm
  have hx := execActionRecordWrite_request hl ho hj hn
  have hw : s.dev.fresh.weirActionDo q data = ((s.dev.fresh.actionWrite (.request q) w data).1).replyStatus q (s.dev.fresh.actionWrite (.request q) w data).2 :=
    rfl
  have ha : s.dev.fresh.actionWrite (.request q) w data = _ := Dev.actionWrite_eq data hd hm
  rw [hw, ha] at hx
  refine ⟨fun hk => ⟨_, hx, ?_⟩, fun hk hu => ⟨_, hx, ?_⟩, fun hk hu => ⟨_, hx, ?_⟩⟩
  · rw [if_pos hk]
    obtain ⟨h1, h2, h3, h4⟩ := Dev.weirAnswered (s := s.dev) (q := q) (w := w) .range (fun x => { x with refusals := satAdd 16 x.refusals 1 })
    exact ⟨h1, h2, h3, h4, rfl, rfl⟩
  · have hu' : (s.dev.fresh.weir w).armed = false := hu
    simp only [hk, hu', Bool.true_eq_false, Bool.false_eq_true, if_false]
    obtain ⟨h1, h2, h3, h4⟩ := Dev.weirAnswered (s := s.dev) (q := q) (w := w) .ok (fun x => { x with action := actionHeld data })
    refine ⟨h1, ?_, ?_, h3, h4, rfl, rfl⟩
    · rw [h2]
      exact actionBytes_actionHeld hl _
    · rw [h2]
  · have hu' : (s.dev.fresh.weir w).armed = true := hu
    simp only [hk, hu', Bool.true_eq_false, if_false, if_true]
    obtain ⟨h1, h2, h3, h4⟩ := Dev.weirAnswered (s := s.dev) (q := q) (w := w) .state (fun x => { x with refusals := satAdd 16 x.refusals 1 })
    exact ⟨h1, h2, h3, h4, rfl, rfl⟩

end Sys2Proof.Machine
end

section
/-! The governors of the compute dies (R57 to R68): what each operation on one leaves, by its fields of PaceStatus, by its other registers and by the
governor's own record. -/

namespace Sys2Proof.Machine

open Sys2Proof

/-! ### Registers that a chain of updates leaves alone -/

section
variable {s t : Dev} {ks : List Nat}

theorem Dev.regsKept.refl (s : Dev) (ks : List Nat) : s.regsKept s ks := fun _ _ => rfl

theorem Dev.regsKept.wr (h : s.regsKept t ks) {r : Reg} (v : Nat) (hr : r.key ∈ ks) : s.regsKept (t.wr r v) ks := by
  intro r' hr'
  have hne : r'.key ≠ r.key := fun e => hr' (e ▸ hr)
  rw [Dev.rd_wr_other t v hne, h r' hr']

theorem Dev.regsKept.setF (h : s.regsKept t ks) {r : Reg} (lo w v : Nat) (hr : r.key ∈ ks) : s.regsKept (t.setF r lo w v) ks := h.wr _ hr

theorem Dev.regsKept.setBit (h : s.regsKept t ks) {r : Reg} (i : Nat) (b : Bool) (hr : r.key ∈ ks) : s.regsKept (t.setBit r i b) ks := h.wr _ hr

theorem Dev.regsKept.bump (h : s.regsKept t ks) {r : Reg} (hr : r.key ∈ ks) : s.regsKept (t.bump r) ks := h.wr _ hr

theorem Dev.regsKept.updPace (h : s.regsKept t ks) (d : Nat) (f : Pace → Pace) : s.regsKept (t.updPace d f) ks := fun r hr => h r hr

theorem Dev.regsKept.emit (h : s.regsKept t ks) (o : Out) : s.regsKept (t.emit o) ks := h

theorem Dev.regsKept.accept (h : s.regsKept t ks) (q : Requester) : s.regsKeptAnswered (t.accept q) ks :=
  fun r hr hk => (Dev.rd_accept t q hr).trans (h r hk)

theorem Dev.regsKept.refuse (h : s.regsKept t ks) (q : Requester) (st : Status) : s.regsKeptAnswered (t.refuse q st) ks :=
  fun r hr hk => (Dev.rd_refuse t q st hr).trans (h r hk)

end

/-! ### Updates of registers alone -/

/-- From `s` to `t` nothing but registers changes. -/
def Dev.regsOnly (s t : Dev) : Prop := ∃ D, t = { s with dict := D }

section
variable {s t : Dev}

theorem Dev.regsOnly.refl (s : Dev) : s.regsOnly s := ⟨s.dict, rfl⟩

theorem Dev.regsOnly.wr (h : s.regsOnly t) (r : Reg) (v : Nat) : s.regsOnly (t.wr r v) := by
  obtain ⟨D, rfl⟩ := h
  exact ⟨_, rfl⟩

theorem Dev.regsOnly.setF (h : s.regsOnly t) (r : Reg) (lo w v : Nat) : s.regsOnly (t.setF r lo w v) := h.wr r _

theorem Dev.regsOnly.setBit (h : s.regsOnly t) (r : Reg) (i : Nat) (b : Bool) : s.regsOnly (t.setBit r i b) := h.wr r _

end

/-! ### The fields of PaceStatus -/

theorem Dev.throttled_eq_getF (s : Dev) (d : Nat) : s.throttled d = (s.getF (Obj.paceStatus d) 19 1 == 1) := rfl

section
variable (s : Dev) (d : Nat)

theorem Dev.status_setF_same {lo w : Nat} (v : Nat) (h : lo + w ≤ 32) :
    (s.setF (Obj.paceStatus d) lo w v).getF (Obj.paceStatus d) lo w = v % 2 ^ w := s.getF_setF_same _ v h

theorem Dev.status_setF_other {lo w lo' w' : Nat} (v : Nat) (h : lo' + w' ≤ lo ∨ lo + w ≤ lo') (hb : lo' + w' ≤ 32) :
    (s.setF (Obj.paceStatus d) lo w v).getF (Obj.paceStatus d) lo' w' = s.getF (Obj.paceStatus d) lo' w' := s.getF_setF_other _ v h hb

theorem Dev.status_setBit_other {i lo w : Nat} (b : Bool) (h : lo + w ≤ i ∨ i < lo) (hb : lo + w ≤ 32) :
    (s.setBit (Obj.paceStatus d) i b).getF (Obj.paceStatus d) lo w = s.getF (Obj.paceStatus d) lo w := s.getF_setBit_other _ b h hb

@[simp] theorem Dev.getF_updPace (k : Nat) (f : Pace → Pace) (r : Reg) (lo w : Nat) : (s.updPace k f).getF r lo w = s.getF r lo w := Dev.getF_eq _ _ _ _ _ rfl

@[simp] theorem Dev.getF_emit (o : Out) (r : Reg) (lo w : Nat) : (s.emit o).getF r lo w = s.getF r lo w := Dev.getF_eq _ _ _ _ _ rfl

@[simp] theorem Dev.getF_fresh (r : Reg) (lo w : Nat) : s.fresh.getF r lo w = s.getF r lo w := Dev.getF_eq _ _ _ _ _ rfl

theorem Dev.status_wr_paceCap (v lo w : Nat) : (s.wr (Obj.paceCap d) v).getF (Obj.paceStatus d) lo w = s.getF (Obj.paceStatus d) lo w :=
  s.getF_wr_other v lo w (by simp only [Obj.paceStatus, Obj.paceCap, Reg.at_key]; omega)

theorem Dev.status_accept {d : Nat} (hd : d < 4) (q : Requester) (lo w : Nat) :
    (s.accept q).getF (Obj.paceStatus d) lo w = s.getF (Obj.paceStatus d) lo w :=
  Dev.getF_eq _ _ _ lo w (s.rd_accept q (by simp only [Obj.paceStatus, Reg.at_key]; omega))

theorem Dev.status_refuse {d : Nat} (hd : d < 4) (q : Requester) (st : Status) (lo w : Nat) :
    (s.refuse q st).getF (Obj.paceStatus d) lo w = s.getF (Obj.paceStatus d) lo w :=
  Dev.getF_eq _ _ _ lo w (s.rd_refuse q st (by simp only [Obj.paceStatus, Reg.at_key]; omega))

end

/-! ### The governor's record -/

section
variable (s : Dev) (d : Nat)

@[simp] theorem Dev.pace_updPace (f : Pace → Pace) : (s.updPace d f).pace d = f (s.pace d) := Tab.get_upd_same ..

@[simp] theorem Dev.pace_setF (r : Reg) (lo w v k : Nat) : (s.setF r lo w v).pace k = s.pace k := by simp [Dev.pace]

@[simp] theorem Dev.pace_wr (r : Reg) (v k : Nat) : (s.wr r v).pace k = s.pace k := by simp [Dev.pace]

@[simp] theorem Dev.pace_emit (o : Out) (k : Nat) : (s.emit o).pace k = s.pace k := by simp [Dev.pace]

@[simp] theorem Dev.pace_fresh (k : Nat) : s.fresh.pace k = s.pace k := by simp [Dev.pace]

@[simp] theorem Dev.pace_accept (q : Requester) (k : Nat) : (s.accept q).pace k = s.pace k := by simp [Dev.pace]

@[simp] theorem Dev.rd_updPace (k : Nat) (f : Pace → Pace) (r : Reg) : (s.updPace k f).rd r = s.rd r := rfl

end

/-! ### What PaceStatus and PaceCap are made to show -/

section
variable (s : Dev) (d : Nat)

/-- What showing a governor's state does: PaceCap and CapPending are written, and after the die's first reading SupportedCode and CapUnsupported. -/
theorem Dev.paceShow_cases : ∃ v p, v = (if (s.pace d).pending ≠ 0 then (s.pace d).pending else (s.pace d).code) ∧
    (s.paceShow d = (s.wr (Obj.paceCap d) v).setBit (Obj.paceStatus d) 18 p ∨
      ∃ n u, s.paceShow d =
        (((s.wr (Obj.paceCap d) v).setBit (Obj.paceStatus d) 18 p).setF (Obj.paceStatus d) 8 8 n).setBit (Obj.paceStatus d) 20 u) := by
  refine ⟨_, decide ((s.pace d).pending ≠ 0) || (s.pace d).waiting.any (fun r => r.idx == 0x2800), rfl, ?_⟩
  unfold Dev.paceShow
  extract_lets x s1 s2 n
  by_cases h : s2.tjSeen d = true
  · rw [if_pos h]
    exact .inr ⟨_, _, rfl⟩
  · rw [if_neg h]
    exact .inl rfl

/-- Showing the governor's state changes registers alone. -/
theorem Dev.regsOnly_paceShow : s.regsOnly (s.paceShow d) := by
  obtain ⟨v, p, -, h | ⟨n, u, h⟩⟩ := s.paceShow_cases d <;> rw [h]
  · exact ((Dev.regsOnly.refl s).wr _ v).setBit _ _ p
  · exact ((((Dev.regsOnly.refl s).wr _ v).setBit _ _ p).setF _ _ _ n).setBit _ _ u

@[simp] theorem Dev.paceShow_out : (s.paceShow d).out = s.out := by
  obtain ⟨D, h⟩ := s.regsOnly_paceShow d
  rw [h]

@[simp] theorem Dev.paceShow_paces : (s.paceShow d).paces = s.paces := by
  obtain ⟨D, h⟩ := s.regsOnly_paceShow d
  rw [h]

@[simp] theorem Dev.pace_paceShow (k : Nat) : (s.paceShow d).pace k = s.pace k := by simp [Dev.pace]

/-- Every field of PaceStatus but SupportedCode (8 to 15), CapPending (18) and CapUnsupported (20) stands (R66). -/
theorem Dev.status_paceShow {lo w : Nat} (h8 : lo + w ≤ 8 ∨ 16 ≤ lo) (h18 : lo + w ≤ 18 ∨ 18 < lo) (h20 : lo + w ≤ 20 ∨ 20 < lo) (hb : lo + w ≤ 32) :
    (s.paceShow d).getF (Obj.paceStatus d) lo w = s.getF (Obj.paceStatus d) lo w := by
  obtain ⟨v, p, -, h | ⟨n, u, h⟩⟩ := s.paceShow_cases d
  · rw [h, Dev.status_setBit_other _ _ _ h18 hb, Dev.status_wr_paceCap]
  · rw [h, Dev.status_setBit_other _ _ _ h20 hb, Dev.status_setF_other _ _ _ h8 hb, Dev.status_setBit_other _ _ _ h18 hb, Dev.status_wr_paceCap]

/-- PaceCap shows the pending code, or else the last code accepted (R64). -/
theorem Dev.rd_paceCap_paceShow :
    (s.paceShow d).rd (Obj.paceCap d) = (if (s.pace d).pending ≠ 0 then (s.pace d).pending else (s.pace d).code) % 256 := by
  have hne : (Obj.paceCap d).key ≠ (Obj.paceStatus d).key := by simp only [Obj.paceStatus, Obj.paceCap, Reg.at_key]; omega
  obtain ⟨v, p, rfl, h | ⟨n, u, h⟩⟩ := s.paceShow_cases d
  · rw [h, Dev.rd_setBit_other _ _ _ hne, Dev.rd_wr_same]
    rfl
  · rw [h, Dev.rd_setBit_other _ _ _ hne, Dev.rd_setF_other _ _ _ _ hne, Dev.rd_setBit_other _ _ _ hne, Dev.rd_wr_same]
    rfl

end

theorem Dev.regsKept.paceShow {s t : Dev} {ks : List Nat} (h : s.regsKept t ks) {d : Nat} (hs : (Obj.paceStatus d).key ∈ ks)
    (hc : (Obj.paceCap d).key ∈ ks) : s.regsKept (t.paceShow d) ks := by
  obtain ⟨v, p, -, e | ⟨n, u, e⟩⟩ := t.paceShow_cases d <;> rw [e]
  · exact (h.wr _ hc).setBit _ _ hs
  · exact (((h.wr _ hc).setBit _ _ hs).setF _ _ _ hs).setBit _ _ hs

theorem Dev.regsKept.paceResult {s t : Dev} {ks : List Nat} (h : s.regsKept t ks) {d : Nat} (code : Nat) (hs : (Obj.paceStatus d).key ∈ ks) :
    s.regsKept (t.paceResult d code) ks := h.setF _ _ _ hs

/-! ### A cap taken -/

section
variable (s : Dev) (d c : Nat)

@[simp] theorem Dev.throttled_updPace (k : Nat) (f : Pace → Pace) : (s.updPace k f).throttled d = s.throttled d := Dev.bit_eq _ _ _ _ rfl

@[simp] theorem Dev.pace_paceResult (k : Nat) : (s.paceResult d c).pace k = s.pace k := by simp [Dev.paceResult]

theorem Dev.capTake_throttled (h : s.throttled d = true) : s.capTake d c = s.updPace d (fun x => { x with code := c, pending := 0 }) := by
  simp [Dev.capTake, h]

theorem Dev.capTake_unthrottled (h : s.throttled d = false) :
    s.capTake d c = (s.updPace d (fun x => { x with code := c, pending := 0 })).setF (Obj.paceStatus d) 0 8 c := by
  simp [Dev.capTake, h]

@[simp] theorem Dev.pace_capTake : (s.capTake d c).pace d = { s.pace d with code := c, pending := 0 } := by
  cases h : s.throttled d
  · simp [s.capTake_unthrottled d c h]
  · simp [s.capTake_throttled d c h]

theorem Dev.status_capTake {lo w : Nat} (h8 : 8 ≤ lo) (hb : lo + w ≤ 32) :
    (s.capTake d c).getF (Obj.paceStatus d) lo w = s.getF (Obj.paceStatus d) lo w := by
  cases h : s.throttled d
  · rw [s.capTake_unthrottled d c h, Dev.status_setF_other _ _ _ (.inr h8) hb, Dev.getF_updPace]
  · rw [s.capTake_throttled d c h, Dev.getF_updPace]

end

theorem Dev.regsKept.capTake {s t : Dev} {ks : List Nat} (h : s.regsKept t ks) {d : Nat} (c : Nat) (hs : (Obj.paceStatus d).key ∈ ks) :
    s.regsKept (t.capTake d c) ks := by
  cases ht : t.throttled d
  · rw [t.capTake_unthrottled d c ht]
    exact (h.updPace d _).setF _ _ _ hs
  · rw [t.capTake_throttled d c ht]
    exact h.updPace d _

end Sys2Proof.Machine
end

section
/-! Writes of PaceCap and VoltageTarget (R61 to R64). -/

namespace Sys2Proof.Machine

open Sys2Proof

/-! ### What a command starts from -/

section
variable (s : Dev) (d : Nat)

@[simp] theorem Dev.rdI_fresh (r : Reg) : s.fresh.rdI r = s.rdI r := by simp [Dev.rdI]

@[simp] theorem Dev.tjSeen_fresh : s.fresh.tjSeen d = s.tjSeen d := by simp [Dev.tjSeen]

@[simp] theorem Dev.coreOff_fresh : s.fresh.coreOff d = s.coreOff d := by simp [Dev.coreOff]

@[simp] theorem Dev.throttled_fresh : s.fresh.throttled d = s.throttled d := by simp [Dev.throttled_eq_getF]

@[simp] theorem Dev.capNow_fresh : s.fresh.capNow d = s.capNow d := by simp [Dev.capNow]

@[simp] theorem Dev.supportedAt_fresh (mv : Nat) : s.fresh.supportedAt d mv = s.supportedAt d mv := by simp [Dev.supportedAt]

@[simp] theorem Dev.presentVolt_fresh : s.fresh.presentVolt d = s.presentVolt d := by simp [Dev.presentVolt]

@[simp] theorem Dev.presentCap_fresh : s.fresh.presentCap d = s.presentCap d := by simp [Dev.presentCap]

@[simp] theorem Dev.rf_fresh : s.fresh.rf = s.rf := rfl

@[simp] theorem Dev.win_fresh (len : Nat) : s.fresh.win len = s.win len := rfl

end

theorem Dev.regsKept_fresh (s : Dev) (ks : List Nat) : s.regsKept s.fresh ks := fun r _ => s.rd_fresh r

/-! ### A cap -/

section
variable {s : Dev} {d v : Nat} (hd : d < 4) (q : Requester)

/-- The cap in force after a cap is taken: the cap itself, but on a throttled die the cap that was in force (R67). -/
theorem Dev.capNow_capTake (hv : v < 256) : (s.capTake d v).capNow d = if s.throttled d then s.capNow d else v := by
  cases h : s.throttled d
  · simp only [s.capTake_unthrottled d v h, Dev.capNow]
    rw [Dev.status_setF_same _ _ _ (by omega)]
    simpa using Nat.mod_eq_of_lt hv
  · simp [s.capTake_throttled d v h, Dev.capNow]

theorem Dev.capJudge_supported (h : v ≤ s.supportedAt d (s.presentVolt d)) :
    s.capJudge q d v = (((s.capTake d v).paceResult d 0).paceShow d).accept q := if_pos h

theorem Dev.capJudge_unsupported (h : s.supportedAt d (s.presentVolt d) < v) (hr : s.getF (Obj.paceStatus d) 16 2 ≠ 1) :
    s.capJudge q d v = (s.paceResult d 0x11).refuse q .state := by
  rw [Dev.capJudge, if_neg (by omega), if_neg (fun e => hr e.1)]

include hd

/-- A supported cap is taken, shown and put in force (R62 to R64). -/
theorem Dev.capJudge_taken (hv : v < 256) (h : v ≤ s.supportedAt d (s.presentVolt d)) :
    (s.capJudge q d v).rd (Obj.paceCap d) = v ∧ (s.capJudge q d v).getF (Obj.paceStatus d) 24 8 = 0 ∧ ((s.capJudge q d v).pace d).code = v ∧
    (s.capJudge q d v).capNow d = if s.throttled d then s.capNow d else v := by
  rw [Dev.capJudge_supported q h]
  refine ⟨?_, ?_, by simp, ?_⟩
  · rw [Dev.rd_accept _ _ (by simp only [Obj.paceCap, Reg.at_key]; omega), Dev.rd_paceCap_paceShow]
    simpa using Nat.mod_eq_of_lt hv
  · simp (disch := omega) [Dev.status_accept _ hd, Dev.status_paceShow, Dev.paceResult, Dev.status_setF_same]
  · rw [← Dev.capNow_capTake hv]
    simp (disch := omega) only [Dev.capNow, Dev.status_accept _ hd, Dev.status_paceShow, Dev.paceResult, Dev.status_setF_other]

/-- A refused write leaves its result code in PaceStatus and the cap in force as it was (R64). -/
theorem Dev.paceRefused (code : Nat) (hc : code < 256) :
    ((s.paceResult d code).refuse q .state).getF (Obj.paceStatus d) 24 8 = code ∧
    ((s.paceResult d code).refuse q .state).capNow d = s.capNow d := by
  simp (disch := omega) only [Dev.capNow, Dev.status_refuse _ hd, Dev.paceResult, Dev.status_setF_same, Dev.status_setF_other, and_true]
  exact Nat.mod_eq_of_lt hc

end

/-! ### A voltage -/

section
variable {s : Dev} {d v : Nat} (q : Requester)

theorem Dev.voltJudge_changing (h : (s.pace d).changeF ≠ 0) : s.voltJudge q d v = (s.paceResult d 0x12).refuse q .state := if_pos h

theorem Dev.voltJudge_repeat (h : (s.pace d).changeF = 0) (hv : s.rd (Obj.voltageTarget d) = v) : s.voltJudge q d v = s.accept q := by
  rw [Dev.voltJudge, if_neg (not_not.mpr h), if_pos hv.symm]

theorem Dev.voltJudge_unsupported (h : (s.pace d).changeF = 0) (hv : s.rd (Obj.voltageTarget d) ≠ v) (hl : v < s.presentVolt d)
    (hs : s.supportedAt d v < s.presentCap d) : s.voltJudge q d v = (s.paceResult d 0x10).refuse q .state := by
  rw [Dev.voltJudge, if_neg (not_not.mpr h), if_neg hv.symm, if_pos ⟨hl, hs⟩]

theorem Dev.voltJudge_supported (h : (s.pace d).changeF = 0) (hv : s.rd (Obj.voltageTarget d) ≠ v)
    (hs : s.presentVolt d ≤ v ∨ s.presentCap d ≤ s.supportedAt d v) (hc : s.coreOff d = false) :
    s.voltJudge q d v = (((s.voltStart d v).updPace d (fun x => { x with asked := true })).paceResult d 0x02).accept q := by
  rw [Dev.voltJudge, if_neg (not_not.mpr h), if_neg hv.symm, if_neg (by omega), if_neg (by simp [hc])]

end

section
variable (s : Dev) (d v : Nat)

/-- What a start of a change shows: the target, the direction, the command to the rail, and when it began (R63). -/
theorem Dev.voltStart_shows (hv : v < 65536) :
    .avs d v ∈ (s.voltStart d v).out ∧ (s.voltStart d v).rd (Obj.voltageTarget d) = v ∧
    (s.voltStart d v).getF (Obj.paceStatus d) 16 2 = (if v < (s.pace d).volt then 2 else 1) ∧ ((s.voltStart d v).pace d).changeF = s.rf + 1 := by
  have hc : (Obj.voltageTarget d).key ∉ [(Obj.paceCap d).key, (Obj.paceStatus d).key] := by
    simp only [Obj.voltageTarget, Obj.paceCap, Obj.paceStatus, Reg.at_key, List.mem_cons, List.not_mem_nil, or_false]
    omega
  refine ⟨by simp [Dev.voltStart], ?_, ?_, by simp [Dev.voltStart]⟩
  · unfold Dev.voltStart
    dsimp only
    rw [((((Dev.regsKept.refl _ _).setF _ _ _ (by simp)).emit _).paceShow (by simp) (by simp)) _ hc, Dev.rd_wr_same]
    exact Nat.mod_eq_of_lt hv
  · simp (disch := omega) only [Dev.voltStart, Dev.status_paceShow, Dev.getF_emit, Dev.status_setF_same]
    by_cases h : v < (s.pace d).volt <;> simp [h]

end

theorem Dev.regsKept.voltStart {s t : Dev} {ks : List Nat} (h : s.regsKept t ks) {d : Nat} (v : Nat) (ht : (Obj.voltageTarget d).key ∈ ks)
    (hs : (Obj.paceStatus d).key ∈ ks) (hc : (Obj.paceCap d).key ∈ ks) : s.regsKept (t.voltStart d v) ks :=
  ((((h.updPace d _).wr v ht).setF _ _ _ hs).emit _).paceShow hs hc

end Sys2Proof.Machine
end

section
/-! Voltage changes that end, the throttle and the measured pace (R60, R65, R67). -/

namespace Sys2Proof.Machine

open Sys2Proof

/-! ### The end of a voltage change -/

section
variable {s : Dev} {d : Nat}

/-- A change that has settled in time: its target is the rail's voltage, and its pending cap applies (R65). -/
theorem Dev.voltSettled_inTime (h : (s.pace d).changeF ≠ 0) (hr : s.rf ≤ (s.pace d).changeF - 1 + 2000000) :
    ((s.voltSettled d).pace d).changeF = 0 ∧ ((s.voltSettled d).pace d).volt = s.rd (Obj.voltageTarget d) ∧
    (s.voltSettled d).getF (Obj.paceStatus d) 16 2 = 0 ∧
    ((s.pace d).asked = true → (s.voltSettled d).getF (Obj.paceStatus d) 24 8 = 0) ∧
    ((s.pace d).asked = false → (s.voltSettled d).getF (Obj.paceStatus d) 24 8 = s.getF (Obj.paceStatus d) 24 8) ∧
    ((s.pace d).pending ≠ 0 → ((s.voltSettled d).pace d).code = (s.pace d).pending ∧ ((s.voltSettled d).pace d).pending = 0) := by
  have hl : ¬ (s.pace d).changeF - 1 + 2000000 < s.rf := by omega
  simp only [Dev.voltSettled, if_neg h, if_neg hl]
  by_cases ha : (s.pace d).asked = true <;> by_cases hp : (s.pace d).pending = 0 <;>
    simp (disch := omega) [ha, hp, Dev.paceResult, Dev.status_paceShow, Dev.status_capTake, Dev.status_setF_same, Dev.status_setF_other]

/-- What ends a change that has not settled leaves: no change and no pending cap, the rail's voltage as it was, and result 0x20 (R65). -/
theorem Dev.voltFail_shows :
    (s.voltFail d).pace d = { s.pace d with changeF := 0, pending := 0, asked := false } ∧
    (s.voltFail d).getF (Obj.paceStatus d) 24 8 = 0x20 ∧ (s.voltFail d).getF (Obj.paceStatus d) 16 2 = 0 := by
  refine ⟨by simp [Dev.voltFail], ?_, ?_⟩ <;>
    simp (disch := omega) [Dev.voltFail, Dev.paceResult, Dev.status_paceShow, Dev.status_setF_same, Dev.status_setF_other]

theorem Dev.voltSettled_late (h : (s.pace d).changeF ≠ 0) (hr : (s.pace d).changeF - 1 + 2000000 < s.rf) :
    s.voltSettled d = (s.voltFail d).supplyFault d := by
  simp only [Dev.voltSettled, if_neg h, if_pos hr]

theorem Dev.voltTimeout_due (h : (s.pace d).changeF ≠ 0) (hr : (s.pace d).changeF - 1 + 2000000 ≤ s.rf) :
    s.voltTimeout d = (s.voltFail d).supplyFault d := if_pos ⟨h, hr⟩

end

section
variable {s t : Dev} {ks : List Nat}

theorem Dev.regsKept.voltFail (h : s.regsKept t ks) {d : Nat} (hs : (Obj.paceStatus d).key ∈ ks) (hc : (Obj.paceCap d).key ∈ ks) :
    s.regsKept (t.voltFail d) ks := (((h.updPace d _).setF _ _ _ hs).paceResult _ hs).paceShow hs hc

theorem Dev.regsKept.voltSettled (h : s.regsKept t ks) {d : Nat} (hs : (Obj.paceStatus d).key ∈ ks) (hc : (Obj.paceCap d).key ∈ ks)
    (hl : (t.pace d).changeF ≠ 0) (hr : t.rf ≤ (t.pace d).changeF - 1 + 2000000) : s.regsKept (t.voltSettled d) ks := by
  simp only [Dev.voltSettled, if_neg hl, if_neg (Nat.not_lt.mpr hr)]
  have h0 := (h.updPace d (fun x => { x with volt := t.rd (Obj.voltageTarget d), changeF := 0, asked := false })).setF 16 2 0 hs
  refine Dev.regsKept.paceShow ?_ hs hc
  split <;> split
  · exact (h0.paceResult 0 hs).capTake _ hs
  · exact h0.capTake _ hs
  · exact h0.paceResult 0 hs
  · exact h0

end

/-! ### Supply faults -/

section
variable (s : Dev)

@[simp] theorem Dev.bump_pace (r : Reg) (k : Nat) : (s.bump r).pace k = s.pace k := by simp [Dev.pace]

@[simp] theorem Dev.drawn_pace (k : Nat) : s.drawn.pace k = s.pace k := by simp [Dev.pace]

@[simp] theorem Dev.updQueue_pace (q : Nat) (f : FaultQueue → FaultQueue) (k : Nat) : (s.updQueue q f).pace k = s.pace k := rfl

@[simp] theorem Dev.sedError_pace (c k : Nat) : (s.sedError c).pace k = s.pace k := rfl

theorem Dev.mergeFault_pace (q : Nat) (p : FaultEntry → Bool) (k : Nat) : (s.mergeFault q p).pace k = s.pace k := by
  unfold Dev.mergeFault
  split <;> simp

/-- A report-only detection on an I/O die's queue leaves the governors alone (R554). -/
theorem Dev.detectReport_pace {q : Nat} (hq : 4 ≤ q) (cls : Nat) (e : Elem) (d o k : Nat) : (s.detectReport q cls e d o).pace k = s.pace k := by
  unfold Dev.detectReport
  dsimp only
  split
  · exact s.mergeFault_pace q _ k
  · split
    · rw [if_neg (by omega)]
    · exact s.updQueue_pace q _ k

/-- A supply fault is reported only, on IOD0's queue (R554, R565). -/
theorem Dev.supplyFault_eq (r : Nat) :
    s.supplyFault r = ((s.drawn.bump (faultCtr 4 0)).sedError 0x0E).detectReport 4 0x0E (.rail (r + 1)) (s.open_ % 2 ^ 32) 0xFF := by
  simp [Dev.supplyFault, Dev.detect, Dev.detectFor, Elem.queue, reportOnly]

@[simp] theorem Dev.supplyFault_pace (r k : Nat) : (s.supplyFault r).pace k = s.pace k := by
  rw [Dev.supplyFault_eq, Dev.detectReport_pace _ (by omega), Dev.sedError_pace, Dev.bump_pace, Dev.drawn_pace]

theorem Dev.rd_supplyFault (r : Nat) {x : Reg} (h0 : x.key ≠ (faultCtr 4 0).key) (h1 : x.key ≠ (faultCtr 4 1).key) : (s.supplyFault r).rd x = s.rd x := by
  have hq : (Elem.rail (r + 1)).queue = 4 := rfl
  unfold Dev.supplyFault
  rw [Dev.rd_detect_report s.drawn _ (by decide) (by decide) (by decide) (by decide) (by decide) hq.ge (hq ▸ h0) (hq ▸ h1), Dev.rd_drawn]

theorem Dev.status_supplyFault (r : Nat) {d : Nat} (hd : d < 4) (lo w : Nat) :
    (s.supplyFault r).getF (Obj.paceStatus d) lo w = s.getF (Obj.paceStatus d) lo w :=
  Dev.getF_eq _ _ _ lo w (s.rd_supplyFault r (by simp only [Obj.paceStatus, faultCtr, Obj.faultCounter, Reg.at_key]; omega)
    (by simp only [Obj.paceStatus, faultCtr, Obj.faultCounter, Reg.at_key]; omega))

end

theorem Dev.regsKept.supplyFault {s t : Dev} {ks : List Nat} (h : s.regsKept t ks) (r : Nat) (h0 : (faultCtr 4 0).key ∈ ks)
    (h1 : (faultCtr 4 1).key ∈ ks) : s.regsKept (t.supplyFault r) ks := by
  intro x hx
  have hne : ∀ {y : Reg}, y.key ∈ ks → x.key ≠ y.key := fun hy e => hx (e ▸ hy)
  rw [Dev.rd_supplyFault t r (hne h0) (hne h1), h x hx]

/-! ### The throttle -/

section
variable {s : Dev} {d : Nat}

/-- A step of the throttle takes one code from the cap in force, down to 26 (R67). -/
theorem Dev.throttleStep_due (h : s.throttled d = true) (ht : 12160 ≤ s.rdI (Obj.dieTemperature d)) (hf : (s.pace d).stepF + 100000 ≤ s.rf) :
    s.throttleStep d = ((s.setF (Obj.paceStatus d) 0 8 (max 26 (s.capNow d - 1))).updPace d (fun x => { x with stepF := s.rf })).paceShow d :=
  if_pos ⟨h, ht, hf⟩

/-- A step of the release gives the cap in force one code back, or ends the throttle with its cap (R67). -/
theorem Dev.throttleRelease_due (h : s.throttled d = true) (ht : s.rdI (Obj.dieTemperature d) < 12160) (hf : (s.pace d).stepF + 1000000 ≤ s.rf) :
    s.throttleRelease d =
      if (s.pace d).code ≤ s.capNow d + 1 then
        (((s.setF (Obj.paceStatus d) 0 8 (s.pace d).code).updPace d (fun x => { x with stepF := s.rf })).setBit (Obj.paceStatus d) 19 false).paceShow d
      else ((s.setF (Obj.paceStatus d) 0 8 (s.capNow d + 1)).updPace d (fun x => { x with stepF := s.rf })).paceShow d := by
  unfold Dev.throttleRelease
  rw [if_pos ⟨h, ht, hf⟩]
  by_cases hc : (s.pace d).code ≤ s.capNow d + 1
  · simp [hc, Dev.rf]
  · simp [hc, Dev.rf]

theorem Dev.paceMeasure_due (cycles : Nat) (hc : s.coreOff d = false) (hw : (s.pace d).measWin < s.win 1000000) :
    s.paceMeasure d cycles =
      (s.updPace d (fun x => { x with measWin := s.win 1000000 })).wr (Obj.paceMeasured d) (min 65535 (cycles * 1024 / 1000000)) :=
  if_neg (by simp [hc, hw])

theorem Dev.paceMeasure_published (cycles : Nat) (hw : s.win 1000000 ≤ (s.pace d).measWin) : s.paceMeasure d cycles = s := if_pos (.inr hw)

end

end Sys2Proof.Machine
end

section
/-! The writes, changes and steps of the governors as commands (R57 to R68, R622). -/

namespace Sys2Proof.Machine

open Sys2Proof

/-! ### From an outcome to what its state has -/

theorem nextHas_asked {s : State} {q : Requester} {r : Reg} {v : Nat} {k : Dev → Dev} {p : State → Prop} (h : s.dev.hears q r v)
    (hp : p { s with dev := k s.dev.fresh }) : nextHas (s.asked q r v k) p := ⟨_, State.asked_hears k h, hp⟩

theorem nextHas_run {s : State} {f : Dev → Dev} {p : State → Prop} (h : s.dev.working = true) (hp : p { s with dev := f s.dev.fresh }) :
    nextHas (s.run f) p := ⟨_, State.run_next f h, hp⟩

theorem State.sameRest_dev (s : State) (x : Dev) : s.sameRest { s with dev := x } := ⟨rfl, rfl⟩

/-- What the device has sent stays among what it sent when it answers. -/
theorem Dev.mem_out_answer {s : Dev} {o : Out} (h : o ∈ s.out) (q : Requester) (st : Status) (data : List Byte) : o ∈ (s.answer q st data).out := by
  have key : ∀ r : Reg, o ∈ (((s.emit (.response q st.code data)).bump r).delivered q st.code data).out := by
    intro r
    cases q with
    | mailbox p m =>
      simp only [Dev.delivered, Dev.mailboxDone]
      split <;> simp [Dev.bump, Dev.bumpBy, Dev.wr, Dev.emit, h]
    | omtos _ => simp [Dev.delivered, h]
    | source _ _ => simp [Dev.delivered, h]
    | can _ => simp [Dev.delivered, h]
  exact key _

theorem Dev.mem_out_accept {s : Dev} {o : Out} (h : o ∈ s.out) (q : Requester) : o ∈ (s.accept q).out := by
  unfold Dev.accept
  exact Dev.mem_out_answer h _ _ _

@[simp] theorem Dev.updPace_out (s : Dev) (d : Nat) (f : Pace → Pace) : (s.updPace d f).out = s.out := rfl

/-! ### Writes of PaceCap and VoltageTarget -/

section
variable {s : Dev} {d v : Nat} (q : Requester)

theorem Dev.capWrite_seen (h : s.tjSeen d = true) : s.capWrite q d v = s.capJudge q d v := if_pos h

theorem Dev.capWrite_unseen (h : s.tjSeen d = false) : s.capWrite q d v = s.paceHold d (writeReq q (Obj.paceCap d) v) := by simp [Dev.capWrite, h]

theorem Dev.voltWrite_seen (h : s.tjSeen d = true) : s.voltWrite q d v = s.voltJudge q d v := if_pos h

/-- What the answer to a voltage command leaves of a device whose rail has been sent its voltage: result 0x02, and the rest as the start left it (R64). -/
theorem Dev.voltAsked_shows (s : Dev) (hd : d < 4) :
    let t := ((s.updPace d (fun x => { x with asked := true })).paceResult d 0x02).accept q
    t.told q .ok ∧ (∀ o, o ∈ s.out → o ∈ t.out) ∧ t.rd (Obj.voltageTarget d) = s.rd (Obj.voltageTarget d) ∧ t.getF (Obj.paceStatus d) 24 8 = 2 ∧
    t.getF (Obj.paceStatus d) 16 2 = s.getF (Obj.paceStatus d) 16 2 ∧ (t.pace d).changeF = (s.pace d).changeF := by
  have hkey : (Obj.voltageTarget d).key ≠ (Obj.paceStatus d).key := by simp only [Obj.voltageTarget, Obj.paceStatus, Reg.at_key]; omega
  refine ⟨Dev.told_accept _ _, fun o ho => Dev.mem_out_accept (by rwa [Dev.paceResult, Dev.setF_out, Dev.updPace_out]) _, ?_, ?_, ?_, ?_⟩
  · rw [Dev.rd_accept _ _ (by simp only [Obj.voltageTarget, Reg.at_key]; omega), Dev.paceResult, Dev.rd_setF_other _ _ _ _ hkey, Dev.rd_updPace]
  · simp (disch := omega) only [Dev.status_accept _ hd, Dev.paceResult, Dev.status_setF_same]
    rfl
  · simp (disch := omega) only [Dev.status_accept _ hd, Dev.paceResult, Dev.status_setF_other, Dev.getF_updPace]
  · rw [Dev.pace_accept, Dev.pace_paceResult, Dev.pace_updPace]

/-- A supported voltage that is commanded to the rail is answered and shown as in progress (R63, R64). -/
theorem Dev.voltJudge_started (hd : d < 4) (hv : v < 65536) (h : (s.pace d).changeF = 0) (hne : s.rd (Obj.voltageTarget d) ≠ v)
    (hs : s.presentVolt d ≤ v ∨ s.presentCap d ≤ s.supportedAt d v) (hc : s.coreOff d = false) :
    (s.voltJudge q d v).told q .ok ∧ .avs d v ∈ (s.voltJudge q d v).out ∧ (s.voltJudge q d v).rd (Obj.voltageTarget d) = v ∧
    (s.voltJudge q d v).getF (Obj.paceStatus d) 24 8 = 2 ∧
    (s.voltJudge q d v).getF (Obj.paceStatus d) 16 2 = (if v < (s.pace d).volt then 2 else 1) ∧ ((s.voltJudge q d v).pace d).changeF = s.rf + 1 := by
  obtain ⟨hout, hrd, hst, hch⟩ := s.voltStart_shows d v hv
  obtain ⟨htold, hsent, hrd', hcode, hst', hch'⟩ := (s.voltStart d v).voltAsked_shows q hd
  rw [Dev.voltJudge_supported q h hne hs hc]
  exact ⟨htold, hsent _ hout, hrd'.trans hrd, hcode, hst'.trans hst, hch'.trans hch⟩

end

section
variable (s : Dev) (d : Nat) (r : Request)

/-- A write that arrives before the die's first reading joins the governor's held writes, and nothing is answered (R64). -/
theorem Dev.paceHold_shows : (s.paceHold d r).out = s.out ∧ ((s.paceHold d r).pace d).waiting.length = (s.pace d).waiting.length + 1 ∧
    (s.paceHold d r).capNow d = s.capNow d := by
  refine ⟨by simp [Dev.paceHold], by simp [Dev.paceHold], ?_⟩
  simp (disch := omega) only [Dev.paceHold, Dev.capNow, Dev.status_paceShow, Dev.getF_updPace]

end

theorem Dev.regsKept.paceHold {s t : Dev} {ks : List Nat} (h : s.regsKept t ks) {d : Nat} (r : Request) (hs : (Obj.paceStatus d).key ∈ ks)
    (hc : (Obj.paceCap d).key ∈ ks) : s.regsKept (t.paceHold d r) ks := (h.updPace d _).paceShow hs hc

/-! ### The throttle's steps and the measured pace -/

section
variable {s : Dev} {d : Nat}

/-- What one step of the throttle or of its release that ends in the cap `c` leaves (R67). -/
theorem Dev.throttleMoved_shows (c : Nat) :
    ((((s.setF (Obj.paceStatus d) 0 8 c).updPace d (fun x => { x with stepF := s.rf })).paceShow d).capNow d = c % 256) ∧
    ((((s.setF (Obj.paceStatus d) 0 8 c).updPace d (fun x => { x with stepF := s.rf })).paceShow d).throttled d = s.throttled d) ∧
    ((((s.setF (Obj.paceStatus d) 0 8 c).updPace d (fun x => { x with stepF := s.rf })).paceShow d).pace d).stepF = s.rf := by
  refine ⟨?_, ?_, by simp⟩
  · simp (disch := omega) only [Dev.capNow, Dev.status_paceShow, Dev.getF_updPace, Dev.status_setF_same]
    rfl
  · simp (disch := omega) only [Dev.throttled_eq_getF, Dev.status_paceShow, Dev.getF_updPace, Dev.status_setF_other]

theorem Dev.throttleEnded_shows (c : Nat) :
    ((((s.setF (Obj.paceStatus d) 0 8 c).updPace d (fun x => { x with stepF := s.rf })).setBit (Obj.paceStatus d) 19 false).paceShow d).capNow d = c % 256 ∧
    ((((s.setF (Obj.paceStatus d) 0 8 c).updPace d (fun x => { x with stepF := s.rf })).setBit (Obj.paceStatus d) 19 false).paceShow d).throttled d
      = false := by
  constructor
  · simp (disch := omega) only [Dev.capNow, Dev.status_paceShow, Dev.status_setBit_other, Dev.getF_updPace, Dev.status_setF_same]
    rfl
  · simp (disch := omega) only [Dev.throttled_eq_getF, Dev.status_paceShow, Dev.setBit, Dev.status_setF_same]
    rfl

/-- Both steps of the throttle write PaceStatus and PaceCap alone. -/
theorem Dev.regsKept.throttleMoved {t : Dev} {ks : List Nat} (h : s.regsKept t ks) (c f : Nat) (hs : (Obj.paceStatus d).key ∈ ks)
    (hc : (Obj.paceCap d).key ∈ ks) :
    s.regsKept (((t.setF (Obj.paceStatus d) 0 8 c).updPace d (fun x => { x with stepF := f })).paceShow d) ks :=
  ((h.setF _ _ _ hs).updPace d _).paceShow hs hc

/-- A window's count is published in PaceMeasured, which saturates (R60, R622). -/
theorem Dev.paceMeasure_shows (cycles : Nat) (hc : s.coreOff d = false) (hw : (s.pace d).measWin < s.win 1000000) :
    (s.paceMeasure d cycles).rd (Obj.paceMeasured d) = min 65535 (cycles * 1024 / 1000000) ∧
    ((s.paceMeasure d cycles).pace d).measWin = s.win 1000000 ∧ s.regsKept (s.paceMeasure d cycles) [(Obj.paceMeasured d).key] := by
  rw [Dev.paceMeasure_due cycles hc hw]
  refine ⟨?_, by simp, ((Dev.regsKept.refl _ _).updPace d _).wr _ (by simp)⟩
  rw [Dev.rd_wr_same]
  have : (Obj.paceMeasured d).bits = 16 := rfl
  rw [this]
  omega

end

end Sys2Proof.Machine
end

section
/-! The claim about pace caps, voltages, the throttle and the measured pace. -/

namespace Sys2Proof.Machine

open Sys2Proof

/-- Settles O10: each command's branch is one named operation on the die's governor, whose fields of PaceStatus and whose record the lemmas above give. -/
theorem paceAndVoltage : Obligations.PaceAndVoltage := by
  unfold Obligations.PaceAndVoltage
  simp only [exec, execPaceCapWrite, execVoltageTargetWrite, execVoltageSettled, execVoltageTimeout, execThrottleStep, execThrottleReleaseStep,
    execPaceMeasureWindow]
  refine ⟨fun s q d v hh => ⟨fun ht hs => ?_, fun ht hs hr => ?_, fun ht => ?_⟩,
    fun s q d v hh ht => ⟨fun hc => ?_, fun hc hv => ?_, fun hc hv hl hs => ?_, fun hc hv hs ho => ?_⟩,
    fun s d hw hc => ⟨fun hr => ?_, fun hr => ?_, fun hr => ?_⟩,
    fun s d hw => ⟨fun ht hT hf => ?_, fun ht hT hf => ?_, fun cycles ho hwin => ?_, fun cycles hwin => ?_⟩⟩
  · refine nextHas_asked hh ?_
    have hs' : v.toNat ≤ s.dev.fresh.supportedAt d (s.dev.fresh.presentVolt d) := by simpa using hs
    obtain ⟨hcap, hcode, hacc, hnow⟩ := Dev.capJudge_taken (s := s.dev.fresh) d.isLt q v.isLt hs'
    rw [Dev.capWrite_seen q (by simpa using ht)]
    rw [Dev.throttled_fresh, Dev.capNow_fresh] at hnow
    refine ⟨?_, hcap, hcode, hacc, fun h => by simpa [h] using hnow, fun h => by simpa [h] using hnow, ?_, s.sameRest_dev _⟩
    · rw [Dev.capJudge_supported q hs']
      exact Dev.told_accept _ _
    · rw [Dev.capJudge_supported q hs']
      exact ((((s.dev.regsKept_fresh _).capTake _ (by simp)).paceResult _ (by simp)).paceShow (by simp) (by simp)).accept q
  · refine nextHas_asked hh ?_
    rw [Dev.capWrite_seen q (by simpa using ht), Dev.capJudge_unsupported q (by simpa using hs) (by simpa using hr)]
    obtain ⟨hcode, hnow⟩ := Dev.paceRefused (s := s.dev.fresh) d.isLt q 0x11 (by omega)
    exact ⟨Dev.told_refuse _ _ _, hcode, hnow.trans (s.dev.capNow_fresh d), ((s.dev.regsKept_fresh _).paceResult _ (by simp)).refuse q _, s.sameRest_dev _⟩
  · refine nextHas_asked hh ?_
    rw [Dev.capWrite_unseen q (by simpa using ht)]
    obtain ⟨hout, hlen, hnow⟩ := s.dev.fresh.paceHold_shows d (writeReq q (Obj.paceCap d) v.toNat)
    rw [Dev.pace_fresh] at hlen
    exact ⟨hout, hlen, hnow.trans (s.dev.capNow_fresh d), (s.dev.regsKept_fresh _).paceHold _ (by simp) (by simp), s.sameRest_dev _⟩
  · refine nextHas_asked hh ?_
    rw [Dev.voltWrite_seen q (by simpa using ht), Dev.voltJudge_changing q (by simpa using hc)]
    exact ⟨Dev.told_refuse _ _ _, (Dev.paceRefused d.isLt q 0x12 (by omega)).1, ((s.dev.regsKept_fresh _).paceResult _ (by simp)).refuse q _,
      s.sameRest_dev _⟩
  · refine nextHas_asked hh ?_
    rw [Dev.voltWrite_seen q (by simpa using ht), Dev.voltJudge_repeat q (by simpa using hc) (by simpa using hv)]
    exact ⟨Dev.told_accept _ _, by simp, (s.dev.regsKept_fresh _).accept q, s.sameRest_dev _⟩
  · refine nextHas_asked hh ?_
    rw [Dev.voltWrite_seen q (by simpa using ht),
      Dev.voltJudge_unsupported q (by simpa using hc) (by simpa using hv) (by simpa using hl) (by simpa using hs)]
    exact ⟨Dev.told_refuse _ _ _, (Dev.paceRefused d.isLt q 0x10 (by omega)).1, ((s.dev.regsKept_fresh _).paceResult _ (by simp)).refuse q _,
      s.sameRest_dev _⟩
  · refine nextHas_asked hh ?_
    have hc' : (s.dev.fresh.pace d).changeF = 0 := by simpa using hc
    have hv' : s.dev.fresh.rd (Obj.voltageTarget d) ≠ v.toNat := by simpa using hv
    have hs' : s.dev.fresh.presentVolt d ≤ v.toNat ∨ s.dev.fresh.presentCap d ≤ s.dev.fresh.supportedAt d v.toNat := by simpa using hs
    have ho' : s.dev.fresh.coreOff d = false := by simpa using ho
    obtain ⟨htold, hsent, hrd, hcode, hst, hch⟩ := Dev.voltJudge_started q d.isLt v.isLt hc' hv' hs' ho'
    rw [Dev.pace_fresh] at hst
    rw [Dev.voltWrite_seen q (by simpa using ht)]
    refine ⟨htold, hsent, hrd, hcode, hst, hch, ?_, s.sameRest_dev _⟩
    rw [Dev.voltJudge_supported q hc' hv' hs' ho']
    exact ((((s.dev.regsKept_fresh _).voltStart _ (by simp) (by simp) (by simp)).updPace _ _).paceResult _ (by simp)).accept q
  · refine nextHas_run hw ?_
    have hc' : (s.dev.fresh.pace d).changeF ≠ 0 := by simpa using hc
    have hr' : s.dev.fresh.rf ≤ (s.dev.fresh.pace d).changeF - 1 + 2000000 := by simpa using hr
    obtain ⟨hch, hvolt, hst, hasked, hown, hpend⟩ := Dev.voltSettled_inTime hc' hr'
    rw [Dev.pace_fresh] at hasked hown hpend
    rw [Dev.rd_fresh] at hvolt
    rw [Dev.getF_fresh] at hown
    exact ⟨hch, hvolt, hst, hasked, hown, hpend, (s.dev.regsKept_fresh _).voltSettled (by simp) (by simp) hc' hr', s.sameRest_dev _⟩
  · refine nextHas_run hw ?_
    rw [Dev.voltSettled_late (by simpa using hc) (by simpa using hr)]
    obtain ⟨hp, hcode, -⟩ := Dev.voltFail_shows (s := s.dev.fresh) (d := d)
    refine ⟨?_, ?_, ?_, (Dev.status_supplyFault _ _ d.isLt _ _).trans hcode, s.sameRest_dev _⟩ <;> rw [Dev.supplyFault_pace, hp]
    rw [Dev.pace_fresh]
  · refine nextHas_run hw ?_
    rw [Dev.voltTimeout_due (by simpa using hc) (by simpa using hr)]
    obtain ⟨hp, hcode, hst⟩ := Dev.voltFail_shows (s := s.dev.fresh) (d := d)
    refine ⟨?_, ?_, (Dev.status_supplyFault _ _ d.isLt _ _).trans hcode, (Dev.status_supplyFault _ _ d.isLt _ _).trans hst,
      ((s.dev.regsKept_fresh _).voltFail (by simp) (by simp)).supplyFault _ (by simp [faultCtr]) (by simp [faultCtr]), s.sameRest_dev _⟩ <;>
      rw [Dev.supplyFault_pace, hp]
  · refine nextHas_run hw ?_
    rw [Dev.throttleStep_due (by simpa using ht) (by simpa using hT) (by simpa using hf)]
    obtain ⟨hnow, -, hstep⟩ := Dev.throttleMoved_shows (s := s.dev.fresh) (d := d) (max 26 (s.dev.fresh.capNow d - 1))
    exact ⟨by simpa using hnow, hstep, (s.dev.regsKept_fresh _).throttleMoved _ _ (by simp) (by simp), s.sameRest_dev _⟩
  · refine nextHas_run hw ?_
    rw [Dev.throttleRelease_due (by simpa using ht) (by simpa using hT) (by simpa using hf), Dev.pace_fresh, Dev.capNow_fresh]
    by_cases hl : (s.dev.pace d).code ≤ s.dev.capNow d + 1
    · obtain ⟨hnow, hth⟩ := Dev.throttleEnded_shows (s := s.dev.fresh) (d := d) (s.dev.pace d).code
      rw [if_pos hl]
      exact ⟨fun _ => ⟨hnow, hth⟩, fun h => absurd hl (by omega),
        ((((s.dev.regsKept_fresh _).setF _ _ _ (by simp)).updPace d _).setBit _ _ (by simp)).paceShow (by simp) (by simp), s.sameRest_dev _⟩
    · obtain ⟨hnow, hth, -⟩ := Dev.throttleMoved_shows (s := s.dev.fresh) (d := d) (s.dev.capNow d + 1)
      rw [if_neg hl]
      exact ⟨fun h => absurd h hl, fun _ => ⟨hnow, hth.trans ((s.dev.throttled_fresh d).trans ht)⟩,
        (s.dev.regsKept_fresh _).throttleMoved _ _ (by simp) (by simp), s.sameRest_dev _⟩
  · refine nextHas_run hw ?_
    obtain ⟨hrd, hmeas, hkept⟩ := Dev.paceMeasure_shows (s := s.dev.fresh) cycles.toNat (by simpa using ho) (by simpa using hwin)
    exact ⟨hrd, hmeas, hkept, s.sameRest_dev _⟩
  · refine nextHas_run hw ?_
    rw [Dev.paceMeasure_published _ (by simpa using hwin)]
    exact ⟨rfl, s.sameRest_dev _⟩

end Sys2Proof.Machine
end

section
/-! What resets, the boot chain and temperature readings leave of a device (R490 to R498, R607, R609, R616): its condition, its time, its recorder's
memory, and the registers of the time base, the temperatures and the straps. -/

namespace Sys2Proof.Machine

open Sys2Proof

/-! ### What stands -/

/-- A register of the time base's settings (0x3001, 0x3002), or of the temperatures and the straps (0x2040 to 0x2042). -/
def Reg.stands (r : Reg) : Prop := 0x300100 ≤ r.key ∧ r.key < 0x300300 ∨ 0x204000 ≤ r.key ∧ r.key < 0x204300

/-- A device's condition, its time, what it holds back, the recorder's MRAM and the last readings of Tj. -/
structure Core where
  alive : Bool
  frozen : Bool
  stopped : Bool
  bootWait : Bool
  f : Nat
  aon : Nat
  held : List Held
  mram0 : List Byte
  mram1 : List Byte
  tjLast : Tab Int

def Dev.core (s : Dev) : Core := ⟨s.alive, s.frozen, s.stopped, s.bootWait, s.f, s.aon, s.held, s.mram0, s.mram1, s.tjLast⟩

section
variable (s : Dev)

theorem Dev.core_alive : s.core.alive = s.alive := rfl

theorem Dev.core_bootWait : s.core.bootWait = s.bootWait := rfl

theorem Dev.core_tjLast : s.core.tjLast = s.tjLast := rfl

theorem Dev.core_wr (r : Reg) (v : Nat) : (s.wr r v).core = s.core := rfl

end

/-- From `s` to `t` the core and the registers above stand. -/
def Dev.stands (s t : Dev) : Prop := t.core = s.core ∧ ∀ r : Reg, r.stands → t.rd r = s.rd r

theorem Dev.stands.refl (s : Dev) : s.stands s := ⟨rfl, fun _ _ => rfl⟩

section
variable {s t : Dev} (h : s.stands t)

include h

theorem Dev.stands.trans {u : Dev} (h' : t.stands u) : s.stands u := ⟨h'.1.trans h.1, fun r hr => (h'.2 r hr).trans (h.2 r hr)⟩

theorem Dev.stands.wr {r : Reg} (v : Nat) (hr : ¬ r.stands) : s.stands (t.wr r v) := by
  refine ⟨h.1, fun r' hr' => ?_⟩
  have hne : r'.key ≠ r.key := fun e => hr (by simpa only [Reg.stands, e] using hr')
  rw [Dev.rd_wr_other t v hne, h.2 r' hr']

theorem Dev.stands.setF {r : Reg} (lo w v : Nat) (hr : ¬ r.stands) : s.stands (t.setF r lo w v) := h.wr _ hr

theorem Dev.stands.setBit {r : Reg} (i : Nat) (b : Bool) (hr : ¬ r.stands) : s.stands (t.setBit r i b) := h.wr _ hr

theorem Dev.stands.bump {r : Reg} (hr : ¬ r.stands) : s.stands (t.bump r) := h.wr _ hr

theorem Dev.stands.setBlob (r : Reg) (bs : List Byte) : s.stands (t.setBlob r bs) := h

theorem Dev.stands.emit (o : Out) : s.stands (t.emit o) := h

theorem Dev.stands.drawn : s.stands t.drawn := h

theorem Dev.stands.deviceKey (key : List Byte) : s.stands { t with deviceKey := key } := h

theorem Dev.stands.skewDrawn (x : Tab Nat) : s.stands { t with skewDraws := x, free := t.free + 1 } := h

theorem Dev.stands.updPace (d : Nat) (f : Pace → Pace) : s.stands (t.updPace d f) := h

theorem Dev.stands.answer (q : Requester) (st : Status) (data : List Byte) : s.stands (t.answer q st data) := by
  refine ⟨?_, fun r hr => ?_⟩
  · rw [← h.1]
    simp only [Dev.core, Dev.answer_alive, Dev.answer_frozen, Dev.answer_stopped, Dev.answer_bootWait, Dev.answer_f, Dev.answer_aon, Dev.answer_held,
      Dev.answer_mram0, Dev.answer_mram1, Dev.answer_tjLast]
  · rw [Dev.rd_answer t q st data (by simp only [Reg.stands] at hr; omega), h.2 r hr]

theorem Dev.stands.accept (q : Requester) : s.stands (t.accept q) := h.answer q _ _

theorem Dev.stands.refuse (q : Requester) (st : Status) : s.stands (t.refuse q st) := by
  refine ⟨?_, fun r hr => ?_⟩
  · rw [← h.1]
    simp only [Dev.core, Dev.refuse_alive, Dev.refuse_frozen, Dev.refuse_stopped, Dev.refuse_bootWait, Dev.refuse_f, Dev.refuse_aon, Dev.refuse_held,
      Dev.refuse_mram0, Dev.refuse_mram1, Dev.refuse_tjLast]
  · rw [Dev.rd_refuse t q st (by simp only [Reg.stands] at hr; omega), h.2 r hr]

end

/-- What each of the rounds 0 to n − 1 leaves standing, the repetition does. -/
theorem Dev.stands.each {s t : Dev} (h : s.stands t) {n : Nat} {f : Nat → Dev → Dev} (hf : ∀ k < n, ∀ u : Dev, s.stands u → s.stands (f k u)) :
    s.stands (t.each n f) :=
  List.foldlRecOn (List.range n) _ h fun u hu k hk => hf k (List.mem_range.mp hk) u hu

/-! ### The boot chain -/

section
variable {s t : Dev} (h : s.stands t)

include h

theorem Dev.stands.extend (r kind place detail : Nat) (digest : List Byte) : s.stands (t.extend r kind place detail digest) := by
  unfold Dev.extend
  extract_lets l u
  have hu : s.stands u := (h.setBlob _ _).setBlob _ _
  by_cases hl : l.2 = true
  · rw [if_pos hl]
    exact hu.setBit _ _ (by simp [Reg.stands, Obj.securityState])
  · rw [if_neg hl]
    exact hu

theorem Dev.stands.lifecycle : s.stands t.lifecycle := by
  have hs : ¬ Obj.securityState.stands := by simp [Reg.stands, Obj.securityState]
  unfold Dev.lifecycle
  split
  · exact (h.setF _ _ _ hs).setF _ _ _ hs
  · exact h.setF _ _ _ hs

theorem Dev.stands.loadStage (slot stage : Nat) (hs : stage < 4) : s.stands (t.loadStage slot stage) := by
  have hr : ¬ (Reg.at 0x1001 (stage + 1) 32).stands := by simp only [Reg.stands, Reg.at_key]; omega
  unfold Dev.loadStage
  dsimp only
  refine Dev.stands.wr ?_ _ hr
  by_cases h2 : stage = 2
  · rw [if_pos h2]
    exact h.each fun k _ u hu => hu.extend ..
  · rw [if_neg h2]
    exact h.extend ..

theorem Dev.stands.bootSet (slot : Nat) : s.stands (t.bootSet slot).1 := by
  refine List.foldlRecOn [1, 2, 3] _ (motive := fun z : Dev × Bool => s.stands z.1) h fun z hz n hn => ?_
  have hn4 : n < 4 := by
    simp only [List.mem_cons, List.not_mem_nil, or_false] at hn
    omega
  by_cases hg : (z.2 && z.1.imageGood slot n) = true
  · rw [if_pos hg]
    exact hz.loadStage slot n hn4
  · rw [if_neg hg]
    exact hz

theorem Dev.stands.bootChain (puf : Bool) : s.stands (t.bootChain puf) := by
  have hs : ¬ Obj.securityState.stands := by simp [Reg.stands, Obj.securityState]
  unfold Dev.bootChain
  extract_lets rom u1 u2 rec a b u3 k n
  have h2 : s.stands u2 := ((h.extend ..).extend ..).lifecycle
  have ha : s.stands a.1 := h2.bootSet 0
  have hb : s.stands b.1 := by
    show s.stands (if a.2 then a else _).1
    split
    · exact ha
    · exact (ha.setBit _ _ hs).bootSet 1
  split
  · exact h2.setBit _ _ hs
  · split
    · have hk : s.stands k.2 := (hb.setBit _ _ hs).drawn
      have hn : s.stands n.2 := hk.drawn
      exact (hn.deviceKey k.1).setBlob _ _
    · exact hb.setBit _ _ hs

theorem Dev.stands.gddrUp : s.stands t.gddrUp := by
  unfold Dev.gddrUp
  refine h.each fun k hk u hu => ?_
  split
  · exact hu.setF _ _ _ (by simp only [Reg.stands, Obj.gddrChannelState, Reg.at_key]; omega)
  · exact hu

theorem Dev.stands.calibrate (ds : List Nat) : s.stands (t.calibrate ds) := by
  unfold Dev.calibrate
  exact foldl_holds (fun u => s.stands u) _ (fun _ _ hu => hu.skewDrawn _) ds h

end

theorem Dev.stands_boot (s : Dev) : ({ s with bootWait := false } : Dev).stands s.boot :=
  (((Dev.stands.refl _).bootChain _).gddrUp).calibrate _

/-- The boot chain ends the wait for it, and leaves the rest of the core as it was (R490). -/
theorem Dev.core_boot (s : Dev) : s.boot.core = { s.core with bootWait := false } := s.stands_boot.1

theorem Dev.rd_boot (s : Dev) {r : Reg} (hr : r.stands) : s.boot.rd r = s.rd r := s.stands_boot.2 r hr

end Sys2Proof.Machine
end

section
/-! Power-on and warm reset and the loss of the supplies (R594, R607 to R610). -/

namespace Sys2Proof.Machine

open Sys2Proof

section
variable {s t : Dev} (h : s.stands t)

include h

theorem Dev.stands.sedCount (off : Nat) : s.stands (t.sedCount off) := h

theorem Dev.stands.marchAll : s.stands t.marchAll := h

theorem Dev.stands.sedFuse (b : Bool) : s.stands { t with sedFuse := b } := h

/-- The recorder's state as its copy in MRAM begins it. -/
theorem Dev.stands.sedBegun (p : Nat) : s.stands { t with powerOn := p, sedLive := {}, sedShadow := {}, commitBytes := [], sedTickAon := t.aon } := h

theorem Dev.stands.sedBoot : s.stands t.sedBoot := by
  unfold Dev.sedBoot
  extract_lets g0 g1 use1 u1 b u2 u3 u4
  have h1 : s.stands u1 := by
    show s.stands (if _ then _ else _)
    split
    · exact h
    · exact h.sedFuse true
  have h2 : s.stands u2 := h1.sedBegun _
  have h3 : s.stands u3 := by
    show s.stands (if _ then _ else _)
    split
    · exact h2.sedCount _
    · exact h2
  exact ((h3.wr _ (by simp [Reg.stands, Obj.sedimentState])).wr _ (by simp [Reg.stands, Obj.sedimentEpoch])).wr _ (by simp [Reg.stands, Obj.powerOnHours])

theorem Dev.stands.repairsKept (old : Dev) : s.stands (t.repairsKept old) := by
  unfold Dev.repairsKept
  dsimp only
  have hc : ∀ k < 8, ∀ u : Dev, s.stands u → s.stands (if old.chanFailed k then
      (u.setF (Obj.gddrChannelState k) 0 2 2).setF (Obj.gddrChannelState k) 16 8 (old.getF (Obj.gddrChannelState k) 16 8) else u) := by
    intro k hk u hu
    have hr : ¬ (Obj.gddrChannelState k).stands := by simp only [Reg.stands, Obj.gddrChannelState, Reg.at_key]; omega
    split
    · exact (hu.setF _ _ _ hr).setF _ _ _ hr
    · exact hu
  refine (h.each hc).each fun c hc u hu => (hu.setF _ _ _ ?_).setF _ _ _ ?_
  · simp only [Reg.stands, Obj.clusterHealth, Reg.at_key]; omega
  · simp only [Reg.stands, Obj.marchStatus, Reg.at_key]; omega

theorem Dev.stands.unfedOff : s.stands t.unfedOff := by
  unfold Dev.unfedOff
  refine h.each fun n hn u hu => ?_
  split
  · split
    · exact hu
    · exact hu.setF _ _ _ (by simp only [Reg.stands, Obj.domainState, Reg.at_key]; omega)
  · exact hu

/-- Showing a governor's state writes none of the registers that stand. -/
theorem Dev.stands.paceShow {d : Nat} (hd : d < 4) : s.stands (t.paceShow d) := by
  have hs : ¬ (Obj.paceStatus d).stands := by simp only [Reg.stands, Obj.paceStatus, Reg.at_key]; omega
  have hc : ¬ (Obj.paceCap d).stands := by simp only [Reg.stands, Obj.paceCap, Reg.at_key]; omega
  obtain ⟨v, p, -, e | ⟨n, u, e⟩⟩ := t.paceShow_cases d <;> rw [e]
  · exact (h.wr _ hc).setBit _ _ hs
  · exact (((h.wr _ hc).setBit _ _ hs).setF _ _ _ hs).setBit _ _ hs

end

/-- The host ports follow the straps in registers of their own (R429). -/
theorem Dev.stands_strapPorts (s : Dev) (v : Nat) : (s.wr Obj.strapValues v).stands (s.strapPorts v) := by
  unfold Dev.strapPorts
  refine (Dev.stands.refl _).each fun k hk u hu => ?_
  have hr : ¬ (Obj.attachState k).stands := by simp only [Reg.stands, Obj.attachState, Reg.at_key]; omega
  exact (hu.setBit _ _ hr).setBit _ _ hr

/-- A freeze latches, and the registers that stand do (R587). -/
theorem Dev.stands_freeze {s : Dev} (hf : s.frozen = false) (hs : s.stopped = false) :
    ({ s with frozen := true, freezeF := s.f, resumeF := 0 } : Dev).stands s.freeze := by
  unfold Dev.freeze
  rw [if_neg (by simp [hf, hs])]
  have hr : ¬ Obj.freezeState.stands := by simp [Reg.stands, Obj.freezeState]
  exact (((((Dev.stands.refl _).setBit _ _ hr).setF _ _ _ hr).setBit _ _ hr).wr _ (by simp [Reg.stands, Obj.lastFreezeStart])).bump
    (by simp [Reg.stands, Obj.freezes])

theorem Dev.core_freeze {s : Dev} (hf : s.frozen = false) (hs : s.stopped = false) : s.freeze.core = { s.core with frozen := true } :=
  (Dev.stands_freeze hf hs).1

theorem Dev.rd_freeze {s : Dev} (hf : s.frozen = false) (hs : s.stopped = false) {r : Reg} (hr : r.stands) : s.freeze.rd r = s.rd r :=
  (Dev.stands_freeze hf hs).2 r hr

/-! ### Power-on reset -/

/-- The device as PORST_N's release leaves it, before the boot ROM is let run: its parts that outlive a reset, the straps sampled, the recorder begun, and
each cluster's memory test due (R289, R607, R610). -/
def Dev.released (s : Dev) (v : Nat) : Dev := ((((s.partKept.wr Obj.thermalStatus s.tripLatch).strapPorts v).sedBoot).sedCount 0x24).marchAll

theorem Dev.stands_released (s : Dev) (v : Nat) : ((s.partKept.wr Obj.thermalStatus s.tripLatch).wr Obj.strapValues v).stands (s.released v) :=
  (((Dev.stands_strapPorts _ v).sedBoot).sedCount _).marchAll

theorem Dev.rd_released_straps (s : Dev) {v : Nat} (hv : v < 256) : (s.released v).rd Obj.strapValues = v := by
  rw [(s.stands_released v).2 _ (by simp [Reg.stands, Obj.strapValues]), Dev.rd_wr_same]
  exact Nat.mod_eq_of_lt hv

theorem Dev.core_released (s : Dev) (v : Nat) : (s.released v).core =
    { alive := true, frozen := false, stopped := false, bootWait := false, f := 0, aon := 0, held := [], mram0 := s.mram0, mram1 := s.mram1, tjLast := [] } := by
  rw [(s.stands_released v).1, Dev.core_wr, Dev.core_wr]
  rfl

/-- The device while its boot ROM waits, with what PUF correction will yield and the dies that hold it (R617). -/
def Dev.romWaits (s : Dev) (puf cool : Bool) : Dev := { s with bootWait := true, pufOk := puf, hotDies := if cool then 0 else 63 }

theorem Dev.core_romWaits (s : Dev) (puf cool : Bool) : (s.romWaits puf cool).core = { s.core with bootWait := true } := rfl

theorem Dev.rd_romWaits (s : Dev) (puf cool : Bool) (r : Reg) : (s.romWaits puf cool).rd r = s.rd r := rfl

/-- The boot ROM is held by STILL_N or by a hot die, or runs (R594, R617). -/
def Dev.romLet (s : Dev) (puf still cool : Bool) : Dev :=
  if still then (s.romWaits puf cool).freeze else if cool then (s.romWaits puf cool).boot else s.romWaits puf cool

theorem Dev.romLet_still (s : Dev) (puf cool : Bool) : s.romLet puf true cool = (s.romWaits puf cool).freeze := if_pos rfl

theorem Dev.romLet_cool (s : Dev) (puf : Bool) : s.romLet puf false true = (s.romWaits puf true).boot := by simp [Dev.romLet]

theorem Dev.romLet_hot (s : Dev) (puf : Bool) : s.romLet puf false false = s.romWaits puf false := by simp [Dev.romLet]

/-- STILL_N low freezes, and the wait for the boot chain ends where neither STILL_N nor a hot die holds it; the rest stands. -/
theorem Dev.romLet_shows {s : Dev} (puf still cool : Bool) (hf : s.core.frozen = false) (hs : s.core.stopped = false) :
    (s.romLet puf still cool).core = { s.core with frozen := still, bootWait := still || !cool } ∧
    ∀ r : Reg, r.stands → (s.romLet puf still cool).rd r = s.rd r := by
  cases still with
  | true =>
    have hf' : (s.romWaits puf cool).frozen = false := hf
    have hs' : (s.romWaits puf cool).stopped = false := hs
    rw [Dev.romLet_still, Dev.core_freeze hf' hs', Dev.core_romWaits]
    exact ⟨rfl, fun r hr => (Dev.rd_freeze hf' hs' hr).trans (s.rd_romWaits puf cool r)⟩
  | false =>
    cases cool with
    | true =>
      rw [Dev.romLet_cool, Dev.core_boot, Dev.core_romWaits]
      refine ⟨?_, fun r hr => (Dev.rd_boot _ hr).trans (s.rd_romWaits puf true r)⟩
      generalize s.core = c at hf
      cases c
      cases hf
      rfl
    | false =>
      rw [Dev.romLet_hot, Dev.core_romWaits]
      refine ⟨?_, fun r _ => s.rd_romWaits puf false r⟩
      generalize s.core = c at hf
      cases c
      cases hf
      rfl

theorem State.powerOnReset_eq (s : State) (v : Nat) (puf still cool : Bool) :
    s.powerOnReset v puf still cool = { dev := (s.dev.released v).romLet puf still cool, mem := {}, pending := s.pending } := rfl

/-- What a power-on reset leaves (R607). -/
theorem State.powerOnReset_shows (s : State) {v : Nat} (puf still cool : Bool) (hv : v < 256) :
    (s.powerOnReset v puf still cool).dev.core =
      { alive := true, frozen := still, stopped := false, bootWait := still || !cool, f := 0, aon := 0, held := [], mram0 := s.dev.mram0,
        mram1 := s.dev.mram1, tjLast := [] } ∧
    (s.powerOnReset v puf still cool).dev.rd Obj.strapValues = v := by
  have hc := s.dev.core_released v
  obtain ⟨hcore, hrd⟩ := Dev.romLet_shows (s := s.dev.released v) puf still cool (by rw [hc]) (by rw [hc])
  rw [State.powerOnReset_eq]
  constructor
  · exact hcore.trans (by rw [hc])
  · exact (hrd _ (by simp [Reg.stands, Obj.strapValues])).trans (s.dev.rd_released_straps hv)

/-! ### Warm reset -/

/-- Repairs, and domains that no rail feeds, as a warm reset finds them (R609). -/
def Dev.rewarmed (s : Dev) : Dev := (s.warmKept.repairsKept s).unfedOff

/-- A governor's state shown again, with the voltage change that its rail is in (R609). -/
def Dev.paceReshow (s old : Dev) (k : Nat) : Dev :=
  (if (old.pace k).changeF = 0 then s else s.setF (Obj.paceStatus k) 16 2 (old.getF (Obj.paceStatus k) 16 2)).paceShow k

/-- The device that a warm reset boots: the straps sampled again, and the governors' states shown (R609). -/
def Dev.warmed (s : Dev) : Dev := (s.rewarmed.strapPorts (s.rd Obj.strapValues)).each 4 (fun k d => d.paceReshow s k)

/-- The registers of the time base outlive a warm reset (R529, R609). -/
theorem Dev.rd_warmKept (s : Dev) {r : Reg} (h : timeBaseKey r.key = true) : s.warmKept.rd r = s.rd r :=
  Tab.get_filter_kept _ _ _ _ fun _ => by simp [warmKeeps, h]

theorem Dev.stands_rewarmed (s : Dev) : s.warmKept.stands s.rewarmed := ((Dev.stands.refl _).repairsKept s).unfedOff

theorem Dev.stands.paceReshow {s t : Dev} (h : s.stands t) (old : Dev) {k : Nat} (hk : k < 4) : s.stands (t.paceReshow old k) := by
  refine Dev.stands.paceShow ?_ hk
  split
  · exact h
  · exact h.setF _ _ _ (by simp only [Reg.stands, Obj.paceStatus, Reg.at_key]; omega)

theorem Dev.stands_warmed (s : Dev) : (s.rewarmed.wr Obj.strapValues (s.rd Obj.strapValues)).stands s.warmed :=
  (Dev.stands_strapPorts _ _).each fun _ hk _ hu => hu.paceReshow s hk

theorem Dev.core_warmKept (s : Dev) : s.warmKept.core =
    { alive := true, frozen := false, stopped := false, bootWait := false, f := s.f, aon := s.aon, held := [], mram0 := s.mram0, mram1 := s.mram1,
      tjLast := s.tjLast } := rfl

theorem Dev.core_warmed (s : Dev) : s.warmed.core = s.warmKept.core := by
  rw [s.stands_warmed.1, Dev.core_wr, s.stands_rewarmed.1]

/-- A register of the time base's settings reads after a warm reset as before it (R609). -/
theorem Dev.rd_warmed (s : Dev) {r : Reg} (ht : timeBaseKey r.key = true) (hr : 0x300100 ≤ r.key ∧ r.key < 0x300300) : s.warmed.rd r = s.rd r :=
  calc s.warmed.rd r
      = (s.rewarmed.wr Obj.strapValues (s.rd Obj.strapValues)).rd r := s.stands_warmed.2 r (.inl hr)
    _ = s.rewarmed.rd r := Dev.rd_wr_other _ _ (by simp only [Obj.strapValues, Reg.at_key]; omega)
    _ = s.warmKept.rd r := s.stands_rewarmed.2 r (.inl hr)
    _ = s.rd r := s.rd_warmKept ht

/-- A warm reset lets the boot chain run on the device above, with what PUF correction yields. -/
theorem State.warmReset_eq {s : State} (puf : Bool) (hd : s.dev.domOn 179 = true) (hs : s.dev.stopped = false) :
    s.warmReset puf = { dev := ({ s.dev.warmed with pufOk := puf } : Dev).boot, mem := {}, pending := s.pending } := by
  unfold State.warmReset
  rw [if_neg (by simp [hd, hs])]
  rfl

section
variable (s : Dev) (puf : Bool)

theorem Dev.core_pufOk : ({ s with pufOk := puf } : Dev).core = s.core := rfl

theorem Dev.rd_pufOk (r : Reg) : ({ s with pufOk := puf } : Dev).rd r = s.rd r := rfl

end

/-- What a warm reset leaves (R609). -/
theorem State.warmReset_shows {s : State} (puf : Bool) (hd : s.dev.domOn 179 = true) (hs : s.dev.stopped = false) :
    (s.warmReset puf).dev.core =
      { alive := true, frozen := false, stopped := false, bootWait := false, f := s.dev.f, aon := s.dev.aon, held := [], mram0 := s.dev.mram0,
        mram1 := s.dev.mram1, tjLast := s.dev.tjLast } ∧
    ∀ r : Reg, timeBaseKey r.key = true → 0x300100 ≤ r.key ∧ r.key < 0x300300 → (s.warmReset puf).dev.rd r = s.dev.rd r := by
  rw [State.warmReset_eq puf hd hs]
  constructor
  · rw [Dev.core_boot, Dev.core_pufOk, Dev.core_warmed, Dev.core_warmKept]
  · intro r ht hr
    rw [Dev.rd_boot _ (.inl hr), Dev.rd_pufOk, s.dev.rd_warmed ht hr]

/-! ### Loss of the supplies -/

/-- Of the registers only the fuses outlive a loss of the supplies (R608). -/
theorem State.rd_suppliesLost (s : State) (r : Reg) :
    s.suppliesLost.dev.rd r = if r.key / 256 = 0x9001 then s.dev.rd r else objDefault r.key := by
  by_cases h : r.key / 256 = 0x9001
  · rw [if_pos h]
    exact Tab.get_filter_kept _ _ _ _ fun _ => by simp [h]
  · rw [if_neg h]
    exact Tab.get_filter_gone _ _ _ _ fun _ => by simp [h]

end Sys2Proof.Machine
end

section
/-! Readings of Tj (R616, R617): what is shown, the thermal shutdown, and what the governor of the die then leaves standing. -/

namespace Sys2Proof.Machine

open Sys2Proof

/-! ### A register as two's complement -/

/-- A number that 16 bits hold in two's complement reads back as written (R462). -/
theorem signed_unsigned_16 {i : Int} (h0 : -32768 ≤ i) (h1 : i < 32768) : signed 16 (unsigned 16 i % 2 ^ 16) = i := by
  simp only [signed, unsigned]
  norm_num
  omega

theorem Dev.rdI_wrI_16 (s : Dev) {r : Reg} (hr : r.bits = 16) {i : Int} (h0 : -32768 ≤ i) (h1 : i < 32768) : (s.wrI r i).rdI r = i := by
  unfold Dev.rdI Dev.wrI
  rw [Dev.rd_wr_same, hr]
  exact signed_unsigned_16 h0 h1

/-! ### A reading shown -/

section
variable (s : Dev) (d : Nat) (t : Int)

theorem Dev.core_sedExtreme (off : Nat) (least : Bool) (v : Int) : (s.sedExtreme off least v).core = s.core := by
  unfold Dev.sedExtreme
  extract_lets b
  cases b <;> rfl

theorem Dev.rd_sedExtreme (off : Nat) (least : Bool) (v : Int) (r : Reg) : (s.sedExtreme off least v).rd r = s.rd r := by
  unfold Dev.sedExtreme
  extract_lets b
  cases b <;> rfl

/-- The AboveLimit bits change no register but ThermalStatus (R616). -/
theorem Dev.aboveLimit_cases : s.aboveLimit d t = s ∨ ∃ v, s.aboveLimit d t = s.wr Obj.thermalStatus v := by
  unfold Dev.aboveLimit
  split
  · exact .inr ⟨_, rfl⟩
  · split
    · exact .inr ⟨_, rfl⟩
    · exact .inl rfl

theorem Dev.aboveLimit_out (h : t < -5120 ∨ 13440 ≤ t) : s.aboveLimit d t = s.setBit Obj.thermalStatus d true := if_pos h

theorem Dev.core_aboveLimit : (s.aboveLimit d t).core = s.core := by
  obtain h | ⟨v, h⟩ := s.aboveLimit_cases d t <;> rw [h]
  exact s.core_wr _ v

theorem Dev.rd_aboveLimit {r : Reg} (hr : r.key ≠ Obj.thermalStatus.key) : (s.aboveLimit d t).rd r = s.rd r := by
  obtain h | ⟨v, h⟩ := s.aboveLimit_cases d t <;> rw [h]
  exact s.rd_wr_other v hr

/-- The device with a reading shown, offered to the recorder's extremes, and judged against the limits (R581, R616). -/
def Dev.tjShown : Dev :=
  ((({ s with tjLast := Tab.put 0 s.tjLast d t } : Dev).wrI (Obj.dieTemperature d) t).sedExtreme (0x1100 + 16 * d) false t).aboveLimit d t

theorem Dev.core_tjShown : (s.tjShown d t).core = { s.core with tjLast := Tab.put 0 s.tjLast d t } := by
  unfold Dev.tjShown
  rw [Dev.core_aboveLimit, Dev.core_sedExtreme, Dev.wrI, Dev.core_wr]
  rfl

theorem Dev.rdI_tjShown (hd : d < 6) {i : Int} (h0 : -32768 ≤ i) (h1 : i < 32768) : (s.tjShown d i).rdI (Obj.dieTemperature d) = i := by
  have hne : (Obj.dieTemperature d).key ≠ Obj.thermalStatus.key := by
    simp only [Obj.dieTemperature, Obj.thermalStatus, Reg.at_key]
    omega
  have hw := Dev.rdI_wrI_16 { s with tjLast := Tab.put 0 s.tjLast d i } (r := Obj.dieTemperature d) rfl h0 h1
  unfold Dev.rdI at hw ⊢
  unfold Dev.tjShown
  rw [Dev.rd_aboveLimit _ _ _ hne, Dev.rd_sedExtreme, hw]

theorem Dev.bit_tjShown (hd : d < 6) (h : t < -5120 ∨ 13440 ≤ t) : (s.tjShown d t).bit Obj.thermalStatus d = true := by
  unfold Dev.tjShown
  rw [Dev.aboveLimit_out _ _ _ h]
  exact Dev.bit_setBit_same _ _ _ (by simp only [Obj.thermalStatus, Reg.at_bits]; omega)

end

/-! ### The thermal shutdown -/

/-- A rail goes off (R542, R617). -/
def Dev.railDown (s : Dev) (r : Nat) : Dev := (s.setF (Obj.railState r) 0 2 0).emit (.pmbus r false)

section
variable (s : Dev)

theorem Dev.rd_railDown (k : Nat) {r : Reg} (h : r.key ≠ (Obj.railState k).key) : (s.railDown k).rd r = s.rd r := s.rd_setF_other _ _ _ h

/-- A rail that is off, or that is among those turned off, is off. -/
theorem Dev.railsDown_off (l : List Nat) {r : Nat} (h : s.getF (Obj.railState r) 0 2 = 0 ∨ r ∈ l) :
    (l.foldl Dev.railDown s).getF (Obj.railState r) 0 2 = 0 := by
  induction l generalizing s with
  | nil => exact h.resolve_right List.not_mem_nil
  | cons k l ih =>
    refine ih (s.railDown k) ?_
    by_cases hk : r = k
    · subst hk
      exact .inl (s.getF_setF_same _ 0 (by simp [Obj.railState]))
    · refine (h.imp (fun h0 => ?_) fun hm => (List.mem_cons.mp hm).resolve_left hk)
      rw [Dev.getF_eq _ _ _ 0 2 (s.rd_railDown k (by simp only [Obj.railState, Reg.at_key]; omega)), h0]

theorem Dev.rd_railsDown (l : List Nat) {r : Reg} (h : ∀ k ∈ l, r.key ≠ (Obj.railState k).key) : (l.foldl Dev.railDown s).rd r = s.rd r :=
  List.foldlRecOn l Dev.railDown (motive := fun u : Dev => u.rd r = s.rd r) rfl fun u hu k hk => (u.rd_railDown k (h k hk)).trans hu

theorem Dev.getF_railsDown (l : List Nat) {r : Reg} (lo w : Nat) (h : ∀ k ∈ l, r.key ≠ (Obj.railState k).key) :
    (l.foldl Dev.railDown s).getF r lo w = s.getF r lo w := Dev.getF_eq _ _ _ lo w (s.rd_railsDown l h)

/-- The rails in the order in which a thermal shutdown turns them off (R606, R617). -/
def tripRails : List Nat := [0, 1, 2, 3, 7, 8, 6, 5, 4, 9]

theorem mem_tripRails {r : Nat} : r ∈ tripRails ↔ r < 10 := by
  simp only [tripRails, List.mem_cons, List.not_mem_nil, or_false]
  omega

theorem Dev.thermalTrip_eq (d : Nat) : s.thermalTrip d =
    { tripRails.foldl Dev.railDown ((s.setBit Obj.thermalStatus 6 true).setF Obj.thermalStatus 7 3 d) with thermtrip := true, alive := false } := rfl

/-- A thermal shutdown: ThermalStatus keeps the die, and every rail but VDD_AON is off (R617). -/
theorem Dev.thermalTrip_shows {d : Nat} (hd : d < 6) :
    (s.thermalTrip d).alive = false ∧ (s.thermalTrip d).thermtrip = true ∧ (s.thermalTrip d).bit Obj.thermalStatus 6 = true ∧
    (s.thermalTrip d).getF Obj.thermalStatus 7 3 = d ∧ ∀ r, r < 10 → (s.thermalTrip d).getF (Obj.railState r) 0 2 = 0 := by
  have hne : ∀ k ∈ tripRails, Obj.thermalStatus.key ≠ (Obj.railState k).key := by
    intro k hk
    have := mem_tripRails.mp hk
    simp only [Obj.thermalStatus, Obj.railState, Reg.at_key]
    omega
  have hbits : Obj.thermalStatus.bits = 32 := rfl
  rw [Dev.thermalTrip_eq]
  generalize hu : (s.setBit Obj.thermalStatus 6 true).setF Obj.thermalStatus 7 3 d = u
  have h6 : u.bit Obj.thermalStatus 6 = true := by
    rw [← hu, Dev.bit_setF_other _ _ _ (by omega) (by omega), Dev.bit_setBit_same _ _ _ (by omega)]
  have h7 : u.getF Obj.thermalStatus 7 3 = d := by
    rw [← hu, Dev.getF_setF_same _ _ _ (by omega)]
    omega
  refine ⟨rfl, rfl, ?_, ?_, fun r hr => ?_⟩
  · rw [← h6]
    exact Dev.bit_eq _ _ _ _ (u.rd_railsDown tripRails hne)
  · rw [← h7]
    exact u.getF_railsDown tripRails 7 3 hne
  · exact u.railsDown_off tripRails (.inr (mem_tripRails.mpr hr))

end

/-! ### What a die's governor leaves standing -/

section
variable {s t : Dev} (h : s.stands t) {d : Nat} (hd : d < 4)

/-- PaceStatus and VoltageTarget of a compute die are none of the registers that stand. -/
theorem paceStatus_not_stands {d : Nat} (hd : d < 4) : ¬ (Obj.paceStatus d).stands := by
  simp only [Reg.stands, Obj.paceStatus, Reg.at_key]
  omega

theorem voltageTarget_not_stands {d : Nat} (hd : d < 4) : ¬ (Obj.voltageTarget d).stands := by
  simp only [Reg.stands, Obj.voltageTarget, Reg.at_key]
  omega

include h hd

theorem Dev.stands.paceResult (code : Nat) : s.stands (t.paceResult d code) := h.setF _ _ _ (paceStatus_not_stands hd)

theorem Dev.stands.capTake (c : Nat) : s.stands (t.capTake d c) := by
  cases ht : t.throttled d
  · rw [t.capTake_unthrottled d c ht]
    exact (h.updPace d _).setF _ _ _ (paceStatus_not_stands hd)
  · rw [t.capTake_throttled d c ht]
    exact h.updPace d _

theorem Dev.stands.voltStart (v : Nat) : s.stands (t.voltStart d v) :=
  ((((h.updPace d _).wr v (voltageTarget_not_stands hd)).setF _ _ _ (paceStatus_not_stands hd)).emit _).paceShow hd

theorem Dev.stands.capJudge (q : Requester) (v : Nat) : s.stands (t.capJudge q d v) := by
  unfold Dev.capJudge
  split
  · exact (((h.capTake hd v).paceResult hd 0).paceShow hd).accept q
  · split
    · exact (((h.updPace d _).paceResult hd _).paceShow hd).accept q
    · exact (h.paceResult hd _).refuse q _

theorem Dev.stands.voltJudge (q : Requester) (v : Nat) : s.stands (t.voltJudge q d v) := by
  unfold Dev.voltJudge
  split
  · exact (h.paceResult hd _).refuse q _
  · split
    · exact h.accept q
    · split
      · exact (h.paceResult hd _).refuse q _
      · split
        · exact (((h.wr v (voltageTarget_not_stands hd)).paceResult hd 0).paceShow hd).accept q
        · exact (((h.voltStart hd v).updPace d _).paceResult hd _).accept q

theorem Dev.stands.paceRelease : s.stands (t.paceRelease d) := by
  unfold Dev.paceRelease
  refine foldl_holds (fun u => s.stands u) _ (fun u r hu => ?_) _ ((h.updPace d _).paceShow hd)
  split
  · exact hu.capJudge hd r.q _
  · exact hu.voltJudge hd r.q _

theorem Dev.stands.throttleStart : s.stands (t.throttleStart d) := by
  unfold Dev.throttleStart
  split
  · exact (((h.setBit _ _ (paceStatus_not_stands hd)).setF _ _ _ (paceStatus_not_stands hd)).updPace d _).paceShow hd
  · exact h

end

/-- A device whose boot chain does not wait notes only that a die has cooled (R617). -/
theorem Dev.stands.cooled {s t : Dev} (h : s.stands t) (hb : t.bootWait = false) (d : Nat) (i : Int) : s.stands (t.cooled d i) := by
  unfold Dev.cooled
  extract_lets u
  have hu : s.stands u ∧ u.bootWait = false := by
    by_cases hi : i < 12160
    · simp only [u, if_pos hi]
      exact ⟨h, hb⟩
    · simp only [u, if_neg hi]
      exact ⟨h, hb⟩
  rw [if_neg (by simp [hu.2])]
  exact hu.1

/-! ### A reading -/

/-- What a compute die's governor does at a reading: at the first one it judges the writes that it holds; 100 °C starts the throttle (R64, R67). -/
def Dev.tjGoverned (s : Dev) (d : Nat) (first : Bool) : Dev :=
  if d < 4 then ((if first then (s.setF (Obj.paceStatus d) 8 8 (s.supportedAt d (s.presentVolt d))).paceRelease d else s.paceShow d).throttleStart d) else s

theorem Dev.stands_tjGoverned (s : Dev) (d : Nat) (first : Bool) : s.stands (s.tjGoverned d first) := by
  unfold Dev.tjGoverned
  split
  · next hd =>
    refine Dev.stands.throttleStart ?_ hd
    split
    · exact ((Dev.stands.refl s).setF _ _ _ (paceStatus_not_stands hd)).paceRelease hd
    · exact (Dev.stands.refl s).paceShow hd
  · exact Dev.stands.refl s

theorem Dev.tjReading_tripped {s : Dev} {d : Nat} {t : Int} (h : 14720 ≤ t) : s.tjReading d t = (s.tjShown d t).thermalTrip d := if_pos h

theorem Dev.tjReading_governed {s : Dev} {d : Nat} {t : Int} (h : t < 14720) :
    s.tjReading d t = ((s.tjShown d t).tjGoverned d (decide (d < 4) && !s.tjSeen d)).cooled d t := if_neg (by omega)

/-- A reading below 115 °C of a device whose boot chain has run leaves standing what it has shown (R616). -/
theorem Dev.stands_tjReading {s : Dev} {d : Nat} {t : Int} (h : t < 14720) (hb : s.bootWait = false) : (s.tjShown d t).stands (s.tjReading d t) := by
  have hg := (s.tjShown d t).stands_tjGoverned d (decide (d < 4) && !s.tjSeen d)
  rw [Dev.tjReading_governed h]
  refine hg.cooled ?_ d t
  rw [← Dev.core_bootWait, hg.1, Dev.core_tjShown]
  exact hb

/-- What such a reading leaves: the reading shown, and the die's AboveLimit outside −40 °C to 105 °C (R616). -/
theorem Dev.tjReading_shows {s : Dev} {d : Nat} (hd : d < 6) {t : Int} (h0 : -32768 ≤ t) (h : t < 14720) (hb : s.bootWait = false) :
    (s.tjReading d t).rdI (Obj.dieTemperature d) = t ∧ (s.tjReading d t).alive = s.alive ∧ Tab.get 0 (s.tjReading d t).tjLast d = t ∧
    ((t < -5120 ∨ 13440 ≤ t) → (s.tjReading d t).bit Obj.thermalStatus d = true) := by
  obtain ⟨hcore, hrd⟩ := Dev.stands_tjReading (d := d) h hb
  refine ⟨?_, ?_, ?_, fun ho => ?_⟩
  · rw [Dev.rdI, hrd _ (by simp only [Reg.stands, Obj.dieTemperature, Reg.at_key]; omega)]
    exact s.rdI_tjShown d hd h0 (by omega)
  · rw [← Dev.core_alive, hcore, Dev.core_tjShown]
    rfl
  · rw [← Dev.core_tjLast, hcore, Dev.core_tjShown]
    exact Tab.get_put_same _ _ _
  · rw [Dev.bit_eq _ _ _ d (hrd Obj.thermalStatus (by simp [Reg.stands, Obj.thermalStatus]))]
    exact s.bit_tjShown d t hd ho

end Sys2Proof.Machine
end

section
/-! The turn-off of IOD0 base (R526): which memories its link losses reach, and what its wakes leave. -/

namespace Sys2Proof.Machine

open Sys2Proof

/-! ### The scratchpads and the queue, where the GDDR6 array is written -/

/-- The scratchpads, their faults, and the queue of waiting commands. -/
def State.pads (s : State) : List Host.Cell × Tab Bool × List Instr := (s.mem.pad, s.mem.padBad, s.pending)

section
variable (s : State)

theorem State.pads_dev (d : Dev) : ({ s with dev := d } : State).pads = s.pads := rfl

theorem State.pads_gddrPutByte (t a : Nat) (b : Byte) : (s.gddrPutByte t a b).pads = s.pads := by
  unfold State.gddrPutByte
  split <;> rfl

theorem State.pads_gddrMark (t blk : Nat) (whole bad : Bool) : (s.gddrMark t blk whole bad).pads = s.pads := by
  unfold State.gddrMark
  split
  · rfl
  · refine foldl_keeps State.pads _ (fun u x => ?_) _ s
    split
    · rfl
    · by_cases hw : whole = true
      · rw [if_pos hw]
        rfl
      · rw [if_neg hw]
        cases bad <;> rfl

theorem State.pads_zeroRange (t a n : Nat) : (s.zeroRange t a n).pads = s.pads := by
  unfold State.zeroRange State.gddrPut State.gddrWrite
  dsimp only
  rw [loop, foldl_keeps State.pads _ (fun u i => u.pads_gddrMark t _ _ _), foldl_keeps State.pads _ (fun u b => u.pads_gddrPutByte t _ _)]

theorem State.pads_planFree (p : Nat) : (s.planFree p).pads = s.pads := by
  unfold State.planFree
  dsimp only
  rw [State.pads_dev]
  refine foldl_keeps State.pads _ (fun u a => ?_) _ s
  split
  · exact u.pads_zeroRange ..
  · rfl

theorem State.pads_loadsAborted : s.loadsAborted.pads = s.pads := by
  refine foldl_keeps State.pads _ (fun u p => ?_) _ s
  dsimp only
  split
  · exact u.pads_planFree p
  · rfl

theorem State.pads_linkDown (h queued : Nat) : (s.linkDown h queued).pads = s.pads := by
  unfold State.linkDown
  split
  · rfl
  · exact (State.pads_loadsAborted _).trans (s.pads_dev _)

end

/-! ### The entry of the clocked domain, where a domain wakes -/

/-- Whether the clocked domain waits for its entry, and the turn-off of IOD0 base that stands. -/
def Dev.baseEntry (s : Dev) : Bool × Nat × Nat := (s.entryWait, s.baseOff)

section
variable (s : Dev)

theorem Dev.baseEntry_setF (r : Reg) (lo w v : Nat) : (s.setF r lo w v).baseEntry = s.baseEntry := rfl

theorem Dev.baseEntry_setBit (r : Reg) (i : Nat) (b : Bool) : (s.setBit r i b).baseEntry = s.baseEntry := rfl

theorem Dev.baseEntry_bump (r : Reg) : (s.bump r).baseEntry = s.baseEntry := rfl

theorem Dev.baseEntry_emit (o : Out) : (s.emit o).baseEntry = s.baseEntry := rfl

theorem Dev.baseEntry_updDom (n : Nat) (f : Domain → Domain) : (s.updDom n f).baseEntry = s.baseEntry := rfl

theorem Dev.baseEntry_silted (x : Tab Bool) : ({ s with silted := x } : Dev).baseEntry = s.baseEntry := rfl

theorem Dev.baseEntry_silt (c : Nat) : (s.silt c).baseEntry = s.baseEntry := Dev.each_keeps Dev.baseEntry _ _ (fun _ u => u.baseEntry_silted _) s

theorem Dev.baseEntry_railOn (r : Nat) : (s.railOn r).baseEntry = s.baseEntry := by
  unfold Dev.railOn
  split
  · rw [Dev.baseEntry_emit, Dev.baseEntry_setF]
    rfl
  · rfl

theorem Dev.baseEntry_wakeOne (n : Nat) : (s.wakeOne n).baseEntry = s.baseEntry := by
  unfold Dev.wakeOne
  extract_lets st u1 u2 u3
  have h1 : u1.baseEntry = s.baseEntry := by rw [Dev.baseEntry_updDom, Dev.baseEntry_setF]
  have h2 : u2.baseEntry = u1.baseEntry := by
    simp only [u2]
    split
    · exact u1.baseEntry_railOn _
    · rfl
  have h3 : u3.baseEntry = u2.baseEntry := by
    simp only [u3]
    split
    · exact u2.baseEntry_railOn _
    · rfl
  have h : u3.baseEntry = s.baseEntry := h3.trans (h2.trans h1)
  by_cases ha : st = 3
  · rw [if_pos ha, Dev.baseEntry_updDom]
  · rw [if_neg ha]
    by_cases hb : st = 1 ∨ st = 2
    · rw [if_pos hb]
      by_cases hn : n < 128
      · rw [if_pos hn, Dev.baseEntry_silt, h]
      · rw [if_neg hn, h]
    · rw [if_neg hb]

theorem Dev.baseEntry_wake (n : Nat) : (s.wake n).baseEntry = s.baseEntry := by
  unfold Dev.wake
  split
  · rfl
  · rw [Dev.baseEntry_wakeOne]
    split
    · exact s.baseEntry_wakeOne 180
    · rfl

theorem Dev.baseEntry_wakeIssued (i : Nat) : (s.wakeIssued i).baseEntry = s.baseEntry := by
  unfold Dev.wakeIssued
  extract_lets sec x n u
  have hu : u.baseEntry = s.baseEntry := Dev.baseEntry_bump _ _
  split
  · rw [Dev.baseEntry_setBit, hu]
  · exact hu

theorem Dev.baseEntry_levelWakes (n : Nat) : (s.levelWakes n).baseEntry = s.baseEntry := by
  refine Dev.each_keeps Dev.baseEntry _ _ (fun i u => ?_) s
  split
  · rw [Dev.baseEntry_wakeIssued, Dev.baseEntry_wake]
  · rfl

end

/-! ### The turn-off -/

/-- The state after the orderly commit and the loss of the requester's two links (R526). -/
def State.baseLinksDown (s : State) (p : Nat) : State :=
  (({ s with dev := s.dev.commitOrderly } : State).linkDown (2 * (p / 2)) 0).linkDown (2 * (p / 2) + 1) 0

theorem State.pads_baseLinksDown (s : State) (p : Nat) : (s.baseLinksDown p).pads = s.pads := by
  rw [State.baseLinksDown, State.pads_linkDown, State.pads_linkDown, State.pads_dev]

/-- The domains that go off with IOD0 base, and its rails; the entry of the clocked domain waits (R526, R542). -/
def Dev.baseOffEntered (s : Dev) (p : Nat) : Dev :=
  let d := ((s.setF (Obj.domainState (endpointDomain p)) 0 3 2).setF (Obj.domainState 172) 0 3 2).setF (Obj.domainState 179) 0 3 2
  let d := { d.setBit (Obj.domainState 179) 3 true with entryWait := true, baseOff := (0, 0) }
  ([7, 8, 6, 5, 4, 9] : List Nat).foldl (fun (d : Dev) r => (d.setF (Obj.railState r) 0 2 0).emit (.pmbus r false)) d

theorem Dev.baseEntry_baseOffEntered (s : Dev) (p : Nat) : (s.baseOffEntered p).baseEntry = (true, 0, 0) :=
  foldl_keeps Dev.baseEntry _ (fun d r => by rw [Dev.baseEntry_emit, Dev.baseEntry_setF]) _ _

theorem State.baseDown_due {s : State} {p at_ : Nat} (hb : s.dev.baseOff = (p + 1, at_)) (hd : s.dev.domOn 179 = true) (hf : at_ + 1000000 ≤ s.dev.f) :
    s.baseDown = { s.baseLinksDown p with
      dev := ((s.baseLinksDown p).dev.baseOffEntered p).levelWakes 179
      mem := { (s.baseLinksDown p).mem with gddr := [], gddrBad := [], gddrErr := [] } } := by
  unfold State.baseDown
  rw [hb]
  dsimp only
  rw [if_pos ⟨hd, hf⟩]
  rfl

/-- What the turn-off leaves: the clocked domain's entry waits, the GDDR6 array is empty, and the scratchpads and the queue are as they were (R526). -/
theorem State.baseDown_shows {s : State} {p at_ : Nat} (hb : s.dev.baseOff = (p + 1, at_)) (hd : s.dev.domOn 179 = true) (hf : at_ + 1000000 ≤ s.dev.f) :
    s.baseDown.dev.baseEntry = (true, 0, 0) ∧ s.baseDown.mem.gddr = [] ∧ s.baseDown.pads = s.pads := by
  rw [State.baseDown_due hb hd hf]
  refine ⟨?_, rfl, s.pads_baseLinksDown p⟩
  rw [Dev.baseEntry_levelWakes, Dev.baseEntry_baseOffEntered]

end Sys2Proof.Machine
end

section
/-! The claim about temperature readings, resets, supplies and IOD0 base. -/

namespace Sys2Proof.Machine

open Sys2Proof

/-- Settles O11: each of the five commands by what its operation leaves of the device's core, of the registers that stand, and of the memories. -/
theorem packageStates : Obligations.PackageStates := by
  unfold Obligations.PackageStates
  simp only [exec, execTjReading, execPowerOnReset, execWarmReset, execLossOfSupplies, execIod0BaseOff]
  refine ⟨fun s d v ha => ⟨fun ht hb => ?_, fun ht => ?_⟩, ⟨fun s straps puf still cool => ?_, fun s puf ha hd hs => ?_, fun s => ?_⟩,
    fun s p at_ hu hb hf => ?_⟩
  · have h0 : -32768 ≤ v.toInt := BitVec.le_toInt v
    obtain ⟨htemp, hal, hlast, hbit⟩ := Dev.tjReading_shows (s := s.dev.fresh) d.isLt h0 ht hb
    exact ⟨_, State.act_next _ ha, htemp, hal.trans ha, hlast, hbit, s.sameRest_dev _⟩
  · refine ⟨_, State.act_next _ ha, ?_⟩
    rw [Dev.tjReading_tripped ht]
    obtain ⟨hal, htrip, h6, h7, hrails⟩ := (s.dev.fresh.tjShown d v.toInt).thermalTrip_shows d.isLt
    exact ⟨hal, htrip, h6, h7, hrails, s.sameRest_dev _⟩
  · refine ⟨_, rfl, ?_⟩
    obtain ⟨hcore, hstraps⟩ := s.powerOnReset_shows puf still cool straps.isLt
    generalize hr : s.powerOnReset straps.toNat puf still cool = t at hcore hstraps
    have hmem : t.mem = {} ∧ t.pending = s.pending := by
      rw [← hr, State.powerOnReset_eq]
      exact ⟨rfl, rfl⟩
    exact ⟨hmem.1, congrArg Core.alive hcore, congrArg Core.frozen hcore, congrArg Core.bootWait hcore, congrArg Core.f hcore, congrArg Core.aon hcore,
      hstraps, congrArg Core.mram0 hcore, congrArg Core.mram1 hcore, hmem.2⟩
  · refine ⟨_, rfl, ?_⟩
    rw [if_pos ha]
    obtain ⟨hcore, hrd⟩ := State.warmReset_shows puf hd hs
    generalize hr : s.warmReset puf = t at hcore hrd
    have hmem : t.mem = {} ∧ t.pending = s.pending := by
      rw [← hr, State.warmReset_eq puf hd hs]
      exact ⟨rfl, rfl⟩
    exact ⟨hmem.1, congrArg Core.f hcore, congrArg Core.aon hcore, congrArg Core.frozen hcore, congrArg Core.bootWait hcore, congrArg Core.held hcore,
      hrd _ rfl (by simp [Obj.timeOffset]), hrd _ rfl (by simp [Obj.rateAdjust]), congrArg Core.mram0 hcore, congrArg Core.mram1 hcore, hmem.2⟩
  · refine ⟨_, rfl, rfl, rfl, fun r hr => ?_, fun r hr => ?_, rfl, rfl, rfl⟩ <;> rw [State.rd_suppliesLost]
    · rw [if_neg hr]
    · rw [if_pos hr]
  · obtain ⟨hw, hd⟩ := hu
    refine ⟨_, State.runM_next _ hw, ?_⟩
    have hd' : s.start.dev.domOn 179 = true := hd
    obtain ⟨hentry, hgddr, hpads⟩ := State.baseDown_shows (s := s.start) hb hd' hf
    generalize s.start.baseDown = t at hentry hgddr hpads ⊢
    exact ⟨congrArg Prod.fst hentry, congrArg Prod.snd hentry, hgddr, congrArg Prod.fst hpads, congrArg (fun x => x.2.1) hpads,
      congrArg (fun x => x.2.2) hpads⟩

end Sys2Proof.Machine
end

section
/-! Detections (R37, R551 to R556): a handshake watchdog names no region router that is off, so the claim that every detection puts an entry in its queue
fails for the router of a region whose clusters are all off. -/

namespace Sys2Proof.Machine

open Sys2Proof

/-- A region router that is off takes no request (R37): its watchdog changes nothing. -/
theorem handshakeWatchdog_routerOff {s : State} {r : Fin 16} (hw : s.dev.working = true) (hr : s.dev.routerOn r.val = false) :
    exec (.handshakeWatchdog (.region r)) s = .next s.start := by
  have hr' : s.dev.fresh.routerOn r.val = false := hr
  simp only [exec, execHandshakeWatchdog]
  rw [State.run_next _ hw, if_neg (by simp [hr'])]

/-- A device whose clusters are all in service and sound, with the eight of region 0 off. -/
def regionZeroOff : State where
  dev := (List.range 8).foldl (fun d c => d.setF (Obj.domainState c) 0 3 2)
    { dict := (List.range 128).map (fun c => ((Obj.clusterHealth c).key, 4)) }

/-- Refutes O23: in `regionZeroOff` nothing is queued, handled or failed, so the first clause wants an entry of class 0x06 from the watchdog on region 0;
that region's router is off, and the watchdog leaves the queue empty. The claim lacks the premise that the watched element is on (R37, log 126). -/
theorem not_detectionsQueue : ¬ Obligations.DetectionsQueue := by
  unfold Obligations.DetectionsQueue
  intro h
  have hw : regionZeroOff.dev.working = true := by decide +kernel
  have hoff : regionZeroOff.dev.routerOn 0 = false := by decide +kernel
  have hout : regionZeroOff.dev.alreadyOut (.region 0) = false := by decide +kernel
  obtain ⟨hdetect, -, -⟩ := h regionZeroOff hw
  obtain ⟨hfresh, -, -⟩ := hdetect (.inl (.region 0)) 0 (by decide) (by decide) (by decide)
  obtain ⟨t, ht, hqueue, -⟩ := hfresh rfl rfl rfl hout (by decide)
  rw [handshakeWatchdog_routerOff (r := 0) hw hoff] at ht
  cases ht
  have hlen : 0 = 1 := congrArg (fun x => x.entries.length) hqueue
  omega

end Sys2Proof.Machine
end

section
/-! The stop of a die (R556, R558): what its steps leave of the registers, of the plans and of the layers in progress. -/

namespace Sys2Proof.Machine

open Sys2Proof

/-! ### Repetition -/

/-- A repetition each of whose rounds leaves the device as it is leaves it as it is. -/
theorem Dev.each_eq_self {s : Dev} {n : Nat} {f : Nat → Dev → Dev} (h : ∀ i < n, f i s = s) : s.each n f = s :=
  List.foldlRecOn (List.range n) _ (motive := fun u => u = s) rfl fun u hu i hi => by rw [hu, h i (List.mem_range.mp hi)]

/-- What every round below `n` keeps true, the repetition keeps true. -/
theorem Dev.each_holds {s : Dev} {n : Nat} {f : Nat → Dev → Dev} (p : Dev → Prop) (hs : p s) (h : ∀ i < n, ∀ u : Dev, p u → p (f i u)) : p (s.each n f) :=
  List.foldlRecOn (List.range n) _ hs fun u hu i hi => h i (List.mem_range.mp hi) u hu

theorem Dev.each_succ (s : Dev) (n : Nat) (f : Nat → Dev → Dev) : s.each (n + 1) f = f n (s.each n f) := by
  simp [Dev.each, loop, List.range_succ]

/-! ### Records and the relay write no register -/

/-- The registers, the plans, the layers and the fault queues. -/
def Dev.faultView (s : Dev) : Tab Nat × Tab PlanSlot × Tab Layer × Tab FaultQueue := (s.dict, s.plans, s.layers, s.faultQ)

section
variable (s : Dev)

theorem Dev.faultView_emitRecord (n type : Nat) (payload : List Byte) (poisoned : Bool) : (s.emitRecord n type payload poisoned).faultView = s.faultView := by
  unfold Dev.emitRecord
  split <;> rfl

theorem Dev.faultView_sendFault (q : Nat) (e : FaultEntry) : (s.sendFault q e).faultView = s.faultView := by
  refine Dev.each_keeps Dev.faultView 8 _ (fun t u => ?_) s
  split
  · exact u.faultView_emitRecord ..
  · rfl

theorem Dev.faultView_sendTerminal (d cause : Nat) : (s.sendTerminal d cause).faultView = s.faultView := by
  refine Dev.each_keeps Dev.faultView 8 _ (fun t u => ?_) s
  split
  · exact u.faultView_emitRecord ..
  · rfl

theorem Dev.dict_sendTerminal (d cause : Nat) : (s.sendTerminal d cause).dict = s.dict := by
  have hv := s.faultView_sendTerminal d cause
  simp only [Dev.faultView, Prod.mk.injEq] at hv
  exact hv.1

theorem Dev.dict_relayReplay (d : Nat) : (s.relayReplay d).dict = s.dict := by
  refine Dev.each_keeps Dev.dict 64 _ (fun _ _ => ?_) s
  rfl

theorem Dev.dict_calibrate (ds : List Nat) : (s.calibrate ds).dict = s.dict := by
  refine foldl_keeps Dev.dict _ (fun _ _ => ?_) ds s
  rfl

theorem Dev.dict_recalibrated (f : Nat) (ds : List Nat) : (({ s with pathRecalF := f } : Dev).calibrate ds).dict = s.dict := by
  rw [Dev.dict_calibrate]

theorem Dev.dict_relayMoved (before : Option Nat) : (s.relayMoved before).dict = s.dict := by
  unfold Dev.relayMoved
  split
  · rfl
  · cases before with
    | none => exact s.dict_recalibrated _ _
    | some d => exact ((s.relayReplay d).dict_recalibrated _ _).trans (s.dict_relayReplay d)

end

/-! ### Sluices flushed -/

/-- From `s` to `t` the plans stand, and every register but the sluices' counters SluiceDiscardedWords (0x603A) and SluiceFlushes (0x603B). -/
def Dev.flushedOnly (s t : Dev) : Prop := t.plans = s.plans ∧ ∀ r : Reg, r.key / 256 ≠ 0x603A → r.key / 256 ≠ 0x603B → t.rd r = s.rd r

theorem Dev.flushedOnly.sluiceFlush {s t : Dev} (h : s.flushedOnly t) {key : Nat} (hk : key < 1024) : s.flushedOnly (t.sluiceFlush key) := by
  obtain ⟨hplans, hrd⟩ := h
  simp only [Dev.sluiceFlush, Dev.sluiceDiscard, if_pos hk]
  refine ⟨hplans, fun r ha hb => ?_⟩
  rw [Dev.rd_bump_other, Dev.rd_bumpBy_other]
  · exact hrd r ha hb
  · simp only [Obj.sluiceDiscardedWords, Reg.at_key]
    omega
  · simp only [Obj.sluiceFlushes, Reg.at_key]
    omega

theorem Dev.flushedOnly.flushCluster {s t : Dev} (h : s.flushedOnly t) {c : Nat} (hc : c < 128) : s.flushedOnly (t.flushCluster c) :=
  Dev.each_holds s.flushedOnly h fun _ hk _ hu => hu.sluiceFlush (by omega)

/-! ### A plan stopped -/

section
variable (s : Dev)

/-- The stop of a layer that runs makes its State stopped (R245, R368). -/
theorem Dev.getF_layerStop {l : Nat} (h : s.getF (Obj.layerState l) 0 2 = 2) : (s.layerStop l).getF (Obj.layerState l) 0 2 = 1 := by
  unfold Dev.layerStop
  rw [if_pos (by simp [h]), Dev.getF_setBit_other _ _ _ (by omega) (by simp [Obj.layerState]), Dev.getF_setF_same _ _ _ (by simp [Obj.layerState])]
  rfl

theorem Dev.rd_dropWaits (p : PendingWait → Bool) (r : Reg) : (s.dropWaits p).rd r = s.rd r := by
  refine foldl_keeps (fun u : Dev => u.rd r) _ (fun _ _ => ?_) (List.range 4) _
  rfl

theorem Dev.rd_updFerry {f : Nat} (g : Ferry → Ferry) {r : Reg} (hr : r.key / 256 ≠ 0x6060) (hf : f < 40) : (s.updFerry f g).rd r = s.rd r :=
  Dev.rd_setF_other _ _ _ _ (by simp only [Obj.ferryState, Reg.at_key]; omega)

theorem Dev.rd_ferryStop (x : PlanSlot) {f : Nat} {r : Reg} (hr : r.key / 256 ≠ 0x6060) (hf : f < 40) : (s.ferryStop x f).rd r = s.rd r := by
  have hne : r.key ≠ (Obj.ferryState f).key := by
    simp only [Obj.ferryState, Reg.at_key]
    omega
  unfold Dev.ferryStop
  extract_lets ends u v
  have hu : u.rd r = s.rd r := s.rd_updFerry _ hr hf
  have hv : v.rd r = u.rd r := (Dev.rd_setF_other _ _ _ _ hne).trans (u.rd_updFerry _ hr hf)
  split
  · exact (v.rd_dropWaits _ r).trans (hv.trans hu)
  · exact hu

/-- The stop of a plan that holds one layer and no population leaves the layer, where it ran, stopped (R245, R368). -/
theorem Dev.getF_planStop {p l : Nat} (b : Bool) (hpops : (s.plan p).popHandles = []) (hlayers : (s.plan p).layerHandles = [l])
    (hrun : s.getF (Obj.layerState l) 0 2 = 2) : (s.planStop p b).getF (Obj.layerState l) 0 2 = 1 := by
  have hplan : (Obj.layerState l).key ≠ (Obj.planState p).key := by
    simp only [Obj.layerState, Obj.planState, Reg.at_key]
    omega
  have hferry : (Obj.layerState l).key / 256 ≠ 0x6060 := by
    simp only [Obj.layerState, Reg.at_key]
    omega
  unfold Dev.planStop
  extract_lets x shown marked popsStopped layersStopped released unstarted ferriesStopped
  have hx : x.popHandles = [] ∧ x.layerHandles = [l] := ⟨hpops, hlayers⟩
  have hruns : popsStopped.getF (Obj.layerState l) 0 2 = 2 := by
    simp only [popsStopped, hx.1, List.foldl_nil]
    exact (s.getF_wr_other 4 0 2 hplan).trans hrun
  have hstops : layersStopped.getF (Obj.layerState l) 0 2 = 1 := by
    simp only [layersStopped, hx.2, List.foldl_cons, List.foldl_nil]
    exact popsStopped.getF_layerStop hruns
  have hreleased : released.rd (Obj.layerState l) = layersStopped.rd (Obj.layerState l) :=
    foldl_keeps (fun u : Dev => u.rd (Obj.layerState l)) _ (fun u _ => u.rd_updWeir _ _ _) _ _
  have hferries : ferriesStopped.rd (Obj.layerState l) = released.rd (Obj.layerState l) :=
    Dev.each_holds (fun u => u.rd (Obj.layerState l) = released.rd (Obj.layerState l)) rfl fun f hf u hu => (u.rd_ferryStop x hferry hf).trans hu
  rw [← hstops]
  refine Dev.getF_eq _ _ _ 0 2 (Eq.trans ?_ (hferries.trans hreleased))
  exact foldl_keeps (fun u : Dev => u.rd (Obj.layerState l)) _ (fun u _ => u.rd_updWeir _ _ _) _ _

theorem Dev.planFault_loaded {p : Nat} (h : s.rd (Obj.planState p) = 2) : s.planFault p = s.planStop p true := by
  simp [Dev.planFault, h]

end

/-! ### A die stopped -/

/-- A slot without a plan holds nothing of a die. -/
theorem PlanSlot.holdsDie_empty (d : Nat) : ({} : PlanSlot).holdsDie d = false := by
  simp [PlanSlot.holdsDie, PlanSlot.namesFerry]

/-- The stop of compute die `d` while no layer has a tile in progress, no stream is active, and slot 15 alone holds a plan, which is loaded, holds the die,
and has one layer, a running one, and no population: the layer is stopped (R245, R558). -/
theorem Dev.getF_dieStop {s : Dev} {d l : Nat} {x : PlanSlot} (hd : d < 4) (htiles : s.layers = []) (hidle : ∀ n < 36, s.getF (Obj.streamState n) 0 4 = 0)
    (hplans : s.plans = [(15, x)]) (hloaded : s.rd (Obj.planState 15) = 2) (hx : x.holdsDie d = true) (hpops : x.popHandles = [])
    (hlayers : x.layerHandles = [l]) (hrun : s.getF (Obj.layerState l) 0 2 = 2) : (s.dieStop d).getF (Obj.layerState l) 0 2 = 1 := by
  have hdrop : s.dropTiles (fun t => t.cluster / 32 == d) = s := by
    simp only [Dev.dropTiles, htiles, List.flatMap_nil, List.foldl_nil, List.map_nil]
    rw [← htiles]
  unfold Dev.dieStop
  rw [hdrop]
  extract_lets dropped flushed drained
  obtain ⟨hp, hrd⟩ : s.flushedOnly flushed :=
    Dev.each_holds s.flushedOnly ⟨rfl, fun _ _ _ => rfl⟩ fun k hk u hu => hu.flushCluster (by omega)
  have hquiet : drained = flushed := Dev.each_eq_self fun n hn => if_neg fun hact => by
    have hsluice : (Obj.streamState n).key / 256 ≠ 0x603A ∧ (Obj.streamState n).key / 256 ≠ 0x603B := by
      simp only [Obj.streamState, Reg.at_key]
      omega
    have h0 : flushed.getF (Obj.streamState n) 0 4 = 0 := (Dev.getF_eq _ _ _ 0 4 (hrd _ hsluice.1 hsluice.2)).trans (hidle n hn)
    omega
  have hpre : drained.each 15 (fun p u => if u.planLoaded p && (u.plan p).holdsDie d then u.planFault p else u) = flushed := by
    rw [hquiet]
    refine Dev.each_eq_self fun p hpl => if_neg ?_
    have hnone : flushed.plan p = {} := by
      simp only [Dev.plan, hp, hplans, Tab.get]
      rw [if_neg (by omega)]
    rw [hnone, Bool.and_eq_true]
    rintro ⟨-, hholds⟩
    rw [PlanSlot.holdsDie_empty] at hholds
    exact absurd hholds (by decide)
  have hplan : flushed.plan 15 = x := by
    simp only [Dev.plan, hp, hplans, Tab.get, if_true]
  have hslot : flushed.rd (Obj.planState 15) = 2 := (hrd _ (by decide) (by decide)).trans hloaded
  have hrun' : flushed.getF (Obj.layerState l) 0 2 = 2 := by
    have hsluice : (Obj.layerState l).key / 256 ≠ 0x603A ∧ (Obj.layerState l).key / 256 ≠ 0x603B := by
      simp only [Obj.layerState, Reg.at_key]
      omega
    exact (Dev.getF_eq _ _ _ 0 2 (hrd _ hsluice.1 hsluice.2)).trans hrun
  rw [Dev.each_succ, hpre, hplan, Dev.planLoaded, hslot, hx, if_pos (by decide), Dev.planFault_loaded _ hslot]
  exact flushed.getF_planStop true (by rw [hplan, hpops]) (by rw [hplan, hlayers]) hrun'

/-! ### The safe state -/

/-- The registers as a compute die in service with an empty queue enters the safe state: those of the die's stop (R557, R558). -/
theorem Dev.dict_safeState {s : Dev} {d : Nat} (cause : Nat) (hd : d < 4) (hs : s.rd (Obj.dieHealth d) = 0) (hq : (s.queueOf d).entries = []) :
    (s.safeState d cause 1).dict =
      (((((s.wr (Obj.dieHealth d) 1).bump (faultCtr d 8)).setF (Obj.faultEngineState d) 8 1 1).setF (Obj.faultEngineState d) 9 3 cause).dieStop d).dict := by
  have hdrop : s.dropHead d = s := by
    unfold Dev.dropHead
    rw [hq]
  unfold Dev.safeState
  rw [if_neg (by omega), if_neg (by omega), hdrop]
  extract_lets before dropped counted shown stopped told alerted sent
  have hstop : stopped = shown.dieStop d := if_pos hd
  have hsent : sent = alerted := if_pos hd
  rw [Dev.dict_relayMoved, hsent]
  simp only [alerted, told, Dev.dict_sendTerminal, hstop, shown, counted, dropped]

/-! ### An entry that ends -/

/-- The one entry of a queue that gets its outcome leaves the queue empty, and changes no register, no plan and no layer (R573). -/
theorem Dev.finishFault_only {s : Dev} {q : Nat} {e : FaultEntry} (f : FaultEntry → FaultEntry) (hq : (s.queueOf q).entries = [e]) :
    (s.finishFault q f).dict = s.dict ∧ (s.finishFault q f).plans = s.plans ∧ (s.finishFault q f).layers = s.layers ∧
    ((s.finishFault q f).queueOf q).entries = [] := by
  unfold Dev.finishFault
  rw [hq]
  have hv := Dev.faultView_sendFault (s.updQueue q (fun x => { x with entries := [], log := (x.log ++ [f e]).drop ((x.log.length + 1) - 64) })) q (f e)
  simp only [Dev.faultView, Prod.mk.injEq] at hv
  obtain ⟨hdict, hplans, hlayers, hqueues⟩ := hv
  refine ⟨hdict, hplans, hlayers, ?_⟩
  rw [Dev.queueOf, hqueues]
  simp [Dev.updQueue]

/-! ### A link that fails while it is in hand -/

/-- What a retrain that finds its link unusable detects (R551). -/
theorem Dev.retrainLink_none {s : Dev} {l : Nat} (h : Tab.get 0 s.linkRetrainF l ≠ 0) :
    s.retrainLink l none = ({ s with linkRetrainF := Tab.put 0 s.linkRetrainF l 0 } : Dev).detect 0x08 (.link l) 0 := if_neg h

/-- The escalation of a link in hand to die `d` ends its entry with outcome 7 and brings the die to the safe state (R556, R557). -/
theorem Dev.escalate_link {s : Dev} {q l : Nat} {e : FaultEntry} (d : Nat) (hq : (s.queueOf q).entries = [e]) (he : e.elem = .link l)
    (hp : e.phase = .isolated) :
    ∃ u : Dev, s.escalate q (.die d) = u.safeState d 3 1 ∧ u.dict = (s.bump (faultCtr q 2)).dict ∧ u.plans = s.plans ∧ u.layers = s.layers ∧
      (u.queueOf q).entries = [] := by
  have hq' : ((s.bump (faultCtr q 2)).queueOf q).entries = [e] := hq
  refine ⟨((s.bump (faultCtr q 2)).updHead q (fun e => { e with elem := .die d, phase := .isolated })).finishFault q (fun e => { e with outcome := 7 }), ?_,
    Dev.finishFault_only (e := { e with elem := .die d, phase := .isolated }) _ ?_⟩
  · unfold Dev.escalate
    extract_lets u old v w
    have hold : old = some (.link l) := by simp [old, u, Dev.handling, hq', hp, he]
    have hv : v = u := by simp only [v, hold]
    simp only [w, hv]
    rfl
  · simp [Dev.updHead, Dev.updQueue, Dev.queueOf] at hq' ⊢
    simp [hq']

/-- Link `l` detected once more while the one entry of its queue, isolated, is the link itself: the handling escalates to the link's die, which enters the
safe state, and two counters of the queue are raised (R551, R556). -/
theorem Dev.detect_link_inHand {s : Dev} {l : Nat} {e : FaultEntry} (hq : (s.queueOf (linkDie l false)).entries = [e]) (he : e.elem = .link l)
    (hp : e.phase = .isolated) :
    ∃ u : Dev, s.detect 0x08 (.link l) 0 = u.safeState (linkDie l false) 3 1 ∧
      u.dict = ((s.bump (faultCtr (linkDie l false) 0)).bump (faultCtr (linkDie l false) 2)).dict ∧ u.plans = s.plans ∧ u.layers = s.layers ∧
      (u.queueOf (linkDie l false)).entries = [] := by
  have hesc : s.detect 0x08 (.link l) 0 =
      ((s.bump (faultCtr (linkDie l false) 0)).sedError 0x08).escalate (linkDie l false) (.die (linkDie l false)) := by
    generalize hu : (s.bump (faultCtr (linkDie l false) 0)).sedError 0x08 = u
    have hq' : (u.queueOf (linkDie l false)).entries = [e] := by
      rw [← hu]
      exact hq
    have hunder : Elem.under (.link l) (.link l) = true := by simp [Elem.under, within]
    simp only [Dev.detect, Dev.detectFor, Elem.queue, hu]
    simp [Dev.detectMain, reportOnly, hq', hp, Dev.takenUnder, Dev.handling, hunder, he, Elem.parent]
  rw [hesc]
  exact Dev.escalate_link _ hq he hp

end Sys2Proof.Machine
end

section
/-! The end of a link's retrain (R551, R556, R558): what it detects may stop a die, and with the die the plans on it. A state whose plan holds a layer handle
beyond the 256 there are then writes a register that is no layer's. -/

namespace Sys2Proof.Machine

open Sys2Proof

/-- The end of a retrain takes place while the device works. -/
theorem laneRetrainEnd_next {s : State} (l : Fin 12) (lane : Option (Fin 64)) (hw : s.dev.working = true) :
    exec (.laneRetrainEnd l lane) s = .next { s with dev := s.dev.fresh.retrainLink l.val lane } := by
  simp only [exec, execLaneRetrainEnd]
  exact State.run_next _ hw

/-- A plan with a placement on die 0 and the layer handle 0x1D10, which no layer has. -/
def strayPlan : PlanSlot where
  places := [{ phase := 0, mode := 0, cluster := 0, objectSeed := false, steward := 0, unitBlob := 0, seed := 0, windows := [] }]
  layerHandles := [0x1D10]

/-- LayerState of that handle (index 0x6300 + 0x1D10, subindex 1) is FaultsDetected of queue 0 (index 0x8010, subindex 1). -/
theorem Dev.rd_layerState_stray (s : Dev) : s.rd (Obj.layerState 0x1D10) = s.rd (Obj.faultCounter 0 0) := by
  have hkey : (Obj.layerState 0x1D10).key = (Obj.faultCounter 0 0).key := rfl
  rw [Dev.rd, hkey, ← Dev.rd]

/-- Link 0 failed, isolated, its recovery not yet complete. -/
def linkZeroInHand : FaultEntry := { seq := 1, cls := 0x08, elem := .link 0, detail := 0, time := 0, phase := .isolated }

/-- That plan is LOADED in slot 15; link 0 is out and in hand, and retrains; FaultsDetected of its queue, die 0's, reads 1. -/
def strayLayerHandle : State where
  dev := { (({} : Dev).wr (Obj.planState 15) 2).wr (Obj.faultCounter 0 0) 1 with
    plans := [(15, strayPlan)]
    faultQ := [(0, { entries := [linkZeroInHand], nextSeq := 2 })]
    linkRetrainF := [(0, 1)] }

/-- The link's second failure escalates to die 0 (R556), whose safe state stops the plan (R558): FaultsDetected, raised to 2, reads as the state of a layer
that runs, and the layer's stop makes that state 1. -/
theorem getF_retrainLink_stray : (strayLayerHandle.dev.fresh.retrainLink 0 none).getF (Obj.layerState 0x1D10) 0 2 = 1 := by
  rw [Dev.retrainLink_none (by decide)]
  obtain ⟨u, hsafe, hdict, hplans, hlayers, hqueue⟩ := Dev.detect_link_inHand
    (s := { strayLayerHandle.dev.fresh with linkRetrainF := Tab.put 0 strayLayerHandle.dev.fresh.linkRetrainF 0 0 }) (l := 0)
    (e := linkZeroInHand) rfl rfl rfl
  have hserves : u.rd (Obj.dieHealth 0) = 0 := by
    rw [Dev.rd_dict, hdict]
    decide
  have hnone : u.layers = [] := hlayers
  have hplan : u.plans = [(15, strayPlan)] := hplans
  rw [hsafe, Dev.getF_dict]
  refine (congrArg (fun D => dictF D (Obj.layerState 0x1D10) 0 2) (Dev.dict_safeState 3 (by decide) hserves hqueue)).trans ?_
  refine Dev.getF_dieStop (x := strayPlan) (by decide) (by simpa using hnone) (fun n hn => ?_) (by simpa using hplan) ?_ rfl rfl rfl ?_ <;>
    simp only [Dev.rd_dict, Dev.getF_dict, Dev.dict_setF, Dev.dict_bump, Dev.dict_wr, hdict]
  · revert n
    decide
  · decide
  · decide

/-- Refutes O25: from `strayLayerHandle` the end of the retrain leaves FaultsDetected with 1 in its low bits, where the clause on retrains wants 2. The claim
lacks the premise that the handles of a plan are handles there are. -/
theorem not_recoveryCommands : ¬ Obligations.RecoveryCommands := by
  unfold Obligations.RecoveryCommands
  intro h
  have hw : strayLayerHandle.dev.working = true := rfl
  obtain ⟨-, hlinks⟩ := h
  obtain ⟨-, hend, -⟩ := hlinks strayLayerHandle 0 hw
  obtain ⟨t, ht, -, hcounted, -⟩ := hend none (by decide)
  rw [laneRetrainEnd_next 0 none hw] at ht
  obtain rfl := Host.Outcome.next.inj ht
  have hqueue : linkDie (0 : Fin 12).val false = 0 := rfl
  have hcount : strayLayerHandle.dev.rd (Obj.faultCounter 0 0) = 1 := by decide
  rw [hqueue, hcount] at hcounted
  dsimp only [Fin.val_zero] at hcounted
  have hone := getF_retrainLink_stray
  rw [Dev.getF, Dev.rd_layerState_stray, hcounted] at hone
  exact absurd hone (by decide)

end Sys2Proof.Machine
end

section
/-! What the claims of chapter 3 share: from an outcome to what its state has, registers that updates of other parts leave alone, two's complement, and
the bits of a register of 32 bits. -/

namespace Sys2Proof.Machine

open Sys2Proof

/-! ### From an outcome to what its state has -/

theorem nextHas_act {s : State} {f : Dev → Dev} {p : State → Prop} (h : s.dev.alive = true) (hp : p { s with dev := f s.dev.fresh }) :
    nextHas (s.act f) p := ⟨_, State.act_next f h, hp⟩

theorem nextHas_runIn {s : State} {n : Nat} {f : Dev → Dev} {p : State → Prop} (h : s.dev.up n) (hp : p { s with dev := f s.dev.fresh }) :
    nextHas (s.runIn n f) p := ⟨_, State.runIn_up f h, hp⟩

theorem nextHas_runInM {s : State} {n : Nat} {f : State → State} {p : State → Prop} (h : s.dev.up n) (hp : p (f s.start)) :
    nextHas (s.runInM n f) p := ⟨_, State.runInM_up f h, hp⟩

theorem nextHas_askedM {s : State} {q : Requester} {r : Reg} {v : Nat} {k : State → State} {p : State → Prop} (h : s.dev.hears q r v)
    (hp : p (k s.start)) : nextHas (s.askedM q r v k) p := ⟨_, State.askedM_hears k h, hp⟩

/-! ### Registers that stand -/

section
variable {s t u : Dev} {ks : List Nat}

/-- An update that leaves the dictionary alone leaves every register alone. -/
theorem Dev.regsKept.of_dict (h : s.regsKept t ks) (e : u.dict = t.dict) : s.regsKept u ks := fun r hr => by
  rw [Dev.rd_dict, e, ← Dev.rd_dict, h r hr]

theorem Dev.regsKept.trans (h : s.regsKept t ks) (h' : t.regsKept u ks) : s.regsKept u ks := fun r hr => (h' r hr).trans (h r hr)

theorem Dev.regsKept.wrI (h : s.regsKept t ks) {r : Reg} (i : Int) (hr : r.key ∈ ks) : s.regsKept (t.wrI r i) ks := h.wr _ hr

theorem Dev.regsKept.bumpBy (h : s.regsKept t ks) {r : Reg} (n : Nat) (hr : r.key ∈ ks) : s.regsKept (t.bumpBy r n) ks := h.wr _ hr

theorem Dev.regsKept.rdI (h : s.regsKept t ks) {r : Reg} (hr : r.key ∉ ks) : t.rdI r = s.rdI r := by rw [Dev.rdI, h r hr, Dev.rdI]

theorem Dev.regsKept.bit (h : s.regsKept t ks) {r : Reg} (hr : r.key ∉ ks) (i : Nat) : t.bit r i = s.bit r i := Dev.bit_eq _ _ _ _ (h r hr)

/-- Device time depends on F, TimeOffset and RateAdjust alone (R76). -/
theorem Dev.regsKept.dtAt (h : s.regsKept t ks) (ho : Obj.timeOffset.key ∉ ks) (hr : Obj.rateAdjust.key ∉ ks) (f : Nat) : t.dtAt f = s.dtAt f := by
  rw [Dev.dtAt, h.rdI ho, h.rdI hr, Dev.dtAt]

theorem Dev.regsKept.dt (h : s.regsKept t ks) (ho : Obj.timeOffset.key ∉ ks) (hr : Obj.rateAdjust.key ∉ ks) (hf : t.f = s.f) : t.dt = s.dt := by
  rw [Dev.dt, h.dtAt ho hr, hf, Dev.dt]

/-- The count F at which a device time comes depends on TimeOffset and RateAdjust alone (R93). -/
theorem Dev.regsKept.fOf (h : s.regsKept t ks) (ho : Obj.timeOffset.key ∉ ks) (hr : Obj.rateAdjust.key ∉ ks) (e : Int) : t.fOf e = s.fOf e := by
  rw [Dev.fOf, h.rdI ho, h.rdI hr, Dev.fOf]

end

/-! ### Two's complement -/

/-- A number within the range of `w` bits reads back as it was written (R462). -/
theorem signed_unsigned {w : Nat} (hw : 0 < w) {i : Int} (h0 : -((2 ^ (w - 1) : Nat) : Int) ≤ i) (h1 : i < ((2 ^ (w - 1) : Nat) : Int)) :
    signed w (unsigned w i % 2 ^ w) = i := by
  have hpow : 2 ^ w = 2 * 2 ^ (w - 1) := by rw [← Nat.pow_succ', Nat.succ_eq_add_one, Nat.sub_add_cancel hw]
  unfold signed unsigned
  rw [Nat.mod_mod]
  generalize 2 ^ (w - 1) = h at *
  have hcut : i % ((2 ^ w : Nat) : Int) = if 0 ≤ i then i else i + 2 * h := by
    split
    · exact Int.emod_eq_of_lt ‹_› (by omega)
    · rw [← Int.add_emod_right, Int.emod_eq_of_lt (by omega) (by omega)]
      omega
  rw [hcut, Nat.mod_eq_of_lt (by split <;> omega)]
  split <;> split <;> omega

theorem signed_mod (w v : Nat) : signed w (v % 2 ^ w) = signed w v := by
  rw [signed, Nat.mod_mod, signed]

theorem Dev.rdI_wrI (s : Dev) {r : Reg} (hw : 0 < r.bits) {i : Int} (h0 : -((2 ^ (r.bits - 1) : Nat) : Int) ≤ i)
    (h1 : i < ((2 ^ (r.bits - 1) : Nat) : Int)) : (s.wrI r i).rdI r = i := by
  rw [Dev.rdI, Dev.wrI, Dev.rd_wr_same, signed_unsigned hw h0 h1]

theorem signed_toNat {w : Nat} (hw : 0 < w) (v : BitVec w) : signed w v.toNat = v.toInt := by
  have hpow : 2 ^ w = 2 * 2 ^ (w - 1) := by rw [← Nat.pow_succ', Nat.succ_eq_add_one, Nat.sub_add_cancel hw]
  have hv := v.isLt
  rw [BitVec.toInt_eq_toNat_cond, signed, Nat.mod_eq_of_lt hv]
  split <;> split <;> omega

/-! ### Bits of a register of 32 bits -/

section
variable (s : Dev) {r : Reg} (hr : r.bits = 32) {i : Nat} (hi : i < 32)

include hr hi

theorem Dev.bit_setBit_32 (j : Nat) (b : Bool) : (s.setBit r j b).bit r i = if i = j then b else s.bit r i := by
  have hi' : i < r.bits := by rw [hr]; exact hi
  split
  · next h => rw [← h, s.bit_setBit_same r b hi']
  · next h => exact s.bit_setBit_other r b h hi'

theorem Dev.bit_setF_32 {lo w : Nat} (v : Nat) (h : i < lo ∨ lo + w ≤ i) : (s.setF r lo w v).bit r i = s.bit r i :=
  s.bit_setF_other r v h (by rw [hr]; exact hi)

end

theorem bitAt_eq_testBit (v i : Nat) : bitAt v i = v.testBit i := by
  rw [bitAt, Nat.testBit_eq_decide_div_mod_eq]
  exact rfl

end Sys2Proof.Machine
end

section
/-! Time across sleep and the passing of a nanosecond (R75, R88 to R92). -/

namespace Sys2Proof.Machine

open Sys2Proof

/-! ### The AON edge -/

theorem Dev.toEdge_past {s : Dev} (h : s.aonPhase < 512) : s.toEdge = s := if_pos h

theorem Dev.toEdge_ahead {s : Dev} (h : 512 ≤ s.aonPhase) : s.toEdge =
    { s with aon := s.aon + 1, aonPhase := s.aonPhase + 512 * ceilDiv (aonPeriod - s.aonPhase) 512 - aonPeriod,
             f := if s.stopped then s.f else (s.f + ceilDiv (aonPeriod - s.aonPhase) 512) % 2 ^ 64 } := if_neg (by omega)

theorem Dev.sleepEntryLatch_waits {s : Dev} (h : s.entryWait = true) : s.sleepEntryLatch =
    { s.toEdge with f0 := s.toEdge.f, a0 := s.toEdge.aon, unbridged := false, entryWait := false, stopped := true } := if_pos h

theorem Dev.unbridgedDetect_due {s : Dev} (hs : s.stopped = true) (ha : s.a0 + 2 ^ 32 ≤ s.aon) : s.unbridgedDetect = { s with unbridged := true } :=
  if_pos (by simpa [hs] using ha)

/-- Settles O2: the latch acts at the edge just past or at the next one; the detection compares the running count. -/
theorem sleepLatchesTime : Obligations.SleepLatchesTime := by
  unfold Obligations.SleepLatchesTime
  simp only [exec, execSleepEntryLatch, execUnbridgedDetect]
  refine fun s ha => ⟨fun hw hp => nextHas_act ha ?_, fun hw hp hs => nextHas_act ha ?_, fun hs hu => nextHas_act ha ?_⟩
  · rw [Dev.sleepEntryLatch_waits (s := s.dev.fresh) hw, Dev.toEdge_past (s := s.dev.fresh) hp]
    exact ⟨rfl, s.sameRest_dev _⟩
  · have hs' : s.dev.fresh.stopped = false := hs
    rw [Dev.sleepEntryLatch_waits (s := s.dev.fresh) hw, Dev.toEdge_ahead (s := s.dev.fresh) hp, hs']
    exact ⟨rfl, rfl, rfl, rfl, rfl, rfl, rfl, (s.dev.regsKept_fresh _).of_dict rfl, s.sameRest_dev _⟩
  · rw [Dev.unbridgedDetect_due (s := s.dev.fresh) hs hu]
    exact ⟨rfl, s.sameRest_dev _⟩

/-! ### A nanosecond -/

theorem step_nil {s : State} (h : s.pending = []) : step s = .next s.tick := by rw [step, h]

theorem Dev.tickF_f (s : Dev) : s.tickF.f = if s.stopped then s.f else (s.f + 1) % 2 ^ 64 := by
  unfold Dev.tickF
  split <;> rfl

/-- The counter F is the only thing that F's clock moves. -/
theorem Dev.tickF_only (s : Dev) : ∃ x, s.tickF = { s with f := x } := by
  unfold Dev.tickF
  split
  · exact ⟨s.f, rfl⟩
  · exact ⟨_, rfl⟩

/-- The AON clock moves its count and its phase alone, and together they advance by 512 of the 15,625,000 parts of an AON period. -/
theorem Dev.tickAon_advances (s : Dev) (h : s.aonPhase < 15625000) : s.tickAon.aon * 15625000 + s.tickAon.aonPhase = s.aon * 15625000 + s.aonPhase + 512 ∧
    s.tickAon.aonPhase < 15625000 := by
  unfold Dev.tickAon aonPeriod
  split <;> dsimp only <;> omega

theorem Dev.tickAon_only (s : Dev) : ∃ a p, s.tickAon = { s with aon := a, aonPhase := p } := by
  unfold Dev.tickAon
  split
  · exact ⟨s.aon, _, rfl⟩
  · exact ⟨_, _, rfl⟩

theorem Dev.tick_alive {s : Dev} (h : s.alive = true) : s.tick = s.fresh.tickAon.tickF := if_pos h

theorem Dev.tick_off {s : Dev} (h : s.alive = false) : s.tick = s := by simp [Dev.tick, h]

/-- Settles O55: with an empty queue a step is a tick, which moves F and the AON count of a device that is on. -/
theorem nanosecondPasses : Obligations.NanosecondPasses := by
  unfold Obligations.NanosecondPasses
  refine fun s hp => ⟨_, step_nil hp, fun ha => ?_, fun ha => ?_⟩
  · rw [State.tick, Dev.tick_off ha]
  · obtain ⟨a, p, hA⟩ := s.dev.fresh.tickAon_only
    obtain ⟨f, hF⟩ := s.dev.fresh.tickAon.tickF_only
    dsimp only [State.tick]
    rw [Dev.tick_alive ha]
    refine ⟨?_, fun h => ?_, ?_, s.sameRest_dev _⟩
    · rw [Dev.tickF_f, hA]
      rfl
    · have hadv := s.dev.fresh.tickAon_advances h
      rw [hA] at hadv
      rw [hF, hA]
      exact hadv
    · rw [hF, hA]
      exact (s.dev.regsKept_fresh _).of_dict rfl

end Sys2Proof.Machine
end

section
/-! Corrections of device time (R76 to R85, R91): RateAdjust, DisciplineMode, the clearing of Coasted, the servo. -/

namespace Sys2Proof.Machine

open Sys2Proof

/-! ### RateAdjust -/

section
variable (s : Dev) {b : Int}

theorem Dev.rateTo_same (h : s.rdI Obj.rateAdjust = b) : s.rateTo b = s := if_pos h

/-- What a change of RateAdjust leaves beside the two registers: the conversions that are due. -/
theorem Dev.rateTo_change (h : s.rdI Obj.rateAdjust ≠ b) : ∃ c, s.rateTo b =
    { (s.wrI Obj.timeOffset (s.rdI Obj.timeOffset + (rateTerm (s.rdI Obj.rateAdjust) s.f - rateTerm b s.f))).wrI Obj.rateAdjust b with reconvert := c } :=
  ⟨_, if_neg h⟩

theorem Dev.rateTo_f : (s.rateTo b).f = s.f := by
  by_cases h : s.rdI Obj.rateAdjust = b
  · rw [s.rateTo_same h]
  · obtain ⟨c, e⟩ := s.rateTo_change h
    rw [e]
    rfl

theorem Dev.rateTo_rate (h0 : -(2 ^ 31) ≤ b) (h1 : b < 2 ^ 31) : (s.rateTo b).rdI Obj.rateAdjust = b := by
  by_cases h : s.rdI Obj.rateAdjust = b
  · rw [s.rateTo_same h, h]
  · obtain ⟨c, e⟩ := s.rateTo_change h
    rw [e]
    exact Dev.rdI_wrI _ (by decide) h0 h1

theorem Dev.rateTo_offset (h0 : -(2 ^ 63) ≤ s.rdI Obj.timeOffset + (rateTerm (s.rdI Obj.rateAdjust) s.f - rateTerm b s.f))
    (h1 : s.rdI Obj.timeOffset + (rateTerm (s.rdI Obj.rateAdjust) s.f - rateTerm b s.f) < 2 ^ 63) :
    (s.rateTo b).rdI Obj.timeOffset = s.rdI Obj.timeOffset + (rateTerm (s.rdI Obj.rateAdjust) s.f - rateTerm b s.f) := by
  by_cases h : s.rdI Obj.rateAdjust = b
  · rw [s.rateTo_same h, h]
    omega
  · obtain ⟨c, e⟩ := s.rateTo_change h
    rw [e]
    exact (Dev.rdI_wr_other _ _ (by decide)).trans (Dev.rdI_wrI _ (by decide) h0 h1)

end

theorem Dev.regsKept.rateTo {s t : Dev} {ks : List Nat} (h : s.regsKept t ks) (b : Int) (ho : Obj.timeOffset.key ∈ ks)
    (hr : Obj.rateAdjust.key ∈ ks) : s.regsKept (t.rateTo b) ks := by
  by_cases hb : t.rdI Obj.rateAdjust = b
  · rwa [t.rateTo_same hb]
  · obtain ⟨c, e⟩ := t.rateTo_change hb
    rw [e]
    exact ((h.wrI _ ho).wrI _ hr).of_dict rfl

/-! ### Answers -/

theorem Dev.rdI_accept (s : Dev) (q : Requester) {r : Reg} (h : r.key / 256 ≠ 0x1110) : (s.accept q).rdI r = s.rdI r := s.rdI_answer q _ _ h

theorem Dev.bit_accept (s : Dev) (q : Requester) {r : Reg} (i : Nat) (h : r.key / 256 ≠ 0x1110) : (s.accept q).bit r i = s.bit r i :=
  s.bit_answer q _ _ i h

theorem Dev.getF_accept (s : Dev) (q : Requester) {r : Reg} (lo w : Nat) (h : r.key / 256 ≠ 0x1110) : (s.accept q).getF r lo w = s.getF r lo w :=
  s.getF_answer q _ _ lo w h

theorem Dev.dt_accept (s : Dev) (q : Requester) : (s.accept q).dt = s.dt := by
  rw [Dev.dt, Dev.dtAt, s.rdI_accept q (by decide), s.rdI_accept q (by decide), s.accept_f q, Dev.dt, Dev.dtAt]

/-! ### A write of RateAdjust -/

theorem Dev.rateAdjustWrite_refused {s : Dev} {q : Requester} {v : Nat} (h : s.rd Obj.disciplineMode ≠ 1) : s.rateAdjustWrite q v = s.refuse q .state :=
  if_pos h

theorem Dev.rateAdjustWrite_host {s : Dev} {q : Requester} {v : BitVec 32} (h : s.rd Obj.disciplineMode = 1) :
    s.rateAdjustWrite q v.toNat = (s.rateTo v.toInt).accept q := by
  rw [Dev.rateAdjustWrite, if_neg (not_not_intro h), signed_toNat (by decide)]

/-- The new rate's term and the new offset cancel against the old ones at the present F (R77). -/
theorem Dev.dt_of_rate {s t : Dev} {b : Int} (hr : t.rdI Obj.rateAdjust = b)
    (ho : t.rdI Obj.timeOffset = s.rdI Obj.timeOffset + (rateTerm (s.rdI Obj.rateAdjust) s.f - rateTerm b s.f)) (hf : t.f = s.f) : t.dt = s.dt := by
  rw [Dev.dt, Dev.dtAt, Dev.dt, Dev.dtAt, hr, ho, hf]
  omega

/-- Settles O3: the two registers are written with numbers that they hold, and their changes cancel in device time. -/
theorem rateChangeKeepsDeviceTime : Obligations.RateChangeKeepsDeviceTime := by
  unfold Obligations.RateChangeKeepsDeviceTime
  simp only [exec, execRateAdjustWrite]
  refine ⟨fun d b hb0 hb1 ⟨ho0, ho1⟩ => ?_, fun s q v hh => ⟨fun hm => nextHas_asked hh ?_, fun hm ⟨ho0, ho1⟩ => nextHas_asked hh ?_⟩⟩
  · have hr := d.rateTo_rate hb0 hb1
    have ho := d.rateTo_offset ho0 ho1
    exact ⟨hr, ho, Dev.dt_of_rate hr ho d.rateTo_f, d.rateTo_f, (Dev.regsKept.refl d _).rateTo b (by simp) (by simp)⟩
  · rw [Dev.rateAdjustWrite_refused (by simpa using hm)]
    exact ⟨Dev.told_refuse _ _ _, (s.dev.regsKept_fresh _).refuse q _, s.sameRest_dev _⟩
  · rw [Dev.rateAdjustWrite_host (by simpa using hm)]
    have hlo := v.le_toInt
    have hhi := v.toInt_lt
    have hr := s.dev.fresh.rateTo_rate (b := v.toInt) hlo hhi
    have ho := s.dev.fresh.rateTo_offset (b := v.toInt) (by simpa using ho0) (by simpa using ho1)
    rw [Dev.rdI_fresh, Dev.rdI_fresh] at ho
    refine ⟨Dev.told_accept _ _, ?_, ?_, ?_, ((s.dev.regsKept_fresh _).rateTo _ (by simp) (by simp)).accept q, s.sameRest_dev _⟩
    · exact (Dev.rdI_accept _ _ (by decide)).trans hr
    · exact (Dev.dt_accept _ _).trans (Dev.dt_of_rate hr ho (Dev.rateTo_f _))
    · exact (Dev.accept_f _ _).trans (Dev.rateTo_f _)

end Sys2Proof.Machine
end

section
/-! DisciplineMode, Coasted and the steps of device time (R78, R82, R83, R85, R91). -/

namespace Sys2Proof.Machine

open Sys2Proof

/-! ### DisciplineMode -/

/-- The mode shown, EpochPtp cleared: what every write of DisciplineMode does (R81, R85). -/
def Dev.modeShown (s : Dev) (v : Nat) : Dev := ((s.wr Obj.disciplineMode v).setF Obj.timeStatus 0 3 v).setBit Obj.timeStatus 7 false

section
variable (s : Dev) (v : Nat)

theorem Dev.disciplineModeWrite_repeat (q : Requester) (h : s.rd Obj.disciplineMode = v) : s.disciplineModeWrite q v = (s.modeShown v).accept q :=
  if_pos (by simpa using h)

theorem Dev.disciplineModeWrite_change (q : Requester) (h : s.rd Obj.disciplineMode ≠ v) : s.disciplineModeWrite q v = (s.modeShown v).unlock.accept q :=
  if_neg (by simpa using h)

theorem Dev.bit_unlock {i : Nat} (hi : i < 32) : s.unlock.bit Obj.timeStatus i = if i = 3 then false else s.bit Obj.timeStatus i :=
  s.bit_setBit_32 rfl hi 3 false

theorem Dev.getF_unlock_mode : s.unlock.getF Obj.timeStatus 0 3 = s.getF Obj.timeStatus 0 3 := s.getF_setBit_other _ _ (.inl (by decide)) (by decide)

theorem Dev.getF_modeShown : (s.modeShown v).getF Obj.timeStatus 0 3 = v % 8 := by
  rw [Dev.modeShown, Dev.getF_setBit_other _ _ _ (.inl (by decide)) (by decide), Dev.getF_setF_same _ _ _ (by decide)]
  rfl

theorem Dev.bit_modeShown {i : Nat} (h3 : 3 ≤ i) (hi : i < 32) :
    (s.modeShown v).bit Obj.timeStatus i = if i = 7 then false else s.bit Obj.timeStatus i := by
  rw [Dev.modeShown, Dev.bit_setBit_32 _ rfl hi, Dev.bit_setF_32 _ rfl hi _ (.inr (by omega)), Dev.bit_wr_other _ _ _ (by decide)]

theorem Dev.rd_modeShown (hv : v < 256) : (s.modeShown v).rd Obj.disciplineMode = v := by
  rw [Dev.modeShown, Dev.rd_setBit_other _ _ _ (by decide), Dev.rd_setF_other _ _ _ _ (by decide), Dev.rd_wr_fits _ _ hv]

end

section
variable {s t : Dev} {ks : List Nat} (h : s.regsKept t ks) (hs : Obj.timeStatus.key ∈ ks)

include h hs

theorem Dev.regsKept.modeShown (v : Nat) (hm : Obj.disciplineMode.key ∈ ks) : s.regsKept (t.modeShown v) ks := ((h.wr _ hm).setF _ _ _ hs).setBit _ _ hs

theorem Dev.regsKept.unlock : s.regsKept t.unlock ks := (h.setBit 3 false hs).of_dict rfl

end

/-- What a write of DisciplineMode leaves before it is answered (R85). -/
theorem Dev.disciplineModeWrite_eq (s : Dev) (q : Requester) {v : Nat} (hv : v < 256) : ∃ u : Dev, s.disciplineModeWrite q v = u.accept q ∧
    u.rd Obj.disciplineMode = v ∧ u.getF Obj.timeStatus 0 3 = v % 8 ∧ u.bit Obj.timeStatus 7 = false ∧
    u.bit Obj.timeStatus 3 = (s.bit Obj.timeStatus 3 && s.rd Obj.disciplineMode == v) ∧
    s.regsKept u [Obj.disciplineMode.key, Obj.timeStatus.key] := by
  have hkept : s.regsKept (s.modeShown v) [Obj.disciplineMode.key, Obj.timeStatus.key] := (Dev.regsKept.refl _ _).modeShown (by simp) v (by simp)
  have hrd := s.rd_modeShown v hv
  by_cases h : s.rd Obj.disciplineMode = v
  · refine ⟨_, s.disciplineModeWrite_repeat v q h, hrd, s.getF_modeShown v, ?_, ?_, hkept⟩ <;> rw [s.bit_modeShown v (by omega) (by omega)]
    · rfl
    · simp [h]
  · refine ⟨_, s.disciplineModeWrite_change v q h, ?_, (Dev.getF_unlock_mode _).trans (s.getF_modeShown v), ?_, ?_, hkept.unlock (by simp)⟩
    · exact (Dev.rd_setBit_other _ _ _ (by decide)).trans hrd
    · rw [Dev.bit_unlock _ (by omega), s.bit_modeShown v (by omega) (by omega)]
      rfl
    · rw [Dev.bit_unlock _ (by omega)]
      simp [h]

/-- Settles O4: a write shows the mode, and a change of it clears Locked beside. -/
theorem disciplineModeChange : Obligations.DisciplineModeChange := by
  unfold Obligations.DisciplineModeChange
  simp only [exec, execDisciplineModeWrite]
  intro s q v hh
  refine nextHas_asked hh ?_
  obtain ⟨u, hu, hrd, hmode, hepoch, hlocked, hkept⟩ := s.dev.fresh.disciplineModeWrite_eq q v.isLt
  dsimp only
  rw [hu]
  have hkept' := ((s.dev.regsKept_fresh _).trans hkept).accept q
  exact ⟨Dev.told_accept _ _, (Dev.rd_accept _ _ (by decide)).trans hrd, (Dev.getF_accept _ _ _ _ (by decide)).trans hmode,
    (Dev.bit_accept _ _ _ (by decide)).trans hepoch, (Dev.bit_accept _ _ _ (by decide)).trans hlocked,
    hkept' Obj.timeOffset (by decide) (by decide), hkept' Obj.rateAdjust (by decide) (by decide), hkept', s.sameRest_dev _⟩

/-! ### Coasted, Unbridged and Uncertainty -/

/-- The registers that the clearing of Coasted writes (R91). -/
def Dev.coastRegs (s : Dev) : Dev := ((s.setBit Obj.timeStatus 4 false).setBit Obj.timeStatus 8 false).wr Obj.uncertainty 0

section
variable (s : Dev)

/-- Beside its registers the clearing of Coasted moves the start of a holdover alone. -/
theorem Dev.clearCoast_cases : s.clearCoast = s.coastRegs ∨ s.clearCoast = { s.coastRegs with holdoverF := s.coastRegs.f } := by
  by_cases h : s.coastRegs.bit Obj.timeStatus 5 = true
  · exact .inr (if_pos h)
  · exact .inl (if_neg h)

theorem Dev.clearCoast_dict : s.clearCoast.dict = s.coastRegs.dict := by
  rcases s.clearCoast_cases with e | e <;> rw [e]

theorem Dev.clearCoast_f : s.clearCoast.f = s.f := by
  rcases s.clearCoast_cases with e | e <;> rw [e] <;> rfl

theorem Dev.rd_uncertainty_clearCoast : s.clearCoast.rd Obj.uncertainty = 0 := by
  rw [Dev.rd_dict, Dev.clearCoast_dict]
  exact Dev.rd_wr_same _ _ _

theorem Dev.bit_clearCoast {i : Nat} (hi : i < 32) :
    s.clearCoast.bit Obj.timeStatus i = if i = 4 ∨ i = 8 then false else s.bit Obj.timeStatus i := by
  rw [Dev.bit_dict, Dev.clearCoast_dict, ← Dev.bit_dict, Dev.coastRegs, Dev.bit_wr_other _ _ _ (by decide), Dev.bit_setBit_32 _ rfl hi,
    Dev.bit_setBit_32 _ rfl hi]
  by_cases h8 : i = 8
  · simp [h8]
  · simp [h8]

end

theorem Dev.regsKept.clearCoast {s t : Dev} {ks : List Nat} (h : s.regsKept t ks) (hs : Obj.timeStatus.key ∈ ks) (hu : Obj.uncertainty.key ∈ ks) :
    s.regsKept t.clearCoast ks :=
  Dev.regsKept.of_dict (t := t.coastRegs) (((h.setBit _ _ hs).setBit _ _ hs).wr _ hu) t.clearCoast_dict

/-! ### A step of device time -/

/-- Before a step each stream's flood count is brought to the present window, which writes no register and moves no clock (R622). -/
theorem Dev.windowsMark_only (s : Dev) : ∃ x, s.windowsMark = { s with streams := x } := by
  unfold Dev.windowsMark
  refine Dev.each_holds (fun u => ∃ x, u = { s with streams := x }) ⟨s.streams, rfl⟩ fun n _ u hu => ?_
  obtain ⟨x, rfl⟩ := hu
  exact ⟨_, rfl⟩

theorem Dev.regsKept.windowsMark {s t : Dev} {ks : List Nat} (h : s.regsKept t ks) : s.regsKept t.windowsMark ks := by
  obtain ⟨x, e⟩ := t.windowsMark_only
  rw [e]
  exact h.of_dict rfl

/-- TimeOffset at `v` and the step counted, before all that follows a step of device time (R78). -/
def Dev.offsetStepped (s : Dev) (v : Int) : Dev := (s.windowsMark.wrI Obj.timeOffset v).bump Obj.stepCount

theorem Dev.regsKept.offsetStepped {s t : Dev} {ks : List Nat} (h : s.regsKept t ks) (v : Int) (ho : Obj.timeOffset.key ∈ ks)
    (hc : Obj.stepCount.key ∈ ks) : s.regsKept (t.offsetStepped v) ks := (h.windowsMark.wrI _ ho).bump hc

theorem Dev.offsetStepped_f (s : Dev) (v : Int) : (s.offsetStepped v).f = s.f := by
  obtain ⟨x, e⟩ := s.windowsMark_only
  rw [Dev.offsetStepped, e]
  rfl

theorem Dev.bit_offsetStepped (s : Dev) (v : Int) (i : Nat) : (s.offsetStepped v).bit Obj.timeStatus i = s.bit Obj.timeStatus i :=
  ((Dev.regsKept.refl s [Obj.timeOffset.key, Obj.stepCount.key]).offsetStepped v (by simp) (by simp)).bit (by decide) i

theorem Dev.rd_stepCount_offsetStepped (s : Dev) (v : Int) : (s.offsetStepped v).rd Obj.stepCount = (s.rd Obj.stepCount + 1) % 2 ^ 32 := by
  have hcount : (s.windowsMark.wrI Obj.timeOffset v).rd Obj.stepCount = s.rd Obj.stepCount :=
    (Dev.rd_wrI_other _ _ (by decide)).trans ((Dev.regsKept.refl s []).windowsMark _ (by simp))
  rw [Dev.offsetStepped, Dev.rd_bump_same, hcount]
  rfl

theorem Dev.rdI_timeOffset_offsetStepped (s : Dev) (v : BitVec 64) : (s.offsetStepped v.toInt).rdI Obj.timeOffset = v.toInt :=
  (Dev.rdI_wr_other _ _ (by decide)).trans (Dev.rdI_wrI _ (by decide) v.le_toInt v.toInt_lt)

theorem signed_unsigned_toInt (v : BitVec 64) : signed 64 (unsigned 64 v.toInt) = v.toInt := by
  have h := signed_unsigned (w := 64) (by decide) v.le_toInt v.toInt_lt
  rwa [signed_mod] at h

theorem State.timeStep_repeat {s : State} {v : BitVec 64} (h : s.dev.rdI Obj.timeOffset = v.toInt) : s.timeStep v.toInt = s :=
  if_pos (h.trans (signed_unsigned_toInt v).symm)

theorem State.timeStep_change {s : State} {v : BitVec 64} (h : s.dev.rdI Obj.timeOffset ≠ v.toInt) :
    s.timeStep v.toInt = ({ s with dev := s.dev.offsetStepped v.toInt } : State).timeStepped 1 :=
  if_neg (fun e => h (e.trans (signed_unsigned_toInt v)))

end Sys2Proof.Machine
end

section
/-! Reference faults and the re-basing at wake (R86 to R92). -/

namespace Sys2Proof.Machine

open Sys2Proof

/-! ### Holdover and the comparison of the references -/

section
variable {s : Dev}

theorem Dev.holdoverEntry_locked (h : s.bit Obj.timeStatus 5 = false) :
    s.holdoverEntry = { (s.setBit Obj.timeStatus 5 true).setBit Obj.timeStatus 3 false with holdoverF := s.f, lockRun := 0 } := by
  simp [Dev.holdoverEntry, h]

theorem Dev.pllRelock_holdover (h : s.bit Obj.timeStatus 5 = true) : s.pllRelock =
    { (s.wr Obj.uncertainty s.uncertaintyNow).setBit Obj.timeStatus 5 false with cmpFromF := (s.f / 1000000000 + 1) * 1000000000 } := if_pos h

theorem Dev.uncertaintyNow_holdover (h : s.bit Obj.timeStatus 5 = true) :
    s.uncertaintyNow = min (s.rd Obj.uncertainty + 50 * ((s.f - s.holdoverF) / 1000000)) 0xFFFFFFFF := by
  rw [Dev.uncertaintyNow, Dev.holdoverUnc, if_pos h]

theorem Dev.uncertaintyNow_lt (s : Dev) : s.uncertaintyNow < 2 ^ 32 := by
  unfold Dev.uncertaintyNow
  omega

/-- During a holdover the references are not compared (R87). -/
theorem Dev.refclkComparison_holdover {ppb : Int} (h : s.bit Obj.timeStatus 5 = true) : s.refclkComparison ppb = s := if_neg (by simp [h])

/-- A comparison within the limit (R87). -/
theorem Dev.refclkComparison_within {ppb : Int} (h : s.bit Obj.timeStatus 5 = false) (hf : s.cmpFromF + 1000000000 ≤ s.f)
    (hp : ppb.natAbs ≤ (500 + s.rd Obj.aonCrystalPpm) * 1000) :
    s.refclkComparison ppb = ({ s with cmpFromF := s.f / 1000000000 * 1000000000 } : Dev).setBit Obj.timeStatus 6 false := by
  rw [Dev.refclkComparison, if_pos ⟨h, hf⟩]
  exact if_neg (Nat.not_lt.mpr hp)

/-- A comparison beyond it is a fault of the time base (R87). -/
theorem Dev.refclkComparison_beyond {ppb : Int} (h : s.bit Obj.timeStatus 5 = false) (hf : s.cmpFromF + 1000000000 ≤ s.f)
    (hp : (500 + s.rd Obj.aonCrystalPpm) * 1000 < ppb.natAbs) :
    s.refclkComparison ppb =
      (({ s with cmpFromF := s.f / 1000000000 * 1000000000 } : Dev).setBit Obj.timeStatus 6 true).detect 0x0F .timeBase 0 := by
  rw [Dev.refclkComparison, if_pos ⟨h, hf⟩]
  exact if_pos hp

/-- A detection of the time base leaves TimeStatus alone (R551, R554). -/
theorem Dev.bit_detect_timeBase (s : Dev) (i : Nat) : (s.detect 0x0F .timeBase 0).bit Obj.timeStatus i = s.bit Obj.timeStatus i :=
  Dev.bit_eq _ _ _ _ (s.rd_detect_report 0 (by decide) (by decide) (by decide) (by decide) (by decide) (by decide) (by decide) (by decide))

end

/-! ### Re-basing -/

/-- The device at the AON edge of a re-basing: F loaded, the sleep shown, Coasted set (R89 to R92). -/
def Dev.rebased (s : Dev) (ns unc : Nat) : Dev :=
  let d := (({ s with f := (s.f0 + ns) % 2 ^ 64, stopped := false } : Dev).wr Obj.uncertainty (min unc 0xFFFFFFFF)).wr Obj.lastCoast ns
  (d.setBit Obj.timeStatus 4 true).setBit Obj.timeStatus 8 (d.bit Obj.timeStatus 8 || d.unbridged)

section
variable (s : Dev) (ns unc : Nat)

theorem Dev.rd_uncertainty_rebased : (s.rebased ns unc).rd Obj.uncertainty = min unc 0xFFFFFFFF := by
  rw [Dev.rebased, Dev.rd_setBit_other _ _ _ (by decide), Dev.rd_setBit_other _ _ _ (by decide), Dev.rd_wr_other _ _ (by decide)]
  exact Dev.rd_wr_fits _ _ (lt_of_le_of_lt (Nat.min_le_right unc _) (by decide))

theorem Dev.rd_lastCoast_rebased : (s.rebased ns unc).rd Obj.lastCoast = ns % 2 ^ 64 := by
  rw [Dev.rebased, Dev.rd_setBit_other _ _ _ (by decide), Dev.rd_setBit_other _ _ _ (by decide), Dev.rd_wr_same]
  rfl

theorem Dev.bit_rebased_coasted : (s.rebased ns unc).bit Obj.timeStatus 4 = true := by
  rw [Dev.rebased, Dev.bit_setBit_32 _ rfl (by decide), Dev.bit_setBit_32 _ rfl (by decide)]
  rfl

theorem Dev.bit_rebased_unbridged : (s.rebased ns unc).bit Obj.timeStatus 8 = (s.bit Obj.timeStatus 8 || s.unbridged) := by
  rw [Dev.rebased, Dev.bit_setBit_same _ _ _ (by decide), Dev.bit_wr_other _ _ _ (by decide), Dev.bit_wr_other _ _ _ (by decide)]
  rfl

theorem Dev.regsKept.rebased {s t : Dev} {ks : List Nat} (h : s.regsKept t ks) (ns unc : Nat) (hs : Obj.timeStatus.key ∈ ks)
    (hu : Obj.uncertainty.key ∈ ks) (hl : Obj.lastCoast.key ∈ ks) : s.regsKept (t.rebased ns unc) ks :=
  (((Dev.regsKept.wr (t := { t with f := (t.f0 + ns) % 2 ^ 64, stopped := false }) (h.of_dict rfl) _ hu).wr _ hl).setBit _ _ hs).setBit _ _ hs

end

/-- A running holdover starts afresh where F has been loaded. -/
def Dev.holdoverRebased (s : Dev) : Dev := if s.bit Obj.timeStatus 5 then { s with holdoverF := s.f } else s

/-- The start of a holdover is none of the fields that a claim on a wake reads. -/
theorem Dev.holdoverRebased_keeps {α : Type} (g : Dev → α) (hg : ∀ (d : Dev) (x : Nat), g { d with holdoverF := x } = g d) (s : Dev) :
    g s.holdoverRebased = g s := by
  unfold Dev.holdoverRebased
  split
  · exact hg _ _
  · rfl

/-- What is loaded and shown at the edge, a running holdover aside. -/
theorem Dev.rebased_shows (s : Dev) (ns unc : Nat) :
    ∃ d : Dev, d = (s.rebased ns unc).holdoverRebased ∧ d.f = (s.f0 + ns) % 2 ^ 64 ∧ d.stopped = false ∧ d.aon = s.aon ∧
    d.rd Obj.lastCoast = ns % 2 ^ 64 ∧ d.bit Obj.timeStatus 4 = true ∧
    d.bit Obj.timeStatus 8 = (s.bit Obj.timeStatus 8 || s.unbridged) ∧ d.rd Obj.uncertainty = min unc 0xFFFFFFFF ∧
    s.regsKept d [Obj.timeStatus.key, Obj.uncertainty.key, Obj.lastCoast.key] := by
  have hkeeps {α : Type} (g : Dev → α) (hg : ∀ (d : Dev) (x : Nat), g { d with holdoverF := x } = g d) :=
    Dev.holdoverRebased_keeps g hg (s.rebased ns unc)
  refine ⟨_, rfl, hkeeps Dev.f fun _ _ => rfl, hkeeps Dev.stopped fun _ _ => rfl, hkeeps Dev.aon fun _ _ => rfl,
    (hkeeps (·.rd Obj.lastCoast) fun _ _ => rfl).trans (s.rd_lastCoast_rebased ns unc),
    (hkeeps (·.bit Obj.timeStatus 4) fun _ _ => rfl).trans (s.bit_rebased_coasted ns unc),
    (hkeeps (·.bit Obj.timeStatus 8) fun _ _ => rfl).trans (s.bit_rebased_unbridged ns unc),
    (hkeeps (·.rd Obj.uncertainty) fun _ _ => rfl).trans (s.rd_uncertainty_rebased ns unc),
    ((Dev.regsKept.refl s _).rebased ns unc (by simp) (by simp) (by simp)).of_dict (hkeeps Dev.dict fun _ _ => rfl)⟩

/-- What the sleep and the wait for the edge add to Uncertainty (R90, R92). -/
def Dev.coastUnc (s : Dev) (ns : Nat) : Nat := if s.unbridged then 0xFFFFFFFF else s.uncertaintyNow + 1000 + ns * s.rd Obj.aonCrystalPpm / 1000000

/-- The device at the AON edge for which a re-basing waits. -/
def Dev.wakeEdge (s : Dev) : Dev := s.windowsMark.toEdge

/-- The nanoseconds of a sleep that ends at that edge (R89). -/
def Dev.sleptNs (s : Dev) : Nat := aonNs ((s.wakeEdge.aon - s.wakeEdge.a0) % 2 ^ 32)

theorem State.reBase_wakes {s : State} (hs : s.dev.stopped = true) (hd : s.dev.domState 179 = 4) : s.reBase =
    ({ s with dev := (s.dev.wakeEdge.rebased s.dev.sleptNs (s.dev.wakeEdge.coastUnc s.dev.sleptNs)).holdoverRebased } : State).timeStepped 2 := by
  obtain ⟨x, hx⟩ := s.dev.windowsMark_only
  refine if_pos ?_
  rw [hx]
  simpa using ⟨hs, Or.inl hd⟩

/-- At the edge of a stopped device F stands, the AON count is the edge's, and every register is as before. -/
theorem Dev.wakeEdge_shows {s : Dev} (hs : s.stopped = true) : ∃ x p, s.wakeEdge =
    { s with streams := x, aonPhase := p, aon := if s.aonPhase < 512 then s.aon else s.aon + 1 } := by
  obtain ⟨x, hx⟩ := s.windowsMark_only
  rw [Dev.wakeEdge, hx]
  by_cases hp : s.aonPhase < 512
  · rw [Dev.toEdge_past (s := { s with streams := x }) hp, if_pos hp]
    exact ⟨_, _, rfl⟩
  · rw [Dev.toEdge_ahead (s := { s with streams := x }) (by simpa using hp), if_neg hp]
    dsimp only
    rw [if_pos hs]
    exact ⟨_, _, rfl⟩

/-! ### What the commands leave -/

section
variable {s : Dev}

theorem Dev.holdoverEntry_shows (h : s.bit Obj.timeStatus 5 = false) :
    s.holdoverEntry.holdoverF = s.f ∧ s.holdoverEntry.f = s.f ∧ s.regsKept s.holdoverEntry [Obj.timeStatus.key] ∧
    ∀ i < 32, s.holdoverEntry.bit Obj.timeStatus i = if i = 3 then false else if i = 5 then true else s.bit Obj.timeStatus i := by
  have hbits : ∀ i, s.holdoverEntry.bit Obj.timeStatus i = ((s.setBit Obj.timeStatus 5 true).setBit Obj.timeStatus 3 false).bit Obj.timeStatus i := by
    intro i
    rw [Dev.holdoverEntry_locked h]
    rfl
  refine ⟨?_, ?_, ?_, fun i hi => ?_⟩
  · rw [Dev.holdoverEntry_locked h]
  · rw [Dev.holdoverEntry_locked h]
    rfl
  · rw [Dev.holdoverEntry_locked h]
    exact (((Dev.regsKept.refl s _).setBit 5 true (by simp)).setBit 3 false (by simp)).of_dict rfl
  · rw [hbits, Dev.bit_setBit_32 _ rfl hi, Dev.bit_setBit_32 _ rfl hi]

theorem Dev.pllRelock_shows (h : s.bit Obj.timeStatus 5 = true) :
    s.pllRelock.f = s.f ∧ s.pllRelock.rd Obj.uncertainty = s.uncertaintyNow ∧ s.regsKept s.pllRelock [Obj.timeStatus.key, Obj.uncertainty.key] ∧
    ∀ i < 32, s.pllRelock.bit Obj.timeStatus i = if i = 5 then false else s.bit Obj.timeStatus i := by
  have hdict : s.pllRelock.dict = ((s.wr Obj.uncertainty s.uncertaintyNow).setBit Obj.timeStatus 5 false).dict := by
    rw [Dev.pllRelock_holdover h]
  refine ⟨?_, ?_, ?_, fun i hi => ?_⟩
  · rw [Dev.pllRelock_holdover h]
    rfl
  · rw [Dev.rd_dict, hdict, ← Dev.rd_dict, Dev.rd_setBit_other _ _ _ (by decide), Dev.rd_wr_fits _ _ s.uncertaintyNow_lt]
  · exact (((Dev.regsKept.refl s _).wr _ (by simp)).setBit 5 false (by simp)).of_dict hdict
  · rw [Dev.bit_dict, hdict, ← Dev.bit_dict, Dev.bit_setBit_32 _ rfl hi, Dev.bit_wr_other _ _ _ (by decide)]

end

/-- What a re-basing does before all that follows a step of device time (R89 to R92). -/
theorem State.reBase_shows {s : State} (hs : s.dev.stopped = true) (hd : s.dev.domState 179 = 4) :
    ∃ d : Dev, s.reBase = ({ s with dev := d } : State).timeStepped 2 ∧
      let edge := if s.dev.aonPhase < 512 then s.dev.aon else s.dev.aon + 1
      let ns := (edge - s.dev.a0) % 2 ^ 32 * 15625000 / 512
      d.f = (s.dev.f0 + ns) % 2 ^ 64 ∧ d.stopped = false ∧ d.aon = edge ∧ d.rd Obj.lastCoast = ns % 2 ^ 64 ∧ d.bit Obj.timeStatus 4 = true ∧
      d.bit Obj.timeStatus 8 = (s.dev.bit Obj.timeStatus 8 || s.dev.unbridged) ∧
      d.rd Obj.uncertainty = min 0xFFFFFFFF
        (if s.dev.unbridged then 0xFFFFFFFF else s.dev.uncertaintyNow + 1000 + ns * s.dev.rd Obj.aonCrystalPpm / 1000000) ∧
      s.dev.regsKept d [Obj.timeStatus.key, Obj.uncertainty.key, Obj.lastCoast.key] := by
  obtain ⟨x, p, he⟩ := Dev.wakeEdge_shows hs
  obtain ⟨d, hd', hf, hst, haon, hlast, hcoast, hunb, hunc, hkept⟩ := Dev.rebased_shows s.dev.wakeEdge s.dev.sleptNs (s.dev.wakeEdge.coastUnc s.dev.sleptNs)
  have hedge : s.dev.regsKept s.dev.wakeEdge [] := (Dev.regsKept.refl _ _).of_dict (by rw [he])
  refine ⟨d, ?_, ?_⟩
  · rw [hd', State.reBase_wakes hs hd]
  · rw [Dev.sleptNs, he] at hf hlast hunc
    rw [he] at haon hunb
    exact ⟨hf, hst, haon, hlast, hcoast, hunb, hunc.trans (min_comm _ _), fun r hr => (hkept r hr).trans (hedge r (by simp))⟩

end Sys2Proof.Machine
end

section
/-! The claim about holdover, the comparison of the references, the re-basing at wake and the write of TimeOffset. -/

namespace Sys2Proof.Machine

open Sys2Proof

theorem State.timeOffsetWrite_refused {s : State} {q : Requester} {v : Nat} (h : s.dev.rd Obj.disciplineMode ≠ 1) :
    s.timeOffsetWrite q v = { s with dev := s.dev.refuse q .state } := if_pos h

theorem State.timeOffsetWrite_host {s : State} {q : Requester} {v : BitVec 64} (h : s.dev.rd Obj.disciplineMode = 1) :
    s.timeOffsetWrite q v.toNat = { (({ s with dev := s.dev.clearCoast } : State).timeStep v.toInt) with
      dev := (({ s with dev := s.dev.clearCoast } : State).timeStep v.toInt).dev.accept q } := by
  rw [State.timeOffsetWrite, if_neg (not_not_intro h), signed_toNat (by decide)]

theorem execReBasing_next {s : State} (h : s.dev.alive = true) : execReBasing s = .next s.start.reBase := by rw [execReBasing, if_pos h]

/-- Settles O1: each command's branch is one of the updates above; the clearing of Coasted comes before the step of device time. -/
theorem referenceAndRebasing : Obligations.ReferenceAndRebasing := by
  unfold Obligations.ReferenceAndRebasing
  simp only [exec, execHoldoverEntry, execPllRelock, execRefclkComparison, execTimeOffsetWrite]
  refine ⟨fun s hu => ⟨fun h5 => nextHas_runIn hu ?_, fun h5 => nextHas_runIn hu ?_⟩,
    fun s ppb hu => ⟨fun h5 hf hp => nextHas_runIn hu ?_, fun h5 hf hp => nextHas_runIn hu ?_, fun h5 => nextHas_runIn hu ?_⟩,
    fun s ha hs hd => ⟨_, execReBasing_next ha, ?_⟩,
    fun s q v hh => ⟨fun hm => nextHas_askedM hh ?_, fun hm hv => nextHas_askedM hh ?_, fun hm hv => nextHas_askedM hh ?_⟩⟩
  · obtain ⟨hF, hf, hkept, hbits⟩ := Dev.holdoverEntry_shows (s := s.dev.fresh) h5
    refine ⟨hbits 5 (by omega), hbits 3 (by omega), hF, hf, fun i hi h3 h5 => ?_, hkept, s.sameRest_dev _⟩
    rw [hbits i hi, if_neg h3, if_neg h5, Dev.bit_fresh]
  · obtain ⟨hf, hunc, hkept, hbits⟩ := Dev.pllRelock_shows (s := s.dev.fresh) h5
    refine ⟨hbits 5 (by omega), hf, hunc.trans (Dev.uncertaintyNow_holdover (s := s.dev.fresh) h5), fun i hi h5 => ?_, hkept, s.sameRest_dev _⟩
    rw [hbits i hi, if_neg h5, Dev.bit_fresh]
  · rw [Dev.refclkComparison_within (s := s.dev.fresh) h5 hf hp]
    refine ⟨Dev.bit_setBit_same _ _ _ (by decide), fun i hi h6 => ?_, ?_, s.sameRest_dev _⟩
    · rw [Dev.bit_setBit_32 _ rfl hi, if_neg h6]
      rfl
    · exact Dev.regsKept.setBit ((s.dev.regsKept_fresh _).of_dict rfl) 6 false (by simp)
  · rw [Dev.refclkComparison_beyond (s := s.dev.fresh) h5 hf hp]
    exact ⟨(Dev.bit_detect_timeBase _ 6).trans (Dev.bit_setBit_same _ _ _ (by decide)), s.sameRest_dev _⟩
  · rw [Dev.refclkComparison_holdover (s := s.dev.fresh) h5]
    exact ⟨s.dev.regsKept_fresh _, s.sameRest_dev _⟩
  · obtain ⟨d, hd', hrest⟩ := State.reBase_shows (s := s.start) hs hd
    obtain ⟨hf, hst, haon, hlast, hcoast, hunb, hunc, hkept⟩ := hrest
    exact ⟨{ s with dev := d }, hd', hf, hst, haon, hlast, hcoast, hunb, hunc, hkept, s.sameRest_dev _⟩
  · rw [State.timeOffsetWrite_refused (s := s.start) hm]
    exact ⟨Dev.told_refuse _ _ _, (s.dev.regsKept_fresh _).refuse q _, s.sameRest_dev _⟩
  · have hclear := (s.dev.regsKept_fresh [Obj.timeStatus.key, Obj.uncertainty.key]).clearCoast (by simp) (by simp)
    have hoff : s.dev.fresh.clearCoast.rdI Obj.timeOffset = v.toInt := (hclear.rdI (by decide)).trans hv
    rw [State.timeOffsetWrite_host (s := s.start) hm, State.timeStep_repeat hoff]
    refine ⟨Dev.told_accept _ _, ?_, ?_, ?_, hclear.accept q, s.sameRest_dev _⟩
    · exact (Dev.bit_accept _ _ _ (by decide)).trans (s.dev.fresh.bit_clearCoast (by decide))
    · exact (Dev.bit_accept _ _ _ (by decide)).trans (s.dev.fresh.bit_clearCoast (by decide))
    · exact (Dev.rd_accept _ _ (by decide)).trans s.dev.fresh.rd_uncertainty_clearCoast
  · have hclear := (s.dev.regsKept_fresh [Obj.timeStatus.key, Obj.uncertainty.key]).clearCoast (by simp) (by simp)
    have hcoast := (s.dev.regsKept_fresh [Obj.timeStatus.key, Obj.uncertainty.key, Obj.timeOffset.key, Obj.stepCount.key]).clearCoast (by simp) (by simp)
    have hoff : s.dev.fresh.clearCoast.rdI Obj.timeOffset ≠ v.toInt := by
      rw [hclear.rdI (by decide)]
      exact hv
    rw [State.timeOffsetWrite_host (s := s.start) hm, State.timeStep_change hoff]
    refine ⟨Dev.told_accept _ _, { s with dev := s.dev.fresh.clearCoast.offsetStepped v.toInt }, rfl, Dev.rdI_timeOffset_offsetStepped _ v,
      ?_, ?_, ?_, ?_, ?_, hcoast.offsetStepped _ (by simp) (by simp), s.sameRest_dev _⟩
    · rw [Dev.rd_stepCount_offsetStepped, hclear Obj.stepCount (by decide)]
    · exact (Dev.bit_offsetStepped _ _ _).trans (s.dev.fresh.bit_clearCoast (by decide))
    · exact (Dev.bit_offsetStepped _ _ _).trans (s.dev.fresh.bit_clearCoast (by decide))
    · exact (((Dev.regsKept.refl _ [Obj.timeOffset.key, Obj.stepCount.key]).offsetStepped _ (by simp) (by simp)) Obj.uncertainty (by decide)).trans
        s.dev.fresh.rd_uncertainty_clearCoast
    · exact (Dev.offsetStepped_f _ _).trans s.dev.fresh.clearCoast_f

end Sys2Proof.Machine
end

section
/-! The servo (R82, R84, R106): which measurements reach it, its lock, its slews. -/

namespace Sys2Proof.Machine

open Sys2Proof

/-! ### Which measurements reach it -/

section
variable {s : State} {e : Int} {delay : Nat} {id : List Byte}

theorem State.servo_none (h : s.dev.rd Obj.disciplineMode = 0 ∨ s.dev.rd Obj.disciplineMode = 1) : s.servo e delay id = s := by
  rcases h with h | h <;> simp only [State.servo, h]

theorem State.servo_flooded (h : s.dev.rd Obj.disciplineMode = 3) (hb : s.dev.bit (Obj.capStatus (s.dev.rd Obj.ppsCapture)) 2 = true) :
    s.servo e delay id = { s with dev := s.dev.unlock } := by
  simp only [State.servo, h, hb, if_true]

theorem State.servo_rejected (h : s.dev.rd Obj.disciplineMode = 3) (hb : s.dev.bit (Obj.capStatus (s.dev.rd Obj.ppsCapture)) 2 = false)
    (he : 500000000 < e.natAbs) : s.servo e delay id = { s with dev := s.dev.bump Obj.ppsRejected } := by
  simp only [State.servo, h, hb, he, Bool.false_eq_true, if_false, if_true]

theorem State.servo_taken (h : s.dev.rd Obj.disciplineMode = 3) (hb : s.dev.bit (Obj.capStatus (s.dev.rd Obj.ppsCapture)) 2 = false)
    (he : e.natAbs ≤ 500000000) : s.servo e delay id = s.servoCorrect e := by
  simp only [State.servo, h, hb, Nat.not_lt.mpr he, Bool.false_eq_true, if_false]

end

/-! ### Locked -/

section
variable {s : Dev} {e : Int}

/-- The measurements in a row within ±100 ns. -/
def Dev.lockCounted (s : Dev) (e : Int) : Dev := { s with lockRun := if e.natAbs ≤ 100 then s.lockRun + 1 else 0 }

/-- Locked set, and what its setting clears and sets beside (R81, R91). -/
def Dev.lockSet (s : Dev) : Dev :=
  let s := (s.setBit Obj.timeStatus 3 true).clearCoast
  if s.rd Obj.disciplineMode = 2 then s.setBit Obj.timeStatus 7 true else s

theorem Dev.servoLock_cases : s.servoLock e =
    if 1000 < e.natAbs then (s.lockCounted e).setBit Obj.timeStatus 3 false
    else if 16 ≤ (s.lockCounted e).lockRun ∧ (s.lockCounted e).bit Obj.timeStatus 3 = false then (s.lockCounted e).lockSet
    else s.lockCounted e := rfl

theorem Dev.lockSet_f : s.lockSet.f = s.f := by
  have hclear : (s.setBit Obj.timeStatus 3 true).clearCoast.f = s.f := Dev.clearCoast_f _
  unfold Dev.lockSet
  dsimp only
  split
  · rw [Dev.setBit, Dev.setF_f, hclear]
  · exact hclear

theorem Dev.bit_lockSet : s.lockSet.bit Obj.timeStatus 3 = true := by
  have hclear : (s.setBit Obj.timeStatus 3 true).clearCoast.bit Obj.timeStatus 3 = true :=
    (Dev.bit_clearCoast _ (by decide)).trans (Dev.bit_setBit_same _ _ _ (by decide))
  unfold Dev.lockSet
  dsimp only
  split
  · exact (Dev.bit_setBit_32 _ rfl (by decide) 7 true).trans hclear
  · exact hclear

theorem Dev.regsKept.lockSet {t : Dev} {ks : List Nat} (h : s.regsKept t ks) (hs : Obj.timeStatus.key ∈ ks) (hu : Obj.uncertainty.key ∈ ks) :
    s.regsKept t.lockSet ks := by
  unfold Dev.lockSet
  dsimp only
  split
  · exact ((h.setBit _ _ hs).clearCoast hs hu).setBit _ _ hs
  · exact (h.setBit _ _ hs).clearCoast hs hu

theorem Dev.servoLock_f : (s.servoLock e).f = s.f := by
  rw [Dev.servoLock_cases]
  split
  · rfl
  · split
    · exact Dev.lockSet_f
    · rfl

theorem Dev.regsKept_servoLock : s.regsKept (s.servoLock e) [Obj.timeStatus.key, Obj.uncertainty.key] := by
  have hcount : s.regsKept (s.lockCounted e) [Obj.timeStatus.key, Obj.uncertainty.key] := (Dev.regsKept.refl _ _).of_dict rfl
  rw [Dev.servoLock_cases]
  split
  · exact hcount.setBit _ _ (by simp)
  · split
    · exact hcount.lockSet (by simp) (by simp)
    · exact hcount

theorem Dev.servoLock_lost (h : 1000 < e.natAbs) : (s.servoLock e).bit Obj.timeStatus 3 = false := by
  rw [Dev.servoLock_cases, if_pos h]
  exact Dev.bit_setBit_same _ _ _ (by decide)

theorem Dev.servoLock_won (h : e.natAbs ≤ 100) (hr : 15 ≤ s.lockRun) : (s.servoLock e).bit Obj.timeStatus 3 = true := by
  have hrun : 16 ≤ (s.lockCounted e).lockRun := by
    rw [Dev.lockCounted, if_pos h]
    dsimp only
    omega
  rw [Dev.servoLock_cases, if_neg (by omega)]
  cases hb : (s.lockCounted e).bit Obj.timeStatus 3
  · rw [if_pos ⟨hrun, rfl⟩]
    exact Dev.bit_lockSet
  · rw [if_neg (by simp)]
    exact hb

end

/-! ### A slew -/

/-- The rate that the next draw gives, within ±500 ppm (R84). -/
def Dev.slewRate (s : Dev) : Int := ((s.open_ % (2 * slewLimit + 1) : Nat) : Int) - slewLimit

theorem Dev.slewRate_bound (s : Dev) : s.slewRate.natAbs ≤ 549755813 := by
  have := Nat.mod_lt s.open_ (show 0 < 2 * slewLimit + 1 by decide)
  unfold Dev.slewRate
  have hl : slewLimit = 549755813 := rfl
  omega

theorem State.servoCorrect_slew {s : State} {e : Int} (h : e.natAbs ≤ s.dev.rd Obj.stepLimit) :
    s.servoCorrect e = { s with dev := (s.dev.servoLock e).drawn.rateTo (s.dev.servoLock e).slewRate } := by
  refine if_neg ?_
  have hlimit : (s.dev.servoLock e).rd Obj.stepLimit = s.dev.rd Obj.stepLimit := Dev.regsKept_servoLock _ (by decide)
  dsimp only
  rw [hlimit]
  omega

/-- What a measurement that slews leaves (R84). -/
theorem Dev.slewed_shows (s : Dev) (e : Int) :
    let t := (s.servoLock e).drawn.rateTo (s.servoLock e).slewRate
    t.bit Obj.timeStatus 3 = (s.servoLock e).bit Obj.timeStatus 3 ∧ (t.rdI Obj.rateAdjust).natAbs ≤ 549755813 ∧ t.f = s.f ∧
    s.regsKept t [Obj.timeStatus.key, Obj.uncertainty.key, Obj.timeOffset.key, Obj.rateAdjust.key] := by
  have hb := (s.servoLock e).slewRate_bound
  have hrate : (s.servoLock e).drawn.regsKept ((s.servoLock e).drawn.rateTo (s.servoLock e).slewRate) [Obj.timeOffset.key, Obj.rateAdjust.key] :=
    (Dev.regsKept.refl _ _).rateTo _ (by simp) (by simp)
  refine ⟨hrate.bit (by decide) 3, ?_, (Dev.rateTo_f _).trans Dev.servoLock_f, fun r hr => ?_⟩
  · rw [Dev.rateTo_rate _ (by omega) (by omega)]
    exact hb
  · simp only [List.mem_cons, not_or] at hr
    obtain ⟨hs, hu, ho, ha, -⟩ := hr
    exact (hrate r (by simp [ho, ha])).trans (Dev.regsKept_servoLock r (by simp [hs, hu]))

/-- Settles O5: by the mode, the flood of the input and the distance from a whole second; what is left is a slew. -/
theorem servoSlews : Obligations.ServoSlews := by
  unfold Obligations.ServoSlews
  simp only [exec, execServoMeasurement]
  refine fun s e delay id hu => ⟨fun hm => nextHas_runInM hu ?_, fun hm hb => nextHas_runInM hu ?_, fun hm hb he => nextHas_runInM hu ?_,
    fun hm hb he hl => nextHas_runInM hu ?_⟩
  · rw [State.servo_none (s := s.start) hm]
    exact ⟨s.dev.regsKept_fresh _, s.sameRest_dev _⟩
  · rw [State.servo_flooded (s := s.start) hm hb]
    refine ⟨Dev.bit_unlock _ (by decide), rfl, fun i hi h3 => ?_, (s.dev.regsKept_fresh _).unlock (by simp), s.sameRest_dev _⟩
    exact (Dev.bit_unlock _ hi).trans (if_neg h3)
  · rw [State.servo_rejected (s := s.start) hm hb he]
    exact ⟨Dev.rd_bump_same _ _, (s.dev.regsKept_fresh _).bump (by simp), s.sameRest_dev _⟩
  · rw [State.servo_taken (s := s.start) hm hb he, State.servoCorrect_slew (s := s.start) hl]
    obtain ⟨hlock, hrate, hf, hkept⟩ := s.dev.fresh.slewed_shows e.toInt
    exact ⟨fun h => hlock.trans (Dev.servoLock_lost h), fun h hr => hlock.trans (Dev.servoLock_won h hr), hkept Obj.stepCount (by decide), hrate, hf, hkept,
      s.sameRest_dev _⟩

end Sys2Proof.Machine
end

section
/-! The triggers (R93 to R98): what each operation on one leaves of its record and of its registers. -/

namespace Sys2Proof.Machine

open Sys2Proof

/-! ### A trigger's record and its registers -/

/-- The registers that arming, firing and disarming trigger `n` write. -/
def trigKeys (n : Nat) : List Nat := [(Obj.trigControl n).key, (Obj.trigStatus n).key, (Obj.trigFired n).key]

/-- The registers that the next edge is computed from are none of those (R93, R96). -/
theorem trigKeys_stand (n : Nat) : Obj.timeOffset.key ∉ trigKeys n ∧ Obj.rateAdjust.key ∉ trigKeys n ∧ (Obj.trigTarget n).key ∉ trigKeys n ∧
    (Obj.trigPeriod n).key ∉ trigKeys n := by
  simp only [trigKeys, List.mem_cons, List.not_mem_nil, or_false, Obj.timeOffset, Obj.rateAdjust, Obj.trigTarget, Obj.trigPeriod, Obj.trigControl,
    Obj.trigStatus, Obj.trigFired, Reg.at_key]
  omega

/-- A trigger's object is not that of the transport counters (R488). -/
theorem trigObject_ne_transport (n : Fin 16) {k : Nat} (hk : k < 256) : ((0x3400 + n.val) * 256 + k) / 256 ≠ 0x1110 := by omega

section
variable (s : Dev) (n : Nat)

theorem trigStatus_ne_control : (Obj.trigControl n).key ≠ (Obj.trigStatus n).key := by simp [Obj.trigControl, Obj.trigStatus]

theorem trigFired_ne_control : (Obj.trigControl n).key ≠ (Obj.trigFired n).key := by simp [Obj.trigControl, Obj.trigFired]

theorem trigStatus_ne_fired : (Obj.trigFired n).key ≠ (Obj.trigStatus n).key := by simp [Obj.trigFired, Obj.trigStatus]

@[simp] theorem Dev.trig_updTrig (f : Trig → Trig) : (s.updTrig n f).trig n = f (s.trig n) := Tab.get_upd_same ..

theorem Dev.trig_updTrig_other {k : Nat} (f : Trig → Trig) (h : k ≠ n) : (s.updTrig n f).trig k = s.trig k := Tab.get_upd_other _ _ h

@[simp] theorem Dev.trig_wr (r : Reg) (v : Nat) : (s.wr r v).trig n = s.trig n := rfl

@[simp] theorem Dev.trig_setBit (r : Reg) (i : Nat) (b : Bool) : (s.setBit r i b).trig n = s.trig n := rfl

@[simp] theorem Dev.trig_accept (q : Requester) : (s.accept q).trig n = s.trig n := by simp [Dev.trig]

@[simp] theorem Dev.rd_updTrig (f : Trig → Trig) (r : Reg) : (s.updTrig n f).rd r = s.rd r := rfl

@[simp] theorem Dev.bit_updTrig (f : Trig → Trig) (r : Reg) (i : Nat) : (s.updTrig n f).bit r i = s.bit r i := Dev.bit_eq _ _ _ _ rfl

end

section
variable {s t : Dev} {ks : List Nat}

theorem Dev.regsKept.updTrig (h : s.regsKept t ks) (n : Nat) (f : Trig → Trig) : s.regsKept (t.updTrig n f) ks := h.of_dict rfl

/-- A stored device time is read near the present one (R80). -/
theorem Dev.rdT_eq {r : Reg} (hr : t.rd r = s.rd r) (ht : t.dt = s.dt) : t.rdT r = s.rdT r := by
  rw [Dev.rdT, Dev.ofT80, hr, ht, Dev.rdT, Dev.ofT80]

/-- The next edge depends on its number, the trigger's target and period, and the present device time (R96). -/
theorem Dev.regsKept.trigEdge {n : Nat} (h : s.regsKept t (trigKeys n)) (hf : t.f = s.f) :
    t.trigEdge n = s.rdT (Obj.trigTarget n) + ((t.trig n).edge * s.rd (Obj.trigPeriod n) : Nat) := by
  obtain ⟨ho, hr, ht, hp⟩ := trigKeys_stand n
  rw [Dev.trigEdge, Dev.rdT_eq (h _ ht) (h.dt ho hr hf), h _ hp]

end

/-! ### Arming and disarming -/

/-- The trigger's record after a disarm: the pin of one that puts out no pulse goes to its idle level (R98). -/
def Trig.idled (t : Trig) (v : Nat) : Trig := { t with pin := if t.pulseEnd.isNone && t.used then bitAt v 2 else t.pin }

/-- Trigger `n` armed, its count of firings and of edges at zero, before its target is converted (R95). -/
def Dev.trigStarted (s : Dev) (n : Nat) : Dev :=
  ((s.wr (Obj.trigStatus n) 1).wr (Obj.trigFired n) 0).updTrig n (fun t =>
    { t with edge := 0, used := true, pin := if t.pulseEnd.isSome then t.pin else s.bit (Obj.trigControl n) 2 })

section
variable {s : Dev} {n v : Nat} {q : Requester}

/-- A one-shot trigger whose target has not passed. -/
theorem Dev.trigArm_ahead (hc : s.bit (Obj.trigControl n) 1 = false) (ht : s.dt ≤ s.rdT (Obj.trigTarget n)) :
    s.trigArm n = (s.trigStarted n).trigConvert n := by
  have hkept : s.regsKept (s.trigStarted n) (trigKeys n) := (((Dev.regsKept.refl _ _).wr _ (by simp [trigKeys])).wr _ (by simp [trigKeys])).updTrig _ _
  obtain ⟨ho, hr, -, -⟩ := trigKeys_stand n
  have hctl : (s.trigStarted n).bit (Obj.trigControl n) 1 = false := by
    rw [Dev.trigStarted, Dev.bit_updTrig, Dev.bit_wr_other _ _ _ (trigFired_ne_control n), Dev.bit_wr_other _ _ _ (trigStatus_ne_control n), hc]
  have hedge : (s.trigStarted n).trigEdge n = s.rdT (Obj.trigTarget n) := by
    rw [hkept.trigEdge rfl, Dev.trigStarted, Dev.trig_updTrig]
    simp
  have hlate : ¬ (s.trigStarted n).trigEdge n < (s.trigStarted n).dt := by
    rw [hedge, hkept.dt ho hr rfl]
    omega
  unfold Dev.trigArm
  change (if (s.trigStarted n).bit (Obj.trigControl n) 1 = true then (s.trigStarted n).trigSkip n
    else if (s.trigStarted n).trigEdge n < (s.trigStarted n).dt then _ else (s.trigStarted n).trigConvert n) = _
  rw [hctl, if_neg (by simp), if_neg hlate]

theorem Dev.trigControlWrite_far (hv : bitAt v 0 = true) (h : 500000000000 < (s.rdT (Obj.trigTarget n) - s.dt).natAbs) :
    s.trigControlWrite q n v = s.refuse q .range := by
  rw [Dev.trigControlWrite, if_pos hv, if_pos h]

theorem Dev.trigControlWrite_armed (hv : bitAt v 0 = true) (h : (s.rdT (Obj.trigTarget n) - s.dt).natAbs ≤ 500000000000)
    (ha : s.trigArmed n = true) : s.trigControlWrite q n v = s.refuse q .state := by
  rw [Dev.trigControlWrite, if_pos hv, if_neg (by omega), if_pos ha]

theorem Dev.trigControlWrite_arms (hv : bitAt v 0 = true) (h : (s.rdT (Obj.trigTarget n) - s.dt).natAbs ≤ 500000000000)
    (ha : s.trigArmed n = false) : s.trigControlWrite q n v = ((s.wr (Obj.trigControl n) v).trigArm n).accept q := by
  rw [Dev.trigControlWrite, if_pos hv, if_neg (by omega), if_neg (by simp [ha])]

theorem Dev.trigControlWrite_disarms (hv : bitAt v 0 = false) : s.trigControlWrite q n v =
    (((s.wr (Obj.trigControl n) v).setBit (Obj.trigStatus n) 0 false).updTrig n (fun t => t.idled v)).accept q := by
  rw [Dev.trigControlWrite, if_neg (by simp [hv])]
  rfl

end

/-- What the arming of a one-shot trigger leaves before it is answered (R95, R97). -/
theorem Dev.trigArm_shows {s : Dev} {n v : Nat} (hv : v < 2 ^ 32) (hc : bitAt v 1 = false) (ht : s.dt ≤ s.rdT (Obj.trigTarget n)) :
    let t := (s.wr (Obj.trigControl n) v).trigArm n
    t.rd (Obj.trigControl n) = v ∧ t.trigArmed n = true ∧ t.rd (Obj.trigFired n) = 0 ∧ (t.trig n).edge = 0 ∧
    (t.trig n).f40 = unsigned 40 (s.fOf (s.rdT (Obj.trigTarget n))) ∧ s.regsKept t (trigKeys n) := by
  obtain ⟨ho, hr, htgt, -⟩ := trigKeys_stand n
  have hwr : s.regsKept (s.wr (Obj.trigControl n) v) (trigKeys n) := (Dev.regsKept.refl _ _).wr _ (by simp [trigKeys])
  have hkept : s.regsKept ((s.wr (Obj.trigControl n) v).trigStarted n) (trigKeys n) :=
    ((hwr.wr _ (by simp [trigKeys])).wr _ (by simp [trigKeys])).updTrig _ _
  have hctl : (s.wr (Obj.trigControl n) v).rd (Obj.trigControl n) = v := Dev.rd_wr_fits _ _ hv
  have hahead : (s.wr (Obj.trigControl n) v).dt ≤ (s.wr (Obj.trigControl n) v).rdT (Obj.trigTarget n) := by
    rwa [Dev.rdT_eq (hwr _ htgt) (hwr.dt ho hr rfl), hwr.dt ho hr rfl]
  dsimp only
  rw [Dev.trigArm_ahead (by rw [Dev.bit, hctl, hc]) hahead]
  refine ⟨?_, ?_, ?_, ?_, ?_, hkept.updTrig _ _⟩
  · rw [Dev.trigConvert, Dev.rd_updTrig, Dev.trigStarted, Dev.rd_updTrig, Dev.rd_wr_other _ _ (trigFired_ne_control n),
      Dev.rd_wr_other _ _ (trigStatus_ne_control n), hctl]
  · have hstatus : ((s.wr (Obj.trigControl n) v).trigStarted n).rd (Obj.trigStatus n) = 1 := by
      rw [Dev.trigStarted, Dev.rd_updTrig, Dev.rd_wr_other _ _ (trigStatus_ne_fired n).symm, Dev.rd_wr_fits _ _ (show 1 < 2 ^ 32 by decide)]
    rw [Dev.trigArmed, Dev.trigConvert, Dev.bit_updTrig, Dev.bit, hstatus]
    rfl
  · exact Dev.rd_wr_fits _ _ (Nat.two_pow_pos 32)
  · rw [Dev.trigConvert, Dev.trig_updTrig, Dev.trigStarted, Dev.trig_updTrig]
  · rw [Dev.trigConvert, Dev.trig_updTrig]
    dsimp only
    rw [hkept.trigEdge rfl, hkept.fOf ho hr, Dev.trigStarted, Dev.trig_updTrig]
    simp

/-! ### Firing -/

/-- A reference edge reaches clock maps alone (R112). -/
theorem Dev.refEdge_only (s : Dev) (method src : Nat) (e : Int) : ∃ x, s.refEdge method src e = { s with clocks := x } := by
  unfold Dev.refEdge
  refine Dev.each_holds (fun u => ∃ x, u = { s with clocks := x }) ⟨s.clocks, rfl⟩ fun n _ u hu => ?_
  obtain ⟨x, rfl⟩ := hu
  split
  · exact ⟨_, rfl⟩
  · exact ⟨x, rfl⟩

theorem Dev.refEdge_dict (s : Dev) (method src : Nat) (e : Int) : (s.refEdge method src e).dict = s.dict := by
  obtain ⟨x, h⟩ := s.refEdge_only method src e
  rw [h]

theorem Dev.trig_refEdge (s : Dev) (method src : Nat) (e : Int) (n : Nat) : (s.refEdge method src e).trig n = s.trig n := by
  obtain ⟨x, h⟩ := s.refEdge_only method src e
  rw [h, Dev.trig, Dev.trig]

/-- The edge of device time `e` put out, before the trigger disarms itself (R94, R112). -/
def Dev.trigShot (s : Dev) (n : Nat) (e : Int) : Dev :=
  ((s.bump (Obj.trigFired n)).updTrig n (fun t =>
    { t with edge := t.edge + 1, pin := !s.bit (Obj.trigControl n) 2, pulseEnd := some (e + (s.rd (Obj.trigWidth n) : Nat)) })).refEdge 1 n e

section
variable {s : Dev} {n : Nat}

theorem Dev.trigFire_once {e : Int} (h1 : s.bit (Obj.trigControl n) 1 = false) (h3 : s.bit (Obj.trigControl n) 3 = false) :
    s.trigFire n e false = (s.trigShot n e).trigFinish n := by
  have h1' : bitAt (s.rd (Obj.trigControl n)) 1 = false := h1
  have h3' : bitAt (s.rd (Obj.trigControl n)) 3 = false := h3
  simp only [Dev.trigFire, h1', h3', Bool.false_eq_true, if_false, Bool.not_false, Bool.true_or, if_true]
  rfl

theorem Dev.trigDue_far (h : (2 ^ 39 : Int) ≤ s.fOf (s.trigEdge n) - s.f) : s.trigDue n = s := by
  have hfar : s.trigFar n = true := decide_eq_true h
  exact if_neg (by simp [hfar])

theorem Dev.trigDue_held (h : s.padsHeld 179 = true) : s.trigDue n = s := if_neg (by simp [h])

theorem Dev.trigDue_fires (hp : s.padsHeld 179 = false) (ha : s.trigArmed n = true) (hf : s.fOf (s.trigEdge n) - s.f < (2 ^ 39 : Int))
    (hd : 0 ≤ stampDiff 40 s.f (s.trig n).f40) : s.trigDue n = s.trigFire n (s.trigEdge n) false := by
  have hfar : s.trigFar n = false := decide_eq_false (by omega)
  exact if_pos (by simp [hp, ha, hfar, hd])

theorem Dev.trigShot_dict (e : Int) : (s.trigShot n e).dict = (s.bump (Obj.trigFired n)).dict := Dev.refEdge_dict _ _ _ _

theorem Dev.trig_trigShot (e : Int) : (s.trigShot n e).trig n =
    { s.trig n with edge := (s.trig n).edge + 1, pin := !s.bit (Obj.trigControl n) 2, pulseEnd := some (e + (s.rd (Obj.trigWidth n) : Nat)) } := by
  rw [Dev.trigShot, Dev.trig_refEdge, Dev.trig_updTrig]
  rfl

theorem Dev.bit_trigFinish {i : Nat} (hi : i < 32) :
    (s.trigFinish n).bit (Obj.trigStatus n) i = if i = 2 then true else if i = 0 then false else s.bit (Obj.trigStatus n) i := by
  rw [Dev.trigFinish, Dev.bit_setBit_32 _ rfl hi, Dev.bit_setBit_32 _ rfl hi]

/-- What a one-shot firing leaves (R94, R96). -/
theorem Dev.trigOnce_shows (e : Int) :
    let t := (s.trigShot n e).trigFinish n
    t.rd (Obj.trigFired n) = (s.rd (Obj.trigFired n) + 1) % 2 ^ 32 ∧ t.trigArmed n = false ∧ t.bit (Obj.trigStatus n) 2 = true ∧
    t.bit (Obj.trigStatus n) 1 = s.bit (Obj.trigStatus n) 1 ∧ (t.trig n).pin = !s.bit (Obj.trigControl n) 2 ∧
    (t.trig n).pulseEnd = some (e + (s.rd (Obj.trigWidth n) : Nat)) ∧ s.regsKept t [(Obj.trigFired n).key, (Obj.trigStatus n).key] := by
  have hshot : s.regsKept (s.trigShot n e) [(Obj.trigFired n).key] := ((Dev.regsKept.refl _ _).bump (by simp)).of_dict (Dev.trigShot_dict e)
  refine ⟨?_, Dev.bit_trigFinish (by decide), Dev.bit_trigFinish (by decide), ?_, ?_, ?_, ?_⟩
  · rw [Dev.trigFinish, Dev.rd_setBit_other _ _ _ (trigStatus_ne_fired n), Dev.rd_setBit_other _ _ _ (trigStatus_ne_fired n), Dev.rd_dict,
      Dev.trigShot_dict, ← Dev.rd_dict, Dev.rd_bump_same]
    rfl
  · exact (Dev.bit_trigFinish (by decide)).trans (hshot.bit (by simpa using (trigStatus_ne_fired n).symm) 1)
  · rw [Dev.trigFinish, Dev.trig_setBit, Dev.trig_setBit, Dev.trig_trigShot]
  · rw [Dev.trigFinish, Dev.trig_setBit, Dev.trig_setBit, Dev.trig_trigShot]
  · exact Dev.regsKept.setBit (Dev.regsKept.setBit
      (((Dev.regsKept.refl _ _).bump (by simp)).of_dict (Dev.trigShot_dict e)) 0 false (by simp)) 2 true (by simp)

end

/-! ### Converting again -/

/-- The conversion of trigger `n` after a change of rate (R93). -/
def Dev.trigRated (s : Dev) (n : Nat) : Dev := if s.trigArmed n then s.trigConvert n else s

theorem Dev.trigReconvert_rate {s : Dev} (h : s.reconvert = .rate) :
    s.trigReconvert = ({ s with reconvert := .none } : Dev).each 16 (fun n u => u.trigRated n) := by
  simp only [Dev.trigReconvert, h, reduceCtorEq, if_false, if_true]
  rfl

theorem Dev.trigReconvert_none {s : Dev} (h : s.reconvert = .none) : s.trigReconvert = s := by
  simp only [Dev.trigReconvert, h, if_true]
  rw [← h]

/-- After `k` conversions the triggers below `k` stand converted; each changes one F40 value alone (R93). -/
theorem Dev.trigRated_each (s : Dev) (k : Nat) : (∃ x, s.each k (fun n u => u.trigRated n) = { s with trigs := x }) ∧
    (∀ n, ((s.each k (fun n u => u.trigRated n)).trig n).edge = (s.trig n).edge) ∧
    ∀ n < k, s.trigArmed n = true → ((s.each k (fun n u => u.trigRated n)).trig n).f40 = unsigned 40 (s.fOf (s.trigEdge n)) := by
  induction k with
  | zero => exact ⟨⟨s.trigs, rfl⟩, fun _ => rfl, fun n hn => absurd hn (by omega)⟩
  | succ k ih =>
    rw [Dev.each_succ]
    generalize s.each k (fun n u => u.trigRated n) = u at ih
    obtain ⟨⟨x, hx⟩, hedge, hconv⟩ := ih
    have hkept : s.regsKept u [] := by
      rw [hx]
      exact (Dev.regsKept.refl _ _).of_dict rfl
    have harmed : u.trigArmed k = s.trigArmed k := hkept.bit (by simp) 0
    have hnext : u.fOf (u.trigEdge k) = s.fOf (s.trigEdge k) := by
      have hf : u.f = s.f := by rw [hx]
      have he : u.trigEdge k = s.trigEdge k := by
        rw [Dev.trigEdge, Dev.rdT_eq (hkept _ (by simp)) (hkept.dt (by simp) (by simp) hf), hkept _ (by simp), hedge, Dev.trigEdge]
      rw [hkept.fOf (by simp) (by simp), he]
    rw [Dev.trigRated, harmed]
    by_cases ha : s.trigArmed k = true
    · rw [if_pos ha]
      refine ⟨?_, fun n => ?_, fun n hn hna => ?_⟩
      · rw [hx]
        exact ⟨_, rfl⟩
      · by_cases hk : n = k
        · rw [hk, Dev.trigConvert, Dev.trig_updTrig]
          exact hedge k
        · rw [Dev.trigConvert, Dev.trig_updTrig_other _ _ _ hk, hedge n]
      · by_cases hk : n = k
        · rw [hk, Dev.trigConvert, Dev.trig_updTrig]
          exact congrArg (unsigned 40) hnext
        · rw [Dev.trigConvert, Dev.trig_updTrig_other _ _ _ hk, hconv n (by omega) hna]
    · rw [if_neg ha]
      refine ⟨⟨x, hx⟩, hedge, fun n hn hna => hconv n ?_ hna⟩
      have hk : n ≠ k := fun e => ha (e ▸ hna)
      omega

end Sys2Proof.Machine
end

section
/-! The claims about arming, firing, converting and disarming triggers. -/

namespace Sys2Proof.Machine

open Sys2Proof

/-- The value that a TRIGGER_ARM writes sets Enable and keeps the rest (R95). -/
theorem bitAt_armed (v i : Nat) : bitAt (v / 2 * 2 + 1) i = if i = 0 then true else v.testBit i := by
  rw [bitAt_eq_testBit]
  cases i with
  | zero => simp
  | succ i =>
    rw [Nat.testBit_succ, Nat.testBit_succ v, if_neg (by omega)]
    congr 1
    omega

theorem bitAt_disarmed (v : Nat) : bitAt (v / 2 * 2) 0 = false := by simp [bitAt]

/-- Settles O6: by the branches of the write that arms, the kind of conversion that is due, and whether the trigger's edge is. -/
theorem triggersArmAndFire : Obligations.TriggersArmAndFire := by
  unfold Obligations.TriggersArmAndFire
  simp only [exec, execTriggerArm, execTriggerReconvert, execTriggerFire]
  refine ⟨fun s q n v hh => ⟨fun hd => nextHas_asked hh ?_, fun hd ha => nextHas_asked hh ?_, fun hd ha hv ht => nextHas_asked hh ?_⟩,
    fun s hu => ⟨fun hr => nextHas_runIn hu ?_, fun hr => nextHas_runIn hu ?_⟩,
    fun s n hu => ⟨fun hp => ⟨fun hf => nextHas_runIn hu ?_, fun ha hf hd h1 h3 => nextHas_runIn hu ?_⟩, fun hp => nextHas_runIn hu ?_⟩⟩
  · have hv0 : bitAt (v.toNat / 2 * 2 + 1) 0 = true := bitAt_armed _ 0
    rw [Dev.trigControlWrite_far (s := s.dev.fresh) hv0 hd]
    exact ⟨Dev.told_refuse _ _ _, (s.dev.regsKept_fresh _).refuse q _, Dev.refuse_trigs _ _ _, s.sameRest_dev _⟩
  · have hv0 : bitAt (v.toNat / 2 * 2 + 1) 0 = true := bitAt_armed _ 0
    rw [Dev.trigControlWrite_armed (s := s.dev.fresh) hv0 hd ha]
    exact ⟨Dev.told_refuse _ _ _, (s.dev.regsKept_fresh _).refuse q _, Dev.refuse_trigs _ _ _, s.sameRest_dev _⟩
  · have hv0 : bitAt (v.toNat / 2 * 2 + 1) 0 = true := bitAt_armed _ 0
    have hv1 : bitAt (v.toNat / 2 * 2 + 1) 1 = false := (bitAt_armed _ 1).trans hv
    have hv32 : v.toNat / 2 * 2 + 1 < 2 ^ 32 := by
      have := v.isLt
      omega
    rw [Dev.trigControlWrite_arms (s := s.dev.fresh) hv0 hd ha]
    obtain ⟨hctl, harmed, hfired, hedge, hf40, hkept⟩ := Dev.trigArm_shows (s := s.dev.fresh) (n := n.val) hv32 hv1 ht
    have hn {k : Nat} (hk : k < 256) := trigObject_ne_transport n hk
    refine ⟨Dev.told_accept _ _, (Dev.rd_accept _ _ (hn (k := 1) (by omega))).trans hctl, (Dev.bit_accept _ _ _ (hn (k := 6) (by omega))).trans harmed,
      (Dev.rd_accept _ _ (hn (k := 7) (by omega))).trans hfired, ?_, ?_, ((s.dev.regsKept_fresh _).trans hkept).accept q, s.sameRest_dev _⟩
    · rw [Dev.trig_accept]
      exact hedge
    · rw [Dev.trig_accept]
      exact hf40
  · rw [Dev.trigReconvert_rate (s := s.dev.fresh) hr]
    obtain ⟨⟨x, hx⟩, -, hconv⟩ := Dev.trigRated_each { s.dev.fresh with reconvert := .none } 16
    refine ⟨hconv, ?_, ?_, s.sameRest_dev _⟩
    · rw [hx]
    · rw [hx]
      exact (s.dev.regsKept_fresh _).of_dict rfl
  · rw [Dev.trigReconvert_none (s := s.dev.fresh) hr]
    exact ⟨rfl, s.sameRest_dev _⟩
  · rw [Dev.trigDue_far (s := s.dev.fresh) hf]
    exact ⟨rfl, s.sameRest_dev _⟩
  · rw [Dev.trigDue_fires (s := s.dev.fresh) hp ha hf hd, Dev.trigFire_once (s := s.dev.fresh) h1 h3]
    obtain ⟨hfired, harmed, hdone, hlate, hpin, hend, hkept⟩ := Dev.trigOnce_shows (s := s.dev.fresh) (n := n.val) (s.dev.fresh.trigEdge n.val)
    exact ⟨hfired, harmed, hdone, hlate, hpin, hend, hkept, s.sameRest_dev _⟩
  · rw [Dev.trigDue_held (s := s.dev.fresh) hp]
    exact ⟨rfl, s.sameRest_dev _⟩

/-! ### Disarming and the end of a pulse -/

theorem Trig.idled_pulse {t : Trig} (v : Nat) (h : t.pulseEnd ≠ none) : t.idled v = t := by
  have hnone : t.pulseEnd.isNone = false := Option.isNone_eq_false_iff.mpr (Option.isSome_iff_ne_none.mpr h)
  simp [Trig.idled, hnone]

section
variable {s : Dev} {n : Nat}

/-- What a disarm leaves before it is answered. -/
theorem Dev.trigDisarm_shows {v : Nat} (hv : v < 2 ^ 32) :
    let t := ((s.wr (Obj.trigControl n) v).setBit (Obj.trigStatus n) 0 false).updTrig n (fun t => t.idled v)
    t.rd (Obj.trigControl n) = v ∧ (∀ i < 32, t.bit (Obj.trigStatus n) i = if i = 0 then false else s.bit (Obj.trigStatus n) i) ∧
    t.trig n = (s.trig n).idled v ∧ s.regsKept t [(Obj.trigControl n).key, (Obj.trigStatus n).key] := by
  refine ⟨?_, fun i hi => ?_, ?_, (((Dev.regsKept.refl _ _).wr _ (by simp)).setBit _ _ (by simp)).updTrig _ _⟩
  · rw [Dev.rd_updTrig, Dev.rd_setBit_other _ _ _ (trigStatus_ne_control n), Dev.rd_wr_fits _ _ hv]
  · rw [Dev.bit_updTrig, Dev.bit_setBit_32 _ rfl hi, Dev.bit_wr_other _ _ _ (trigStatus_ne_control n).symm]
  · rw [Dev.trig_updTrig, Dev.trig_setBit, Dev.trig_wr]

theorem Dev.trigPulseEnd_ends {e : Int} (h : (s.trig n).pulseEnd = some e) (he : e ≤ s.dt) (hp : s.padsHeld 179 = false) :
    s.trigPulseEnd n = s.updTrig n (fun t => { t with pulseEnd := none, pin := s.bit (Obj.trigControl n) 2 }) := by
  simp only [Dev.trigPulseEnd, h, he, hp, and_self, if_true]

theorem Dev.trigPulseEnd_runs {e : Int} (h : (s.trig n).pulseEnd = some e) (he : s.dt < e) : s.trigPulseEnd n = s := by
  simp only [Dev.trigPulseEnd, h, Int.not_le.mpr he, false_and, if_false]

theorem Dev.trigPulseEnd_held (hp : s.padsHeld 179 = true) : s.trigPulseEnd n = s := by
  unfold Dev.trigPulseEnd
  split
  · rw [if_neg (by simp [hp])]
  · rfl

end

/-- Settles O7: a disarm writes the control register and one bit; the end of a pulse comes with its device time, on a pin that moves. -/
theorem triggerDisarming : Obligations.TriggerDisarming := by
  unfold Obligations.TriggerDisarming
  simp only [exec, execTriggerDisarm, execTriggerPulseEnd]
  refine ⟨fun s q n v hh => nextHas_asked hh ?_, fun s n hu hp => ⟨fun e h he => nextHas_runIn hu ?_, fun e h he => nextHas_runIn hu ?_⟩,
    fun s n hu hp => nextHas_runIn hu ?_⟩
  · have hv32 : v.toNat / 2 * 2 < 2 ^ 32 := by
      have := v.isLt
      omega
    have hn {k : Nat} (hk : k < 256) := trigObject_ne_transport n hk
    rw [Dev.trigControlWrite_disarms (s := s.dev.fresh) (bitAt_disarmed _)]
    obtain ⟨hctl, hbits, htrig, hkept⟩ := Dev.trigDisarm_shows (s := s.dev.fresh) (n := n.val) hv32
    refine ⟨Dev.told_accept _ _, (Dev.rd_accept _ _ (hn (k := 1) (by omega))).trans hctl,
      (Dev.bit_accept _ _ _ (hn (k := 6) (by omega))).trans (hbits 0 (by omega)),
      fun i h1 hi => ?_, ?_, fun h => ?_, ((s.dev.regsKept_fresh _).trans hkept).accept q, s.sameRest_dev _⟩
    · exact (Dev.bit_accept _ _ _ (hn (k := 6) (by omega))).trans ((hbits i hi).trans (if_neg (by omega)))
    · rw [Dev.trig_accept]
      rw [htrig]
      rfl
    · rw [Dev.trig_accept]
      exact htrig.trans (Trig.idled_pulse _ h)
  · rw [Dev.trigPulseEnd_ends (s := s.dev.fresh) h he hp]
    refine ⟨?_, ?_, (s.dev.regsKept_fresh _).updTrig _ _, s.sameRest_dev _⟩ <;> rw [Dev.trig_updTrig]
    rfl
  · rw [Dev.trigPulseEnd_runs (s := s.dev.fresh) h he]
    exact ⟨rfl, s.dev.regsKept_fresh _, s.sameRest_dev _⟩
  · rw [Dev.trigPulseEnd_held (s := s.dev.fresh) hp]
    exact ⟨rfl, s.sameRest_dev _⟩

end Sys2Proof.Machine
end

section
/-! The capture inputs (R100 to R105): what an accepted edge, a record, a flood's end, CapControl and CapPop leave. -/

namespace Sys2Proof.Machine

open Sys2Proof

/-! ### An input's record and its registers -/

/-- A capture input's object is not that of the transport counters (R488). -/
theorem capObject_ne_transport (m : Fin 8) {k : Nat} (hk : k < 256) : ((0x3420 + m.val) * 256 + k) / 256 ≠ 0x1110 := by omega

section
variable (s : Dev) (m : Nat)

theorem capStatus_ne_lost : (Obj.capLost m).key ≠ (Obj.capStatus m).key := by simp [Obj.capLost, Obj.capStatus]

theorem capStatus_ne_control : (Obj.capControl m).key ≠ (Obj.capStatus m).key := by simp [Obj.capControl, Obj.capStatus]

theorem capStatus_ne_limit : (Obj.capFloodLimit m).key ≠ (Obj.capStatus m).key := by simp [Obj.capFloodLimit, Obj.capStatus]

theorem capStatus_ne_episodes : (Obj.capFloodEpisodes m).key ≠ (Obj.capStatus m).key := by simp [Obj.capFloodEpisodes, Obj.capStatus]

/-- CapStatus is no register that device time is computed from. -/
theorem capStatus_not_time : Obj.timeOffset.key ∉ [(Obj.capStatus m).key] ∧ Obj.rateAdjust.key ∉ [(Obj.capStatus m).key] := by
  simp only [List.mem_singleton, Obj.timeOffset, Obj.rateAdjust, Obj.capStatus, Reg.at_key]
  omega

@[simp] theorem Dev.cap_setBit (r : Reg) (i : Nat) (b : Bool) : (s.setBit r i b).cap m = s.cap m := rfl

@[simp] theorem Dev.cap_setF (r : Reg) (lo w v : Nat) : (s.setF r lo w v).cap m = s.cap m := rfl

@[simp] theorem Dev.cap_bump (r : Reg) : (s.bump r).cap m = s.cap m := rfl

@[simp] theorem Dev.cap_answer (q : Requester) (st : Status) (d : List Byte) : (s.answer q st d).cap m = s.cap m := by simp [Dev.cap]

@[simp] theorem Dev.cap_accept (q : Requester) : (s.accept q).cap m = s.cap m := by simp [Dev.cap]

@[simp] theorem Dev.cap_refEdge (method src : Nat) (e : Int) : (s.refEdge method src e).cap m = s.cap m := by
  obtain ⟨x, h⟩ := s.refEdge_only method src e
  rw [h, Dev.cap, Dev.cap]

@[simp] theorem Dev.cap_updCap (f : Cap → Cap) : (s.updCap m f).cap m = f (s.cap m) := Tab.get_upd_same ..

theorem Dev.updCap_f (f : Cap → Cap) : (s.updCap m f).f = s.f := rfl

/-- A change of the input's record shows in Level and Count alone: Stuck and Flooded stand. -/
theorem Dev.bit_updCap (f : Cap → Cap) {i : Nat} (h1 : 1 ≤ i) (h3 : i < 3) : (s.updCap m f).bit (Obj.capStatus m) i = s.bit (Obj.capStatus m) i := by
  rw [Dev.updCap, Dev.bit_setF_32 _ rfl (by omega) _ (.inl h3), Dev.bit_setBit_32 _ rfl (by omega), if_neg (by omega)]
  rfl

end

theorem Dev.regsKept.updCap {s t : Dev} {ks : List Nat} (h : s.regsKept t ks) {m : Nat} (f : Cap → Cap) (hs : (Obj.capStatus m).key ∈ ks) :
    s.regsKept (t.updCap m f) ks := by
  unfold Dev.updCap
  exact Dev.regsKept.setF (Dev.regsKept.setBit (h.of_dict rfl) 0 _ hs) 3 5 _ hs

theorem Dev.regsKept.capRoll {s t : Dev} {ks : List Nat} (h : s.regsKept t ks) {m : Nat} (hs : (Obj.capStatus m).key ∈ ks) :
    s.regsKept (t.capRoll m) ks := h.updCap _ hs

/-- Within its window an input's counts stand (R104). -/
theorem Dev.cap_capRoll {s : Dev} {m : Nat} (h : (s.cap m).win = s.win 1000000) : (s.capRoll m).cap m = s.cap m := by
  rw [Dev.capRoll, Dev.cap_updCap, if_pos h]

theorem Dev.bit_capRoll (s : Dev) (m : Nat) {i : Nat} (h1 : 1 ≤ i) (h3 : i < 3) : (s.capRoll m).bit (Obj.capStatus m) i = s.bit (Obj.capStatus m) i :=
  s.bit_updCap m _ h1 h3

/-! ### An accepted edge -/

/-- The new level taken, Stuck cleared, the edge counted: what every accepted edge of an enabled input does (R100, R103, R104). -/
def Dev.capEdge (s : Dev) (m : Nat) (level : Bool) (age : Nat) : Dev :=
  let u := s.updCap m (fun x => { x with level := level })
  ((u.setBit (Obj.capStatus m) 1 false).capRoll m).updCap m (fun x => { x with lastF := u.f - age, restF := u.rf - age, count := x.count + 1 })

section
variable {s : Dev} {m : Nat} {level : Bool} {age : Nat}

theorem Dev.regsKept_capEdge : s.regsKept (s.capEdge m level age) [(Obj.capStatus m).key] :=
  ((((Dev.regsKept.refl s _).updCap _ (by simp)).setBit 1 false (by simp)).capRoll (by simp)).updCap _ (by simp)

theorem Dev.cap_capEdge (hw : (s.cap m).win = s.win 1000000) : (s.capEdge m level age).cap m =
    { s.cap m with level := level, lastF := s.f - age, restF := s.rf - age, count := (s.cap m).count + 1 } := by
  have hroll : (((s.updCap m (fun x => { x with level := level })).setBit (Obj.capStatus m) 1 false).capRoll m).cap m = { s.cap m with level := level } := by
    rw [Dev.cap_capRoll, Dev.cap_setBit, Dev.cap_updCap]
    rw [Dev.cap_setBit, Dev.cap_updCap]
    exact hw
  rw [Dev.capEdge, Dev.cap_updCap, hroll]
  rfl

theorem Dev.bit_capEdge_flooded : (s.capEdge m level age).bit (Obj.capStatus m) 2 = s.bit (Obj.capStatus m) 2 := by
  rw [Dev.capEdge, Dev.bit_updCap _ _ _ (by omega) (by omega), Dev.bit_capRoll _ _ (by omega) (by omega), Dev.bit_setBit_32 _ rfl (by omega),
    if_neg (by omega), Dev.bit_updCap _ _ _ (by omega) (by omega)]

/-- A level that has not held for 20 ns is no transition (R101). -/
theorem Dev.capTransition_short (h : age < 20) : s.capTransition m level age = s := if_pos (.inl h)

/-- The transition of an enabled input that is not flooded and captures this edge (R100). -/
theorem Dev.capTransition_captured (ha : 20 ≤ age) (hl : level ≠ (s.cap m).level) (he : s.bit (Obj.capControl m) 0 = true)
    (hf : s.bit (Obj.capStatus m) 2 = false) (hw : (s.cap m).win = s.win 1000000) (hc : (s.cap m).count < s.rd (Obj.capFloodLimit m))
    (hd : s.bit (Obj.capControl m) (if level then 1 else 2) = true) :
    s.capTransition m level age = (s.capEdge m level age).capture m level (s.dtAt (s.f - age)) := by
  obtain ⟨ho, hr⟩ := capStatus_not_time m
  have hkept := s.regsKept_capEdge (m := m) (level := level) (age := age)
  have hlevel : (s.updCap m (fun x => { x with level := level })).bit (Obj.capControl m) 0 = true :=
    (((Dev.regsKept.refl s [(Obj.capStatus m).key]).updCap _ (by simp)).bit (by simpa using capStatus_ne_control m) 0).trans he
  have hflood : ¬ (s.capEdge m level age).bit (Obj.capStatus m) 2 = true := by simp [Dev.bit_capEdge_flooded, hf]
  have hcount : ¬ (s.capEdge m level age).rd (Obj.capFloodLimit m) < ((s.capEdge m level age).cap m).count := by
    rw [hkept _ (by simpa using capStatus_ne_limit m), Dev.cap_capEdge hw]
    dsimp only
    omega
  have hdir : (s.capEdge m level age).bit (Obj.capControl m) (if level then 1 else 2) = true :=
    (hkept.bit (by simpa using capStatus_ne_control m) _).trans hd
  rw [← hkept.dtAt ho hr (s.f - age), ← s.updCap_f m (fun x => { x with level := level })]
  unfold Dev.capTransition
  rw [if_neg (by simp [hl, ha])]
  dsimp only
  rw [if_pos hlevel]
  exact (if_neg hflood).trans ((if_neg hcount).trans (if_pos hdir))

end

/-! ### A record -/

/-- The record of an edge, with its Sequence (R105). -/
def Dev.capRec (s : Dev) (m : Nat) (level : Bool) (dt : Int) (seq : Nat) : CapRec :=
  ⟨dt, b2n (!level), b2n (s.bit Obj.timeStatus 4) + 2 * b2n (s.bit Obj.timeStatus 5) + 4 * b2n (s.rd (Obj.capLost m) != (s.cap m).lostSeen), seq⟩

section
variable {s : Dev} {m : Nat} {level : Bool} {dt : Int}

/-- A capture that adds to no weir and feeds no stream, where the FIFO has room (R102). -/
theorem Dev.capture_room (h3 : s.bit (Obj.capControl m) 3 = false) (h18 : s.bit (Obj.capControl m) 18 = false) (hl : (s.cap m).fifo.length < 16) :
    s.capture m level dt = (s.refEdge 2 m dt).updCap m (fun x =>
      { x with fifo := x.fifo ++ [(s.refEdge 2 m dt).capRec m level dt x.seq], seq := (if x.seq = 0xFFFFFFFF then 1 else x.seq + 1),
               lostSeen := (s.refEdge 2 m dt).rd (Obj.capLost m) }) := by
  have h3' : bitAt (s.rd (Obj.capControl m)) 3 = false := h3
  have h18' : bitAt (s.rd (Obj.capControl m)) 18 = false := h18
  have hl' : ((s.refEdge 2 m dt).cap m).fifo.length < 16 := by rwa [Dev.cap_refEdge]
  simp only [Dev.capture, h3', h18', hl', Bool.false_and, Bool.false_eq_true, if_false, if_true, Dev.capRec]

/-- The same where it has none (R102). -/
theorem Dev.capture_full (h3 : s.bit (Obj.capControl m) 3 = false) (h18 : s.bit (Obj.capControl m) 18 = false) (hl : 16 ≤ (s.cap m).fifo.length) :
    s.capture m level dt = (s.refEdge 2 m dt).bump (Obj.capLost m) := by
  have h3' : bitAt (s.rd (Obj.capControl m)) 3 = false := h3
  have h18' : bitAt (s.rd (Obj.capControl m)) 18 = false := h18
  have hl' : ¬ ((s.refEdge 2 m dt).cap m).fifo.length < 16 := by
    rw [Dev.cap_refEdge]
    omega
  simp only [Dev.capture, h3', h18', hl', Bool.false_and, Bool.false_eq_true, if_false]

end

/-! ### The claim's clauses -/

section
variable {s : Dev} {m : Nat}

theorem Dev.refEdge_kept {t : Dev} {ks : List Nat} (h : s.regsKept t ks) (method src : Nat) (e : Int) : s.regsKept (t.refEdge method src e) ks :=
  h.of_dict (Dev.refEdge_dict _ _ _ _)

/-- What the capture of an edge leaves (R100, R102, R105). -/
theorem Dev.capture_shows {level : Bool} {dt : Int} (h3 : s.bit (Obj.capControl m) 3 = false) (h18 : s.bit (Obj.capControl m) 18 = false) :
    let t := s.capture m level dt
    ((s.cap m).fifo.length < 16 →
      (∃ r : CapRec, (t.cap m).fifo = (s.cap m).fifo ++ [r] ∧ r.stamp = dt ∧ r.edge = b2n (!level) ∧ r.seq = (s.cap m).seq) ∧
      t.rd (Obj.capLost m) = s.rd (Obj.capLost m)) ∧
    (16 ≤ (s.cap m).fifo.length → (t.cap m).fifo = (s.cap m).fifo ∧ t.rd (Obj.capLost m) = (s.rd (Obj.capLost m) + 1) % 2 ^ 32) ∧
    (t.cap m).level = (s.cap m).level ∧ s.regsKept t [(Obj.capStatus m).key, (Obj.capLost m).key] := by
  dsimp only
  have href : ∀ ks, s.regsKept (s.refEdge 2 m dt) ks := fun ks => Dev.refEdge_kept (Dev.regsKept.refl s ks) _ _ _
  rcases Nat.lt_or_ge (s.cap m).fifo.length 16 with hl | hl
  · rw [Dev.capture_room h3 h18 hl]
    refine ⟨fun _ => ⟨⟨(s.refEdge 2 m dt).capRec m level dt (s.cap m).seq, ?_, rfl, rfl, rfl⟩, ?_⟩, fun h => absurd h (by omega), ?_,
      (href _).updCap _ (by simp)⟩
    · rw [Dev.cap_updCap, Dev.cap_refEdge]
    · exact ((href [(Obj.capStatus m).key]).updCap _ (by simp)) _ (by simpa using capStatus_ne_lost m)
    · rw [Dev.cap_updCap, Dev.cap_refEdge]
  · rw [Dev.capture_full h3 h18 hl]
    refine ⟨fun h => absurd h (by omega), fun _ => ⟨?_, ?_⟩, ?_, (href _).bump (by simp)⟩
    · rw [Dev.cap_bump, Dev.cap_refEdge]
    · rw [Dev.rd_bump_same, href [] _ (by simp)]
      rfl
    · rw [Dev.cap_bump, Dev.cap_refEdge]

theorem Dev.capStuck_due (he : s.bit (Obj.capControl m) 0 = true) (hr : s.rd (Obj.capStuckTime m) * 1000 < s.rf - (s.cap m).restF) :
    s.capStuck m = s.setBit (Obj.capStatus m) 1 true := if_pos (by simp [he, hr])

theorem Dev.capFloodEnd_due (hf : s.bit (Obj.capStatus m) 2 = true) (hw : (s.cap m).win = s.win 1000000) (hq : 10 ≤ (s.cap m).quiet) :
    s.capFloodEnd m = ((s.capRoll m).setBit (Obj.capStatus m) 2 false).bump (Obj.capFloodEpisodes m) := by
  have hf' : (s.capRoll m).bit (Obj.capStatus m) 2 = true := (s.bit_capRoll m (by omega) (by omega)).trans hf
  exact if_pos (by simp [hf', Dev.cap_capRoll hw, hq])

/-- What a flood's end leaves (R104). -/
theorem Dev.capFloodEnd_shows :
    let t := ((s.capRoll m).setBit (Obj.capStatus m) 2 false).bump (Obj.capFloodEpisodes m)
    t.bit (Obj.capStatus m) 2 = false ∧ t.rd (Obj.capFloodEpisodes m) = (s.rd (Obj.capFloodEpisodes m) + 1) % 2 ^ 32 ∧
    s.regsKept t [(Obj.capStatus m).key, (Obj.capFloodEpisodes m).key] := by
  have hkept : ∀ ks, (Obj.capStatus m).key ∈ ks → s.regsKept ((s.capRoll m).setBit (Obj.capStatus m) 2 false) ks :=
    fun ks hs => ((Dev.regsKept.refl s ks).capRoll hs).setBit 2 false hs
  refine ⟨?_, ?_, (hkept _ (by simp)).bump (by simp)⟩
  · rw [Dev.bit_bump_key _ _ (capStatus_ne_episodes m).symm, Dev.bit_setBit_32 _ rfl (by omega), if_pos rfl]
  · rw [Dev.rd_bump_same, hkept [(Obj.capStatus m).key] (by simp) _ (by simpa using capStatus_ne_episodes m)]
    rfl

/-- Stuck and Flooded cleared, the input's times and counts begun afresh (R104). -/
def Dev.capAfresh (s : Dev) (m : Nat) : Dev :=
  ((s.setBit (Obj.capStatus m) 1 false).setBit (Obj.capStatus m) 2 false).updCap m (fun x =>
    { x with restF := s.rf, win := s.win 1000000, count := 0, quiet := 0 })

theorem Dev.regsKept.capAfresh {t : Dev} {ks : List Nat} (h : s.regsKept t ks) (hs : (Obj.capStatus m).key ∈ ks) : s.regsKept (t.capAfresh m) ks :=
  ((h.setBit _ _ hs).setBit _ _ hs).updCap _ hs

theorem Dev.bit_capAfresh {i : Nat} (h1 : 1 ≤ i) (h3 : i < 3) : (s.capAfresh m).bit (Obj.capStatus m) i = false := by
  rw [Dev.capAfresh, Dev.bit_updCap _ _ _ h1 h3, Dev.bit_setBit_32 _ rfl (by omega), Dev.bit_setBit_32 _ rfl (by omega)]
  split
  · rfl
  · rw [if_pos (by omega)]

/-- A write of CapControl before it is answered: what a change of Enable does beside (R104). -/
def Dev.capControlled (s : Dev) (m v : Nat) : Dev :=
  if s.bit (Obj.capControl m) 0 = bitAt v 0 then s.wr (Obj.capControl m) v else (s.wr (Obj.capControl m) v).capAfresh m

theorem Dev.capControlWrite_eq (q : Requester) (v : Nat) : s.capControlWrite q m v = (s.capControlled m v).accept q := rfl

theorem Dev.capControlled_shows {v : Nat} (hv : v < 2 ^ 32) :
    let t := s.capControlled m v
    t.rd (Obj.capControl m) = v ∧
    (s.bit (Obj.capControl m) 0 = true → bitAt v 0 = false → t.bit (Obj.capStatus m) 1 = false ∧ t.bit (Obj.capStatus m) 2 = false) ∧
    (t.cap m).fifo = (s.cap m).fifo ∧ s.regsKept t [(Obj.capControl m).key, (Obj.capStatus m).key] := by
  have hwr : (s.wr (Obj.capControl m) v).rd (Obj.capControl m) = v := Dev.rd_wr_fits _ _ hv
  dsimp only
  unfold Dev.capControlled
  split
  · next h =>
    refine ⟨hwr, fun h1 h0 => ?_, rfl, (Dev.regsKept.refl _ _).wr _ (by simp)⟩
    rw [h1, h0] at h
    exact absurd h (by simp)
  · refine ⟨?_, fun _ _ => ⟨Dev.bit_capAfresh (by omega) (by omega), Dev.bit_capAfresh (by omega) (by omega)⟩, ?_,
      ((Dev.regsKept.refl _ _).wr _ (by simp)).capAfresh (by simp)⟩
    · exact ((Dev.regsKept.refl _ [(Obj.capStatus m).key]).capAfresh (by simp) _ (by simpa using capStatus_ne_control m)).trans hwr
    · rw [Dev.capAfresh, Dev.cap_updCap]
      rfl

theorem Dev.capPop_empty (h : (s.cap m).fifo = []) : s.capPop m = (s, zeros 16) := by simp only [Dev.capPop, h]

/-- The oldest record taken out (R105). -/
theorem Dev.capPop_oldest {r : CapRec} {rest : List CapRec} (h : (s.cap m).fifo = r :: rest) : s.capPop m =
    ((s.updCap m (fun x => { x with fifo := rest })).setF (Obj.capStatus m) 3 5 rest.length, r.bytes) := by simp only [Dev.capPop, h]

end

theorem execCapPop_next {s : State} {q : Requester} {m : Fin 8} (ho : s.dev.opened) (hj : s.dev.judgeRead q 1 (0x3420 + m.val) 2 = .ok) :
    execCapPop q m s = .next { s with dev := (s.dev.fresh.capPop m.val).1.answer q .ok (s.dev.fresh.capPop m.val).2 } := by
  unfold execCapPop
  rw [State.request_opened _ _ ho]
  dsimp only [State.start]
  rw [Dev.judgeRead_fresh, if_pos hj]

/-- Settles O8: an accepted edge is captured on the input as the edge leaves it; the other commands are one update each. -/
theorem captureInputs : Obligations.CaptureInputs := by
  unfold Obligations.CaptureInputs
  simp only [exec, execCaptureTransition, execCaptureStuck, execCaptureFloodEnd, execCapControlWrite]
  refine ⟨fun s m level age hu => ⟨fun ha => nextHas_runIn hu ?_, fun ha hl he hf hw hc hd h3 h18 => nextHas_runIn hu ?_⟩,
    fun s m hu => ⟨fun he hr => nextHas_runIn hu ?_, fun hf hw hq => nextHas_runIn hu ?_⟩,
    fun s q m v hh => nextHas_asked hh ?_, fun s q m ho hj => ⟨_, execCapPop_next ho hj, ?_⟩⟩
  · rw [Dev.capTransition_short ha]
    exact ⟨rfl, s.sameRest_dev _⟩
  · have hkept : s.dev.fresh.regsKept (s.dev.fresh.capEdge m.val level age) [(Obj.capStatus m.val).key] := Dev.regsKept_capEdge
    have hctl : (Obj.capControl m.val).key ∉ [(Obj.capStatus m.val).key] := by simpa using capStatus_ne_control m.val
    rw [Dev.capTransition_captured (s := s.dev.fresh) ha hl he hf hw hc hd]
    obtain ⟨hroom, hfull, hlevel, hrest⟩ := Dev.capture_shows (level := level) (dt := s.dev.fresh.dtAt (s.dev.fresh.f - age))
      ((hkept.bit hctl 3).trans h3) ((hkept.bit hctl 18).trans h18)
    rw [Dev.cap_capEdge (s := s.dev.fresh) hw] at hroom hfull hlevel
    rw [hkept (Obj.capLost m.val) (by simpa using capStatus_ne_lost m.val)] at hroom hfull
    refine ⟨hroom, hfull, hlevel, fun r hr => (hrest r hr).trans (hkept r ?_), s.sameRest_dev _⟩
    simp only [List.mem_cons, not_or] at hr
    simpa using hr.1
  · rw [Dev.capStuck_due (s := s.dev.fresh) he hr]
    refine ⟨Dev.bit_setBit_same _ _ _ (show 1 < 32 by omega), fun i hi h1 => ?_, (s.dev.regsKept_fresh _).setBit _ _ (by simp), s.sameRest_dev _⟩
    exact (Dev.bit_setBit_32 _ rfl hi 1 true).trans (if_neg h1)
  · rw [Dev.capFloodEnd_due (s := s.dev.fresh) hf hw hq]
    obtain ⟨hflood, hcount, hkept⟩ := Dev.capFloodEnd_shows (s := s.dev.fresh) (m := m.val)
    exact ⟨hflood, hcount, hkept, s.sameRest_dev _⟩
  · have hn {k : Nat} (hk : k < 256) := capObject_ne_transport m hk
    rw [Dev.capControlWrite_eq]
    obtain ⟨hctl, hclear, hfifo, hkept⟩ := Dev.capControlled_shows (s := s.dev.fresh) (m := m.val) v.isLt
    refine ⟨Dev.told_accept _ _, (Dev.rd_accept _ _ (hn (k := 1) (by omega))).trans hctl, fun h1 h0 => ?_, ?_, ((s.dev.regsKept_fresh _).trans hkept).accept q,
      s.sameRest_dev _⟩
    · obtain ⟨hstuck, hflood⟩ := hclear h1 ((bitAt_eq_testBit _ _).trans h0)
      exact ⟨(Dev.bit_accept _ _ _ (hn (k := 3) (by omega))).trans hstuck, (Dev.bit_accept _ _ _ (hn (k := 3) (by omega))).trans hflood⟩
    · rw [Dev.cap_accept]
      exact hfifo
  · have hn {k : Nat} (hk : k < 256) := capObject_ne_transport m hk
    cases hfifo : (s.dev.cap m.val).fifo with
    | nil =>
      rw [Dev.capPop_empty (s := s.dev.fresh) hfifo]
      refine ⟨fun _ => ⟨Dev.response_answer _ _ _ _, ?_⟩, fun r rest h => absurd h (by simp), fun r hr _ => Dev.rd_answer _ _ _ _ hr, s.sameRest_dev _⟩
      rw [Dev.cap_answer]
      exact hfifo
    | cons r rest =>
      rw [Dev.capPop_oldest (s := s.dev.fresh) hfifo]
      refine ⟨fun h => absurd h (by simp), fun r' rest' h => ?_, fun x hx hk => ?_, s.sameRest_dev _⟩
      · obtain ⟨rfl, rfl⟩ := List.cons.inj h
        refine ⟨Dev.response_answer _ _ _ _, ?_, ?_⟩
        · rw [Dev.cap_answer, Dev.cap_setF, Dev.cap_updCap]
        · exact (Dev.getF_answer _ _ _ _ _ _ (hn (k := 3) (by omega))).trans (Dev.getF_setF_same _ _ _ (show 3 + 5 ≤ 32 by omega))
      · exact (Dev.rd_answer _ _ _ _ hx).trans ((((s.dev.regsKept_fresh _).updCap _ (by simp)).setF _ _ _ (by simp)) x hk)

end Sys2Proof.Machine
end

section
/-! The transparent clock and the ordinary clock (R107 to R111): what forwarding a message and receiving one leave. -/

namespace Sys2Proof.Machine

open Sys2Proof

/-! ### Forwarding -/

section
variable {s : Dev} {i e : Nat} {m : PtpMessage} {res link : Nat}

theorem Dev.ptpForward_off {b : Bool} (h : s.rd Obj.tcMode = 0) : s.ptpForward i e m res link b = s.emit (.ptp e m) := if_pos h

theorem Dev.ptpForward_unmodifiable (h : s.rd Obj.tcMode ≠ 0) :
    s.ptpForward i e m res link false = (s.bump Obj.tcUnmodified).emit (.ptp e m) := (if_neg h).trans (if_pos rfl)

/-- End-to-end correction adds the residence alone (R108, R109). -/
theorem Dev.ptpForward_event {k : Nat} (h : s.rd Obj.tcMode = 1) (hk : ptpKeptAt m i e = some k) : s.ptpForward i e m res link true =
    if m.twoStep then ({ s with residence := Tab.put 0 s.residence k res } : Dev).emit (.ptp e m) else s.emit (.ptp e (ptpCorrect m res)) := by
  simp only [Dev.ptpForward, h, hk, Bool.not_true, Bool.false_eq_true, if_false, Nat.one_ne_zero, OfNat.one_ne_ofNat, false_and, Nat.add_zero]

/-- A Follow_Up takes the residence of the Sync that left by the same port (R108). -/
theorem Dev.ptpForward_followUp (h : s.rd Obj.tcMode ≠ 0) (ht : m.type = .followUp) : s.ptpForward i e m res link true =
    ({ s with residence := Tab.put 0 s.residence (ptpKey 0 e m.source m.number) 0 } : Dev).emit
      (.ptp e (ptpCorrect m (Tab.get 0 s.residence (ptpKey 0 e m.source m.number)))) := by
  have hk : ptpKeptAt m i e = none := by simp only [ptpKeptAt, ht]
  have hf : ptpTakesFrom m e = [ptpKey 0 e m.source m.number] := by simp only [ptpTakesFrom, ht]
  simp [Dev.ptpForward, h, hk, hf]

/-- An event message's residence has a place to wait (R108). -/
theorem ptpKeptAt_event (h : m.type.event = true) : ∃ k, ptpKeptAt m i e = some k := by
  unfold ptpKeptAt
  cases ht : m.type <;> rw [ht] at h
  case sync | delayReq | pdelayReq | pdelayResp => exact ⟨_, rfl⟩
  all_goals exact absurd h (by decide)

theorem ptpKeptAt_sync (h : m.type = .sync) : ptpKeptAt m i e = some (ptpKey 0 e m.source m.number) := by simp only [ptpKeptAt, h]

/-- The correctionField takes up the nanoseconds in units of 2⁻¹⁶ ns, over every transport (R109). -/
theorem ptpCorrect_correction (m : PtpMessage) (ns : Nat) : (ptpCorrect m ns).correction = m.correction + BitVec.ofNat 64 (ns * 2 ^ 16) := by
  unfold ptpCorrect
  dsimp only
  split <;> rfl

/-- Forwarding counts what it may not modify, and writes no other register. -/
theorem Dev.regsKept_ptpForward (b : Bool) : s.regsKept (s.ptpForward i e m res link b) [Obj.tcUnmodified.key] := by
  unfold Dev.ptpForward
  dsimp only
  split
  · exact Dev.regsKept.refl _ _
  · split
    · exact ((Dev.regsKept.refl s _).bump (by simp)).emit _
    · split
      · split
        · exact (Dev.regsKept.refl s _).of_dict rfl
        · exact (Dev.regsKept.refl s _).emit _
      · exact (Dev.regsKept.refl s _).of_dict rfl

end

/-! ### Receiving -/

section
variable {s : Dev} {i : Nat} {m : PtpMessage}

theorem Dev.ptpReceive_off (h : s.rd Obj.ptpRole = 0) : s.ptpReceive i m = s := if_pos (.inl h)

theorem Dev.ptpReceive_foreign (h : s.rd Obj.ptpDomain ≠ m.domain.toNat ∨ s.rd Obj.ptpTransport ≠ m.transport.val) : s.ptpReceive i m = s :=
  if_pos (.inr h)

/-- The message that answers a Delay_Req (R107). -/
def Dev.delayResp (s : Dev) (m : PtpMessage) : PtpMessage :=
  { m with type := .delayResp, twoStep := false, source := BitVec.ofNat 64 ptpIdentity, requester := m.source,
           stamp := BitVec.ofNat 80 (t80 (s.dtAt (s.localF 5))) }

theorem Dev.ptpReceive_delayReq (hr : s.rd Obj.ptpRole ≠ 0) (hd : s.rd Obj.ptpDomain = m.domain.toNat) (hx : s.rd Obj.ptpTransport = m.transport.val)
    (ht : m.type = .delayReq) (hm : s.rd Obj.ptpDelayMech = 0) (hp : s.rd Obj.portState = 6) : s.ptpReceive i m = s.emit (.ptp i (s.delayResp m)) := by
  simp [Dev.ptpReceive, Dev.delayResp, hr, hd, hx, ht, hm, hp]

theorem Dev.ptpReceive_announce {r : PtpRank} (hr : s.rd Obj.ptpRole ≠ 0) (hd : s.rd Obj.ptpDomain = m.domain.toNat)
    (hx : s.rd Obj.ptpTransport = m.transport.val) (ht : m.type = .announce) (hk : m.rank = some r) : s.ptpReceive i m = s.ptpAnnounce m.source r := by
  simp [Dev.ptpReceive, hr, hd, hx, ht, hk]

theorem Dev.ptpAnnounce_transmitter {src : BitVec 64} {r : PtpRank} (h : s.rd Obj.ptpRole = 3) : s.ptpAnnounce src r = s := if_pos (.inr h)

/-- A receiver without a transmitter follows the first timekeeper it hears of (R107). -/
theorem Dev.ptpAnnounce_first {src : BitVec 64} {r : PtpRank} (h : s.rd Obj.ptpRole = 2) (hp : s.ptpParent = none) : s.ptpAnnounce src r =
    (({ s with ptpParent := some (src, r) } : Dev).setBlob Obj.transmitterIdentity (leBytes 8 src.toNat).reverse).wr Obj.portState 8 := by
  simp [Dev.ptpAnnounce, h, hp]

end

/-! ### The command -/

section
variable {s : State} {i e : Fin 3} {m : PtpMessage} {res link : Nat} {b : Bool}

theorem execPtpEventMessage_safe (hu : s.dev.up 180) (h5 : s.dev.dieOut 5 = true) : execPtpEventMessage i e m res link b s = .next s.start := by
  unfold execPtpEventMessage
  rw [State.unheld_next _ hu.1]
  exact congrArg _ (if_pos h5)

theorem execPtpEventMessage_cross (hu : s.dev.up 180) (h5 : s.dev.dieOut 5 = false) (hie : i ≠ e) : execPtpEventMessage i e m res link b s =
    .next { s with dev := if e.val = 2 then (s.dev.fresh.ptpForward i.val e.val m res link b).ptpReceive i.val m
                          else s.dev.fresh.ptpForward i.val e.val m res link b } := by
  have h5' : ¬ s.start.dev.dieOut 5 = true := by
    rw [show s.start.dev.dieOut 5 = false from h5]
    simp
  have hcross : ¬ (i.val = e.val ∨ s.dev.fresh.domOn 180 = false) := by
    rw [Dev.domOn_fresh, hu.2, Fin.val_inj]
    simpa using hie
  unfold execPtpEventMessage
  rw [State.unheld_next _ hu.1, if_neg h5', Dev.ptpCross, if_neg hcross]

/-- What the ordinary clock does not take is forwarded and no more (R108 to R110). -/
theorem execPtpEventMessage_forward (hu : s.dev.up 180) (h5 : s.dev.dieOut 5 = false) (hie : i ≠ e) (he : e.val ≠ 2 ∨ s.dev.rd Obj.ptpRole = 0) :
    execPtpEventMessage i e m res link b s = .next { s with dev := s.dev.fresh.ptpForward i.val e.val m res link b } := by
  rw [execPtpEventMessage_cross hu h5 hie]
  split
  · next h2 =>
    have hrole : (s.dev.fresh.ptpForward i.val e.val m res link b).rd Obj.ptpRole = 0 :=
      (Dev.regsKept_ptpForward b _ (by decide)).trans (he.resolve_left (not_not_intro h2))
    rw [Dev.ptpReceive_off hrole]
  · rfl

/-- Without a transparent clock a message to port 2 leaves as it came, and the ordinary clock takes it (R107, R111). -/
theorem execPtpEventMessage_receive (hu : s.dev.up 180) (h5 : s.dev.dieOut 5 = false) (hi : i.val ≠ 2) (ht : s.dev.rd Obj.tcMode = 0) :
    execPtpEventMessage i 2 m res link b s = .next { s with dev := (s.dev.fresh.emit (.ptp 2 m)).ptpReceive i.val m } := by
  rw [execPtpEventMessage_cross hu h5 (fun h => hi (congrArg Fin.val h)), Dev.ptpForward_off (s := s.dev.fresh) ht]
  rfl

end

end Sys2Proof.Machine
end

section
/-! The sync marks of streams (R112 to R115): the window of a mark, its pairing, and what each leaves of the clock map. -/

namespace Sys2Proof.Machine

open Sys2Proof

/-! ### A clock map and its registers -/

section
variable (s : Dev) (n : Nat)

@[simp] theorem Dev.clock_fresh : s.fresh.clock n = s.clock n := rfl

@[simp] theorem Dev.clock_bump (r : Reg) : (s.bump r).clock n = s.clock n := rfl

@[simp] theorem Dev.clock_bumpBy (r : Reg) (k : Nat) : (s.bumpBy r k).clock n = s.clock n := rfl

@[simp] theorem Dev.clock_setBit (r : Reg) (i : Nat) (b : Bool) : (s.setBit r i b).clock n = s.clock n := rfl

@[simp] theorem Dev.clock_updClock (f : ClockMap → ClockMap) : (s.updClock n f).clock n = f (s.clock n) := Tab.get_upd_same ..

@[simp] theorem Dev.rd_updClock (f : ClockMap → ClockMap) (r : Reg) : (s.updClock n f).rd r = s.rd r := rfl

theorem streamSteps_ne (n : Nat) : (Obj.streamSteps n).key ≠ (Obj.streamSyncUnpaired n).key ∧ (Obj.streamSteps n).key ≠ (Obj.streamClockError n).key ∧
    (Obj.streamSteps n).key ≠ (Obj.streamClockSkew n).key ∧ (Obj.streamSteps n).key ≠ (Obj.streamSyncFlags n).key := by
  simp only [Obj.streamSteps, Obj.streamSyncUnpaired, Obj.streamClockError, Obj.streamClockSkew, Obj.streamSyncFlags, Reg.at_key]
  omega

theorem streamStepLimit_ne_unpaired (n : Nat) : (Obj.streamStepLimit n).key ≠ (Obj.streamSyncUnpaired n).key := by
  simp only [Obj.streamStepLimit, Obj.streamSyncUnpaired, Reg.at_key]
  omega

/-- The count of unpaired marks is no register that device time is computed from. -/
theorem streamSyncUnpaired_not_time (n : Nat) :
    Obj.timeOffset.key ∉ [(Obj.streamSyncUnpaired n).key] ∧ Obj.rateAdjust.key ∉ [(Obj.streamSyncUnpaired n).key] := by
  simp only [List.mem_singleton, Obj.timeOffset, Obj.rateAdjust, Obj.streamSyncUnpaired, Reg.at_key]
  omega

end

theorem Dev.regsKept.updClock {s t : Dev} {ks : List Nat} (h : s.regsKept t ks) (n : Nat) (f : ClockMap → ClockMap) : s.regsKept (t.updClock n f) ks :=
  h.of_dict rfl

/-! ### The window of a mark -/

/-- The interval between the last mark and this one, in ns; 0 for a first mark (R113). -/
def ClockMap.spacing (m : ClockMap) (ps : Nat) : Rat := match m.lastMark with | some l => ((ps : Int) - (l : Int) : Int) / 1000 | none => 0

/-- Stream `n` with the edges before a mark's window left unpaired (R113). -/
def Dev.windowed (s : Dev) (n ps : Nat) : Dev :=
  if 0 < (s.clock n).spacing ps then s.dropEdges n ((s.clock n).predict ps - (s.clock n).spacing ps / 2) else s

/-- That device with the mark taken from the waiting ones. -/
def Dev.markTaken (s : Dev) (n ps : Nat) : Dev := (s.windowed n ps).updClock n (fun m => m.mark ps ((s.clock n).spacing ps))

section
variable {s : Dev} {n ps : Nat}

/-- The oldest edge does not lie before the window. -/
def Dev.oldestInWindow (s : Dev) (n ps : Nat) : Prop :=
  ∀ e es, (s.clock n).edges = e :: es → 0 < (s.clock n).spacing ps → (s.clock n).predict ps - (s.clock n).spacing ps / 2 ≤ (e : Rat)

/-- Edges in order of age: where the oldest is not too old, none is dropped. -/
theorem takeWhile_old {lo : Rat} : ∀ {es : List Int}, (∀ e r, es = e :: r → lo ≤ (e : Rat)) → es.takeWhile (fun e => decide ((e : Rat) < lo)) = []
  | [], _ => rfl
  | e :: r, h => by
    have he := h e r rfl
    simp [he]

theorem Dev.dropEdges_none {lo : Rat} (h : ∀ e r, (s.clock n).edges = e :: r → lo ≤ (e : Rat)) : s.dropEdges n lo =
    (s.updClock n (fun m => m)).bumpBy (Obj.streamSyncUnpaired n) 0 := by
  simp only [Dev.dropEdges, takeWhile_old h, List.length_nil, List.drop_zero]

/-- Where no edge is too old the window changes no clock map; the count of unpaired marks is read to its width. -/
theorem Dev.windowed_cases (h : s.oldestInWindow n ps) :
    s.windowed n ps = s ∨ s.windowed n ps = (s.updClock n (fun m => m)).bumpBy (Obj.streamSyncUnpaired n) 0 := by
  by_cases hk : 0 < (s.clock n).spacing ps
  · exact .inr ((if_pos hk).trans (Dev.dropEdges_none fun e r he => h e r he hk))
  · exact .inl (if_neg hk)

theorem Dev.clock_windowed (h : s.oldestInWindow n ps) : (s.windowed n ps).clock n = s.clock n := by
  rcases Dev.windowed_cases h with e | e <;> rw [e]
  rw [Dev.clock_bumpBy, Dev.clock_updClock]

theorem Dev.windowed_f (h : s.oldestInWindow n ps) : (s.windowed n ps).f = s.f := by
  rcases Dev.windowed_cases h with e | e <;> rw [e]
  rfl

theorem Dev.regsKept_windowed (h : s.oldestInWindow n ps) : s.regsKept (s.windowed n ps) [(Obj.streamSyncUnpaired n).key] := by
  rcases Dev.windowed_cases h with e | e <;> rw [e]
  · exact Dev.regsKept.refl _ _
  · exact ((Dev.regsKept.refl s _).updClock n _).bumpBy 0 (by simp)

theorem Dev.rd_unpaired_windowed (h : s.oldestInWindow n ps) :
    ((s.windowed n ps).rd (Obj.streamSyncUnpaired n) + 1) % 2 ^ 32 = (s.rd (Obj.streamSyncUnpaired n) + 1) % 2 ^ 32 := by
  rcases Dev.windowed_cases h with e | e <;> rw [e]
  rw [Dev.rd_bumpBy_same, Dev.rd_updClock]
  exact Nat.mod_add_mod _ _ _

theorem Dev.clock_markTaken (h : s.oldestInWindow n ps) : (s.markTaken n ps).clock n = (s.clock n).mark ps ((s.clock n).spacing ps) := by
  rw [Dev.markTaken, Dev.clock_updClock, Dev.clock_windowed h]

theorem Dev.dt_windowed (h : s.oldestInWindow n ps) : (s.windowed n ps).dt = s.dt :=
  (Dev.regsKept_windowed h).dt (streamSyncUnpaired_not_time n).1 (streamSyncUnpaired_not_time n).2 (Dev.windowed_f h)

end

/-! ### One mark tried -/

section
variable {s : Dev} {n ps : Nat} {arrival : Int}

/-- A stream whose map follows a trigger or a capture tries its mark against the edges in the window (R113). -/
theorem Dev.markTry_edges (hm : s.rd (Obj.streamSyncMethod n) = 1 ∨ s.rd (Obj.streamSyncMethod n) = 2) : s.markTry n ps arrival =
    match ((s.windowed n ps).clock n).edges with
    | e :: es =>
      (if ¬ 0 < (s.clock n).spacing ps ∨ (e : Rat) ≤ (s.clock n).predict ps + (s.clock n).spacing ps / 2 then
        ((s.markTaken n ps).updClock n (fun m => { m with edges := es })).pairMark n ps e (if 0 < (s.clock n).spacing ps then (s.clock n).spacing ps else 0)
       else (s.markTaken n ps).bump (Obj.streamSyncUnpaired n), false)
    | [] =>
      if 0 < (s.clock n).spacing ps ∧ ((s.windowed n ps).dt : Rat) ≤ (s.clock n).predict ps + (s.clock n).spacing ps / 2 then (s.windowed n ps, true)
      else ((s.markTaken n ps).bump (Obj.streamSyncUnpaired n), false) := by
  rcases hm with h | h <;>
    simp only [Dev.markTry, h, Bool.or_eq_true, Bool.and_eq_true, Bool.not_eq_true', decide_eq_true_eq, decide_eq_false_iff_not] <;> rfl

/-- The oldest edge lies in the mark's window, or the mark is a first one: they are paired. -/
theorem Dev.markTry_pairs (hm : s.rd (Obj.streamSyncMethod n) = 1 ∨ s.rd (Obj.streamSyncMethod n) = 2) {e : Int} {es : List Int}
    (he : (s.clock n).edges = e :: es)
    (hi : (s.clock n).spacing ps ≤ 0 ∨ |(e : Rat) - (s.clock n).predict ps| ≤ (s.clock n).spacing ps / 2) : s.oldestInWindow n ps ∧
    s.markTry n ps arrival = (((s.markTaken n ps).updClock n (fun m => { m with edges := es })).pairMark n ps e
      (if 0 < (s.clock n).spacing ps then (s.clock n).spacing ps else 0), false) := by
  have hold : s.oldestInWindow n ps := by
    intro e' es' h hk
    obtain ⟨rfl, -⟩ := List.cons.inj (he.symm.trans h)
    have := (abs_le.mp (hi.resolve_left (not_le.mpr hk))).1
    linarith
  have hnew : ¬ 0 < (s.clock n).spacing ps ∨ (e : Rat) ≤ (s.clock n).predict ps + (s.clock n).spacing ps / 2 := by
    rcases hi with h | h
    · exact .inl (not_lt.mpr h)
    · have := (abs_le.mp h).2
      exact .inr (by linarith)
  refine ⟨hold, ?_⟩
  rw [Dev.markTry_edges hm, Dev.clock_windowed hold, he]
  exact congrArg (·, false) (if_pos hnew)

theorem Dev.oldestInWindow_nil (he : (s.clock n).edges = []) : s.oldestInWindow n ps := fun e es h => by simp [he] at h

/-- No edge has come, and none can any more. -/
theorem Dev.markTry_unpaired (hm : s.rd (Obj.streamSyncMethod n) = 1 ∨ s.rd (Obj.streamSyncMethod n) = 2) (he : (s.clock n).edges = [])
    (hi : (s.clock n).spacing ps ≤ 0 ∨ (s.clock n).predict ps + (s.clock n).spacing ps / 2 < (s.dt : Rat)) :
    s.markTry n ps arrival = ((s.markTaken n ps).bump (Obj.streamSyncUnpaired n), false) := by
  have hold := Dev.oldestInWindow_nil (ps := ps) he
  rw [Dev.markTry_edges hm, Dev.clock_windowed hold, he, Dev.dt_windowed hold]
  exact if_neg (fun h => hi.elim (not_le.mpr h.1) (not_lt.mpr h.2))

/-- No edge has come, and one still can. -/
theorem Dev.markTry_waits (hm : s.rd (Obj.streamSyncMethod n) = 1 ∨ s.rd (Obj.streamSyncMethod n) = 2) (he : (s.clock n).edges = [])
    (hk : 0 < (s.clock n).spacing ps) (hi : (s.dt : Rat) ≤ (s.clock n).predict ps + (s.clock n).spacing ps / 2) :
    s.markTry n ps arrival = (s.windowed n ps, true) := by
  have hold := Dev.oldestInWindow_nil (ps := ps) he
  rw [Dev.markTry_edges hm, Dev.clock_windowed hold, he, Dev.dt_windowed hold]
  exact if_pos ⟨hk, hi⟩

/-- With one mark waiting the command is one trial. -/
theorem Dev.syncMark_one (h : (s.clock n).marks = [(ps, arrival)]) : s.syncMark n = (s.markTry n ps arrival).1 := by
  rw [Dev.syncMark, h, List.length_singleton, Dev.syncMarks, h]
  exact ite_self _

end

/-! ### A pairing -/

/-- The skew that an error over a mark interval leads to, within ±1,000 ppm; without an interval it stands (R114). -/
def ClockMap.skewed (m : ClockMap) (err interval : Rat) : Rat :=
  if interval = 0 then m.skew else max (-skewLimit) (min skewLimit (m.skew + err / (16 * interval)))

theorem ClockMap.skewed_bounded (m : ClockMap) (err : Rat) {interval : Rat} (h : interval ≠ 0) :
    -(1 / 1000) ≤ m.skewed err interval ∧ m.skewed err interval ≤ 1 / 1000 := by
  rw [ClockMap.skewed, if_neg h]
  refine ⟨le_max_left (-skewLimit) _, max_le ?_ (min_le_left _ _)⟩
  norm_num [skewLimit]

/-- The map after a pairing, stepped beyond the limit and corrected by a quarter within it (R114). -/
def Dev.mapped (s : Dev) (n ps : Nat) (ref : Int) (interval : Rat) : Dev :=
  let err : Rat := (ref : Rat) - (s.clock n).predict ps
  if (s.rd (Obj.streamStepLimit n) : Rat) < |err| then
    (s.updClock n (fun m => { m with base := (ref : Rat), sensorBase := ps })).bump (Obj.streamSteps n)
  else
    s.updClock n (fun m => { m with base := (s.clock n).predict ps + err / 4, sensorBase := ps, skew := (s.clock n).skewed err interval })

/-- What a pairing shows beside the map: the error, the skew, the time of the pairing (R115). -/
def Dev.mapShown (s : Dev) (n : Nat) (err : Rat) : Dev :=
  let s := s.wrI (Obj.streamClockError n) (clampI (-(2 ^ 31)) (2 ^ 31 - 1) err.floor)
  let s := s.wrI (Obj.streamClockSkew n) (((s.clock n).skew * 1000000000).floor)
  (s.updClock n (fun m => { m with pairF := some s.f })).setBit (Obj.streamSyncFlags n) 0 false

section
variable {s : Dev} {n ps : Nat} {ref : Int} {interval : Rat}

theorem Dev.pairMark_eq : s.pairMark n ps ref interval = (s.mapped n ps ref interval).mapShown n ((ref : Rat) - (s.clock n).predict ps) := rfl

theorem Dev.mapped_step (h : (s.rd (Obj.streamStepLimit n) : Rat) < |(ref : Rat) - (s.clock n).predict ps|) : s.mapped n ps ref interval =
    (s.updClock n (fun m => { m with base := (ref : Rat), sensorBase := ps })).bump (Obj.streamSteps n) := if_pos h

theorem Dev.mapped_correction (h : |(ref : Rat) - (s.clock n).predict ps| ≤ (s.rd (Obj.streamStepLimit n) : Rat)) : s.mapped n ps ref interval =
    s.updClock n (fun m => { m with base := (s.clock n).predict ps + ((ref : Rat) - (s.clock n).predict ps) / 4, sensorBase := ps,
                                    skew := (s.clock n).skewed ((ref : Rat) - (s.clock n).predict ps) interval }) :=
  if_neg (not_lt.mpr h)

theorem Dev.mapped_f : (s.mapped n ps ref interval).f = s.f := by
  unfold Dev.mapped
  dsimp only
  split <;> rfl

theorem Dev.regsKept_mapped : s.regsKept (s.mapped n ps ref interval) [(Obj.streamSteps n).key] := by
  unfold Dev.mapped
  dsimp only
  split
  · exact ((Dev.regsKept.refl s _).updClock n _).bump (by simp)
  · exact (Dev.regsKept.refl s _).updClock n _

/-- The map's sensor base is the mark's; its marks, edges and last mark stand. -/
theorem Dev.clock_mapped : ((s.mapped n ps ref interval).clock n).sensorBase = ps ∧ ((s.mapped n ps ref interval).clock n).marks = (s.clock n).marks ∧
    ((s.mapped n ps ref interval).clock n).edges = (s.clock n).edges ∧ ((s.mapped n ps ref interval).clock n).lastMark = (s.clock n).lastMark := by
  unfold Dev.mapped
  dsimp only
  split
  · rw [Dev.clock_bump, Dev.clock_updClock]
    exact ⟨rfl, rfl, rfl, rfl⟩
  · rw [Dev.clock_updClock]
    exact ⟨rfl, rfl, rfl, rfl⟩

theorem Dev.clock_mapShown (err : Rat) : (s.mapShown n err).clock n = { s.clock n with pairF := some s.f } := by
  rw [Dev.mapShown, Dev.clock_setBit, Dev.clock_updClock]
  rfl

theorem Dev.bit_mapShown (err : Rat) : (s.mapShown n err).bit (Obj.streamSyncFlags n) 0 = false := Dev.bit_setBit_same _ _ _ (show 0 < 8 by omega)

theorem Dev.regsKept.mapShown {t : Dev} {ks : List Nat} (h : s.regsKept t ks) (err : Rat) (he : (Obj.streamClockError n).key ∈ ks)
    (hs : (Obj.streamClockSkew n).key ∈ ks) (hf : (Obj.streamSyncFlags n).key ∈ ks) : s.regsKept (t.mapShown n err) ks :=
  (((h.wrI _ he).wrI _ hs).updClock n _).setBit _ _ hf

/-- What a pairing leaves (R114, R115). -/
theorem Dev.pairMark_shows (s : Dev) (n ps : Nat) (ref : Int) (interval : Rat) :
    let t := s.pairMark n ps ref interval
    let err := (ref : Rat) - (s.clock n).predict ps
    ((t.clock n).marks = (s.clock n).marks ∧ (t.clock n).edges = (s.clock n).edges ∧ (t.clock n).lastMark = (s.clock n).lastMark) ∧
    (t.clock n).pairF = some s.f ∧ t.bit (Obj.streamSyncFlags n) 0 = false ∧ (t.clock n).sensorBase = ps ∧
    ((s.rd (Obj.streamStepLimit n) : Rat) < |err| → (t.clock n).base = ref ∧ (t.clock n).skew = (s.clock n).skew ∧
      t.rd (Obj.streamSteps n) = (s.rd (Obj.streamSteps n) + 1) % 2 ^ (Obj.streamSteps n).bits) ∧
    (|err| ≤ (s.rd (Obj.streamStepLimit n) : Rat) → (t.clock n).base = (s.clock n).predict ps + err / 4 ∧
      t.rd (Obj.streamSteps n) = s.rd (Obj.streamSteps n) ∧ (interval ≠ 0 → -(1 / 1000) ≤ (t.clock n).skew ∧ (t.clock n).skew ≤ 1 / 1000)) ∧
    s.regsKept t [(Obj.streamSteps n).key, (Obj.streamClockError n).key, (Obj.streamClockSkew n).key, (Obj.streamSyncFlags n).key] := by
  obtain ⟨-, hne, hns, hnf⟩ := streamSteps_ne n
  obtain ⟨hbase, hmarks, hedges, hlast⟩ := Dev.clock_mapped (s := s) (n := n) (ps := ps) (ref := ref) (interval := interval)
  have hsteps : (s.pairMark n ps ref interval).rd (Obj.streamSteps n) = (s.mapped n ps ref interval).rd (Obj.streamSteps n) :=
    (Dev.regsKept.refl (s.mapped n ps ref interval) [(Obj.streamClockError n).key, (Obj.streamClockSkew n).key, (Obj.streamSyncFlags n).key]).mapShown
      (n := n) _ (by simp) (by simp) (by simp) _ (by simp [hne, hns, hnf])
  have hmapped : s.regsKept (s.mapped n ps ref interval)
      [(Obj.streamSteps n).key, (Obj.streamClockError n).key, (Obj.streamClockSkew n).key, (Obj.streamSyncFlags n).key] :=
    fun r hr => Dev.regsKept_mapped r (by simp only [List.mem_cons, not_or] at hr; simpa using hr.1)
  dsimp only
  rw [hsteps, Dev.pairMark_eq, Dev.clock_mapShown, Dev.mapped_f]
  refine ⟨⟨hmarks, hedges, hlast⟩, rfl, Dev.bit_mapShown _, hbase, fun h => ?_, fun h => ?_, hmapped.mapShown _ (by simp) (by simp) (by simp)⟩
  · rw [Dev.mapped_step h, Dev.rd_bump_same, Dev.clock_bump, Dev.clock_updClock]
    exact ⟨rfl, rfl, rfl⟩
  · rw [Dev.mapped_correction h, Dev.clock_updClock]
    exact ⟨rfl, rfl, fun hi => ClockMap.skewed_bounded _ _ hi⟩

end

/-! ### NoSync -/

theorem Dev.syncExpire_due {s : Dev} {n f : Nat} (hp : (s.clock n).pairF = some f) (h : 8 * (s.clock n).interval < ((s.f - f : Nat) : Rat)) :
    s.syncExpire n = s.setBit (Obj.streamSyncFlags n) 0 true := by
  simp only [Dev.syncExpire, hp, h, if_true]

end Sys2Proof.Machine
end

section
/-! The claim about the transparent clock, the ordinary clock and the sync marks of streams. -/

namespace Sys2Proof.Machine

open Sys2Proof

/-- What a pairing leaves of a stream whose mark it takes from the window, by the map as it was (R113 to R115). -/
theorem Dev.markPaired_shows {s : Dev} {n ps : Nat} (hold : s.oldestInWindow n ps) (e : Int) (es : List Int) (arrival : Int)
    (hmarks : (s.clock n).marks = [(ps, arrival)]) :
    let interval := (s.clock n).spacing ps
    let pred := (s.clock n).predict ps
    let t := ((s.markTaken n ps).updClock n (fun m => { m with edges := es })).pairMark n ps e (if 0 < interval then interval else 0)
    (t.clock n).marks = [] ∧ (t.clock n).edges = es ∧ (t.clock n).lastMark = some ps ∧ (t.clock n).pairF = some s.f ∧
    t.bit (Obj.streamSyncFlags n) 0 = false ∧ (t.clock n).sensorBase = ps ∧
    ((s.rd (Obj.streamStepLimit n) : Rat) < |(e : Rat) - pred| →
      (t.clock n).base = e ∧ (t.clock n).skew = (s.clock n).skew ∧
      t.rd (Obj.streamSteps n) = (s.rd (Obj.streamSteps n) + 1) % 2 ^ (Obj.streamSteps n).bits) ∧
    (|(e : Rat) - pred| ≤ (s.rd (Obj.streamStepLimit n) : Rat) →
      (t.clock n).base = pred + ((e : Rat) - pred) / 4 ∧ t.rd (Obj.streamSteps n) = s.rd (Obj.streamSteps n) ∧
      (0 < interval → -(1 / 1000) ≤ (t.clock n).skew ∧ (t.clock n).skew ≤ 1 / 1000)) ∧
    s.regsKept t [(Obj.streamSyncUnpaired n).key, (Obj.streamSteps n).key, (Obj.streamClockError n).key, (Obj.streamClockSkew n).key,
      (Obj.streamSyncFlags n).key] := by
  intro interval pred
  obtain ⟨hsu, -⟩ := streamSteps_ne n
  have hclock : ((s.markTaken n ps).updClock n (fun m => { m with edges := es })).clock n = { (s.clock n).mark ps interval with edges := es } := by
    rw [Dev.clock_updClock, Dev.clock_markTaken hold]
  have hkept : s.regsKept ((s.markTaken n ps).updClock n (fun m => { m with edges := es })) [(Obj.streamSyncUnpaired n).key] :=
    ((Dev.regsKept_windowed hold).updClock n _).updClock n _
  have hf : ((s.markTaken n ps).updClock n (fun m => { m with edges := es })).f = s.f := Dev.windowed_f hold
  have hlimit := hkept (Obj.streamStepLimit n) (by simpa using streamStepLimit_ne_unpaired n)
  have hsteps := hkept (Obj.streamSteps n) (by simpa using hsu)
  generalize (s.markTaken n ps).updClock n (fun m => { m with edges := es }) = u at hclock hkept hf hlimit hsteps
  have hpred : (u.clock n).predict ps = pred := by
    rw [hclock]
    rfl
  obtain ⟨⟨hm, hes, hl⟩, hp, hb, hbase, hstep, hcorr, hrest⟩ := u.pairMark_shows n ps e (if 0 < interval then interval else 0)
  rw [hclock] at hm hes hl
  rw [hpred, hlimit, hsteps] at hstep hcorr
  rw [hf] at hp
  refine ⟨?_, hes, hl, hp, hb, hbase, fun h => ?_, fun h => ?_, fun r hr => ?_⟩
  · rw [hm]
    simp [ClockMap.mark, hmarks]
  · obtain ⟨h1, h2, h3⟩ := hstep h
    refine ⟨h1, h2.trans ?_, h3⟩
    rw [hclock]
    rfl
  · obtain ⟨h1, h2, h3⟩ := hcorr h
    refine ⟨h1, h2, fun hi => h3 ?_⟩
    rw [if_pos hi]
    exact ne_of_gt hi
  · simp only [List.mem_cons, not_or] at hr
    obtain ⟨hu, hs, he, hk, hfl, -⟩ := hr
    exact (hrest r (by simp [hs, he, hk, hfl])).trans (hkept r (by simp [hu]))

/-- Settles O9: a message is forwarded by its kind and the mode, and received by its type; a mark meets the oldest edge of its window, or waits, or is
left unpaired. -/
theorem clocksAndMarks : Obligations.ClocksAndMarks := by
  unfold Obligations.ClocksAndMarks
  simp only [exec, execSyncMark, execSyncAgeExpiry]
  refine ⟨fun s i e m res link hu hie he =>
      ⟨fun h5 => ⟨fun b ht => ?_, fun ht => ?_, fun ht hev h2 => ?_, fun ht hsync h2 => ?_, fun ht hfol => ?_⟩, fun h5 => ?_⟩,
    fun s i m res link hu h5 hi ht hr => ⟨fun hx => ?_, fun hd hx => ⟨fun hty hm hp => ?_, fun r hty hrk hrole hpar => ?_, fun r hty hrk hrole => ?_⟩⟩,
    fun s n hu => ⟨fun ps arrival hmarks hm =>
      ⟨fun e es hes hi => nextHas_runIn hu ?_, fun hes hi => nextHas_runIn hu ?_, fun hes hk hi => nextHas_runIn hu ?_⟩,
      fun f hp hf => nextHas_runIn hu ?_⟩⟩
  · refine ⟨_, execPtpEventMessage_forward hu h5 hie he, ?_⟩
    rw [Dev.ptpForward_off (s := s.dev.fresh) ht]
    exact ⟨rfl, s.dev.regsKept_fresh _, s.sameRest_dev _⟩
  · refine ⟨_, execPtpEventMessage_forward hu h5 hie he, ?_⟩
    rw [Dev.ptpForward_unmodifiable (s := s.dev.fresh) ht]
    exact ⟨rfl, (Dev.rd_emit _ _ _).trans (Dev.rd_bump_same _ _), ((s.dev.regsKept_fresh _).bump (by simp)).emit _, s.sameRest_dev _⟩
  · obtain ⟨k, hk⟩ := ptpKeptAt_event (i := i.val) (e := e.val) hev
    refine ⟨_, execPtpEventMessage_forward hu h5 hie he, ?_⟩
    rw [Dev.ptpForward_event (s := s.dev.fresh) ht hk, h2]
    exact ⟨⟨_, rfl, ptpCorrect_correction m res⟩, s.dev.regsKept_fresh _, s.sameRest_dev _⟩
  · refine ⟨_, execPtpEventMessage_forward hu h5 hie he, ?_⟩
    rw [Dev.ptpForward_event (s := s.dev.fresh) ht (ptpKeptAt_sync hsync), h2]
    exact ⟨rfl, Tab.get_put_same _ _ _, fun k hk => Tab.get_put_other _ _ _ hk, (s.dev.regsKept_fresh _).of_dict rfl, s.sameRest_dev _⟩
  · refine ⟨_, execPtpEventMessage_forward hu h5 hie he, ?_⟩
    rw [Dev.ptpForward_followUp (s := s.dev.fresh) ht hfol]
    exact ⟨⟨_, rfl, ptpCorrect_correction m _⟩, Tab.get_put_same s.dev.residence _ 0, (s.dev.regsKept_fresh _).of_dict rfl, s.sameRest_dev _⟩
  · exact ⟨_, execPtpEventMessage_safe hu h5, rfl, s.sameRest_dev _⟩
  · refine ⟨_, execPtpEventMessage_receive hu h5 hi ht, ?_⟩
    rw [Dev.ptpReceive_foreign (s := s.dev.fresh.emit (.ptp 2 m)) hx]
    exact ⟨rfl, s.dev.regsKept_fresh _, s.sameRest_dev _⟩
  · refine ⟨_, execPtpEventMessage_receive hu h5 hi ht, ?_⟩
    rw [Dev.ptpReceive_delayReq (s := s.dev.fresh.emit (.ptp 2 m)) hr hd hx hty hm hp]
    exact ⟨⟨_, rfl, rfl, rfl, rfl, rfl⟩, s.dev.regsKept_fresh _, s.sameRest_dev _⟩
  · refine ⟨_, execPtpEventMessage_receive hu h5 hi ht, ?_⟩
    rw [Dev.ptpReceive_announce (s := s.dev.fresh.emit (.ptp 2 m)) hr hd hx hty hrk, Dev.ptpAnnounce_first (s := s.dev.fresh.emit (.ptp 2 m)) hrole hpar]
    refine ⟨rfl, Dev.rd_wr_fits _ _ (by decide), Dev.blob_setBlob_same _ _ _, ?_, s.sameRest_dev _⟩
    exact Dev.regsKept.wr ((s.dev.regsKept_fresh _).of_dict rfl) 8 (by simp)
  · refine ⟨_, execPtpEventMessage_receive hu h5 hi ht, ?_⟩
    rw [Dev.ptpReceive_announce (s := s.dev.fresh.emit (.ptp 2 m)) hr hd hx hty hrk, Dev.ptpAnnounce_transmitter (s := s.dev.fresh.emit (.ptp 2 m)) hrole]
    exact ⟨rfl, s.dev.regsKept_fresh _, s.sameRest_dev _⟩
  · obtain ⟨hold, hpair⟩ := Dev.markTry_pairs (s := s.dev.fresh) (arrival := arrival) hm hes hi
    rw [Dev.syncMark_one (s := s.dev.fresh) hmarks, hpair]
    obtain ⟨h1, h2, h3, h4, h5, h6, h7, h8, h9⟩ := Dev.markPaired_shows hold e es arrival hmarks
    exact ⟨h1, h2, h3, h4, h5, h6, h7, h8, h9, s.sameRest_dev _⟩
  · have hold := Dev.oldestInWindow_nil (s := s.dev.fresh) (ps := ps) hes
    rw [Dev.syncMark_one (s := s.dev.fresh) hmarks, Dev.markTry_unpaired (s := s.dev.fresh) hm hes hi]
    refine ⟨?_, ?_, ?_, (((s.dev.regsKept_fresh _).trans (Dev.regsKept_windowed hold)).updClock _ _).bump (by simp), s.sameRest_dev _⟩
    · rw [Dev.clock_bump, Dev.clock_markTaken hold]
      simp [ClockMap.mark, hmarks]
    · exact (Dev.rd_bump_same _ _).trans (Dev.rd_unpaired_windowed hold)
    · rw [Dev.clock_bump, Dev.clock_markTaken hold]
      rfl
  · rw [Dev.syncMark_one (s := s.dev.fresh) hmarks, Dev.markTry_waits (s := s.dev.fresh) hm hes hk hi]
    refine ⟨?_, s.sameRest_dev _⟩
    rw [Dev.clock_windowed (Dev.oldestInWindow_nil (s := s.dev.fresh) hes)]
    exact hmarks
  · rw [Dev.syncExpire_due (s := s.dev.fresh) hp hf]
    exact ⟨Dev.bit_setBit_same _ _ _ (show 0 < 8 by omega), (s.dev.regsKept_fresh _).setBit _ _ (by simp), s.sameRest_dev _⟩

end Sys2Proof.Machine
end

section
/-! The streams' front ends (R118 to R155) beside updates of other parts: the record of a front end, the fields of StreamState, and the registers of a port. -/

namespace Sys2Proof.Machine

open Sys2Proof

/-! ### The record of a front end -/

section
variable (s : Dev) (n : Nat)

@[simp] theorem Dev.str_updStr (f : Stream → Stream) : (s.updStr n f).str n = f (s.str n) := Tab.get_upd_same ..

theorem Dev.str_updStr_other {k : Nat} (f : Stream → Stream) (h : k ≠ n) : (s.updStr n f).str k = s.str k := Tab.get_upd_other _ _ h

/-- What a change of front end `n` does not show in its own record, it shows in none. -/
theorem Dev.updStr_keeps {α : Type} {f : Stream → Stream} (g : Stream → α) (h : ∀ x, g (f x) = g x) (k : Nat) :
    g ((s.updStr n f).str k) = g (s.str k) := by
  by_cases e : k = n
  · subst e
    rw [Dev.str_updStr, h]
  · rw [Dev.str_updStr_other _ _ _ e]

@[simp] theorem Dev.str_fresh : s.fresh.str n = s.str n := rfl

@[simp] theorem Dev.str_wr (r : Reg) (v : Nat) : (s.wr r v).str n = s.str n := rfl

@[simp] theorem Dev.str_setF (r : Reg) (lo w v : Nat) : (s.setF r lo w v).str n = s.str n := rfl

@[simp] theorem Dev.str_setBit (r : Reg) (i : Nat) (b : Bool) : (s.setBit r i b).str n = s.str n := rfl

@[simp] theorem Dev.str_bump (r : Reg) : (s.bump r).str n = s.str n := rfl

@[simp] theorem Dev.str_bumpBy (r : Reg) (k : Nat) : (s.bumpBy r k).str n = s.str n := rfl

@[simp] theorem Dev.str_setBlob (r : Reg) (bs : List Byte) : (s.setBlob r bs).str n = s.str n := rfl

@[simp] theorem Dev.str_emit (o : Out) : (s.emit o).str n = s.str n := rfl

@[simp] theorem Dev.str_meter (r : Reg) (k : Nat) : (s.meter r k).str n = s.str n := rfl

@[simp] theorem Dev.str_answer (q : Requester) (st : Status) (d : List Byte) : (s.answer q st d).str n = s.str n := by simp [Dev.str]

@[simp] theorem Dev.str_accept (q : Requester) : (s.accept q).str n = s.str n := by simp [Dev.str]

@[simp] theorem Dev.str_refuse (q : Requester) (st : Status) : (s.refuse q st).str n = s.str n := by simp [Dev.str]

@[simp] theorem Dev.str_setSt (m v : Nat) : (s.setSt m v).str n = s.str n := rfl

@[simp] theorem Dev.str_sedCount (off : Nat) : (s.sedCount off).str n = s.str n := rfl

@[simp] theorem Dev.rd_updStr (f : Stream → Stream) (r : Reg) : (s.updStr n f).rd r = s.rd r := rfl

@[simp] theorem Dev.getF_updStr (f : Stream → Stream) (r : Reg) (lo w : Nat) : (s.updStr n f).getF r lo w = s.getF r lo w := rfl

@[simp] theorem Dev.bit_updStr (f : Stream → Stream) (r : Reg) (i : Nat) : (s.updStr n f).bit r i = s.bit r i := rfl

@[simp] theorem Dev.blob_updStr (f : Stream → Stream) (r : Reg) : (s.updStr n f).blob r = s.blob r := rfl

@[simp] theorem Dev.updStr_allocs (f : Stream → Stream) : (s.updStr n f).allocs = s.allocs := rfl

@[simp] theorem Dev.dict_updStr (f : Stream → Stream) : (s.updStr n f).dict = s.dict := rfl

end

section
variable (s : Dev) (r r' : Reg)

@[simp] theorem Dev.blob_setF (lo w v : Nat) : (s.setF r lo w v).blob r' = s.blob r' := rfl

@[simp] theorem Dev.blob_setBit (i : Nat) (b : Bool) : (s.setBit r i b).blob r' = s.blob r' := rfl

@[simp] theorem Dev.blob_setSt (n v : Nat) : (s.setSt n v).blob r' = s.blob r' := rfl

@[simp] theorem Dev.blob_bump : (s.bump r).blob r' = s.blob r' := rfl

@[simp] theorem Dev.blob_sedCount (off : Nat) : (s.sedCount off).blob r' = s.blob r' := rfl

@[simp] theorem Dev.blob_accept (q : Requester) : (s.accept q).blob r' = s.blob r' := by rw [Dev.blob, Dev.accept_blobs, Dev.blob]

end

section
variable {s t : Dev} {ks : List Nat} (h : s.regsKept t ks)
include h

theorem Dev.regsKept.updStr (n : Nat) (f : Stream → Stream) : s.regsKept (t.updStr n f) ks := h

theorem Dev.regsKept.setBlob (r : Reg) (bs : List Byte) : s.regsKept (t.setBlob r bs) ks := h

theorem Dev.regsKept.meter (r : Reg) (k : Nat) : s.regsKept (t.meter r k) ks := h

theorem Dev.regsKept.setSt {n : Nat} (v : Nat) (hr : (Obj.streamState n).key ∈ ks) : s.regsKept (t.setSt n v) ks := h.setF _ _ _ hr

theorem Dev.regsKept.sedCount (off : Nat) : s.regsKept (t.sedCount off) ks := h

theorem Dev.regsKept.stState {n : Nat} (hr : (Obj.streamState n).key ∉ ks) : t.stState n = s.stState n := Dev.getF_eq _ _ _ _ _ (h _ hr)

theorem Dev.regsKept.profileOf {n : Nat} (hr : (Obj.streamState n).key ∉ ks) : t.profileOf n = s.profileOf n := Dev.getF_eq _ _ _ _ _ (h _ hr)

end

/-! ### StreamState -/

section
variable (s : Dev) (n : Nat)

@[simp] theorem Dev.stState_fresh : s.fresh.stState n = s.stState n := rfl

@[simp] theorem Dev.stState_updStr (f : Stream → Stream) : (s.updStr n f).stState n = s.stState n := rfl

@[simp] theorem Dev.stState_sedCount (off : Nat) : (s.sedCount off).stState n = s.stState n := rfl

@[simp] theorem Dev.profileOf_sedCount (off : Nat) : (s.sedCount off).profileOf n = s.profileOf n := rfl

@[simp] theorem Dev.profileOf_fresh : s.fresh.profileOf n = s.profileOf n := rfl

@[simp] theorem Dev.profileOf_updStr (f : Stream → Stream) : (s.updStr n f).profileOf n = s.profileOf n := rfl

/-- A state code reads back as it was set. -/
theorem Dev.stState_setSt {v : Nat} (hv : v < 16) : (s.setSt n v).stState n = v :=
  (s.getF_setF_same _ _ (show 0 + 4 ≤ 32 by omega)).trans (Nat.mod_eq_of_lt hv)

/-- Setting a bit of some port's StreamState leaves the other fields of every port's. -/
theorem Dev.getF_setBit_streamState {i lo w : Nat} (k : Nat) (b : Bool) (h : lo + w ≤ i ∨ i < lo) (hb : lo + w ≤ 32) :
    (s.setBit (Obj.streamState k) i b).getF (Obj.streamState n) lo w = s.getF (Obj.streamState n) lo w := by
  by_cases e : n = k
  · subst e
    exact s.getF_setBit_other _ b h hb
  · exact Dev.getF_eq _ _ _ _ _ (s.rd_setBit_other _ _ (by simp only [Obj.streamState, Reg.at_key]; omega))

theorem Dev.stState_setBit {i : Nat} (k : Nat) (b : Bool) (hi : 4 ≤ i) : (s.setBit (Obj.streamState k) i b).stState n = s.stState n :=
  s.getF_setBit_streamState n k b (.inl (by omega)) (by omega)

theorem Dev.profileOf_setBit {i : Nat} (k : Nat) (b : Bool) (hi : i < 16) : (s.setBit (Obj.streamState k) i b).profileOf n = s.profileOf n :=
  s.getF_setBit_streamState n k b (.inr hi) (by omega)

theorem Dev.profileOf_setF {v : Nat} (hv : v < 256) : (s.setF (Obj.streamState n) 16 8 v).profileOf n = v :=
  (s.getF_setF_same _ _ (show 16 + 8 ≤ 32 by omega)).trans (Nat.mod_eq_of_lt hv)

theorem Dev.profileOf_setSt (v : Nat) : (s.setSt n v).profileOf n = s.profileOf n :=
  s.getF_setF_other _ _ (.inr (by omega)) (show 16 + 8 ≤ 32 by omega)

theorem Dev.stState_setF {lo w : Nat} (v : Nat) (hl : 4 ≤ lo) : (s.setF (Obj.streamState n) lo w v).stState n = s.stState n :=
  s.getF_setF_other _ _ (.inl (by omega)) (show 0 + 4 ≤ 32 by omega)

theorem Dev.stState_wr {r : Reg} (v : Nat) (h : (Obj.streamState n).key ≠ r.key) : (s.wr r v).stState n = s.stState n := s.getF_wr_other _ _ _ h

theorem streamState_ne_transport : (Obj.streamState n).key / 256 ≠ 0x1110 := by simp only [Obj.streamState, Reg.at_key]; omega

theorem Dev.stState_accept (q : Requester) : (s.accept q).stState n = s.stState n := s.getF_accept q _ _ (streamState_ne_transport n)

theorem Dev.stState_refuse (q : Requester) (st : Status) : (s.refuse q st).stState n = s.stState n :=
  Dev.getF_eq _ _ _ _ _ (s.rd_refuse q st (streamState_ne_transport n))

theorem Dev.profileOf_wr {r : Reg} (v : Nat) (h : (Obj.streamState n).key ≠ r.key) : (s.wr r v).profileOf n = s.profileOf n := s.getF_wr_other _ _ _ h

theorem Dev.stState_bump {r : Reg} (h : (Obj.streamState n).key ≠ r.key) : (s.bump r).stState n = s.stState n := s.stState_wr n _ h

theorem Dev.profileOf_bump {r : Reg} (h : (Obj.streamState n).key ≠ r.key) : (s.bump r).profileOf n = s.profileOf n := s.profileOf_wr n _ h

theorem Dev.profileOf_accept (q : Requester) : (s.accept q).profileOf n = s.profileOf n := s.getF_accept q _ _ (streamState_ne_transport n)

theorem Dev.profileOf_lt : s.profileOf n < 256 := field_lt _ 16 8

end

end Sys2Proof.Machine
end

section
/-! Sensors on I3C (R124 to R131, R133): sequences that are acknowledged, identification, and addressing. -/

namespace Sys2Proof.Machine

open Sys2Proof

/-! ### Sequences that the sensor acknowledges (R133) -/

/-- The device `t` differs from `s` in what was sent and in the unanswered transfers of sensors alone. -/
def Dev.i3cOnly (s t : Dev) : Prop :=
  ∃ o st, t = { s with out := o, streams := st } ∧ ∀ m, t.str m = { s.str m with i3cMissed := (t.str m).i3cMissed }

section
variable {s t : Dev} (h : s.i3cOnly t)
include h

theorem Dev.i3cOnly.dict : t.dict = s.dict := by
  obtain ⟨o, st, rfl, -⟩ := h
  rfl

theorem Dev.i3cOnly.rd (r : Reg) : t.rd r = s.rd r := by rw [Dev.rd, h.dict, Dev.rd]

theorem Dev.i3cOnly.blob (r : Reg) : t.blob r = s.blob r := by
  obtain ⟨o, st, rfl, -⟩ := h
  rfl

theorem Dev.i3cOnly.stState (n : Nat) : t.stState n = s.stState n := Dev.getF_eq _ _ _ _ _ (h.rd _)

theorem Dev.i3cOnly.profileOf (n : Nat) : t.profileOf n = s.profileOf n := Dev.getF_eq _ _ _ _ _ (h.rd _)

theorem Dev.i3cOnly.str (m : Nat) : t.str m = { s.str m with i3cMissed := (t.str m).i3cMissed } := by
  obtain ⟨-, -, -, hs⟩ := h
  exact hs m

theorem Dev.i3cOnly.allocs : t.allocs = s.allocs := by
  obtain ⟨o, st, rfl, -⟩ := h
  rfl

theorem Dev.i3cOnly.clock (n : Nat) : t.clock n = s.clock n := by
  obtain ⟨o, st, rfl, -⟩ := h
  rfl

theorem Dev.i3cOnly.localF (d : Nat) : t.localF d = s.localF d := by
  obtain ⟨o, st, rfl, -⟩ := h
  rfl

theorem Dev.i3cOnly.portDt (n : Nat) : t.portDt n = s.portDt n := by
  simp only [Dev.portDt, Dev.dtAt, Dev.rdI, h.rd, h.localF]

end

theorem Dev.foldl_emit (s : Dev) {α : Type} (o : α → Dev → Out) (ws : List α) : ∃ x, ws.foldl (fun s w => s.emit (o w s)) s = { s with out := x } :=
  foldl_holds (fun u => ∃ x, u = { s with out := x }) _ (fun _ w ⟨x, hx⟩ => ⟨x ++ [o w { s with out := x }], by subst hx; rfl⟩) ws ⟨s.out, rfl⟩

/-- A sequence that meets no refusal runs to its end. -/
theorem Dev.runSequence_none (s : Dev) (n : Nat) (bs : List Byte) : ∃ t, s.runSequence n bs none = (t, true) ∧ s.i3cOnly t := by
  unfold Dev.runSequence
  split
  · exact ⟨s, rfl, s.out, s.streams, rfl, fun _ => rfl⟩
  · obtain ⟨x, hx⟩ := s.foldl_emit (fun w s => .i3c n 5 (s.rd (Obj.dynamicAddress n)) (leBytes 2 w.1 ++ leBytes 1 w.2)) (sequenceWrites bs)
    simp only [hx]
    refine ⟨_, rfl, x, _, rfl, fun m => ?_⟩
    by_cases e : m = n
    · subst e
      simp only [Dev.i3cAnswered, Dev.str_updStr]
      rfl
    · simp only [Dev.i3cAnswered, Dev.str_updStr_other _ _ _ e]
      rfl

/-! ### Identification (R127 to R129) -/

/-- The device with the identity of port `n` shown: no transfer is under way and the port is not ambiguous. -/
def Dev.idShown (s : Dev) (n : Nat) (id : List Byte) : Dev :=
  ((s.updStr n (fun x => { x with i3cOut := false, i3cMissed := 0 })).setBit (Obj.streamState n) 10 false).setBlob (Obj.seenIdentity n) id

section
variable (s : Dev) (n : Nat) (id : List Byte)

theorem Dev.identified_unmatched (nack : Option Nat) : s.identified n none id nack = (s.idShown n id).setSt n 3 := rfl

theorem Dev.blob_idShown_expectedIdentity : (s.idShown n id).blob (Obj.expectedIdentity n) = s.blob (Obj.expectedIdentity n) :=
  Dev.blob_setBlob_other _ _ (by simp only [Obj.expectedIdentity, Obj.seenIdentity, Reg.at_key]; omega)

theorem Dev.regsKept.idShown {s t : Dev} {ks : List Nat} (h : s.regsKept t ks) {n : Nat} (id : List Byte) (hk : (Obj.streamState n).key ∈ ks) :
    s.regsKept (t.idShown n id) ks := ((h.updStr n _).setBit _ _ hk).setBlob _ id

/-- Identification with a profile, in steps. -/
theorem Dev.identified_some (p : Nat) (nack : Option Nat) : s.identified n (some p) id nack =
    let u := (s.idShown n id).setF (Obj.streamState n) 16 8 p
    if u.blob (Obj.expectedIdentity n) = id then
      let r := u.runSequence n (u.blob (Obj.initSequence p)) nack
      if r.2 then r.1.setSt n 4 else r.1
    else ((u.setSt n 2).bump (stCtr n 0x14)).sedCount (0x1460 + 4 * n) := rfl

theorem Dev.identified_unknown (p : Nat) (nack : Option Nat) (h : s.blob (Obj.expectedIdentity n) ≠ id) :
    s.identified n (some p) id nack =
      ((((s.idShown n id).setF (Obj.streamState n) 16 8 p).setSt n 2).bump (stCtr n 0x14)).sedCount (0x1460 + 4 * n) := by
  rw [← s.blob_idShown_expectedIdentity n id] at h
  exact (s.identified_some n id p nack).trans (if_neg h)

theorem Dev.identified_known (p : Nat) (h : s.blob (Obj.expectedIdentity n) = id) :
    ∃ t, ((s.idShown n id).setF (Obj.streamState n) 16 8 p).i3cOnly t ∧ s.identified n (some p) id none = t.setSt n 4 := by
  rw [← s.blob_idShown_expectedIdentity n id] at h
  rw [s.identified_some n id p none]
  generalize hu : (s.idShown n id).setF (Obj.streamState n) 16 8 p = u
  have hb : u.blob (Obj.expectedIdentity n) = id := by rw [← hu]; exact h
  obtain ⟨t, ht, ho⟩ := u.runSequence_none n (u.blob (Obj.initSequence p))
  exact ⟨t, ho, by simp [hb, ht]⟩

theorem Dev.regsKept_identified (slot : Option Nat) :
    s.regsKept (s.identified n slot id none) [(Obj.streamState n).key, (Obj.streamCounter n 0x14).key] := by
  have hs : s.regsKept (s.idShown n id) [(Obj.streamState n).key, (Obj.streamCounter n 0x14).key] := (Dev.regsKept.refl s _).idShown id (by simp)
  cases slot with
  | none => exact hs.setSt 3 (by simp)
  | some p =>
    have hp := hs.setF (r := Obj.streamState n) 16 8 p (by simp)
    by_cases h : s.blob (Obj.expectedIdentity n) = id
    · obtain ⟨t, ho, e⟩ := s.identified_known n id p h
      rw [e]
      exact (hp.of_dict ho.dict).setSt 4 (by simp)
    · rw [s.identified_unknown n id p none h]
      exact ((hp.setSt 2 (by simp)).bump (by simp [stCtr])).sedCount _

end

/-! ### Addressing (R124, R125) -/

section
variable (s : Dev) (n : Nat)

/-- The sensor is addressed by its static address. -/
theorem Dev.addressSensor_static (h : s.rd (Obj.i3cStaticAddress n) ≠ 0) :
    s.addressSensor n = ((s.wr (Obj.dynamicAddress n) (0x30 + n % 2)).emit
      (.i3c n 1 (s.rd (Obj.i3cStaticAddress n)) (leBytes 1 (0x30 + n % 2)))).i3cBegin n := by
  have e : (s.wr (Obj.dynamicAddress n) (0x30 + n % 2)).rd (Obj.i3cStaticAddress n) = s.rd (Obj.i3cStaticAddress n) :=
    s.rd_wr_other _ (by simp only [Obj.i3cStaticAddress, Obj.dynamicAddress, Reg.at_key]; omega)
  unfold Dev.addressSensor
  rw [if_pos (by rw [e]; exact h), e]

/-- Addressing writes the dynamic address, sets no bit but Ambiguous of both ports of the bus, and touches only the transfer under way. -/
theorem Dev.addressSensor_forms :
    let u := s.wr (Obj.dynamicAddress n) (0x30 + n % 2)
    (∃ o, s.addressSensor n = (u.emit o).i3cBegin n) ∨
    s.addressSensor n = (((u.setBit (Obj.streamState n) 10 true).setBit (Obj.streamState (busMate n)) 10 true).updStr n (fun x => { x with i3cOut := false })).updStr
      (busMate n) (fun x => { x with i3cOut := false }) := by
  intro u
  by_cases hs : u.rd (Obj.i3cStaticAddress n) ≠ 0
  · exact .inl ⟨_, if_pos hs⟩
  · by_cases hm : u.needsEntdaa (busMate n) = true
    · exact .inr ((if_neg hs).trans (if_pos hm))
    · exact .inl ⟨_, (if_neg hs).trans (if_neg hm)⟩

theorem Dev.rd_addressSensor_dynamicAddress : (s.addressSensor n).rd (Obj.dynamicAddress n) = 0x30 + n % 2 := by
  have e : (s.wr (Obj.dynamicAddress n) (0x30 + n % 2)).rd (Obj.dynamicAddress n) = 0x30 + n % 2 :=
    (s.rd_wr_same _ _).trans (Nat.mod_eq_of_lt (show 0x30 + n % 2 < 2 ^ 8 by omega))
  have ne : ∀ k, (Obj.dynamicAddress n).key ≠ (Obj.streamState k).key := fun k => by
    simp only [Obj.dynamicAddress, Obj.streamState, Reg.at_key]; omega
  rcases s.addressSensor_forms n with ⟨o, h⟩ | h
  · rw [h, Dev.i3cBegin, Dev.rd_updStr, Dev.rd_emit, e]
  · rw [h, Dev.rd_updStr, Dev.rd_updStr, Dev.rd_setBit_other _ _ _ (ne _), Dev.rd_setBit_other _ _ _ (ne _), e]

theorem Dev.regsKept.addressSensor {s t : Dev} {ks : List Nat} (h : s.regsKept t ks) {n : Nat} (hd : (Obj.dynamicAddress n).key ∈ ks)
    (hs : (Obj.streamState n).key ∈ ks) (hm : (Obj.streamState (busMate n)).key ∈ ks) : s.regsKept (t.addressSensor n) ks := by
  have hu := h.wr (r := Obj.dynamicAddress n) (0x30 + n % 2) hd
  rcases t.addressSensor_forms n with ⟨o, e⟩ | e <;> rw [e]
  · exact (hu.emit o).updStr n _
  · exact (((hu.setBit 10 true hs).setBit 10 true hm).updStr n _).updStr _ _

/-- Ambiguous apart, addressing leaves every port's StreamState. -/
theorem Dev.getF_addressSensor_streamState (k : Nat) {lo w : Nat} (h : lo + w ≤ 10 ∨ 10 < lo) (hb : lo + w ≤ 32) :
    (s.addressSensor n).getF (Obj.streamState k) lo w = s.getF (Obj.streamState k) lo w := by
  have e : (s.wr (Obj.dynamicAddress n) (0x30 + n % 2)).getF (Obj.streamState k) lo w = s.getF (Obj.streamState k) lo w :=
    s.getF_wr_other _ _ _ (by simp only [Obj.dynamicAddress, Obj.streamState, Reg.at_key]; omega)
  rcases s.addressSensor_forms n with ⟨o, f⟩ | f <;> rw [f]
  · exact e
  · rw [Dev.getF_updStr, Dev.getF_updStr, Dev.getF_setBit_streamState _ _ _ _ h hb, Dev.getF_setBit_streamState _ _ _ _ h hb, e]

theorem Dev.stState_addressSensor (k : Nat) : (s.addressSensor n).stState k = s.stState k := s.getF_addressSensor_streamState n k (.inl (by omega)) (by omega)

theorem Dev.profileOf_addressSensor (k : Nat) : (s.addressSensor n).profileOf k = s.profileOf k :=
  s.getF_addressSensor_streamState n k (.inr (by omega)) (by omega)

/-- What does not see the transfer under way does not see addressing. -/
theorem Dev.addressSensor_keeps {α : Type} (g : Stream → α) (hg : ∀ x b f, g { x with i3cOut := b, i3cF := f } = g x) (k : Nat) :
    g ((s.addressSensor n).str k) = g (s.str k) := by
  rcases s.addressSensor_forms n with ⟨o, e⟩ | e <;> rw [e]
  · rw [Dev.i3cBegin, Dev.updStr_keeps _ _ g (fun x => hg x _ _), Dev.str_emit, Dev.str_wr]
  · rw [Dev.updStr_keeps _ _ g (fun x => hg x _ x.i3cF), Dev.updStr_keeps _ _ g (fun x => hg x _ x.i3cF), Dev.str_setBit, Dev.str_setBit, Dev.str_wr]

@[simp] theorem Dev.addressSensor_allocs : (s.addressSensor n).allocs = s.allocs := by
  rcases s.addressSensor_forms n with ⟨o, e⟩ | e <;> simp [e, Dev.i3cBegin]

/-! ### IDENTIFY (R125, R129) -/

/-- The port as it enters IDENTIFY, before a sensor on I3C is addressed. -/
def Dev.identifyBegun (s : Dev) (n : Nat) : Dev :=
  ((s.setSt n 1).setF (Obj.streamState n) 16 8 0xFF).updStr n (fun x => { x with flowSeq := none, i3cOut := false, i3cMissed := 0 })

theorem Dev.enterIdentify_eq : s.enterIdentify n =
    if (s.identifyBegun n).rd (Obj.streamSource n) = 1 then s.identifyBegun n else (s.identifyBegun n).addressSensor n := rfl

theorem Dev.enterIdentify_i3c (h : s.rd (Obj.streamSource n) ≠ 1) : s.enterIdentify n = (s.identifyBegun n).addressSensor n := by
  have ne : (Obj.streamSource n).key ≠ (Obj.streamState n).key := by simp only [Obj.streamSource, Obj.streamState, Reg.at_key]; omega
  rw [← show (s.identifyBegun n).rd (Obj.streamSource n) = s.rd (Obj.streamSource n) by
    rw [Dev.identifyBegun, Dev.rd_updStr, Dev.rd_setF_other _ _ _ _ ne, Dev.setSt, Dev.rd_setF_other _ _ _ _ ne]] at h
  rw [s.enterIdentify_eq, if_neg h]

theorem Dev.regsKept.identifyBegun {s t : Dev} {ks : List Nat} (h : s.regsKept t ks) {n : Nat} (hs : (Obj.streamState n).key ∈ ks) :
    s.regsKept (t.identifyBegun n) ks := by
  rw [Dev.identifyBegun]
  exact ((h.setSt 1 hs).setF 16 8 0xFF hs).updStr n _

theorem Dev.stState_identifyBegun : (s.identifyBegun n).stState n = 1 := by
  rw [Dev.identifyBegun, Dev.stState_updStr, Dev.stState_setF _ _ _ (by omega), Dev.stState_setSt _ _ (by omega)]

theorem Dev.profileOf_identifyBegun : (s.identifyBegun n).profileOf n = 0xFF := by
  rw [Dev.identifyBegun, Dev.profileOf_updStr, Dev.profileOf_setF _ _ (by omega)]

end

end Sys2Proof.Machine
end

section
/-! The settings of a stream (R125, R132, R138, R155): the hot-pixel window, HotListClear, ProfileVersion and I3cStaticAddress. -/

namespace Sys2Proof.Machine

open Sys2Proof

/-! ### Sorting -/

section
variable {α : Type} (le : α → α → Bool)

theorem mem_insertSorted (x a : α) (ys : List α) : a ∈ insertSorted le x ys ↔ a = x ∨ a ∈ ys := by
  induction ys with
  | nil => simp [insertSorted]
  | cons y ys ih =>
    unfold insertSorted
    split
    · simp only [List.mem_cons, ih]
      tauto
    · simp only [List.mem_cons]

/-- Sorting keeps the members. -/
theorem mem_sortBy {a : α} (xs : List α) : a ∈ sortBy le xs ↔ a ∈ xs := by
  have grown : ∀ acc : List α, a ∈ xs.foldl (fun acc x => insertSorted le x acc) acc ↔ a ∈ acc ∨ a ∈ xs := by
    induction xs with
    | nil => simp
    | cons x xs ih =>
      intro acc
      rw [List.foldl_cons, ih, mem_insertSorted, List.mem_cons]
      tauto
  unfold sortBy
  simpa using grown []

end

/-! ### The hot-pixel detector's window (R138) -/

section
variable (s : Dev) (n : Nat)

@[simp] theorem Dev.str_hotCounted (m : Nat) : (s.hotCounted n).str m = s.str m := rfl

theorem Dev.rd_hotCounted_same : (s.hotCounted n).rd (Obj.hotListCount n) = (s.str n).hot.length % 2 ^ 16 := s.rd_wr_same _ _

theorem Dev.regsKept.hotCounted {s t : Dev} {ks : List Nat} (h : s.regsKept t ks) {n : Nat} (hc : (Obj.hotListCount n).key ∈ ks) :
    s.regsKept (t.hotCounted n) ks := h.wr _ hc

/-- A candidate is passed over, or added as an auto entry where it reached HotCount, or counted. -/
theorem Dev.hotAdd_cases (c : Nat × Nat) :
    s.hotAdd n c = s ∨ s.hotAdd n c = s.bump (stCtr n 8) ∨ (s.rd (Obj.hotCount n) ≤ c.2 ∧
      s.hotAdd n c = (s.updStr n (fun x => { x with hot := x.hot ++ [⟨c.1 / 4096, c.1 % 4096, true⟩] })).hotCounted n) := by
  unfold Dev.hotAdd
  split
  · exact .inl rfl
  · split
    · exact .inr (.inr ⟨by omega, rfl⟩)
    · exact .inr (.inl rfl)

theorem Dev.regsKept.hotAdd {s t : Dev} {ks : List Nat} (h : s.regsKept t ks) {n : Nat} (c : Nat × Nat) (hc : (Obj.hotListCount n).key ∈ ks)
    (h8 : (stCtr n 8).key ∈ ks) : s.regsKept (t.hotAdd n c) ks := by
  rcases t.hotAdd_cases n c with e | e | ⟨-, e⟩ <;> rw [e]
  · exact h
  · exact h.bump h8
  · exact (h.updStr n _).hotCounted hc

theorem Dev.rd_hotAdd_hotCount (c : Nat × Nat) : (s.hotAdd n c).rd (Obj.hotCount n) = s.rd (Obj.hotCount n) :=
  (Dev.regsKept.refl s [(Obj.hotListCount n).key, (stCtr n 8).key]).hotAdd c (by simp) (by simp) _ (by
    simp only [stCtr, Obj.hotCount, Obj.hotListCount, Obj.streamCounter, Reg.at_key, List.mem_cons, List.not_mem_nil, or_false]; omega)

/-- What judging candidates adds to the list: auto entries for pixels among them that reached HotCount. -/
theorem Dev.hot_foldl_hotAdd (cs : List (Nat × Nat)) :
    ∃ l, ((cs.foldl (fun s c => s.hotAdd n c) s).str n).hot = (s.str n).hot ++ l ∧
      ∀ e ∈ l, e.auto = true ∧ ∃ c ∈ cs, c.1 = e.x * 4096 + e.y ∧ s.rd (Obj.hotCount n) ≤ c.2 := by
  induction cs generalizing s with
  | nil => exact ⟨[], by simp, by simp⟩
  | cons c cs ih =>
    obtain ⟨l, hl, he⟩ := ih (s.hotAdd n c)
    rw [s.rd_hotAdd_hotCount] at he
    have later : ∀ e ∈ l, e.auto = true ∧ ∃ d ∈ c :: cs, d.1 = e.x * 4096 + e.y ∧ s.rd (Obj.hotCount n) ≤ d.2 := fun e h =>
      let ⟨ha, d, hd, hx⟩ := he e h
      ⟨ha, d, List.mem_cons_of_mem _ hd, hx⟩
    rw [List.foldl_cons, hl]
    rcases s.hotAdd_cases n c with e | e | ⟨hc, e⟩
    · exact ⟨l, by rw [e], later⟩
    · exact ⟨l, by rw [e, Dev.str_bump], later⟩
    · refine ⟨⟨c.1 / 4096, c.1 % 4096, true⟩ :: l, by simp [e], fun z hz => ?_⟩
      rcases List.mem_cons.1 hz with rfl | hz
      · exact ⟨rfl, c, List.mem_cons_self, (Nat.div_add_mod' c.1 4096).symm, hc⟩
      · exact later z hz

/-- The candidates judged as a window ends. -/
def Dev.hotBest (s : Dev) (n : Nat) : List (Nat × Nat) := (sortBy (fun a b => decide (b.2 ≤ a.2)) (s.str n).cand).take 256

theorem Dev.hotClose_eq : s.hotClose n =
    (if s.rd (Obj.hotEnable n) = 1 then (s.hotBest n).foldl (fun s c => s.hotAdd n c) s else s).updStr n (fun x =>
      { x with cand := [], hotWin := s.dtWin (s.rd (Obj.hotWindow n) * 1000000 : Nat) }) := rfl

theorem Dev.mem_cand_of_hotBest {s : Dev} {n : Nat} {c : Nat × Nat} (h : c ∈ s.hotBest n) : c ∈ (s.str n).cand :=
  (mem_sortBy ..).1 (List.mem_of_mem_take h)

theorem Dev.hot_hotClose :
    ∃ l, ((s.hotClose n).str n).hot = (s.str n).hot ++ l ∧
      ∀ e ∈ l, e.auto = true ∧ ∃ c ∈ (s.str n).cand, c.1 = e.x * 4096 + e.y ∧ s.rd (Obj.hotCount n) ≤ c.2 := by
  rw [s.hotClose_eq, Dev.str_updStr]
  split
  · obtain ⟨l, hl, he⟩ := s.hot_foldl_hotAdd n (s.hotBest n)
    exact ⟨l, hl, fun e h => let ⟨ha, c, hc, hx⟩ := he e h; ⟨ha, c, mem_cand_of_hotBest hc, hx⟩⟩
  · exact ⟨[], by simp, by simp⟩

theorem Dev.hotClose_of_not_enabled (h : s.rd (Obj.hotEnable n) ≠ 1) :
    s.hotClose n = s.updStr n (fun x => { x with cand := [], hotWin := s.dtWin (s.rd (Obj.hotWindow n) * 1000000 : Nat) }) := by
  rw [s.hotClose_eq, if_neg h]

theorem Dev.regsKept.hotClose {s t : Dev} {ks : List Nat} (h : s.regsKept t ks) {n : Nat} (hc : (Obj.hotListCount n).key ∈ ks) (h8 : (stCtr n 8).key ∈ ks) :
    s.regsKept (t.hotClose n) ks := by
  rw [t.hotClose_eq]
  refine Dev.regsKept.updStr ?_ n _
  split
  · exact foldl_holds (s.regsKept · ks) _ (fun u c hu => hu.hotAdd c hc h8) _ h
  · exact h

theorem Dev.hotRoll_of_left (h : (s.str n).hotWin ≠ s.dtWin (s.rd (Obj.hotWindow n) * 1000000 : Nat)) : s.hotRoll n = s.hotClose n := if_neg h

end

/-! ### Profiles (R132, R155) -/

section
variable (s : Dev)

theorem Dev.regsKept_retryMatch (n : Nat) : s.regsKept (s.retryMatch n) [(Obj.streamState n).key, (Obj.streamCounter n 0x14).key] := by
  have hs := (Dev.regsKept.refl s [(Obj.streamState n).key, (Obj.streamCounter n 0x14).key]).setSt (n := n) 1 (by simp)
  unfold Dev.retryMatch
  split
  · split
    · exact hs.trans (Dev.regsKept_identified _ n _ _)
    · exact hs.updStr n _
  · exact Dev.regsKept.refl s _

/-- A slot that becomes valid changes no object of a profile slot. -/
theorem Dev.rd_retryMatches (N : Nat) {r : Reg} (h : ∀ n, r.key ∉ [(Obj.streamState n).key, (Obj.streamCounter n 0x14).key]) :
    (s.each N (fun n s => s.retryMatch n)).rd r = s.rd r :=
  Dev.each_keeps (fun d => d.rd r) N _ (fun n u => u.regsKept_retryMatch n r (h n)) s

theorem Dev.profileCheck_wr_profileVersion (p v x : Nat) : (s.wr (Obj.profileVersion p) x).profileCheck p v = s.profileCheck p v := by
  have hb : (s.wr (Obj.profileVersion p) x).rd (Obj.wordBits p) = s.rd (Obj.wordBits p) :=
    s.rd_wr_other _ (by simp only [Obj.wordBits, Obj.profileVersion, Reg.at_key]; omega)
  have ht : (s.wr (Obj.profileVersion p) x).rd (Obj.typeBits p) = s.rd (Obj.typeBits p) :=
    s.rd_wr_other _ (by simp only [Obj.typeBits, Obj.profileVersion, Reg.at_key]; omega)
  have hl : (s.wr (Obj.profileVersion p) x).rd (Obj.typeLsb p) = s.rd (Obj.typeLsb p) :=
    s.rd_wr_other _ (by simp only [Obj.typeLsb, Obj.profileVersion, Reg.at_key]; omega)
  simp only [Dev.profileCheck, Dev.blob_wr, hb, ht, hl]

theorem Dev.profileCheck_zero (p : Nat) : s.profileCheck p 0 = 0 := rfl

theorem Dev.profileCheck_refused (p : Nat) {v : Nat} (h0 : v ≠ 0) (h : v < 0x0100 ∨ 0x0102 < v) : s.profileCheck p v = 2 := by
  unfold Dev.profileCheck
  rw [if_neg h0, if_pos h]

theorem Dev.profileCheck_lt (p v : Nat) : s.profileCheck p v < 4 := by
  unfold Dev.profileCheck
  split
  · omega
  · split
    · omega
    · dsimp only
      split <;> omega

theorem Dev.profileVersionWrite_used (q : Requester) {p : Nat} (v : Nat) (h : s.profileUsed p = true) : s.profileVersionWrite q p v = s.refuse q .state :=
  if_pos h

/-- The device with the version of an unused slot written and its table checked. -/
def Dev.profileChecked (s : Dev) (p v : Nat) : Dev :=
  (s.wr (Obj.profileVersion p) v).wr (Obj.profileState p) ((s.wr (Obj.profileVersion p) v).profileCheck p v)

theorem Dev.profileVersionWrite_unused (q : Requester) {p : Nat} (v : Nat) (h : s.profileUsed p = false) : s.profileVersionWrite q p v =
    (if (s.wr (Obj.profileVersion p) v).profileCheck p v = 1 then (s.profileChecked p v).each 36 (fun n s => s.retryMatch n)
      else s.profileChecked p v).accept q := if_neg (by simp [h])

theorem Dev.rd_profileVersionWrite (q : Requester) {p : Nat} (v : Nat) (h : s.profileUsed p = false) {r : Reg} (ht : r.key / 256 ≠ 0x1110)
    (hr : ∀ n, r.key ∉ [(Obj.streamState n).key, (Obj.streamCounter n 0x14).key]) :
    (s.profileVersionWrite q p v).rd r = (s.profileChecked p v).rd r := by
  rw [s.profileVersionWrite_unused q v h, Dev.rd_accept _ q ht]
  split
  · exact Dev.rd_retryMatches _ 36 hr
  · rfl

theorem Dev.rd_profileVersionWrite_version (q : Requester) {p : Nat} {v : Nat} (h : s.profileUsed p = false) (hv : v < 2 ^ 16) (hp : p < 16) :
    (s.profileVersionWrite q p v).rd (Obj.profileVersion p) = v := by
  rw [s.rd_profileVersionWrite q v h]
  · rw [Dev.profileChecked, Dev.rd_wr_other, Dev.rd_wr_same]
    · exact Nat.mod_eq_of_lt hv
    · simp only [Obj.profileVersion, Obj.profileState, Reg.at_key]; omega
  · simp only [Obj.profileVersion, Reg.at_key]; omega
  · intro n
    simp only [Obj.profileVersion, Obj.streamState, Obj.streamCounter, Reg.at_key, List.mem_cons, List.not_mem_nil, or_false]; omega

theorem Dev.rd_profileVersionWrite_state (q : Requester) {p : Nat} (v : Nat) (h : s.profileUsed p = false) (hp : p < 16) :
    (s.profileVersionWrite q p v).rd (Obj.profileState p) = s.profileCheck p v := by
  rw [s.rd_profileVersionWrite q v h]
  · rw [Dev.profileChecked, Dev.rd_wr_same, s.profileCheck_wr_profileVersion]
    exact Nat.mod_eq_of_lt (lt_trans (s.profileCheck_lt p v) (show 4 < 2 ^ 8 by omega))
  · simp only [Obj.profileState, Reg.at_key]; omega
  · intro n
    simp only [Obj.profileState, Obj.streamState, Obj.streamCounter, Reg.at_key, List.mem_cons, List.not_mem_nil, or_false]; omega

theorem Dev.told_profileVersionWrite (q : Requester) {p : Nat} (v : Nat) (h : s.profileUsed p = false) : (s.profileVersionWrite q p v).told q .ok := by
  rw [s.profileVersionWrite_unused q v h]
  exact Dev.told_accept _ q

end

/-! ### I3cStaticAddress (R125) -/

section
variable (s : Dev) (q : Requester) (n v : Nat)

theorem Dev.staticAddressWrite_plain (h : s.bit (Obj.streamState n) 10 = false ∨ v = 0) :
    s.staticAddressWrite q n v = (s.wr (Obj.i3cStaticAddress n) v).accept q := by
  refine if_neg ?_
  rw [Dev.bit_eq _ s _ 10 (s.rd_wr_other _ (by simp only [Obj.i3cStaticAddress, Obj.streamState, Reg.at_key]; omega))]
  rintro ⟨h1, h2⟩
  rcases h with h | h
  · rw [h] at h1
    cases h1
  · exact h2 h

/-- A sensor whose mate has a static address is addressed at once: neither port becomes ambiguous. -/
theorem Dev.addressSensor_sole (m : Nat) (h : s.rd (Obj.i3cStaticAddress (busMate m)) ≠ 0) :
    ∃ o, s.addressSensor m = ((s.wr (Obj.dynamicAddress m) (0x30 + m % 2)).emit o).i3cBegin m := by
  by_cases hs : (s.wr (Obj.dynamicAddress m) (0x30 + m % 2)).rd (Obj.i3cStaticAddress m) ≠ 0
  · exact ⟨_, if_pos hs⟩
  · refine ⟨_, (if_neg hs).trans (if_neg ?_)⟩
    have e : (s.wr (Obj.dynamicAddress m) (0x30 + m % 2)).rd (Obj.i3cStaticAddress (busMate m)) = s.rd (Obj.i3cStaticAddress (busMate m)) :=
      s.rd_wr_other _ (by simp only [Obj.i3cStaticAddress, Obj.dynamicAddress, Reg.at_key]; omega)
    simp [Dev.needsEntdaa, e, h]

theorem busMate_ne (n : Nat) : busMate n ≠ n := by
  unfold busMate
  split <;> omega

theorem busMate_busMate (n : Nat) : busMate (busMate n) = n := by
  unfold busMate
  split <;> split <;> omega

/-- An ambiguous port with a static address, addressed. -/
def Dev.ambiguousAddressed (s : Dev) (n v : Nat) : Dev :=
  (((s.wr (Obj.i3cStaticAddress n) v).setBit (Obj.streamState n) 10 false).addressSensor n).setBit (Obj.streamState (busMate n)) 10 false

/-- Its mate, addressed after it where it needs ENTDAA. -/
def Dev.bothAddressed (s : Dev) (n v : Nat) : Dev :=
  let t := s.ambiguousAddressed n v
  if t.needsEntdaa (busMate n) then t.addressSensor (busMate n) else t

theorem Dev.staticAddressWrite_ambiguous (h : s.bit (Obj.streamState n) 10 = true) (hv : v ≠ 0) :
    s.staticAddressWrite q n v = (s.bothAddressed n v).accept q := by
  refine if_pos ⟨?_, hv⟩
  rw [Dev.bit_eq _ s _ 10 (s.rd_wr_other _ (by simp only [Obj.i3cStaticAddress, Obj.streamState, Reg.at_key]; omega))]
  exact h

/-- Addressed by its static address, the port is no longer ambiguous. -/
theorem Dev.ambiguousAddressed_shows (hv : v ≠ 0) (hb : v < 2 ^ 8) :
    let t := s.ambiguousAddressed n v
    t.rd (Obj.i3cStaticAddress n) = v ∧ t.bit (Obj.streamState n) 10 = false ∧ .i3c n 1 v (leBytes 1 (0x30 + n % 2)) ∈ t.out := by
  have ne : ∀ k, (Obj.i3cStaticAddress n).key ≠ (Obj.streamState k).key := fun k => by
    simp only [Obj.i3cStaticAddress, Obj.streamState, Reg.at_key]; omega
  have ed : (Obj.i3cStaticAddress n).key ≠ (Obj.dynamicAddress n).key := by simp only [Obj.i3cStaticAddress, Obj.dynamicAddress, Reg.at_key]; omega
  have sd : (Obj.streamState n).key ≠ (Obj.dynamicAddress n).key := by simp only [Obj.streamState, Obj.dynamicAddress, Reg.at_key]; omega
  have mate : (Obj.streamState n).key ≠ (Obj.streamState (busMate n)).key := by
    have := busMate_ne n
    simp only [Obj.streamState, Reg.at_key]; omega
  have hu : ((s.wr (Obj.i3cStaticAddress n) v).setBit (Obj.streamState n) 10 false).rd (Obj.i3cStaticAddress n) = v := by
    rw [Dev.rd_setBit_other _ _ _ (ne n), Dev.rd_wr_same]
    exact Nat.mod_eq_of_lt hb
  intro t
  have ht : t = ((((((s.wr (Obj.i3cStaticAddress n) v).setBit (Obj.streamState n) 10 false).wr (Obj.dynamicAddress n) (0x30 + n % 2)).emit
      (.i3c n 1 v (leBytes 1 (0x30 + n % 2)))).i3cBegin n).setBit (Obj.streamState (busMate n)) 10 false) := by
    show (Dev.addressSensor _ n).setBit _ _ _ = _
    rw [Dev.addressSensor_static _ n (by rw [hu]; exact hv), hu]
  rw [ht]
  refine ⟨?_, ?_, ?_⟩
  · rw [Dev.rd_setBit_other _ _ _ (ne _), Dev.i3cBegin, Dev.rd_updStr, Dev.rd_emit, Dev.rd_wr_other _ _ ed, hu]
  · rw [Dev.bit_eq _ _ _ 10 (Dev.rd_setBit_other _ _ _ mate), Dev.i3cBegin, Dev.bit_updStr, Dev.bit_eq _ _ _ 10 (Dev.rd_emit _ _ _),
      Dev.bit_eq _ _ _ 10 (Dev.rd_wr_other _ _ sd)]
    exact Dev.bit_setBit_same _ _ _ (show 10 < 32 by omega)
  · simp [Dev.i3cBegin, Dev.updStr]

theorem Dev.bothAddressed_shows (hv : v ≠ 0) (hb : v < 2 ^ 8) :
    let t := s.bothAddressed n v
    t.rd (Obj.i3cStaticAddress n) = v ∧ t.bit (Obj.streamState n) 10 = false ∧ .i3c n 1 v (leBytes 1 (0x30 + n % 2)) ∈ t.out := by
  obtain ⟨hr, hbit, ho⟩ := s.ambiguousAddressed_shows n v hv hb
  intro t
  by_cases hm : (s.ambiguousAddressed n v).needsEntdaa (busMate n) = true
  · obtain ⟨o, e⟩ := (s.ambiguousAddressed n v).addressSensor_sole (busMate n) (by rw [busMate_busMate, hr]; exact hv)
    have ht : t = _ := (if_pos hm).trans e
    rw [ht, Dev.i3cBegin]
    have ed : (Obj.i3cStaticAddress n).key ≠ (Obj.dynamicAddress (busMate n)).key := by
      simp only [Obj.i3cStaticAddress, Obj.dynamicAddress, Reg.at_key]; omega
    have sd : (Obj.streamState n).key ≠ (Obj.dynamicAddress (busMate n)).key := by simp only [Obj.streamState, Obj.dynamicAddress, Reg.at_key]; omega
    refine ⟨?_, ?_, ?_⟩
    · rw [Dev.rd_updStr, Dev.rd_emit, Dev.rd_wr_other _ _ ed, hr]
    · rw [Dev.bit_updStr, Dev.bit_eq _ _ _ 10 (Dev.rd_emit _ _ _), Dev.bit_eq _ _ _ 10 (Dev.rd_wr_other _ _ sd), hbit]
    · exact List.mem_append_left _ ho
  · have ht : t = s.ambiguousAddressed n v := if_neg hm
    rw [ht]
    exact ⟨hr, hbit, ho⟩

end

/-! ### HotListClear (R138) -/

section
variable (s : Dev) (q : Requester) (n : Nat)

/-- The hot list replaced, and its count with it. -/
def Dev.hotSet (s : Dev) (n : Nat) (g : List HotEntry → List HotEntry) : Dev := (s.updStr n (fun x => { x with hot := g x.hot })).hotCounted n

theorem Dev.hotClear_auto : s.hotClear q n 1 = (s.hotSet n (fun l => l.filter (fun e => !e.auto))).accept q := rfl

theorem Dev.hotClear_all : s.hotClear q n 2 = (s.hotSet n (fun _ => [])).accept q := rfl

theorem Dev.hot_hotSet (g : List HotEntry → List HotEntry) : ((s.hotSet n g).str n).hot = g (s.str n).hot := by
  rw [Dev.hotSet, Dev.str_hotCounted, Dev.str_updStr]

theorem Dev.rd_hotSet_hotListCount (g : List HotEntry → List HotEntry) : (s.hotSet n g).rd (Obj.hotListCount n) = (g (s.str n).hot).length % 2 ^ 16 := by
  rw [Dev.hotSet, Dev.rd_hotCounted_same, Dev.str_updStr]

theorem Dev.regsKept_hotSet (g : List HotEntry → List HotEntry) : s.regsKept (s.hotSet n g) [(Obj.hotListCount n).key] :=
  ((Dev.regsKept.refl s _).updStr n _).hotCounted (by simp)

theorem hotListCount_ne_transport : (Obj.hotListCount n).key / 256 ≠ 0x1110 := by simp only [Obj.hotListCount, Reg.at_key]; omega

end

/-- Settles O29: the window's end is a fold over its candidates, the clears and the written registers read back, and an ambiguous port with a static
address is addressed before its mate. -/
theorem inletSettings : Obligations.InletSettings := by
  unfold Obligations.InletSettings
  intro s q n
  simp only [exec, execHotWindowEnd, execHotListClearAuto, execHotListClearAll, execProfileVersionWrite, execI3cStaticAddressWrite]
  refine ⟨fun hu hw => nextHas_runIn hu ?_, fun hh => nextHas_asked hh ?_, fun hh => nextHas_asked hh ?_,
    fun p v hh => ⟨fun hp => nextHas_asked hh ?_, fun hp => nextHas_asked hh ?_⟩,
    fun v hh => ⟨fun hp => nextHas_asked hh ?_, fun ha hv => nextHas_asked hh ?_⟩⟩
  · rw [s.dev.fresh.hotRoll_of_left n hw]
    refine ⟨?_, ?_, s.dev.fresh.hot_hotClose n, fun he => ?_, (s.dev.regsKept_fresh _).hotClose (by simp) (by simp [stCtr]), s.sameRest_dev _⟩
    · rw [Dev.hotClose_eq, Dev.str_updStr]
    · rw [Dev.hotClose_eq, Dev.str_updStr]
      rfl
    · rw [Dev.hotClose_of_not_enabled (s := s.dev.fresh) (h := he), Dev.str_updStr, Dev.str_fresh]
  · rw [Dev.hotClear_auto]
    refine ⟨Dev.told_accept _ q, ?_, ?_, (s.dev.fresh.regsKept_hotSet n _).accept q, s.sameRest_dev _⟩
    · rw [Dev.str_accept, Dev.hot_hotSet, Dev.str_fresh]
    · rw [Dev.rd_accept _ q (hotListCount_ne_transport n), Dev.str_accept, Dev.hot_hotSet, Dev.rd_hotSet_hotListCount]
  · rw [Dev.hotClear_all]
    refine ⟨Dev.told_accept _ q, ?_, ?_, (s.dev.fresh.regsKept_hotSet n _).accept q, s.sameRest_dev _⟩
    · rw [Dev.str_accept, Dev.hot_hotSet]
    · rw [Dev.rd_accept _ q (hotListCount_ne_transport n), Dev.rd_hotSet_hotListCount]
      rfl
  · rw [Dev.profileVersionWrite_used (s := s.dev.fresh) q _ hp]
    exact ⟨Dev.told_refuse _ q _, (s.dev.regsKept_fresh _).refuse q _, s.sameRest_dev _⟩
  · have hst := s.dev.fresh.rd_profileVersionWrite_state q v.toNat hp p.isLt
    refine ⟨Dev.told_profileVersionWrite _ q _ hp, Dev.rd_profileVersionWrite_version _ q hp v.isLt p.isLt, fun h0 => ?_, fun h0 h => ?_, fun h => ?_,
      s.sameRest_dev _⟩
    · rw [hst, h0, Dev.profileCheck_zero]
    · rw [hst, Dev.profileCheck_refused _ _ h0 h]
    · rw [hst, h]
      rfl
  · rw [Dev.staticAddressWrite_plain (s := s.dev.fresh) (h := hp)]
    refine ⟨Dev.told_accept _ q, ?_, ((s.dev.regsKept_fresh _).wr _ (by simp)).accept q, s.sameRest_dev _⟩
    rw [Dev.rd_accept _ q (by simp only [Obj.i3cStaticAddress, Reg.at_key]; omega), Dev.rd_wr_same]
    exact Nat.mod_eq_of_lt v.isLt
  · obtain ⟨hr, hb, ho⟩ := s.dev.fresh.bothAddressed_shows n v.toNat hv v.isLt
    rw [Dev.staticAddressWrite_ambiguous (s := s.dev.fresh) (h := ha) (hv := hv)]
    refine ⟨Dev.told_accept _ q, ?_, ?_, Dev.mem_out_accept ho q, s.sameRest_dev _⟩
    · rw [Dev.rd_accept _ q (by simp only [Obj.i3cStaticAddress, Reg.at_key]; omega), hr]
    · rw [Dev.bit_accept _ q _ (streamState_ne_transport n), hb]

end Sys2Proof.Machine
end

section
/-! Sensors (R124 to R131): activity at a port, the identity read, a transfer without an answer, and Confirm. -/

namespace Sys2Proof.Machine

open Sys2Proof

/-! ### FAULT (R129) -/

section
variable (s : Dev) (n : Nat)

/-- The device as a stream has left what FAULT ends, before its state shows it. -/
def Dev.faultEntered (s : Dev) (n : Nat) : Dev := (s.leaveDraining n).hotSet n (fun l => l.filter (fun e => !e.auto))

theorem Dev.streamFault_eq (err : Nat) : s.streamFault n err = ((s.faultEntered n).setSt n 7).stError n err := rfl

theorem Dev.stState_streamFault (err : Nat) : (s.streamFault n err).stState n = 7 := by
  rw [s.streamFault_eq, Dev.stError, Dev.stState_setF _ _ _ (by omega), Dev.stState_setSt _ _ (by omega)]

theorem Dev.lastError_streamFault {err : Nat} (h : err < 256) : (s.streamFault n err).getF (Obj.streamState n) 24 8 = err := by
  rw [s.streamFault_eq, Dev.stError, Dev.getF_setF_same _ _ _ (show 24 + 8 ≤ 32 by omega)]
  exact Nat.mod_eq_of_lt h

/-! ### Activity (R129) -/

/-- The device with activity at port `n` noted. -/
def Dev.active (s : Dev) (n : Nat) : Dev := s.updStr n (fun x => { x with activeF := s.rf })

theorem Dev.linkActivity_standing (source : List Byte) (nack : Option Nat) (h : s.stState n ≠ 0) : s.linkActivity n source nack = s.active n := if_neg h

/-- Activity at an EMPTY port of a sensor on I3C: the port enters IDENTIFY. -/
def Dev.awoken (s : Dev) (n : Nat) : Dev := (((s.active n).bump (stCtr n 0x13)).identifyBegun n).addressSensor n

theorem Dev.regsKept_awoken : s.regsKept (s.awoken n)
    [(stCtr n 0x13).key, (Obj.streamState n).key, (Obj.dynamicAddress n).key, (Obj.streamState (busMate n)).key] :=
  ((((Dev.regsKept.refl s _).updStr n _).bump (r := stCtr n 0x13) (by simp)).identifyBegun (by simp)).addressSensor (by simp) (by simp) (by simp)

theorem Dev.linkActivity_empty (source : List Byte) (nack : Option Nat) (h : s.stState n = 0) (hs : s.rd (Obj.streamSource n) ≠ 1) :
    s.linkActivity n source nack = s.awoken n := by
  have e : ((s.active n).bump (stCtr n 0x13)).enterIdentify n = s.awoken n :=
    Dev.enterIdentify_i3c _ n (by
      rw [Dev.rd_bump_other _ (by simp only [Obj.streamSource, stCtr, Obj.streamCounter, Reg.at_key]; omega)]
      exact hs)
  have hk : (s.awoken n).rd (Obj.streamSource n) = s.rd (Obj.streamSource n) := s.regsKept_awoken n _ (by
    simp only [Obj.streamSource, stCtr, Obj.streamCounter, Obj.streamState, Obj.dynamicAddress, Reg.at_key, List.mem_cons, List.not_mem_nil, or_false]
    omega)
  refine (if_pos h).trans ((if_neg ?_).trans e)
  intro (h1 : (((s.active n).bump (stCtr n 0x13)).enterIdentify n).rd (Obj.streamSource n) = 1)
  rw [e, hk] at h1
  exact hs h1

theorem Dev.stState_awoken : (s.awoken n).stState n = 1 := by rw [Dev.awoken, Dev.stState_addressSensor, Dev.stState_identifyBegun]

theorem Dev.profileOf_awoken : (s.awoken n).profileOf n = 0xFF := by rw [Dev.awoken, Dev.profileOf_addressSensor, Dev.profileOf_identifyBegun]

theorem Dev.rd_awoken_identifications : (s.awoken n).rd (stCtr n 0x13) = (s.rd (stCtr n 0x13) + 1) % 2 ^ 64 := by
  have hb : (((s.active n).bump (stCtr n 0x13)).rd (stCtr n 0x13)) = (s.rd (stCtr n 0x13) + 1) % 2 ^ 64 := Dev.rd_bump_same _ _
  rw [← hb]
  exact (((Dev.regsKept.refl ((s.active n).bump (stCtr n 0x13))
    [(Obj.streamState n).key, (Obj.dynamicAddress n).key, (Obj.streamState (busMate n)).key]).identifyBegun (by simp)).addressSensor
    (by simp) (by simp) (by simp)) _ (by
      simp only [stCtr, Obj.streamCounter, Obj.streamState, Obj.dynamicAddress, Reg.at_key, List.mem_cons, List.not_mem_nil, or_false]; omega)

/-! ### The identity read (R126 to R129) -/

theorem Dev.identityRead_eq (pid : List Byte) (bcr dcr : Byte) (serial : List Byte) (nack : Option Nat) (h1 : s.stState n = 1)
    (hs : s.rd (Obj.streamSource n) = 0) (ho : (s.str n).i3cOut = true) (hm : s.rd (Obj.i3cStaticAddress n) ≠ 0 ∨ s.stState (busMate n) ≠ 1) :
    s.identityRead n pid bcr dcr serial nack =
      (s.updStr n (fun x => { x with identity := s.identityBytes (s.matchProfile n (some pid)) pid bcr dcr serial })).identified n
        (s.matchProfile n (some pid)) (s.identityBytes (s.matchProfile n (some pid)) pid bcr dcr serial) nack :=
  (if_pos ⟨h1, hs, ho⟩).trans (if_neg (by rintro ⟨h, h'⟩; exact hm.elim (· h) (· h')))

/-- A slot that matches is one of the sixteen. -/
theorem Dev.matchProfile_lt {s : Dev} {n : Nat} {pid : Option (List Byte)} {p : Nat} (h : s.matchProfile n pid = some p) : p < 16 := by
  unfold Dev.matchProfile at h
  dsimp only at h
  split at h
  · split at h
    · cases h
      assumption
    · cases h
  · split at h
    · exact List.mem_range.1 (List.mem_of_find?_eq_some h)
    · cases h

theorem Dev.blob_idShown (id : List Byte) : (s.idShown n id).blob (Obj.seenIdentity n) = id := Dev.blob_setBlob_same _ _ _

theorem Dev.i3cOut_idShown (id : List Byte) : ((s.idShown n id).str n).i3cOut = false := by
  rw [Dev.idShown, Dev.str_setBlob, Dev.str_setBit, Dev.str_updStr]

/-- Identification shows the identity and ends the transfer, whatever the slot. -/
theorem Dev.identified_shows (slot : Option Nat) (id : List Byte) :
    (s.identified n slot id none).blob (Obj.seenIdentity n) = id ∧ ((s.identified n slot id none).str n).i3cOut = false := by
  cases slot with
  | none => exact ⟨s.blob_idShown n id, s.i3cOut_idShown n id⟩
  | some p =>
    by_cases h : s.blob (Obj.expectedIdentity n) = id
    · obtain ⟨t, ho, e⟩ := s.identified_known n id p h
      rw [e, Dev.blob_setSt, ho.blob, Dev.str_setSt, ho.str]
      exact ⟨s.blob_idShown n id, s.i3cOut_idShown n id⟩
    · rw [s.identified_unknown n id p none h, Dev.blob_sedCount, Dev.blob_bump, Dev.blob_setSt, Dev.str_sedCount, Dev.str_bump, Dev.str_setSt]
      exact ⟨s.blob_idShown n id, s.i3cOut_idShown n id⟩

theorem Dev.identified_state {p : Nat} (hp : p < 256) (id : List Byte) :
    (s.identified n (some p) id none).profileOf n = p ∧
      (s.identified n (some p) id none).stState n = if s.blob (Obj.expectedIdentity n) = id then 4 else 2 := by
  by_cases h : s.blob (Obj.expectedIdentity n) = id
  · obtain ⟨t, ho, e⟩ := s.identified_known n id p h
    rw [e, if_pos h, Dev.profileOf_setSt, ho.profileOf, Dev.profileOf_setF _ _ hp, Dev.stState_setSt _ _ (by omega)]
    exact ⟨rfl, rfl⟩
  · rw [s.identified_unknown n id p none h, if_neg h]
    have ne : (Obj.streamState n).key ≠ (stCtr n 0x14).key := by simp only [stCtr, Obj.streamState, Obj.streamCounter, Reg.at_key]; omega
    rw [Dev.profileOf_sedCount, Dev.profileOf_bump _ _ ne, Dev.profileOf_setSt, Dev.profileOf_setF _ _ hp, Dev.stState_sedCount, Dev.stState_bump _ _ ne,
      Dev.stState_setSt _ _ (by omega)]
    exact ⟨rfl, rfl⟩

/-! ### Confirm (R128, R131) -/

variable (q : Requester)

theorem Dev.confirmCommand_stranger (nack : Option Nat) (h : s.isCustodian q = false) : s.confirmCommand q n nack = s.refuse q .rights := if_pos (by simp [h])

theorem Dev.confirmCommand_elsewhere (nack : Option Nat) (h : s.isCustodian q = true) (h2 : s.stState n ≠ 2) : s.confirmCommand q n nack = s.refuse q .state :=
  (if_neg (by simp [h])).trans (if_pos h2)

theorem Dev.confirmCommand_eq (nack : Option Nat) (h : s.isCustodian q = true) (h2 : s.stState n = 2) : s.confirmCommand q n nack =
    let u := s.setBlob (Obj.expectedIdentity n) (s.blob (Obj.seenIdentity n))
    let r := u.runSequence n (u.blob (Obj.initSequence (u.profileOf n))) nack
    (if r.2 then r.1.setSt n 4 else r.1).accept q := (if_neg (by simp [h])).trans (if_neg (by simp [h2]))

/-- A Confirm of a QUARANTINED sensor whose sequence is acknowledged. -/
theorem Dev.confirmCommand_accepted (h : s.isCustodian q = true) (h2 : s.stState n = 2) :
    ∃ t, (s.setBlob (Obj.expectedIdentity n) (s.blob (Obj.seenIdentity n))).i3cOnly t ∧ s.confirmCommand q n none = (t.setSt n 4).accept q := by
  rw [s.confirmCommand_eq n q none h h2]
  generalize s.setBlob (Obj.expectedIdentity n) (s.blob (Obj.seenIdentity n)) = u
  obtain ⟨t, ht, ho⟩ := u.runSequence_none n (u.blob (Obj.initSequence (u.profileOf n)))
  exact ⟨t, ho, by simp only [ht, if_true]⟩

/-! ### A transfer without an answer (R129) -/

theorem Dev.i3cTimeout_due (h1 : s.stState n = 1) (ho : (s.str n).i3cOut = true) (hf : (s.str n).i3cF + 10000000 ≤ s.rf) :
    s.i3cTimeout n = (s.updStr n (fun x => { x with i3cOut := false })).streamFault n 6 := (if_pos h1).trans (if_pos ⟨ho, by omega⟩)

end

/-- Settles O26: IDENTIFY begins by addressing the sensor, an identity read shows the identity and takes the slot's state, a transfer without an answer is FAULT,
and Confirm takes the identity seen for the expected one. -/
theorem sensorsAreIdentified : Obligations.SensorsAreIdentified := by
  unfold Obligations.SensorsAreIdentified
  intro s n
  simp only [exec, execLinkActivity, execIdentityRead, execI3cTimeout, execI3cInterrupt, execHotJoin, execConfirm]
  refine ⟨fun source hu => ⟨fun h0 hs => nextHas_runIn hu ?_, fun h0 => nextHas_runIn hu ?_⟩,
    fun pid bcr dcr serial hu hl h1 hs ho hm => nextHas_runIn hu ?_, fun hu hl h1 ho hf => nextHas_runIn hu ?_, fun hu hl => nextHas_runIn hu ?_,
    fun hu hl => nextHas_runIn hu ?_, fun q hh => ⟨fun hc => nextHas_asked hh ?_, fun hc h2 => nextHas_asked hh ?_, fun hc h2 => nextHas_asked hh ?_⟩⟩
  · rw [s.dev.fresh.linkActivity_empty n _ none h0 (by rw [Dev.rd_fresh, hs]; omega)]
    exact ⟨Dev.stState_awoken _ _, Dev.profileOf_awoken _ _, Dev.rd_addressSensor_dynamicAddress _ _, Dev.rd_awoken_identifications _ _, s.sameRest_dev _⟩
  · rw [s.dev.fresh.linkActivity_standing n _ none h0]
    exact ⟨by rw [Dev.active, Dev.str_updStr, Dev.rf_fresh], (s.dev.regsKept_fresh _).updStr _ _, s.sameRest_dev _⟩
  · have hl' : s.dev.fresh.i3cLatched = false := hl
    rw [hl', if_neg Bool.false_ne_true, s.dev.fresh.identityRead_eq n pid bcr dcr serial none h1 hs ho hm]
    obtain ⟨hb, hout⟩ := Dev.identified_shows (s.dev.fresh.updStr n (fun x =>
      { x with identity := s.dev.fresh.identityBytes (s.dev.fresh.matchProfile n (some pid)) pid bcr dcr serial })) n
      (s.dev.fresh.matchProfile n (some pid)) (s.dev.fresh.identityBytes (s.dev.fresh.matchProfile n (some pid)) pid bcr dcr serial)
    refine ⟨hb, hout, fun hn => ?_, fun p hp => ?_, ((s.dev.regsKept_fresh _).updStr _ _).trans (Dev.regsKept_identified _ _ _ _), s.sameRest_dev _⟩
    · have hn' : s.dev.fresh.matchProfile n (some pid) = none := hn
      rw [hn', Dev.identified_unmatched]
      exact Dev.stState_setSt _ _ (by omega)
    · have hp' : s.dev.fresh.matchProfile n (some pid) = some p := hp
      rw [hp', hp]
      exact Dev.identified_state _ _ (lt_trans (Dev.matchProfile_lt hp) (by omega)) _
  · have hl' : s.dev.fresh.i3cLatched = false := hl
    rw [hl', if_neg Bool.false_ne_true, s.dev.fresh.i3cTimeout_due n h1 ho hf]
    exact ⟨Dev.stState_streamFault _ _ _, Dev.lastError_streamFault _ _ (by omega), s.sameRest_dev _⟩
  · have hl' : s.dev.fresh.i3cLatched = false := hl
    rw [hl', if_neg Bool.false_ne_true]
    exact ⟨Dev.rd_bump_same _ _, rfl, ((s.dev.regsKept_fresh _).emit _).bump (by simp [stCtr]), s.sameRest_dev _⟩
  · have hl' : s.dev.fresh.i3cLatched = false := hl
    rw [hl', if_neg Bool.false_ne_true]
    exact ⟨rfl, s.sameRest_dev _⟩
  · rw [Dev.streamCommand, s.dev.fresh.confirmCommand_stranger n q none hc]
    exact ⟨Dev.told_refuse _ q _, (s.dev.regsKept_fresh _).refuse q _, s.sameRest_dev _⟩
  · rw [Dev.streamCommand, s.dev.fresh.confirmCommand_elsewhere n q none hc h2]
    exact ⟨Dev.told_refuse _ q _, (s.dev.regsKept_fresh _).refuse q _, s.sameRest_dev _⟩
  · obtain ⟨t, ho, e⟩ := s.dev.fresh.confirmCommand_accepted n q hc h2
    rw [Dev.streamCommand, e]
    refine ⟨Dev.told_accept _ q, ?_, ?_, (((s.dev.regsKept_fresh _).of_dict ho.dict).setSt 4 (by simp)).accept q, s.sameRest_dev _⟩
    · rw [Dev.stState_accept, Dev.stState_setSt _ _ (by omega)]
    · rw [Dev.blob_accept, Dev.blob_setSt, ho.blob, Dev.blob_setBlob_same, Dev.blob_fresh]

end Sys2Proof.Machine
end

section
/-! Streams (R129, R130, R138, R147, R152): what a start takes, the queue with room, and what ends a stream. -/

namespace Sys2Proof.Machine

open Sys2Proof

/-! ### A word enters the queue (R149) -/

section
variable (s : Dev) (n w : Nat)

/-- The record of a front end with a word at its queue's end. -/
def Stream.queued (x : Stream) (rf w : Nat) : Stream := { x with queue := x.queue ++ [w], headF := if x.queue.isEmpty then rf else x.headF }

@[simp] theorem Stream.queue_queued (x : Stream) (rf : Nat) : (x.queued rf w).queue = x.queue ++ [w] := rfl

@[simp] theorem Stream.ring_queued (x : Stream) (rf : Nat) : (x.queued rf w).ring = x.ring := rfl

@[simp] theorem Stream.lost_queued (x : Stream) (rf : Nat) : (x.queued rf w).lost = x.lost := rfl

theorem Dev.pushWord_room (hr : (s.str n).ring = []) (hq : (s.str n).queue.length < queueWords) :
    s.pushWord n w = s.updStr n (fun x => x.queued s.rf w) := if_pos (by simp [hr, hq])

/-- A register that no detection of a plan fault and no refused access to a region touches (R327, R551). -/
def Reg.unfaulted (r : Reg) : Prop := r.key / 256 ≠ 0x6085 ∧ (r.key / 256 < 0x8010 ∨ 0x8016 ≤ r.key / 256)

theorem Reg.unfaulted.ne_faultCtr {r : Reg} (h : r.unfaulted) {q k : Nat} (hq : q < 6) (hk : k < 255) : r.key ≠ (faultCtr q k).key := by
  obtain ⟨-, h⟩ := h
  simp only [faultCtr, Obj.faultCounter, Reg.at_key]
  omega

theorem Dev.rd_detectFor_plan (e : Elem) (detail owner : Nat) {q : Nat} (h4 : 4 ≤ q) (h6 : q < 6) {r : Reg} (hr : r.unfaulted) :
    (s.detectFor q 0x20 e detail owner).rd r = s.rd r := by
  have h0 : ((s.bump (faultCtr q 0)).sedError 0x20).rd r = s.rd r := s.rd_bump_other (hr.ne_faultCtr h6 (by omega))
  simp only [Dev.detectFor, true_or, if_true]
  split
  · exact (Dev.rd_bump_other _ (hr.ne_faultCtr h6 (by omega))).trans h0
  · exact (Dev.rd_detectReport _ _ _ _ _ h4 (hr.ne_faultCtr h6 (by omega))).trans h0

theorem gddrChan_lt (a : Nat) : gddrChan a < 8 :=
  Nat.xor_lt_two_pow (n := 3) (Nat.xor_lt_two_pow (n := 3) (field_lt _ _ 3) (field_lt _ _ 3)) (field_lt _ _ 3)

theorem Dev.rd_regionRefuse_stream (t a : Nat) {r : Reg} (hr : r.unfaulted) : (s.regionRefuse t 5 n a).rd r = s.rd r := by
  have hq : 4 ≤ (Elem.master 5 n).queue ∧ (Elem.master 5 n).queue < 6 := by
    simp only [Elem.queue]
    split <;> omega
  have hg : gddrChan (a % 2 ^ 34) < 255 := lt_trans (gddrChan_lt _) (by omega)
  exact (Dev.rd_detectFor_plan _ _ _ _ hq.1 hq.2 hr).trans (s.rd_bump_other (by
    have := hr.1
    simp only [Obj.regionRefusals, Reg.at_key]
    omega))

theorem Dev.rd_ringPut {r : Reg} (hr : r.unfaulted) : (s.ringPut n w).rd r = s.rd r := by
  simp only [Dev.ringPut]
  split
  · exact Dev.rd_regionRefuse_stream _ _ _ _ hr
  · rfl

theorem Dev.rd_ringPut_streamState (h : n < 36) : (s.ringPut n w).rd (Obj.streamState n) = s.rd (Obj.streamState n) :=
  s.rd_ringPut n w ⟨by simp only [Obj.streamState, Reg.at_key]; omega, by simp only [Obj.streamState, Reg.at_key]; omega⟩

theorem Dev.stState_pushWord (h : n < 36) : (s.pushWord n w).stState n = s.stState n := by
  have ne : ∀ k, (Obj.streamState n).key ≠ (stCtr n k).key := fun k => by simp only [stCtr, Obj.streamState, Obj.streamCounter, Reg.at_key]; omega
  simp only [Dev.pushWord]
  split
  · rfl
  · split
    · rw [Dev.stState, Dev.getF_eq _ _ _ _ _ (Dev.rd_raiseTo_other _ _ (by simp only [Obj.streamState, Obj.spillPeak, Reg.at_key]; omega))]
      refine (Dev.stState_setBit _ n n true (by omega)).trans ((Dev.stState_bump _ n (ne _)).trans ?_)
      exact Dev.getF_eq _ _ _ _ _ (s.rd_ringPut_streamState n w h)
    · exact s.stState_bump n (ne _)

end

/-! ### What a start takes (R130, R160, R330) -/

section
variable (s : Dev) (n : Nat)

/-- The ring of a stream taken in GDDR6, where it has one. -/
def Dev.ringTaken (s : Dev) (n : Nat) : Dev := if s.spillNeed n = 0 then s else s.take (64 + n) ((s.spillPlace n).getD 0) (s.spillNeed n)

/-- The record of a front end as its stream starts. -/
def Stream.started (x : Stream) (place words rf : Nat) : Stream :=
  { x with flowSeq := none, lastT := none, ring := [], ringBase := place, ringWords := words, ringAt := 0, ringBad := [], gapWin := none,
           drainEmpty := false, takenF := rf, wiped := [], gyro := [], gyroSeen := none, tg := none, quat := (fone, 0, 0, 0), recent := [] }

/-- The device with what a stream holds while it runs taken, before its markers are queued. -/
def Dev.startBegun (s : Dev) (n : Nat) : Dev :=
  let t := (s.ringTaken n).mereTake n (((s.ringTaken n).mereRoom n).getD 0)
  let t := (((t.wr (Obj.spillPeak n) 0).wr (Obj.staleAgeMax n) 0).setBit (Obj.streamState n) 6 false).updClock n
    (fun m => { m with set := false, marks := [], edges := [], lastMark := none })
  (t.updStr n (fun x => x.started ((s.spillPlace n).getD 0) (t.spillNeed n / 8) t.rf)).setSt n 5

/-- The started stream with DEROT_OFF's reason in force and its two markers queued. -/
def Dev.startMarked (s : Dev) (n : Nat) : Dev :=
  ((s.derotOff n (s.startReason n)).queueMarker n 0 1 (t31 (s.portDt n))).queueMarker n (s.startReason n) 4 (t31 (s.portDt n))

theorem Dev.startStream_eq (nack : Option Nat) : s.startStream n nack =
    let r := s.runSequence n (s.blob (Obj.startSequence (s.profileOf n))) nack
    if !r.2 then r.1 else (r.1.startBegun n).startMarked n := rfl

/-- The registers that show what a stream holds in Mere lie from 0x5000 on. -/
theorem Dev.rd_mereCount {d : Nat} {r : Reg} (h : r.key < 0x500000) : (s.mereCount d).rd r = s.rd r := by
  rw [Dev.mereCount, Dev.rd_wr_other _ _ (by simp only [Obj.mereLargestFree, Reg.at_key]; omega),
    Dev.rd_wr_other _ _ (by simp only [Obj.mereBlocksFree, Reg.at_key]; omega)]

theorem Dev.rd_mereTake (b : Nat) {r : Reg} (h : r.key < 0x500000) : (s.mereTake n b).rd r = s.rd r := by
  have ne : ∀ v w : Nat, ((s.wr (Obj.mereBase n) v).wr (Obj.mereBlocks n) w).rd r = s.rd r := fun v w => by
    rw [Dev.rd_wr_other _ _ (by simp only [Obj.mereBlocks, Reg.at_key]; omega), Dev.rd_wr_other _ _ (by simp only [Obj.mereBase, Reg.at_key]; omega)]
  rw [← ne b (s.mereNeed n)]
  exact Dev.rd_mereCount _ h

theorem Dev.rd_mereFree {r : Reg} (h : r.key < 0x500000) : (s.mereFree n).rd r = s.rd r := by
  rw [Dev.mereFree, Dev.rd_mereCount _ h, Dev.rd_wr_other _ _ (by simp only [Obj.mereBlocks, Reg.at_key]; omega),
    Dev.rd_wr_other _ _ (by simp only [Obj.mereBase, Reg.at_key]; omega)]

/-- From `s` to `t` nothing changes but registers, the cells of Mere and the meters. -/
def Dev.mereOnly (s t : Dev) : Prop := ∃ D m b l, t = { s with dict := D, mere := m, mereBad := b, meters := l }

theorem Dev.mereOnly.refl : s.mereOnly s := ⟨s.dict, s.mere, s.mereBad, s.meters, rfl⟩

section
variable {s} {t : Dev} (h : s.mereOnly t)
include h

theorem Dev.mereOnly.wr (r : Reg) (v : Nat) : s.mereOnly (t.wr r v) := by
  obtain ⟨D, m, b, l, rfl⟩ := h
  exact ⟨_, m, b, l, rfl⟩

theorem Dev.mereOnly.wipeBlocks (d b n : Nat) : s.mereOnly (t.wipeBlocks d b n) := by
  obtain ⟨D, m, b, l, rfl⟩ := h
  exact ⟨D, _, _, l, rfl⟩

theorem Dev.mereOnly.meter (r : Reg) (k : Nat) : s.mereOnly (t.meter r k) := by
  obtain ⟨D, m, b, l, rfl⟩ := h
  exact ⟨D, m, b, _, rfl⟩

theorem Dev.mereOnly.mereCount (d : Nat) : s.mereOnly (t.mereCount d) := (h.wr _ _).wr _ _

theorem Dev.mereOnly.mereTake (n b : Nat) : s.mereOnly (t.mereTake n b) := ((((h.wr _ _).wr _ _).wipeBlocks _ _ _).mereCount _).meter _ _

theorem Dev.mereOnly.mereFree (n : Nat) : s.mereOnly (t.mereFree n) := ((h.wr _ _).wr _ _).mereCount _

theorem Dev.mereOnly.str (n : Nat) : t.str n = s.str n := by
  obtain ⟨D, m, b, l, rfl⟩ := h
  rfl

theorem Dev.mereOnly.clock (n : Nat) : t.clock n = s.clock n := by
  obtain ⟨D, m, b, l, rfl⟩ := h
  rfl

theorem Dev.mereOnly.allocs : t.allocs = s.allocs := by
  obtain ⟨D, m, b, l, rfl⟩ := h
  rfl

theorem Dev.mereOnly.localF (d : Nat) : t.localF d = s.localF d := by
  obtain ⟨D, m, b, l, rfl⟩ := h
  rfl

end

@[simp] theorem Dev.rd_ringTaken (r : Reg) : (s.ringTaken n).rd r = s.rd r := by
  unfold Dev.ringTaken
  split <;> rfl

@[simp] theorem Dev.str_ringTaken (m : Nat) : (s.ringTaken n).str m = s.str m := by
  unfold Dev.ringTaken
  split <;> rfl

@[simp] theorem Dev.clock_ringTaken (m : Nat) : (s.ringTaken n).clock m = s.clock m := by
  unfold Dev.ringTaken
  split <;> rfl

@[simp] theorem Dev.localF_ringTaken (d : Nat) : (s.ringTaken n).localF d = s.localF d := by
  unfold Dev.ringTaken
  split <;> rfl

theorem Dev.rd_startBegun {r : Reg} (h : r.key < 0x500000) (hp : r.key ≠ (Obj.spillPeak n).key) (ha : r.key ≠ (Obj.staleAgeMax n).key)
    (hs : r.key ≠ (Obj.streamState n).key) : (s.startBegun n).rd r = s.rd r := by
  simp only [Dev.startBegun, Dev.setSt]
  rw [Dev.rd_setF_other _ _ _ _ hs, Dev.rd_updStr, Dev.rd_updClock, Dev.rd_setBit_other _ _ _ hs, Dev.rd_wr_other _ _ ha, Dev.rd_wr_other _ _ hp,
    Dev.rd_mereTake _ _ _ h, Dev.rd_ringTaken]

theorem Dev.stState_startBegun : (s.startBegun n).stState n = 5 := Dev.stState_setSt _ n (by omega)

theorem Dev.desired_startBegun (h : n < 36) : (s.startBegun n).bit (Obj.streamState n) 11 = s.bit (Obj.streamState n) 11 := by
  simp only [Dev.startBegun, Dev.setSt]
  rw [Dev.bit_setF_other _ _ _ (.inr (by omega)) (show 11 < 32 by omega), Dev.bit_updStr, Dev.bit_eq _ _ _ 11 (Dev.rd_updClock ..),
    Dev.bit_setBit_other _ _ _ (by omega) (show 11 < 32 by omega),
    Dev.bit_wr_other _ _ _ (by simp only [Obj.streamState, Obj.staleAgeMax, Reg.at_key]; omega),
    Dev.bit_wr_other _ _ _ (by simp only [Obj.streamState, Obj.spillPeak, Reg.at_key]; omega),
    Dev.bit_eq _ _ _ 11 (Dev.rd_mereTake _ _ _ (by simp only [Obj.streamState, Reg.at_key]; omega)), Dev.bit_eq _ _ _ 11 (Dev.rd_ringTaken ..)]

@[simp] theorem Dev.str_updClock (k m : Nat) (f : ClockMap → ClockMap) : (s.updClock k f).str m = s.str m := rfl

@[simp] theorem Dev.clock_updStr (k m : Nat) (f : Stream → Stream) : (s.updStr k f).clock m = s.clock m := rfl

@[simp] theorem Dev.clock_wr (m : Nat) (r : Reg) (v : Nat) : (s.wr r v).clock m = s.clock m := rfl

@[simp] theorem Dev.clock_setSt (k m v : Nat) : (s.setSt k v).clock m = s.clock m := rfl

theorem Dev.str_startBegun : ∃ place words rf, (s.startBegun n).str n = (s.str n).started place words rf := by
  rw [Dev.startBegun, Dev.str_setSt, Dev.str_updStr, Dev.str_updClock, Dev.str_setBit, Dev.str_wr, Dev.str_wr, ((Dev.mereOnly.refl _).mereTake n _).str,
    Dev.str_ringTaken]
  exact ⟨_, _, _, rfl⟩

theorem Dev.pairF_startBegun : ((s.startBegun n).clock n).pairF = (s.clock n).pairF := by
  rw [Dev.startBegun, Dev.clock_setSt, Dev.clock_updStr, Dev.clock_updClock, Dev.clock_setBit, Dev.clock_wr, Dev.clock_wr,
    ((Dev.mereOnly.refl _).mereTake n _).clock, Dev.clock_ringTaken]

@[simp] theorem Dev.localF_wr (d : Nat) (r : Reg) (v : Nat) : (s.wr r v).localF d = s.localF d := rfl

@[simp] theorem Dev.localF_setF (d : Nat) (r : Reg) (lo w v : Nat) : (s.setF r lo w v).localF d = s.localF d := rfl

@[simp] theorem Dev.localF_setBit (d : Nat) (r : Reg) (i : Nat) (b : Bool) : (s.setBit r i b).localF d = s.localF d := rfl

@[simp] theorem Dev.localF_updStr (d k : Nat) (f : Stream → Stream) : (s.updStr k f).localF d = s.localF d := rfl

@[simp] theorem Dev.localF_updClock (d k : Nat) (f : ClockMap → ClockMap) : (s.updClock k f).localF d = s.localF d := rfl

theorem Dev.localF_startBegun (d : Nat) : (s.startBegun n).localF d = s.localF d := by
  rw [Dev.startBegun, Dev.setSt, Dev.localF_setF, Dev.localF_updStr, Dev.localF_updClock, Dev.localF_setBit, Dev.localF_wr, Dev.localF_wr,
    ((Dev.mereOnly.refl _).mereTake n _).localF, Dev.localF_ringTaken]

theorem Dev.portDt_startBegun (k : Nat) : (s.startBegun n).portDt k = s.portDt k := by
  have ho : (s.startBegun n).rd Obj.timeOffset = s.rd Obj.timeOffset := s.rd_startBegun n (by decide)
    (by simp only [Obj.timeOffset, Obj.spillPeak, Reg.at_key]; omega) (by simp only [Obj.timeOffset, Obj.staleAgeMax, Reg.at_key]; omega)
    (by simp only [Obj.timeOffset, Obj.streamState, Reg.at_key]; omega)
  have hr : (s.startBegun n).rd Obj.rateAdjust = s.rd Obj.rateAdjust := s.rd_startBegun n (by decide)
    (by simp only [Obj.rateAdjust, Obj.spillPeak, Reg.at_key]; omega) (by simp only [Obj.rateAdjust, Obj.staleAgeMax, Reg.at_key]; omega)
    (by simp only [Obj.rateAdjust, Obj.streamState, Reg.at_key]; omega)
  simp only [Dev.portDt, Dev.dtAt, Dev.rdI, ho, hr, s.localF_startBegun n]

theorem Dev.startReason_startBegun (h : n < 36) : (s.startBegun n).startReason n = s.startReason n := by
  have e : ∀ r : Reg, r.key / 256 = 0x4006 + 16 * n → (s.startBegun n).rd r = s.rd r := fun r hr =>
    s.rd_startBegun n (by omega) (by simp only [Obj.spillPeak, Reg.at_key]; omega) (by simp only [Obj.staleAgeMax, Reg.at_key]; omega)
      (by simp only [Obj.streamState, Reg.at_key]; omega)
  have hfx := e (Obj.fx n) (by simp only [Obj.fx, Reg.at_key]; omega)
  have hfy := e (Obj.fy n) (by simp only [Obj.fy, Reg.at_key]; omega)
  have hgy := e (Obj.gyroChannel n) (by simp only [Obj.gyroChannel, Reg.at_key]; omega)
  have hde := e (Obj.derotEnable n) (by simp only [Obj.derotEnable, Reg.at_key]; omega)
  simp only [Dev.startReason, hfx, hfy, hgy, hde]

/-! ### A start in READY (R129, R130, R147) -/

theorem Dev.startStream_none : ∃ u, s.i3cOnly u ∧ s.startStream n none = (u.startBegun n).startMarked n := by
  obtain ⟨u, hu, ho⟩ := s.runSequence_none n (s.blob (Obj.startSequence (s.profileOf n)))
  refine ⟨u, ho, ?_⟩
  rw [s.startStream_eq, hu]
  exact if_neg Bool.false_ne_true

theorem Dev.str_derotOff (reason : Nat) : (s.derotOff n reason).str n = { s.str n with derotOff := reason, onMark := false } := by
  rw [Dev.derotOff, Dev.str_setBit, Dev.str_setBit, Dev.str_updStr]

theorem Dev.queue_derotOff (reason : Nat) : ((s.derotOff n reason).str n).queue = (s.str n).queue := by rw [Dev.str_derotOff]

theorem Dev.ring_derotOff (reason : Nat) : ((s.derotOff n reason).str n).ring = (s.str n).ring := by rw [Dev.str_derotOff]

theorem Dev.lost_derotOff (reason : Nat) : ((s.derotOff n reason).str n).lost = (s.str n).lost := by rw [Dev.str_derotOff]

theorem Dev.stState_derotOff (reason : Nat) : (s.derotOff n reason).stState n = s.stState n := by
  rw [Dev.derotOff, Dev.stState_setBit _ _ _ _ (by omega), Dev.stState_setBit _ _ _ _ (by omega), Dev.stState_updStr]

theorem Dev.stState_startMarked (h : n < 36) : (s.startMarked n).stState n = s.stState n := by
  rw [Dev.startMarked, Dev.queueMarker, Dev.queueMarker, Dev.stState_pushWord _ _ _ h, Dev.stState_pushWord _ _ _ h, Dev.stState_derotOff]

/-- With room for both, the markers go to the end of the queue. -/
theorem Dev.startMarked_room (hr : (s.str n).ring = []) (hq : (s.str n).queue.length + 1 < queueWords) :
    s.startMarked n = ((s.derotOff n (s.startReason n)).updStr n (fun x => x.queued s.rf (marker n 0 1 (t31 (s.portDt n))))).updStr n
      (fun x => x.queued s.rf (marker n (s.startReason n) 4 (t31 (s.portDt n)))) := by
  have h1 : (s.derotOff n (s.startReason n)).queueMarker n 0 1 (t31 (s.portDt n)) =
      (s.derotOff n (s.startReason n)).updStr n (fun x => x.queued s.rf (marker n 0 1 (t31 (s.portDt n)))) :=
    Dev.pushWord_room _ _ _ (by rw [Dev.ring_derotOff, hr]) (by rw [Dev.queue_derotOff]; exact lt_trans (Nat.lt_succ_self _) hq)
  rw [Dev.startMarked, h1, Dev.queueMarker]
  refine Dev.pushWord_room _ _ _ ?_ ?_
  · rw [Dev.str_updStr, Stream.ring_queued, Dev.ring_derotOff, hr]
  · rw [Dev.str_updStr, Stream.queue_queued, Dev.queue_derotOff, List.length_append]
    exact hq

theorem Dev.desired_derotOff (reason : Nat) : (s.derotOff n reason).bit (Obj.streamState n) 11 = s.bit (Obj.streamState n) 11 := by
  rw [Dev.derotOff, Dev.bit_setBit_other _ _ _ (by omega) (show 11 < 32 by omega), Dev.bit_setBit_other _ _ _ (by omega) (show 11 < 32 by omega),
    Dev.bit_updStr]

@[simp] theorem Dev.clock_derotOff (m reason : Nat) : (s.derotOff n reason).clock m = s.clock m := by
  rw [Dev.derotOff, Dev.clock_setBit, Dev.clock_setBit, Dev.clock_updStr]

/-- What a start shows where the queue has room for its markers (R130, R147). -/
theorem Dev.startStream_shows (h : n < 36) (hq : (s.str n).queue.length + 1 < queueWords) :
    let t := s.startStream n none
    t.stState n = 5 ∧ t.bit (Obj.streamState n) 11 = s.bit (Obj.streamState n) 11 ∧
    (t.str n).queue = (s.str n).queue ++ [marker n 0 1 (t31 (s.portDt n)), marker n (s.startReason n) 4 (t31 (s.portDt n))] ∧
    (t.str n).lost = (s.str n).lost ∧ (t.clock n).pairF = (s.clock n).pairF ∧ (t.str n).ring = [] := by
  obtain ⟨u, ho, e⟩ := s.startStream_none n
  obtain ⟨place, words, rf, hs⟩ := u.str_startBegun n
  have hqu : (u.str n).queue = (s.str n).queue := by rw [ho.str]
  have hring : ((u.startBegun n).str n).ring = [] := by rw [hs, Stream.started]
  have hqueue : ((u.startBegun n).str n).queue = (s.str n).queue := by rw [hs, Stream.started, hqu]
  have hlost : ((u.startBegun n).str n).lost = (s.str n).lost := by rw [hs, Stream.started, ho.str]
  have hdt : (u.startBegun n).portDt n = s.portDt n := by rw [Dev.portDt_startBegun, ho.portDt]
  have hreason : (u.startBegun n).startReason n = s.startReason n := by
    rw [Dev.startReason_startBegun _ _ h]
    simp only [Dev.startReason, ho.rd]
  intro t
  have ht : t = _ := e.trans (Dev.startMarked_room _ n hring (by rw [hqueue]; exact hq))
  rw [ht, hdt, hreason]
  refine ⟨?_, ?_, ?_, ?_, ?_, ?_⟩
  · rw [Dev.stState_updStr, Dev.stState_updStr, Dev.stState_derotOff, Dev.stState_startBegun]
  · rw [Dev.bit_updStr, Dev.bit_updStr, Dev.desired_derotOff, Dev.desired_startBegun _ _ h, Dev.bit_eq _ _ _ 11 (ho.rd _)]
  · rw [Dev.str_updStr, Dev.str_updStr, Stream.queue_queued, Stream.queue_queued, Dev.queue_derotOff, hqueue, List.append_assoc, List.singleton_append]
  · rw [Dev.str_updStr, Dev.str_updStr, Stream.lost_queued, Stream.lost_queued, Dev.lost_derotOff, hlost]
  · rw [Dev.clock_updStr, Dev.clock_updStr, Dev.clock_derotOff, Dev.pairF_startBegun, ho.clock]
  · rw [Dev.str_updStr, Dev.str_updStr, Stream.ring_queued, Stream.ring_queued, Dev.ring_derotOff, hring]

theorem Dev.stState_startStream (h : n < 36) : (s.startStream n none).stState n = 5 := by
  obtain ⟨u, -, e⟩ := s.startStream_none n
  rw [e, Dev.stState_startMarked _ _ h, Dev.stState_startBegun]

end

end Sys2Proof.Machine
end

section
/-! What a stream gives back (R129, R138, R152, R160, R330): the end of its drain, a lost link, Rebind and Stop. -/

namespace Sys2Proof.Machine

open Sys2Proof

/-! ### Giving back (R160, R330) -/

section
variable (s : Dev) (n : Nat)

/-- The blocks of a stream given back, where it holds any. -/
def Dev.mereReleased (s : Dev) (n : Nat) : Dev := if s.rd (Obj.mereBase n) = 0xFFFF then s else s.mereFree n

/-- The record of a front end whose ring has been given back. -/
def Stream.released (x : Stream) : Stream := { x with ring := [], ringWords := 0, ringAt := 0, ringBad := [] }

theorem Dev.streamRelease_eq : s.streamRelease n =
    (((s.mereReleased n).untake (64 + n)).updStr n Stream.released).setBit (Obj.streamState n) 8 false := rfl

theorem Dev.mereOnly_mereReleased : s.mereOnly (s.mereReleased n) := by
  unfold Dev.mereReleased
  split
  · exact Dev.mereOnly.refl s
  · exact (Dev.mereOnly.refl s).mereFree n

theorem Dev.rd_mereReleased {r : Reg} (h : r.key < 0x500000) : (s.mereReleased n).rd r = s.rd r := by
  unfold Dev.mereReleased
  split
  · rfl
  · exact s.rd_mereFree n h

@[simp] theorem Dev.rd_untake (tag : Nat) (r : Reg) : (s.untake tag).rd r = s.rd r := rfl

@[simp] theorem Dev.str_untake (tag m : Nat) : (s.untake tag).str m = s.str m := rfl

theorem Dev.rd_streamRelease {r : Reg} (h : r.key < 0x500000) (hs : r.key ≠ (Obj.streamState n).key) : (s.streamRelease n).rd r = s.rd r := by
  rw [s.streamRelease_eq, Dev.rd_setBit_other _ _ _ hs, Dev.rd_updStr, Dev.rd_untake, Dev.rd_mereReleased _ _ h]

theorem Dev.str_streamRelease : (s.streamRelease n).str n = (s.str n).released := by
  rw [s.streamRelease_eq, Dev.str_setBit, Dev.str_updStr, Dev.str_untake, (s.mereOnly_mereReleased n).str]

theorem Dev.untake_allocs (tag : Nat) : (s.untake tag).allocs = s.allocs.filter (fun x => x.tag != tag) := rfl

theorem Dev.streamRelease_allocs : (s.streamRelease n).allocs = s.allocs.filter (fun x => x.tag != 64 + n) := by
  rw [s.streamRelease_eq, Dev.setBit_allocs, Dev.updStr_allocs, Dev.untake_allocs, (s.mereOnly_mereReleased n).allocs]

/-- No range of a released stream's stays taken. -/
theorem Dev.tag_ne_of_mem_streamRelease {a : Alloc} (h : a ∈ (s.streamRelease n).allocs) : a.tag ≠ 64 + n := by
  rw [s.streamRelease_allocs] at h
  simpa using (List.mem_filter.1 h).2

end

/-! ### The link is gone (R129) -/

section
variable (s : Dev) (n k : Nat)

theorem Dev.linkLost_due (h : s.rd Obj.linkTimeout * 1000 ≤ s.rf - (s.str n).activeF ∨ 3 ≤ (s.str n).i3cMissed) : s.linkLost n k = s.linkGone n k := if_pos h

/-- A RUNNING stream drains, and the words of the packet in progress are lost. -/
theorem Dev.linkGone_running (h : s.stState n = 5) : s.linkGone n k =
    ((((s.updStr n (fun x => { x with i3cMissed := 0 })).bumpBy (stCtr n 0x18) k).lose n k).setSt n 6).updStr n (fun x => { x with drainEmpty := true }) := by
  rw [Dev.linkGone]
  simp only [Dev.stState_updStr, h]

/-- A port that does not run becomes EMPTY. -/
theorem Dev.linkGone_idle (h0 : s.stState n ≠ 0) (h5 : s.stState n ≠ 5) (h6 : s.stState n ≠ 6) : s.linkGone n k =
    (((((s.updStr n (fun x => { x with i3cMissed := 0 })).streamRelease n).setSt n 0).setF (Obj.streamState n) 16 8 0xFF).setBit (Obj.streamState n) 10 false) := by
  rw [Dev.linkGone]
  -- the last case of the match, by `h0`, `h5` and `h6`
  simp only [Dev.stState_updStr]

theorem Dev.str_lose : (s.lose n k).str n = { s.str n with lost := (s.str n).lost + k } := s.str_updStr n _

/-! ### The drain is over (R129, R138, R147) -/

/-- The device as a drain ends, before the stream's state shows it. -/
def Dev.drained (s : Dev) (n : Nat) : Dev :=
  ((s.updStr n (fun x => { x with sluice := [marker n 0 2 (t31 (s.portDt n))], servedF := s.rf, takenF := s.rf,
                                  hot := x.hot.filter (fun e => !e.auto) })).hotCounted n).streamRelease n

theorem Dev.drainComplete_eq (h6 : s.stState n = 6) (hq : (s.str n).queue = []) (hr : (s.str n).ring = []) (hs : (s.str n).sluice = []) :
    s.drainComplete n = if (s.str n).drainEmpty then ((s.drained n).setSt n 0).setF (Obj.streamState n) 16 8 0xFF else (s.drained n).setSt n 4 :=
  if_pos ⟨h6, hq, hr, hs⟩

/-- The end of the drain leaves what the drain left, under the state it ends in. -/
theorem Dev.drainComplete_shows (h6 : s.stState n = 6) (hq : (s.str n).queue = []) (hr : (s.str n).ring = []) (hs : (s.str n).sluice = []) :
    (s.drainComplete n).stState n = (if (s.str n).drainEmpty then 0 else 4) ∧ (s.drainComplete n).str n = (s.drained n).str n ∧
      (s.drainComplete n).allocs = (s.drained n).allocs := by
  rw [s.drainComplete_eq n h6 hq hr hs]
  split
  · rw [Dev.stState_setF _ _ _ (by omega), Dev.stState_setSt _ _ (by omega), Dev.str_setF, Dev.str_setSt, Dev.setF_allocs, Dev.setSt, Dev.setF_allocs]
    exact ⟨rfl, rfl, rfl⟩
  · rw [Dev.stState_setSt _ _ (by omega), Dev.str_setSt, Dev.setSt, Dev.setF_allocs]
    exact ⟨rfl, rfl, rfl⟩

theorem Dev.str_drained : (s.drained n).str n = { s.str n with
    sluice := [marker n 0 2 (t31 (s.portDt n))], servedF := s.rf, takenF := s.rf, hot := (s.str n).hot.filter (fun e => !e.auto),
    ring := [], ringWords := 0, ringAt := 0, ringBad := [] } := by
  rw [Dev.drained, Dev.str_streamRelease, Dev.str_hotCounted, Dev.str_updStr]
  rfl

/-! ### The queue stalls (R152) -/

theorem Dev.queueStall_due (h5 : s.stState n = 5) (hq : (s.str n).queue ≠ [])
    (hf : s.rd (Obj.queueStallLimit n) * 1000 ≤ s.rf - max (s.str n).takenF (s.str n).headF) : s.queueStall n = s.streamFault n 8 := if_pos ⟨h5, hq, hf⟩

/-! ### Commands (R129, R130) -/

variable (q : Requester)

theorem Dev.startCommand_ready (nack : Option Nat) (h4 : s.stState n = 4) (he : s.startError n = 0) :
    s.startCommand q n nack = ((s.setBit (Obj.streamState n) 11 true).startStream n nack).accept q := (if_pos h4).trans (if_pos he)

theorem Dev.startCommand_refused (nack : Option Nat) (h4 : s.stState n = 4) (he : s.startError n ≠ 0) :
    s.startCommand q n nack = (s.stError n (s.startError n)).refuse q .state := (if_pos h4).trans (if_neg he)

theorem Dev.startCommand_desired (nack : Option Nat) (h4 : s.stState n ≠ 4) : s.startCommand q n nack = (s.setBit (Obj.streamState n) 11 true).accept q :=
  if_neg h4

theorem Dev.startError_lt : s.startError n < 256 := by
  unfold Dev.startError
  repeat' split
  all_goals omega

theorem Dev.autoRestartOn_due (nack : Option Nat) (h4 : s.stState n = 4) (ha : s.rd (Obj.autoRestart n) = 1) (hb : s.bit (Obj.streamState n) 11 = true)
    (he : s.startError n = 0) : s.autoRestartOn n nack = s.startStream n nack := (if_pos ⟨h4, ha, hb⟩).trans (if_pos he)

/-- A Stop of a RUNNING stream whose sequence is acknowledged. -/
theorem Dev.stopCommand_running (h5 : s.stState n = 5) : ∃ t, (s.setBit (Obj.streamState n) 11 false).i3cOnly t ∧
    s.stopCommand q n none = ((t.setSt n 6).updStr n (fun x => { x with drainEmpty := false })).accept q := by
  have h : (s.setBit (Obj.streamState n) 11 false).stState n = 5 := by rw [Dev.stState_setBit _ _ _ _ (by omega), h5]
  rw [Dev.stopCommand]
  generalize s.setBit (Obj.streamState n) 11 false = u at h ⊢
  obtain ⟨t, ht, ho⟩ := u.runSequence_none n (u.stopSequenceOf (u.profileOf n))
  exact ⟨t, ho, by simp only [h, ht, if_true]⟩

/-- The device with the queue, the auto entries and what the stream holds given back. -/
def Dev.emptied (s : Dev) (n : Nat) : Dev :=
  ((s.updStr n (fun x => { x with queue := [], hot := x.hot.filter (fun e => !e.auto) })).hotCounted n).streamRelease n

theorem Dev.rd_emptied_streamSource (h : n < 36) : (s.emptied n).rd (Obj.streamSource n) = s.rd (Obj.streamSource n) := by
  rw [Dev.emptied, Dev.rd_streamRelease _ _ (by simp only [Obj.streamSource, Reg.at_key]; omega)
    (by simp only [Obj.streamSource, Obj.streamState, Reg.at_key]; omega), Dev.hotCounted,
    Dev.rd_wr_other _ _ (by simp only [Obj.streamSource, Obj.hotListCount, Reg.at_key]; omega), Dev.rd_updStr]

theorem Dev.queue_emptied : ((s.emptied n).str n).queue = [] := by
  rw [Dev.emptied, Dev.str_streamRelease, Dev.str_hotCounted, Dev.str_updStr, Stream.released]

theorem Dev.ring_emptied : ((s.emptied n).str n).ring = [] := by
  rw [Dev.emptied, Dev.str_streamRelease, Stream.released]

/-- The device as Rebind has given back what the stream holds, before the port identifies its sensor again. -/
def Dev.rebound (s : Dev) (n : Nat) : Dev :=
  let t := (s.bumpBy (stCtr n 0x10) ((s.str n).queue.length + (s.str n).ring.length)).emptied n
  if t.stState n = 7 then t.stError n 0 else t

theorem Dev.rebindCommand_eq (hc : s.isCustodian q = true) (h0 : s.stState n ≠ 0) : s.rebindCommand q n =
    let t := (s.rebound n).enterIdentify n
    (if t.rd (Obj.streamSource n) = 1 ∧ (s.str n).identity ≠ [] then t.identifyFlow n (s.str n).identity none else t).accept q :=
  (if_neg (by simp [hc])).trans (if_neg h0)

/-- What Rebind gives back, it has given back with LastError cleared or not. -/
theorem Dev.rebound_forms : let t := (s.bumpBy (stCtr n 0x10) ((s.str n).queue.length + (s.str n).ring.length)).emptied n
    s.rebound n = t.setF (Obj.streamState n) 24 8 0 ∨ s.rebound n = t := by
  intro t
  by_cases h : t.stState n = 7
  · exact .inl (if_pos h)
  · exact .inr (if_neg h)

theorem Dev.rd_rebound_streamSource (h : n < 36) : (s.rebound n).rd (Obj.streamSource n) = s.rd (Obj.streamSource n) := by
  have hb : (s.bumpBy (stCtr n 0x10) ((s.str n).queue.length + (s.str n).ring.length)).rd (Obj.streamSource n) = s.rd (Obj.streamSource n) :=
    s.rd_bumpBy_other _ (by simp only [Obj.streamSource, stCtr, Obj.streamCounter, Reg.at_key]; omega)
  rcases s.rebound_forms n with e | e <;> rw [e]
  · rw [Dev.rd_setF_other _ _ _ _ (by simp only [Obj.streamSource, Obj.streamState, Reg.at_key]; omega), Dev.rd_emptied_streamSource _ _ h, hb]
  · rw [Dev.rd_emptied_streamSource _ _ h, hb]

theorem Dev.rebound_shows : ((s.rebound n).str n).queue = [] ∧ ((s.rebound n).str n).ring = [] ∧ ∀ a ∈ (s.rebound n).allocs, a.tag ≠ 64 + n := by
  rcases s.rebound_forms n with e | e <;> rw [e]
  · rw [Dev.str_setF, Dev.setF_allocs]
    exact ⟨Dev.queue_emptied _ n, Dev.ring_emptied _ n, fun a ha => Dev.tag_ne_of_mem_streamRelease _ _ ha⟩
  · exact ⟨Dev.queue_emptied _ n, Dev.ring_emptied _ n, fun a ha => Dev.tag_ne_of_mem_streamRelease _ _ ha⟩

/-- Rebind of a sensor on I3C (R129). -/
theorem Dev.rebindCommand_i3c (h : n < 36) (hc : s.isCustodian q = true) (h0 : s.stState n ≠ 0) (hs : s.rd (Obj.streamSource n) = 0) :
    s.rebindCommand q n = (((s.rebound n).identifyBegun n).addressSensor n).accept q := by
  have hne : (s.rebound n).rd (Obj.streamSource n) ≠ 1 := by rw [s.rd_rebound_streamSource n h, hs]; omega
  have hk : ((s.rebound n).enterIdentify n).rd (Obj.streamSource n) ≠ 1 := by
    rw [Dev.enterIdentify_i3c _ _ hne]
    rw [(((Dev.regsKept.refl (s.rebound n) [(Obj.streamState n).key, (Obj.dynamicAddress n).key, (Obj.streamState (busMate n)).key]).identifyBegun
      (by simp)).addressSensor (by simp) (by simp) (by simp)) _ (by
        simp only [Obj.streamSource, Obj.streamState, Obj.dynamicAddress, Reg.at_key, List.mem_cons, List.not_mem_nil, or_false]; omega)]
    exact hne
  rw [s.rebindCommand_eq n q hc h0, ← Dev.enterIdentify_i3c _ _ hne]
  dsimp only
  rw [if_neg (fun e => hk e.1)]

theorem Dev.queue_identifyBegun : ((s.identifyBegun n).str n).queue = (s.str n).queue := by
  rw [Dev.identifyBegun, Dev.str_updStr, Dev.str_setF, Dev.str_setSt]

theorem Dev.ring_identifyBegun : ((s.identifyBegun n).str n).ring = (s.str n).ring := by
  rw [Dev.identifyBegun, Dev.str_updStr, Dev.str_setF, Dev.str_setSt]

@[simp] theorem Dev.identifyBegun_allocs : (s.identifyBegun n).allocs = s.allocs := by
  rw [Dev.identifyBegun, Dev.updStr_allocs, Dev.setF_allocs, Dev.setSt, Dev.setF_allocs]

end

section
variable (s : Dev) (n : Nat)

theorem Dev.portDt_setBit (k i : Nat) (b : Bool) : (s.setBit (Obj.streamState k) i b).portDt n = s.portDt n := by
  have e : ∀ r : Reg, r.key < 0x400000 → (s.setBit (Obj.streamState k) i b).rd r = s.rd r := fun r h =>
    s.rd_setBit_other _ _ (by simp only [Obj.streamState, Reg.at_key]; omega)
  simp only [Dev.portDt, Dev.dtAt, Dev.rdI, e Obj.timeOffset (by decide), e Obj.rateAdjust (by decide), Dev.localF_setBit]

theorem Dev.startReason_setBit (i : Nat) (b : Bool) : (s.setBit (Obj.streamState n) i b).startReason n = s.startReason n := by
  have e : ∀ r : Reg, r.key / 256 = 0x4006 + 16 * n → (s.setBit (Obj.streamState n) i b).rd r = s.rd r := fun r h =>
    s.rd_setBit_other _ _ (by simp only [Obj.streamState, Reg.at_key]; omega)
  have hfx := e (Obj.fx n) (by simp only [Obj.fx, Reg.at_key]; omega)
  have hfy := e (Obj.fy n) (by simp only [Obj.fy, Reg.at_key]; omega)
  have hgy := e (Obj.gyroChannel n) (by simp only [Obj.gyroChannel, Reg.at_key]; omega)
  have hde := e (Obj.derotEnable n) (by simp only [Obj.derotEnable, Reg.at_key]; omega)
  simp only [Dev.startReason, hfx, hfy, hgy, hde]

theorem Dev.clock_accept (q : Requester) : (s.accept q).clock n = s.clock n := by simp [Dev.clock]

/-- A Start in READY that is not refused (R130, R147). -/
theorem Dev.startCommand_shows (q : Requester) (h : n < 36) (h4 : s.stState n = 4) (he : s.startError n = 0) (hq : (s.str n).queue.length + 1 < queueWords) :
    let t := s.startCommand q n none
    t.told q .ok ∧ t.stState n = 5 ∧ t.bit (Obj.streamState n) 11 = true ∧
    (t.str n).queue = (s.str n).queue ++ [marker n 0 1 (t31 (s.portDt n)), marker n (s.startReason n) 4 (t31 (s.portDt n))] ∧
    (t.str n).lost = (s.str n).lost ∧ (t.clock n).pairF = (s.clock n).pairF ∧ (t.str n).ring = [] := by
  obtain ⟨h5, h11, hqu, hl, hp, hr⟩ := (s.setBit (Obj.streamState n) 11 true).startStream_shows n h (by rw [Dev.str_setBit]; exact hq)
  rw [Dev.portDt_setBit, Dev.startReason_setBit, Dev.str_setBit] at hqu
  rw [Dev.bit_setBit_same _ _ _ (show 11 < 32 by omega)] at h11
  rw [Dev.str_setBit] at hl
  rw [Dev.clock_setBit] at hp
  rw [s.startCommand_ready n q none h4 he]
  refine ⟨Dev.told_accept _ q, ?_, ?_, ?_, ?_, ?_, ?_⟩
  · rw [Dev.stState_accept, h5]
  · rw [Dev.bit_accept _ q _ (streamState_ne_transport n), h11]
  · rw [Dev.str_accept, hqu]
  · rw [Dev.str_accept, hl]
  · rw [Dev.clock_accept, hp]
  · rw [Dev.str_accept, hr]

/-- A Stop in RUNNING (R129). -/
theorem Dev.stopCommand_shows (q : Requester) (h5 : s.stState n = 5) :
    let t := s.stopCommand q n none
    t.told q .ok ∧ t.stState n = 6 ∧ t.bit (Obj.streamState n) 11 = false ∧ (t.str n).queue = (s.str n).queue ∧
    s.regsKeptAnswered t [(Obj.streamState n).key] := by
  obtain ⟨t, ho, e⟩ := s.stopCommand_running n q h5
  have hk := ((Dev.regsKept.refl s [(Obj.streamState n).key]).setBit (r := Obj.streamState n) 11 false (by simp)).of_dict ho.dict
  rw [e]
  refine ⟨Dev.told_accept _ q, ?_, ?_, ?_, ((hk.setSt 6 (by simp)).updStr n _).accept q⟩
  · rw [Dev.stState_accept, Dev.stState_updStr, Dev.stState_setSt _ _ (by omega)]
  · rw [Dev.bit_accept _ q _ (streamState_ne_transport n), Dev.bit_updStr, Dev.setSt, Dev.bit_setF_other _ _ _ (.inr (by omega)) (show 11 < 32 by omega),
      Dev.bit_eq _ _ _ 11 (ho.rd _)]
    exact Dev.bit_setBit_same _ _ _ (show 11 < 32 by omega)
  · rw [Dev.str_accept, Dev.str_updStr, Dev.str_setSt, ho.str, Dev.str_setBit]

/-- Rebind of a sensor on I3C (R129). -/
theorem Dev.rebindCommand_shows (q : Requester) (h : n < 36) (hc : s.isCustodian q = true) (h0 : s.stState n ≠ 0) (hs : s.rd (Obj.streamSource n) = 0) :
    let t := s.rebindCommand q n
    t.told q .ok ∧ t.stState n = 1 ∧ t.profileOf n = 0xFF ∧ (t.str n).queue = [] ∧ (t.str n).ring = [] ∧ ∀ a ∈ t.allocs, a.tag ≠ 64 + n := by
  obtain ⟨hqu, hr, ha⟩ := s.rebound_shows n
  rw [s.rebindCommand_i3c n q h hc h0 hs]
  refine ⟨Dev.told_accept _ q, ?_, ?_, ?_, ?_, fun a h => ha a ?_⟩
  · rw [Dev.stState_accept, Dev.stState_addressSensor, Dev.stState_identifyBegun]
  · rw [Dev.profileOf_accept, Dev.profileOf_addressSensor, Dev.profileOf_identifyBegun]
  · rw [Dev.str_accept, Dev.addressSensor_keeps _ _ Stream.queue (fun _ _ _ => rfl), Dev.queue_identifyBegun, hqu]
  · rw [Dev.str_accept, Dev.addressSensor_keeps _ _ Stream.ring (fun _ _ _ => rfl), Dev.ring_identifyBegun, hr]
  · rwa [Dev.accept_allocs, Dev.addressSensor_allocs, Dev.identifyBegun_allocs] at h

/-- LINK_LOST of a RUNNING stream (R129). -/
theorem Dev.linkGone_shows (k : Nat) (h5 : s.stState n = 5) :
    let t := s.linkGone n k
    t.stState n = 6 ∧ (t.str n).drainEmpty = true ∧ (t.str n).lost = (s.str n).lost + k ∧ t.rd (stCtr n 0x18) = (s.rd (stCtr n 0x18) + k) % 2 ^ 64 ∧
    s.regsKept t [(Obj.streamState n).key, (stCtr n 0x18).key] := by
  have hk := ((Dev.regsKept.refl s [(Obj.streamState n).key, (stCtr n 0x18).key]).updStr n (fun x => { x with i3cMissed := 0 })).bumpBy
    (r := stCtr n 0x18) k (by simp)
  have hc : ((s.updStr n (fun x => { x with i3cMissed := 0 })).bumpBy (stCtr n 0x18) k).rd (stCtr n 0x18) = (s.rd (stCtr n 0x18) + k) % 2 ^ 64 :=
    Dev.rd_bumpBy_same _ _ k
  rw [s.linkGone_running n k h5]
  refine ⟨?_, ?_, ?_, ?_, ((hk.updStr n _).setSt 6 (by simp)).updStr n _⟩
  · rw [Dev.stState_updStr, Dev.stState_setSt _ _ (by omega)]
  · rw [Dev.str_updStr]
  · rw [Dev.str_updStr, Dev.str_setSt, Dev.str_lose, Dev.str_bumpBy, Dev.str_updStr]
  · rw [Dev.rd_updStr, Dev.setSt, Dev.rd_setF_other _ _ _ _ (by simp only [stCtr, Obj.streamCounter, Obj.streamState, Reg.at_key]; omega), Dev.lose,
      Dev.rd_updStr, hc]

end

/-- Settles O27: a start takes what the stream needs and queues its markers; drains, faults and Rebind give it back. -/
theorem streamsStartAndEnd : Obligations.StreamsStartAndEnd := by
  unfold Obligations.StreamsStartAndEnd
  simp only [exec, execStreamStartCommand, execAutoRestart, execStreamStopCommand, execRebind, execLinkLost, execDrainComplete, execQueueStall,
    Dev.streamCommand]
  refine ⟨fun s q n => ⟨fun hh => ⟨fun h4 he hq => nextHas_asked hh ?_, fun h4 he => nextHas_asked hh ?_, fun h4 => nextHas_asked hh ?_⟩,
      fun hu h4 ha hb he => nextHas_runIn hu ?_, fun hh h5 => nextHas_asked hh ?_⟩,
    fun s n => ⟨fun q hh hc h0 hs => nextHas_asked hh ?_, fun k hu hd => ⟨fun h5 => nextHas_runIn hu ?_, fun h0 h5 h6 => nextHas_runIn hu ?_⟩,
      fun hu h6 hq hr hs => nextHas_runIn hu ?_, fun hu h5 hq hf => nextHas_runIn hu ?_⟩⟩
  · obtain ⟨ho, h5, h11, hqu, hl, hp, hr⟩ := s.dev.fresh.startCommand_shows n q n.isLt h4 he hq
    exact ⟨ho, h5, h11, hqu, hl, hp, hr, s.sameRest_dev _⟩
  · rw [s.dev.fresh.startCommand_refused n q none h4 he]
    refine ⟨Dev.told_refuse _ q _, ?_, ?_, ((s.dev.regsKept_fresh _).setF 24 8 _ (by simp)).refuse q _, s.sameRest_dev _⟩
    · rw [Dev.stState_refuse, Dev.stError, Dev.stState_setF _ _ _ (by omega), Dev.stState_fresh, h4]
    · rw [Dev.getF_eq _ _ _ _ _ (Dev.rd_refuse _ q _ (streamState_ne_transport n)), Dev.stError, Dev.getF_setF_same _ _ _ (show 24 + 8 ≤ 32 by omega)]
      exact Nat.mod_eq_of_lt (s.dev.startError_lt n)
  · rw [s.dev.fresh.startCommand_desired n q none h4]
    refine ⟨Dev.told_accept _ q, ?_, ?_, ((s.dev.regsKept_fresh _).setBit _ _ (by simp)).accept q, s.sameRest_dev _⟩
    · rw [Dev.stState_accept, Dev.stState_setBit _ _ _ _ (by omega), Dev.stState_fresh]
    · rw [Dev.bit_accept _ q _ (streamState_ne_transport n)]
      exact Dev.bit_setBit_same _ _ _ (show 11 < 32 by omega)
  · rw [s.dev.fresh.autoRestartOn_due n none h4 ha hb he]
    exact ⟨Dev.stState_startStream _ _ n.isLt, s.sameRest_dev _⟩
  · obtain ⟨ho, h6, h11, hqu, hk⟩ := s.dev.fresh.stopCommand_shows n q h5
    exact ⟨ho, h6, h11, hqu, hk, s.sameRest_dev _⟩
  · obtain ⟨ho, h1, hp, hqu, hr, ha⟩ := s.dev.fresh.rebindCommand_shows n q n.isLt hc h0 hs
    exact ⟨ho, h1, hp, hqu, hr, ha, s.sameRest_dev _⟩
  · obtain ⟨h6, hd', hl, hc, hk⟩ := s.dev.fresh.linkGone_shows n k h5
    rw [s.dev.fresh.linkLost_due n k hd]
    exact ⟨h6, hd', hl, hc, hk, s.sameRest_dev _⟩
  · rw [s.dev.fresh.linkLost_due n k hd, s.dev.fresh.linkGone_idle n k h0 h5 h6]
    refine ⟨?_, ?_, ?_, s.sameRest_dev _⟩
    · rw [Dev.stState_setBit _ _ _ _ (by omega), Dev.stState_setF _ _ _ (by omega), Dev.stState_setSt _ _ (by omega)]
    · rw [Dev.profileOf_setBit _ _ _ _ (by omega), Dev.profileOf_setF _ _ (by omega)]
    · rw [Dev.str_setBit, Dev.str_setF, Dev.str_setSt, Dev.str_streamRelease, Stream.released]
  · obtain ⟨hst, hstr, hal⟩ := s.dev.fresh.drainComplete_shows n h6 hq hr hs
    refine ⟨hst, ?_, ?_, fun a ha => ?_, s.sameRest_dev _⟩
    · rw [hstr, Dev.str_drained]
      rfl
    · rw [hstr, Dev.str_drained]
      intro e he
      simpa using (List.mem_filter.1 he).2
    · rw [hal] at ha
      exact Dev.tag_ne_of_mem_streamRelease _ _ ha
  · rw [s.dev.fresh.queueStall_due n h5 hq hf]
    exact ⟨Dev.stState_streamFault _ _ _, Dev.lastError_streamFault _ _ (by omega), s.sameRest_dev _⟩

end Sys2Proof.Machine
end

section
/-! Queue, spill ring and exit (R143, R146, R149, R150): reading back, gyro samples, and what leaves the queue. -/

namespace Sys2Proof.Machine

open Sys2Proof

/-! ### Event words (R137) -/

section
variable (n x y p k t : Nat)

theorem wT_mkWord : wT (mkWord n x y p k t) = t % 2 ^ 31 := by
  simp only [wT, field, mkWord]
  omega

theorem wKind_mkWord : wKind (mkWord n x y p k t) = k % 4 := by
  simp only [wKind, field, mkWord]
  omega

theorem wPol_mkWord : wPol (mkWord n x y p k t) = p % 2 := by
  simp only [wPol, field, mkWord]
  omega

theorem wStream_mkWord : wStream (mkWord n x y p k t) = n % 64 := by
  simp only [wStream, field, mkWord]
  omega

end

/-- An event word made of another's polarity and stamp keeps both. -/
theorem event_mkWord {n : Nat} (h : n < 64) (x y w : Nat) :
    let v := mkWord n x y (wPol w) 0 (wT w)
    wKind v = 0 ∧ wT v = wT w ∧ wPol v = wPol w ∧ wStream v = n := by
  refine ⟨wKind_mkWord .., ?_, ?_, ?_⟩
  · rw [wT_mkWord]
    exact Nat.mod_eq_of_lt (field_lt w 0 31)
  · rw [wPol_mkWord]
    exact Nat.mod_eq_of_lt (field_lt w 33 1)
  · rw [wStream_mkWord]
    exact Nat.mod_eq_of_lt h

/-! ### Reading back (R149, R150) -/

section
variable (s : Dev) (n : Nat)

/-- The record of a front end whose oldest ring word has been taken. -/
def Stream.popped (x : Stream) (ws : List Nat) : Stream :=
  { x with ring := ws, ringAt := (x.ringAt + 1) % x.ringWords, ringBad := x.ringBad.filter (· != x.ringAt) }

/-- The device with the oldest ring word taken: the last one ends the spill. -/
def Dev.ringPopped (s : Dev) (n : Nat) (ws : List Nat) : Dev :=
  if ws = [] then ((s.updStr n (fun x => x.popped ws)).spillMove n).setBit (Obj.streamState n) 8 false
  else (s.updStr n (fun x => x.popped ws)).spillMove n

theorem Dev.str_ringPopped (ws : List Nat) : (s.ringPopped n ws).str n = (s.str n).popped ws := by
  have e : ∀ u : Dev, (u.spillMove n).str n = u.str n := fun u => rfl
  unfold Dev.ringPopped
  split
  · rw [Dev.str_setBit, e, Dev.str_updStr]
  · rw [e, Dev.str_updStr]

theorem Dev.rd_ringPopped (ws : List Nat) {r : Reg} (h : r.key ≠ (Obj.streamState n).key) : (s.ringPopped n ws).rd r = s.rd r := by
  have e : ∀ u : Dev, (u.spillMove n).rd r = u.rd r := fun u => rfl
  unfold Dev.ringPopped
  split
  · rw [Dev.rd_setBit_other _ _ _ h, e, Dev.rd_updStr]
  · rw [e, Dev.rd_updStr]

theorem Dev.ringPopped_f (ws : List Nat) : (s.ringPopped n ws).f = s.f := by
  unfold Dev.ringPopped
  split <;> rfl

theorem Dev.regsKept_ringPopped (ws : List Nat) {ks : List Nat} (h : (Obj.streamState n).key ∈ ks) : s.regsKept (s.ringPopped n ws) ks :=
  fun _ hr => s.rd_ringPopped n ws fun e => hr (e ▸ h)

theorem Dev.dt_ringPopped (ws : List Nat) : (s.ringPopped n ws).dt = s.dt :=
  (s.regsKept_ringPopped n ws (List.mem_singleton.2 rfl)).dt (by simp only [Obj.timeOffset, Obj.streamState, Reg.at_key, List.mem_singleton]; omega)
    (by simp only [Obj.rateAdjust, Obj.streamState, Reg.at_key, List.mem_singleton]; omega) (s.ringPopped_f n ws)

/-- The word at the head of the ring waits in GDDR6 and can be read back now: the queue has room, its turn has come, its channel is not retraining and it lies
in a region of its owner. -/
def Dev.canReadBack (s : Dev) (n : Nat) : Prop :=
  (s.str n).queue.length < queueWords ∧ s.spillTurn n = true ∧
  s.retraining (gddrChan ((s.str n).ringBase + 8 * (s.str n).ringAt)) = false ∧
  (s.regionAt (s.rd (Obj.streamTenant n)) ((s.str n).ringBase + 8 * (s.str n).ringAt)).isSome = true

variable {w : Nat} {ws : List Nat}

/-- The word read back, with the words in front of it that report a loss. -/
def Dev.readBack (u : Dev) (n w : Nat) : Dev :=
  let y := u.str n
  let g := u.dtWin 100000
  let gapNow : Bool := wKind w == 0 && y.lostBack != 0 && decide (y.gapWin ≠ some g) && decide (y.queue.length + 1 < queueWords)
  let front := if gapNow then [marker n (min y.lostBack 4095) 7 (wT w), w] else [w]
  let u := if gapNow then u.bump (stCtr n 0x17) else u
  u.updStr n (fun x => { x with queue := x.queue ++ front, headF := if x.queue.isEmpty then u.rf else x.headF,
                                lostBack := if gapNow then 0 else x.lostBack, gapWin := if gapNow then some g else x.gapWin })

theorem Dev.spillBack_eq (bad : Bool) (hr : (s.str n).ring = w :: ws) (hc : s.canReadBack n) : s.spillBack n bad =
    if (bad || (s.str n).ringBad.contains (s.str n).ringAt) = true then ((s.ringPopped n ws).bump (stCtr n 0x10)).loseBack n
    else if ((s.ringPopped n ws).rd (Obj.spillAgeLimit n) * 1000 : Nat) < (s.ringPopped n ws).dt - (s.ringPopped n ws).ofT31 (wT w) then
      ((s.ringPopped n ws).bump (stCtr n 0x0F)).loseBack n
    else (s.ringPopped n ws).readBack n w := by
  obtain ⟨hq, ht, hg, hi⟩ := hc
  rw [Dev.spillBack]
  simp only [hr, hi, hq, ht, hg, and_self, if_true]
  rfl

/-- A ring word whose code finds an error is lost. -/
theorem Dev.spillBack_lost (hr : (s.str n).ring = w :: ws) (hc : s.canReadBack n) :
    s.spillBack n true = ((s.ringPopped n ws).bump (stCtr n 0x10)).loseBack n := by
  rw [s.spillBack_eq n true hr hc, Bool.true_or, if_pos rfl]

/-- A good ring word that is not too old comes back. -/
theorem Dev.spillBack_good (hr : (s.str n).ring = w :: ws) (hc : s.canReadBack n) (hb : (s.str n).ringBad.contains (s.str n).ringAt = false)
    (ha : s.dt - s.ofT31 (wT w) ≤ (s.rd (Obj.spillAgeLimit n) * 1000 : Nat)) : s.spillBack n false = (s.ringPopped n ws).readBack n w := by
  have hage : (s.ringPopped n ws).rd (Obj.spillAgeLimit n) = s.rd (Obj.spillAgeLimit n) :=
    s.rd_ringPopped n ws (by simp only [Obj.spillAgeLimit, Obj.streamState, Reg.at_key]; omega)
  have hof : (s.ringPopped n ws).ofT31 (wT w) = s.ofT31 (wT w) := by rw [Dev.ofT31, s.dt_ringPopped n ws, Dev.ofT31]
  rw [s.spillBack_eq n false hr hc, hb, hage, hof, s.dt_ringPopped n ws, Bool.false_or, if_neg Bool.false_ne_true, if_neg (not_lt.2 ha)]

/-- With nothing lost to report, the word alone goes to the end of the queue. -/
theorem Dev.readBack_alone (hl : (s.str n).lostBack = 0) :
    s.readBack n w = s.updStr n (fun x => { x with queue := x.queue ++ [w], headF := if x.queue.isEmpty then s.rf else x.headF,
                                                   lostBack := x.lostBack, gapWin := x.gapWin }) := by
  simp only [Dev.readBack, hl, bne_self_eq_false, Bool.and_false, Bool.false_and, Bool.false_eq_true, if_false]

/-! ### Gyro samples (R143, R146) -/

variable {g : GyroSample} {gs : List GyroSample}

/-- Whether a sample's stamp lies after the last one applied. -/
def GyroSample.after (g : GyroSample) (tg : Option Int) : Bool := match tg with | some t => decide (t < g.stamp) | none => true

/-- The latest stamp that has reached the front end. -/
def GyroSample.latest (g : GyroSample) (seen : Option Int) : Int := match seen with | some t => max t g.stamp | none => g.stamp

/-- The device with a rate vector taken up by a front end. -/
def Dev.gyroTaken (s : Dev) (n : Nat) (g : GyroSample) (gs : List GyroSample) : Dev :=
  (s.updStr n (fun x => { x with gyroIn := gs })).updStr n (fun x => { x with gyroSeen := some (g.latest x.gyroSeen) })

theorem Dev.gyroSample_eq (hg : (s.str n).gyroIn = g :: gs) (h : s.stState n = 5 ∨ s.stState n = 6) : s.gyroSample n =
    if (s.str n).derotOff = 2 ∧ g.after (s.str n).tg = true then (s.gyroTaken n g gs).derotStart n g.stamp
    else (s.gyroTaken n g gs).updStr n (fun x => { x with gyro := x.gyro ++ [g] }) := by
  have hs : ¬ (s.stState n ≠ 5 ∧ s.stState n ≠ 6) := by omega
  rw [Dev.gyroSample]
  simp only [hg, Dev.str_updStr, Dev.stState_updStr, if_neg hs]
  rfl

theorem Dev.str_gyroTaken : (s.gyroTaken n g gs).str n = { s.str n with gyroIn := gs, gyroSeen := some (g.latest (s.str n).gyroSeen) } := by
  rw [Dev.gyroTaken, Dev.str_updStr, Dev.str_updStr]

/-- A sample waits to be applied. -/
theorem Dev.gyroSample_waits (hg : (s.str n).gyroIn = g :: gs) (h : s.stState n = 5 ∨ s.stState n = 6) (hd : (s.str n).derotOff ≠ 2) :
    s.gyroSample n = (s.gyroTaken n g gs).updStr n (fun x => { x with gyro := x.gyro ++ [g] }) := by
  rw [s.gyroSample_eq n hg h]
  exact if_neg (fun e => hd e.1)

/-- A sample with a new stamp ends reason 2. -/
theorem Dev.gyroSample_starts (hg : (s.str n).gyroIn = g :: gs) (h : s.stState n = 5 ∨ s.stState n = 6) (hd : (s.str n).derotOff = 2)
    (ht : ∀ t, (s.str n).tg = some t → t < g.stamp) : s.gyroSample n = (s.gyroTaken n g gs).derotStart n g.stamp := by
  rw [s.gyroSample_eq n hg h]
  refine if_pos ⟨hd, ?_⟩
  cases e : (s.str n).tg with
  | none => rfl
  | some t => exact decide_eq_true (ht t e)

theorem GyroSample.le_latest (g : GyroSample) (seen : Option Int) : g.stamp ≤ g.latest seen := by
  cases seen with
  | none => exact le_rfl
  | some t => exact le_max_right _ _

/-- De-rotation starts at a sample: the next event carries the mark, tg is the sample's stamp, and ACTIVE is shown. -/
theorem Dev.derotStart_shows (t : Int) :
    ((s.derotStart n t).str n).derotOff = 0 ∧ ((s.derotStart n t).str n).tg = some t ∧ ((s.derotStart n t).str n).onMark = true ∧
    (s.derotStart n t).bit (Obj.streamState n) 4 = true ∧ s.regsKept (s.derotStart n t) [(Obj.streamState n).key, (Obj.lastGyroStamp n).key] := by
  refine ⟨?_, ?_, ?_, ?_, ?_⟩
  · rw [Dev.derotStart, Dev.str_setBit, Dev.str_setBit, Dev.wrT, Dev.str_wr, Dev.str_updStr]
  · rw [Dev.derotStart, Dev.str_setBit, Dev.str_setBit, Dev.wrT, Dev.str_wr, Dev.str_updStr]
  · rw [Dev.derotStart, Dev.str_setBit, Dev.str_setBit, Dev.wrT, Dev.str_wr, Dev.str_updStr]
  · rw [Dev.derotStart, Dev.bit_setBit_other _ _ _ (by omega) (show 4 < 32 by omega)]
    exact Dev.bit_setBit_same _ _ _ (show 4 < 32 by omega)
  · exact ((((Dev.regsKept.refl s _).updStr n _).wr _ (by simp)).setBit _ _ (by simp)).setBit _ _ (by simp)

/-! ### The queue exit (R143, R146, R147) -/

variable {w : Nat} {ws : List Nat}

/-- The device with the head of the queue gone into the sluice as the words `l`. -/
def Dev.left (u : Dev) (n rf : Nat) (ws l : List Nat) : Dev :=
  u.updStr n (fun x => { x with queue := ws, headF := rf, servedF := if x.sluice.isEmpty then rf else x.servedF, sluice := x.sluice ++ l, takenF := rf })

/-- A marker leaves at once. -/
theorem Dev.queueExit_marker (hq : (s.str n).queue = w :: ws) (h : s.stState n = 5 ∨ s.stState n = 6) (hk : wKind w ≠ 0) : s.queueExit n =
    if 32 < (s.str n).sluice.length + 1 then s else s.left n s.rf ws [w] := by
  have hs : ¬ (s.stState n ≠ 5 ∧ s.stState n ≠ 6) := by omega
  have hb : (wKind w != 0) = true := by simpa using hk
  rw [Dev.queueExit]
  simp only [hq, if_neg hs, hb, Bool.true_or, Bool.not_true, Bool.false_eq_true, if_false, if_neg hk, List.length_singleton]
  rfl

/-- An event of a stream whose de-rotation is off for reasons 3 or 4 leaves at once. -/
theorem Dev.queueExit_event (hq : (s.str n).queue = w :: ws) (h : s.stState n = 5 ∨ s.stState n = 6) (hk : wKind w = 0)
    (hd : (s.str n).derotOff = 3 ∨ (s.str n).derotOff = 4) : s.queueExit n =
    let r := (s.applySamples n (s.ofT31 (wT w))).exitEvent n w (s.ofT31 (wT w))
    if 32 < (s.str n).sluice.length + r.2.length then s else r.1.left n s.rf ws r.2 := by
  have hs : ¬ (s.stState n ≠ 5 ∧ s.stState n ≠ 6) := by omega
  have hb : ((s.str n).derotOff == 3 || (s.str n).derotOff == 4) = true := by simpa using hd
  rw [Dev.queueExit]
  simp only [hq, if_neg hs, hb, Bool.or_assoc, Bool.or_true, Bool.true_or, Bool.not_true, Bool.false_eq_true, if_false, if_pos hk]
  rfl

/-- What samples that are applied while de-rotation is off for another reason than 1 leave alone at a front end. -/
def Dev.sampledOnly (s t : Dev) (n : Nat) : Prop :=
  (t.str n).derotOff = (s.str n).derotOff ∧ (t.str n).onMark = (s.str n).onMark ∧ (t.str n).sluice = (s.str n).sluice ∧
  s.regsKept t [(Obj.lastGyroStamp n).key]

theorem Dev.sampledOnly.applySample {s t : Dev} {n : Nat} (h : s.sampledOnly t n) (hd : (s.str n).derotOff ≠ 1) (g : GyroSample) :
    s.sampledOnly (t.applySample n g) n := by
  obtain ⟨hoff, hmark, hsl, hk⟩ := h
  unfold Dev.applySample
  dsimp only
  rw [if_neg (by rw [hoff]; exact hd)]
  split
  · split
    · refine ⟨?_, ?_, ?_, (hk.updStr n _).wr _ (by simp)⟩
      · rw [Dev.wrT, Dev.str_wr, Dev.str_updStr, hoff]
      · rw [Dev.wrT, Dev.str_wr, Dev.str_updStr, hmark]
      · rw [Dev.wrT, Dev.str_wr, Dev.str_updStr, hsl]
    · exact ⟨hoff, hmark, hsl, hk⟩
  · exact ⟨hoff, hmark, hsl, hk⟩

theorem Dev.sampledOnly_applySamples (te : Int) (hd : (s.str n).derotOff ≠ 1) : s.sampledOnly (s.applySamples n te) n := by
  refine foldl_holds (s.sampledOnly · n) _ (fun t g ht => ht.applySample hd g) _ ⟨?_, ?_, ?_, (Dev.regsKept.refl s _).updStr n _⟩ <;> rw [Dev.str_updStr]

/-- An event takes the mark off and shows its stale age, while there is a last sample. -/
def Dev.exitAged (s : Dev) (n : Nat) (te : Int) : Dev :=
  let u := s.updStr n (fun x => { x with onMark := false })
  let age : Int := match (s.str n).tg with | some g => te - g | none => 0
  if (s.str n).tg = none then u else u.raiseTo (Obj.staleAgeMax n) (satAdd 32 (age / 1000).toNat 0)

theorem Dev.rd_exitAged (te : Int) {r : Reg} (h : r.key ≠ (Obj.staleAgeMax n).key) : (s.exitAged n te).rd r = s.rd r := by
  unfold Dev.exitAged
  dsimp only
  split
  · rfl
  · exact Dev.rd_raiseTo_other _ _ h

theorem Dev.str_raiseTo (r : Reg) (v : Nat) : (s.raiseTo r v).str n = s.str n := by
  unfold Dev.raiseTo
  split
  · exact s.str_wr n r v
  · rfl

theorem Dev.str_exitAged (te : Int) : (s.exitAged n te).str n = { s.str n with onMark := false } := by
  unfold Dev.exitAged
  dsimp only
  split
  · rw [Dev.str_updStr]
  · rw [Dev.str_raiseTo, Dev.str_updStr]

/-- An event counted that leaves while de-rotation is off. -/
def Dev.exitCounted (s : Dev) (n : Nat) (te : Int) : Dev := (s.exitAged n te).bump (stCtr n 0x0D)

theorem Dev.rd_exitCounted (te : Int) : (s.exitCounted n te).rd (stCtr n 0x0D) = (s.rd (stCtr n 0x0D) + 1) % 2 ^ 64 := by
  rw [Dev.exitCounted, Dev.rd_bump_same, s.rd_exitAged n te (by simp only [stCtr, Obj.streamCounter, Obj.staleAgeMax, Reg.at_key]; omega)]
  rfl

/-- What leaves for an event whose output pixel is `o`: its word where it stays in view. -/
def Dev.exitWord (u : Dev) (n w : Nat) (o : Option (Nat × Nat)) : Dev × List Nat :=
  match o with
  | some (x, y) => (u.bump (stCtr n 1), [mkWord n x y (wPol w) 0 (wT w)])
  | none => (u.bump (stCtr n 0x0A), [])

/-- With de-rotation off and no mark due, an event leaves as its word or not at all. -/
theorem Dev.exitEvent_off (te : Int) (hd : (s.str n).derotOff ≠ 0) (hm : (s.str n).onMark = false) :
    ∃ o, s.exitEvent n w te = (s.exitCounted n te).exitWord n w o := by
  have hb : ((s.str n).derotOff == 0) = false := by simpa using hd
  rw [Dev.exitEvent]
  simp only [Dev.str_updStr, hm, hb, Bool.false_and, Bool.false_eq_true, if_false]
  exact ⟨_, rfl⟩

theorem Dev.exitWord_words (h : n < 64) (o : Option (Nat × Nat)) :
    (s.exitWord n w o).2.length ≤ 1 ∧ ∀ v ∈ (s.exitWord n w o).2, wKind v = 0 ∧ wT v = wT w ∧ wPol v = wPol w ∧ wStream v = n := by
  cases o with
  | none => exact ⟨Nat.zero_le _, fun v hv => absurd hv List.not_mem_nil⟩
  | some p => exact ⟨le_rfl, fun v hv => List.mem_singleton.1 hv ▸ event_mkWord h p.1 p.2 w⟩

theorem Dev.str_exitWord (o : Option (Nat × Nat)) : (s.exitWord n w o).1.str n = s.str n := by
  cases o <;> exact s.str_bump n _

theorem Dev.rd_exitWord_unturned (o : Option (Nat × Nat)) : (s.exitWord n w o).1.rd (stCtr n 0x0D) = s.rd (stCtr n 0x0D) := by
  cases o <;> exact s.rd_bump_other (by simp only [stCtr, Obj.streamCounter, Reg.at_key]; omega)

/-- An event of a stream without de-rotation leaves as at most one word of the same stamp, and is counted (R146). -/
theorem Dev.queueExit_event_shows (h : n < 36) (hq : (s.str n).queue = w :: ws) (hst : s.stState n = 5 ∨ s.stState n = 6) (hk : wKind w = 0)
    (hd : (s.str n).derotOff = 3 ∨ (s.str n).derotOff = 4) (hm : (s.str n).onMark = false) (hl : (s.str n).sluice.length < 32) :
    ((s.queueExit n).str n).queue = ws ∧
    (∃ l, ((s.queueExit n).str n).sluice = (s.str n).sluice ++ l ∧ l.length ≤ 1 ∧
      ∀ v ∈ l, wKind v = 0 ∧ wT v = wT w ∧ wPol v = wPol w ∧ wStream v = n) ∧
    (s.queueExit n).rd (stCtr n 0x0D) = (s.rd (stCtr n 0x0D) + 1) % 2 ^ 64 := by
  obtain ⟨hoff, hmark, hsl, hkept⟩ := s.sampledOnly_applySamples n (s.ofT31 (wT w)) (by omega)
  obtain ⟨o, ho⟩ := (s.applySamples n (s.ofT31 (wT w))).exitEvent_off n (w := w) (s.ofT31 (wT w)) (by omega) (hmark.trans hm)
  obtain ⟨hlen, hwords⟩ := ((s.applySamples n (s.ofT31 (wT w))).exitCounted n (s.ofT31 (wT w))).exitWord_words n (w := w) (by omega) o
  have hc : (s.applySamples n (s.ofT31 (wT w))).rd (stCtr n 0x0D) = s.rd (stCtr n 0x0D) :=
    hkept _ (by simp only [stCtr, Obj.streamCounter, Obj.lastGyroStamp, Reg.at_key, List.mem_singleton]; omega)
  rw [s.queueExit_event n hq hst hk hd, ho]
  dsimp only
  rw [if_neg (by omega), Dev.left, Dev.str_updStr, Dev.str_exitWord, Dev.rd_updStr, Dev.rd_exitWord_unturned, Dev.rd_exitCounted, hc]
  refine ⟨rfl, ⟨_, ?_, hlen, hwords⟩, rfl⟩
  rw [Dev.exitCounted, Dev.str_bump, Dev.str_exitAged, hsl]

end

/-- Settles O30: the words of ring and queue go on in their order, and samples and events by the state of de-rotation. -/
theorem queuesMove : Obligations.QueuesMove := by
  unfold Obligations.QueuesMove
  intro s n hu
  simp only [exec, execSpillReadBack, execGyroSample, execQueueExit]
  refine ⟨fun w ws h172 hr hq ht ⟨hg, hi⟩ => ⟨fun ha hl hb => nextHas_runIn hu ?_, nextHas_runIn hu ?_⟩,
    fun g gs hg hst => ⟨fun hd => nextHas_runIn hu ?_, fun hd ht => nextHas_runIn hu ?_⟩,
    fun w ws hq hst => ⟨fun hk hl => nextHas_runIn hu ?_, fun hk hl => nextHas_runIn hu ?_, fun hk hd hm hl => nextHas_runIn hu ?_⟩⟩
  · have h172' : s.dev.fresh.domOn 172 = true := h172
    rw [if_pos h172', show (Check.ok == Check.uncorrectable) = false from rfl,
      s.dev.fresh.spillBack_good n hr ⟨hq, ht, hg, hi⟩ hb ha, Dev.readBack_alone _ _ (by rw [Dev.str_ringPopped]; exact hl)]
    refine ⟨?_, ?_, (s.dev.fresh.regsKept_ringPopped n ws (by simp)).updStr _ _, s.sameRest_dev _⟩
    · rw [Dev.str_updStr, Dev.str_ringPopped, Stream.popped]
    · rw [Dev.str_updStr, Dev.str_ringPopped, Stream.popped, Dev.str_fresh]
  · have h172' : s.dev.fresh.domOn 172 = true := h172
    rw [if_pos h172', show (Check.uncorrectable == Check.uncorrectable) = true from rfl, s.dev.fresh.spillBack_lost n hr ⟨hq, ht, hg, hi⟩]
    refine ⟨?_, ?_, ?_, ?_, ((s.dev.fresh.regsKept_ringPopped n ws (by simp)).bump (by simp [stCtr])).updStr _ _, s.sameRest_dev _⟩
    · rw [Dev.loseBack, Dev.str_updStr, Dev.str_bump, Dev.str_ringPopped, Stream.popped]
    · rw [Dev.loseBack, Dev.str_updStr, Dev.str_bump, Dev.str_ringPopped, Stream.popped, Dev.str_fresh]
    · rw [Dev.loseBack, Dev.str_updStr, Dev.str_bump, Dev.str_ringPopped, Stream.popped, Dev.str_fresh]
    · rw [Dev.loseBack, Dev.rd_updStr, stCtr, Dev.rd_bump_same,
        Dev.rd_ringPopped _ _ _ (by simp only [Obj.streamCounter, Obj.streamState, Reg.at_key]; omega), Dev.rd_fresh]
      rfl
  · rw [s.dev.fresh.gyroSample_waits n hg hst hd]
    have e : ((s.dev.fresh.gyroTaken n g gs).updStr n (fun x => { x with gyro := x.gyro ++ [g] })).str n =
        { s.dev.str n with gyroIn := gs, gyroSeen := some (g.latest (s.dev.str n).gyroSeen), gyro := (s.dev.str n).gyro ++ [g] } := by
      rw [Dev.str_updStr, Dev.str_gyroTaken, Dev.str_fresh]
    rw [e]
    exact ⟨rfl, ⟨_, rfl, g.le_latest _⟩, (((s.dev.regsKept_fresh _).updStr _ _).updStr _ _).updStr _ _, s.sameRest_dev _⟩
  · rw [s.dev.fresh.gyroSample_starts n hg hst hd ht]
    obtain ⟨hoff, htg, hmark, hbit, hk⟩ := (s.dev.fresh.gyroTaken n g gs).derotStart_shows n g.stamp
    exact ⟨hoff, htg, hmark, hbit, (((s.dev.regsKept_fresh _).updStr _ _).updStr _ _).trans hk, s.sameRest_dev _⟩
  · rw [s.dev.fresh.queueExit_marker n hq hst hk, Dev.str_fresh, if_neg (by omega), Dev.left]
    refine ⟨?_, ?_, (s.dev.regsKept_fresh _).updStr _ _, s.sameRest_dev _⟩
    · rw [Dev.str_updStr]
    · rw [Dev.str_updStr, Dev.str_fresh]
  · rw [s.dev.fresh.queueExit_marker n hq hst hk, Dev.str_fresh, if_pos (by omega)]
    exact ⟨rfl, s.sameRest_dev _⟩
  · obtain ⟨hqu, hsl, hc⟩ := s.dev.fresh.queueExit_event_shows n n.isLt hq hst hk hd hm hl
    exact ⟨hqu, hsl, hc, s.sameRest_dev _⟩

end Sys2Proof.Machine
end

section
/-! Mere and Eddy (R141, R157, R161, R165 to R169, R176): an event through the slice, a visit of the sweeper, and a route that waits. -/

namespace Sys2Proof.Machine

open Sys2Proof

/-! ### What the words that leave the slice leave alone -/

/-- The cells, the front ends, the turns of the slices and the events counted of stream `n`. -/
def Dev.sliceView (s : Dev) (n : Nat) : Tab Nat × Tab Stream × Tab Nat × Nat := (s.mere, s.streams, s.eddyTurn, s.rd (eddyCtr n 0))

section
variable (s : Dev) (n : Nat)

theorem Dev.sliceView_bumpBy {k : Nat} (h : k ≠ 0) (v : Nat) : (s.bumpBy (eddyCtr n k) v).sliceView n = s.sliceView n := by
  have e : (s.bumpBy (eddyCtr n k) v).rd (eddyCtr n 0) = s.rd (eddyCtr n 0) :=
    s.rd_bumpBy_other _ (by simp only [eddyCtr, Obj.eddyCounter, Reg.at_key]; omega)
  simp only [Dev.sliceView, e, Dev.bumpBy_mere, Dev.bumpBy_streams, Dev.bumpBy_eddyTurn]

theorem Dev.sliceView_bump {k : Nat} (h : k ≠ 0) : (s.bump (eddyCtr n k)).sliceView n = s.sliceView n := s.sliceView_bumpBy n h 1

theorem Dev.sliceView_confWatch : s.confWatch.sliceView n = s.sliceView n := by
  rcases s.confWatch_cases with h | h | h <;> rw [h] <;> rfl

theorem Dev.sliceView_routeWord (rid : Nat) (ds : List Dest) (w second : Nat) : (s.routeWord n rid ds w second).sliceView n = s.sliceView n := by
  unfold Dev.routeWord
  dsimp only
  split
  · exact s.sliceView_bumpBy n (by omega) _
  · rw [Dev.sliceView_confWatch]
    split <;> rfl

theorem Dev.sliceView_emitRecord (c type : Nat) (payload : List Byte) (poisoned : Bool) : (s.emitRecord c type payload poisoned).sliceView n = s.sliceView n := by
  unfold Dev.emitRecord
  split <;> rfl

theorem Dev.sliceView_closeBatch (c type source : Nat) : (s.closeBatch c type source).sliceView n = s.sliceView n := by
  unfold Dev.closeBatch
  split
  · rfl
  · exact Dev.sliceView_emitRecord _ n c type _ _

theorem Dev.sliceView_addWords (c type source : Nat) (ws : List Nat) (poisoned : Bool) : (s.addWords c type source ws poisoned).sliceView n = s.sliceView n := by
  have closing : ∀ (u : Dev) (b : Prop) [Decidable b], (if b then u.closeBatch c type source else u).sliceView n = u.sliceView n := fun u b _ => by
    split
    · exact u.sliceView_closeBatch n c type source
    · rfl
  unfold Dev.addWords
  dsimp only
  split
  · exact (closing _ _).trans (closing s _)
  · rfl

theorem Dev.sliceView_sendWord (w second : Nat) : (s.sendWord n w second).sliceView n = s.sliceView n := by
  refine Dev.each_keeps (Dev.sliceView · n) 16 _ (fun p u => ?_) s
  split
  · refine (foldl_keeps (Dev.sliceView · n) _ (fun v q => ?_) _ _).trans (foldl_keeps (Dev.sliceView · n) _ (fun v q => ?_) _ u)
    · split
      · exact v.sliceView_addWords n _ _ _ _ _
      · rfl
    · split
      · exact v.sliceView_routeWord n _ _ _ _
      · rfl
  · rfl

theorem Dev.sliceView_countReason (reason : Nat) : (s.countReason n reason).sliceView n = s.sliceView n := by
  unfold Dev.countReason
  split
  · exact s.sliceView_bump n (by omega)
  · rfl

/-- The operators' counters and the feature word leave the slice's view. -/
theorem Dev.sliceView_eddyOperators (w : Nat) (ps : List Nbr) : (s.eddyOperators n w ps).sliceView n = s.sliceView n := by
  have bumping : ∀ (u : Dev) (b : Prop) [Decidable b] (k : Nat), k ≠ 0 → (if b then u.bump (eddyCtr n k) else u).sliceView n = u.sliceView n :=
    fun u b _ k h => by
      split
      · exact u.sliceView_bump n h
      · rfl
  have drawing : ∀ (u : Dev) (b : Prop) [Decidable b], (if b then u.drawn else u).sliceView n = u.sliceView n := fun u b _ => by
    split <;> rfl
  have sending : ∀ (u : Dev) (b c d : Prop) [Decidable b] [Decidable c] [Decidable d] (v x : Nat),
      (if b then (let u := if c then u.bump (eddyCtr n 1) else u
        let u := if d then u.bump (eddyCtr n 2) else u
        u.sendWord n v x) else u).sliceView n = u.sliceView n := fun u b c d _ _ _ v x => by
    split
    · exact (Dev.sliceView_sendWord _ n v x).trans ((bumping _ d 2 (by omega)).trans (bumping u c 1 (by omega)))
    · rfl
  exact (sending _ _ _ _ _ _).trans ((drawing _ _).trans ((bumping _ _ 10 (by omega)).trans (s.sliceView_countReason n _)))

end

/-! ### Cells (R156 to R159, R165) -/

section
variable (s : Dev) (n : Nat)

theorem Dev.cell_setCell_same (key v : Nat) : (s.setCell key v).cell key = v := Tab.get_put_same ..

theorem Dev.cell_setCell_other {key k : Nat} (v : Nat) (h : k ≠ key) : (s.setCell key v).cell k = s.cell k := Tab.get_put_other _ _ _ h

/-- No cell awaits the sweeper for its parity. -/
theorem Dev.parityGood (h : s.mereBad = []) (key : Nat) : Tab.get false s.mereBad key = false := by rw [h]; rfl

/-- The centre of a neighbourhood read without a parity error is the event's own cell. -/
theorem Dev.cell_nbr_centre {x y : Nat} (hb : s.mereBad = []) (hx : x < s.rd (Obj.outputWidth n)) (hy : y < s.rd (Obj.outputHeight n)) :
    (s.nbr n x y [] 12).cell = s.cell (s.cellKey n x y) := by
  have hi : (x : Int) + (((12 % 5 : Nat) : Int) - 2) = x := by omega
  have hj : (y : Int) + (((12 / 5 : Nat) : Int) - 2) = y := by omega
  simp only [Dev.nbr, hi, hj, Int.toNat_natCast, List.any_nil, s.parityGood hb, Bool.or_self, Bool.not_false, Bool.and_true]
  rw [if_pos]
  simp [hx, hy]

/-- A neighbourhood without parity errors counts none. -/
theorem Dev.readParity_good (x y : Nat) (hb : s.mereBad = []) : s.readParity n x y [] = s := by
  refine Dev.each_eq_self fun k _ => ?_
  simp only [List.any_nil, s.parityGood hb, Bool.or_self, Bool.false_eq_true, if_false, ite_self]

/-! ### An event through the slice (R141, R157, R167) -/

/-- The device as the word of a turn has been taken from the sluice of stream `n`. -/
def Dev.turnTaken (s : Dev) (d n bankWait : Nat) : Dev :=
  let t := (s.bankHeld n bankWait).updStr n (fun x => { x with sluice := x.sluice.drop 1, servedF := s.rf })
  { t with eddyTurn := Tab.put 0 s.eddyTurn d n }

variable {d w : Nat} {ws : List Nat}

theorem Dev.eddyServe_event (bad : List (Fin 25)) (held : Bool) (bankWait : Nat) (hn : s.eddyNext d = some n) (hs : (s.str n).sluice = w :: ws)
    (hk : wKind w ≠ 2) : s.eddyServe d bad held bankWait = (s.turnTaken d n bankWait).eddyWord n w bad held := by
  have ht : turnWords (s.str n).sluice = [w] := by rw [hs, turnWords, if_neg hk]
  rw [Dev.eddyServe]
  simp only [hn, ht, List.foldl_cons, List.foldl_nil, List.length_singleton]
  rfl

theorem Dev.str_bankHeld (ns : Nat) : (s.bankHeld n ns).str n = { s.str n with heldNs := ((s.str n).heldNs + min ns (s.rf - (s.str n).servedF)) % 1000 } := by
  rw [Dev.bankHeld]
  dsimp only
  rw [Dev.str_updStr, Dev.str_bumpBy]

theorem Dev.str_turnTaken (bankWait : Nat) (hs : (s.str n).sluice = w :: ws) :
    ((s.turnTaken d n bankWait).str n).sluice = ws ∧ ((s.turnTaken d n bankWait).str n).wiped = (s.str n).wiped := by
  have e : (s.turnTaken d n bankWait).str n = ((s.bankHeld n bankWait).updStr n (fun x => { x with sluice := x.sluice.drop 1, servedF := s.rf })).str n := rfl
  rw [e, Dev.str_updStr, Dev.str_bankHeld, hs]
  exact ⟨rfl, rfl⟩

theorem Dev.regsKept.bankHeld {s t : Dev} {ks : List Nat} (h : s.regsKept t ks) {n : Nat} (ns : Nat) (hk : (eddyCtr n 0xC).key ∈ ks) :
    s.regsKept (t.bankHeld n ns) ks := by
  rw [Dev.bankHeld]
  exact (h.bumpBy _ hk).updStr n _

theorem Dev.regsKept_turnTaken (bankWait : Nat) {ks : List Nat} (h : (eddyCtr n 0xC).key ∈ ks) : s.regsKept (s.turnTaken d n bankWait) ks :=
  ((Dev.regsKept.refl s ks).bankHeld bankWait h).of_dict rfl

theorem Dev.eddyWord_event (bad : List (Fin 25)) (held : Bool) (hw : (s.str n).wiped = []) (hk : wKind w ≠ 2) (hm : s.rd (Obj.mereBase n) ≠ 0xFFFF) :
    s.eddyWord n w bad held = s.eddyBright n w bad held := by
  have hp : s.payWiped n w = s := if_pos hw
  rw [Dev.eddyWord, hp, if_neg hk, if_neg hm]

theorem Dev.regsKept.hazard {s t : Dev} {ks : List Nat} (h : s.regsKept t ks) {n : Nat} (x y : Nat) (held : Bool) (hk : (eddyCtr n 8).key ∈ ks) :
    s.regsKept (t.hazard n x y held) ks := by
  unfold Dev.hazard
  dsimp only
  split
  · exact (h.bump hk).updStr n _
  · exact h.updStr n _

theorem Dev.hazard_keeps {α : Type} (g : Stream → α) (hg : ∀ x r, g { x with recent := r } = g x) (x y : Nat) (held : Bool) :
    g ((s.hazard n x y held).str n) = g (s.str n) := by
  unfold Dev.hazard
  dsimp only
  split
  · rw [Dev.str_updStr, hg, Dev.str_bump]
  · rw [Dev.str_updStr, hg]

theorem Dev.hazard_mere (x y : Nat) (held : Bool) : (s.hazard n x y held).mere = s.mere ∧ (s.hazard n x y held).mereBad = s.mereBad ∧
    (s.hazard n x y held).eddyTurn = s.eddyTurn := by
  unfold Dev.hazard
  dsimp only
  split <;> exact ⟨rfl, rfl, rfl⟩

/-- The device as an event has been read: its place among those in flight, and the bank accesses. -/
def Dev.brightRead (s : Dev) (n w : Nat) (held : Bool) : Dev :=
  (s.hazard n (wX w) (wY w) held).meter (Obj.mereLoad (s.rd (Obj.homeDie n))) (s.nbrWords n (wX w) (wY w))

theorem Dev.brightRead_mere (held : Bool) : (s.brightRead n w held).mere = s.mere ∧ (s.brightRead n w held).mereBad = s.mereBad ∧
    (s.brightRead n w held).eddyTurn = s.eddyTurn := s.hazard_mere n (wX w) (wY w) held

theorem Dev.sluice_brightRead (held : Bool) : ((s.brightRead n w held).str n).sluice = (s.str n).sluice :=
  s.hazard_keeps n Stream.sluice (fun _ _ => rfl) (wX w) (wY w) held

/-- The cell of an event that is written: its polarity and time code, never the stale code. -/
def eventCell (w : Nat) : Nat := wPol w * 2 ^ 15 + (if timeCode (wT w) = 0x7FFF then 0x7FFE else timeCode (wT w))

/-- An event whose neighbourhood is read without a parity error: dropped by the gate, or written and handed on (R141, R167). -/
theorem Dev.eddyBright_good (held : Bool) (hb : s.mereBad = []) (hx : wX w < s.rd (Obj.outputWidth n)) (hy : wY w < s.rd (Obj.outputHeight n)) :
    s.eddyBright n w [] held =
      if (s.brightRead n w held).gated n (timeCode (wT w)) (wPol w) (s.cell (s.cellKey n (wX w) (wY w))) then (s.brightRead n w held).bump (stCtr n 0x0B)
      else (((((s.brightRead n w held).meter (Obj.eddyLoad (s.rd (Obj.homeDie n))) 1).setCell (s.cellKey n (wX w) (wY w)) (eventCell w)).bump
        (eddyCtr n 0)).sendWord n w 0).eddyOperators n w ((List.range 25).map (s.nbr n (wX w) (wY w) [])) := by
  have hc : (((List.range 25).map (s.nbr n (wX w) (wY w) [])).getD 12 ⟨0, 0, true, staleCell⟩).cell = s.cell (s.cellKey n (wX w) (wY w)) :=
    s.cell_nbr_centre n hb hx hy
  have hbad : (s.hazard n (wX w) (wY w) held).mereBad = [] := (s.hazard_mere n (wX w) (wY w) held).2.1.trans hb
  have hgood : ((s.brightRead n w held).bump (stCtr n 0x0B)).mereBad = [] := by
    rw [Dev.bump_mereBad]
    exact hbad
  rw [Dev.eddyBright, Dev.readParity_good _ _ _ _ hbad]
  simp only [hc]
  exact if_congr Iff.rfl (if_neg (ne_true_of_eq_false (Dev.parityGood _ hgood _))) rfl

theorem Dev.gated_congr {s t : Dev} {n : Nat} (hp : t.rd (Obj.refractoryPeriod n) = s.rd (Obj.refractoryPeriod n))
    (hm : t.rd (Obj.refractoryMode n) = s.rd (Obj.refractoryMode n)) (tc pol cell : Nat) : t.gated n tc pol cell = s.gated n tc pol cell := by
  simp only [Dev.gated, hp, hm]

theorem Dev.cellKey_congr {s t : Dev} {n : Nat} (hd : t.rd (Obj.homeDie n) = s.rd (Obj.homeDie n)) (hb : t.rd (Obj.mereBase n) = s.rd (Obj.mereBase n))
    (hw : t.rd (Obj.outputWidth n) = s.rd (Obj.outputWidth n)) (x y : Nat) : t.cellKey n x y = s.cellKey n x y := by
  simp only [Dev.cellKey, hd, hb, hw]

/-- The device as the slice has taken an event of stream `n` and read it, before the gate. -/
def Dev.eventRead (s : Dev) (d n bankWait w : Nat) (held : Bool) : Dev := (s.turnTaken d n bankWait).brightRead n w held

theorem Dev.regsKept_eventRead (held : Bool) (bankWait : Nat) : s.regsKept (s.eventRead d n bankWait w held) [(eddyCtr n 8).key, (eddyCtr n 0xC).key] :=
  (s.regsKept_turnTaken n bankWait (by simp)).trans (((Dev.regsKept.refl _ _).hazard (wX w) (wY w) held (by simp)).meter _ _)

theorem Dev.eventRead_mere (held : Bool) (bankWait : Nat) : (s.eventRead d n bankWait w held).mere = s.mere ∧
    (s.eventRead d n bankWait w held).eddyTurn = Tab.put 0 s.eddyTurn d n :=
  ⟨((s.turnTaken d n bankWait).brightRead_mere n held).1, ((s.turnTaken d n bankWait).brightRead_mere n held).2.2⟩

theorem Dev.sluice_eventRead (held : Bool) (bankWait : Nat) (hs : (s.str n).sluice = w :: ws) : ((s.eventRead d n bankWait w held).str n).sluice = ws :=
  ((s.turnTaken d n bankWait).sluice_brightRead n held).trans (s.str_turnTaken n bankWait hs).1

/-- What the slice reads of a stream whose event it takes: parity is good, the word is an event of the array, nothing goes ahead of it. -/
structure Dev.takesEvent (s : Dev) (d n w : Nat) (ws : List Nat) : Prop where
  parity : s.mereBad = []
  turn : s.eddyNext d = some n
  head : (s.str n).sluice = w :: ws
  kind : wKind w ≠ 2
  owed : (s.str n).wiped = []
  blocks : s.rd (Obj.mereBase n) ≠ 0xFFFF
  inX : wX w < s.rd (Obj.outputWidth n)
  inY : wY w < s.rd (Obj.outputHeight n)

/-- The slice's turn for one event: dropped by the gate, or written and handed on. -/
theorem Dev.eddyServe_good (held : Bool) (bankWait : Nat) (h : s.takesEvent d n w ws) :
    (s.gated n (timeCode (wT w)) (wPol w) (s.cell (s.cellKey n (wX w) (wY w))) = true →
      s.eddyServe d [] held bankWait = (s.eventRead d n bankWait w held).bump (stCtr n 0x0B)) ∧
    (s.gated n (timeCode (wT w)) (wPol w) (s.cell (s.cellKey n (wX w) (wY w))) = false →
      (s.eddyServe d [] held bankWait).sliceView n =
        (((s.eventRead d n bankWait w held).setCell (s.cellKey n (wX w) (wY w)) (eventCell w)).bump (eddyCtr n 0)).sliceView n) := by
  have kept : ∀ {r : Reg}, r.key ≠ (eddyCtr n 0xC).key → (s.turnTaken d n bankWait).rd r = s.rd r :=
    fun hr => s.regsKept_turnTaken n bankWait (List.mem_singleton.2 rfl) _ (by simpa using hr)
  have hw := kept (r := Obj.outputWidth n) (by simp only [Obj.outputWidth, eddyCtr, Obj.eddyCounter, Reg.at_key]; omega)
  have hh := kept (r := Obj.outputHeight n) (by simp only [Obj.outputHeight, eddyCtr, Obj.eddyCounter, Reg.at_key]; omega)
  have hm := kept (r := Obj.mereBase n) (by simp only [Obj.mereBase, eddyCtr, Obj.eddyCounter, Reg.at_key]; omega)
  have hd := kept (r := Obj.homeDie n) (by simp only [Obj.homeDie, eddyCtr, Obj.eddyCounter, Reg.at_key]; omega)
  have hkey : (s.turnTaken d n bankWait).cellKey n (wX w) (wY w) = s.cellKey n (wX w) (wY w) := Dev.cellKey_congr hd hm hw _ _
  have hcell : ∀ k, (s.turnTaken d n bankWait).cell k = s.cell k := fun k => rfl
  have hgate : (s.eventRead d n bankWait w held).gated n = s.gated n := by
    have hr := s.regsKept_eventRead n (d := d) (w := w) held bankWait
    funext tc pol cell
    exact Dev.gated_congr
      (hr _ (by simp only [Obj.refractoryPeriod, eddyCtr, Obj.eddyCounter, Reg.at_key, List.mem_cons, List.not_mem_nil, or_false]; omega))
      (hr _ (by simp only [Obj.refractoryMode, eddyCtr, Obj.eddyCounter, Reg.at_key, List.mem_cons, List.not_mem_nil, or_false]; omega)) tc pol cell
  have hgood : (s.turnTaken d n bankWait).mereBad = [] := h.parity
  have hserve := s.eddyServe_event n [] held bankWait h.turn h.head h.kind
  rw [Dev.eddyWord_event _ _ _ _ ((s.str_turnTaken n bankWait h.head).2.trans h.owed) h.kind (by rw [hm]; exact h.blocks),
    Dev.eddyBright_good _ _ _ hgood (by rw [hw]; exact h.inX) (by rw [hh]; exact h.inY), hkey, hcell] at hserve
  refine ⟨fun hg => ?_, fun hg => ?_⟩
  · rw [hserve]
    exact if_pos (by rw [← hgate] at hg; exact hg)
  · rw [hserve, if_neg (by rw [← hgate] at hg; exact ne_true_of_eq_false hg), Dev.sliceView_eddyOperators, Dev.sliceView_sendWord]
    rfl

/-- An event that the gate lets pass writes its cell and no other (R157, R167). -/
theorem Dev.eddyServe_written (held : Bool) (bankWait : Nat) (h : s.takesEvent d n w ws)
    (hg : s.gated n (timeCode (wT w)) (wPol w) (s.cell (s.cellKey n (wX w) (wY w))) = false) :
    let t := s.eddyServe d [] held bankWait
    let key := s.cellKey n (wX w) (wY w)
    t.cell key = eventCell w ∧ (∀ k, k ≠ key → t.cell k = s.cell k) ∧ (t.str n).sluice = ws ∧ Tab.get 0 t.eddyTurn d = n ∧
    t.rd (eddyCtr n 0) = (s.rd (eddyCtr n 0) + 1) % 2 ^ 64 := by
  intro t key
  obtain ⟨hmere, hturn⟩ := s.eventRead_mere n (d := d) (w := w) held bankWait
  have hsl := s.sluice_eventRead n (d := d) (w := w) held bankWait h.head
  have hr := s.regsKept_eventRead n (d := d) (w := w) held bankWait (eddyCtr n 0)
    (by simp only [eddyCtr, Obj.eddyCounter, Reg.at_key, List.mem_cons, List.not_mem_nil, or_false]; omega)
  have hv : t.sliceView n = (((s.eventRead d n bankWait w held).setCell key (eventCell w)).bump (eddyCtr n 0)).sliceView n :=
    (s.eddyServe_good n held bankWait h).2 hg
  generalize s.eventRead d n bankWait w held = u at hv hmere hturn hsl hr
  have hu : ∀ k, u.cell k = s.cell k := fun k => by rw [Dev.cell, hmere, Dev.cell]
  simp only [Dev.sliceView, Prod.mk.injEq, Dev.bump_mere, Dev.bump_streams, Dev.bump_eddyTurn, Dev.rd_bump_same] at hv
  obtain ⟨htm, hts, htt, htr⟩ := hv
  have hcell : ∀ k, t.cell k = (u.setCell key (eventCell w)).cell k := fun k => by rw [Dev.cell, htm, Dev.cell]
  refine ⟨?_, fun k hk => ?_, ?_, ?_, ?_⟩
  · rw [hcell, Dev.cell_setCell_same]
  · rw [hcell, Dev.cell_setCell_other _ _ hk, hu]
  · rw [Dev.str, hts]
    exact hsl
  · rw [htt]
    show Tab.get 0 u.eddyTurn d = n
    rw [hturn, Tab.get_put_same]
  · rw [htr]
    show (u.rd (eddyCtr n 0) + 1) % _ = _
    rw [hr]
    rfl

/-- An event that the gate drops counts, and writes no cell (R141). -/
theorem Dev.eddyServe_gated (held : Bool) (bankWait : Nat) (h : s.takesEvent d n w ws)
    (hg : s.gated n (timeCode (wT w)) (wPol w) (s.cell (s.cellKey n (wX w) (wY w))) = true) :
    let t := s.eddyServe d [] held bankWait
    (∀ k, t.cell k = s.cell k) ∧ (t.str n).sluice = ws ∧ t.rd (stCtr n 0x0B) = (s.rd (stCtr n 0x0B) + 1) % 2 ^ 64 ∧
    s.regsKept t [(stCtr n 0x0B).key, (eddyCtr n 8).key, (eddyCtr n 0xC).key] := by
  obtain ⟨hmere, -⟩ := s.eventRead_mere n (d := d) (w := w) held bankWait
  have hr := s.regsKept_eventRead n (d := d) (w := w) held bankWait
  rw [(s.eddyServe_good n held bankWait h).1 hg]
  refine ⟨fun k => ?_, ?_, ?_, fun r hk => ?_⟩
  · rw [Dev.cell, Dev.bump_mere, hmere, Dev.cell]
  · rw [Dev.str_bump, s.sluice_eventRead n held bankWait h.head]
  · rw [Dev.rd_bump_same, hr _ (by
      simp only [stCtr, Obj.streamCounter, eddyCtr, Obj.eddyCounter, Reg.at_key, List.mem_cons, List.not_mem_nil, or_false]; omega)]
    rfl
  · rw [List.mem_cons, not_or] at hk
    rw [Dev.rd_bump_other _ hk.1, hr r hk.2]

end

/-! ### A visit of the sweeper (R161) -/

/-- What a visit at time code `tr` makes of a cell. -/
def sweptCell (tr c : Nat) : Nat :=
  if cellStale c = false ∧ 15000 ≤ unsigned 15 ((tr : Int) - ((c % 2 ^ 15 : Nat) : Int)) then staleCell else c

/-- One cell of a visit without parity errors. -/
def Dev.sweepCell (s : Dev) (tr key : Nat) : Dev := if s.cellOld tr key then s.setCell key staleCell else s

section
variable (s : Dev)

theorem Dev.cell_sweepCell_same (tr key : Nat) : (s.sweepCell tr key).cell key = sweptCell tr (s.cell key) := by
  unfold Dev.sweepCell sweptCell Dev.cellOld
  simp only [Bool.and_eq_true, Bool.not_eq_true', decide_eq_true_eq]
  split
  · exact s.cell_setCell_same key staleCell
  · rfl

theorem Dev.cell_sweepCell_other (tr : Nat) {key k : Nat} (h : k ≠ key) : (s.sweepCell tr key).cell k = s.cell k := by
  unfold Dev.sweepCell
  split
  · exact s.cell_setCell_other staleCell h
  · rfl

theorem Dev.dict_sweepCell (tr key : Nat) : (s.sweepCell tr key).dict = s.dict := by
  unfold Dev.sweepCell
  split <;> rfl

theorem Dev.parity_sweepCell (tr key : Nat) (h : ∀ k, Tab.get false s.mereBad k = false) (k : Nat) : Tab.get false (s.sweepCell tr key).mereBad k = false := by
  have hput : (s.setCell key staleCell).mereBad = Tab.put false s.mereBad key false := rfl
  unfold Dev.sweepCell
  split
  · rw [hput]
    by_cases e : k = key
    · rw [e, Tab.get_put_same]
    · rw [Tab.get_put_other _ _ _ e, h k]
  · exact h k

variable (d b n tr : Nat)

theorem mereKey_inj {d b i j : Nat} : mereKey d b i = mereKey d b j ↔ i = j := by
  unfold mereKey
  omega

/-- One round of a visit in which no cell fails parity anew. -/
def Dev.sweepRound (d b n tr i : Nat) (s : Dev) : Dev :=
  if (([] : List (Fin 256)).any (fun x => x.val == i) || Tab.get false s.mereBad (mereKey d b i)) = true then
    (s.parityError d n i).setCell (mereKey d b i) staleCell
  else if s.cellOld tr (mereKey d b i) then s.setCell (mereKey d b i) staleCell else s

theorem Dev.sweepBlock_eq : s.sweepBlock d b n [] = s.each 256 (Dev.sweepRound d b n (timeCode (t31 s.dt))) := rfl

theorem Dev.sweepRound_good {s : Dev} (h : ∀ k, Tab.get false s.mereBad k = false) (i : Nat) : s.sweepRound d b n tr i = s.sweepCell tr (mereKey d b i) :=
  if_neg (by rw [h]; exact Bool.false_ne_true)

/-- The first `N` cells of a block after a visit without parity errors, and every other cell. -/
theorem Dev.swept_each (h : ∀ k, Tab.get false s.mereBad k = false) (N : Nat) :
    let t := s.each N (Dev.sweepRound d b n tr)
    (∀ i < N, t.cell (mereKey d b i) = sweptCell tr (s.cell (mereKey d b i))) ∧ (∀ k, (∀ i < N, k ≠ mereKey d b i) → t.cell k = s.cell k) ∧
    t.dict = s.dict ∧ ∀ k, Tab.get false t.mereBad k = false := by
  induction N with
  | zero => exact ⟨fun i hi => absurd hi (Nat.not_lt_zero i), fun k _ => rfl, rfl, h⟩
  | succ N ih =>
    obtain ⟨hin, hout, hd, hp⟩ := ih
    rw [Dev.each_succ, Dev.sweepRound_good _ _ _ _ hp]
    refine ⟨fun i hi => ?_, fun k hk => ?_, (Dev.dict_sweepCell _ _ _).trans hd, Dev.parity_sweepCell _ _ _ hp⟩
    · by_cases e : i = N
      · subst e
        rw [Dev.cell_sweepCell_same, hout _ fun j hj => by rw [Ne, mereKey_inj]; omega]
      · rw [Dev.cell_sweepCell_other _ _ (by rw [Ne, mereKey_inj]; exact e), hin i (by omega)]
    · rw [Dev.cell_sweepCell_other _ _ (hk N (by omega)), hout k fun i hi => hk i (by omega)]

/-- A visit changes no cell but those of its block and no register but the passes counted. -/
theorem Dev.sweep_shows (hb : s.nextBlock d (Tab.get 0 s.sweepPos d) = some (b, n)) :
    (s.sweep d []).mere = (s.sweepBlock d b n []).mere ∧ (s.sweepBlock d b n []).regsKept (s.sweep d []) [(Obj.sweepPasses d).key] := by
  rw [Dev.sweep]
  simp only [hb]
  generalize s.sweepBlock d b n [] = u
  have hk := (Dev.regsKept.refl u [(Obj.sweepPasses d).key]).meter (Obj.mereLoad d) (64 + s.sweepWrites d b [])
  split
  · exact ⟨rfl, hk.of_dict rfl⟩
  · refine ⟨?_, (hk.of_dict rfl).bump (by simp)⟩
    rw [Dev.bump_mere]
    rfl

end

/-- Settles O31: the gate decides whether an event's cell is written, a visit judges each cell of its block, and a route that waits too long drops. -/
theorem mereAndEddy : Obligations.MereAndEddy := by
  unfold Obligations.MereAndEddy
  intro s d
  simp only [exec, execEddyEvent, execSweepVisit, execFeatureHoldExpiry]
  refine ⟨fun n w ws held bankWait hu hd hb hn hs hk hw hm hx hy => ⟨fun hg => nextHas_runIn hu ?_, fun hg => nextHas_runIn hu ?_⟩,
    fun b n hu hb hn => nextHas_runIn hu ?_, fun p i hw ha hl => nextHas_run hw ?_, fun p i hw ha => nextHas_run hw ?_⟩
  · have hd' : s.dev.fresh.dieOut d = false := hd
    obtain ⟨hc, ho, hsl, ht, hr⟩ := s.dev.fresh.eddyServe_written n (d := d) held bankWait ⟨hb, hn, hs, hk, hw, hm, hx, hy⟩ hg
    rw [hd', if_neg Bool.false_ne_true]
    exact ⟨hc, ho, hsl, ht, hr, s.sameRest_dev _⟩
  · have hd' : s.dev.fresh.dieOut d = false := hd
    obtain ⟨hc, hsl, hr, hkept⟩ := s.dev.fresh.eddyServe_gated n (d := d) held bankWait ⟨hb, hn, hs, hk, hw, hm, hx, hy⟩ hg
    rw [hd', if_neg Bool.false_ne_true]
    exact ⟨hc, hsl, hr, hkept, s.sameRest_dev _⟩
  · obtain ⟨hin, hout, hdict, -⟩ := s.dev.fresh.swept_each d b n (timeCode (t31 s.dev.fresh.dt)) (s.dev.fresh.parityGood hb) 256
    obtain ⟨hmere, hk⟩ := s.dev.fresh.sweep_shows d b n hn
    have hcell : ∀ k, (s.dev.fresh.sweep d []).cell k = (s.dev.fresh.sweepBlock d b n []).cell k := fun k => by rw [Dev.cell, hmere, Dev.cell]
    refine ⟨fun i hi => ?_, fun k hk => ?_, ((s.dev.regsKept_fresh _).of_dict hdict).trans hk, s.sameRest_dev _⟩
    · rw [hcell, Dev.sweepBlock_eq, hin i hi]
      rfl
    · rw [hcell, Dev.sweepBlock_eq, hout k hk]
      rfl
  · rw [if_pos ⟨ha, hl⟩]
    exact ⟨by rw [Tab.get_put_same], rfl, s.dev.regsKept_fresh _, s.sameRest_dev _⟩
  · have ha' : (waiting s.dev.fresh.transit 0).any (fun t => t.route == routeId p i) = false := ha
    rw [ha', if_neg (fun h => Bool.false_ne_true h.1)]
    exact ⟨rfl, s.sameRest_dev _⟩

end Sys2Proof.Machine
end

section
/-! SUPPORT. How a transport takes up a request (R479 to R484): what the dictionary then works on differs from the device that the request met by what the mailbox shows and
by the Sequences of the sessions alone, and none of the checks of R469 reads those. -/

namespace Sys2Proof.Machine

open Sys2Proof

/-- `d` is `s` but for what the mailboxes show and the Sequences of the sessions. -/
def Dev.takenUp (s d : Dev) : Prop :=
  ∃ mb ss, d = { s with mailboxes := mb, sess := ss } ∧ ∀ n, ∃ hi cu, d.session n = { s.session n with highSeq := hi, curSeq := cu }

/-- `t` is `u` but for what the sessions keep. -/
def State.sessionsAside (u t : State) : Prop := t = u ∨ ∃ k, t = u.served k

theorem Dev.takenUp_refl (s : Dev) : s.takenUp s := ⟨s.mailboxes, s.sess, rfl, fun n => ⟨(s.session n).highSeq, (s.session n).curSeq, rfl⟩⟩

theorem Dev.takenUp_issue {s d : Dev} {p m : Nat} {e : Envelope} {r : Request} (h : s.issue p m e r = some d) : s.takenUp d := by
  unfold Dev.issue at h
  split at h
  · cases h
  · exact ⟨_, s.sess, (Option.some.inj h).symm, fun n => ⟨(s.session n).highSeq, (s.session n).curSeq, by rw [← Option.some.inj h]; rfl⟩⟩

theorem Dev.issue_idle {s : Dev} {p m : Nat} (e : Envelope) (r : Request) (h : (Tab.get ({} : Mailbox) s.mailboxes (p * 4 + m)).busy = false) :
    ∃ d, s.issue p m e r = some d := by
  unfold Dev.issue
  rw [if_neg (by rw [h]; exact Bool.false_ne_true)]
  exact ⟨_, rfl⟩

theorem Dev.session_updSession_same (s : Dev) (n : Nat) (f : Session → Session) : (s.updSession n f).session n = f (s.session n) := Tab.get_upd_same ..

theorem Dev.session_updSession_other (s : Dev) {n m : Nat} (f : Session → Session) (h : m ≠ n) : (s.updSession n f).session m = s.session m := Tab.get_upd_other _ _ h

theorem Dev.takenUp_updSession {s : Dev} {n : Nat} {f : Session → Session} (h : ∃ hi cu, f (s.session n) = { s.session n with highSeq := hi, curSeq := cu }) :
    s.takenUp (s.updSession n f) := by
  refine ⟨s.mailboxes, _, rfl, fun m => ?_⟩
  by_cases hm : m = n
  · subst hm
    rw [Dev.session_updSession_same]
    exact h
  · rw [Dev.session_updSession_other _ _ hm]
    exact ⟨(s.session m).highSeq, (s.session m).curSeq, rfl⟩

theorem Dev.takenUp_takeSeq (s : Dev) (k n : Nat) : s.takenUp (s.takeSeq k n) := Dev.takenUp_updSession ⟨_, _, rfl⟩

/-- A Sequence of the next eight is executed (R482). -/
theorem Dev.judgeSeq_next {s : Dev} {k : Fin 2} {n : Nat} (hn : n ≠ 0) (h1 : 1 ≤ stampDiff 32 n (s.session (4 + k.val)).highSeq)
    (h8 : stampDiff 32 n (s.session (4 + k.val)).highSeq ≤ 8) : s.judgeSeq k n = .execute := by
  unfold Dev.judgeSeq
  dsimp only
  rw [if_neg hn, if_pos ⟨h1, h8⟩]

/-- A transport that admits a request hands it to the dictionary, and keeps of it no more than its mailbox and its Sequence. -/
theorem State.carried_next {s : State} {q : Requester} {e : Envelope} {r : Request} (hq : r.q = q) (h : s.dev.admits q e) (hc : carries q r.op = true) :
    ∃ d, s.dev.fresh.takenUp d ∧ ∃ t, s.carried r e = .next t ∧ (State.doRequest { s with dev := d } r).sessionsAside t := by
  obtain ⟨⟨hw, hb, hr⟩, hadm⟩ := h
  have hb' : s.dev.fresh.bootWait = false := hb
  have hr' : s.dev.fresh.bit Obj.securityState 2 = false := hr
  have hmeet : ∀ d, s.dev.fresh.takenUp d → State.meet { s with dev := d } r (fun s => s.doRequest r) = State.doRequest { s with dev := d } r := by
    rintro d ⟨mb, ss, rfl, -⟩
    exact State.meet_open r _ hb hr
  unfold State.carried
  rw [if_neg (by rw [hq, hc]; decide), if_pos hw]
  unfold State.arrive
  rw [if_neg (by rw [hb']; decide), hq]
  cases q with
  | mailbox p m =>
    obtain ⟨d, hd⟩ := Dev.issue_idle (s := s.dev.fresh) e r hadm
    refine ⟨d, Dev.takenUp_issue hd, _, rfl, .inl ?_⟩
    dsimp only
    rw [hr', Bool.false_and, if_neg Bool.false_ne_true, hd]
    exact hmeet d (Dev.takenUp_issue hd)
  | omtos k =>
    obtain ⟨ha, ht, hn, h1, h8⟩ := hadm
    have ha' : s.dev.fresh.slotAttached k.val = true := ha
    have hj : s.dev.fresh.judgeSeq k e.seq.toNat = .execute := Dev.judgeSeq_next (fun h0 => hn (BitVec.eq_of_toNat_eq h0)) h1 h8
    refine ⟨s.dev.fresh.takeSeq k.val e.seq.toNat, Dev.takenUp_takeSeq _ _ _, _, rfl, .inr ⟨k, ?_⟩⟩
    dsimp only
    rw [if_neg (by rw [ha']; decide), if_neg (by rw [ht]; decide), State.omtosRequest, hj]
    exact congrArg (State.served · k) (hmeet _ (Dev.takenUp_takeSeq _ _ _))
  | source ip udp =>
    obtain ⟨hlo, hhi, hv⟩ := hadm
    have htake : s.dev.fresh.takenUp (s.dev.fresh.updSession (sessOf (.source ip udp)) (fun x => { x with omtosVersion := e.version.toNat })) :=
      Dev.takenUp_updSession ⟨(s.dev.session (sessOf (.source ip udp))).highSeq, (s.dev.session (sessOf (.source ip udp))).curSeq, by rw [← hv]; rfl⟩
    refine ⟨_, htake, _, rfl, .inl ?_⟩
    dsimp only
    rw [if_neg (by omega)]
    exact hmeet _ htake
  | can c =>
    have hadm' : s.dev.fresh.canBusy (.can c) = false := hadm
    refine ⟨s.dev.fresh, Dev.takenUp_refl _, _, rfl, .inl ?_⟩
    dsimp only
    rw [hadm', if_neg Bool.false_ne_true]
    exact hmeet _ (Dev.takenUp_refl _)

/-- What a carried request leaves: a property of what the dictionary makes of it, which the end of its Sequence does not touch. -/
theorem State.nextHas_carried {s : State} {q : Requester} {e : Envelope} {r : Request} {p : State → Prop} (hq : r.q = q) (h : s.dev.admits q e)
    (hc : carries q r.op = true) (hd : ∀ d, s.dev.fresh.takenUp d → p (State.doRequest { s with dev := d } r)) (hs : ∀ u k, p u → p (u.served k)) :
    nextHas (s.carried r e) p := by
  obtain ⟨d, htake, t, ht, rfl | ⟨k, rfl⟩⟩ := State.carried_next hq h hc
  · exact ⟨_, ht, hd d htake⟩
  · exact ⟨_, ht, hs _ k (hd d htake)⟩

section
variable {s d : Dev} (h : s.takenUp d)
include h

theorem Dev.takenUp.rd (r : Reg) : d.rd r = s.rd r := by
  obtain ⟨mb, ss, rfl, -⟩ := h
  rfl

theorem Dev.takenUp.out : d.out = s.out := by
  obtain ⟨mb, ss, rfl, -⟩ := h
  rfl

theorem Dev.takenUp.regsKept (ks : List Nat) : s.regsKept d ks := fun r _ => Dev.takenUp.rd h r

theorem Dev.takenUp.session_weirSelect (n : Nat) : (d.session n).weirSelect = (s.session n).weirSelect := by
  obtain ⟨mb, ss, rfl, hs⟩ := h
  obtain ⟨hi, cu, e⟩ := hs n
  rw [e]

theorem Dev.takenUp.session_custodian (n : Nat) : (d.session n).custodian = (s.session n).custodian := by
  obtain ⟨mb, ss, rfl, hs⟩ := h
  obtain ⟨hi, cu, e⟩ := hs n
  rw [e]

theorem Dev.takenUp.session_omtosVersion (n : Nat) : (d.session n).omtosVersion = (s.session n).omtosVersion := by
  obtain ⟨mb, ss, rfl, hs⟩ := h
  obtain ⟨hi, cu, e⟩ := hs n
  rw [e]

theorem Dev.takenUp.slotAttached (k : Nat) : d.slotAttached k = s.slotAttached k := by
  obtain ⟨mb, ss, rfl, -⟩ := h
  rfl

theorem Dev.takenUp.portBound (p : Nat) : d.portBound p = s.portBound p := by
  obtain ⟨mb, ss, rfl, -⟩ := h
  rfl

theorem Dev.takenUp.actsFor (q : Requester) (t : Nat) : d.actsFor q t = s.actsFor q t := by
  obtain ⟨mb, ss, rfl, -⟩ := h
  rfl

theorem Dev.takenUp.ownerOf (o : Own) (e : Nat) : d.ownerOf o e = s.ownerOf o e := by
  obtain ⟨mb, ss, rfl, -⟩ := h
  rfl

theorem Dev.takenUp.weirOwner (w : Nat) : d.weirOwner w = s.weirOwner w := Dev.takenUp.rd h _

theorem Dev.takenUp.isCustodian (q : Requester) : d.isCustodian q = s.isCustodian q := by
  cases q with
  | mailbox p m =>
    obtain ⟨mb, ss, rfl, -⟩ := h
    rfl
  | omtos k => rw [Dev.isCustodian, Dev.takenUp.slotAttached h, Dev.takenUp.session_custodian h, Dev.isCustodian]
  | source _ _ => rfl
  | can _ => rfl

theorem Dev.takenUp.hasRight (q : Requester) (r : Rights) (o : Own) (e : Nat) : d.hasRight q r o e = s.hasRight q r o e := by
  simp only [Dev.hasRight, Dev.takenUp.isCustodian h, Dev.takenUp.actsFor h, Dev.takenUp.ownerOf h, Dev.takenUp.portBound h, Dev.takenUp.slotAttached h,
    Dev.takenUp.weirOwner h, Dev.takenUp.session_weirSelect h]

theorem Dev.takenUp.versionOk (q : Requester) (op : Nat) : d.versionOk q op = s.versionOk q op := by
  simp only [Dev.versionOk, Dev.takenUp.session_omtosVersion h]

theorem Dev.takenUp.pairOk (i k v : Nat) : d.pairOk i k v = s.pairOk i k v := by
  simp only [Dev.pairOk, Dev.takenUp.rd h, Dev.takenUp.weirOwner h]

theorem Dev.takenUp.isStopped (p : Stop) (e : Nat) : d.isStopped p e = s.isStopped p e := by
  obtain ⟨mb, ss, rfl, -⟩ := h
  rfl

theorem Dev.takenUp.readsOnly (i : Nat) : d.readsOnly i = s.readsOnly i := by
  obtain ⟨mb, ss, rfl, -⟩ := h
  rfl

theorem Dev.takenUp.judgeWrite (q : Requester) (op i k : Nat) (data : List Byte) : d.judgeWrite q op i k data = s.judgeWrite q op i k data := by
  simp only [Dev.judgeWrite, Dev.takenUp.versionOk h, Dev.takenUp.hasRight h, Dev.takenUp.pairOk h, Dev.takenUp.isStopped h, Dev.takenUp.readsOnly h]

theorem Dev.takenUp.judgeWriteIf (q : Requester) (i k : Nat) (data : List Byte) : d.judgeWriteIf q i k data = s.judgeWriteIf q i k data := by
  simp only [Dev.judgeWriteIf, Dev.takenUp.versionOk h, Dev.takenUp.hasRight h, Dev.takenUp.pairOk h, Dev.takenUp.isStopped h, Dev.takenUp.readsOnly h]

end

end Sys2Proof.Machine
end

section
/-! WRITE and WRITE_IF (R140, R466, R469, R471, R473, R474): an object that is stored and has no further effect, and the segments of a GridImage. -/

namespace Sys2Proof.Machine

open Sys2Proof

/-! ### Bytes -/

theorem ofLe_lt : ∀ bs : List Byte, ofLe bs < 2 ^ (8 * bs.length)
  | [] => by simp [ofLe]
  | b :: bs => by
    have hb := b.isLt
    have ih := ofLe_lt bs
    rw [ofLe, List.length_cons, show 8 * (bs.length + 1) = 8 + 8 * bs.length by omega, Nat.pow_add]
    omega

/-! ### The objects that are stored and have no further effect -/

/-- The index of an object whose write stores its value and does nothing else. -/
def storedIdx (i : Nat) : Prop := (0x5811 ≤ i ∧ i ≤ 0x5813) ∨ (0x5815 ≤ i ∧ i ≤ 0x581B) ∨ (0x7802 ≤ i ∧ i ≤ 0x780A) ∨ (0x6400 ≤ i ∧ i < 0x6800)

theorem State.writeScalar_stored {s : State} {r : Request} (reg : Reg) (h : storedIdx r.idx) :
    s.writeScalar r reg = { s with dev := (s.dev.wr reg (ofLe r.data)).accept r.q } := by
  unfold storedIdx at h
  unfold State.writeScalar
  dsimp only
  split
  case h_35 =>
    clear * - h
    repeat rw [if_neg (by omega)]
  all_goals exfalso; omega

/-- The octets of an SPI bus's image are stored as they come. -/
theorem State.writeBytes_spi {s : State} {r : Request} (h : 0x5840 ≤ r.idx ∧ r.idx < 0x5848) :
    s.writeBytes r = { s with dev := (s.dev.setBlob (reqReg r) r.data).accept r.q } := by
  unfold State.writeBytes
  dsimp only
  split
  case h_4 => rw [if_neg (by omega), if_neg (by omega)]
  all_goals exfalso; omega

theorem State.writeEffect_scalar {s : State} {r : Request} {row : ObjRow} (h : row.ty.scalar = true) :
    s.writeEffect r row = s.writeScalar r (Reg.at r.idx r.sub (8 * row.ty.size)) := by
  unfold State.writeEffect
  split
  · next e => rw [e] at h; cases h
  · next e => rw [e] at h; cases h
  · next e => rw [e] at h; cases h
  · rfl

theorem State.writeEffect_octets {s : State} {r : Request} {row : ObjRow} {n : Nat} (h : row.ty = .octets n) : s.writeEffect r row = s.writeBytes r := by
  unfold State.writeEffect
  rw [h]

/-- A write of a stored object keeps the value and answers. -/
theorem State.writeEffect_stored {s : State} {r : Request} {row : ObjRow} (h : storedIdx r.idx) (hs : row.ty.scalar = true) :
    s.writeEffect r row = { s with dev := (s.dev.wr (Reg.at r.idx r.sub (8 * row.ty.size)) (ofLe r.data)).accept r.q } := by
  rw [State.writeEffect_scalar hs, State.writeScalar_stored _ h]

/-! ### The rows of the stored objects -/

theorem ObjRow.of_objRow? {i k : Nat} {row : ObjRow} (h : objRow? i k = some row) : row ∈ objRows i ∧ row.holds i k = true :=
  ⟨List.mem_of_find?_eq_some h, by simpa using List.find?_some h⟩

/-- Of the objects of a population, PopState is read-only and CountSnapshot is no scalar. -/
theorem objRows_population : ∀ row ∈ objRows6000 ++ objRows6000b ++ objRows6000c, (row.idx + row.stride * row.n ≤ 0x6400 ∧ row.stride ≠ 0) ∨
    ((row.sub ≤ 1 → 1 < row.sub + row.subs → row.acc = .ro) ∧ (row.sub ≤ 0x15 → 0x15 < row.sub + row.subs → row.ty.scalar = false)) := by
  decide

theorem ObjRow.population {i k : Nat} {row : ObjRow} (h : objRow? i k = some row) (hi : 0x6400 ≤ i ∧ i < 0x6800) :
    (k = 1 → row.acc = .ro) ∧ (k = 0x15 → row.ty.scalar = false) := by
  obtain ⟨hmem, hh⟩ := ObjRow.of_objRow? h
  rw [objRows, show i / 0x800 = 0xC by omega] at hmem
  simp only [ObjRow.holds, Bool.and_eq_true, decide_eq_true_eq] at hh
  obtain ⟨⟨⟨⟨hidx, -⟩, hn⟩, hlo⟩, hhi⟩ := hh
  rcases objRows_population row hmem with ⟨hfar, hstride⟩ | ⟨h1, h15⟩
  · have := Nat.lt_mul_of_div_lt hn (Nat.pos_of_ne_zero hstride)
    rw [Nat.mul_comm] at this
    omega
  · exact ⟨fun e => h1 (e ▸ hlo) (e ▸ hhi), fun e => h15 (e ▸ hlo) (e ▸ hhi)⟩

/-! ### What the checks leave -/

/-- Of an `if` whose first branch is not what it came to, the other branch is. -/
theorem of_ite_eq {α : Type} {c : Prop} [Decidable c] {a b x : α} (h : (if c then a else b) = x) (ha : a ≠ x) : ¬c ∧ b = x := by
  by_cases hc : c
  · rw [if_pos hc] at h
    exact absurd h ha
  · rw [if_neg hc] at h
    exact ⟨hc, h⟩

section
variable {s : Dev} {q : Requester} {i k : Nat} {data : List Byte} {row : ObjRow} (hrow : objRow? i k = some row)
include hrow

theorem Dev.length_of_judgeWrite {op : Nat} (h : s.judgeWrite q op i k data = .ok) (hs : row.ty.scalar = true) : data.length = row.ty.size := by
  unfold Dev.judgeWrite at h
  rw [hrow] at h
  obtain ⟨-, h⟩ := of_ite_eq h (by decide)
  dsimp only at h
  obtain ⟨-, h⟩ := of_ite_eq h (by decide)
  obtain ⟨-, h⟩ := of_ite_eq h (by decide)
  obtain ⟨-, h⟩ := of_ite_eq h (by decide)
  obtain ⟨hlen, -⟩ := of_ite_eq h (by decide)
  cases hty : row.ty <;> simp_all [Ty.scalar]

theorem Dev.of_judgeWriteIf (h : s.judgeWriteIf q i k data = .ok) : row.acc ≠ .ro ∧ row.ty.scalar = true ∧ data.length = 2 * row.ty.size := by
  unfold Dev.judgeWriteIf at h
  rw [hrow] at h
  obtain ⟨-, h⟩ := of_ite_eq h (by decide)
  dsimp only at h
  obtain ⟨hacc, h⟩ := of_ite_eq h (by decide)
  obtain ⟨-, h⟩ := of_ite_eq h (by decide)
  obtain ⟨-, h⟩ := of_ite_eq h (by decide)
  obtain ⟨hlen, -⟩ := of_ite_eq h (by decide)
  simp only [Bool.or_eq_true, Bool.not_eq_true', bne_iff_ne, ne_eq, not_or, not_not, Bool.not_eq_false] at hlen
  exact ⟨fun e => hacc (by rw [e]; rfl), hlen⟩

end

/-- A stored object is served from the dictionary store, with no domain on (R528, R535). -/
theorem Dev.needs_stored {s : Dev} {r : Request} (ho : r.op = 2 ∨ r.op = 3) (h : storedIdx r.idx ∨ (0x5840 ≤ r.idx ∧ r.idx < 0x5848))
    (h15 : 0x6400 ≤ r.idx ∧ r.idx < 0x6800 → r.sub ≠ 0x15) : s.needs r = [] := by
  unfold storedIdx at h
  unfold Dev.needs
  dsimp only
  rw [windowOp, windowReadOp]
  repeat rw [if_neg (by omega)]

/-- A stored object reads as its register. -/
theorem Dev.liveObject_stored {s : Dev} {q : Requester} {i k : Nat} {row : ObjRow} (hrow : objRow? i k = some row) (hs : row.ty.scalar = true) (h : storedIdx i)
    (h1 : 0x6400 ≤ i ∧ i < 0x6800 → k ≠ 1) : s.liveObject q i k = leBytes row.ty.size (s.rd (Reg.at i k (8 * row.ty.size))) := by
  unfold storedIdx at h
  unfold Dev.liveObject
  rw [hrow]
  dsimp only
  rw [if_pos hs]
  congr 1
  unfold Dev.liveValue
  dsimp only
  split
  case h_21 =>
    clear * - h h1
    rw [uncounted, if_neg (by simp only [Bool.or_eq_true, Bool.and_eq_true, beq_iff_eq]; omega)]
    repeat rw [if_neg (by omega)]
  all_goals exfalso; omega

end Sys2Proof.Machine
end

section
/-! WRITE and WRITE_IF as the dictionary does them (R466, R469, R473), and the obligation. -/

namespace Sys2Proof.Machine

open Sys2Proof

/-! ### WRITE -/

section
variable {s : State} {r : Request} (hp : ¬(0x6000 ≤ r.idx ∧ r.idx < 0x6010)) (hsub : r.sub < 256)
include hp hsub

theorem planOf_reqKey : planOf (reqKey r) = none := by
  unfold planOf reqKey
  rw [if_neg (by omega)]

theorem State.writeDo_refused (hj : s.dev.judgeWrite r.q 2 r.idx r.sub r.data ≠ .ok) :
    s.writeDo r = { s with dev := s.dev.refuse r.q (s.dev.judgeWrite r.q 2 r.idx r.sub r.data) } := by
  unfold State.writeDo
  rw [planOf_reqKey hp hsub]
  dsimp only
  rw [if_neg (c := _ ∧ _) (by simp only [Bool.and_eq_true, decide_eq_true_eq]; omega), if_pos hj]

theorem State.writeDo_effect {row : ObjRow} (hj : s.dev.judgeWrite r.q 2 r.idx r.sub r.data = .ok) (hrow : objRow? r.idx r.sub = some row)
    (hc : ¬(0x7200 ≤ r.idx ∧ r.idx < 0x7224)) (hn : s.dev.needs r = []) : s.writeDo r = s.writeEffect r row := by
  unfold State.writeDo
  rw [planOf_reqKey hp hsub, hrow]
  dsimp only
  rw [if_neg (c := _ ∧ _) (by simp only [Bool.and_eq_true, decide_eq_true_eq]; omega), if_neg (by rw [hj]; decide), hn]
  unfold State.reachAll
  rw [if_neg (by simp only [Bool.and_eq_true, decide_eq_true_eq]; omega), if_neg hc]

end

/-! ### WRITE_IF -/

theorem Dev.out_answer (s : Dev) (q : Requester) (st : Status) (data : List Byte) :
    ∃ rest, (s.answer q st data).out = s.out ++ .response q st.code data :: rest := by
  have key : ∀ r : Reg, ∃ rest, (((s.emit (.response q st.code data)).bump r).delivered q st.code data).out = s.out ++ .response q st.code data :: rest := by
    intro r
    cases q with
    | mailbox p m =>
      simp only [Dev.delivered, Dev.mailboxDone]
      split
      · next v _ => exact ⟨[.msix p.val v], by simp [Dev.emit, Dev.bump, Dev.bumpBy, Dev.wr]⟩
      · exact ⟨[], rfl⟩
    | omtos _ => exact ⟨[], rfl⟩
    | source _ _ => exact ⟨[], rfl⟩
    | can _ => exact ⟨[], rfl⟩
  exact key _

theorem Dev.out_accept (s : Dev) (q : Requester) : ∃ rest, (s.accept q).out = s.out ++ .response q 0 [] :: rest := Dev.out_answer s q .ok []

/-- The answer of a write that is accepted is the one that a WRITE_IF finds there (R473). -/
theorem Dev.answeredSince_accept {s t : Dev} (q : Requester) (h : t.out = s.out) : (t.accept q).answeredSince s.out.length q = some 0 := by
  obtain ⟨rest, hr⟩ := Dev.out_accept t q
  rw [Dev.answeredSince, hr, h, List.drop_left]
  simp

section
variable {s : State} {r : Request}

theorem State.writeIfDo_refused (hj : s.dev.judgeWriteIf r.q r.idx r.sub r.data ≠ .ok) :
    s.writeIfDo r = { s with dev := s.dev.refuse r.q (s.dev.judgeWriteIf r.q r.idx r.sub r.data) } := by
  unfold State.writeIfDo
  dsimp only
  rw [if_pos hj]

variable {row : ObjRow} (hj : s.dev.judgeWriteIf r.q r.idx r.sub r.data = .ok) (hrow : objRow? r.idx r.sub = some row) (hn : s.dev.needs r = [])
include hj hrow hn

theorem State.writeIfDo_same (hv : s.dev.liveObject r.q r.idx r.sub = r.data.take row.ty.size) :
    s.writeIfDo r = s.writeEffect { r with op := 2, data := r.data.drop row.ty.size } row := by
  unfold State.writeIfDo
  rw [hrow]
  dsimp only
  rw [if_neg (by rw [hj]; decide), hn]
  unfold State.reachAll
  rw [if_pos hv]

theorem State.writeIfDo_other (hv : s.dev.liveObject r.q r.idx r.sub ≠ r.data.take row.ty.size)
    (ha : (s.writeEffect { r with op := 2, data := r.data.drop row.ty.size } row).dev.answeredSince s.dev.out.length r.q = some 0) :
    s.writeIfDo r = { s with dev := s.dev.answer r.q .mismatch (s.dev.liveObject r.q r.idx r.sub) } := by
  unfold State.writeIfDo
  rw [hrow]
  dsimp only
  rw [if_neg (by rw [hj]; decide), hn]
  unfold State.reachAll
  rw [if_neg hv, ha]
  dsimp only
  rw [if_pos rfl]

end

/-! ### The objects that are stored -/

section
variable {s : State} {r : Request} {row : ObjRow} (hsub : r.sub < 256) (hrow : objRow? r.idx r.sub = some row)
include hrow

theorem Dev.needs_stored_scalar {d : Dev} (ho : r.op = 2 ∨ r.op = 3) (hi : storedIdx r.idx) (hs : row.ty.scalar = true) : d.needs r = [] :=
  Dev.needs_stored ho (.inl hi) (fun h6 e15 => by rw [(ObjRow.population hrow h6).2 e15] at hs; cases hs)

include hsub in
theorem State.writeDo_stored (ho : r.op = 2) (hi : storedIdx r.idx) (hs : row.ty.scalar = true) (hj : s.dev.judgeWrite r.q 2 r.idx r.sub r.data = .ok) :
    s.writeDo r = { s with dev := (s.dev.wr (Reg.at r.idx r.sub (8 * row.ty.size)) (ofLe r.data)).accept r.q } := by
  have hi' := hi
  unfold storedIdx at hi'
  rw [State.writeDo_effect (by omega) hsub hj hrow (by omega) (Dev.needs_stored_scalar hrow (.inl ho) hi hs), State.writeEffect_stored hi hs]

include hsub in
theorem State.writeDo_spi {n : Nat} (ho : r.op = 2) (hi : 0x5840 ≤ r.idx ∧ r.idx < 0x5848) (hty : row.ty = .octets n)
    (hj : s.dev.judgeWrite r.q 2 r.idx r.sub r.data = .ok) : s.writeDo r = { s with dev := (s.dev.setBlob (reqReg r) r.data).accept r.q } := by
  rw [State.writeDo_effect (by omega) hsub hj hrow (by omega) (Dev.needs_stored (.inl ho) (.inr hi) (by omega)), State.writeEffect_octets hty,
    State.writeBytes_spi hi]

variable (ho : r.op = 3) (hi : storedIdx r.idx) (hj : s.dev.judgeWriteIf r.q r.idx r.sub r.data = .ok)
include ho hi hj

theorem State.writeIfDo_stored (hv : s.dev.liveObject r.q r.idx r.sub = r.data.take row.ty.size) :
    s.writeIfDo r = { s with dev := (s.dev.wr (Reg.at r.idx r.sub (8 * row.ty.size)) (ofLe (r.data.drop row.ty.size))).accept r.q } := by
  obtain ⟨-, hs, -⟩ := Dev.of_judgeWriteIf hrow hj
  rw [State.writeIfDo_same hj hrow (Dev.needs_stored_scalar hrow (.inr ho) hi hs) hv]
  exact State.writeEffect_stored (r := { r with op := 2, data := r.data.drop row.ty.size }) hi hs

theorem State.writeIfDo_mismatch (hv : s.dev.liveObject r.q r.idx r.sub ≠ r.data.take row.ty.size) :
    s.writeIfDo r = { s with dev := s.dev.answer r.q .mismatch (s.dev.liveObject r.q r.idx r.sub) } := by
  obtain ⟨-, hs, -⟩ := Dev.of_judgeWriteIf hrow hj
  refine State.writeIfDo_other hj hrow (Dev.needs_stored_scalar hrow (.inr ho) hi hs) hv ?_
  rw [State.writeEffect_stored (r := { r with op := 2, data := r.data.drop row.ty.size }) hi hs]
  exact Dev.answeredSince_accept r.q rfl

end

/-! ### A segment that begins a transfer (R474, R475) -/

/-- The device as its requester's transfer begins: what it had open is closed, and what it was told of an abandonment forgotten. -/
def Dev.transferReady (s : Dev) (q : Requester) : Dev := (s.closeTransfer q).toldAbandoned q

/-- The device once a first segment that is not the last has arrived. -/
def Dev.transferBegun (s : Dev) (r : Request) : Dev :=
  { s.transferReady r.q with transfers := (s.transferReady r.q).transfers ++
    [({ q := r.q, key := reqKey r, writing := true, data := r.data, next := r.offset + r.data.length, lastF := s.rf } : Transfer)] }

section
variable {s : State} {r : Request} {max : Nat} {finish : List Byte → State → State × Status} (hf : r.first = true) (h0 : r.offset = 0)
  (hl : r.data.length ≤ segLimit r.q) (hb : s.dev.transferBusy r.q (reqKey r) true = false) (hm : r.data.length ≤ max)
include hf h0 hl hb hm

theorem Dev.judgeSegment_first : s.dev.judgeSegment r .ok max = .ok := by
  unfold Dev.judgeSegment
  rw [if_neg (by omega), if_pos hf, if_neg (by omega), if_neg (by rw [hb]; decide), if_neg (by omega)]

omit hf h0 hl hm in
theorem Dev.transferOf_idle : s.dev.transferOf r.q = none := by
  unfold Dev.transferBusy at hb
  simpa using (Bool.or_eq_false_iff.mp (Bool.or_eq_false_iff.mp hb).1).1

/-- A first segment that is not the last opens the transfer. -/
theorem State.segment_opens (hlast : r.last = false) :
    s.segment r .ok max id finish = { s with dev := (s.dev.transferBegun r).accept r.q } := by
  unfold State.segment State.segmentWith
  dsimp only
  rw [Dev.judgeSegment_first hf h0 hl hb hm, Dev.transferOf_idle hb, if_neg (by rw [hf]; exact Bool.false_ne_true), if_neg (by decide), if_pos hf,
    if_neg (by rw [hlast]; decide)]
  rfl

/-- A first segment that is the last is the whole content. -/
theorem State.segment_whole (hlast : r.last = true) :
    s.segment r .ok max id finish =
      { (finish r.data { s with dev := s.dev.transferReady r.q }).1 with
        dev := (finish r.data { s with dev := s.dev.transferReady r.q }).1.dev.replyStatus r.q
          (finish r.data { s with dev := s.dev.transferReady r.q }).2 } := by
  unfold State.segment State.segmentWith
  dsimp only
  rw [Dev.judgeSegment_first hf h0 hl hb hm, Dev.transferOf_idle hb, if_neg (by rw [hf]; exact Bool.false_ne_true), if_neg (by decide), if_pos hf,
    if_pos hlast]
  rfl

end

end Sys2Proof.Machine
end

section
/-! The writes of the dictionary (R140, R466, R469, R471, R473, R474). -/

namespace Sys2Proof.Machine

open Sys2Proof

/-! ### A GridImage -/

theorem reqKey_segReq (q : Requester) (r : Reg) (g : Seg) : reqKey (segReq q r g) = r.key := Nat.div_add_mod' r.key 256

theorem segLimit_le (q : Requester) : segLimit q ≤ 0xFFFF := by
  cases q <;> simp [segLimit]

section
variable {s : State} {q : Requester} {n : Fin 36} {g : Seg} (ho : s.dev.opened)
  (hj : s.dev.judgeWrite q 2 ((Obj.gridImage n.val).key / 256) ((Obj.gridImage n.val).key % 256) g.data = .ok) (hf : g.first = true) (h0 : g.offset = 0)
  (hl : g.data.length ≤ segLimit q) (hb : s.dev.transferBusy q (Obj.gridImage n.val).key true = false)
include ho hj

theorem gridImageWrite_next : execGridImageWrite q n g s = .next (s.start.gridSegment (segReq q (Obj.gridImage n.val) g) n.val) := by
  unfold execGridImageWrite State.askedSegment
  dsimp only
  rw [State.request_opened _ _ ho]
  exact congrArg _ (if_pos hj)

include hf h0 hl hb

/-- A first segment of a GridImage that is not the last leaves the image as it was (R474). -/
theorem gridImageWrite_opens (hlast : g.last = false) :
    execGridImageWrite q n g s = .next { s with dev := (s.dev.fresh.transferBegun (segReq q (Obj.gridImage n.val) g)).accept q } := by
  have hb' : s.start.dev.transferBusy q (reqKey (segReq q (Obj.gridImage n.val) g)) true = false := by rw [reqKey_segReq]; exact hb
  have hle := segLimit_le q
  rw [gridImageWrite_next ho hj, State.gridSegment, State.segment_opens (s := s.start) (r := segReq q (Obj.gridImage n.val) g) hf h0 hl hb'
    (Nat.le_trans hl (Nat.le_trans hle (by decide))) hlast]
  rfl

/-- The only segment of a GridImage is its whole content (R140). -/
theorem gridImageWrite_whole (hlast : g.last = true) :
    execGridImageWrite q n g s = .next { s with dev :=
      (((s.dev.fresh.transferReady q).gridLoad n.val g.data).1.replyStatus q ((s.dev.fresh.transferReady q).gridLoad n.val g.data).2) } := by
  have hb' : s.start.dev.transferBusy q (reqKey (segReq q (Obj.gridImage n.val) g)) true = false := by rw [reqKey_segReq]; exact hb
  have hle := segLimit_le q
  rw [gridImageWrite_next ho hj, State.gridSegment, State.segment_whole (s := s.start) (r := segReq q (Obj.gridImage n.val) g) hf h0 hl hb'
    (Nat.le_trans hl (Nat.le_trans hle (by decide))) hlast]
  rfl

end

theorem Dev.gridLoad_ragged (s : Dev) (n : Nat) {bs : List Byte} (h : bs.length % 4 ≠ 0) : s.gridLoad n bs = (s, .range) := if_pos (.inl h)

theorem Dev.gridLoad_whole (s : Dev) (n : Nat) {bs : List Byte} (h : bs.length % 4 = 0) (hl : bs.length ≤ 131072) :
    s.gridLoad n bs = ((s.setBlob (Obj.gridImage n) bs).wr (Obj.gridNodes n) (bs.length / 4), .ok) := if_neg (by omega)

theorem Dev.regsKept_transferBegun (s : Dev) (r : Request) (ks : List Nat) : s.regsKept (s.fresh.transferBegun r) ks := fun _ _ => rfl

theorem Dev.blob_replyStatus (s : Dev) (q : Requester) (st : Status) (r : Reg) : (s.replyStatus q st).blob r = s.blob r := by
  rw [Dev.blob, Dev.replyStatus, Dev.answer_blobs, Dev.blob]

/-! ### The clauses -/

theorem Dev.takenUp.judgeWrite_start {s d : Dev} (h : s.fresh.takenUp d) (q : Requester) (op i k : Nat) (data : List Byte) :
    d.judgeWrite q op i k data = s.judgeWrite q op i k data := (h.judgeWrite ..).trans (Dev.judgeWrite_fresh ..)

theorem Dev.takenUp.judgeWriteIf_start {s d : Dev} (h : s.fresh.takenUp d) (q : Requester) (i k : Nat) (data : List Byte) :
    d.judgeWriteIf q i k data = s.judgeWriteIf q i k data := h.judgeWriteIf ..

/-- What a refused request leaves. -/
theorem Dev.takenUp.refused {s d : Dev} (h : s.fresh.takenUp d) (q : Requester) (st : Status) : (d.refuse q st).told q st ∧ s.regsKeptAnswered (d.refuse q st) [] :=
  ⟨Dev.told_refuse _ _ _, (((s.regsKept_fresh _).trans (Dev.takenUp.regsKept h _)).refuse q _)⟩

/-- What a stored write leaves. -/
theorem Dev.takenUp.stored {s d : Dev} (h : s.fresh.takenUp d) (q : Requester) {i k b : Nat} {v : Nat} (hk : k < 256) (hi : storedIdx i) (hv : v < 2 ^ b) :
    ((d.wr (Reg.at i k b) v).accept q).told q .ok ∧ ((d.wr (Reg.at i k b) v).accept q).rd (Reg.at i k b) = v ∧
    s.regsKeptAnswered ((d.wr (Reg.at i k b) v).accept q) [i * 256 + k] := by
  refine ⟨Dev.told_accept _ _, ?_, (((s.regsKept_fresh _).trans (Dev.takenUp.regsKept h _)).wr _ (by simp)).accept q⟩
  rw [Dev.rd_accept _ _ (by unfold storedIdx at hi; simp only [Reg.at_key]; omega), Dev.rd_wr_fits _ _ hv]

/-- A stored object reads the same while its request is taken up. -/
theorem Dev.takenUp.liveObject_stored {s d : Dev} (h : s.fresh.takenUp d) {q : Requester} {i k : Nat} {data : List Byte} {row : ObjRow}
    (hrow : objRow? i k = some row) (hi : storedIdx i) (hj : s.judgeWriteIf q i k data = .ok) : d.liveObject q i k = s.liveObject q i k := by
  obtain ⟨hacc, hs, -⟩ := Dev.of_judgeWriteIf hrow hj
  have h1 : 0x6400 ≤ i ∧ i < 0x6800 → k ≠ 1 := fun h6 e1 => hacc ((ObjRow.population hrow h6).1 e1)
  rw [Dev.liveObject_stored hrow hs hi h1, Dev.liveObject_stored hrow hs hi h1, h.rd, Dev.rd_fresh]

/-- Every transport but CAN FD carries a WRITE_IF (R466). -/
theorem carries_writeIf {q : Requester} (hq : ∀ c, q ≠ .can c) : carries q 3 = true := by
  cases q with
  | mailbox _ _ => rfl
  | omtos _ => rfl
  | source _ _ => rfl
  | can c => exact absurd rfl (hq c)

theorem State.rd_served (u : State) (k : Fin 2) (r : Reg) : (u.served k).dev.rd r = u.dev.rd r := by
  rw [State.served, Dev.rd, Dev.updSession_dict, Dev.rd]

theorem State.blob_served (u : State) (k : Fin 2) (r : Reg) : (u.served k).dev.blob r = u.dev.blob r := by
  rw [State.served, Dev.blob, Dev.updSession_blobs, Dev.blob]

theorem Dev.regsKeptAnswered_served {s : Dev} {u : State} {ks : List Nat} (h : s.regsKeptAnswered u.dev ks) (k : Fin 2) :
    s.regsKeptAnswered (u.served k).dev ks := fun r hr hk => (u.rd_served k r).trans (h r hr hk)

section
variable {s : State} {e : Envelope} {r : Request} (hadm : s.dev.admits r.q e) (hsub : r.sub < 256)

section
variable (ho : r.op = 2)
include hadm hsub ho

omit hadm hsub in
theorem State.doRequest_write (u : State) : u.doRequest r = u.writeDo r := by
  unfold State.doRequest
  rw [ho]
  rfl

omit hadm hsub in
theorem carries_write : carries r.q r.op = true := by
  rw [ho]
  cases r.q <;> rfl

theorem State.carried_write_refused (hp : ¬(0x6000 ≤ r.idx ∧ r.idx < 0x6010)) (hj : s.dev.judgeWrite r.q 2 r.idx r.sub r.data ≠ .ok) :
    nextHas (s.carried r e) (fun t => t.dev.told r.q (s.dev.judgeWrite r.q 2 r.idx r.sub r.data) ∧ s.dev.regsKeptAnswered t.dev [] ∧ s.sameRest t) := by
  refine State.nextHas_carried rfl hadm (carries_write ho) (fun d hd => ?_)
    (fun u k ⟨h1, h2, h3⟩ => ⟨h1, Dev.regsKeptAnswered_served h2 k, h3⟩)
  obtain ⟨htold, hkept⟩ := hd.refused r.q (s.dev.judgeWrite r.q 2 r.idx r.sub r.data)
  have hj' : d.judgeWrite r.q 2 r.idx r.sub r.data = s.dev.judgeWrite r.q 2 r.idx r.sub r.data := hd.judgeWrite_start ..
  rw [State.doRequest_write ho, State.writeDo_refused hp hsub (by rwa [hj'])]
  dsimp only
  rw [hj']
  exact ⟨htold, hkept, s.sameRest_dev _⟩

variable {row : ObjRow} (hj : s.dev.judgeWrite r.q 2 r.idx r.sub r.data = .ok) (hrow : objRow? r.idx r.sub = some row)
include hj hrow

theorem State.carried_write_stored (hi : storedIdx r.idx) (hs : row.ty.scalar = true) :
    nextHas (s.carried r e) (fun t => t.dev.told r.q .ok ∧ t.dev.rd (Reg.at r.idx r.sub (8 * row.ty.size)) = ofLe r.data ∧
      s.dev.regsKeptAnswered t.dev [r.idx * 256 + r.sub] ∧ s.sameRest t) := by
  refine State.nextHas_carried rfl hadm (carries_write ho) (fun d hd => ?_)
    (fun u k ⟨h1, h2, h3, h4⟩ => ⟨h1, (u.rd_served k _).trans h2, Dev.regsKeptAnswered_served h3 k, h4⟩)
  obtain ⟨htold, hrd, hkept⟩ := hd.stored r.q (b := 8 * row.ty.size) hsub hi (Dev.length_of_judgeWrite hrow hj hs ▸ ofLe_lt r.data)
  rw [State.doRequest_write ho, State.writeDo_stored (s := { s with dev := d }) hsub hrow ho hi hs ((hd.judgeWrite_start ..).trans hj)]
  exact ⟨htold, hrd, hkept, s.sameRest_dev _⟩

theorem State.carried_write_spi (hi : 0x5840 ≤ r.idx ∧ r.idx < 0x5848) {n : Nat} (hty : row.ty = .octets n) :
    nextHas (s.carried r e) (fun t => t.dev.told r.q .ok ∧ t.dev.blob (Reg.at r.idx r.sub 0) = r.data ∧ s.dev.regsKeptAnswered t.dev [] ∧ s.sameRest t) := by
  refine State.nextHas_carried rfl hadm (carries_write ho) (fun d hd => ?_)
    (fun u k ⟨h1, h2, h3, h4⟩ => ⟨h1, (u.blob_served k _).trans h2, Dev.regsKeptAnswered_served h3 k, h4⟩)
  rw [State.doRequest_write ho, State.writeDo_spi (s := { s with dev := d }) hsub hrow ho hi hty ((hd.judgeWrite_start ..).trans hj)]
  refine ⟨Dev.told_accept _ _, ?_, (((s.dev.regsKept_fresh _).trans (hd.regsKept _)).setBlob _ _).accept _, s.sameRest_dev _⟩
  rw [Dev.blob_accept]
  exact Dev.blob_setBlob_same _ _ _

end

section
variable (ho : r.op = 3) (hq : ∀ c, r.q ≠ .can c)
include hadm ho hq

omit hadm hq in
theorem State.doRequest_writeIf (u : State) : u.doRequest r = u.writeIfDo r := by
  unfold State.doRequest
  rw [ho]
  rfl

theorem State.carried_writeIf_refused (hj : s.dev.judgeWriteIf r.q r.idx r.sub r.data ≠ .ok) :
    nextHas (s.carried r e) (fun t => t.dev.told r.q (s.dev.judgeWriteIf r.q r.idx r.sub r.data) ∧ s.dev.regsKeptAnswered t.dev [] ∧ s.sameRest t) := by
  refine State.nextHas_carried rfl hadm (ho ▸ carries_writeIf hq) (fun d hd => ?_)
    (fun u k ⟨h1, h2, h3⟩ => ⟨h1, Dev.regsKeptAnswered_served h2 k, h3⟩)
  obtain ⟨htold, hkept⟩ := hd.refused r.q (s.dev.judgeWriteIf r.q r.idx r.sub r.data)
  have hj' : d.judgeWriteIf r.q r.idx r.sub r.data = s.dev.judgeWriteIf r.q r.idx r.sub r.data := hd.judgeWriteIf_start ..
  rw [State.doRequest_writeIf ho, State.writeIfDo_refused (by rwa [hj'])]
  dsimp only
  rw [hj']
  exact ⟨htold, hkept, s.sameRest_dev _⟩

variable {row : ObjRow} (hj : s.dev.judgeWriteIf r.q r.idx r.sub r.data = .ok) (hrow : objRow? r.idx r.sub = some row) (hi : storedIdx r.idx)
include hj hrow hi

include hsub in
theorem State.carried_writeIf_stored (hv : s.dev.liveObject r.q r.idx r.sub = r.data.take row.ty.size) :
    nextHas (s.carried r e) (fun t => t.dev.told r.q .ok ∧ t.dev.rd (Reg.at r.idx r.sub (8 * row.ty.size)) = ofLe (r.data.drop row.ty.size) ∧
      s.dev.regsKeptAnswered t.dev [r.idx * 256 + r.sub] ∧ s.sameRest t) := by
  refine State.nextHas_carried rfl hadm (ho ▸ carries_writeIf hq) (fun d hd => ?_)
    (fun u k ⟨h1, h2, h3, h4⟩ => ⟨h1, (u.rd_served k _).trans h2, Dev.regsKeptAnswered_served h3 k, h4⟩)
  obtain ⟨-, -, hlen⟩ := Dev.of_judgeWriteIf hrow hj
  have hrest : (r.data.drop row.ty.size).length = row.ty.size := by rw [List.length_drop]; omega
  have hfits := ofLe_lt (r.data.drop row.ty.size)
  rw [hrest] at hfits
  obtain ⟨htold, hrd, hkept⟩ := hd.stored r.q (b := 8 * row.ty.size) hsub hi hfits
  rw [State.doRequest_writeIf ho, State.writeIfDo_stored (s := { s with dev := d }) hrow ho hi ((hd.judgeWriteIf_start ..).trans hj)
    ((hd.liveObject_stored hrow hi hj).trans hv)]
  exact ⟨htold, hrd, hkept, s.sameRest_dev _⟩

theorem State.carried_writeIf_mismatch (hv : s.dev.liveObject r.q r.idx r.sub ≠ r.data.take row.ty.size) :
    nextHas (s.carried r e) (fun t => .response r.q Status.mismatch.code (s.dev.liveObject r.q r.idx r.sub) ∈ t.dev.out ∧
      s.dev.regsKeptAnswered t.dev [] ∧ s.sameRest t) := by
  refine State.nextHas_carried rfl hadm (ho ▸ carries_writeIf hq) (fun d hd => ?_)
    (fun u k ⟨h1, h2, h3⟩ => ⟨h1, Dev.regsKeptAnswered_served h2 k, h3⟩)
  have hlive := hd.liveObject_stored hrow hi hj
  rw [State.doRequest_writeIf ho, State.writeIfDo_mismatch (s := { s with dev := d }) hrow ho hi ((hd.judgeWriteIf_start ..).trans hj) (hlive ▸ hv)]
  refine ⟨?_, fun x hx hk => (Dev.rd_answer _ _ _ _ hx).trans (hd.rd x), s.sameRest_dev _⟩
  dsimp only
  rw [hlive]
  exact Dev.response_answer _ _ _ _

end

end

/-- Settles O49: a transport that admits the request hands it to the dictionary as it stands, whose checks see neither mailboxes nor Sequences; a stored object takes the plain
arm of the write; and a GridImage is replaced as its only segment ends. -/
theorem objectsAreWritten : Obligations.ObjectsAreWritten := by
  intro s q e idx sub data
  have hsub : sub.toNat < 256 := sub.isLt
  refine ⟨fun hadm => ⟨fun g hg hp hj => ?_, fun g row hg hj hrow => ⟨fun hi hs => ?_, fun hi ⟨n, hty⟩ => ?_⟩,
    fun hq => ⟨fun hj => ?_, fun row hj hrow hi => ⟨fun hv => ?_, fun hv => ?_⟩⟩⟩,
    fun n g hr hj hf h0 hl hb => ⟨fun hlast => ?_, fun hlast hlen => ?_, fun hlast hlen => ?_⟩⟩
  · subst hg
    exact State.carried_write_refused hadm hsub rfl hp hj
  · subst hg
    exact State.carried_write_stored hadm hsub rfl hj hrow hi hs
  · subst hg
    exact State.carried_write_spi hadm hsub rfl hj hrow hi hty
  · exact State.carried_writeIf_refused hadm rfl hq hj
  · exact State.carried_writeIf_stored hadm hsub rfl hq hj hrow hi hv
  · exact State.carried_writeIf_mismatch hadm rfl hq hj hrow hi hv
  · rw [show exec (.gridImageWrite q n g) s = _ from gridImageWrite_opens hr.1 hj hf h0 hl hb hlast]
    refine ⟨_, rfl, Dev.told_accept _ _, ?_, ?_, (s.dev.regsKept_transferBegun _ _).accept q, s.sameRest_dev _⟩
    · rw [Dev.blob_accept]
      rfl
    · rw [Dev.accept_transfers]
      exact ⟨_, List.mem_append_right _ (List.mem_singleton.mpr rfl), rfl, reqKey_segReq _ _ _, rfl, rfl⟩
  · rw [show exec (.gridImageWrite q n g) s = _ from gridImageWrite_whole hr.1 hj hf h0 hl hb hlast, Dev.gridLoad_ragged _ _ hlen]
    refine ⟨_, rfl, Dev.told_replyStatus _ _ _, ?_, fun r hr _ => Dev.rd_replyStatus _ _ _ hr, s.sameRest_dev _⟩
    rw [Dev.blob_replyStatus]
    rfl
  · have hle := segLimit_le q
    rw [show exec (.gridImageWrite q n g) s = _ from gridImageWrite_whole hr.1 hj hf h0 hl hb hlast, Dev.gridLoad_whole _ _ hlen (by omega)]
    refine ⟨_, rfl, Dev.told_replyStatus _ _ _, ?_, ?_, ?_, s.sameRest_dev _⟩
    · rw [Dev.blob_replyStatus]
      exact Dev.blob_setBlob_same _ _ _
    · rw [Dev.rd_replyStatus _ _ _ (by simp only [Obj.gridNodes, Reg.at_key]; omega)]
      exact Dev.rd_wr_fits _ _ (by simp only [Obj.gridNodes, Reg.at_bits]; omega)
    · exact fun r hr hk => (Dev.rd_replyStatus _ _ _ hr).trans (Dev.rd_wr_other _ _ (fun e => hk (by simp [e])))

end Sys2Proof.Machine
end

section
/-! What the packets of one port touch (R118 to R153): its own registers, and the fault queues where its spill ring is refused. -/

namespace Sys2Proof.Machine

open Sys2Proof

/-- The register is one of port `m`'s objects. -/
def Reg.ofPort (m : Nat) (r : Reg) : Prop := 0x4000 + 16 * m ≤ r.key / 256 ∧ r.key / 256 < 0x4010 + 16 * m

/-- The register is none of port `m`'s objects, and none that a fault entry counts in. -/
def Reg.elsewhere (m : Nat) (r : Reg) : Prop := r.unfaulted ∧ ¬ r.ofPort m

/-- From `s` to `t` no register but port `m`'s, and no byte string, changed, fault entries aside. -/
def Dev.portOnly (m : Nat) (s t : Dev) : Prop := t.blobs = s.blobs ∧ ∀ r : Reg, r.elsewhere m → t.rd r = s.rd r

theorem Reg.elsewhere.ne {m : Nat} {r r' : Reg} (h : r.elsewhere m) (h' : r'.ofPort m) : r.key ≠ r'.key := fun e => by
  obtain ⟨-, hn⟩ := h
  unfold Reg.ofPort at hn h'
  rw [e] at hn
  exact hn h'

theorem ofPort_streamCounter (m : Nat) {k : Nat} (hk : k < 255) : (stCtr m k).ofPort m := by
  simp only [Reg.ofPort, stCtr, Obj.streamCounter, Reg.at_key]
  omega

theorem ofPort_streamState (m : Nat) : (Obj.streamState m).ofPort m := by
  simp only [Reg.ofPort, Obj.streamState, Reg.at_key]
  omega

theorem ofPort_spillPeak (m : Nat) : (Obj.spillPeak m).ofPort m := by
  simp only [Reg.ofPort, Obj.spillPeak, Reg.at_key]
  omega

theorem ofPort_hotListCount (m : Nat) : (Obj.hotListCount m).ofPort m := by
  simp only [Reg.ofPort, Obj.hotListCount, Reg.at_key]
  omega

/-- An offered extreme changes the lifetime recorder's accumulator and nothing else. -/
theorem Dev.sedExtreme_only (s : Dev) (off : Nat) (least : Bool) (v : Int) : ∃ l, s.sedExtreme off least v = { s with sedLive := l } := by
  unfold Dev.sedExtreme
  extract_lets b
  cases b with
  | true => exact ⟨_, rfl⟩
  | false => exact ⟨s.sedLive, rfl⟩

theorem Dev.portOnly.refl (m : Nat) (s : Dev) : s.portOnly m s := ⟨rfl, fun _ _ => rfl⟩

section
variable {m : Nat} {s t u : Dev} (h : s.portOnly m t)
include h

theorem Dev.portOnly.trans (h' : t.portOnly m u) : s.portOnly m u := ⟨h'.1.trans h.1, fun r hr => (h'.2 r hr).trans (h.2 r hr)⟩

theorem Dev.portOnly.wr {r : Reg} (v : Nat) (hr : r.ofPort m) : s.portOnly m (t.wr r v) :=
  ⟨h.1, fun r' hr' => (t.rd_wr_other v (hr'.ne hr)).trans (h.2 r' hr')⟩

theorem Dev.portOnly.bump {k : Nat} (hk : k < 255) : s.portOnly m (t.bump (stCtr m k)) := h.wr _ (ofPort_streamCounter m hk)

theorem Dev.portOnly.bumpBy {k : Nat} (v : Nat) (hk : k < 255) : s.portOnly m (t.bumpBy (stCtr m k) v) := h.wr _ (ofPort_streamCounter m hk)

theorem Dev.portOnly.updStr (n : Nat) (f : Stream → Stream) : s.portOnly m (t.updStr n f) := h

theorem Dev.portOnly.updClock (n : Nat) (f : ClockMap → ClockMap) : s.portOnly m (t.updClock n f) := h

theorem Dev.portOnly.meter (r : Reg) (k : Nat) : s.portOnly m (t.meter r k) := h

theorem Dev.portOnly.lose (n k : Nat) : s.portOnly m (t.lose n k) := h

theorem Dev.portOnly.sedExtreme (off : Nat) (least : Bool) (v : Int) : s.portOnly m (t.sedExtreme off least v) := by
  obtain ⟨l, e⟩ := t.sedExtreme_only off least v
  rw [e]
  exact h

theorem Dev.portOnly.clockStart (ps : Nat) : s.portOnly m (t.clockStart m ps) := by
  unfold Dev.clockStart
  split
  · exact h
  · exact h.updClock _ _

theorem Dev.portOnly.markArrives (ps : Nat) : s.portOnly m (t.markArrives m ps) := by
  unfold Dev.markArrives
  split
  · exact h
  · exact (h.clockStart ps).updClock _ _

end

/-! ### A word and its way into the queue -/

theorem Dev.blobs_mergeFault (s : Dev) (q : Nat) (p : FaultEntry → Bool) : (s.mergeFault q p).blobs = s.blobs := by
  unfold Dev.mergeFault
  split <;> rfl

theorem Dev.blobs_detectFor_plan (s : Dev) (e : Elem) (detail owner : Nat) {q : Nat} (h4 : 4 ≤ q) : (s.detectFor q 0x20 e detail owner).blobs = s.blobs := by
  simp only [Dev.detectFor, true_or, if_true]
  split
  · rfl
  · unfold Dev.detectReport
    dsimp only
    split
    · exact Dev.blobs_mergeFault _ _ _
    · split
      · rw [if_neg (by omega)]
        rfl
      · rfl

theorem Dev.blobs_regionRefuse_stream (s : Dev) (t n a : Nat) : (s.regionRefuse t 5 n a).blobs = s.blobs :=
  Dev.blobs_detectFor_plan _ _ _ _ (by
    simp only [Elem.queue]
    split <;> omega)

section
variable {m : Nat} {s t : Dev} (h : s.portOnly m t)
include h

theorem Dev.portOnly.spillMove : s.portOnly m (t.spillMove m) := h

theorem Dev.portOnly.setBit (i : Nat) (b : Bool) : s.portOnly m (t.setBit (Obj.streamState m) i b) := h.wr _ (ofPort_streamState m)

theorem Dev.portOnly.raisePeak (v : Nat) : s.portOnly m (t.raiseTo (Obj.spillPeak m) v) := by
  unfold Dev.raiseTo
  split
  · exact h.wr _ (ofPort_spillPeak m)
  · exact h

theorem Dev.portOnly.ringPut (w : Nat) : s.portOnly m (t.ringPut m w) := by
  refine ⟨Eq.trans ?_ h.1, fun r hr => (t.rd_ringPut m w hr.1).trans (h.2 r hr)⟩
  simp only [Dev.ringPut]
  split
  · exact Dev.blobs_regionRefuse_stream _ _ _ _
  · rfl

theorem Dev.portOnly.pushWord (w : Nat) : s.portOnly m (t.pushWord m w) := by
  unfold Dev.pushWord
  dsimp only
  split
  · exact h.updStr _ _
  · split
    · exact ((((h.ringPut w).spillMove).bump (by omega)).setBit _ _).raisePeak _
    · exact ((h.bump (by omega)).lose _ _).updStr _ _

theorem Dev.portOnly.gap (x : Nat) : s.portOnly m (t.gap m x) := by
  unfold Dev.gap
  extract_lets y win lost
  split
  · exact ((h.updStr m _).pushWord _).bump (by omega)
  · exact h

theorem Dev.portOnly.acceptEvent (w : Nat) : s.portOnly m (t.acceptEvent m w) := (h.gap _).pushWord _

/-! ### The path of an event -/

theorem Dev.portOnly.hotAdd (c : Nat × Nat) : s.portOnly m (t.hotAdd m c) := by
  unfold Dev.hotAdd
  split
  · exact h
  · split
    · exact (h.updStr m _).wr _ (ofPort_hotListCount m)
    · exact h.bump (by omega)

theorem Dev.portOnly.hotClose : s.portOnly m (t.hotClose m) := by
  unfold Dev.hotClose
  dsimp only
  split
  · exact (foldl_holds (s.portOnly m) _ (fun _ c hu => hu.hotAdd c) _ h).updStr m _
  · exact h.updStr m _

theorem Dev.portOnly.hotRoll : s.portOnly m (t.hotRoll m) := by
  unfold Dev.hotRoll
  dsimp only
  split
  · exact h
  · exact h.hotClose

theorem Dev.portOnly.floodGate : s.portOnly m (t.floodGate m).1 := by
  unfold Dev.floodGate
  dsimp only
  split
  · exact (h.updStr m _).updStr m _
  · exact (((h.updStr m _).bump (by omega)).lose _ _).updStr m _

theorem Dev.portOnly.countRate : s.portOnly m (t.countRate m) := by
  unfold Dev.countRate
  dsimp only
  split
  · exact (h.sedExtreme _ _ _).meter _ _
  · exact h.meter _ _

theorem Dev.portOnly.retime (ps : Nat) : s.portOnly m (t.retime m ps).1 := by
  unfold Dev.retime
  dsimp only
  split
  · split
    · exact (h.clockStart ps).bump (by omega)
    · exact (h.clockStart ps).updStr m _
  · exact (h.clockStart ps).updStr m _

theorem Dev.portOnly.emitEvent (x y pol ps : Nat) : s.portOnly m (t.emitEvent m x y pol ps) := by
  unfold Dev.emitEvent
  dsimp only
  split
  · exact h.bump (by omega)
  · have hroll := (((h.bump (show 0 < 255 by omega)).countRate).retime ps).hotRoll
    split
    · exact hroll.bump (by omega)
    · split
      · have hgate := (hroll.updStr m (fun z => { z with cand := bumpCand (x * 4096 + y) z.cand })).floodGate
        split
        · exact hgate.acceptEvent _
        · exact hgate
      · split
        · exact hroll.floodGate.acceptEvent _
        · exact hroll.floodGate

/-! ### Sensor words -/

theorem Dev.portOnly.extendTr (v : Nat) : s.portOnly m (t.extendTr m v).1 := h.updStr m _

theorem Dev.portOnly.sensorPs (v : Nat) : s.portOnly m (t.sensorPs m v).1 := h.extendTr v

theorem Dev.portOnly.emitVector (a width xb y pol ps : Nat) : s.portOnly m (t.emitVector m a width xb y pol ps) := by
  refine Dev.each_holds (s.portOnly m) h (fun i _ u hu => ?_)
  split
  · exact hu.emitEvent _ _ _ _
  · exact hu

theorem Dev.portOnly.decodeWord (w : Nat) : s.portOnly m (t.decodeWord m w) := by
  unfold Dev.decodeWord
  dsimp only
  split
  · exact (h.updStr m _).extendTr _
  · exact h.updStr m _
  · exact h.updStr m _
  · exact (h.sensorPs _).emitEvent _ _ _ _
  · exact ((h.sensorPs _).emitVector _ _ _ _ _ _).updStr m _
  · split
    · exact (h.sensorPs _).markArrives _
    · exact h.sensorPs _
  · exact h.bump (by omega)
  · exact h

theorem Dev.portOnly.decodePayload (payload : List Byte) (count : Nat) : s.portOnly m (t.decodePayload m payload count) :=
  Dev.each_holds (s.portOnly m) h (fun _ _ _ hu => hu.decodeWord _)

theorem Dev.portOnly.flowDatagram (payload : List Byte) : s.portOnly m (t.flowDatagram m payload) := by
  unfold Dev.flowDatagram
  split
  · exact h.bump (by omega)
  · extract_lets seq d
    split
    · exact h.bump (by omega)
    · exact ((h.bumpBy _ (by omega)).updStr m _).decodePayload _ _

end

end Sys2Proof.Machine
end

section
/-! Packets and datagrams (R118 to R123, R134 to R139, R148, R149): one sensor word, and the one event it makes. -/

namespace Sys2Proof.Machine

open Sys2Proof

/-! ### A sensor word and its table entry (R134) -/

section
variable (s : Dev) (n : Nat)

/-- The entry of stream `n`'s decode table that sensor word `w` selects. -/
def Dev.tableEntry (w : Nat) : Nat :=
  leAt (s.blob (Obj.decodeTable (s.profileOf n))) (8 * field w (s.rd (Obj.typeLsb (s.profileOf n))) (s.rd (Obj.typeBits (s.profileOf n)))) 8

/-- The first field that entry `e` takes from word `w`. -/
def entryField (e w : Nat) : Nat := wordField w (field e 4 5) (field e 9 5)

/-- The polarity that entry `e` gives the event of word `w`. -/
def entryPol (e w : Nat) : Nat := if bitAt e 45 then field w (field e 40 5) 1 else field e 46 1

variable {s n} {w : Nat}

theorem Dev.decodeWord_error (h : field (s.tableEntry n w) 0 4 = 7) : s.decodeWord n w = s.bump (stCtr n 5) := by
  unfold Dev.tableEntry at h
  unfold Dev.decodeWord
  dsimp only
  rw [h]
  rfl

theorem Dev.decodeWord_row (h : field (s.tableEntry n w) 0 4 = 2) :
    s.decodeWord n w = s.updStr n (fun z => { z with y := entryField (s.tableEntry n w) w % 4096 }) := by
  unfold Dev.tableEntry at h
  unfold Dev.decodeWord
  dsimp only
  rw [h]
  rfl

/-- The sensor time that word `w` gives its event: the present one, with the field of its entry put into it. -/
def Dev.wordTime (s : Dev) (n w : Nat) : Nat :=
  if field (s.tableEntry n w) 29 5 = 0 then (s.str n).tr
  else setField (s.str n).tr (field (s.tableEntry n w) 34 6) (field (s.tableEntry n w) 29 5)
    (wordField w (field (s.tableEntry n w) 24 5) (field (s.tableEntry n w) 29 5))

theorem Dev.decodeWord_event (h : field (s.tableEntry n w) 0 4 = 4) (hb : field (s.tableEntry n w) 19 5 = 0) :
    s.decodeWord n w = (s.sensorPs n (s.wordTime n w)).1.emitEvent n (entryField (s.tableEntry n w) w) (s.str n).y (entryPol (s.tableEntry n w) w)
      (s.sensorPs n (s.wordTime n w)).2 := by
  unfold Dev.tableEntry at h hb
  unfold Dev.decodeWord
  dsimp only
  rw [h, hb]
  rfl

theorem Dev.decodePayload_one {payload : List Byte} {count : Nat} (h : min count (s.wordsIn n payload) = 1) :
    s.decodePayload n payload count = s.decodeWord n (leAt payload 0 (s.rd (Obj.wordBits (s.profileOf n)) / 8)) := by
  unfold Dev.decodePayload
  dsimp only
  rw [h, Dev.each_succ, Nat.zero_mul]
  rfl

end

/-! ### The path of the event it makes (R118, R136 to R139, R148, R149) -/

/-- What of a front end the filters and the queue read. -/
def Stream.filters (x : Stream) : Nat × List HotEntry × Int × Nat × Nat × Nat × List Nat × List Nat :=
  (x.y, x.hot, x.floodWin, x.floodCount, x.lost, x.lostBack, x.ring, x.queue)

/-- The flood count of the present window (R139). -/
def Dev.floodCountNow (s : Dev) (n : Nat) : Nat := if (s.str n).floodWin = s.dtWin 100000 then (s.str n).floodCount else 0

/-- The filters and the queue let an event at column `a` of the present row pass: within the frame, not hot, below the flood ceiling, with no
loss to report and room in the queue. -/
structure Dev.passes (s : Dev) (n a : Nat) : Prop where
  column : a < 4096
  width : a < s.rd (Obj.pixelWidth (s.profileOf n))
  height : (s.str n).y < s.rd (Obj.pixelHeight (s.profileOf n))
  undetected : s.rd (Obj.hotEnable n) = 0
  cool : ∀ z ∈ (s.str n).hot, ¬ (z.x = a ∧ z.y = (s.str n).y)
  flood : s.floodCountNow n < s.rd (Obj.floodCeiling n)
  lost : (s.str n).lost = 0
  lostBack : (s.str n).lostBack = 0
  ring : (s.str n).ring = []
  room : (s.str n).queue.length < queueWords

/-- From `s` to `t` only time was taken of an event: the filters, the queue and the datagram sequence of stream `n` stand, and no register changed but
those of `ks`. -/
structure Dev.timedOnly (n : Nat) (ks : List Nat) (s t : Dev) : Prop where
  f : t.f = s.f
  regs : s.regsKept t ks
  filters : (t.str n).filters = (s.str n).filters
  flowSeq : (t.str n).flowSeq = (s.str n).flowSeq

/-- The counters that an event's way to the filters and a datagram's sequence count in. -/
def pathKeys (n : Nat) : List Nat := [(stCtr n 0).key, (stCtr n 6).key, (stCtr n 0x11).key]

theorem not_mem_pathKeys {n : Nat} {r : Reg} (h : r.key / 256 ≠ 0x4008 + 16 * n) : r.key ∉ pathKeys n := by
  simp only [pathKeys, stCtr, Obj.streamCounter, Reg.at_key, List.mem_cons, List.not_mem_nil, or_false]
  omega

section
variable {s t : Dev} {n : Nat} {a : Nat}

/-- The way to the filters leaves what the filters read. -/
theorem Dev.passes.of_filters (h : s.passes n a) (hn : n < 36) (hf : t.f = s.f) (hr : s.regsKept t (pathKeys n)) (hv : (t.str n).filters = (s.str n).filters) :
    t.passes n a := by
  have hlow {r : Reg} (h : r.key / 256 < 0x4000 ∨ 0x4240 ≤ r.key / 256) : t.rd r = s.rd r := hr r (not_mem_pathKeys (by omega))
  have hp : t.profileOf n = s.profileOf n :=
    hr.profileOf (not_mem_pathKeys (by simp only [Obj.streamState, Reg.at_key]; omega))
  have hpl := s.profileOf_lt n
  have hdt : t.dt = s.dt := hr.dt (not_mem_pathKeys (by simp only [Obj.timeOffset, Reg.at_key]; omega)) (not_mem_pathKeys (by simp only [Obj.rateAdjust, Reg.at_key]; omega)) hf
  simp only [Stream.filters, Prod.mk.injEq] at hv
  obtain ⟨hy, hhot, hwin, hcount, hlost, hback, hring, hqueue⟩ := hv
  exact {
    column := h.column
    width := by rw [hp, hlow (by simp only [Obj.pixelWidth, Reg.at_key]; omega)]; exact h.width
    height := by rw [hp, hlow (by simp only [Obj.pixelHeight, Reg.at_key]; omega), hy]; exact h.height
    undetected := (hr _ (not_mem_pathKeys (by simp only [Obj.hotEnable, Reg.at_key]; omega))).trans h.undetected
    cool := by rw [hhot, hy]; exact h.cool
    flood := by
      rw [hr _ (not_mem_pathKeys (by simp only [Obj.floodCeiling, Reg.at_key]; omega)), Dev.floodCountNow, Dev.dtWin, hdt, hwin, hcount]
      exact h.flood
    lost := hlost.trans h.lost
    lostBack := hback.trans h.lostBack
    ring := hring.trans h.ring
    room := by rw [hqueue]; exact h.room }

end

section
variable {s t : Dev} {n : Nat} {ks : List Nat} (h : s.timedOnly n ks t)
include h

theorem Dev.timedOnly.updStr {f : Stream → Stream} (hf : ∀ x, (f x).filters = x.filters) (hs : ∀ x, (f x).flowSeq = x.flowSeq) :
    s.timedOnly n ks (t.updStr n f) :=
  ⟨h.f, h.regs, by rw [Dev.str_updStr, hf, h.filters], by rw [Dev.str_updStr, hs, h.flowSeq]⟩

theorem Dev.timedOnly.bump {r : Reg} (hr : r.key ∈ ks) : s.timedOnly n ks (t.bump r) := ⟨h.f, h.regs.bump hr, h.filters, h.flowSeq⟩

theorem Dev.timedOnly.meter (r : Reg) (k : Nat) : s.timedOnly n ks (t.meter r k) := ⟨h.f, h.regs, h.filters, h.flowSeq⟩

theorem Dev.timedOnly.updClock (k : Nat) (f : ClockMap → ClockMap) : s.timedOnly n ks (t.updClock k f) := ⟨h.f, h.regs, h.filters, h.flowSeq⟩

theorem Dev.timedOnly.sedExtreme (off : Nat) (least : Bool) (v : Int) : s.timedOnly n ks (t.sedExtreme off least v) := by
  obtain ⟨l, e⟩ := t.sedExtreme_only off least v
  rw [e]
  exact ⟨h.f, h.regs, h.filters, h.flowSeq⟩

theorem Dev.timedOnly.countRate : s.timedOnly n ks (t.countRate n) := by
  unfold Dev.countRate
  dsimp only
  split
  · exact (h.sedExtreme _ _ _).meter _ _
  · exact h.meter _ _

theorem Dev.timedOnly.clockStart (ps : Nat) : s.timedOnly n ks (t.clockStart n ps) := by
  unfold Dev.clockStart
  split
  · exact h
  · exact h.updClock _ _

theorem Dev.timedOnly.retime (ps : Nat) (h6 : (stCtr n 6).key ∈ ks) : s.timedOnly n ks (t.retime n ps).1 := by
  unfold Dev.retime
  dsimp only
  split
  · split
    · exact (h.clockStart ps).bump h6
    · exact (h.clockStart ps).updStr (fun _ => rfl) (fun _ => rfl)
  · exact (h.clockStart ps).updStr (fun _ => rfl) (fun _ => rfl)

theorem Dev.timedOnly.hotRoll (he : t.rd (Obj.hotEnable n) = 0) : s.timedOnly n ks (t.hotRoll n) := by
  unfold Dev.hotRoll
  dsimp only
  split
  · exact h
  · rw [Dev.hotClose_of_not_enabled (h := by omega)]
    exact h.updStr (fun _ => rfl) (fun _ => rfl)

theorem Dev.timedOnly.sensorPs (v : Nat) : s.timedOnly n ks (t.sensorPs n v).1 := h.updStr (fun _ => rfl) (fun _ => rfl)

end

theorem Dev.timedOnly.refl (n : Nat) (ks : List Nat) (s : Dev) : s.timedOnly n ks s := ⟨rfl, fun _ _ => rfl, rfl, rfl⟩

theorem stCtr_bits (n k : Nat) : (stCtr n k).bits = 64 := rfl

theorem Stream.flowSeq_queued (x : Stream) (rf w : Nat) : (x.queued rf w).flowSeq = x.flowSeq := rfl

section
variable {s : Dev} {n : Nat}

theorem Dev.gap_nothing (t : Nat) (hl : (s.str n).lost = 0) (hb : (s.str n).lostBack = 0) : s.gap n t = s := by
  unfold Dev.gap
  dsimp only
  rw [hl, hb, ite_self, if_neg (by simp)]

/-- The record of a front end in the flood window `w`, one more event counted. -/
def Stream.flooding (x : Stream) (w : Int) : Stream :=
  let y : Stream := if x.floodWin = w then x else { x with floodWin := w, floodCount := 0, floodLast := x.floodNow && x.floodWin + 1 == w, floodNow := false }
  { y with floodCount := y.floodCount + 1 }

theorem Dev.floodGate_open (h : s.floodCountNow n < s.rd (Obj.floodCeiling n)) :
    (s.floodGate n).2 = true ∧ (s.floodGate n).1.str n = (s.str n).flooding (s.dtWin 100000) ∧ (s.floodGate n).1.dict = s.dict := by
  have hcount : ((s.floodRoll n).str n).floodCount = s.floodCountNow n := by
    rw [Dev.floodRoll, Dev.str_updStr, Dev.floodCountNow]
    split <;> rfl
  have he : s.floodGate n = ((s.floodRoll n).updStr n (fun x => { x with floodCount := x.floodCount + 1 }), true) := if_pos (hcount ▸ h)
  rw [he]
  refine ⟨rfl, ?_, rfl⟩
  rw [Dev.str_updStr, Dev.floodRoll, Dev.str_updStr]
  rfl

theorem Stream.flooding_keeps {α : Type} (g : Stream → α) (hg : ∀ x w c l b, g { x with floodWin := w, floodCount := c, floodLast := l, floodNow := b } = g x)
    (x : Stream) (w : Int) : g (x.flooding w) = g x := by
  unfold Stream.flooding
  split
  · exact hg x x.floodWin (x.floodCount + 1) x.floodLast x.floodNow
  · exact hg x _ _ _ _

/-- The device with an event counted and its device time taken, before the filters. -/
def Dev.eventTimed (s : Dev) (n ps : Nat) : Dev := (((s.bump (stCtr n 0)).countRate n).retime n ps).1.hotRoll n

/-- The device time of an event at sensor time `ps` (R136). -/
def Dev.eventTime (s : Dev) (n ps : Nat) : Int := (((s.bump (stCtr n 0)).countRate n).retime n ps).2

variable {a : Nat} (h : s.passes n a) (hn : n < 36)
include h hn

omit hn in
theorem Dev.timedOnly_eventTimed (ps : Nat) : (s.bump (stCtr n 0)).timedOnly n [(stCtr n 6).key] (s.eventTimed n ps) := by
  have htimed : (s.bump (stCtr n 0)).timedOnly n [(stCtr n 6).key] (((s.bump (stCtr n 0)).countRate n).retime n ps).1 :=
    (Dev.timedOnly.refl n _ (s.bump (stCtr n 0))).countRate.retime ps (by simp)
  refine htimed.hotRoll ?_
  rw [htimed.regs _ (by simp only [stCtr, Obj.streamCounter, Obj.hotEnable, Reg.at_key, List.mem_singleton]; omega),
    Dev.rd_bump_other _ (by simp only [stCtr, Obj.streamCounter, Obj.hotEnable, Reg.at_key]; omega), h.undetected]

theorem Dev.passes_eventTimed (ps : Nat) : (s.eventTimed n ps).passes n a := by
  have ht := Dev.timedOnly_eventTimed h ps
  refine h.of_filters hn ht.f (fun r hr => ?_) ht.filters
  simp only [pathKeys, List.mem_cons, List.not_mem_nil, or_false, not_or] at hr
  rw [ht.regs r (by simpa using hr.2.1), Dev.rd_bump_other _ hr.1]

theorem Dev.emitEvent_open {y : Nat} (pol ps : Nat) (hy : y = (s.str n).y) :
    s.emitEvent n a y pol ps = ((s.eventTimed n ps).floodGate n).1.pushWord n (mkWord n a y pol 0 (t31 (s.eventTime n ps))) := by
  have ht := Dev.timedOnly_eventTimed h ps
  have hp := Dev.passes_eventTimed h hn ps
  obtain ⟨hgo, hstr, -⟩ := Dev.floodGate_open hp.flood
  have hyt : ((s.eventTimed n ps).str n).y = y := by
    have := ht.filters
    simp only [Stream.filters, Prod.mk.injEq] at this
    exact this.1.trans hy.symm
  have hcool : ¬ ((s.eventTimed n ps).str n).hot.any (fun e => e.x == a && e.y == y) = true := by
    simp only [List.any_eq_true, Bool.and_eq_true, beq_iff_eq, not_exists, not_and]
    exact fun z hz hx hzy => hp.cool z hz ⟨hx, hzy.trans hyt.symm⟩
  have hund : ¬ (s.eventTimed n ps).rd (Obj.hotEnable n) = 1 := by rw [hp.undetected]; omega
  have hbounds : ¬ (4096 ≤ a ∨ s.rd (Obj.pixelWidth (s.profileOf n)) ≤ a ∨ s.rd (Obj.pixelHeight (s.profileOf n)) ≤ y) := by
    have := h.column
    have := h.width
    have := h.height
    omega
  unfold Dev.emitEvent
  dsimp only
  rw [if_neg hbounds]
  unfold Dev.eventTimed at hcool hund hgo hstr hp
  rw [if_neg hcool, if_neg hund, if_pos hgo, Dev.acceptEvent, Dev.gap_nothing]
  · rfl
  · rw [hstr, Stream.flooding_keeps Stream.lost (fun _ _ _ _ _ => rfl)]
    exact hp.lost
  · rw [hstr, Stream.flooding_keeps Stream.lostBack (fun _ _ _ _ _ => rfl)]
    exact hp.lostBack

/-- An event that every filter passes joins the queue as one word (R149). -/
theorem Dev.emitEvent_passes {y : Nat} (pol ps : Nat) (hy : y = (s.str n).y) :
    (∃ τ, ((s.emitEvent n a y pol ps).str n).queue = (s.str n).queue ++ [mkWord n a y pol 0 τ]) ∧
      (s.emitEvent n a y pol ps).rd (stCtr n 0) = (s.rd (stCtr n 0) + 1) % 2 ^ 64 ∧
      ((s.emitEvent n a y pol ps).str n).flowSeq = (s.str n).flowSeq := by
  have ht := Dev.timedOnly_eventTimed h ps
  have hp := Dev.passes_eventTimed h hn ps
  obtain ⟨-, hstr, hdict⟩ := Dev.floodGate_open hp.flood
  have hq := ht.filters
  simp only [Stream.filters, Prod.mk.injEq] at hq
  obtain ⟨-, -, -, -, -, -, -, hq⟩ := hq
  rw [Dev.emitEvent_open h hn pol ps hy, Dev.pushWord_room]
  · refine ⟨⟨t31 (s.eventTime n ps), ?_⟩, ?_, ?_⟩
    · rw [Dev.str_updStr, Stream.queue_queued, hstr, Stream.flooding_keeps Stream.queue (fun _ _ _ _ _ => rfl), hq, Dev.str_bump]
    · have hgate : ((s.eventTimed n ps).floodGate n).1.rd (stCtr n 0) = (s.eventTimed n ps).rd (stCtr n 0) := by rw [Dev.rd, hdict, Dev.rd]
      rw [Dev.rd_updStr, hgate, ht.regs _ (by simp only [stCtr, Obj.streamCounter, Reg.at_key, List.mem_singleton]; omega), Dev.rd_bump_same, stCtr_bits]
    · rw [Dev.str_updStr, Stream.flowSeq_queued, hstr, Stream.flooding_keeps Stream.flowSeq (fun _ _ _ _ _ => rfl), ht.flowSeq, Dev.str_bump]
  · rw [hstr, Stream.flooding_keeps Stream.ring (fun _ _ _ _ _ => rfl)]
    exact hp.ring
  · rw [hstr, Stream.flooding_keeps Stream.queue (fun _ _ _ _ _ => rfl)]
    exact hp.room

end

end Sys2Proof.Machine
end

section
/-! A packet or a datagram of one sensor word (R120, R122, R134), for a stream that stands as it stood. -/

namespace Sys2Proof.Machine

open Sys2Proof

/-- `t` is `s` for all that decoding a word of stream `n` and filtering its event read: but for the datagrams missed, no register and no byte string differs. -/
structure Dev.poised (n : Nat) (s t : Dev) : Prop where
  f : t.f = s.f
  regs : s.regsKept t [(stCtr n 0x11).key]
  blobs : t.blobs = s.blobs
  filters : (t.str n).filters = (s.str n).filters

theorem Dev.poised.refl (n : Nat) (s : Dev) : s.poised n s := ⟨rfl, fun _ _ => rfl, rfl, rfl⟩

section
variable {s t : Dev} {n : Nat} (h : s.poised n t)
include h

theorem Dev.poised.updStr {f : Stream → Stream} (hf : ∀ x, (f x).filters = x.filters) : s.poised n (t.updStr n f) :=
  ⟨h.f, h.regs, h.blobs, by rw [Dev.str_updStr, hf, h.filters]⟩

theorem Dev.poised.bumpBy (v : Nat) : s.poised n (t.bumpBy (stCtr n 0x11) v) :=
  ⟨h.f, h.regs.bumpBy _ (List.mem_singleton.mpr rfl), h.blobs, h.filters⟩

theorem Dev.poised.rd {r : Reg} (hr : r.key / 256 ≠ 0x4008 + 16 * n) : t.rd r = s.rd r :=
  h.regs r (by simp only [stCtr, Obj.streamCounter, Reg.at_key, List.mem_singleton]; omega)

theorem Dev.poised.profileOf : t.profileOf n = s.profileOf n :=
  h.regs.profileOf (by simp only [stCtr, Obj.streamCounter, Obj.streamState, Reg.at_key, List.mem_singleton]; omega)

theorem Dev.poised.stState : t.stState n = s.stState n :=
  h.regs.stState (by simp only [stCtr, Obj.streamCounter, Obj.streamState, Reg.at_key, List.mem_singleton]; omega)

theorem Dev.poised.blob (r : Reg) : t.blob r = s.blob r := by rw [Dev.blob, h.blobs, Dev.blob]

theorem Dev.poised.lost : (t.str n).lost = (s.str n).lost := by
  have := h.filters
  simp only [Stream.filters, Prod.mk.injEq] at this
  exact this.2.2.2.2.1

theorem Dev.poised.row : (t.str n).y = (s.str n).y := by
  have := h.filters
  simp only [Stream.filters, Prod.mk.injEq] at this
  exact this.1

theorem Dev.poised.queue : (t.str n).queue = (s.str n).queue := by
  have := h.filters
  simp only [Stream.filters, Prod.mk.injEq] at this
  exact this.2.2.2.2.2.2.2

variable (hn : n < 36)
include hn

theorem Dev.poised.wordBits : t.rd (Obj.wordBits (t.profileOf n)) = s.rd (Obj.wordBits (s.profileOf n)) := by
  have := s.profileOf_lt n
  rw [h.profileOf, h.rd (by simp only [Obj.wordBits, Reg.at_key]; omega)]

theorem Dev.poised.wordsIn (payload : List Byte) : t.wordsIn n payload = s.wordsIn n payload := by
  rw [Dev.wordsIn, h.wordBits hn, Dev.wordsIn]

theorem Dev.poised.tableEntry (w : Nat) : t.tableEntry n w = s.tableEntry n w := by
  have := s.profileOf_lt n
  rw [Dev.tableEntry, h.profileOf, h.rd (by simp only [Obj.typeLsb, Reg.at_key]; omega), h.rd (by simp only [Obj.typeBits, Reg.at_key]; omega), h.blob,
    Dev.tableEntry]

theorem Dev.poised.passes {a : Nat} (hp : s.passes n a) : t.passes n a :=
  hp.of_filters hn h.f (fun r hr => h.regs r (by simp only [pathKeys, List.mem_cons, not_or] at hr; simpa using hr.2.2.1)) h.filters

end

/-- The first sensor word of a payload (R134). -/
def Dev.firstWord (s : Dev) (n : Nat) (payload : List Byte) : Nat := leAt payload 0 (s.rd (Obj.wordBits (s.profileOf n)) / 8)

section
variable {s t : Dev} {n : Nat} (h : s.poised n t) (hn : n < 36) {payload : List Byte} {count : Nat} (h1 : min count (s.wordsIn n payload) = 1)
include h hn h1

theorem Dev.poised.decodePayload : t.decodePayload n payload count = t.decodeWord n (s.firstWord n payload) := by
  rw [Dev.decodePayload_one (by rw [h.wordsIn hn]; exact h1), h.wordBits hn, Dev.firstWord]

theorem Dev.poised.decode_error (he : field (s.tableEntry n (s.firstWord n payload)) 0 4 = 7) :
    t.decodePayload n payload count = t.bump (stCtr n 5) := by
  rw [h.decodePayload hn h1, Dev.decodeWord_error (by rw [h.tableEntry hn]; exact he)]

theorem Dev.poised.decode_row (he : field (s.tableEntry n (s.firstWord n payload)) 0 4 = 2) :
    t.decodePayload n payload count = t.updStr n (fun z => { z with y := entryField (s.tableEntry n (s.firstWord n payload)) (s.firstWord n payload) % 4096 }) := by
  rw [h.decodePayload hn h1, Dev.decodeWord_row (by rw [h.tableEntry hn]; exact he), h.tableEntry hn]

/-- An event word that every filter passes joins the queue (R137, R149). -/
theorem Dev.poised.decode_event (he : field (s.tableEntry n (s.firstWord n payload)) 0 4 = 4) (hb : field (s.tableEntry n (s.firstWord n payload)) 19 5 = 0)
    (hp : s.passes n (entryField (s.tableEntry n (s.firstWord n payload)) (s.firstWord n payload))) :
    (∃ τ, ((t.decodePayload n payload count).str n).queue = (s.str n).queue ++
      [mkWord n (entryField (s.tableEntry n (s.firstWord n payload)) (s.firstWord n payload)) (s.str n).y
        (entryPol (s.tableEntry n (s.firstWord n payload)) (s.firstWord n payload)) 0 τ]) ∧
    (t.decodePayload n payload count).rd (stCtr n 0) = (s.rd (stCtr n 0) + 1) % 2 ^ 64 ∧
    ((t.decodePayload n payload count).str n).flowSeq = (t.str n).flowSeq := by
  have hword := Dev.decodeWord_event (s := t) (n := n) (w := s.firstWord n payload) (by rw [h.tableEntry hn]; exact he) (by rw [h.tableEntry hn]; exact hb)
  rw [h.tableEntry hn, h.row] at hword
  rw [h.decodePayload hn h1, hword]
  have htime : s.poised n (t.sensorPs n (t.wordTime n (s.firstWord n payload))).1 := h.updStr (fun _ => rfl)
  obtain ⟨⟨τ, hq⟩, hc, hseq⟩ := Dev.emitEvent_passes (htime.passes hn hp) hn (entryPol (s.tableEntry n (s.firstWord n payload)) (s.firstWord n payload))
    (t.sensorPs n (t.wordTime n (s.firstWord n payload))).2 htime.row.symm
  rw [htime.queue] at hq
  refine ⟨⟨τ, hq⟩, ?_, ?_⟩
  · rw [hc, htime.regs _ (by simp only [stCtr, Obj.streamCounter, Reg.at_key, List.mem_singleton]; omega)]
  · rw [hseq]
    exact ((Dev.timedOnly.refl n [] t).sensorPs _).flowSeq

end

/-! ### CSI-2 packets (R119, R120) -/

/-- The device once stream `n`'s link has shown activity, unless its port is EMPTY (R129). -/
def Dev.heard (s : Dev) (n : Nat) : Dev := if s.stState n = 0 then s else s.active n

theorem Dev.poised_heard (s : Dev) (n : Nat) : s.poised n (s.heard n) := by
  unfold Dev.heard
  split
  · exact Dev.poised.refl n s
  · exact (Dev.poised.refl n s).updStr (fun _ => rfl)

section
variable {s : State} {n : Fin 36} {k : CsiPacket}

theorem csi2Packet_next (h : s.dev.up (portDomain n.val)) (hs : s.dev.rd (Obj.streamSource n.val) = 0) :
    execCsi2Packet n k s = .next { s with dev := (s.dev.fresh.heard n.val).csiPacket n.val k } := by
  have hrim : s.dev.rimOpen = false := by
    have := h.1
    unfold Dev.working at this
    unfold Dev.rimOpen
    revert this
    cases s.dev.alive <;> cases s.dev.frozen <;> simp
  have hheard := s.dev.fresh.poised_heard n.val
  have hmine : (s.dev.fresh.heard n.val).domOn (portDomain n.val) = true ∧ (s.dev.fresh.heard n.val).rd (Obj.streamSource n.val) = 0 := by
    constructor
    · refine Eq.trans (congrArg (fun v => field v 0 3 == 0) (hheard.rd ?_)) h.2
      simp only [Obj.domainState, portDomain, Reg.at_key]
      omega
    · exact (hheard.rd (by simp only [Obj.streamSource, Reg.at_key]; omega)).trans hs
  unfold execCsi2Packet
  dsimp only
  rw [hrim, Bool.false_and, Bool.false_and, if_neg Bool.false_ne_true, State.runIn_next _ h.1 h.2]
  refine congrArg (fun d => Host.Outcome.next { s with dev := d }) (if_pos ?_)
  exact Bool.and_eq_true_iff.mpr ⟨hmine.1, beq_iff_eq.mpr hmine.2⟩

end

/-- The words of a packet that is discarded are lost while the stream runs (R120, R129). -/
def Dev.csiLost (s : Dev) (n : Nat) (payload : List Byte) (d : Dev) : Dev := if s.stState n = 5 then d.losePacket n payload else d

section
variable {s : Dev} {n : Nat} {k : CsiPacket}

theorem Dev.csiPacket_uncorrectable (h : k.header = .uncorrectable) : s.csiPacket n k = s.csiLost n k.payload (s.bump (stCtr n 2)) := by
  unfold Dev.csiPacket Dev.csiLost
  dsimp only
  rw [if_pos h]
  simp only [beq_iff_eq]

theorem Dev.csiPacket_foreign (h : k.header = .ok) (hv : k.vc ≠ s.rd (Obj.virtualChannel n)) :
    s.csiPacket n k = s.csiLost n (if k.dt < 0x10 then [] else k.payload) (s.bump (stCtr n 0x15)) := by
  unfold Dev.csiPacket Dev.csiLost
  dsimp only
  rw [h, if_neg (show ¬ Check.ok = Check.uncorrectable by decide), if_neg (show ¬ Check.ok = Check.corrected by decide), if_pos hv]
  simp only [beq_iff_eq]

variable (h : k.header = .ok) (hv : k.vc = s.rd (Obj.virtualChannel n)) (hd : 0x10 ≤ k.dt) (hdt : k.dt = s.rd (Obj.dataType n))
include h hv hd hdt

theorem Dev.csiPacket_crc (hc : k.crcOk = false) : s.csiPacket n k = s.csiLost n k.payload ((s.bump (stCtr n 4)).sedError 0x45) := by
  unfold Dev.csiPacket Dev.csiLost
  dsimp only
  rw [h, if_neg (show ¬ Check.ok = Check.uncorrectable by decide), if_neg (show ¬ Check.ok = Check.corrected by decide),
    if_neg (not_not.mpr hv), if_neg (by omega), if_neg (by omega), if_neg (not_not.mpr hdt), hc, if_pos (by decide)]
  simp only [beq_iff_eq]

theorem Dev.csiPacket_runs (hc : k.crcOk = true) (hst : s.stState n = 5) : s.csiPacket n k = s.decodePayload n k.payload (s.wordsIn n k.payload) := by
  unfold Dev.csiPacket
  dsimp only
  rw [h, if_neg (show ¬ Check.ok = Check.uncorrectable by decide), if_neg (show ¬ Check.ok = Check.corrected by decide),
    if_neg (not_not.mpr hv), if_neg (by omega), if_neg (by omega), if_neg (not_not.mpr hdt), hc, if_neg (by decide), hst]
  rfl

end

end Sys2Proof.Machine
end

section
/-! Packets that are discarded, and datagrams (R120 to R123, R148). -/

namespace Sys2Proof.Machine

open Sys2Proof

/-! ### The words of a discarded packet -/

section
variable {s : Dev} {n : Nat}

theorem stCtr_ne {j k : Nat} (h : j ≠ k) : (stCtr n j).key ≠ (stCtr n k).key := by
  simp only [stCtr, Obj.streamCounter, Reg.at_key]
  omega

theorem Dev.wordsIn_bump (hn : n < 36) (k : Nat) (hk : k < 255) (payload : List Byte) : (s.bump (stCtr n k)).wordsIn n payload = s.wordsIn n payload := by
  have := s.profileOf_lt n
  have hp : (s.bump (stCtr n k)).profileOf n = s.profileOf n :=
    Dev.profileOf_bump _ _ (by simp only [stCtr, Obj.streamCounter, Obj.streamState, Reg.at_key]; omega)
  rw [Dev.wordsIn, hp, Dev.rd_bump_other _ (by simp only [stCtr, Obj.streamCounter, Obj.wordBits, Reg.at_key]; omega), Dev.wordsIn]

theorem Dev.rd_losePacket_other (payload : List Byte) {r : Reg} (h : r.key ≠ (stCtr n 0x18).key) : (s.losePacket n payload).rd r = s.rd r :=
  s.rd_bumpBy_other _ h

theorem Dev.rd_losePacket_same (payload : List Byte) : (s.losePacket n payload).rd (stCtr n 0x18) = (s.rd (stCtr n 0x18) + s.wordsIn n payload) % 2 ^ 64 :=
  s.rd_bumpBy_same _ _

theorem Dev.lost_losePacket (payload : List Byte) : ((s.losePacket n payload).str n).lost = (s.str n).lost + s.wordsIn n payload := by
  rw [Dev.losePacket, Dev.str_lose, Dev.str_bumpBy]

theorem Dev.rd_csiLost (payload : List Byte) (d : Dev) {r : Reg} (h : r.key ≠ (stCtr n 0x18).key) : (s.csiLost n payload d).rd r = d.rd r := by
  unfold Dev.csiLost
  split
  · exact Dev.rd_losePacket_other _ h
  · rfl

end

/-! ### Datagrams -/

/-- The datagrams of UDP port `udp` feed stream `n` (R122). -/
def Dev.feeds (s : Dev) (udp n : Nat) : Prop :=
  s.domOn (portDomain n) = true ∧ s.rd (Obj.streamSource n) = 1 ∧ udp ≠ 0 ∧ s.rd (Obj.flowPort n) = udp

/-- The round of a datagram's arrival for stream `n`. -/
def Dev.flowRound (udp : Nat) (source payload : List Byte) (n : Nat) (d : Dev) : Dev :=
  if d.domOn (portDomain n) = true ∧ d.rd (Obj.streamSource n) = 1 ∧ udp ≠ 0 ∧ d.rd (Obj.flowPort n) = udp then
    if (d.heard n).flowForeign n (bytesAt source 0 16) then (d.heard n).bump (stCtr n 0x12)
    else if (d.heard n).stState n = 5 then (d.heard n).flowDatagram n payload else d.heard n
  else d

section
variable {s t : Dev} {udp : Nat} {source payload : List Byte} {n m : Nat}

theorem Dev.flowRound_unfed (h : ¬ s.feeds udp n) : Dev.flowRound udp source payload n s = s := if_neg h

theorem Dev.flowRound_foreign (h : s.feeds udp n) (hf : s.flowForeign n (bytesAt source 0 16) = true) :
    Dev.flowRound udp source payload n s = (s.heard n).bump (stCtr n 0x12) := by
  refine (if_pos h).trans (if_pos ?_)
  rw [Dev.flowForeign, (s.poised_heard n).blob]
  exact hf

theorem Dev.flowRound_own (h : s.feeds udp n) (hf : s.flowForeign n (bytesAt source 0 16) = false) (hst : s.stState n = 5) :
    Dev.flowRound udp source payload n s = (s.heard n).flowDatagram n payload := by
  refine (if_pos h).trans ((if_neg ?_).trans (if_pos ((s.poised_heard n).stState.trans hst)))
  rw [Dev.flowForeign, (s.poised_heard n).blob]
  exact fun e => Bool.false_ne_true (hf.symm.trans e)

theorem Dev.portOnly_heard (s : Dev) (n : Nat) : s.portOnly n (s.heard n) := by
  unfold Dev.heard
  split
  · exact .refl n s
  · exact (Dev.portOnly.refl n s).updStr _ _

theorem Dev.portOnly_flowRound (udp : Nat) (source payload : List Byte) (n : Nat) (s : Dev) : s.portOnly n (Dev.flowRound udp source payload n s) := by
  have h := s.portOnly_heard n
  unfold Dev.flowRound
  split
  · split
    · exact h.bump (by omega)
    · split
      · exact h.flowDatagram _
      · exact h
  · exact .refl n s

section
variable (h : s.portOnly m t) (hn : n < 36) (hm : n ≠ m)
include h hn hm

/-- The round of another stream leaves a port's own registers. -/
theorem Dev.portOnly.rd_port {r : Reg} (hr : r.ofPort n) : t.rd r = s.rd r :=
  h.2 r (by
    unfold Reg.ofPort at hr
    simp only [Reg.elsewhere, Reg.unfaulted, Reg.ofPort]
    omega)

theorem Dev.portOnly.feeds : t.feeds udp n ↔ s.feeds udp n := by
  have hdom : t.domOn (portDomain n) = s.domOn (portDomain n) :=
    congrArg (fun v => field v 0 3 == 0) (h.2 (Obj.domainState (portDomain n)) (by
      simp only [Reg.elsewhere, Reg.unfaulted, Reg.ofPort, Obj.domainState, portDomain, Reg.at_key]
      omega))
  rw [Dev.feeds, hdom, h.rd_port hn hm (by simp only [Reg.ofPort, Obj.streamSource, Reg.at_key]; omega),
    h.rd_port hn hm (by simp only [Reg.ofPort, Obj.flowPort, Reg.at_key]; omega), Dev.feeds]

omit hn hm in
theorem Dev.portOnly.flowForeign : t.flowForeign n (bytesAt source 0 16) = s.flowForeign n (bytesAt source 0 16) := by
  rw [Dev.flowForeign, Dev.blob, h.1, Dev.flowForeign, Dev.blob]

end

/-- Of rounds of which one makes `q` of `p` and the others keep both. -/
theorem Dev.each_one {f : Nat → Dev → Dev} {N : Nat} (p q : Dev → Prop) (hn : n < N) (hs : p s) (hp : ∀ i < N, i ≠ n → ∀ u, p u → p (f i u))
    (hstep : ∀ u, p u → q (f n u)) (hq : ∀ i < N, i ≠ n → ∀ u, q u → q (f i u)) : q (s.each N f) := by
  have key : ∀ k ≤ N, (k ≤ n → p (s.each k f)) ∧ (n < k → q (s.each k f)) := by
    intro k
    induction k with
    | zero => exact fun _ => ⟨fun _ => hs, fun h => absurd h (Nat.not_lt_zero n)⟩
    | succ k ih =>
      intro hk
      obtain ⟨ihp, ihq⟩ := ih (by omega)
      rw [Dev.each_succ]
      refine ⟨fun hle => hp k (by omega) (by omega) _ (ihp (by omega)), fun hlt => ?_⟩
      by_cases e : k = n
      · subst e
        exact hstep _ (ihp (Nat.le_refl k))
      · exact hq k (by omega) e _ (ihq (by omega))
  exact (key N (Nat.le_refl N)).2 hn

theorem Dev.flowArrives_unfed (h : ∀ m, m < 36 → ¬ s.feeds udp m) : s.flowArrives udp source payload = s :=
  Dev.each_eq_self (f := Dev.flowRound udp source payload) (fun i hi => Dev.flowRound_unfed (h i hi))

/-- A datagram that feeds one stream is that stream's round. -/
theorem Dev.flowArrives_one (hn : n < 36) (h : ∀ m, m < 36 → m ≠ n → ¬ s.feeds udp m) :
    s.flowArrives udp source payload = Dev.flowRound udp source payload n s :=
  Dev.each_one (f := Dev.flowRound udp source payload) (fun u => u = s) (fun u => u = Dev.flowRound udp source payload n s) hn rfl
    (fun i hi hne u hu => by rw [hu]; exact Dev.flowRound_unfed (h i hi hne))
    (fun u hu => by rw [hu])
    (fun i hi hne u hu => by
      rw [hu]
      exact Dev.flowRound_unfed (fun hf => h i hi hne (((s.portOnly_flowRound udp source payload n).feeds hi hne).mp hf)))

/-- A datagram of a foreign source is counted once, whatever other streams it feeds (R123). -/
theorem Dev.flowArrives_foreign (hn : n < 36) (h : s.feeds udp n) (hf : s.flowForeign n (bytesAt source 0 16) = true) :
    (s.flowArrives udp source payload).rd (stCtr n 0x12) = (s.rd (stCtr n 0x12) + 1) % 2 ^ 64 := by
  refine Dev.each_one (f := Dev.flowRound udp source payload)
    (fun u => u.feeds udp n ∧ u.flowForeign n (bytesAt source 0 16) = true ∧ u.rd (stCtr n 0x12) = s.rd (stCtr n 0x12))
    (fun u => u.rd (stCtr n 0x12) = (s.rd (stCtr n 0x12) + 1) % 2 ^ 64) hn ⟨h, hf, rfl⟩ ?_ ?_ ?_
  · intro i _ hne u hu
    obtain ⟨hfeeds, hforeign, hc⟩ := hu
    have ho := u.portOnly_flowRound udp source payload i
    exact ⟨(ho.feeds hn hne.symm).mpr hfeeds, ho.flowForeign.trans hforeign, (ho.rd_port hn hne.symm (ofPort_streamCounter n (by omega))).trans hc⟩
  · intro u hu
    obtain ⟨hfeeds, hforeign, hc⟩ := hu
    rw [Dev.flowRound_foreign hfeeds hforeign, Dev.rd_bump_same, stCtr_bits, (u.poised_heard n).regs _ (by simpa using stCtr_ne (by omega)), hc]
  · intro i _ hne u hu
    exact ((u.portOnly_flowRound udp source payload i).rd_port hn hne.symm (ofPort_streamCounter n (by omega))).trans hu

end

/-! ### A datagram of its own source (R122) -/

section
variable {s : Dev} {n : Nat} {payload : List Byte}

theorem Dev.flowDatagram_version (h : leAt payload 0 2 ≠ 0x0100) : s.flowDatagram n payload = s.bump (stCtr n 5) := if_pos h

/-- How many datagrams a datagram shows missed since the last (R122). -/
def Dev.missed (s : Dev) (n : Nat) (payload : List Byte) : Int :=
  match (s.str n).flowSeq with
  | none => 0
  | some p => stampDiff 32 (leAt payload 4 4) (wrapAdd 32 p 1)

theorem Dev.flowDatagram_eq (h : leAt payload 0 2 = 0x0100) :
    s.flowDatagram n payload = if s.missed n payload < 0 then s.bump (stCtr n 0x11)
      else ((s.bumpBy (stCtr n 0x11) (s.missed n payload).toNat).updStr n (fun x => { x with flowSeq := some (leAt payload 4 4) })).decodePayload n
        (payload.drop 16) (leAt payload 2 2) := if_neg (not_not.mpr h)

theorem Dev.flowDatagram_behind {p : Nat} (h : leAt payload 0 2 = 0x0100) (hp : (s.str n).flowSeq = some p)
    (hd : stampDiff 32 (leAt payload 4 4) (wrapAdd 32 p 1) < 0) : s.flowDatagram n payload = s.bump (stCtr n 0x11) := by
  rw [Dev.flowDatagram_eq h, if_pos (by rw [Dev.missed, hp]; exact hd)]

theorem stampDiff_self (a : Nat) : stampDiff 32 a a = 0 := by
  rw [stampDiff, Int.sub_self]
  decide

theorem Dev.missed_none (hs : (s.str n).flowSeq = none ∨ ∃ p, (s.str n).flowSeq = some p ∧ leAt payload 4 4 = wrapAdd 32 p 1) : s.missed n payload = 0 := by
  rcases hs with hs | ⟨p, hs, e⟩
  · rw [Dev.missed, hs]
  · rw [Dev.missed, hs, e]
    exact stampDiff_self _

/-- The device with the datagram sequence of stream `n` at that of `payload`, none missed. -/
def Dev.sequenced (s : Dev) (n : Nat) (payload : List Byte) : Dev :=
  (s.bumpBy (stCtr n 0x11) 0).updStr n (fun x => { x with flowSeq := some (leAt payload 4 4) })

theorem Dev.flowDatagram_next (h : leAt payload 0 2 = 0x0100)
    (hs : (s.str n).flowSeq = none ∨ ∃ p, (s.str n).flowSeq = some p ∧ leAt payload 4 4 = wrapAdd 32 p 1) :
    s.flowDatagram n payload = (s.sequenced n payload).decodePayload n (payload.drop 16) (leAt payload 2 2) := by
  rw [Dev.flowDatagram_eq h, Dev.missed_none hs, if_neg (by decide)]
  rfl

theorem Dev.poised.sequenced {t : Dev} (h : s.poised n t) (payload : List Byte) : s.poised n (t.sequenced n payload) :=
  (h.bumpBy 0).updStr (fun _ => rfl)

theorem Dev.flowSeq_sequenced : ((s.sequenced n payload).str n).flowSeq = some (leAt payload 4 4) := by
  rw [Dev.sequenced, Dev.str_updStr]

end

end Sys2Proof.Machine
end

section
/-! What a packet and a datagram leave (R118 to R123, R134, R137, R139, R148, R149). -/

namespace Sys2Proof.Machine

open Sys2Proof

theorem Dev.regsKept_heard (s : Dev) (n : Nat) (ks : List Nat) : s.regsKept (s.heard n) ks := by
  unfold Dev.heard
  split <;> exact fun _ _ => rfl

theorem Dev.flowSeq_heard (s : Dev) (n : Nat) : ((s.heard n).str n).flowSeq = (s.str n).flowSeq := by
  unfold Dev.heard
  split
  · rfl
  · rw [Dev.active, Dev.str_updStr]

theorem Dev.activeF_heard {s : Dev} {n : Nat} (h : s.stState n ≠ 0) : ((s.heard n).str n).activeF = s.rf := by
  rw [Dev.heard, if_neg h, Dev.active, Dev.str_updStr]

/-! ### Packets that are discarded -/

section
variable {s : Dev} {n : Nat} {k : CsiPacket}

theorem Dev.rd_bump_heard (j : Nat) : ((s.heard n).bump (stCtr n j)).rd (stCtr n j) = (s.rd (stCtr n j) + 1) % 2 ^ 64 := by
  rw [Dev.rd_bump_same, stCtr_bits, s.regsKept_heard n [] _ List.not_mem_nil]

/-- A packet that is discarded loses its words while the stream runs (R120). -/
theorem Dev.lost_csiLost (hn : n < 36) {j : Nat} (hj : j < 255) (hst : s.stState n = 5) (payload : List Byte) :
    (((s.heard n).csiLost n payload ((s.heard n).bump (stCtr n j))).str n).lost = (s.str n).lost + s.wordsIn n payload := by
  have h := s.poised_heard n
  rw [Dev.csiLost, if_pos (h.stState.trans hst), Dev.lost_losePacket, Dev.wordsIn_bump hn j hj, h.wordsIn hn, Dev.str_bump, h.lost]

/-- A packet whose header fails is counted, and loses its words while the stream runs. -/
theorem Dev.csi_uncorrectable (hn : n < 36) (hst : s.stState n = 5) (hk : k.header = .uncorrectable) :
    ((s.heard n).csiPacket n k).rd (stCtr n 2) = (s.rd (stCtr n 2) + 1) % 2 ^ 64 ∧
    ((s.heard n).csiPacket n k).rd (stCtr n 0x18) = (s.rd (stCtr n 0x18) + s.wordsIn n k.payload) % 2 ^ 64 ∧
    (((s.heard n).csiPacket n k).str n).lost = (s.str n).lost + s.wordsIn n k.payload ∧
    s.regsKept ((s.heard n).csiPacket n k) [(stCtr n 2).key, (stCtr n 0x18).key] := by
  have h := s.poised_heard n
  rw [Dev.csiPacket_uncorrectable hk]
  refine ⟨(Dev.rd_csiLost _ _ (stCtr_ne (by omega))).trans (Dev.rd_bump_heard 2), ?_, Dev.lost_csiLost hn (by omega) hst _, ?_⟩
  · rw [Dev.csiLost, if_pos (h.stState.trans hst), Dev.rd_losePacket_same, Dev.wordsIn_bump hn 2 (by omega), h.wordsIn hn,
      Dev.rd_bump_other _ (stCtr_ne (by omega)), s.regsKept_heard n [] _ List.not_mem_nil]
  · rw [Dev.csiLost, if_pos (h.stState.trans hst)]
    exact (((s.regsKept_heard n _).bump (by simp)).bumpBy _ (by simp)).updStr n _

/-- While the stream does not run it loses nothing (R129). -/
theorem Dev.csi_uncorrectable_idle (hst : s.stState n ≠ 5) (hk : k.header = .uncorrectable) :
    ((s.heard n).csiPacket n k).rd (stCtr n 2) = (s.rd (stCtr n 2) + 1) % 2 ^ 64 ∧ (((s.heard n).csiPacket n k).str n).lost = (s.str n).lost ∧
    s.regsKept ((s.heard n).csiPacket n k) [(stCtr n 2).key] := by
  have h := s.poised_heard n
  rw [Dev.csiPacket_uncorrectable hk, Dev.csiLost, if_neg (by rw [h.stState]; exact hst)]
  exact ⟨Dev.rd_bump_heard 2, h.lost, (s.regsKept_heard n _).bump (by simp)⟩

/-- A packet of a foreign virtual channel is counted (R120). -/
theorem Dev.csi_foreign (hk : k.header = .ok) (hv : k.vc ≠ s.rd (Obj.virtualChannel n)) :
    ((s.heard n).csiPacket n k).rd (stCtr n 0x15) = (s.rd (stCtr n 0x15) + 1) % 2 ^ 64 := by
  rw [Dev.csiPacket_foreign hk (by rw [s.regsKept_heard n [] _ List.not_mem_nil]; exact hv)]
  exact (Dev.rd_csiLost _ _ (stCtr_ne (by omega))).trans (Dev.rd_bump_heard 0x15)

/-- The packet is one of the stream's own sensor words (R119). -/
structure Dev.plainPacket (s : Dev) (n : Nat) (k : CsiPacket) : Prop where
  header : k.header = .ok
  channel : k.vc = s.rd (Obj.virtualChannel n)
  long : 0x10 ≤ k.dt
  type : k.dt = s.rd (Obj.dataType n)

theorem Dev.plainPacket.heard (h : s.plainPacket n k) : (s.heard n).plainPacket n k :=
  { header := h.header
    channel := by rw [s.regsKept_heard n [] _ List.not_mem_nil]; exact h.channel
    long := h.long
    type := by rw [s.regsKept_heard n [] _ List.not_mem_nil]; exact h.type }

theorem Dev.wordsIn_sedCount (off : Nat) (payload : List Byte) : (s.sedCount off).wordsIn n payload = s.wordsIn n payload := by
  rw [Dev.wordsIn, Dev.profileOf_sedCount, Dev.rd, Dev.dict_sedCount, Dev.wordsIn, Dev.rd]

/-- One whose CRC fails is counted, and its words are lost (R120). -/
theorem Dev.csi_crc (hn : n < 36) (hst : s.stState n = 5) (hk : s.plainPacket n k) (hc : k.crcOk = false) :
    ((s.heard n).csiPacket n k).rd (stCtr n 4) = (s.rd (stCtr n 4) + 1) % 2 ^ 64 ∧
    (((s.heard n).csiPacket n k).str n).lost = (s.str n).lost + s.wordsIn n k.payload := by
  have hp := hk.heard
  have hsed : ((s.heard n).csiLost n k.payload (((s.heard n).bump (stCtr n 4)).sedError 0x45)).str n =
      ((s.heard n).csiLost n k.payload ((s.heard n).bump (stCtr n 4))).str n := by
    simp only [Dev.csiLost, Dev.losePacket]
    split
    · rw [Dev.sedError, Dev.wordsIn_sedCount, Dev.str_lose, Dev.str_lose, Dev.str_bumpBy, Dev.str_bumpBy, Dev.str_sedCount]
    · rw [Dev.sedError, Dev.str_sedCount]
  rw [Dev.csiPacket_crc hp.header hp.channel hp.long hp.type hc]
  exact ⟨(Dev.rd_csiLost _ _ (stCtr_ne (by omega))).trans (Dev.rd_bump_heard 4), (congrArg Stream.lost hsed).trans (Dev.lost_csiLost hn (by omega) hst _)⟩

/-- One that comes whole is decoded while the stream runs (R129). -/
theorem Dev.csi_decoded (hst : s.stState n = 5) (hk : s.plainPacket n k) (hc : k.crcOk = true) :
    (s.heard n).csiPacket n k = (s.heard n).decodePayload n k.payload ((s.heard n).wordsIn n k.payload) :=
  Dev.csiPacket_runs hk.heard.header hk.heard.channel hk.heard.long hk.heard.type hc ((s.poised_heard n).stState.trans hst)

/-! ### One sensor word of a packet -/

variable (hn : n < 36) (hst : s.stState n = 5) (hk : s.plainPacket n k) (hc : k.crcOk = true) (h1 : s.wordsIn n k.payload = 1)
include hn hst hk hc h1

omit hst hk hc in
theorem Dev.csi_count : min ((s.heard n).wordsIn n k.payload) (s.wordsIn n k.payload) = 1 := by
  rw [(s.poised_heard n).wordsIn hn, h1, Nat.min_self]

theorem Dev.csi_error (he : field (s.tableEntry n (s.firstWord n k.payload)) 0 4 = 7) : (s.heard n).csiPacket n k = (s.heard n).bump (stCtr n 5) := by
  rw [Dev.csi_decoded hst hk hc, (s.poised_heard n).decode_error hn (Dev.csi_count hn h1) he]

theorem Dev.csi_row (he : field (s.tableEntry n (s.firstWord n k.payload)) 0 4 = 2) :
    (((s.heard n).csiPacket n k).str n).y = entryField (s.tableEntry n (s.firstWord n k.payload)) (s.firstWord n k.payload) % 4096 ∧
    s.regsKept ((s.heard n).csiPacket n k) [] := by
  rw [Dev.csi_decoded hst hk hc, (s.poised_heard n).decode_row hn (Dev.csi_count hn h1) he]
  exact ⟨by rw [Dev.str_updStr], (s.regsKept_heard n []).updStr n _⟩

theorem Dev.csi_event (he : field (s.tableEntry n (s.firstWord n k.payload)) 0 4 = 4) (hb : field (s.tableEntry n (s.firstWord n k.payload)) 19 5 = 0)
    (hp : s.passes n (entryField (s.tableEntry n (s.firstWord n k.payload)) (s.firstWord n k.payload))) :
    (∃ τ, (((s.heard n).csiPacket n k).str n).queue = (s.str n).queue ++
      [mkWord n (entryField (s.tableEntry n (s.firstWord n k.payload)) (s.firstWord n k.payload)) (s.str n).y
        (entryPol (s.tableEntry n (s.firstWord n k.payload)) (s.firstWord n k.payload)) 0 τ]) ∧
    ((s.heard n).csiPacket n k).rd (stCtr n 0) = (s.rd (stCtr n 0) + 1) % 2 ^ 64 := by
  rw [Dev.csi_decoded hst hk hc]
  obtain ⟨hq, hcount, -⟩ := (s.poised_heard n).decode_event hn (Dev.csi_count hn h1) he hb hp
  exact ⟨hq, hcount⟩

end

/-! ### One sensor word of a datagram -/

section
variable {s : Dev} {n : Nat} {payload : List Byte}

/-- A datagram of another FlowVersion is a decode error (R123). -/
theorem Dev.flow_version (hv : leAt payload 0 2 ≠ 0x0100) :
    ((s.heard n).flowDatagram n payload).rd (stCtr n 5) = (s.rd (stCtr n 5) + 1) % 2 ^ 64 ∧
    (((s.heard n).flowDatagram n payload).str n).flowSeq = (s.str n).flowSeq ∧ s.regsKept ((s.heard n).flowDatagram n payload) [(stCtr n 5).key] := by
  rw [Dev.flowDatagram_version hv]
  exact ⟨Dev.rd_bump_heard 5, by rw [Dev.str_bump, Dev.flowSeq_heard], (s.regsKept_heard n _).bump (by simp)⟩

/-- One that does not lie ahead is counted and discarded (R122). -/
theorem Dev.flow_behind {p : Nat} (hv : leAt payload 0 2 = 0x0100) (hp : (s.str n).flowSeq = some p)
    (hd : stampDiff 32 (leAt payload 4 4) (wrapAdd 32 p 1) < 0) :
    ((s.heard n).flowDatagram n payload).rd (stCtr n 0x11) = (s.rd (stCtr n 0x11) + 1) % 2 ^ 64 ∧
    (((s.heard n).flowDatagram n payload).str n).flowSeq = some p ∧ (((s.heard n).flowDatagram n payload).str n).queue = (s.str n).queue ∧
    s.regsKept ((s.heard n).flowDatagram n payload) [(stCtr n 0x11).key] := by
  have hseq := (s.flowSeq_heard n).trans hp
  rw [Dev.flowDatagram_behind hv hseq hd]
  exact ⟨Dev.rd_bump_heard 0x11, by rw [Dev.str_bump, hseq], by rw [Dev.str_bump, (s.poised_heard n).queue], (s.regsKept_heard n _).bump (by simp)⟩

variable (hn : n < 36) (hv : leAt payload 0 2 = 0x0100)
  (hs : (s.str n).flowSeq = none ∨ ∃ p, (s.str n).flowSeq = some p ∧ leAt payload 4 4 = wrapAdd 32 p 1)
  (h1 : min (leAt payload 2 2) (s.wordsIn n (payload.drop 16)) = 1)
include hn hv hs h1

theorem Dev.flow_row (hst : s.stState n ≠ 0) (he : field (s.tableEntry n (s.firstWord n (payload.drop 16))) 0 4 = 2) :
    (((s.heard n).flowDatagram n payload).str n).flowSeq = some (leAt payload 4 4) ∧ (((s.heard n).flowDatagram n payload).str n).activeF = s.rf ∧
    (((s.heard n).flowDatagram n payload).str n).y =
      entryField (s.tableEntry n (s.firstWord n (payload.drop 16))) (s.firstWord n (payload.drop 16)) % 4096 ∧
    (((s.heard n).flowDatagram n payload).str n).queue = (s.str n).queue ∧ s.regsKept ((s.heard n).flowDatagram n payload) [(stCtr n 0x11).key] ∧
    ((s.heard n).flowDatagram n payload).rd (stCtr n 0x11) = s.rd (stCtr n 0x11) % 2 ^ 64 := by
  have hp := (s.poised_heard n).sequenced payload
  rw [Dev.flowDatagram_next hv (by rw [s.flowSeq_heard]; exact hs), hp.decode_row hn h1 he, Dev.str_updStr]
  refine ⟨Dev.flowSeq_sequenced, ?_, rfl, hp.queue, hp.regs.updStr n _, ?_⟩
  · rw [Dev.sequenced, Dev.str_updStr, Dev.str_bumpBy]
    exact Dev.activeF_heard hst
  · rw [Dev.rd_updStr, Dev.sequenced, Dev.rd_updStr, Dev.rd_bumpBy_same, stCtr_bits, s.regsKept_heard n [] _ List.not_mem_nil, Nat.add_zero]

theorem Dev.flow_event (he : field (s.tableEntry n (s.firstWord n (payload.drop 16))) 0 4 = 4)
    (hb : field (s.tableEntry n (s.firstWord n (payload.drop 16))) 19 5 = 0)
    (hp : s.passes n (entryField (s.tableEntry n (s.firstWord n (payload.drop 16))) (s.firstWord n (payload.drop 16)))) :
    (∃ τ, (((s.heard n).flowDatagram n payload).str n).queue = (s.str n).queue ++
      [mkWord n (entryField (s.tableEntry n (s.firstWord n (payload.drop 16))) (s.firstWord n (payload.drop 16))) (s.str n).y
        (entryPol (s.tableEntry n (s.firstWord n (payload.drop 16))) (s.firstWord n (payload.drop 16))) 0 τ]) ∧
    (((s.heard n).flowDatagram n payload).str n).flowSeq = some (leAt payload 4 4) ∧
    ((s.heard n).flowDatagram n payload).rd (stCtr n 0) = (s.rd (stCtr n 0) + 1) % 2 ^ 64 := by
  rw [Dev.flowDatagram_next hv (by rw [s.flowSeq_heard]; exact hs)]
  obtain ⟨hq, hcount, hseq⟩ := ((s.poised_heard n).sequenced payload).decode_event hn h1 he hb hp
  exact ⟨hq, hseq.trans Dev.flowSeq_sequenced, hcount⟩

end

/-! ### The commands -/

theorem flowDatagram_next {s : State} {port : Fin 2} (udp : Nat) (source payload : List Byte) (fcsOk : Bool) (h : s.dev.up (175 + port.val)) :
    execFlowDatagram port udp source payload fcsOk s =
      .next { s with dev := if fcsOk then s.dev.fresh.flowArrives udp source payload else s.dev.fresh.badFrame port.val } := by
  have hd : s.dev.fresh.domOn (175 + port.val) = true := h.2
  rw [execFlowDatagram, State.framed_next _ _ h.1, if_pos hd]

/-- A datagram of its own source for the one stream that it feeds is decoded by that stream. -/
theorem flowDatagram_own {s : State} {port : Fin 2} {n : Fin 36} {udp : Nat} {source : List Byte} (payload : List Byte) (h : s.dev.up (175 + port.val))
    (hf : s.dev.feeds udp n.val) (hone : ∀ m, m < 36 → m ≠ n.val → ¬ s.dev.feeds udp m) (hst : s.dev.stState n.val = 5)
    (hown : s.dev.flowForeign n.val (bytesAt source 0 16) = false) :
    execFlowDatagram port udp source payload true s = .next { s with dev := (s.dev.fresh.heard n.val).flowDatagram n.val payload } := by
  rw [flowDatagram_next _ _ _ _ h, if_pos rfl, Dev.flowArrives_one (s := s.dev.fresh) n.isLt hone, Dev.flowRound_own (s := s.dev.fresh) hf hown hst]

/-- Settles O28: the link's activity changes nothing that decoding reads; a word that every filter passes joins the queue behind what it holds, and the rounds of a datagram's
arrival for other streams touch their own ports alone. -/
theorem packetsDecode : Obligations.PacketsDecode := by
  intro s n
  have hn := n.isLt
  refine ⟨fun k hup hsrc hst => ⟨fun hk => ?_, fun hk hv => ?_, fun hk hv hlong htype => ⟨fun hc => ?_, fun hc h1 => ⟨fun he => ?_, fun he => ?_,
    fun he hb ha hw hy hund hcool hflood hlost hback hring hroom => ?_⟩⟩⟩,
    fun k hup hsrc hst hk => ?_, fun port udp source payload hup => ⟨?_, fun hdom hsrc hudp hport hforeign => ?_,
    fun hnone => ?_, fun hf hone hst hown => ⟨fun hver => ?_, fun p hver hseq hd => ?_, fun hver hseq h1 => ⟨fun he => ?_,
    fun he hb ha hw hy hund hcool hflood hlost hback hring hroom => ?_⟩⟩⟩⟩
  · obtain ⟨hc, hw, hl, hr⟩ := Dev.csi_uncorrectable (s := s.dev.fresh) hn hst hk
    exact ⟨_, csi2Packet_next hup hsrc, hc, hw, hl, hr, s.sameRest_dev _⟩
  · exact ⟨_, csi2Packet_next hup hsrc, Dev.csi_foreign (s := s.dev.fresh) hk hv, s.sameRest_dev _⟩
  · obtain ⟨hcount, hl⟩ := Dev.csi_crc (s := s.dev.fresh) hn hst ⟨hk, hv, hlong, htype⟩ hc
    exact ⟨_, csi2Packet_next hup hsrc, hcount, hl, s.sameRest_dev _⟩
  · have hout := Dev.csi_error (s := s.dev.fresh) hn hst ⟨hk, hv, hlong, htype⟩ hc h1 he
    refine ⟨_, csi2Packet_next hup hsrc, ?_⟩
    dsimp only
    rw [hout]
    exact ⟨Dev.rd_bump_heard (s := s.dev.fresh) 5, (s.dev.fresh.regsKept_heard n _).bump (by simp [stCtr]), s.sameRest_dev _⟩
  · obtain ⟨hy, hr⟩ := Dev.csi_row (s := s.dev.fresh) hn hst ⟨hk, hv, hlong, htype⟩ hc h1 he
    exact ⟨_, csi2Packet_next hup hsrc, hy, hr, s.sameRest_dev _⟩
  · obtain ⟨hq, hcount⟩ := Dev.csi_event (s := s.dev.fresh) hn hst ⟨hk, hv, hlong, htype⟩ hc h1 he hb
      ⟨ha, hw, hy, hund, hcool, hflood, hlost, hback, hring, hroom⟩
    exact ⟨_, csi2Packet_next hup hsrc, hq, hcount, s.sameRest_dev _⟩
  · obtain ⟨hc, hl, hr⟩ := Dev.csi_uncorrectable_idle (s := s.dev.fresh) hst hk
    exact ⟨_, csi2Packet_next hup hsrc, hc, hl, hr, s.sameRest_dev _⟩
  · exact ⟨_, flowDatagram_next udp source payload false hup, Dev.rd_bump_same _ _, fun r hr => s.dev.rd_bump_other (by simpa using hr), s.sameRest_dev _⟩
  · exact ⟨_, flowDatagram_next udp source payload true hup, Dev.flowArrives_foreign (s := s.dev.fresh) hn ⟨hdom, hsrc, hudp, hport⟩ hforeign, s.sameRest_dev _⟩
  · exact ⟨_, flowDatagram_next udp source payload true hup, Dev.flowArrives_unfed (s := s.dev.fresh) hnone, s.sameRest_dev _⟩
  · obtain ⟨hc, hseq, hr⟩ := Dev.flow_version (s := s.dev.fresh) (n := n.val) hver
    exact ⟨_, flowDatagram_own payload hup hf hone hst hown, hc, hseq, hr, s.sameRest_dev _⟩
  · obtain ⟨hc, hseq', hq, hr⟩ := Dev.flow_behind (s := s.dev.fresh) (n := n.val) hver hseq hd
    exact ⟨_, flowDatagram_own payload hup hf hone hst hown, hc, hseq', hq, hr, s.sameRest_dev _⟩
  · obtain ⟨hseq', hact, hy, hq, hr, hc⟩ := Dev.flow_row (s := s.dev.fresh) hn hver hseq h1 (by rw [Dev.stState_fresh, hst]; decide) he
    exact ⟨_, flowDatagram_own payload hup hf hone hst hown, hseq', hact, hy, hq, hr, hc, s.sameRest_dev _⟩
  · obtain ⟨hq, hseq', hc⟩ := Dev.flow_event (s := s.dev.fresh) hn hver hseq h1 he hb ⟨ha, hw, hy, hund, hcool, hflood, hlost, hback, hring, hroom⟩
    exact ⟨_, flowDatagram_own payload hup hf hone hst hown, hq, hseq', hc, s.sameRest_dev _⟩

end Sys2Proof.Machine
end

section
/-! Populations (R186 to R191, R198, R199): the record of a population on a cluster, a word taken from its source slot, and an input applied. -/

namespace Sys2Proof.Machine

open Sys2Proof

/-! ### A population on a cluster -/

section
variable (s : Dev) (h c : Nat)

theorem Dev.pop_updPop (f : Pop → Pop) : (s.updPop h f).pop h = f (s.pop h) := Tab.get_upd_same ..

/-- A change that keeps the record's cluster changes the record of that cluster. -/
theorem Dev.on_updPopOn {f : PopCluster → PopCluster} (hf : ∀ x, (f x).cluster = x.cluster) :
    ((s.updPopOn h c f).pop h).on c = ((s.pop h).on c).map f := by
  have hkeep : (fun x : PopCluster => (if x.cluster = c then f x else x).cluster == c) = fun x => x.cluster == c := by
    funext x
    split <;> simp only [hf]
  rw [Dev.updPopOn, Dev.pop_updPop, Pop.on, List.find?_map, Function.comp_def, hkeep, Pop.on]
  cases hx : (s.pop h).clusters.find? (fun x => x.cluster == c) with
  | none => rfl
  | some x =>
    have hc : x.cluster = c := by simpa using List.find?_some hx
    simp only [Option.map_some, hc, if_true]

theorem Dev.on_updPopOn_some {f : PopCluster → PopCluster} {x : PopCluster} (hf : ∀ x, (f x).cluster = x.cluster)
    (hx : (s.pop h).on c = some x) : ((s.updPopOn h c f).pop h).on c = some (f x) := by
  rw [Dev.on_updPopOn s h c hf, hx, Option.map_some]

/-- The clusters alone change: the population stays with its plan slot and its entry there. -/
theorem Dev.place_updPopOn (f : PopCluster → PopCluster) :
    ((s.updPopOn h c f).pop h).slot = (s.pop h).slot ∧ ((s.updPopOn h c f).pop h).entry = (s.pop h).entry := by
  rw [Dev.updPopOn, Dev.pop_updPop]
  exact ⟨rfl, rfl⟩

/-- Inputs that wait for units are served where there are any (R198). -/
theorem Dev.serveWaiting_none {x : PopCluster} (hx : (s.pop h).on c = some x) (hw : x.waiting = []) : s.serveWaiting h c = s := by
  simp only [Dev.serveWaiting, hx, hw, if_true]

end

/-! ### Horizons (R187) -/

section
variable (x : PopCluster) (slot : Nat) (j : Int)

/-- A horizon raised to `j` has reached `j`. -/
theorem PopCluster.reached_raiseHorizon : ({ x with horizons := raiseHorizon x.horizons slot j } : PopCluster).reached slot j = true := by
  simp only [PopCluster.reached, raiseHorizon]
  cases hz : x.horizons.find? (fun z => z.1 == slot) with
  | none => simp
  | some z =>
    have hmem := List.mem_of_find?_eq_some hz
    have hslot : z.1 = slot := by simpa using List.find?_some hz
    dsimp only
    split
    · exact List.any_eq_true.2 ⟨(slot, j), List.mem_map.2 ⟨z, hmem, if_pos hslot⟩, by simp⟩
    · next hge => exact List.any_eq_true.2 ⟨z, hmem, by simp [hslot, not_lt.1 hge]⟩

/-- The horizons of the other slots stay where they were. -/
theorem PopCluster.reached_raiseHorizon_other {i : Nat} (k : Int) (hi : i ≠ slot) :
    ({ x with horizons := raiseHorizon x.horizons slot j } : PopCluster).reached i k = x.reached i k := by
  simp only [PopCluster.reached, raiseHorizon]
  cases x.horizons.find? (fun z => z.1 == slot) with
  | none => simp [hi.symm]
  | some z =>
    dsimp only
    split
    · rw [List.any_map]
      congr 1
      funext y
      by_cases hy : y.1 = slot
      · have hne : (slot == i) = false := by simpa using hi.symm
        simp [hy, hne]
      · simp [hy]
    · rfl

end

/-! ### A word taken from its slot (R176, R187) -/

/-- From `s` to `t` a word for population `h` on cluster `c` has been taken, and `rest` stays on its way: of the population nothing changes but the horizons of its record
`x` on the cluster. -/
structure Dev.Heard (h c : Nat) (x : PopCluster) (rest : List Transit) (s t : Dev) : Prop where
  transit : t.transit = rest
  dict : t.dict = s.dict
  neurons : t.neurons = s.neurons
  accs : t.accs = s.accs
  residues : t.residues = s.residues
  plans : t.plans = s.plans
  slots : t.unitMap = s.unitMap ∧ t.silted = s.silted
  place : (t.pop h).slot = (s.pop h).slot ∧ (t.pop h).entry = (s.pop h).entry
  record : ∃ hs, (t.pop h).on c = some { x with horizons := hs }

section
variable {s t : Dev} {h c : Nat} {x : PopCluster} {rest : List Transit}

theorem Dev.confWatch_only (s : Dev) : ∃ a b, s.confWatch = { s with confFullF := a, confFullNs := b } := by
  rcases s.confWatch_cases with e | e | e <;> exact ⟨_, _, e⟩

/-- A taken word changes only what is on its way, the routes' acceptance and how long Confluence's queue has been full. -/
theorem Dev.tookWord_only (s : Dev) (w : Transit) (rest : List Transit) :
    ∃ hold a b, s.tookWord w rest = { s with transit := rest, routeHold := hold, confFullF := a, confFullNs := b } := by
  unfold Dev.tookWord Dev.accepting
  obtain ⟨a, b, e⟩ := Dev.confWatch_only _
  exact ⟨_, a, b, e⟩

theorem Dev.on_tookWord (s : Dev) (h c : Nat) (w : Transit) (rest : List Transit) : ((s.tookWord w rest).pop h).on c = (s.pop h).on c := by
  obtain ⟨hold, a, b, e⟩ := s.tookWord_only w rest
  rw [e]
  rfl

theorem Dev.heard_tookWord (w : Transit) (hx : (s.pop h).on c = some x) : s.Heard h c x rest (s.tookWord w rest) := by
  obtain ⟨hold, a, b, e⟩ := s.tookWord_only w rest
  rw [e]
  exact ⟨rfl, rfl, rfl, rfl, rfl, rfl, ⟨rfl, rfl⟩, ⟨rfl, rfl⟩, _, hx⟩

/-- A change of the record's horizons goes with the word. -/
theorem Dev.Heard.raised (ht : s.Heard h c x rest t) (f : List (Nat × Int) → List (Nat × Int)) :
    s.Heard h c x rest (t.updPopOn h c (fun y => { y with horizons := f y.horizons })) := by
  obtain ⟨hs, hon⟩ := ht.record
  obtain ⟨hslot, hentry⟩ := t.place_updPopOn h c (fun y => { y with horizons := f y.horizons })
  have hraised := t.on_updPopOn_some h c (f := fun y => { y with horizons := f y.horizons }) (fun _ => rfl) hon
  exact ⟨ht.transit, ht.dict, ht.neurons, ht.accs, ht.residues, ht.plans, ht.slots, ⟨hslot.trans ht.place.1, hentry.trans ht.place.2⟩, _, hraised⟩

theorem Dev.Heard.regsKept (ht : s.Heard h c x rest t) (ks : List Nat) : s.regsKept t ks := (Dev.regsKept.refl s ks).of_dict ht.dict

theorem Dev.Heard.rd (ht : s.Heard h c x rest t) (r : Reg) : t.rd r = s.rd r := ht.regsKept [] r List.not_mem_nil

/-- An input reaches the synapses that it reached before the word was taken. -/
theorem Dev.Heard.heldSynapses (ht : s.Heard h c x rest t) (c' : Nat) (y : FutureInput) : t.heldSynapses h c' y = s.heldSynapses h c' y := by
  simp only [Dev.heldSynapses, Dev.popEntry, Dev.inputSynapses, Dev.kernelSynapses, Dev.sparseSynapses, Dev.blobOf, Dev.plan, ht.plans, ht.place]

theorem Dev.Heard.unitWorks (ht : s.Heard h c x rest t) (g : Nat) : t.unitWorks g = s.unitWorks g := by
  simp only [Dev.unitWorks, Dev.slotOf, Dev.getF_dict, Dev.bit_dict, ht.dict, ht.slots]

end

/-- The device once the word `w` for source slot `slot` has been taken: a stream word has raised the horizon of its slot (R187). -/
def Dev.wordHeard (s : Dev) (h c slot : Nat) (w : Transit) (rest : List Transit) (j : Int) : Dev :=
  if w.route < 2 ^ 24 then (s.tookWord w rest).updPopOn h c (fun y => { y with horizons := raiseHorizon y.horizons slot (j - 1) }) else s.tookWord w rest

theorem Dev.heard_wordHeard {s : Dev} {h c : Nat} {x : PopCluster} (slot : Nat) (w : Transit) (rest : List Transit) (j : Int)
    (hx : (s.pop h).on c = some x) : s.Heard h c x rest (s.wordHeard h c slot w rest j) := by
  unfold Dev.wordHeard
  split
  · exact (Dev.heard_tookWord w hx).raised (raiseHorizon · slot (j - 1))
  · exact Dev.heard_tookWord w hx

/-- A word waits for source slot `slot` of population `h`, which runs on cluster `c` in shoal mode and has no input that waits for a unit. -/
structure Dev.WordWaits (s : Dev) (h c slot : Nat) (x : PopCluster) (w : Transit) (rest : List Transit) : Prop where
  entry : ∃ e, s.popEntry h = some e
  record : (s.pop h).on c = some x
  runs : s.popRuns h = true
  shoal : s.shoalMode c = true
  served : x.waiting = []
  first : takeFirst (fun t => decide (t.dest = .population h c slot)) s.transit = some (w, rest)

/-- The word is an input (R186): a spike word, or a stream word that counts. -/
def Transit.isInput (w : Transit) : Prop := w.horizon = false ∧ (2 ^ 24 ≤ w.route ∨ wKind w.word ≤ 1)

/-! ### The oldest word of a slot (R186, R190, R191) -/

section
variable {s : Dev} {h c slot : Nat} {x : PopCluster} {w : Transit} {rest : List Transit} (poisoned : Bool)

/-- An input as it reaches a population: held, or applied. -/
theorem Dev.shoalInput_input (hs : s.WordWaits h c slot x w rest) (hw : w.isInput) : s.shoalInput h c slot poisoned =
    if x.tick < s.wordTick h x w ∧ 4096 ≤ x.future.length then s
    else if x.tick < s.wordTick h x w then
      ((s.wordHeard h c slot w rest (s.wordTick h x w)).updPopOn h c (fun y =>
        { y with future := y.future ++ [⟨s.wordTick h x w, slot, w.word, w.second, poisoned || w.poisoned⟩] })).bump (popCtr h 12)
    else (s.wordHeard h c slot w rest (s.wordTick h x w)).applyInput h c ⟨s.wordTick h x w, slot, w.word, w.second, poisoned || w.poisoned⟩
      (decide (s.wordTick h x w < x.tick)) := by
  obtain ⟨e, he⟩ := hs.entry
  obtain ⟨hh, hinput⟩ := hw
  have hin : (!decide (w.route < 2 ^ 24) || decide (wKind w.word ≤ 1)) = true := by
    simp only [Bool.or_eq_true, Bool.not_eq_true', decide_eq_false_iff_not, decide_eq_true_eq, not_lt]
    exact hinput
  obtain ⟨hslots, hon⟩ := (Dev.heard_tookWord (rest := rest) w hs.record).record
  have hserve : (s.tookWord w rest).serveWaiting h c = s.tookWord w rest := Dev.serveWaiting_none _ h c hon hs.served
  simp only [Dev.shoalInput, hs.first, he, hs.record, hs.runs, hs.shoal, hh, hin, hserve, Dev.wordHeard, decide_eq_true_eq, Bool.and_eq_true,
    Bool.not_true, Bool.or_false, Bool.false_eq_true, true_and, if_false]

theorem Dev.shoalInput_future (hs : s.WordWaits h c slot x w rest) (hw : w.isInput) (hj : x.tick < s.wordTick h x w) (hroom : x.future.length < 4096) :
    s.shoalInput h c slot poisoned = ((s.wordHeard h c slot w rest (s.wordTick h x w)).updPopOn h c (fun y =>
      { y with future := y.future ++ [⟨s.wordTick h x w, slot, w.word, w.second, poisoned || w.poisoned⟩] })).bump (popCtr h 12) := by
  rw [Dev.shoalInput_input poisoned hs hw, if_neg (by omega), if_pos hj]

theorem Dev.shoalInput_full (hs : s.WordWaits h c slot x w rest) (hw : w.isInput) (hj : x.tick < s.wordTick h x w) (hfull : 4096 ≤ x.future.length) :
    s.shoalInput h c slot poisoned = s := by
  rw [Dev.shoalInput_input poisoned hs hw, if_pos ⟨hj, hfull⟩]

theorem Dev.shoalInput_applied (hs : s.WordWaits h c slot x w rest) (hw : w.isInput) (hj : s.wordTick h x w ≤ x.tick) :
    s.shoalInput h c slot poisoned = (s.wordHeard h c slot w rest (s.wordTick h x w)).applyInput h c
      ⟨s.wordTick h x w, slot, w.word, w.second, poisoned || w.poisoned⟩ (decide (s.wordTick h x w < x.tick)) := by
  rw [Dev.shoalInput_input poisoned hs hw, if_neg (by omega), if_neg (by omega)]

/-- A horizon word raises the horizon of its slot (R187). -/
theorem Dev.horizonWord_waiting (hs : s.WordWaits h c slot x w rest) (hw : w.horizon = true) : s.horizonWord h c slot =
    (s.tookWord w rest).updPopOn h c (fun y => { y with horizons := raiseHorizon y.horizons slot (s.wordTick h x w) }) := by
  simp only [Dev.horizonWord, hs.first, hs.record, hs.runs, hw, Bool.not_true, Bool.false_eq_true, if_false]

end

/-! ### A synapse (R199) -/

/-- The low bits of a number survive its being read as two's complement. -/
theorem unsigned_signed_unsigned (w : Nat) (i : Int) : unsigned w (signed w (unsigned w i)) = unsigned w i := by
  have hpos : 0 < ((2 ^ w : Nat) : Int) := by exact_mod_cast Nat.two_pow_pos w
  have hlow := Int.emod_nonneg i hpos.ne'
  have hlt := Int.emod_lt_of_pos i hpos
  have hn : ((unsigned w i : Nat) : Int) = i % ((2 ^ w : Nat) : Int) := Int.toNat_of_nonneg hlow
  have hcut : unsigned w i % 2 ^ w = unsigned w i := Nat.mod_eq_of_lt (by exact_mod_cast hn ▸ hlt)
  have hsig : signed w (unsigned w i) % ((2 ^ w : Nat) : Int) = i % ((2 ^ w : Nat) : Int) := by
    unfold signed
    rw [hcut]
    split
    · rw [hn, Int.emod_emod]
    · rw [hn, Int.sub_emod_right, Int.emod_emod]
  rw [unsigned, hsig, unsigned]

theorem popCtr_ne {h k k' : Nat} (hk : k ≠ k') : (popCtr h k).key ≠ (popCtr h k').key := by
  simp only [popCtr, Obj.popCounter, Reg.at_key]
  omega

/-- What the device holds but for accumulators, their Poison and the synapses counted: what is on its way, the neurons and register `r`. -/
def Dev.inputView (s : Dev) (r : Reg) : List Transit × Tab Nat × Nat := (s.transit, s.neurons, s.rd r)

section
variable (s : Dev) (h c : Nat) (z : Synapse) (poisoned : Bool)

theorem Dev.inputView_synapse {r : Reg} (hr : r.key ≠ (popCtr h 2).key) : (s.synapse h z poisoned).inputView r = s.inputView r := by
  have hrd := Dev.rd_bump_other { s with
    accs := Tab.put 0 s.accs z.key (unsigned 32 ((s.accRes z.key).add true z.term z.residue).value),
    residues := Tab.put 0 s.residues z.key ((s.accRes z.key).add true z.term z.residue).residue } hr
  unfold Dev.synapse
  dsimp only
  split <;> exact congrArg (fun v => (s.transit, s.neurons, v)) hrd

/-- The neuron's accumulator takes the term, modulo 2³². -/
theorem Dev.get_accs_synapse :
    Tab.get 0 (s.synapse h z poisoned).accs z.key = unsigned 32 (signed 32 (Tab.get 0 s.accs z.key) + z.term) := by
  have hput : (s.synapse h z poisoned).accs = Tab.put 0 s.accs z.key (unsigned 32 ((s.accRes z.key).add true z.term z.residue).value) := by
    unfold Dev.synapse
    dsimp only
    split <;> rfl
  rw [hput, Tab.get_put_same]
  exact unsigned_signed_unsigned 32 _

/-- No other accumulator, nor its residue, changes. -/
theorem Dev.get_synapse_other {k : Nat} (hk : k ≠ z.key) : Tab.get 0 (s.synapse h z poisoned).accs k = Tab.get 0 s.accs k ∧
    Tab.get 0 (s.synapse h z poisoned).residues k = Tab.get 0 s.residues k := by
  unfold Dev.synapse
  dsimp only
  split <;> exact ⟨Tab.get_put_other _ _ _ hk, Tab.get_put_other _ _ _ hk⟩

/-- The synapse is counted. -/
theorem Dev.rd_synapse : (s.synapse h z poisoned).rd (popCtr h 2) = (s.rd (popCtr h 2) + 1) % 2 ^ 64 := by
  unfold Dev.synapse
  dsimp only
  split <;> exact Dev.rd_bump_same _ _

theorem Dev.neuronBad_synapse (hp : poisoned = true) : Tab.get false (s.synapse h z poisoned).neuronBad z.key = true := by
  unfold Dev.synapse
  dsimp only
  rw [if_pos hp, Tab.get_put_same]

/-! ### An input applied (R190, R198) -/

/-- An input counted late, where it is. -/
def Dev.lateCounted (s : Dev) (h : Nat) (late : Bool) : Dev := if late then s.bump (popCtr h 3) else s

variable (y : FutureInput) (late : Bool)

/-- An input whose units all work is added to their neurons' accumulators. -/
theorem Dev.applyInput_working (hw : ∀ z ∈ s.heldSynapses h c y, s.unitWorks z.unit = true) :
    s.applyInput h c y late = (s.heldSynapses h c y).foldl (fun s z => s.synapse h z y.poisoned) (s.lateCounted h late) := by
  have hunits : ((s.heldSynapses h c y).map (·.unit)).filter (fun g => !s.unitWorks g) = [] := by
    simpa [List.filter_eq_nil_iff] using hw
  simp [Dev.applyInput, hunits, Dev.lateCounted]

/-- An input of the open tick that reaches one synapse, on a unit that works. -/
theorem Dev.applyInput_one {s : Dev} {h c : Nat} {z : Synapse} {y : FutureInput} (hz : s.heldSynapses h c y = [z]) (hw : s.unitWorks z.unit = true) :
    s.applyInput h c y false = s.synapse h z y.poisoned := by
  rw [s.applyInput_working h c y false (by simpa [hz] using hw), hz]
  rfl

/-- An input none of whose units works waits for them. -/
theorem Dev.applyInput_waiting (hne : s.heldSynapses h c y ≠ []) (hw : ∀ z ∈ s.heldSynapses h c y, s.unitWorks z.unit = false) :
    s.applyInput h c y late = (s.lateCounted h late).updPopOn h c
      (fun x => { x with waiting := x.waiting ++ [⟨y, ((s.heldSynapses h c y).map (·.unit)).eraseDups, late⟩] }) := by
  have hunits : ((s.heldSynapses h c y).map (·.unit)).filter (fun g => !s.unitWorks g) = (s.heldSynapses h c y).map (·.unit) := by
    simpa [List.filter_eq_self] using hw
  have hnone : (s.heldSynapses h c y).filter (fun z => !((s.heldSynapses h c y).map (·.unit)).eraseDups.contains z.unit) = [] := by
    simp only [List.filter_eq_nil_iff, Bool.not_eq_true', Bool.not_eq_false, List.contains_iff_mem, List.mem_eraseDups]
    exact fun z hz => List.mem_map_of_mem hz
  have hsome : ((s.heldSynapses h c y).map (·.unit)).eraseDups ≠ [] := fun e => by
    obtain ⟨z, hz⟩ := List.exists_mem_of_ne_nil _ hne
    have hmem := List.mem_eraseDups.2 (List.mem_map_of_mem (f := (·.unit)) hz)
    rw [e] at hmem
    exact List.not_mem_nil hmem
  simp only [Dev.applyInput, hunits, hnone, List.foldl_nil, if_neg hsome, Dev.lateCounted]

/-- What an input, late or not, leaves alone. -/
theorem Dev.inputView_applyInput {r : Reg} (hr : r.key ≠ (popCtr h 2).key) :
    (s.applyInput h c y late).inputView r = (s.lateCounted h late).inputView r := by
  have hfold : ∀ zs : List Synapse, (zs.foldl (fun s z => s.synapse h z y.poisoned) (s.lateCounted h late)).inputView r =
      (s.lateCounted h late).inputView r :=
    fun zs => foldl_keeps (Dev.inputView · r) _ (fun u z => u.inputView_synapse h z _ hr) zs _
  have hwait : ∀ (u : Dev) (us : List Nat) (f : PopCluster → PopCluster), (if us = [] then u else u.updPopOn h c f).inputView r = u.inputView r := fun u us f => by
    split <;> rfl
  exact (hwait _ _ _).trans (hfold _)

end

/-! ### The claim -/

section
variable {s : State} {h : Fin 1024} {c : Fin 128} {slot : Fin 64} {d : Dev}

theorem shoalInput_next {poisoned : Bool} (hup : s.dev.up c.val) (hd : s.dev.fresh.shoalInput h.val c.val slot.val poisoned = d) :
    exec (.shoalInput h c slot poisoned) s = .next { s with dev := d } := by
  rw [← hd]
  simp only [exec, execShoalInput]
  exact State.runIn_up _ hup

theorem horizonWord_next (hup : s.dev.up c.val) (hd : s.dev.fresh.horizonWord h.val c.val slot.val = d) :
    exec (.horizonWord h c slot) s = .next { s with dev := d } := by
  rw [← hd]
  simp only [exec, execHorizonWord]
  exact State.runIn_up _ hup

end

/-- Settles O21: a word that is taken changes what is on its way and its slot's horizon; what it brings is then held, applied or late. -/
theorem shoalWords : Obligations.ShoalWords := by
  intro s h c slot poisoned e x w rest hup he hx hruns hshoal hserved hfirst
  have hs : s.dev.fresh.WordWaits h.val c.val slot.val x w rest := ⟨⟨e, he⟩, hx, hruns, hshoal, hserved, hfirst⟩
  have hheard : ∀ j, s.dev.fresh.Heard h.val c.val x rest (s.dev.fresh.wordHeard h.val c.val slot.val w rest j) :=
    fun j => Dev.heard_wordHeard slot.val w rest j hx
  have counts : ∀ {u : Dev} (r : Reg), u.rd r = s.dev.fresh.rd r → (u.rd r + 1) % 2 ^ 64 = (s.dev.rd r + 1) % 2 ^ 64 :=
    fun r e => congrArg (fun v => (v + 1) % 2 ^ 64) e
  refine ⟨fun hh hin hj => ⟨fun hroom => ?_, fun hfull => ?_⟩, fun hh hin hj => ?_, fun hh hin hj => ?_, fun hh => ?_⟩
  · have hu := hheard (s.dev.fresh.wordTick h.val x w)
    obtain ⟨hz, hon⟩ := hu.record
    refine ⟨_, shoalInput_next hup (Dev.shoalInput_future poisoned hs ⟨hh, hin⟩ hj hroom), hu.transit, hu.neurons, hu.accs,
      ⟨_, Dev.on_updPopOn_some _ _ _ (fun _ => rfl) hon, rfl, rfl⟩, ?_, ?_, s.sameRest_dev _⟩
    · exact ((hu.regsKept _).of_dict rfl).bump (List.mem_singleton.2 rfl)
    · exact (Dev.rd_bump_same _ _).trans (counts _ (hu.rd _))
  · exact ⟨_, shoalInput_next hup (Dev.shoalInput_full poisoned hs ⟨hh, hin⟩ hj hfull), rfl, s.sameRest_dev _⟩
  · have hj' : s.dev.fresh.wordTick h.val x w = x.tick := hj
    have hd := Dev.shoalInput_applied poisoned hs ⟨hh, hin⟩ (le_of_eq hj)
    rw [hj', decide_eq_false (lt_irrefl _)] at hd
    have hu := hheard x.tick
    generalize s.dev.fresh.wordHeard h.val c.val slot.val w rest x.tick = u at hd hu
    have haccs : u.accs = s.dev.accs := hu.accs
    have hresidues : u.residues = s.dev.residues := hu.residues
    intro y
    refine ⟨fun z hz hworks => ?_, fun hne hworks => ?_⟩
    · rw [Dev.applyInput_one ((hu.heldSynapses c.val y).trans hz) ((hu.unitWorks _).trans hworks)] at hd
      have hview := fun r => u.inputView_synapse h.val z y.poisoned (r := r)
      simp only [Dev.inputView, Prod.mk.injEq] at hview
      obtain ⟨htransit, hneurons, -⟩ := hview (popCtr h.val 3) (popCtr_ne (by decide))
      refine ⟨_, shoalInput_next hup hd, htransit.trans hu.transit, ?_, fun k hk => ?_, u.neuronBad_synapse h.val z y.poisoned, hneurons.trans hu.neurons, ?_,
        fun r hr => ?_, s.sameRest_dev _⟩
      · exact haccs ▸ u.get_accs_synapse h.val z y.poisoned
      · exact haccs ▸ hresidues ▸ u.get_synapse_other h.val z y.poisoned hk
      · exact (u.rd_synapse h.val z y.poisoned).trans (counts _ (hu.rd _))
      · obtain ⟨-, -, hrd⟩ := hview r (List.mem_singleton.not.1 hr)
        exact hrd.trans (hu.rd r)
    · have hheld : u.heldSynapses h.val c.val y = s.dev.heldSynapses h.val c.val y := hu.heldSynapses c.val y
      rw [Dev.applyInput_waiting _ _ _ _ _ (hheld ▸ hne) (fun z hz => (hu.unitWorks _).trans (hworks z (hheld ▸ hz)))] at hd
      obtain ⟨hz, hon⟩ := hu.record
      refine ⟨_, shoalInput_next hup hd, hu.transit, hu.accs, hu.neurons,
        ⟨_, ((u.heldSynapses h.val c.val y).map (·.unit)).eraseDups, Dev.on_updPopOn_some _ _ _ (fun _ => rfl) hon, ?_, fun z hz => ?_⟩,
        (hu.regsKept _).of_dict rfl, s.sameRest_dev _⟩
      · dsimp only
        rw [hserved, List.nil_append]
      · rw [hheld]
        exact List.mem_eraseDups.2 (List.mem_map_of_mem hz)
  · have hd := Dev.shoalInput_applied poisoned hs ⟨hh, hin⟩ (le_of_lt hj)
    have hj' : s.dev.fresh.wordTick h.val x w < x.tick := hj
    rw [decide_eq_true hj'] at hd
    have hu := hheard (s.dev.fresh.wordTick h.val x w)
    generalize s.dev.fresh.wordHeard h.val c.val slot.val w rest (s.dev.fresh.wordTick h.val x w) = u at hd hu
    have hview := fun r => u.inputView_applyInput h.val c.val
      ⟨s.dev.fresh.wordTick h.val x w, slot.val, w.word, w.second, poisoned || w.poisoned⟩ true (r := r)
    simp only [Dev.inputView, Prod.mk.injEq] at hview
    obtain ⟨htransit, hneurons, hlate⟩ := hview (popCtr h.val 3) (popCtr_ne (by decide))
    refine ⟨_, shoalInput_next hup hd, htransit.trans hu.transit, ?_, hneurons.trans hu.neurons, fun r hr => ?_, s.sameRest_dev _⟩
    · exact (hlate.trans (Dev.rd_bump_same _ _)).trans (counts _ (hu.rd _))
    · simp only [List.mem_cons, List.not_mem_nil, or_false, not_or] at hr
      obtain ⟨h2, h3⟩ := hr
      obtain ⟨-, -, hrd⟩ := hview r h2
      exact (hrd.trans (Dev.rd_bump_other _ h3)).trans (hu.rd r)
  · have hu := (Dev.heard_tookWord (s := s.dev.fresh) (rest := rest) w hx).raised (raiseHorizon · slot.val (s.dev.fresh.wordTick h.val x w))
    exact ⟨_, horizonWord_next hup (Dev.horizonWord_waiting hs hh), hu.transit,
      ⟨_, Dev.on_updPopOn_some _ _ _ (fun _ => rfl) ((Dev.on_tookWord _ _ _ _ _).trans hx), rfl, x.reached_raiseHorizon _ _,
        fun i k hi => x.reached_raiseHorizon_other _ _ k hi⟩, hu.accs, hu.regsKept _, s.sameRest_dev _⟩

end Sys2Proof.Machine
end

section
/-! The close of a tick (R189, R209): a completed count window adds to CountWeir, an add may wake the weir's domain (R534), and a state whose CountWeir holds a number
beyond its 16 bits then writes a register that is no domain's. -/

namespace Sys2Proof.Machine

open Sys2Proof

/-- The weir whose block would lie in power domain 0x43FF23; no weir of the 16,384 has this number. -/
def strayWeir : Nat := (0x43FF23 - 132) * 4096

/-- DomainState of that domain (index 0x2001, subindex 0x43FF24) is counter 4, the ticks closed by timeout, of population 0 (index 0x6400, subindex 0x24). -/
theorem domainState_strayWeir : (Obj.domainState (132 + strayWeir / 4096)).key = (Obj.popCounter 0 4).key := rfl

/-- A population with no neurons, no source slot and nothing to send to. -/
def emptyPopulation : PopEntry where
  number := 0
  width := 0
  height := 0
  channels := 0
  tickLength := 0
  tickOrigin := 0
  threshold := 0
  leakMode := 0
  resetMode := 0
  multiplicity := 0
  refractory := 0
  leakParam := 0
  horizonTimeout := 0
  gateMask := 0
  countTicks := 0
  countPool := 0
  countFormat := 0
  countWeir := 0
  phaseMask := 0
  map := []
  routes := []
  projections := []
  slots := []

/-- Population 0 on cluster 0, its tick -1 open. -/
def openBeforeOrigin : PopCluster := { cluster := 0, tick := -1 }

/-- Tenant 0 runs that population in shoal mode with count windows of one tick; CountWeir holds `strayWeir`. One tick has closed by timeout, and counter 4 of
population 1, which reads as that domain's WakeOnAccess, is 1. -/
def strayCountWeir : State where
  dev := {
    dict := [((Obj.clusterOwner 0).key, 0), ((Obj.clusterMode 0).key, 1), ((Obj.popState 0).key, 2), ((Obj.countWindowTicks 0).key, 1),
      ((Obj.countWeir 0).key, strayWeir), ((Obj.popCounter 0 4).key, 1), ((Obj.popCounter 1 4).key, 1)]
    plans := [(0, { pops := [emptyPopulation] })]
    pops := [(0, { clusters := [openBeforeOrigin] })] }

/-- The close ends a count window, whose add finds the stray domain in retention, as the count of 1 reads, and wakes it: its state, and with it the count, becomes 4. -/
theorem popCounter_tickClose_stray : (strayCountWeir.dev.fresh.tickClose 0 0 []).rd (Obj.popCounter 0 4) = 4 := by
  decide +kernel

theorem tickClose_next {s : State} {h : Fin 1024} {c : Fin 128} (bad : List (Fin 16)) (hup : s.dev.up c.val) :
    exec (.tickClose h c bad) s = .next { s with dev := s.dev.fresh.tickClose h.val c.val bad } := by
  simp only [exec, execTickClose]
  exact State.runIn_up _ hup

/-- Refutes O22: from `strayCountWeir` a close by its gating slots leaves the count of closes by timeout at 4, where the clause wants the 1 that it was. The claim has no
premise that bounds CountWeir, though every write of that register is cut to its 16 bits. -/
theorem not_ticksClose : ¬ Obligations.TicksClose := by
  unfold Obligations.TicksClose
  intro h
  have hup : strayCountWeir.dev.up 0 := ⟨rfl, by decide +kernel⟩
  obtain ⟨hcloses, -⟩ := h
  obtain ⟨hgated, -⟩ := hcloses strayCountWeir 0 0 emptyPopulation openBeforeOrigin hup rfl rfl (by decide +kernel) (by decide +kernel) rfl (by decide)
  obtain ⟨t, ht, -, -, htimeouts, -⟩ := hgated (by decide +kernel)
  rw [tickClose_next [] hup] at ht
  obtain rfl := Host.Outcome.next.inj ht
  have hbefore : strayCountWeir.dev.rd (Obj.popCounter 0 4) = 1 := by decide +kernel
  exact absurd ((popCounter_tickClose_stray.symm.trans htimeouts).trans hbefore) (by decide)

end Sys2Proof.Machine
end

section
/-! The start of a phase (R367): a layer's empty stripes add to its completion weir, an add may wake the weir's domain (R534), and a plan whose layer names a weir
beyond the 16,384 there are then writes a register that is no domain's. -/

namespace Sys2Proof.Machine

open Sys2Proof

/-- The weir whose block would lie in power domain 0x3FFF07; no weir of the 16,384 has this number. -/
def weirBeyondBlocks : Nat := (0x3FFF07 - 132) * 4096

/-- DomainState of that domain (index 0x2001, subindex 0x3FFF08) is PhaseNow of plan slot 0 (index 0x6000, subindex 8). -/
theorem domainState_weirBeyondBlocks : (Obj.domainState (132 + weirBeyondBlocks / 4096)).key = (Obj.phaseNow 0).key := rfl

/-- A layer of one element in phase 1 whose one stripe, on cluster 0, is empty; its completion weir is `weirBeyondBlocks`. -/
def emptyStripeLayer : LayerEntry where
  number := 0
  op := 7
  mapping := 0
  inC := 1
  inH := 1
  inW := 1
  inFormat := 4
  outFormat := 4
  outC := 1
  kh := 1
  kw := 1
  sy := 1
  sx := 1
  dy := 1
  dx := 1
  groups := 1
  padMode := 0
  padT := 0
  padB := 0
  padL := 0
  padR := 0
  rounding := 0
  param := 0
  weightFormat := 4
  weir := weirBeyondBlocks
  weights := 0xFFFF
  convert := 0xFFFF
  activation := 0xFFFF
  phaseMask := 2
  input := 0
  input2 := 0
  output := 0
  inLayer := 0xFFFF
  inLayer2 := 0xFFFF
  stripes := [{ cluster := 0, firstRow := 0, rows := 0, input := 0, output := 0 }]
  halos := []
  buildSource := 0
  buildBins := 0
  buildWindow := 0
  buildOrigin := 0
  buildTimeout := 0
  buildControl := 0
  surfaceSpan := 0

/-- Plan slot 0 is LOADED with that layer under handle 0, phase 1 is asked for, and tenant 0 owns cluster 0. -/
def phaseAskedWithStrayWeir : State where
  dev := {
    dict := [((Obj.clusterOwner 0).key, 0), ((Obj.planState 0).key, 2)]
    plans := [(0, { layers := [emptyStripeLayer], layerHandles := [0] })]
    phaseReq := [(0, 2)] }

/-- The phase's start shows phase 1; the add of its layer's empty stripe finds the stray domain in retention, as that 1 reads, and wakes it: its state, and with
it PhaseNow, becomes 4. -/
theorem phaseNow_phaseStart_stray : (phaseAskedWithStrayWeir.start.phaseStart 0).dev.rd (Obj.phaseNow 0) = 4 := by
  decide +kernel

theorem phaseStart_next {s : State} (p : Fin 16) (hw : s.dev.working = true) : exec (.phaseStart p) s = .next (s.start.phaseStart p.val) := by
  simp only [exec, execPhaseStart]
  exact State.runM_next _ hw

/-- Refutes O20: from `phaseAskedWithStrayWeir` phase 1 starts and PhaseNow shows 4, where the clause on phases wants 1. The claim has no premise that bounds the
weirs that a plan's layers name, though an image that names a weir beyond 16,383 is not loaded (R365). -/
theorem not_plansRun : ¬ Obligations.PlansRun := by
  unfold Obligations.PlansRun
  intro h
  have hw : phaseAskedWithStrayWeir.dev.working = true := rfl
  have hloaded : phaseAskedWithStrayWeir.dev.rd (Obj.planState 0) = 2 := by decide
  obtain ⟨-, hphases⟩ := h
  obtain ⟨hstart, -⟩ := hphases phaseAskedWithStrayWeir 0 hw
  obtain ⟨t, ht, -, hnow, -⟩ := hstart 1 (by decide) rfl (.inl hloaded) (by decide) (by decide) (by decide)
  rw [phaseStart_next 0 hw] at ht
  obtain rfl := Host.Outcome.next.inj ht
  exact absurd (phaseNow_phaseStart_stray.symm.trans hnow) (by decide)

end Sys2Proof.Machine
end

section
/-! The layers beside updates of other parts (R222, R228, R246), and what recovery from faults leaves of them (R551 to R568): tiles in progress may be discarded, and no layer's
runs, drained tiles or windows change. -/

namespace Sys2Proof.Machine

open Sys2Proof

/-! ### The record of a layer -/

/-- A layer without its tiles in progress and the account of its units' waiting (R246): its place in its plan, its runs and its windows. -/
def Layer.progress (z : Layer) : Layer := { z with tiles := [], halo := [], haloF := 0, haloNs := 0, gddrNs := 0 }

/-- From `s` to `t` the progress of every layer stands, and no tile has begun. -/
def Dev.layersStand (s t : Dev) : Prop := ∀ l, (t.layer l).progress = (s.layer l).progress ∧ (t.layer l).tiles ⊆ (s.layer l).tiles

theorem Dev.layer_updLayer_same (s : Dev) (l : Nat) (f : Layer → Layer) : (s.updLayer l f).layer l = f (s.layer l) := Tab.get_upd_same ..

theorem Dev.layer_updLayer_other (s : Dev) {j l : Nat} (f : Layer → Layer) (h : j ≠ l) : (s.updLayer l f).layer j = s.layer j := Tab.get_upd_other _ _ h

/-- A table with its entries mapped, the value of rest left as it is. -/
theorem Tab.get_map {α : Type} {d : α} (t : Tab α) (f : α → α) (hd : f d = d) (k : Nat) : Tab.get d (t.map (fun x => (x.1, f x.2))) k = f (Tab.get d t k) := by
  induction t with
  | nil => exact hd.symm
  | cons x t ih =>
    obtain ⟨j, a⟩ := x
    simp only [List.map_cons, Tab.get]
    split
    · rfl
    · exact ih

theorem Dev.layersStand.refl (s : Dev) : s.layersStand s := fun _ => ⟨rfl, List.Subset.refl _⟩

section
variable {s t u : Dev} (h : s.layersStand t)
include h

theorem Dev.layersStand.trans (h' : t.layersStand u) : s.layersStand u := fun l => by
  obtain ⟨hp, ht⟩ := h l
  obtain ⟨hp', ht'⟩ := h' l
  exact ⟨hp'.trans hp, List.Subset.trans ht' ht⟩

theorem Dev.layersStand.of_layers (hl : u.layers = t.layers) : s.layersStand u := fun l => by
  rw [Dev.layer, hl, ← Dev.layer]
  exact h l

theorem Dev.layersStand.updLayer (l : Nat) {f : Layer → Layer} (hf : ∀ z, (f z).progress = z.progress ∧ (f z).tiles ⊆ z.tiles) :
    s.layersStand (t.updLayer l f) := h.trans fun j => by
  by_cases hj : j = l
  · subst hj
    rw [Dev.layer_updLayer_same]
    exact hf _
  · rw [Dev.layer_updLayer_other _ _ hj]
    exact ⟨rfl, List.Subset.refl _⟩

theorem Dev.layersStand.drained (l : Nat) : (t.layer l).drained = (s.layer l).drained :=
  (congrArg Layer.drained (h l).1 :)

theorem Dev.layersStand.runs (l : Nat) : (t.layer l).runs = (s.layer l).runs :=
  (congrArg Layer.runs (h l).1 :)

theorem Dev.layersStand.build (l : Nat) : (t.layer l).build = (s.layer l).build :=
  (congrArg Layer.build (h l).1 :)

end

/-! ### Recovery -/

/-- From `s` to `t` the layers stand, and the counts of ResidueMismatches (0x6023). -/
def Dev.recovers (s t : Dev) : Prop := s.layersStand t ∧ ∀ r : Reg, r.key / 256 = 0x6023 → t.rd r = s.rd r

theorem Dev.recovers.refl (s : Dev) : s.recovers s := ⟨.refl s, fun _ _ => rfl⟩

/-- The device is in the faults' own terms as another one was. -/
theorem Dev.recovers.of_faultView {s t u : Dev} (h : s.recovers t) (hv : u.faultView = t.faultView) : s.recovers u := by
  simp only [Dev.faultView, Prod.mk.injEq] at hv
  obtain ⟨hdict, -, hlayers, -⟩ := hv
  refine ⟨h.1.of_layers hlayers, fun r hr => ?_⟩
  rw [Dev.rd_dict, hdict]
  exact h.2 r hr

section
variable {s t u : Dev} (h : s.recovers t)
include h

theorem Dev.recovers.trans (h' : t.recovers u) : s.recovers u := ⟨h.1.trans h'.1, fun r hr => (h'.2 r hr).trans (h.2 r hr)⟩

/-- A change beside the registers and the layers. -/
theorem Dev.recovers.beside (hd : u.dict = t.dict) (hl : u.layers = t.layers) : s.recovers u :=
  ⟨h.1.of_layers hl, fun r hr => (congrArg (dictRd · r) hd).trans (h.2 r hr)⟩

theorem Dev.recovers.wr {r : Reg} (v : Nat) (hr : r.key / 256 ≠ 0x6023) : s.recovers (t.wr r v) :=
  ⟨h.1.of_layers rfl, fun r' hr' => (t.rd_wr_other v (fun e => hr (by rw [← e, hr']))).trans (h.2 r' hr')⟩

theorem Dev.recovers.setF {r : Reg} (lo w v : Nat) (hr : r.key / 256 ≠ 0x6023) : s.recovers (t.setF r lo w v) := h.wr _ hr

theorem Dev.recovers.setBit {r : Reg} (i : Nat) (b : Bool) (hr : r.key / 256 ≠ 0x6023) : s.recovers (t.setBit r i b) := h.wr _ hr

theorem Dev.recovers.bumpBy {r : Reg} (n : Nat) (hr : r.key / 256 ≠ 0x6023) : s.recovers (t.bumpBy r n) := h.wr _ hr

theorem Dev.recovers.bump {r : Reg} (hr : r.key / 256 ≠ 0x6023) : s.recovers (t.bump r) := h.wr _ hr

theorem Dev.recovers.bump_faultCtr (q k : Nat) : s.recovers (t.bump (faultCtr q k)) :=
  h.bump (by simp only [faultCtr, Obj.faultCounter, Reg.at_key]; omega)

theorem Dev.recovers.updLayer (l : Nat) {f : Layer → Layer} (hf : ∀ z, (f z).progress = z.progress ∧ (f z).tiles ⊆ z.tiles) :
    s.recovers (t.updLayer l f) := ⟨h.1.updLayer l hf, h.2⟩

theorem Dev.recovers.updQueue (q : Nat) (f : FaultQueue → FaultQueue) : s.recovers (t.updQueue q f) := h.beside rfl rfl

theorem Dev.recovers.updWeir (w : Nat) (f : Weir → Weir) : s.recovers (t.updWeir w f) := h.beside rfl rfl

theorem Dev.recovers.updPlan (p : Nat) (f : PlanSlot → PlanSlot) : s.recovers (t.updPlan p f) := h.beside rfl rfl

theorem Dev.recovers.updFerry (f : Nat) (g : Ferry → Ferry) : s.recovers (t.updFerry f g) :=
  (h.beside (u := { t with ferries := Tab.upd {} t.ferries f g }) rfl rfl).setF _ _ _ (by simp only [Obj.ferryState, Reg.at_key]; omega)

theorem Dev.recovers.dropWaits (p : PendingWait → Bool) : s.recovers (t.dropWaits p) := by
  unfold Dev.dropWaits
  refine foldl_holds s.recovers _ (fun u d hu => ?_) _ (h.beside rfl rfl)
  exact hu.beside rfl rfl

theorem Dev.recovers.each {n : Nat} {f : Nat → Dev → Dev} (hf : ∀ i < n, ∀ u : Dev, s.recovers u → s.recovers (f i u)) : s.recovers (t.each n f) :=
  Dev.each_holds s.recovers h hf

/-! ### Sluices -/

theorem Dev.recovers.sluiceDiscard (key n : Nat) : s.recovers (t.sluiceDiscard key n) := by
  unfold Dev.sluiceDiscard
  split
  · exact h.bumpBy _ (by simp only [Obj.sluiceDiscardedWords, Reg.at_key]; omega)
  · exact h

theorem Dev.recovers.updSluice (key : Nat) (f : Sluice → Sluice) : s.recovers (t.updSluice key f) := h.beside rfl rfl

theorem Dev.recovers.sluiceFlush (key : Nat) : s.recovers (t.sluiceFlush key) := by
  unfold Dev.sluiceFlush
  extract_lets x mid flushed
  have hflushed : s.recovers flushed := (h.updSluice key _).sluiceDiscard key _
  split
  · exact hflushed.bump (by simp only [Obj.sluiceFlushes, Reg.at_key]; omega)
  · exact hflushed

theorem Dev.recovers.flushCluster (c : Nat) : s.recovers (t.flushCluster c) := h.each fun _ _ _ hu => hu.sluiceFlush _

theorem Dev.recovers.sluiceRewind (key : Nat) : s.recovers (t.sluiceRewind key) := (h.updSluice key _).sluiceDiscard key _

theorem Dev.recovers.rewindUnit (c : Nat) : s.recovers (t.rewindUnit c) := h.each fun k _ u hu => by
  dsimp only
  split
  · exact hu
  · refine Dev.recovers.beside (t := if u.open_ % 2 = 1 then u.sluiceRewind (c * 8 + 4 + k) else u) ?_ rfl rfl
    split
    · exact hu.sluiceRewind _
    · exact hu

/-! ### Isolation -/

/-- Discarded tiles leave the layers, and nothing else of them (R243). -/
theorem Dev.recovers.dropTiles (p : Tile → Bool) : s.recovers (t.dropTiles p) := by
  refine foldl_holds s.recovers _ (fun _ _ hu => hu.rewindUnit _) _ ⟨h.1.trans fun l => ?_, h.2⟩
  have hlayer := Tab.get_map (d := ({} : Layer)) t.layers (fun z => { z with tiles := z.tiles.filter (fun q => !p q) }) rfl l
  rw [Dev.layer, hlayer]
  exact ⟨rfl, List.filter_subset_self _⟩

theorem Dev.recovers.slotFail (c k : Nat) : s.recovers (t.slotFail c k) := by
  have hhealth : (Obj.clusterHealth c).key / 256 ≠ 0x6023 := by
    simp only [Obj.clusterHealth, Reg.at_key]
    omega
  have hmarked := h.setBit (3 + k) true hhealth
  unfold Dev.slotFail
  dsimp only
  split
  · exact (hmarked.setF _ _ _ hhealth).setF _ _ _ hhealth
  · exact hmarked

theorem Dev.recovers.fence (c st : Nat) : s.recovers (t.fence c st) := by
  have hidle := ((h.dropTiles (fun x => x.cluster == c)).flushCluster c).dropWaits (fun w => decide (w.waiter = Waiter.steward c))
  unfold Dev.fence
  dsimp only
  split
  · exact hidle.setF _ _ _ (by simp only [Obj.clusterHealth, Reg.at_key]; omega)
  · exact hidle

theorem Dev.recovers.startQueue (f : Nat) (c : ChainStart) : s.recovers (t.startQueue f c) := by
  unfold Dev.startQueue
  split
  · exact h.updFerry _ _
  · exact h.beside rfl rfl

theorem Dev.recovers.ferryFail (f : Nat) : s.recovers (t.ferryFail f) := by
  unfold Dev.ferryFail
  dsimp only
  split
  · exact h.updFerry _ _
  · refine foldl_holds s.recovers _ (fun _ _ hu => hu.startQueue _ _) _ (Dev.recovers.dropWaits ?_ _)
    exact (h.updFerry f _).setF _ _ _ (by simp only [Obj.ferryState, Reg.at_key]; omega)

theorem Dev.recovers.isolate (e : Elem) : s.recovers (t.isolate e) := by
  cases e with
  | unit g => exact (h.dropTiles _).slotFail _ _
  | cluster c => exact h.fence c 1
  | clusterSluice c _ => exact h.fence c 1
  | region r => exact (h.wr 1 (by simp only [Obj.regionHealth, Reg.at_key]; omega)).each fun _ _ _ hu => hu.fence _ _
  | ferry f => exact h.ferryFail f
  | _ => exact h

/-! ### A plan stopped -/

theorem Dev.recovers.popStop (p : Nat) : s.recovers (t.popStop p) := by
  unfold Dev.popStop
  split
  · split
    · exact h
    · next e _ =>
      have hcleared : s.recovers (e.clusters.foldl (fun s c => s.clearAccs e c) t) :=
        foldl_holds s.recovers (fun (u : Dev) c => u.clearAccs e c) (fun _ _ hu => hu.beside rfl rfl) _ h
      have hstate : (Obj.popState p).key / 256 ≠ 0x6023 := by
        simp only [Obj.popState, Reg.at_key]
        omega
      exact ((hcleared.bump (by simp only [Obj.popCounter, Reg.at_key]; omega)).setF _ _ _ hstate).setF _ _ _ hstate
  · exact h

theorem Dev.recovers.haloSettle (l : Nat) : s.recovers (t.haloSettle l) := by
  have hctr : (layerCtr l 2).key / 256 ≠ 0x6023 := by
    simp only [layerCtr, Obj.layerCounter, Reg.at_key]
    omega
  unfold Dev.haloSettle
  extract_lets z ns
  exact (h.bumpBy _ hctr).updLayer l fun _ => ⟨rfl, List.Subset.refl _⟩

theorem Dev.recovers.layerStop (l : Nat) : s.recovers (t.layerStop l) := by
  have hstate : (Obj.layerState l).key / 256 ≠ 0x6023 := by
    simp only [Obj.layerState, Reg.at_key]
    omega
  unfold Dev.layerStop
  split
  · have hidle : s.recovers ((t.haloSettle l).updLayer l (fun z => { z with halo := [] })) :=
      (h.haloSettle l).updLayer l fun _ => ⟨rfl, List.Subset.refl _⟩
    exact (hidle.setF _ _ _ hstate).setBit _ _ hstate
  · exact h

theorem Dev.recovers.ferryStop (x : PlanSlot) (f : Nat) : s.recovers (t.ferryStop x f) := by
  have hstate : (Obj.ferryState f).key / 256 ≠ 0x6023 := by
    simp only [Obj.ferryState, Reg.at_key]
    omega
  unfold Dev.ferryStop
  extract_lets ends u v
  have hu : s.recovers u := h.updFerry f _
  have hv : s.recovers v := (hu.updFerry f _).setF _ _ _ hstate
  split
  · exact hv.dropWaits _
  · exact hu

theorem Dev.recovers.planStop {p : Nat} (hp : p < 16) (faulting : Bool) : s.recovers (t.planStop p faulting) := by
  unfold Dev.planStop
  extract_lets x shown marked popsStopped layersStopped released unstarted ferriesStopped
  have hmarked : s.recovers marked := (h.wr 4 (by simp only [Obj.planState, Reg.at_key]; omega)).updPlan p _
  have hpops : s.recovers popsStopped := foldl_holds s.recovers _ (fun _ _ hu => hu.popStop _) _ hmarked
  have hlayers : s.recovers layersStopped := foldl_holds s.recovers _ (fun _ _ hu => hu.layerStop _) _ hpops
  have hreleased : s.recovers released := foldl_holds s.recovers _ (fun _ _ hu => hu.updWeir _ _) _ hlayers
  have hferries : s.recovers ferriesStopped := (hreleased.beside (u := unstarted) rfl rfl).each fun _ _ _ hu => hu.ferryStop x _
  exact foldl_holds s.recovers _ (fun _ _ hu => hu.updWeir _ _) _ hferries

theorem Dev.recovers.planFault {p : Nat} (hp : p < 16) : s.recovers (t.planFault p) := by
  unfold Dev.planFault
  split
  · exact h.planStop hp true
  · split
    · exact h.updPlan p _
    · exact h

/-! ### A die stopped -/

/-- A stream homed on a compute die gives its blocks back there (R160). -/
theorem Dev.recovers.streamRelease {n : Nat} (hn : n < 36) (hd : t.rd (Obj.homeDie n) < 4) : s.recovers (t.streamRelease n) := by
  have hfreed : s.recovers (t.mereReleased n) := by
    unfold Dev.mereReleased Dev.mereFree Dev.mereCount
    split
    · exact h
    · exact (((h.wr _ (by simp only [Obj.mereBase, Reg.at_key]; omega)).wr _ (by simp only [Obj.mereBlocks, Reg.at_key]; omega)).wr _
        (by simp only [Obj.mereBlocksFree, Reg.at_key]; omega)).wr _ (by simp only [Obj.mereLargestFree, Reg.at_key]; omega)
  rw [Dev.streamRelease_eq]
  exact (hfreed.beside (u := ((t.mereReleased n).untake (64 + n)).updStr n Stream.released) rfl rfl).setBit _ _ (by simp only [Obj.streamState, Reg.at_key]; omega)

theorem Dev.recovers.streamFault {n : Nat} (hn : n < 36) (hd : t.rd (Obj.homeDie n) < 4) (err : Nat) : s.recovers (t.streamFault n err) := by
  have hstate : (Obj.streamState n).key / 256 ≠ 0x6023 := by
    simp only [Obj.streamState, Reg.at_key]
    omega
  have hleft : s.recovers (t.leaveDraining n) := by
    unfold Dev.leaveDraining
    split
    · refine (h.bumpBy _ (by simp only [Obj.streamCounter, Reg.at_key]; omega)).streamRelease hn ?_
      rwa [Dev.rd_bumpBy_other _ _ (by simp only [Obj.homeDie, Obj.streamCounter, Reg.at_key]; omega)]
    · exact h
  unfold Dev.streamFault
  extract_lets left cooled x counted
  have hcounted : s.recovers counted := (hleft.beside (u := cooled) rfl rfl).wr _ (by simp only [Obj.hotListCount, Reg.at_key]; omega)
  exact (hcounted.setF _ _ _ hstate).setF _ _ _ hstate

theorem Dev.recovers.dieStop {d : Nat} (hd : d < 4) : s.recovers (t.dieStop d) := by
  unfold Dev.dieStop
  extract_lets dropped flushed drained
  have hflushed : s.recovers flushed := (h.dropTiles _).each fun _ _ _ hu => hu.flushCluster _
  have hdrained : s.recovers drained := hflushed.each fun n hn u hu => by
    split
    · next hhome => exact hu.streamFault hn (by omega) 8
    · exact hu
  exact hdrained.each fun p hp u hu => by
    split
    · exact hu.planFault hp
    · exact hu

theorem Dev.recovers.relayMoved (before : Option Nat) : s.recovers (t.relayMoved before) := by
  have hcalibrated : ∀ u : Dev, s.recovers u → s.recovers (({ u with pathRecalF := u.f + 1 } : Dev).calibrate [5]) := fun u hu => by
    unfold Dev.calibrate
    refine foldl_holds s.recovers _ (fun v d hv => ?_) _ (hu.beside rfl rfl)
    exact hv.beside rfl rfl
  unfold Dev.relayMoved
  split
  · exact h
  · refine hcalibrated _ ?_
    cases before with
    | none => exact h
    | some d => exact h.each fun _ _ _ hu => hu.updSluice _ _

/-! ### The safe state -/

theorem Dev.recovers.finishFault (q : Nat) (f : FaultEntry → FaultEntry) : s.recovers (t.finishFault q f) := by
  unfold Dev.finishFault
  split
  · exact h
  · exact (h.updQueue q _).of_faultView (Dev.faultView_sendFault ..)

theorem Dev.recovers.dropHead (q : Nat) : s.recovers (t.dropHead q) := by
  unfold Dev.dropHead
  split
  · split
    · exact h
    · exact h.finishFault q _
  · exact h

theorem Dev.recovers.safeState (d cause health : Nat) : s.recovers (t.safeState d cause health) := by
  have hengine : (Obj.faultEngineState d).key / 256 ≠ 0x6023 := by
    simp only [Obj.faultEngineState, Reg.at_key]
    omega
  have hhealth : (Obj.dieHealth d).key / 256 ≠ 0x6023 := by
    simp only [Obj.dieHealth, Reg.at_key]
    omega
  unfold Dev.safeState
  split
  · exact h
  split
  · refine Dev.recovers.relayMoved ?_ _
    split
    · exact (h.wr _ hhealth).setF _ _ _ hengine
    · exact h
  extract_lets before dropped counted shown stopped told alerted sent
  have hshown : s.recovers shown := ((((h.dropHead d).wr health hhealth).bump_faultCtr d 8).setF _ _ _ hengine).setF _ _ _ hengine
  have hstopped : s.recovers stopped := by
    simp only [stopped]
    split
    · next hd => exact hshown.dieStop hd
    · exact hshown
  have hsent : s.recovers sent := by
    have htold : s.recovers told := hstopped.of_faultView (Dev.faultView_sendTerminal ..)
    clear_value told
    have halerted : s.recovers alerted := htold.beside rfl rfl
    simp only [sent]
    split
    · exact halerted
    · exact halerted.each fun _ _ u hu => by
        split
        · exact hu.beside rfl rfl
        · exact hu
  exact hsent.relayMoved before

/-! ### Detections -/

theorem Dev.recovers.mergeFault (q : Nat) (p : FaultEntry → Bool) : s.recovers (t.mergeFault q p) := by
  unfold Dev.mergeFault
  split
  · exact h
  · exact (h.updQueue q _).bump_faultCtr q 1

theorem Dev.recovers.pushFault (q cls : Nat) (e : Elem) (detail owner : Nat) : s.recovers (t.pushFault q cls e detail owner) := h.updQueue q _

theorem Dev.recovers.mergeDone (q : Nat) (e : Elem) : s.recovers (t.mergeDone q e) := (h.updQueue q _).bump_faultCtr q 1

theorem Dev.recovers.escalate (q : Nat) (p : Elem) : s.recovers (t.escalate q p) := by
  unfold Dev.escalate
  extract_lets counted old spared named
  have hcounted : s.recovers counted := h.bump_faultCtr q 2
  have hspared : s.recovers spared := by
    unfold spared
    clear_value old
    split
    · split
      · exact hcounted.slotFail _ _
      · exact hcounted
    · exact hcounted
  have hnamed : s.recovers named := hspared.updQueue q _
  split
  · exact (hnamed.finishFault q _).safeState _ 3 1
  · exact hnamed.isolate p

/-- A detection that its full queue cannot take puts a compute die into the safe state (R554). -/
theorem Dev.recovers.overflow (q : Nat) : s.recovers (if q < 4 then t.safeState q 2 1 else t) := by
  split
  · exact h.safeState q 2 1
  · exact h

theorem Dev.recovers.queued (q cls : Nat) (e : Elem) (detail : Nat) :
    s.recovers (if t.alreadyOut e then t.mergeDone q e
      else if 64 ≤ (t.queueOf q).entries.length then (if q < 4 then t.safeState q 2 1 else t)
      else t.pushFault q cls e detail 0xFF) := by
  split
  · exact h.mergeDone q e
  · split
    · exact h.overflow q
    · exact h.pushFault ..

theorem Dev.recovers.detectMain (q cls : Nat) (e : Elem) (detail : Nat) : s.recovers (t.detectMain q cls e detail) := by
  unfold Dev.detectMain
  dsimp only
  split
  · exact h.mergeFault q _
  split
  · exact h.escalate q e
  split
  · split
    · split
      · exact h.escalate q _
      · exact h.mergeFault q _
    · split
      · exact h.escalate q e
      · exact h.queued ..
  · exact h.queued ..

theorem Dev.recovers.detectReport (q cls : Nat) (e : Elem) (detail owner : Nat) : s.recovers (t.detectReport q cls e detail owner) := by
  unfold Dev.detectReport
  dsimp only
  split
  · exact h.mergeFault q _
  · split
    · exact h.overflow q
    · exact h.pushFault ..

theorem Dev.recovers.dieLost (d detail : Nat) : s.recovers (t.dieLost d detail) := by
  unfold Dev.dieLost
  split
  · exact h
  · exact (h.safeState d 4 2).each fun q _ u hu => by
      split
      · exact hu
      · split
        · exact hu.overflow q
        · exact hu.pushFault ..

theorem Dev.recovers.detectFor (q cls : Nat) (e : Elem) (detail owner : Nat) : s.recovers (t.detectFor q cls e detail owner) := by
  have hcounted : s.recovers ((t.bump (faultCtr q 0)).sedError cls) := (h.bump_faultCtr q 0).beside rfl rfl
  unfold Dev.detectFor
  extract_lets counted ms
  split
  · split
    · exact hcounted.bump_faultCtr q 3
    · exact (hcounted.beside (u := { counted with planFaultMs := Tab.put 0 counted.planFaultMs e.masterKey ms }) rfl rfl).detectReport ..
  split
  · exact hcounted.safeState q 1 1
  split
  · exact hcounted.dieLost q detail
  split
  · exact hcounted.detectReport ..
  · exact hcounted.detectMain ..

theorem Dev.recovers.detect (cls : Nat) (e : Elem) (detail : Nat) : s.recovers (t.detect cls e detail) := h.detectFor ..

/-- A refused access to a scratchpad is counted and reported (R283). -/
theorem Dev.recovers.padViolation (c m a : Nat) : s.recovers (t.padViolation c m a) :=
  (h.bump (by simp only [Obj.regionViolations, Reg.at_key]; omega)).detectFor ..

/-- A word read from a scratchpad with an uncorrectable error is counted and reported (R274). -/
theorem Dev.recovers.padUncorrectable (c a : Nat) : s.recovers (t.padUncorrectable c a) := by
  have hreported : s.recovers ((t.bump (Obj.scratchUncorrectable c)).detect 0x0B (.cluster c) a) :=
    (h.bump (by simp only [Obj.scratchUncorrectable, Reg.at_key]; omega)).detect ..
  unfold Dev.padUncorrectable
  extract_lets counted reported k x rated
  have hrated : s.recovers rated := hreported.beside rfl rfl
  split
  · exact hrated.detect ..
  · exact hrated

end

end Sys2Proof.Machine
end

section
/-! An operation on a weir (R340 to R345) and the wake of a domain (R533, R534) leave the layers as they are. -/

namespace Sys2Proof.Machine

open Sys2Proof

section
variable (s : Dev)

/-! ### The wake of a domain -/

theorem Dev.layers_railOn (r : Nat) : (s.railOn r).layers = s.layers := by
  unfold Dev.railOn
  split <;> rfl

theorem Dev.layers_silt (c : Nat) : (s.silt c).layers = s.layers := by
  refine Dev.each_keeps Dev.layers 16 _ (fun _ _ => ?_) s
  rfl

theorem Dev.layers_wakeOne (n : Nat) : (s.wakeOne n).layers = s.layers := by
  unfold Dev.wakeOne
  dsimp only
  split
  · rfl
  split
  · have hdie : ∀ u : Dev, (match domDie n with | some d => u.railOn d | none => u).layers = u.layers := fun u => by
      split
      · exact u.layers_railOn _
      · rfl
    have hbase : ∀ u : Dev, (if n = 179 then u.railOn (riseOrder.headD 0) else u).layers = u.layers := fun u => by
      split
      · exact u.layers_railOn _
      · rfl
    split
    · exact (Dev.layers_silt _ n).trans ((hbase _).trans (hdie _))
    · exact (hbase _).trans (hdie _)
  · rfl

theorem Dev.layers_wake (n : Nat) : (s.wake n).layers = s.layers := by
  unfold Dev.wake
  split
  · rfl
  · rw [Dev.layers_wakeOne]
    split
    · exact s.layers_wakeOne 180
    · rfl

theorem Dev.layers_firstWake (n : Nat) : (s.firstWake n).layers = s.layers := by
  unfold Dev.firstWake
  dsimp only
  split
  · exact s.layers_wake n
  · rfl

/-! ### An operation on a weir -/

theorem Dev.layers_hostNotify (w : Nat) : (s.hostNotify w).layers = s.layers := by
  unfold Dev.hostNotify
  dsimp only
  split
  · rfl
  split
  · split <;> split <;> rfl
  split <;> rfl

theorem Dev.layers_requestPhase (slot phase : Nat) : (s.requestPhase slot phase).layers = s.layers := by
  unfold Dev.requestPhase
  dsimp only
  split <;> rfl

theorem Dev.layers_weirPhase (w : Nat) : (s.weirPhase w).layers = s.layers := by
  unfold Dev.weirPhase
  dsimp only
  split
  · exact Dev.layers_requestPhase ..
  · rfl

theorem Dev.layers_weirAction (w : Nat) : (s.weirAction w).layers = s.layers := by
  unfold Dev.weirAction
  split
  · exact s.layers_hostNotify w
  · rfl
  · exact s.layers_weirPhase w
  · rfl

theorem Dev.layers_weirSettle (w : Nat) : (s.weirSettle w).layers = s.layers := by
  unfold Dev.weirSettle
  dsimp only
  split
  · exact Dev.layers_weirAction _ w
  · rfl

theorem Dev.layers_completeWaits (w : Nat) : (s.completeWaits w).layers = s.layers := rfl

theorem Dev.layers_meter (r : Reg) (n : Nat) : (s.meter r n).layers = s.layers := rfl

theorem Dev.layers_weirApply (w : Nat) (f : Weir → Weir) : (s.weirApply w f).layers = s.layers := by
  rw [Dev.weirApply, Dev.layers_meter, Dev.layers_completeWaits, Dev.layers_weirSettle]
  rfl

theorem Dev.layers_weirOp (src : WeirSource) (w : Nat) (valid : Bool) (f : Weir → Weir) : (s.weirOp src w valid f).1.layers = s.layers := by
  unfold Dev.weirOp
  split
  · rfl
  split
  · rfl
  split
  · rfl
  · exact (Dev.layers_weirApply _ w f).trans (s.layers_firstWake _)

theorem Dev.layers_weirAdd (src : WeirSource) (w n : Nat) (empty : Bool) : (s.weirAdd src w n empty).layers = s.layers := s.layers_weirOp ..

/-- A completion weir's add (R235). -/
theorem Dev.layers_complete (e : LayerEntry) (c n : Nat) (empty : Bool) : (s.complete e c n empty).layers = s.layers := s.layers_weirAdd ..

end

end Sys2Proof.Machine
end

section
/-! Builders (R228 to R234): what a builder's writes leave of the memories and of the layers' windows, and what a window leaves as it is kept and as it opens. -/

namespace Sys2Proof.Machine

open Sys2Proof

/-! ### The windows of other builders -/

/-- From `s` to `t` the windows of every builder stand. -/
def Dev.windowsStand (s t : Dev) : Prop := ∀ l, (t.layer l).build = (s.layer l).build

theorem Dev.layersStand.windows {s t : Dev} (h : s.layersStand t) : s.windowsStand t := h.build

theorem Dev.windowsStand.refl (s : Dev) : s.windowsStand s := fun _ => rfl

section
variable {s t u : Dev} (h : s.windowsStand t)
include h

theorem Dev.windowsStand.trans (h' : t.windowsStand u) : s.windowsStand u := fun l => (h' l).trans (h l)

theorem Dev.windowsStand.of_layers (hl : u.layers = t.layers) : s.windowsStand u := h.trans ((Dev.layersStand.refl t).of_layers hl).windows

theorem Dev.windowsStand.updLayer (l : Nat) {f : Layer → Layer} (hf : ∀ z, (f z).build = z.build) : s.windowsStand (t.updLayer l f) := h.trans fun j => by
  by_cases hj : j = l
  · subst hj
    rw [Dev.layer_updLayer_same]
    exact hf _
  · rw [Dev.layer_updLayer_other _ _ hj]

/-- A run of an empty layer counts a run, and opens or closes no window (R226). -/
theorem Dev.windowsStand.emptyRun (l : Nat) (e : LayerEntry) : s.windowsStand (t.emptyRun l e) := by
  unfold Dev.emptyRun
  extract_lets completed
  have hcompleted : completed.layers = t.layers := by
    unfold completed
    split
    · rfl
    · exact t.layers_complete ..
  have hshown : s.windowsStand ((completed.setBit (Obj.layerState l) 2 true).bump (layerCtr l 1)) := h.of_layers hcompleted
  exact hshown.updLayer l fun _ => rfl

theorem Dev.windowsStand.emptyAtWindow (p n : Nat) : s.windowsStand (t.emptyAtWindow p n) := by
  unfold Dev.emptyAtWindow
  refine foldl_holds s.windowsStand _ (fun u q hu => ?_) _ h
  dsimp only
  split
  · exact hu.emptyRun _ _
  · exact hu

end

/-! ### Writes into the scratchpads -/

/-- From `s` to `t` the scratchpads may have been written: GDDR6, the queue and the builders' windows stand. -/
structure State.padsOnly (s t : State) : Prop where
  gddr : t.mem.gddr = s.mem.gddr
  pending : t.pending = s.pending
  windows : s.dev.windowsStand t.dev

theorem State.padsOnly.refl (s : State) : s.padsOnly s := ⟨rfl, rfl, .refl s.dev⟩

section
variable {s t : State} (h : s.padsOnly t)
include h

theorem State.padsOnly.refused (surface : Bool) (c a : Nat) : s.padsOnly { t with dev := t.dev.buildRefused surface c a } :=
  ⟨h.gddr, h.pending, h.windows.trans ((Dev.recovers.refl t.dev).padViolation ..).1.windows⟩

theorem State.padsOnly.buildPut (surface : Bool) (c a : Nat) (bs : List Byte) : s.padsOnly (t.buildPut surface c a bs) := by
  unfold State.buildPut
  split
  · exact ⟨h.gddr, h.pending, h.windows⟩
  · exact h.refused surface c a

theorem State.padsOnly.buildWipe (surface : Bool) (c a n : Nat) : s.padsOnly (t.buildWipe surface c a n) := by
  unfold State.buildWipe
  refine loop_holds s.padsOnly _ _ (fun i u hu => ?_) h
  extract_lets lo hi
  split
  · exact ⟨hu.gddr, hu.pending, hu.windows⟩
  · refine ⟨hu.gddr, hu.pending, hu.windows.trans ?_⟩
    refine loop_holds u.dev.windowsStand _ _ (fun j d hd => ?_) (.refl u.dev)
    exact hd.trans ((Dev.recovers.refl d).padViolation ..).1.windows

theorem State.padsOnly.buildClear (l : Nat) (e : LayerEntry) (n : Nat) : s.padsOnly (t.buildClear l e n) :=
  foldl_holds s.padsOnly _ (fun _ _ hu => hu.buildWipe _ _ _ _) _ h

theorem State.padsOnly.surfaceFill (l : Nat) (e : LayerEntry) : s.padsOnly (t.surfaceFill l e) := by
  unfold State.surfaceFill
  split
  · exact h
  split
  · exact h
  refine foldl_holds s.padsOnly _ (fun _ ch hu => ?_) _ h
  refine foldl_holds s.padsOnly _ (fun _ y hv => ?_) _ hu
  refine foldl_holds s.padsOnly _ (fun _ x hw => ?_) _ hv
  split
  · exact hw.buildPut _ _ _ _
  · exact hw

end

/-! ### A window kept, and the next opened -/

/-- A kept window is one more, and its buffer is held (R233). -/
theorem Dev.build_windowKept (s : Dev) (l : Nat) (e : LayerEntry) :
    ∃ h0 h1, ((s.windowKept l e).layer l).build = { (s.layer l).build with held0 := h0, held1 := h1, closed := (s.layer l).build.closed + 1 } := by
  unfold Dev.windowKept
  extract_lets p r kept b
  have hshown := ((Dev.windowsStand.refl kept).of_layers
    (u := (kept.bump (layerCtr l 0)).setBit (Obj.layerState l) 5 (b.held0 != 0 && b.held1 != 0)) rfl).emptyAtWindow p e.number
  have hkept : ∃ h0 h1, (kept.layer l).build = { (s.layer l).build with held0 := h0, held1 := h1, closed := (s.layer l).build.closed + 1 } := by
    unfold kept
    rw [Dev.layer_updLayer_same]
    dsimp only
    split
    · exact ⟨_, _, rfl⟩
    · exact ⟨_, _, rfl⟩
  rwa [hshown l]

theorem Dev.window_windowKept (s : Dev) (l : Nat) (e : LayerEntry) : ((s.windowKept l e).layer l).build.window = (s.layer l).build.window := by
  obtain ⟨h0, h1, h⟩ := s.build_windowKept l e
  rw [h]

theorem Dev.closed_windowKept (s : Dev) (l : Nat) (e : LayerEntry) : ((s.windowKept l e).layer l).build.closed = (s.layer l).build.closed + 1 := by
  obtain ⟨h0, h1, h⟩ := s.build_windowKept l e
  rw [h]

/-- The window that opens is the one named, and no window has been kept by it (R233). -/
theorem State.windowOpen_shows (s : State) (l : Nat) (e : LayerEntry) (k : Int) :
    ((s.windowOpen l e k).dev.layer l).build.window = k ∧ ((s.windowOpen l e k).dev.layer l).build.closed = (s.dev.layer l).build.closed ∧
    (s.windowOpen l e k).mem.gddr = s.mem.gddr ∧ (s.windowOpen l e k).pending = s.pending := by
  unfold State.windowOpen
  extract_lets b busy timeout span opened shown
  have hopened : (opened.layer l).build = { b with window := k, skipping := busy, timeout := timeout, span := span } := by
    unfold opened
    rw [Dev.layer_updLayer_same]
  have hshown : (shown.layer l).build = (opened.layer l).build := ((Dev.windowsStand.refl opened).of_layers (u := shown) rfl) l
  clear_value busy shown
  split
  · have hbuild : ((shown.bump (layerCtr l 6)).layer l).build = (shown.layer l).build := rfl
    dsimp only
    rw [hbuild, hshown, hopened]
    exact ⟨rfl, rfl, rfl, rfl⟩
  · obtain ⟨hgddr, hpending, hwindows⟩ := (State.padsOnly.refl ({ s with dev := shown } : State)).buildClear l e b.closed
    rw [hwindows l, hshown, hopened]
    exact ⟨rfl, rfl, hgddr, hpending⟩

/-- A window that closes is kept unless it was skipped, and the next one opens (R233). -/
theorem State.windowClose_shows (s : State) (l : Nat) (e : LayerEntry) :
    ((s.windowClose l e).dev.layer l).build.window = (s.dev.layer l).build.window + 1 ∧
    ((s.windowClose l e).dev.layer l).build.closed = (s.dev.layer l).build.closed + (if (s.dev.layer l).build.skipping then 0 else 1) ∧
    (s.windowClose l e).mem.gddr = s.mem.gddr ∧ (s.windowClose l e).pending = s.pending := by
  unfold State.windowClose
  extract_lets b filled closed
  have hfilled : s.padsOnly filled := by
    unfold filled
    split
    · exact (State.padsOnly.refl s).surfaceFill l e
    · exact .refl s
  have hclosed : (closed.dev.layer l).build.closed = b.closed + (if b.skipping then 0 else 1) ∧ closed.mem.gddr = s.mem.gddr ∧ closed.pending = s.pending := by
    unfold closed
    split
    · exact ⟨rfl, rfl, rfl⟩
    · refine ⟨?_, hfilled.gddr, hfilled.pending⟩
      rw [Dev.closed_windowKept, hfilled.windows l]
  obtain ⟨hcount, hgddr, hpending⟩ := hclosed
  obtain ⟨hw, hc, hg, hp⟩ := closed.windowOpen_shows l e (b.window + 1)
  exact ⟨hw, hc.trans hcount, hg.trans hgddr, hp.trans hpending⟩

end Sys2Proof.Machine
end

section
/-! A word that a builder takes (R228, R230): late, for a window that is skipped, or accumulated, where a region register lets it. -/

namespace Sys2Proof.Machine

open Sys2Proof

/-! ### A word taken -/

section
variable (s : Dev) (w : Transit) (rest : List Transit)

theorem Dev.dict_tookWord : (s.tookWord w rest).dict = s.dict := by
  obtain ⟨hold, a, b, e⟩ := s.tookWord_only w rest
  rw [e]

theorem Dev.layer_tookWord (l : Nat) : (s.tookWord w rest).layer l = s.layer l := by
  obtain ⟨hold, a, b, e⟩ := s.tookWord_only w rest
  rw [e]
  rfl

theorem Dev.layerEntry_tookWord (l : Nat) : (s.tookWord w rest).layerEntry l = s.layerEntry l := by
  obtain ⟨hold, a, b, e⟩ := s.tookWord_only w rest
  rw [e]
  rfl

theorem Dev.buildWordOf_tookWord (x : Transit) : (s.tookWord w rest).buildWordOf x = s.buildWordOf x := by
  obtain ⟨hold, a, b, e⟩ := s.tookWord_only w rest
  rw [e]
  rfl

theorem Dev.windowOf_tookWord (l : Nat) (dt : Int) : (s.tookWord w rest).windowOf l dt = s.windowOf l dt := by
  obtain ⟨hold, a, b, e⟩ := s.tookWord_only w rest
  rw [e]
  rfl

theorem Dev.buildPort_tookWord (surface : Bool) (c a : Nat) : (s.tookWord w rest).buildPort surface c a = s.buildPort surface c a := by
  obtain ⟨hold, x, y, e⟩ := s.tookWord_only w rest
  rw [e]
  rfl

theorem Dev.rd_tookWord (r : Reg) : (s.tookWord w rest).rd r = s.rd r := congrArg (dictRd · r) (s.dict_tookWord w rest)

theorem Dev.getF_tookWord (r : Reg) (lo n : Nat) : (s.tookWord w rest).getF r lo n = s.getF r lo n := congrArg (dictF · r lo n) (s.dict_tookWord w rest)

theorem Dev.buildShape_tookWord (l : Nat) (e : LayerEntry) : (s.tookWord w rest).buildShape l e = s.buildShape l e := by
  simp only [Dev.buildShape, Dev.buildStream, Dev.rd_tookWord]

theorem Dev.layerRuns_tookWord (l : Nat) : (s.tookWord w rest).layerRuns l = s.layerRuns l := by
  simp only [Dev.layerRuns, Dev.getF_tookWord]

theorem Dev.buildSelects_tookWord (l kind : Nat) : (s.tookWord w rest).buildSelects l kind = s.buildSelects l kind := by
  simp only [Dev.buildSelects, Dev.getF_tookWord]

end

/-! ### What becomes of it -/

/-- The state once the word `w` has been taken. -/
def State.wordTaken (s : State) (w : Transit) (rest : List Transit) : State := { s with dev := s.dev.tookWord w rest }

/-- The word `w` waits for builder `l`, an event builder that runs and takes words of its kind. -/
structure Dev.BuildWaits (s : Dev) (l : Nat) (e : LayerEntry) (w : Transit) (rest : List Transit) : Prop where
  first : takeFirst (fun t => decide (t.dest = .builder l)) s.transit = some (w, rest)
  entry : s.layerEntry l = some e
  runs : s.layerRuns l = true
  events : e.op = 16 ∨ e.op = 17
  selects : s.buildSelects l (s.buildWordOf w).2.2.2.2 = true

section
variable {s : State} {l : Nat} {e : LayerEntry} {w : Transit} {rest : List Transit}

/-- An event builder that runs takes its word by the window that the word's stamp lies in. -/
theorem State.buildWord_eq (h : s.dev.BuildWaits l e w rest) : s.buildWord l =
    (let k := s.dev.windowOf l (s.dev.buildWordOf w).2.2.2.1
     let b := (s.dev.layer l).build
     let u := s.wordTaken w rest
     if k < b.window then { u with dev := u.dev.bump (layerCtr l 4) }
     else
       let v := loop (k - b.window).toNat (fun _ v => v.windowClose l e) u
       if (v.dev.layer l).build.skipping then { v with dev := v.dev.bump (layerCtr l 7) }
       else if e.op = 16 then v.voxelWord l e (s.dev.buildWordOf w).1 (s.dev.buildWordOf w).2.1 (s.dev.buildWordOf w).2.2.1 (s.dev.buildWordOf w).2.2.2.1 w.poisoned
       else v) := by
  have hentry : (s.dev.tookWord w rest).layerEntry l = some e := (Dev.layerEntry_tookWord ..).trans h.entry
  have hruns : (s.dev.tookWord w rest).layerRuns l = true := (Dev.layerRuns_tookWord ..).trans h.runs
  have hbuilds : (!(s.dev.tookWord w rest).layerRuns l || e.op == 18 || !e.builder) = false := by
    rw [hruns]
    rcases h.events with he | he <;> simp [he, LayerEntry.builder]
  have hselects : (s.dev.tookWord w rest).buildSelects l ((s.dev.tookWord w rest).buildWordOf w).2.2.2.2 = true := by
    rw [Dev.buildWordOf_tookWord, Dev.buildSelects_tookWord]
    exact h.selects
  unfold State.buildWord
  simp only [h.first, hentry, hbuilds, hselects, Bool.false_eq_true, if_false, if_true, Bool.not_true]
  simp only [Dev.buildWordOf_tookWord, Dev.windowOf_tookWord, Dev.layer_tookWord, State.wordTaken]
  rfl

/-- A word of a window that has closed is counted late (R229). -/
theorem State.buildWord_late (h : s.dev.BuildWaits l e w rest)
    (hk : s.dev.windowOf l (s.dev.buildWordOf w).2.2.2.1 < (s.dev.layer l).build.window) :
    s.buildWord l = { s with dev := (s.dev.tookWord w rest).bump (layerCtr l 4) } := by
  rw [State.buildWord_eq h]
  exact if_pos hk

/-- A word of the open window closes none; a voxel builder accumulates it (R230), and a surface builder leaves it at that (R231). -/
theorem State.buildWord_open (h : s.dev.BuildWaits l e w rest)
    (hk : s.dev.windowOf l (s.dev.buildWordOf w).2.2.2.1 = (s.dev.layer l).build.window) (hs : (s.dev.layer l).build.skipping = false) :
    s.buildWord l = if e.op = 16 then (s.wordTaken w rest).voxelWord l e (s.dev.buildWordOf w).1 (s.dev.buildWordOf w).2.1 (s.dev.buildWordOf w).2.2.1
      (s.dev.buildWordOf w).2.2.2.1 w.poisoned else s.wordTaken w rest := by
  have hskip : ((s.wordTaken w rest).dev.layer l).build.skipping = false := by
    rw [State.wordTaken, Dev.layer_tookWord, hs]
  have hnone : loop 0 (fun (_ : Nat) (v : State) => v.windowClose l e) (s.wordTaken w rest) = s.wordTaken w rest := rfl
  rw [State.buildWord_eq h]
  simp only [hk, lt_self_iff_false, sub_self, Int.toNat_zero, hnone, hskip, Bool.false_eq_true, if_false]

end

/-! ### Voxels (R230) -/

section
variable {s : State} {l : Nat} {e : LayerEntry}

/-- With one bin a word adds its whole weight to that bin, its sign by its polarity where the polarities share it. -/
theorem State.voxelWord_oneBin (x y pol : Nat) (dt : Int) (poisoned : Bool) (hb : s.dev.rd (Obj.buildBins l) = 1) :
    s.voxelWord l e x y pol dt poisoned =
      (let q := 2 ^ field (s.dev.rd (Obj.buildControl l)) 1 2
       let split := bitAt (s.dev.rd (Obj.buildControl l)) 0
       s.voxelAdd l e (s.dev.buildShape l e).2.2.1 (if split && pol == 1 then 1 else 0) (y / q) (x / q) (if split = false ∧ pol = 0 then -256 else 256) poisoned) := by
  simp [State.voxelWord, hb]

/-- What an element holds once `d` has been added to it: it saturates (R230). -/
def Mem.voxelSum (m : Mem) (c a : Nat) (d : Int) : Int := clampI (-32767) 32767 (signed 16 (ofLe (m.padRead c a 2)) + d)

section
variable {w ch y x c a : Nat} (d : Int) (haddr : buildAddr e (s.dev.layer l).build.closed w 5 ch y x = some (c, a))
include haddr

/-- An element in no window of a region register is not written, and the access is refused (R283). -/
theorem State.voxelAdd_refused (poisoned : Bool) (hport : s.dev.buildPort false c a = false) :
    s.voxelAdd l e w ch y x d poisoned = { s with dev := s.dev.buildRefused false c a } := by
  simp [State.voxelAdd, haddr, State.buildPut, hport]

/-- An element that a window allows is written, and a saturation counted. -/
theorem State.voxelAdd_written (hport : s.dev.buildPort false c a = true) :
    ∃ D : Dev, (D = s.dev ∨ D = s.dev.bump (layerCtr l 5)) ∧ s.voxelAdd l e w ch y x d false =
      { s with dev := D, mem := s.mem.padPut c a (leBytes 2 (unsigned 16 (s.mem.voxelSum c a d))) } := by
  refine ⟨if s.mem.voxelSum c a d = signed 16 (ofLe (s.mem.padRead c a 2)) + d then s.dev else s.dev.bump (layerCtr l 5), ?_, ?_⟩
  · split
    · exact .inl rfl
    · exact .inr rfl
  · simp only [State.voxelAdd, haddr, State.buildPut, hport, Bool.false_eq_true, if_false, if_true, Mem.voxelSum]
    rfl

end

end

/-! ### Two bytes of a scratchpad -/

section
variable (m : Mem) (c a : Nat) (b0 b1 : Byte)

theorem padKey_succ_ne : padKey c (a + 1) ≠ padKey c a := by
  simp only [padKey]
  omega

theorem Mem.pad_padPut_two : (m.padPut c a [b0, b1]).pad = Memory.put (Memory.put m.pad (padKey c a) b0) (padKey c (a + 1)) b1 := rfl

theorem Mem.padRead_padPut_two : (m.padPut c a [b0, b1]).padRead c a 2 = [b0, b1] := by
  have hread : (m.padPut c a [b0, b1]).padRead c a 2 =
      [Memory.byte (m.padPut c a [b0, b1]).pad (padKey c a), Memory.byte (m.padPut c a [b0, b1]).pad (padKey c (a + 1))] := rfl
  rw [hread, Mem.pad_padPut_two, Memory.byte_put_same, Memory.byte_put_other _ _ (padKey_succ_ne c a).symm, Memory.byte_put_same]

theorem Mem.byte_padPut_two {k : Nat} (h0 : k ≠ padKey c a) (h1 : k ≠ padKey c (a + 1)) :
    Memory.byte (m.padPut c a [b0, b1]).pad k = Memory.byte m.pad k := by
  rw [Mem.pad_padPut_two, Memory.byte_put_other _ _ h1, Memory.byte_put_other _ _ h0]

end

/-! ### A refused access -/

/-- A plan fault changes its queue, its queue's counters and the recorders of faults (R555). -/
theorem Dev.detectFor_plan_only (s : Dev) (q : Nat) (e : Elem) (detail owner : Nat) :
    ∃ D l f p, s.detectFor q 0x20 e detail owner = { s with dict := D, sedLive := l, faultQ := f, planFaultMs := p } ∧
      ∀ r : Reg, (∀ k, k < 4 → r.key ≠ (faultCtr q k).key) → dictRd D r = s.rd r := by
  simp only [Dev.detectFor, true_or, if_true]
  split
  · exact ⟨_, _, _, _, rfl, fun r hr => ((Dev.rd_bump_other _ (hr 3 (by omega))).trans (s.rd_bump_other (hr 0 (by omega))) :)⟩
  next hroom =>
    have hshort : ¬ 64 ≤ (s.queueOf q).entries.length := fun hfull => hroom (.inl (by
      have hqueue : (((s.bump (faultCtr q 0)).sedError 0x20).queueOf q).entries = (s.queueOf q).entries := rfl
      rw [hqueue]
      omega))
    unfold Dev.detectReport Dev.mergeFault
    dsimp only
    split
    · split
      · exact ⟨_, _, _, _, rfl, fun r hr => s.rd_bump_other (hr 0 (by omega))⟩
      · exact ⟨_, _, _, _, rfl, fun r hr => ((Dev.rd_bump_other _ (hr 1 (by omega))).trans (s.rd_bump_other (hr 0 (by omega))) :)⟩
    · split
      · exact absurd ‹_› hshort
      exact ⟨_, _, _, _, rfl, fun r hr => s.rd_bump_other (hr 0 (by omega))⟩

/-- A refused access of a builder is counted in its cluster, and changes nothing on its way (R283). -/
theorem Dev.buildRefused_shows (s : Dev) (c a : Nat) :
    (s.buildRefused false c a).rd (Obj.regionViolations c) = (s.rd (Obj.regionViolations c) + 1) % 2 ^ 64 ∧ (s.buildRefused false c a).transit = s.transit := by
  obtain ⟨D, l, f, p, he, hD⟩ := (s.bump (Obj.regionViolations c)).detectFor_plan_only (c * 16 / 512) (.master 0 (c * 16)) (a / 16 * 16) (s.rd (Obj.clusterOwner c))
  have hrefused : s.buildRefused false c a = { s.bump (Obj.regionViolations c) with dict := D, sedLive := l, faultQ := f, planFaultMs := p } := he
  have hcount : dictRd D (Obj.regionViolations c) = (s.bump (Obj.regionViolations c)).rd (Obj.regionViolations c) := hD _ fun k hk => by
    simp only [Obj.regionViolations, faultCtr, Obj.faultCounter, Reg.at_key]
    omega
  rw [hrefused]
  refine ⟨hcount.trans ?_, rfl⟩
  rw [Dev.rd_bump_same]
  rfl

end Sys2Proof.Machine
end

section
/-! O33: what a word that a builder takes, a window's time-out and a count map leave (R228 to R233). -/

namespace Sys2Proof.Machine

open Sys2Proof

/-! ### A word -/

section
variable {s : State} {l : Nat} {e : LayerEntry} {w : Transit} {rest : List Transit} (h : s.dev.BuildWaits l e w rest)
include h

/-- A late word is counted, and leaves the memories (R229). -/
theorem State.buildWord_late_shows (hk : s.dev.windowOf l (s.dev.buildWordOf w).2.2.2.1 < (s.dev.layer l).build.window) :
    (s.buildWord l).dev.transit = rest ∧ (s.buildWord l).dev.rd (Obj.layerCounter l 4) = (s.dev.rd (Obj.layerCounter l 4) + 1) % 2 ^ 64 ∧
    s.dev.regsKept (s.buildWord l).dev [(Obj.layerCounter l 4).key] ∧ s.sameRest (s.buildWord l) := by
  rw [State.buildWord_late h hk]
  have hkept : s.dev.regsKept (s.dev.tookWord w rest) [(Obj.layerCounter l 4).key] := (Dev.regsKept.refl s.dev _).of_dict (s.dev.dict_tookWord w rest)
  refine ⟨Dev.tookWord_transit .., ?_, hkept.bump (r := layerCtr l 4) (List.mem_singleton_self _), rfl, rfl⟩
  have hcount := Dev.rd_bump_same (s.dev.tookWord w rest) (layerCtr l 4)
  rwa [Dev.rd_tookWord] at hcount

variable (hk : s.dev.windowOf l (s.dev.buildWordOf w).2.2.2.1 = (s.dev.layer l).build.window) (hs : (s.dev.layer l).build.skipping = false)
include hk hs

/-- A surface builder takes a word of the open window and writes nothing until the window closes (R231). -/
theorem State.buildWord_surface_shows (he : e.op = 17) :
    (s.buildWord l).dev.transit = rest ∧ s.dev.regsKept (s.buildWord l).dev [] ∧ s.sameRest (s.buildWord l) := by
  rw [State.buildWord_open h hk hs, if_neg (by omega)]
  exact ⟨Dev.tookWord_transit .., (Dev.regsKept.refl s.dev _).of_dict (s.dev.dict_tookWord w rest), rfl, rfl⟩

variable (he : e.op = 16) (hb : s.dev.rd (Obj.buildBins l) = 1) (hp : w.poisoned = false)
include he hb hp

/-- A voxel builder with one bin adds the word's whole weight to one element (R230). -/
theorem State.buildWord_oneBin : s.buildWord l =
    (s.wordTaken w rest).voxelAdd l e (s.dev.buildShape l e).2.2.1
      (if bitAt (s.dev.rd (Obj.buildControl l)) 0 && (s.dev.buildWordOf w).2.2.1 == 1 then 1 else 0)
      ((s.dev.buildWordOf w).2.1 / 2 ^ field (s.dev.rd (Obj.buildControl l)) 1 2)
      ((s.dev.buildWordOf w).1 / 2 ^ field (s.dev.rd (Obj.buildControl l)) 1 2)
      (if bitAt (s.dev.rd (Obj.buildControl l)) 0 = false ∧ (s.dev.buildWordOf w).2.2.1 = 0 then -256 else 256) false := by
  have hbins : (s.wordTaken w rest).dev.rd (Obj.buildBins l) = 1 := (Dev.rd_tookWord ..).trans hb
  rw [State.buildWord_open h hk hs, if_pos he, hp, State.voxelWord_oneBin _ _ _ _ _ hbins]
  simp only [State.wordTaken, Dev.rd_tookWord, Dev.buildShape_tookWord]

variable {c a : Nat}
  (haddr : buildAddr e (s.dev.layer l).build.closed (s.dev.buildShape l e).2.2.1 5
    (if bitAt (s.dev.rd (Obj.buildControl l)) 0 && (s.dev.buildWordOf w).2.2.1 == 1 then 1 else 0)
    ((s.dev.buildWordOf w).2.1 / 2 ^ field (s.dev.rd (Obj.buildControl l)) 1 2)
    ((s.dev.buildWordOf w).1 / 2 ^ field (s.dev.rd (Obj.buildControl l)) 1 2) = some (c, a))
include haddr

/-- An element that no window allows is counted as a violation and stays as it was (R283). -/
theorem State.buildWord_refused_shows (hport : s.dev.buildPort false c a = false) :
    (s.buildWord l).dev.rd (Obj.regionViolations c) = (s.dev.rd (Obj.regionViolations c) + 1) % 2 ^ 64 ∧ (s.buildWord l).dev.transit = rest ∧
    s.sameRest (s.buildWord l) := by
  have haddr' := haddr
  rw [← Dev.layer_tookWord s.dev w rest] at haddr'
  rw [State.buildWord_oneBin h hk hs he hb hp, State.voxelAdd_refused (s := s.wordTaken w rest) _ haddr' _ ((Dev.buildPort_tookWord ..).trans hport)]
  obtain ⟨hcount, htransit⟩ := (s.dev.tookWord w rest).buildRefused_shows c a
  rw [Dev.rd_tookWord] at hcount
  exact ⟨hcount, htransit.trans (Dev.tookWord_transit ..), rfl, rfl⟩

/-- An element that a window allows takes the sum, and no other byte changes (R230). -/
theorem State.buildWord_written_shows (hport : s.dev.buildPort false c a = true) :
    (s.buildWord l).mem.padRead c a 2 = leBytes 2 (unsigned 16 (s.mem.voxelSum c a
      (if bitAt (s.dev.rd (Obj.buildControl l)) 0 = false ∧ (s.dev.buildWordOf w).2.2.1 = 0 then -256 else 256))) ∧
    (∀ k x, padKey k x ≠ padKey c a → padKey k x ≠ padKey c (a + 1) → Memory.byte (s.buildWord l).mem.pad (padKey k x) = Memory.byte s.mem.pad (padKey k x)) ∧
    (s.buildWord l).mem.gddr = s.mem.gddr ∧ (s.buildWord l).dev.transit = rest ∧ s.dev.regsKept (s.buildWord l).dev [(Obj.layerCounter l 5).key] ∧
    (s.buildWord l).pending = s.pending := by
  have haddr' := haddr
  rw [← Dev.layer_tookWord s.dev w rest] at haddr'
  obtain ⟨D, hD, hadd⟩ := State.voxelAdd_written (s := s.wordTaken w rest)
    (if bitAt (s.dev.rd (Obj.buildControl l)) 0 = false ∧ (s.dev.buildWordOf w).2.2.1 = 0 then -256 else 256) haddr' ((Dev.buildPort_tookWord ..).trans hport)
  have hkept : s.dev.regsKept (s.dev.tookWord w rest) [(Obj.layerCounter l 5).key] := (Dev.regsKept.refl s.dev _).of_dict (s.dev.dict_tookWord w rest)
  have hdev : D.transit = rest ∧ s.dev.regsKept D [(Obj.layerCounter l 5).key] := by
    rcases hD with rfl | rfl
    · exact ⟨Dev.tookWord_transit .., hkept⟩
    · exact ⟨Dev.tookWord_transit .., hkept.bump (r := layerCtr l 5) (List.mem_singleton_self _)⟩
  rw [State.buildWord_oneBin h hk hs he hb hp, hadd]
  exact ⟨Mem.padRead_padPut_two .., fun k x h0 h1 => Mem.byte_padPut_two _ _ _ _ _ h0 h1, rfl, hdev.1, hdev.2, rfl⟩

end

/-! ### The last count map (R232) -/

section
variable {s : State} {l : Nat} {e : LayerEntry} (hentry : s.dev.layerEntry l = some e) (hruns : s.dev.layerRuns l = true) (he : e.op = 18)
  (hnew : (s.dev.layer l).build.window < ((s.dev.pop (s.dev.rd (Obj.buildSource l) - 0x400)).maps : Int))
include hentry hruns he hnew

/-- The map that was copied or skipped is the last; one that is skipped is counted, and one that is copied is kept. -/
theorem State.buildCount_shows :
    ((s.buildCount l).dev.layer l).build.window = ((s.dev.pop (s.dev.rd (Obj.buildSource l) - 0x400)).maps : Int) ∧
    ((if (s.dev.layer l).build.closed % 2 = 0 then (s.dev.layer l).build.held0 else (s.dev.layer l).build.held1) ≠ 0 →
      ((s.buildCount l).dev.layer l).build.closed = (s.dev.layer l).build.closed ∧
      (s.buildCount l).dev.rd (Obj.layerCounter l 6) = (s.dev.rd (Obj.layerCounter l 6) + 1) % 2 ^ 64 ∧ (s.buildCount l).mem = s.mem) ∧
    ((if (s.dev.layer l).build.closed % 2 = 0 then (s.dev.layer l).build.held0 else (s.dev.layer l).build.held1) = 0 →
      ((s.buildCount l).dev.layer l).build.closed = (s.dev.layer l).build.closed + 1) ∧
    (s.buildCount l).mem.gddr = s.mem.gddr ∧ (s.buildCount l).pending = s.pending := by
  have hcopies : (!s.dev.layerRuns l || e.op != 18 || decide (((s.dev.pop (s.dev.rd (Obj.buildSource l) - 0x400)).maps : Int) ≤ (s.dev.layer l).build.window)) = false := by
    simp [hruns, he, hnew]
  unfold State.buildCount
  simp only [hentry, hcopies, Bool.false_eq_true, if_false]
  generalize hd : s.dev.updLayer l _ = d
  have hbuild : (d.layer l).build = { (s.dev.layer l).build with window := ((s.dev.pop (s.dev.rd (Obj.buildSource l) - 0x400)).maps : Int) } := by
    rw [← hd, Dev.layer_updLayer_same]
  generalize (if (s.dev.layer l).build.closed % 2 = 0 then (s.dev.layer l).build.held0 else (s.dev.layer l).build.held1) = held
  split
  next hheld =>
    have hcount : (d.bump (layerCtr l 6)).rd (layerCtr l 6) = (s.dev.rd (layerCtr l 6) + 1) % 2 ^ 64 := by
      rw [Dev.rd_bump_same, ← hd]
      rfl
    have hshown : ((d.bump (layerCtr l 6)).layer l).build = (d.layer l).build := rfl
    rw [hshown, hbuild]
    exact ⟨rfl, fun _ => ⟨rfl, hcount, rfl⟩, fun hfree => absurd hfree hheld, rfl, rfl⟩
  next hfree =>
    generalize hc : List.foldl _ (State.buildClear _ _ _ _) _ = copied
    have hcopied : State.padsOnly { s with dev := d } copied := by
      rw [← hc]
      refine foldl_holds (State.padsOnly { s with dev := d }) _ (fun u z hu => ?_) _ ((State.padsOnly.refl _).buildClear ..)
      split
      · exact hu.buildPut ..
      · exact hu
    rw [Dev.window_windowKept, Dev.closed_windowKept, hcopied.windows l, hbuild]
    exact ⟨rfl, fun hheld => absurd hheld hfree, fun _ => rfl, hcopied.gddr, hcopied.pending⟩

end

/-! ### O33 -/

/-- Settles O33: a word is late, or is accumulated in one element; a window that times out closes and the next opens; a count map is copied or skipped. -/
theorem buildersBuild : Obligations.BuildersBuild := by
  unfold Obligations.BuildersBuild
  intro s l e hw hentry hruns
  refine ⟨fun w rest hfirst hop => ?_, fun hop hpast => ?_, ?_⟩
  · intro z q split hselects
    have hwaits : s.start.dev.BuildWaits l e w rest := ⟨hfirst, hentry, hruns, hop, hselects⟩
    have hnext : exec (.buildWord l) s = .next (s.start.buildWord l) := State.runM_next (State.buildWord · l) hw
    refine ⟨fun hlate => ⟨_, hnext, State.buildWord_late_shows hwaits hlate⟩, fun hopen hskip => ⟨fun he => ⟨_, hnext, State.buildWord_surface_shows hwaits hopen hskip he⟩, ?_⟩⟩
    intro c a he hb hp haddr
    exact ⟨fun hport => ⟨_, hnext, State.buildWord_refused_shows hwaits hopen hskip he hb hp haddr hport⟩,
      fun hport => ⟨_, hnext, State.buildWord_written_shows hwaits hopen hskip he hb hp haddr hport⟩⟩
  · have hnext : exec (.buildTimeout l) s = .next (s.start.buildTimeout l) := State.runM_next (State.buildTimeout · l) hw
    have hcloses : s.start.buildTimeout l = s.start.windowClose l e := by
      have hdue : (s.start.dev.layerRuns l && (e.op == 16 || e.op == 17) &&
          s.start.dev.passed (s.start.dev.windowStart l ((s.start.dev.layer l).build.window + 1)) (s.start.dev.layer l).build.timeout) = true := by
        simp only [Bool.and_eq_true, Bool.or_eq_true, beq_iff_eq]
        exact ⟨⟨hruns, hop⟩, hpast⟩
      have hentry' : s.start.dev.layerEntry l = some e := hentry
      simp only [State.buildTimeout, hentry', hdue, if_true]
    rw [hcloses] at hnext
    exact ⟨_, hnext, s.start.windowClose_shows l e⟩
  · intro h b he hnew
    exact ⟨_, State.runM_next (State.buildCount · l) hw, State.buildCount_shows (s := s.start) hentry hruns he hnew⟩

end Sys2Proof.Machine
end

section
/-! The issue of a tile (R217, R238, R246): the account of a unit's waiting changes nothing that the steward core's window and the readiness of a tile rest on. -/

namespace Sys2Proof.Machine

open Sys2Proof

/-! ### The account of waiting (R246) -/

/-- From `s` to `t` nothing has changed but the account of the waiting of layer `l`'s units at fill weirs. -/
structure Dev.idlesOnly (s t : Dev) (l : Nat) : Prop where
  plans : t.plans = s.plans
  weirs : t.weirs = s.weirs
  layer_other : ∀ j, j ≠ l → t.layer j = s.layer j
  layer_same : ∃ h f n, t.layer l = { s.layer l with halo := h, haloF := f, haloNs := n }
  regs : s.regsKept t [(layerCtr l 2).key]

theorem Dev.idlesOnly_haloSettle (s : Dev) (l : Nat) : s.idlesOnly (s.haloSettle l) l := by
  unfold Dev.haloSettle
  extract_lets z ns
  refine ⟨rfl, rfl, fun j hj => Dev.layer_updLayer_other _ _ hj, ⟨z.halo, s.rf, ns % 1000, Dev.layer_updLayer_same ..⟩, ?_⟩
  exact ((Dev.regsKept.refl s _).bumpBy _ (List.mem_singleton_self _)).of_dict rfl

section
variable {s t : Dev} {l : Nat} (h : s.idlesOnly t l)
include h

theorem Dev.idlesOnly.setHalo (f : Layer → List HaloWait) : s.idlesOnly (t.updLayer l (fun z => { z with halo := f z })) l := by
  obtain ⟨w, g, n, hlayer⟩ := h.layer_same
  refine ⟨h.plans, h.weirs, fun j hj => (Dev.layer_updLayer_other _ _ hj).trans (h.layer_other j hj), ⟨f (t.layer l), g, n, ?_⟩, h.regs.of_dict rfl⟩
  rw [Dev.layer_updLayer_same, hlayer]

theorem Dev.idlesOnly.layer (j : Nat) : ∃ w f n, t.layer j = { s.layer j with halo := w, haloF := f, haloNs := n } := by
  by_cases hj : j = l
  · subst hj
    exact h.layer_same
  · exact ⟨_, _, _, h.layer_other j hj⟩

theorem Dev.idlesOnly.slot (j : Nat) : (t.layer j).slot = (s.layer j).slot := by
  obtain ⟨w, f, n, hlayer⟩ := h.layer j
  rw [hlayer]

theorem Dev.idlesOnly.tiles (j : Nat) : (t.layer j).tiles = (s.layer j).tiles := by
  obtain ⟨w, f, n, hlayer⟩ := h.layer j
  rw [hlayer]

theorem Dev.idlesOnly.drained (j : Nat) : (t.layer j).drained = (s.layer j).drained := by
  obtain ⟨w, f, n, hlayer⟩ := h.layer j
  rw [hlayer]

theorem Dev.idlesOnly.runs (j : Nat) : (t.layer j).runs = (s.layer j).runs := by
  obtain ⟨w, f, n, hlayer⟩ := h.layer j
  rw [hlayer]

theorem Dev.idlesOnly.started (j : Nat) : (t.layer j).started = (s.layer j).started := by
  obtain ⟨w, f, n, hlayer⟩ := h.layer j
  rw [hlayer]

theorem Dev.idlesOnly.build (j : Nat) : (t.layer j).build = (s.layer j).build := by
  obtain ⟨w, f, n, hlayer⟩ := h.layer j
  rw [hlayer]

theorem Dev.idlesOnly.plan (p : Nat) : t.plan p = s.plan p := by rw [Dev.plan, h.plans, Dev.plan]

theorem Dev.idlesOnly.weir (w : Nat) : t.weir w = s.weir w := by rw [Dev.weir, h.weirs, Dev.weir]

theorem Dev.idlesOnly.layerRuns (j : Nat) : t.layerRuns j = s.layerRuns j := by
  have hstate : t.rd (Obj.layerState j) = s.rd (Obj.layerState j) := h.regs _ (by
    simp only [layerCtr, Obj.layerState, Obj.layerCounter, Reg.at_key, List.mem_singleton]
    omega)
  rw [Dev.layerRuns, Dev.getF_eq _ _ _ 0 2 hstate, Dev.layerRuns]

theorem Dev.idlesOnly.tileWindow (j : Nat) (e : LayerEntry) (i : Nat) (x : Stripe) : t.tileWindow j e i x = s.tileWindow j e i x := by
  simp only [Dev.tileWindow, h.drained, h.tiles]

theorem Dev.idlesOnly.producerReady (p n c y run : Nat) : t.producerReady p n c y run = s.producerReady p n c y run := by
  simp only [Dev.producerReady, h.plan, h.build, h.runs, h.drained]

theorem Dev.idlesOnly.rowPresent (p : Nat) (e : LayerEntry) (c y run : Nat) : t.rowPresent p e c y run = s.rowPresent p e c y run := by
  simp only [Dev.rowPresent, Dev.haloPresent, h.weir, h.producerReady]

theorem Dev.idlesOnly.readersOf (p n : Nat) : t.readersOf p n = s.readersOf p n := by
  simp only [Dev.readersOf, h.plan, h.layerRuns]

theorem Dev.idlesOnly.tileReady (j : Nat) (e : LayerEntry) (c : Nat) (sp : TileSpan) : t.tileReady j e c sp = s.tileReady j e c sp := by
  simp only [Dev.tileReady, h.slot, h.runs, h.rowPresent, h.producerReady, h.readersOf]

end

theorem Dev.idlesOnly_haloSet (s : Dev) (l g : Nat) (w : Option Nat) : s.idlesOnly (s.haloSet l g w) l := by
  have hsettled := s.idlesOnly_haloSettle l
  cases w with
  | none => exact hsettled.setHalo _
  | some weir =>
    unfold Dev.haloSet
    dsimp only
    split
    · exact hsettled
    · exact hsettled.setHalo _

/-- The unit stands idle at a fill weir just where it has one to wait at. -/
theorem Dev.halo_haloSet (s : Dev) (l g : Nat) (w : Option Nat) : ((s.haloSet l g w).layer l).halo.any (fun h => h.unit == g) = w.isSome := by
  cases w with
  | none =>
    simp [Dev.haloSet, Dev.layer_updLayer_same]
  | some weir =>
    unfold Dev.haloSet
    dsimp only
    split
    next hwaits => simpa using hwaits
    next => simp [Dev.layer_updLayer_same]

/-! ### A run begins (R235) -/

section
variable (s : Dev) (l : Nat) (e : LayerEntry)

theorem Dev.layer_gddrStall (g ns : Nat) : ∃ n, ((s.gddrStall l g ns).layer l) = { s.layer l with gddrNs := n } := ⟨_, Dev.layer_updLayer_same ..⟩

theorem Dev.layers_emptyStripes : (s.emptyStripes l e).layers = s.layers := by
  unfold Dev.emptyStripes
  refine foldl_holds (fun u : Dev => u.layers = s.layers) _ (fun u t hu => ?_) _ rfl
  exact (u.layers_complete ..).trans hu

/-- A layer whose run begins, or has begun, has its tiles and its count of runs as they were. -/
theorem Dev.layer_runStart : ((s.runStart l e).layer l).started = true ∧ ((s.runStart l e).layer l).tiles = (s.layer l).tiles ∧
    ((s.runStart l e).layer l).runs = (s.layer l).runs := by
  unfold Dev.runStart
  split
  next hstarted => exact ⟨hstarted, rfl, rfl⟩
  next =>
    extract_lets emptied begun
    have hemptied : emptied.layers = s.layers := by
      unfold emptied
      split
      · rfl
      · exact s.layers_emptyStripes l e
    have hlayer : emptied.layer l = s.layer l := by rw [Dev.layer, hemptied, Dev.layer]
    have hbegun : (begun.setBit (Obj.layerState l) 2 false).layer l = begun.layer l := rfl
    rw [hbegun]
    unfold begun
    rw [Dev.layer_updLayer_same, hlayer]
    exact ⟨rfl, rfl, rfl⟩

end

/-! ### The issue -/

section
variable {s : Dev} {l c u gddr : Nat} {e : LayerEntry} {i : Nat} {t : Stripe} (hentry : s.layerEntry l = some e) (hstripe : e.stripeOn c = some (i, t))
  (hissues : (!s.layerRuns l || !s.basinMode c || e.builder || (s.plan (s.layer l).slot).isEmpty 256 e || s.unitBusy c u || !s.unitWorks (c * 16 + u)) = false)
include hentry hstripe hissues

/-- Whether a unit is given a tile rests on the window as it stood before the unit's waiting was accounted for. -/
theorem Dev.tileIssue_eq : s.tileIssue l c u gddr =
    match (s.tileWindow l e i t).find? (fun q => s.tileReady l e c q.1) with
    | none => s.haloSet l (c * 16 + u) (s.windowHeld l e c)
    | some q => (((s.haloSet l (c * 16 + u) (s.windowHeld l e c)).gddrStall l (c * 16 + u) gddr).runStart l e).updLayer l
        (fun z => { z with tiles := z.tiles ++ [⟨c, u, i, q.2⟩] }) := by
  have hidles := s.idlesOnly_haloSet l (c * 16 + u) (s.windowHeld l e c)
  unfold Dev.tileIssue
  simp only [hentry, hstripe, hissues, Bool.false_eq_true, if_false, hidles.tileWindow, hidles.tileReady]
    <;> rfl

/-- The first ready tile goes to the unit, in a run that has begun (R238). -/
theorem Dev.tileIssue_ready_shows {q : TileSpan × Nat} (hq : (s.tileWindow l e i t).find? (fun q => s.tileReady l e c q.1) = some q) :
    ((s.tileIssue l c u gddr).layer l).tiles = (s.layer l).tiles ++ [⟨c, u, i, q.2⟩] ∧ ((s.tileIssue l c u gddr).layer l).started = true ∧
    ((s.tileIssue l c u gddr).layer l).runs = (s.layer l).runs := by
  rw [Dev.tileIssue_eq hentry hstripe hissues, hq]
  have hidles := s.idlesOnly_haloSet l (c * 16 + u) (s.windowHeld l e c)
  dsimp only
  generalize s.haloSet l (c * 16 + u) (s.windowHeld l e c) = idle at hidles
  obtain ⟨n, hstalled⟩ := idle.layer_gddrStall l (c * 16 + u) gddr
  obtain ⟨hstarted, htiles, hruns⟩ := (idle.gddrStall l (c * 16 + u) gddr).layer_runStart l e
  rw [Dev.layer_updLayer_same]
  dsimp only
  rw [hstarted, htiles, hruns, hstalled]
  exact ⟨congrArg (· ++ _) (hidles.tiles l), rfl, hidles.runs l⟩

/-- With no tile ready the unit waits, at the fill weir on which the window is held where there is one (R246), and nothing else changes. -/
theorem Dev.tileIssue_unready_shows (hq : (s.tileWindow l e i t).find? (fun q => s.tileReady l e c q.1) = none) :
    s.idlesOnly (s.tileIssue l c u gddr) l ∧ (s.windowHeld l e c).isSome = ((s.tileIssue l c u gddr).layer l).halo.any (fun h => h.unit == c * 16 + u) := by
  rw [Dev.tileIssue_eq hentry hstripe hissues, hq]
  exact ⟨s.idlesOnly_haloSet .., (s.halo_haloSet ..).symm⟩

end

end Sys2Proof.Machine
end

section
/-! The residues of a tile's accumulators (R268, R269): they match unless the residue store has suffered a fault, and then the first does not. -/

namespace Sys2Proof.Machine

open Sys2Proof

/-! ### One accumulator -/

/-- The residue beside an accumulator is its value's. -/
def ResAcc.sound (a : ResAcc) : Prop := a.residue = mod3 a.value

/-- A wrap at 32 bits takes away a multiple of 2³². -/
theorem signed_unsigned_32_wraps (x : Int) : (x - signed 32 (unsigned 32 x)) % 2 ^ 32 = 0 := by
  unfold signed unsigned
  split <;> omega

/-- A residue to which a term's is added and the carry's taken away is that of the sum less the carry, since 2³² is 1 modulo 3. -/
theorem mod3_carry {a t v : Int} (hv : (a + t - v) % 2 ^ 32 = 0) : mod3 ((mod3 a : Int) + mod3 t - (a + t - v) / 2 ^ 32) = mod3 v := by
  obtain ⟨k, hk⟩ : ∃ k, a + t - v = 2 ^ 32 * k := Int.dvd_of_emod_eq_zero hv
  have hcarry : (2 : Int) ^ 32 * k / 2 ^ 32 = k := Int.mul_ediv_cancel_left k (by norm_num)
  have hsum : v = a + t - 4294967296 * k := by
    have hpow : (2 : Int) ^ 32 = 4294967296 := by norm_num
    rw [hpow] at hk
    linarith
  have hmod : (((a % 3).toNat : Int) + ((t % 3).toNat : Int) - k) % 3 = (a + t - 4294967296 * k) % 3 := by omega
  rw [hk, hcarry, hsum]
  exact congrArg Int.toNat hmod

theorem ResAcc.sound.add {a : ResAcc} (h : a.sound) (wraps : Bool) (t : Int) : (a.add wraps t (mod3 t)).sound := by
  unfold ResAcc.sound at h
  unfold ResAcc.sound ResAcc.add
  rw [h]
  cases wraps with
  | false => exact mod3_carry (by simp)
  | true => exact mod3_carry (signed_unsigned_32_wraps _)

theorem ResAcc.sound_residueOver (integer : Bool) (ts : List Int) : (residueOver integer ts).sound :=
  foldl_holds ResAcc.sound _ (fun _ t ha => ha.add integer t) ts rfl

theorem ResAcc.sound.agrees {a : ResAcc} (h : a.sound) : a.agrees 0 = true := by
  unfold ResAcc.sound mod3 at h
  simp only [ResAcc.agrees, mod3, beq_iff_eq]
  omega

/-- A residue read one too high does not match. -/
theorem ResAcc.sound.not_agrees {a : ResAcc} (h : a.sound) : a.agrees 1 = false := by
  unfold ResAcc.sound mod3 at h
  simp only [ResAcc.agrees, mod3, beq_eq_false_iff_ne]
  omega

/-! ### The accumulators of a tile -/

section
variable (s : State) (v : TileEnv)

theorem State.sound_accOf (tab : List Byte) (m : Round) (free co oy ox : Nat) : (s.accOf v tab m free co oy ox).check.sound := by
  unfold State.accOf
  extract_lets e int openV sum taps
  have hsum : ∀ ts n, (sum ts n).check.sound := fun ts n => ResAcc.sound_residueOver ..
  have hfrom : ∀ x sigs rs, (accFrom int x sigs rs).check.sound := fun x sigs rs => ResAcc.sound_residueOver ..
  split
  · exact hsum ..
  · clear_value taps
    split
    · exact hfrom ..
    · exact hfrom ..
  · exact hsum ..
  · exact hsum ..
  · exact hsum ..
  · exact hfrom ..
  · exact hsum ..
  · exact hsum ..

variable (y : Layer) (tab : List Byte) (free : Nat) (sp : TileSpan)

/-- A row of a tile has an accumulator for each column, with its own residue. -/
theorem State.checks_tileRow (cycles : List Nat) (ch row : Nat) (o : TileOut) :
    ∃ as, as.length = sp.cols ∧ (∀ a ∈ as, ResAcc.sound a) ∧ (s.tileRow v y tab free sp cycles ch row o).checks = o.checks ++ as := by
  unfold State.tileRow
  extract_lets e step elems
  refine ⟨elems.map (fun z => z.2.check), by simp [elems], fun a ha => ?_, rfl⟩
  obtain ⟨z, hz, rfl⟩ := List.mem_map.1 ha
  obtain ⟨i, -, rfl⟩ := List.mem_map.1 hz
  exact s.sound_accOf ..

theorem State.sound_tileOut (lfsr : Nat) : ∀ a ∈ (s.tileOut v y tab free sp lfsr).checks, a.sound := by
  refine foldl_holds (fun o : TileOut => ∀ a ∈ o.checks, a.sound) _ (fun o z ho => ?_) _ (fun _ ha => absurd ha List.not_mem_nil)
  obtain ⟨as, -, hsound, hchecks⟩ := s.checks_tileRow v y tab free sp _ z.1 z.2 o
  intro a ha
  rw [hchecks, List.mem_append] at ha
  exact ha.elim (ho a) (hsound a)

theorem State.checks_tileRows_length (cycles : List Nat) (cells : List (Nat × Nat)) (o : TileOut) :
    (cells.foldl (fun o z => s.tileRow v y tab free sp cycles z.1 z.2 o) o).checks.length = o.checks.length + cells.length * sp.cols := by
  induction cells generalizing o with
  | nil => simp
  | cons z cells ih =>
    obtain ⟨as, hlength, -, hchecks⟩ := s.checks_tileRow v y tab free sp cycles z.1 z.2 o
    rw [List.foldl_cons, ih, hchecks, List.length_append, hlength, List.length_cons]
    ring

/-- A tile has an accumulator for each of its elements (R221). -/
theorem State.checks_tileOut_length (lfsr : Nat) : (s.tileOut v y tab free sp lfsr).checks.length = sp.rows * sp.chans * sp.cols := by
  refine (s.checks_tileRows_length ..).trans ?_
  simp [upFrom, List.length_flatMap, Function.comp_def]

theorem State.mismatch_false (lfsr : Nat) : (s.tileOut v y tab free sp lfsr).mismatch false = false := by
  rw [TileOut.mismatch, List.any_eq_false]
  intro z hz
  have hsound := s.sound_tileOut v y tab free sp lfsr z.1 (List.fst_mem_of_mem_zipIdx hz)
  simp [hsound.agrees, b2n]

/-- A fault of the residue store shows in the tile's first accumulator, where it has one (R269). -/
theorem State.mismatch_true (lfsr : Nat) (hr : 0 < sp.rows) (hc : 0 < sp.chans) (hw : 0 < sp.cols) : (s.tileOut v y tab free sp lfsr).mismatch true = true := by
  have hlength := s.checks_tileOut_length v y tab free sp lfsr
  have hsound := s.sound_tileOut v y tab free sp lfsr
  unfold TileOut.mismatch
  cases hchecks : (s.tileOut v y tab free sp lfsr).checks with
  | nil =>
    have hpos : 0 < sp.rows * sp.chans * sp.cols := by positivity
    rw [hchecks, List.length_nil] at hlength
    omega
  | cons a as =>
    have hfirst : a.agrees 1 = false := (hsound a (by simp [hchecks])).not_agrees
    simp [b2n, hfirst]

end

end Sys2Proof.Machine
end

section
/-! O32: what the issue and the drain of a tile leave (R217, R222, R235, R238, R243, R246, R269). -/

namespace Sys2Proof.Machine

open Sys2Proof

/-! ### Rows written (R215, R218) -/

theorem padKey_ne_of_cluster {k c : Nat} (hk : k ≠ c) (a b : Nat) : padKey k a ≠ padKey c b := by
  simp only [padKey]
  omega

/-- A write of an extent leaves the scratchpads of the other clusters. -/
theorem Mem.byte_padWrite_other (m : Mem) {k c : Nat} (hk : k ≠ c) (a b : Nat) (bs : List Byte) (bad : Bool) :
    Memory.byte (m.padWrite c a bs bad).pad (padKey k b) = Memory.byte m.pad (padKey k b) := by
  refine foldl_keeps (Memory.byte · (padKey k b)) _ (fun p z => ?_) bs.zipIdx m.pad
  exact Memory.byte_put_other _ _ (padKey_ne_of_cluster hk _ _)

/-- From `s` to `t` the scratchpad of cluster `c` may have been written: the other memories, the queue and the layers' progress stand. -/
structure State.writesOnly (s t : State) (c : Nat) : Prop where
  gddr : t.mem.gddr = s.mem.gddr
  pending : t.pending = s.pending
  others : ∀ k a, k ≠ c → Memory.byte t.mem.pad (padKey k a) = Memory.byte s.mem.pad (padKey k a)
  layers : s.dev.layersStand t.dev

theorem State.writesOnly.refl (s : State) (c : Nat) : s.writesOnly s c := ⟨rfl, rfl, fun _ _ _ => rfl, .refl s.dev⟩

section
variable {s t : State} {c : Nat} (h : s.writesOnly t c)
include h

theorem State.writesOnly.portWrite (u a : Nat) (bs : List Byte) (bad : Bool) : s.writesOnly (t.portWrite c u a bs bad) c := by
  unfold State.portWrite
  refine loop_holds (s.writesOnly · c) _ _ (fun i v hv => ?_) h
  extract_lets k lo hi
  split
  · exact ⟨hv.gddr, hv.pending, fun k a hk => (Mem.byte_padWrite_other _ hk ..).trans (hv.others k a hk), hv.layers⟩
  · exact ⟨hv.gddr, hv.pending, hv.others, hv.layers.trans ((Dev.recovers.refl v.dev).padViolation ..).1⟩

theorem State.writesOnly.writeRow {v : TileEnv} (hv : v.c = c) (sp : TileSpan) (bad : Bool) (z : Nat × Nat × List Nat) : s.writesOnly (t.writeRow v sp bad z) c := by
  subst hv
  exact h.portWrite ..

end

/-! ### A tile drained (R235) -/

/-- A layer at the end of a run, with `b` its windows. -/
def Layer.runEnded (z : Layer) (b : Build) : Layer := { z with started := false, drained := [], runs := z.runs + 1, build := b }

section
variable (s : Dev) (l : Nat) (e : LayerEntry)

/-- A tile leaves beside its rows no trace in a layer. -/
theorem Dev.layersStand_tileLeaves (c u : Nat) (sp : TileSpan) (o : TileOut) : s.layersStand (s.tileLeaves e c u sp o) := by
  unfold Dev.tileLeaves
  extract_lets read refused counted drawn
  have hread : s.recovers read := foldl_holds s.recovers _ (fun _ _ hu => hu.padUncorrectable _ _) _ ((Dev.recovers.refl s).beside rfl rfl)
  have hrefused : s.recovers refused := foldl_holds s.recovers _ (fun _ _ hu => hu.padViolation _ _ _) _ hread
  exact hrefused.1.of_layers rfl

/-- The tile on unit `u` of cluster `c` is in progress no more. -/
theorem Dev.tiles_dropTile (c u : Nat) : ∀ x ∈ ((s.dropTile l c u).layer l).tiles, ¬ (x.cluster = c ∧ x.unit = u) := by
  intro x hx
  rw [Dev.dropTile, Dev.layer_updLayer_same] at hx
  have hkept := (List.mem_filter.1 hx).2
  simpa only [Bool.not_eq_true', Bool.and_eq_false_iff, beq_eq_false_iff_ne, ← not_and_or] using hkept

theorem Dev.layersStand_dropTile (c u : Nat) : s.layersStand (s.dropTile l c u) :=
  (Dev.layersStand.refl s).updLayer l fun _ => ⟨rfl, List.filter_subset_self _⟩

theorem Dev.layers_freeHalos (c i : Nat) (t : Stripe) (sp : TileSpan) : (s.freeHalos l e c i t sp).layers = s.layers := by
  unfold Dev.freeHalos
  refine foldl_holds (fun u : Dev => u.layers = s.layers) _ (fun u h hu => ?_) _ rfl
  split
  · exact (u.layers_weirAdd ..).trans hu
  · exact hu

/-- A builder's buffer that is released changes its windows alone (R233). -/
theorem Dev.layer_buildRelease (h n j : Nat) : ∃ b, (s.buildRelease h n).layer j = { s.layer j with build := b } := by
  unfold Dev.buildRelease
  extract_lets released b
  have hshown : (released.setBit (Obj.layerState h) 5 (b.held0 != 0 && b.held1 != 0)).layer j = released.layer j := rfl
  rw [hshown]
  by_cases hj : j = h
  · subst hj
    exact ⟨_, Dev.layer_updLayer_same ..⟩
  · exact ⟨_, Dev.layer_updLayer_other _ _ hj⟩

/-- A run that ends is counted, and the next has drained no tile. -/
theorem Dev.layer_runEnd : ∃ b, (s.runEnd l e).layer l = (s.layer l).runEnded b := by
  unfold Dev.runEnd
  extract_lets run x ended
  have hended : ended.layer l = (s.layer l).runEnded (s.layer l).build :=
    s.layer_updLayer_same l (fun z => { z with started := false, drained := [], runs := run + 1 })
  refine foldl_holds (fun u : Dev => ∃ b, u.layer l = (s.layer l).runEnded b) _ (fun u n hu => ?_) _ ⟨_, hended⟩
  obtain ⟨b, hb⟩ := hu
  split
  · split
    · obtain ⟨b', hb'⟩ := u.layer_buildRelease _ run l
      exact ⟨b', by rw [hb', hb, Layer.runEnded, Layer.runEnded]⟩
    · exact ⟨b, hb⟩
  · exact ⟨b, hb⟩

/-- A drained tile counts to its stripe, or completes the run (R235). -/
theorem Dev.tileDone_shows (c i k : Nat) (t : Stripe) : ((s.tileDone l e c i k t).layer l).tiles = (s.layer l).tiles ∧
    ((((s.tileDone l e c i k t).layer l).runs = (s.layer l).runs ∧ ((s.tileDone l e c i k t).layer l).drained = (s.layer l).drained ++ [i * 2 ^ 20 + k]) ∨
      (((s.tileDone l e c i k t).layer l).runs = (s.layer l).runs + 1 ∧ ((s.tileDone l e c i k t).layer l).drained = [])) := by
  unfold Dev.tileDone
  extract_lets marked freed z full completed
  have hmarked : marked.layer l = { s.layer l with drained := (s.layer l).drained ++ [i * 2 ^ 20 + k] } := Dev.layer_updLayer_same ..
  have hfreed : freed.layers = marked.layers := by
    unfold freed
    split
    · exact marked.layers_freeHalos ..
    · rfl
  have hcompleted : completed.layers = marked.layers := (freed.layers_complete e c 1 false).trans hfreed
  have hlayer : ∀ u : Dev, u.layers = marked.layers → u.layer l = { s.layer l with drained := (s.layer l).drained ++ [i * 2 ^ 20 + k] } := fun u hu => by
    rw [Dev.layer, hu]
    exact hmarked
  split
  · split
    · obtain ⟨b, hb⟩ := completed.layer_runEnd l e
      rw [hb, hlayer completed hcompleted]
      exact ⟨rfl, .inr ⟨rfl, rfl⟩⟩
    · rw [hlayer completed hcompleted]
      exact ⟨rfl, .inl ⟨rfl, rfl⟩⟩
  · rw [hlayer freed hfreed]
    exact ⟨rfl, .inl ⟨rfl, rfl⟩⟩

/-- A residue mismatch is counted in its cluster (R269). -/
theorem Dev.rd_residueFault {c : Nat} (hc : c < 128) (u : Nat) :
    (s.residueFault c u).rd (Obj.residueMismatches c) = (s.rd (Obj.residueMismatches c) + 1) % 2 ^ 64 := by
  have hkey : (Obj.residueMismatches c).key / 256 = 0x6023 := by
    simp only [Obj.residueMismatches, Reg.at_key]
    omega
  have hreported := ((Dev.recovers.refl (s.bump (Obj.residueMismatches c))).detect 0x01 (.unit (c * 16 + u)) (s.slotOf (c * 16 + u))).2 _ hkey
  exact hreported.trans (Dev.rd_bump_same ..)

/-- A tile that is discarded for a residue mismatch changes no layer's progress. -/
theorem Dev.layersStand_residueFault (c u : Nat) : s.layersStand (s.residueFault c u) := ((Dev.layersStand.refl s).of_layers rfl).trans
  ((Dev.recovers.refl (s.bump (Obj.residueMismatches c))).detect 0x01 (.unit (c * 16 + u)) (s.slotOf (c * 16 + u))).1

end

/-! ### The drain of a unit -/

/-- What the tile `sp` of stripe `t` gives on unit `u` of cluster `c` of layer `l`. -/
def State.drainOut (s : State) (l c u : Nat) (e : LayerEntry) (t : Stripe) (sp : TileSpan) : TileOut :=
  s.tileOut (s.dev.tileEnv l e c u t) (s.dev.layer l) (s.dev.blobOf (s.dev.layer l).slot e.convert) s.dev.open_ sp (Tab.get 0 s.dev.lfsr (c * 16 + u))

section
variable {s : State} {l c u : Nat} {e : LayerEntry} {q : Tile} {t : Stripe} {sp : TileSpan} (hentry : s.dev.layerEntry l = some e)
  (htile : (s.dev.layer l).tiles.find? (fun x => x.cluster == c && x.unit == u) = some q) (hstripe : e.stripes[q.stripe]? = some t)
  (hspan : (e.tiles t)[q.tile]? = some sp)
include hentry htile hstripe hspan

theorem State.tileDrain_eq (upset : Bool) : s.tileDrain l c u upset =
    if (s.drainOut l c u e t sp).mismatch upset then { s with dev := ((s.dev.dropTile l c u).rewindUnit c).residueFault c u }
    else
      let w := (s.drainOut l c u e t sp).rows.foldl (fun w z => w.writeRow (s.dev.tileEnv l e c u t) sp (!(s.drainOut l c u e t sp).bads.isEmpty) z) s
      { w with dev := ((w.dev.tileLeaves e c u sp (s.drainOut l c u e t sp)).dropTile l c u).tileDone l e c q.stripe q.tile t } := by
  unfold State.tileDrain
  simp only [hentry, htile, hstripe, hspan]
  rfl

/-- A tile drains once, into its own cluster's scratchpad (R222, R235). -/
theorem State.tileDrain_shows :
    (∀ x ∈ ((s.tileDrain l c u false).dev.layer l).tiles, ¬ (x.cluster = c ∧ x.unit = u)) ∧
    ((((s.tileDrain l c u false).dev.layer l).runs = (s.dev.layer l).runs ∧
        ((s.tileDrain l c u false).dev.layer l).drained = (s.dev.layer l).drained ++ [q.stripe * 2 ^ 20 + q.tile]) ∨
      (((s.tileDrain l c u false).dev.layer l).runs = (s.dev.layer l).runs + 1 ∧ ((s.tileDrain l c u false).dev.layer l).drained = [])) ∧
    (∀ k a, k ≠ c → Memory.byte (s.tileDrain l c u false).mem.pad (padKey k a) = Memory.byte s.mem.pad (padKey k a)) ∧
    (s.tileDrain l c u false).mem.gddr = s.mem.gddr ∧ (s.tileDrain l c u false).pending = s.pending := by
  have hmatch : (s.drainOut l c u e t sp).mismatch false = false := s.mismatch_false ..
  rw [State.tileDrain_eq hentry htile hstripe hspan, hmatch]
  simp only [Bool.false_eq_true, if_false]
  generalize s.drainOut l c u e t sp = o
  have hwritten : s.writesOnly (o.rows.foldl (fun w z => w.writeRow (s.dev.tileEnv l e c u t) sp (!o.bads.isEmpty) z) s) c :=
    foldl_holds (s.writesOnly · c) _ (fun _ z hw => hw.writeRow rfl sp _ z) _ (.refl s c)
  generalize o.rows.foldl (fun w z => w.writeRow (s.dev.tileEnv l e c u t) sp (!o.bads.isEmpty) z) s = w at hwritten
  have hleft : s.dev.layersStand ((w.dev.tileLeaves e c u sp o).dropTile l c u) :=
    (hwritten.layers.trans (w.dev.layersStand_tileLeaves e c u sp o)).trans (Dev.layersStand_dropTile _ l c u)
  have hgone := (w.dev.tileLeaves e c u sp o).tiles_dropTile l c u
  obtain ⟨htiles, hdone⟩ := ((w.dev.tileLeaves e c u sp o).dropTile l c u).tileDone_shows l e c q.stripe q.tile t
  rw [hleft.runs, hleft.drained] at hdone
  rw [htiles]
  exact ⟨hgone, hdone, hwritten.others, hwritten.gddr, hwritten.pending⟩

/-- A tile whose residue does not match is discarded and counted (R269). -/
theorem State.tileDrain_upset_shows (hcluster : c < 128) (hchans : 0 < sp.chans) (hrows : 0 < sp.rows) (hcols : 0 < sp.cols) :
    (∀ x ∈ ((s.tileDrain l c u true).dev.layer l).tiles, ¬ (x.cluster = c ∧ x.unit = u)) ∧
    ((s.tileDrain l c u true).dev.layer l).drained = (s.dev.layer l).drained ∧
    (s.tileDrain l c u true).dev.rd (Obj.residueMismatches c) = (s.dev.rd (Obj.residueMismatches c) + 1) % 2 ^ 64 ∧ s.sameRest (s.tileDrain l c u true) := by
  have hmismatch : (s.drainOut l c u e t sp).mismatch true = true := s.mismatch_true _ _ _ _ _ _ hrows hchans hcols
  rw [State.tileDrain_eq hentry htile hstripe hspan, hmismatch]
  simp only [if_true]
  have hkey : (Obj.residueMismatches c).key / 256 = 0x6023 := by
    simp only [Obj.residueMismatches, Reg.at_key]
    omega
  have hrewound := (Dev.recovers.refl (s.dev.dropTile l c u)).rewindUnit c
  have hreported := hrewound.1.trans (Dev.layersStand_residueFault _ c u)
  have hcount := ((s.dev.dropTile l c u).rewindUnit c).rd_residueFault hcluster u
  rw [hrewound.2 _ hkey] at hcount
  exact ⟨fun x hx => s.dev.tiles_dropTile l c u x ((hreported l).2 hx), ((s.dev.layersStand_dropTile l c u).trans hreported).drained l, hcount, rfl, rfl⟩

end

/-! ### O32 -/

/-- Settles O32: the window and the readiness of its tiles do not rest on the account of waiting; a tile's residue matches unless its store is upset, and what recovery does beside it
leaves every layer's progress. -/
theorem tilesIssueAndDrain : Obligations.TilesIssueAndDrain := by
  unfold Obligations.TilesIssueAndDrain
  intro s l c u gddr e hup hentry
  refine ⟨fun i st hstripe hruns hmode hbuilder hempty hbusy hworks => ?_, fun q st sp htile hstripe hspan => ?_⟩
  · have hnext : exec (.tileIssue l c ⟨u, gddr⟩) s = .next { s with dev := s.dev.fresh.tileIssue l c u gddr } := State.runIn_up (Dev.tileIssue · l c u gddr) hup
    have hissues : (!s.dev.layerRuns l || !s.dev.basinMode c || e.builder || (s.dev.plan (s.dev.layer l).slot).isEmpty 256 e || s.dev.unitBusy c u ||
        !s.dev.unitWorks (c * 16 + u)) = false := by
      simp [hruns, hmode, hbuilder, hempty, hbusy, hworks]
    refine ⟨fun q hq => ⟨_, hnext, ?_⟩, fun hq => ⟨_, hnext, ?_⟩⟩
    · obtain ⟨htiles, hstarted, hsame⟩ := Dev.tileIssue_ready_shows (s := s.dev.fresh) (gddr := gddr) hentry hstripe hissues hq
      exact ⟨htiles, hstarted, hsame, rfl, rfl⟩
    · obtain ⟨hidles, hwaits⟩ := Dev.tileIssue_unready_shows (s := s.dev.fresh) (gddr := gddr) hentry hstripe hissues hq
      exact ⟨hidles.tiles l, hidles.drained l, hidles.runs l, hidles.started l, hwaits, hidles.layer_other, hidles.regs, rfl, rfl⟩
  · have hnext : ∀ upset, exec (.tileDrain l c u upset) s = .next (s.start.tileDrain l c u upset) := fun upset => State.runInM_up (State.tileDrain · l c u upset) hup
    exact ⟨⟨_, hnext false, State.tileDrain_shows (s := s.start) hentry htile hstripe hspan⟩,
      fun hchans hrows hcols => ⟨_, hnext true, State.tileDrain_upset_shows (s := s.start) hentry htile hstripe hspan c.isLt hchans hrows hcols⟩⟩

end Sys2Proof.Machine
end

section
/-! O56: the memories keep their form at every step. -/

namespace Sys2Proof.Machine

open Sys2Proof

/-- A step keeps the canonical form of the memories: a command does, and a nanosecond leaves the memories alone. -/
theorem step_memOk {s t : State} (hs : s.memOk) (h : step s = .next t) : t.memOk := by
  obtain ⟨dev, mem, pending⟩ := s
  cases pending with
  | nil =>
    cases h
    exact hs
  | cons c rest => exact (exec_lands c ⟨dev, mem, rest⟩ t h).2 hs

/-- Settles O56: the memories' part of what every command keeps. -/
theorem memoriesKeepTheirForm : Obligations.MemoriesKeepTheirForm := fun _ _ => step_memOk

end Sys2Proof.Machine
end

section
/-! Sluices (R293 to R301): what each operation on one leaves of its record and of its cluster's counters. -/

namespace Sys2Proof.Machine

open Sys2Proof

/-! ### A sluice's record -/

section
variable (s : Dev) (key : Nat)

@[simp] theorem Dev.sluice_updSluice_same (f : Sluice → Sluice) : (s.updSluice key f).sluice key = f (s.sluice key) := Tab.get_upd_same ..

theorem Dev.sluice_updSluice_other {j : Nat} (f : Sluice → Sluice) (h : j ≠ key) : (s.updSluice key f).sluice j = s.sluice j := Tab.get_upd_other _ _ h

@[simp] theorem Dev.sluice_fresh : s.fresh.sluice key = s.sluice key := rfl

@[simp] theorem Dev.dict_updSluice (f : Sluice → Sluice) : (s.updSluice key f).dict = s.dict := rfl

@[simp] theorem Dev.out_updSluice (f : Sluice → Sluice) : (s.updSluice key f).out = s.out := rfl

@[simp] theorem Dev.rd_updSluice (f : Sluice → Sluice) (r : Reg) : (s.updSluice key f).rd r = s.rd r := rfl

@[simp] theorem Dev.sluice_bump (r : Reg) : (s.bump r).sluice key = s.sluice key := rfl

@[simp] theorem Dev.sluice_drawn : s.drawn.sluice key = s.sluice key := rfl

@[simp] theorem Dev.sluice_sluiceGive (k : Nat) (w : SluiceWord) : (s.sluiceGive k w).sluice key = s.sluice key := rfl

@[simp] theorem Dev.dict_sluiceGive (w : SluiceWord) : (s.sluiceGive key w).dict = s.dict := rfl

@[simp] theorem Dev.out_sluiceGive (w : SluiceWord) : (s.sluiceGive key w).out = s.out ++ [.sluiceData key w.data w.tag true w.poisoned] := rfl

/-! ### Discarded words (R294, R298, R299) -/

@[simp] theorem Dev.sluice_sluiceDiscard (k n : Nat) : (s.sluiceDiscard k n).sluice key = s.sluice key := by
  unfold Dev.sluiceDiscard
  split <;> rfl

/-- The words that a cluster's sluice discards are counted in the cluster. -/
theorem Dev.rd_sluiceDiscard (n : Nat) (hk : key < 1024) : (s.sluiceDiscard key n).rd (Obj.sluiceDiscardedWords (key / 8)) =
    (s.rd (Obj.sluiceDiscardedWords (key / 8)) + n) % 2 ^ 64 := by
  rw [Dev.sluiceDiscard, if_pos hk, Dev.rd_bumpBy_same]
  rfl

end

theorem Dev.regsKept.updSluice {s t : Dev} {ks : List Nat} (h : s.regsKept t ks) (key : Nat) (f : Sluice → Sluice) : s.regsKept (t.updSluice key f) ks :=
  h

theorem Dev.regsKept.sluiceDiscard {s t : Dev} {ks : List Nat} (h : s.regsKept t ks) {key : Nat} (n : Nat)
    (hk : (Obj.sluiceDiscardedWords (key / 8)).key ∈ ks) : s.regsKept (t.sluiceDiscard key n) ks := by
  unfold Dev.sluiceDiscard
  split
  · exact h.bumpBy n hk
  · exact h

/-! ### A word read (R296, R300) -/

/-- An entry as its reader finds it (R300): a bad one carries Poison; one with a tag parity error ends its packet, and its parity bit reads `p`. -/
def SluiceWord.found (w : SluiceWord) (bad tagBad p : Bool) : SluiceWord :=
  { w with poisoned := w.poisoned || bad, last := w.last || tagBad, parity := if tagBad then p else w.parity }

@[simp] theorem SluiceWord.found_sound (w : SluiceWord) (p : Bool) : w.found false false p = w := by
  simp [SluiceWord.found]

/-- A sluice whose next word has been read, and was found so. -/
def Sluice.took (x : Sluice) (bad tagBad p : Bool) : Sluice :=
  { x with taken := x.taken + 1, words := x.words.modify x.taken (·.found bad tagBad p) }

theorem Sluice.took_sound (x : Sluice) (p : Bool) : x.took false false p = { x with taken := x.taken + 1 } := by
  have hid : (fun w : SluiceWord => w) = id := rfl
  simp [Sluice.took, hid]

@[simp] theorem Sluice.length_took (x : Sluice) (bad tagBad p : Bool) : (x.took bad tagBad p).words.length = x.words.length := by
  simp [Sluice.took]

theorem Sluice.word_took {x : Sluice} {w : SluiceWord} (hw : x.words[x.taken]? = some w) (bad tagBad p : Bool) :
    (x.took bad tagBad p).words[x.taken]? = some (w.found bad tagBad p) := by
  simp [Sluice.took, hw]

section
variable (s : Dev) (key : Nat) {w : SluiceWord}

/-- The word that a read takes goes to the reader as it is found; a bad one is counted. -/
theorem Dev.sluiceTake_uncorrected {check : Check} (tagBad : Bool) (hc : check ≠ .corrected)
    (hw : (s.sluice key).words[(s.sluice key).taken]? = some w) :
    let bad : Bool := tagBad || check == .uncorrectable
    let p := bitAt s.open_ 0
    let t := (((if tagBad then s.drawn else s).updSluice key (·.took bad tagBad p))).sluiceGive key (w.found bad tagBad p)
    s.sluiceTake key check tagBad = if bad then t.sluiceBad key else t := by
  have hsame : (if tagBad then s.drawn else s).sluice key = s.sluice key := by split <;> rfl
  have hfound := fun bad p => Sluice.word_took hw bad tagBad p
  unfold Dev.sluiceTake
  extract_lets bad p t x drawn took given
  have hgiven : given = t := by
    have htook : (took.sluice key).words[x.taken]? = some (w.found bad tagBad p) := by
      simp only [took, drawn, Dev.sluice_updSluice_same, hsame]
      exact hfound bad p
    simp only [given, htook]
    rfl
  rw [hgiven, if_neg hc]

/-- A sound word goes to its reader as it was written. -/
theorem Dev.sluiceTake_sound (hw : (s.sluice key).words[(s.sluice key).taken]? = some w) :
    s.sluiceTake key .ok false = (s.updSluice key (fun x => { x with taken := x.taken + 1 })).sluiceGive key w := by
  have htake := s.sluiceTake_uncorrected key (check := .ok) false (by decide) hw
  have hok : (false || Check.ok == Check.uncorrectable) = false := by decide
  simpa only [hok, Sluice.took_sound, SluiceWord.found_sound, Bool.false_eq_true, if_false] using htake

theorem rateUp_first {x : Nat × Nat} (win : Nat) (h : x.2 = 0) : (rateUp x win).2 = 1 := by
  unfold rateUp
  split <;> simp [h]

/-- The counter of the uncorrectable words of a sluice's cluster or die (R305). -/
def sluiceBadCtr (key : Nat) : Reg := if key < 1024 then Obj.sluiceUncorrectable (key / 8) else Obj.boundaryUncorrectable (sluiceDie key)

/-- The first bad word of a sluice in its windows of R551 is counted, and no fault is detected. -/
theorem Dev.sluiceBad_first (hms : (s.sluice key).badMs.2 = 0) (hs : (s.sluice key).badS.2 = 0) : ∃ a b : Sluice → Nat × Nat,
    s.sluiceBad key = (s.bump (sluiceBadCtr key)).updSluice key (fun x => { x with badMs := a x, badS := b x }) := by
  unfold Dev.sluiceBad
  extract_lets counted rated
  have hcounted : counted = s.bump (sluiceBadCtr key) := by
    unfold counted sluiceBadCtr
    split <;> rfl
  have hms' : (rated.sluice key).badMs.2 = 1 := by
    simp only [rated, hcounted, Dev.sluice_updSluice_same]
    exact rateUp_first _ hms
  have hs' : (rated.sluice key).badS.2 = 1 := by
    simp only [rated, hcounted, Dev.sluice_updSluice_same]
    exact rateUp_first _ hs
  rw [if_neg (by omega)]
  exact ⟨_, _, by simp only [rated, hcounted]; rfl⟩

end

/-! ### Reads, replays and releases (R296, R297) -/

section
variable (s : Dev) (key : Nat) {w : SluiceWord}

theorem Sluice.waiting_ne_zero {x : Sluice} (hw : x.words[x.taken]? = some w) : x.waiting ≠ 0 := by
  obtain ⟨hlt, -⟩ := List.getElem?_eq_some_iff.1 hw
  unfold Sluice.waiting
  omega

theorem Dev.sluiceRead_waiting (polling : Bool) (check : Check) (tagBad : Bool) (hw : (s.sluice key).words[(s.sluice key).taken]? = some w) :
    s.sluiceRead key polling check tagBad = s.sluiceTake key check tagBad := if_neg (Sluice.waiting_ne_zero hw)

theorem Dev.sluiceRead_empty (polling : Bool) (check : Check) (tagBad : Bool) (h : (s.sluice key).words.length ≤ (s.sluice key).taken) :
    s.sluiceRead key polling check tagBad =
      if polling then s.sluiceNothing key else s.updSluice key (fun x => { x with readWaits := some (check, tagBad) }) :=
  if_pos (Nat.sub_eq_zero_of_le h)

theorem Dev.sluiceServe_none (h : (s.sluice key).readWaits = none) : s.sluiceServe key = s := by
  simp only [Dev.sluiceServe, h]

/-- A read that waits takes the next word as soon as there is one. -/
theorem Dev.sluiceServe_sound (h : (s.sluice key).readWaits = some (.ok, false)) (hw : (s.sluice key).words[(s.sluice key).taken]? = some w) :
    s.sluiceServe key =
      ((s.updSluice key (fun x => { x with readWaits := none })).updSluice key (fun x => { x with taken := x.taken + 1 })).sluiceGive key w := by
  simp only [Dev.sluiceServe, h, if_neg (Sluice.waiting_ne_zero hw)]
  exact Dev.sluiceTake_sound _ _ (by simpa using hw)

/-- What a waiting read that is served leaves. -/
theorem Dev.sluiceServe_shows (h : (s.sluice key).readWaits = some (.ok, false)) (hw : (s.sluice key).words[(s.sluice key).taken]? = some w)
    (hout : s.out = []) : (s.sluiceServe key).out = [.sluiceData key w.data w.tag true w.poisoned] ∧
    ((s.sluiceServe key).sluice key).readWaits = none ∧ ((s.sluiceServe key).sluice key).taken = (s.sluice key).taken + 1 ∧
    ((s.sluiceServe key).sluice key).words.length = (s.sluice key).words.length ∧ (s.sluiceServe key).dict = s.dict := by
  rw [s.sluiceServe_sound key h hw]
  simp [hout]

/-! ### Writes (R293 to R295, R301) -/

theorem Dev.sluiceWrite_full (i : SluiceItem) (last : Bool) (hfull : (s.sluice key).full (sluiceDepth key) = true) (hd : (s.sluice key).discarding = false) :
    s.sluiceWrite key i last = s := by
  simp [Dev.sluiceWrite, hfull, hd]

section
variable (hfull : (s.sluice key).full (sluiceDepth key) = false) (hpart : (s.sluice key).part = none)
include hfull hpart

/-- A whole word closes no partly packed one where there is none. -/
theorem Dev.sluiceWrite_word (v : BitVec 64) (poisoned last : Bool) :
    s.sluiceWrite key (.word v poisoned) last = s.sluicePut key (SluiceWord.of v.toNat 0xFF last poisoned) := by
  have hclose : s.sluiceClose key = s := by simp only [Dev.sluiceClose, hpart]
  simp [Dev.sluiceWrite, hfull, hclose]

/-- An item of one byte opens a word at its byte 0. -/
theorem Dev.sluiceWrite_item1 (v : BitVec 8) : s.sluiceWrite key (.item1 v) false = s.updSluice key (fun x => { x with part := some (v.toNat, 1, 1) }) := by
  simp [Dev.sluiceWrite, Dev.sluicePack, hfull, hpart, ceilDiv]

end

section
variable (hd : (s.sluice key).discarding = false)
include hd

/-- The 65th word of a packet discards the packet. -/
theorem Dev.sluicePut_overlong (h64 : (s.sluice key).opened.length = 64) :
    s.sluicePut key w = (s.updSluice key (fun x => { x with opened := [], discarding := !w.last, reason := 3 })).sluiceDiscard key 65 := by
  simp [Dev.sluicePut, hd, h64]

variable (h64 : (s.sluice key).opened.length ≠ 64)
include h64

/-- A word without Last joins the open packet. -/
theorem Dev.sluicePut_open (hl : w.last = false) : s.sluicePut key w = s.updSluice key (fun x => { x with opened := x.opened ++ [w] }) := by
  simp [Dev.sluicePut, hd, h64, hl]

/-- Last commits its packet, and serves a reader that waits. -/
theorem Dev.sluicePut_last (hl : w.last = true) :
    s.sluicePut key w = (s.updSluice key (fun x => { x with words := x.words ++ x.opened ++ [w], opened := [] })).sluiceServe key := by
  simp [Dev.sluicePut, hd, h64, hl]

end

end

end Sys2Proof.Machine
end

section
/-! O35: what the commands on sluices leave (R293 to R301, R551). -/

namespace Sys2Proof.Machine

open Sys2Proof

/-! ### Bad words (R300, R551) -/

section
variable (s : Dev) (key : Nat) {w : SluiceWord} {check : Check} {tagBad : Bool} (hbad : (tagBad || check == .uncorrectable) = true)
  (hc : check ≠ .corrected) (hw : (s.sluice key).words[(s.sluice key).taken]? = some w) (hms : (s.sluice key).badMs.2 = 0)
  (hs : (s.sluice key).badS.2 = 0)
include hbad hc hw hms hs

/-- The first bad word in its windows goes to the reader as it is found, stays so in the sluice, and is counted. -/
theorem Dev.sluiceTake_bad_shows : ∃ p : Bool,
    .sluiceData key w.data (w.found true tagBad p).tag true true ∈ (s.sluiceTake key check tagBad).out ∧
    ((s.sluiceTake key check tagBad).sluice key).words[(s.sluice key).taken]? = some (w.found true tagBad p) ∧
    (s.sluiceTake key check tagBad).rd (sluiceBadCtr key) = (s.rd (sluiceBadCtr key) + 1) % 2 ^ 64 := by
  have htake := s.sluiceTake_uncorrected key tagBad hc hw
  simp only [hbad, if_true] at htake
  have hdrawn : (if tagBad then s.drawn else s).sluice key = s.sluice key ∧ (if tagBad then s.drawn else s).dict = s.dict := by
    split <;> exact ⟨rfl, rfl⟩
  generalize (if tagBad then s.drawn else s) = u at htake hdrawn
  obtain ⟨hsluice, hdict⟩ := hdrawn
  refine ⟨bitAt s.open_ 0, ?_⟩
  generalize bitAt s.open_ 0 = p at htake ⊢
  obtain ⟨a, b, hcount⟩ := Dev.sluiceBad_first ((u.updSluice key (·.took true tagBad p)).sluiceGive key (w.found true tagBad p)) key
    (by simpa [hsluice, Sluice.took] using hms) (by simpa [hsluice, Sluice.took] using hs)
  rw [htake, hcount]
  refine ⟨?_, ?_, ?_⟩
  · simp [SluiceWord.found]
  · simpa [hsluice] using Sluice.word_took hw true tagBad p
  · have hbits : (sluiceBadCtr key).bits = 64 := by
      unfold sluiceBadCtr
      split <;> rfl
    have hrd : u.rd (sluiceBadCtr key) = s.rd (sluiceBadCtr key) := congrArg (dictRd · _) hdict
    rw [Dev.rd_updSluice, Dev.rd_bump_same, hbits, ← hrd]
    rfl

end

/-! ### Rewinds and flushes (R298, R299) -/

section
variable (s : Dev) (key : Nat)

/-- A flush empties the sluice; a writer in mid-packet is discarded up to its next Last. -/
theorem Dev.sluice_sluiceFlush : (s.sluiceFlush key).sluice key =
    { s.sluice key with words := [], taken := 0, opened := [], part := none,
                        discarding := (s.sluice key).discarding || (s.sluice key).uncommitted != 0, reason := 2 } := by
  unfold Dev.sluiceFlush
  dsimp only
  split <;> simp

theorem Dev.sluice_sluiceFlush_other {j : Nat} (h : j ≠ key) : (s.sluiceFlush key).sluice j = s.sluice j := by
  unfold Dev.sluiceFlush
  dsimp only
  split <;> simp [Dev.sluice_updSluice_other _ _ _ h]

/-- The words that a flush takes are counted in their cluster, beside the flush itself. -/
theorem Dev.rd_sluiceFlush (hk : key < 1024) : (s.sluiceFlush key).rd (Obj.sluiceDiscardedWords (key / 8)) =
    (s.rd (Obj.sluiceDiscardedWords (key / 8)) + (s.sluice key).occupied) % 2 ^ 64 := by
  have hne : (Obj.sluiceDiscardedWords (key / 8)).key ≠ (Obj.sluiceFlushes (key / 8)).key := by
    simp only [Obj.sluiceDiscardedWords, Obj.sluiceFlushes, Reg.at_key]
    omega
  simp only [Dev.sluiceFlush, if_pos hk]
  rw [Dev.rd_bump_other _ hne, Dev.rd_sluiceDiscard _ _ _ hk]
  rfl

end

/-! ### O35 -/

/-- From an outcome to what its state has, the device given by an equation. -/
theorem nextHas_dev {o : Host.Outcome State Fault Refusal} {s : State} {u d : Dev} {p : State → Prop} (ho : o = .next { s with dev := u }) (hd : u = d)
    (hp : p { s with dev := d }) : nextHas o p := ⟨_, ho, hd ▸ hp⟩

section
variable {s : State} {k : SluiceRef} (hup : s.dev.up (sluiceDomain (sluiceKey k)))
include hup

theorem exec_sluiceWrite (i : SluiceItem) (last : Bool) :
    exec (.sluiceWrite k i last) s = .next { s with dev := s.dev.fresh.sluiceWrite (sluiceKey k) i last } :=
  State.runIn_up (fun d => d.sluiceWrite (sluiceKey k) i last) hup

theorem exec_sluiceRead (polling : Bool) (check : Check) (tagBad : Bool) :
    exec (.sluiceRead k polling check tagBad) s = .next { s with dev := s.dev.fresh.sluiceRead (sluiceKey k) polling check tagBad } :=
  State.runIn_up (fun d => d.sluiceRead (sluiceKey k) polling check tagBad) hup

theorem exec_sluiceRelease (n : Nat) : exec (.sluiceRelease k n) s = .next { s with dev := s.dev.fresh.sluiceRelease (sluiceKey k) n } :=
  State.runIn_up (fun d => d.sluiceRelease (sluiceKey k) n) hup

theorem exec_sluiceReplay : exec (.sluiceReplay k) s = .next { s with dev := s.dev.fresh.sluiceReplay (sluiceKey k) } :=
  State.runIn_up (fun d => d.sluiceReplay (sluiceKey k)) hup

theorem exec_sluiceRewind : exec (.sluiceRewind k) s = .next { s with dev := s.dev.fresh.sluiceRewind (sluiceKey k) } :=
  State.runIn_up (fun d => d.sluiceRewind (sluiceKey k)) hup

theorem exec_sluiceFlush : exec (.sluiceFlush k) s = .next { s with dev := s.dev.fresh.sluiceFlush (sluiceKey k) } :=
  State.runIn_up (fun d => d.sluiceFlush (sluiceKey k)) hup

end

/-- Settles O35: each command is one of the operations above on a sluice whose domain is on. -/
theorem sluicesCarry : Obligations.SluicesCarry := by
  unfold Obligations.SluicesCarry
  intro s k hup
  have hwrite := exec_sluiceWrite hup
  have hread := exec_sluiceRead hup
  have hrelease := exec_sluiceRelease hup
  have hreplay := exec_sluiceReplay hup
  have hrewind := exec_sluiceRewind hup
  have hflush := exec_sluiceFlush hup
  clear hup
  generalize sluiceKey k = key at *
  dsimp only
  have hkept : ∀ {u : Dev}, u.dict = s.dev.dict → s.dev.regsKept u [] := (s.dev.regsKept_fresh []).of_dict
  refine ⟨fun v poisoned hfull hd hpart h64 => ?writes, fun v last hfull hd hpart h64 => ?overlong, fun w last hfull hd => ?full,
    fun w _ hw => ?reads, fun hempty => ?empty, fun n hn => ?release, fun hnone => ?replay, fun w hwaits hw => ?replayServed, ?rewind, ?flush⟩
  case writes =>
    have hword : ∀ last, s.dev.fresh.sluiceWrite key (.word v poisoned) last = s.dev.fresh.sluicePut key (SluiceWord.of v.toNat 0xFF last poisoned) :=
      fun last => s.dev.fresh.sluiceWrite_word key hfull hpart v poisoned last
    have hlast := (hword true).trans (s.dev.fresh.sluicePut_last key hd h64 rfl)
    refine ⟨fun hnone => ?_, fun w ws hwaits htaken hwords => ?_, ?_, ?_⟩
    · rw [Dev.sluiceServe_none _ _ (by simpa using hnone)] at hlast
      exact nextHas_dev (hwrite _ _) hlast ⟨Dev.sluice_updSluice_same .., hkept rfl, rfl, rfl⟩
    · generalize hu : s.dev.fresh.updSluice key _ = u at hlast
      obtain ⟨hout, hreader, htook, hlen, hdict⟩ := u.sluiceServe_shows key (w := w) (by simpa [← hu] using hwaits)
        (by simp [← hu, htaken, hwords]) (by rw [← hu]; rfl)
      refine nextHas_dev (hwrite _ _) hlast ⟨hout, hreader, ?_, ?_, hkept (hdict.trans (by simp [← hu])), rfl, rfl⟩
      · simpa [← hu] using htook
      · simpa [← hu, Nat.add_assoc] using hlen
    · exact nextHas_dev (hwrite _ _) ((hword false).trans (s.dev.fresh.sluicePut_open key hd h64 rfl)) ⟨Dev.sluice_updSluice_same .., hkept rfl, rfl, rfl⟩
    · refine nextHas_dev (hwrite _ _) (s.dev.fresh.sluiceWrite_item1 key hfull hpart _) ⟨?_, hkept rfl, rfl, rfl⟩
      simp
  case overlong =>
    have hword : s.dev.fresh.sluiceWrite key (.word v false) last = _ :=
      (s.dev.fresh.sluiceWrite_word key hfull hpart v false last).trans (s.dev.fresh.sluicePut_overlong key hd h64)
    refine nextHas_dev (hwrite _ _) hword ⟨?_, fun hk => ?_, ?_, rfl, rfl⟩
    · rw [Dev.sluice_sluiceDiscard, Dev.sluice_updSluice_same]
      rfl
    · rw [Dev.rd_sluiceDiscard _ _ _ hk]
      rfl
    · exact ((s.dev.regsKept_fresh _).updSluice key _).sluiceDiscard _ (List.mem_singleton_self _)
  case full => exact nextHas_dev (hwrite _ _) (s.dev.fresh.sluiceWrite_full key w last hfull hd) ⟨rfl, rfl, rfl⟩
  case reads =>
    have htake : ∀ check tagBad, s.dev.fresh.sluiceRead key true check tagBad = s.dev.fresh.sluiceTake key check tagBad :=
      fun check tagBad => s.dev.fresh.sluiceRead_waiting key true check tagBad hw
    refine ⟨?_, fun hms hs => ?_, fun hms hs => ?_⟩
    · refine nextHas_dev (hread _ _ _) ((htake .ok false).trans (s.dev.fresh.sluiceTake_sound key hw)) ⟨rfl, ?_, ?_, hkept rfl, rfl, rfl⟩
      all_goals simp
    · obtain ⟨p, hout, -, -⟩ := s.dev.fresh.sluiceTake_bad_shows key (check := .ok) (tagBad := true) rfl (by decide) hw hms hs
      refine nextHas_dev (hread _ _ _) (htake .ok true) ⟨⟨p, ?_⟩, rfl, rfl⟩
      simpa [SluiceWord.found, SluiceWord.tag, b2n] using hout
    · obtain ⟨p, hout, hstays, hcount⟩ := s.dev.fresh.sluiceTake_bad_shows key (check := .uncorrectable) (tagBad := false) rfl (by decide) hw hms hs
      have hfound : w.found true false p = { w with poisoned := true } := by simp [SluiceWord.found]
      rw [hfound] at hout hstays
      refine nextHas_dev (hread _ _ _) (htake .uncorrectable false) ⟨hout, hstays, fun hk => ?_, rfl, rfl⟩
      simpa [sluiceBadCtr, hk] using hcount
  case empty =>
    exact ⟨nextHas_dev (hread _ _ _) (s.dev.fresh.sluiceRead_empty key true .ok false hempty) ⟨rfl, rfl, rfl⟩,
      nextHas_dev (hread _ _ _) (s.dev.fresh.sluiceRead_empty key false .ok false hempty) ⟨Dev.sluice_updSluice_same .., rfl, hkept rfl, rfl, rfl⟩⟩
  case release =>
    refine nextHas_dev (hrelease _) rfl ⟨?_, hkept rfl, rfl, rfl⟩
    rw [Dev.sluiceRelease, Dev.sluice_updSluice_same, Dev.sluice_fresh, Nat.min_eq_left hn]
  case replay =>
    exact nextHas_dev hreplay (Dev.sluiceServe_none _ _ (by simpa using hnone)) ⟨Dev.sluice_updSluice_same .., hkept rfl, rfl, rfl⟩
  case replayServed =>
    obtain ⟨hout, hreader, htook, -, hdict⟩ := (s.dev.fresh.updSluice key (fun x => { x with taken := 0 })).sluiceServe_shows key (w := w)
      (by simpa using hwaits) (by simpa using hw) rfl
    exact nextHas_dev hreplay rfl ⟨hout, hreader, htook.trans (by simp), hkept hdict, rfl, rfl⟩
  case rewind =>
    refine nextHas_dev hrewind rfl ⟨?_, fun hk => ?_, ?_, rfl, rfl⟩
    · exact (Dev.sluice_sluiceDiscard ..).trans (Dev.sluice_updSluice_same ..)
    · exact Dev.rd_sluiceDiscard _ _ _ hk
    · exact ((s.dev.regsKept_fresh _).updSluice key _).sluiceDiscard _ (List.mem_singleton_self _)
  case flush =>
    refine nextHas_dev hflush rfl ⟨?_, ?_, ?_, ?_, ?_, ?_, fun j hj => s.dev.fresh.sluice_sluiceFlush_other key hj,
      s.dev.fresh.rd_sluiceFlush key, rfl, rfl⟩
    all_goals rw [Dev.sluice_sluiceFlush]
    rfl

end Sys2Proof.Machine
end


section
/-! The registers of the scratchpads and the march passes beside recovery from faults (R551 to R568): no detection, no isolation and no safe state
changes them. -/

namespace Sys2Proof.Machine

open Sys2Proof

/-! ### The view -/

/-- A register of the scratchpads, their march passes or their sluices' errors (R303 to R305): 0x6030 to 0x6039. -/
def Reg.ofPads (r : Reg) : Bool := decide (0x6030 ≤ r.key / 256) && decide (r.key / 256 ≤ 0x6039)

/-- The march passes, and what the scratchpads' registers read. -/
def Dev.padView (s : Dev) : Tab (Option March) × (Reg → Nat) := (s.marches, fun r => if r.ofPads then s.rd r else 0)

/-- Where the view stands, so do a scratchpad's registers. -/
theorem Dev.rd_of_padView {s t : Dev} (h : t.padView = s.padView) {r : Reg} (hr : r.ofPads = true) : t.rd r = s.rd r := by
  simpa [Dev.padView, hr] using congrFun (congrArg Prod.snd h) r

/-- Where the view stands, so do the passes. -/
theorem Dev.march_of_padView {s t : Dev} (h : t.padView = s.padView) (c : Nat) : t.march c = s.march c :=
  congrArg (fun v : Tab (Option March) × (Reg → Nat) => Tab.get none v.1 c) h

/-- A change beside the registers and the passes. -/
theorem Dev.padView_beside {s t : Dev} (hd : t.dict = s.dict) (hm : t.marches = s.marches) : t.padView = s.padView := by
  simp only [Dev.padView, Dev.rd_dict, hd, hm]

@[simp] theorem Reg.ofPads_above {i : Nat} (k b : Nat) (h : 0x603A ≤ i) : (Reg.at i k b).ofPads = false := by
  refine Bool.eq_false_iff.2 fun hin => ?_
  simp only [Reg.ofPads, Bool.and_eq_true, decide_eq_true_eq] at hin
  rw [Reg.at_key] at hin
  omega

theorem Reg.ofPads_below {i k : Nat} (b : Nat) (h : i < 0x6030) (hk : k < 256) : (Reg.at i k b).ofPads = false := by
  refine Bool.eq_false_iff.2 fun hin => ?_
  simp only [Reg.ofPads, Bool.and_eq_true, decide_eq_true_eq] at hin
  rw [Reg.at_key] at hin
  omega

section
variable (s : Dev)

/-- A write of another register. -/
@[simp] theorem Dev.padView_wr {r : Reg} (v : Nat) (h : r.ofPads = false) : (s.wr r v).padView = s.padView := by
  refine Prod.ext rfl (funext fun r' => ?_)
  dsimp only [Dev.padView]
  split
  · next hr =>
    refine s.rd_wr_other v fun hkey => ?_
    rw [Reg.ofPads, hkey, ← Reg.ofPads, h] at hr
    cases hr
  · rfl

@[simp] theorem Dev.padView_setF {r : Reg} (lo w v : Nat) (h : r.ofPads = false) : (s.setF r lo w v).padView = s.padView := s.padView_wr _ h

@[simp] theorem Dev.padView_setBit {r : Reg} (i : Nat) (b : Bool) (h : r.ofPads = false) : (s.setBit r i b).padView = s.padView := s.padView_wr _ h

@[simp] theorem Dev.padView_bumpBy {r : Reg} (n : Nat) (h : r.ofPads = false) : (s.bumpBy r n).padView = s.padView := s.padView_wr _ h

@[simp] theorem Dev.padView_bump {r : Reg} (h : r.ofPads = false) : (s.bump r).padView = s.padView := s.padView_wr _ h

/-! ### The registers that recovery writes -/

@[simp] theorem Obj.clusterHealth_ofPads (c : Nat) : (Obj.clusterHealth c).ofPads = false := Reg.ofPads_above _ _ (by omega)

@[simp] theorem Obj.regionHealth_ofPads (r : Nat) : (Obj.regionHealth r).ofPads = false := Reg.ofPads_above _ _ (by omega)

@[simp] theorem Obj.dieHealth_ofPads (d : Nat) : (Obj.dieHealth d).ofPads = false := Reg.ofPads_above _ _ (by omega)

@[simp] theorem Obj.faultEngineState_ofPads (d : Nat) : (Obj.faultEngineState d).ofPads = false := Reg.ofPads_above _ _ (by omega)

@[simp] theorem faultCtr_ofPads (q k : Nat) : (faultCtr q k).ofPads = false := Reg.ofPads_above _ _ (by omega)

@[simp] theorem Obj.ferryState_ofPads (f : Nat) : (Obj.ferryState f).ofPads = false := Reg.ofPads_above _ _ (by omega)

@[simp] theorem Obj.popState_ofPads (h : Nat) : (Obj.popState h).ofPads = false := Reg.ofPads_above _ _ (by omega)

@[simp] theorem Obj.popCounter_ofPads (h k : Nat) : (Obj.popCounter h k).ofPads = false := Reg.ofPads_above _ _ (by omega)

@[simp] theorem Obj.layerState_ofPads (l : Nat) : (Obj.layerState l).ofPads = false := Reg.ofPads_above _ _ (by omega)

@[simp] theorem layerCtr_ofPads (l k : Nat) : (layerCtr l k).ofPads = false := Reg.ofPads_above _ _ (by omega)

@[simp] theorem Obj.sluiceDiscardedWords_ofPads (c : Nat) : (Obj.sluiceDiscardedWords c).ofPads = false := Reg.ofPads_above _ _ (by omega)

@[simp] theorem Obj.sluiceFlushes_ofPads (c : Nat) : (Obj.sluiceFlushes c).ofPads = false := Reg.ofPads_above _ _ (by omega)

theorem Obj.planState_ofPads {p : Nat} (h : p < 16) : (Obj.planState p).ofPads = false := Reg.ofPads_below _ (by omega) (by omega)

theorem Obj.streamState_ofPads {n : Nat} (h : n < 36) : (Obj.streamState n).ofPads = false := Reg.ofPads_below _ (by omega) (by omega)

theorem Obj.streamCounter_ofPads {n k : Nat} (h : n < 36) (hk : k < 255) : (Obj.streamCounter n k).ofPads = false := Reg.ofPads_below _ (by omega) (by omega)

theorem Obj.hotListCount_ofPads {n : Nat} (h : n < 36) : (Obj.hotListCount n).ofPads = false := Reg.ofPads_below _ (by omega) (by omega)

theorem Obj.mereBase_ofPads {n : Nat} (h : n < 36) : (Obj.mereBase n).ofPads = false := Reg.ofPads_below _ (by omega) (by omega)

theorem Obj.mereBlocks_ofPads {n : Nat} (h : n < 36) : (Obj.mereBlocks n).ofPads = false := Reg.ofPads_below _ (by omega) (by omega)

theorem Obj.mereBlocksFree_ofPads {d : Nat} (h : d < 4) : (Obj.mereBlocksFree d).ofPads = false := Reg.ofPads_below _ (by omega) (by omega)

theorem Obj.mereLargestFree_ofPads {d : Nat} (h : d < 4) : (Obj.mereLargestFree d).ofPads = false := Reg.ofPads_below _ (by omega) (by omega)

/-! ### Changes beside the registers -/

@[simp] theorem Dev.padView_updQueue (q : Nat) (f : FaultQueue → FaultQueue) : (s.updQueue q f).padView = s.padView := rfl

@[simp] theorem Dev.padView_updSluice (k : Nat) (f : Sluice → Sluice) : (s.updSluice k f).padView = s.padView := rfl

@[simp] theorem Dev.padView_updWeir (w : Nat) (f : Weir → Weir) : (s.updWeir w f).padView = s.padView := rfl

@[simp] theorem Dev.padView_updPlan (p : Nat) (f : PlanSlot → PlanSlot) : (s.updPlan p f).padView = s.padView := rfl

@[simp] theorem Dev.padView_updLayer (l : Nat) (f : Layer → Layer) : (s.updLayer l f).padView = s.padView := rfl

@[simp] theorem Dev.padView_sedError (c : Nat) : (s.sedError c).padView = s.padView := rfl

@[simp] theorem Dev.padView_drawn : s.drawn.padView = s.padView := rfl

@[simp] theorem Dev.padView_emit (o : Out) : (s.emit o).padView = s.padView := rfl

@[simp] theorem Dev.padView_updFerry (f : Nat) (g : Ferry → Ferry) : (s.updFerry f g).padView = s.padView :=
  Dev.padView_setF _ _ _ _ (Obj.ferryState_ofPads f)

@[simp] theorem Dev.padView_dropWaits (p : PendingWait → Bool) : (s.dropWaits p).padView = s.padView :=
  foldl_keeps Dev.padView (fun (u : Dev) d => u.admitDie d) (fun _ _ => rfl) (List.range 4) _

@[simp] theorem Dev.padView_calibrate (ds : List Nat) : (s.calibrate ds).padView = s.padView := by
  refine foldl_keeps Dev.padView _ (fun _ _ => ?_) ds s
  rfl

theorem Dev.padView_emitRecord (n type : Nat) (payload : List Byte) (poisoned : Bool) : (s.emitRecord n type payload poisoned).padView = s.padView := by
  unfold Dev.emitRecord
  split <;> rfl

@[simp] theorem Dev.padView_sendFault (q : Nat) (e : FaultEntry) : (s.sendFault q e).padView = s.padView := by
  refine Dev.each_keeps Dev.padView 8 _ (fun t u => ?_) s
  split
  · exact u.padView_emitRecord ..
  · rfl

@[simp] theorem Dev.padView_sendTerminal (d cause : Nat) : (s.sendTerminal d cause).padView = s.padView := by
  refine Dev.each_keeps Dev.padView 8 _ (fun t u => ?_) s
  split
  · exact u.padView_emitRecord ..
  · rfl

/-! ### Sluices -/

@[simp] theorem Dev.padView_sluiceDiscard (key n : Nat) : (s.sluiceDiscard key n).padView = s.padView := by
  unfold Dev.sluiceDiscard
  split <;> simp

@[simp] theorem Dev.padView_sluiceFlush (key : Nat) : (s.sluiceFlush key).padView = s.padView := by
  unfold Dev.sluiceFlush
  dsimp only
  split <;> simp

@[simp] theorem Dev.padView_flushCluster (c : Nat) : (s.flushCluster c).padView = s.padView :=
  Dev.each_keeps Dev.padView 8 _ (fun _ u => u.padView_sluiceFlush _) s

@[simp] theorem Dev.padView_sluiceRewind (key : Nat) : (s.sluiceRewind key).padView = s.padView := by simp [Dev.sluiceRewind]

@[simp] theorem Dev.padView_rewindUnit (c : Nat) : (s.rewindUnit c).padView = s.padView := by
  refine Dev.each_keeps Dev.padView 4 _ (fun k u => ?_) s
  dsimp only
  split
  · rfl
  · rw [Dev.padView_drawn]
    split
    · exact u.padView_sluiceRewind _
    · rfl

/-! ### Isolation (R556, R562, R563) -/

@[simp] theorem Dev.padView_dropTiles (p : Tile → Bool) : (s.dropTiles p).padView = s.padView :=
  foldl_keeps Dev.padView _ (fun u _ => u.padView_rewindUnit _) _ _

@[simp] theorem Dev.padView_slotFail (c k : Nat) : (s.slotFail c k).padView = s.padView := by
  unfold Dev.slotFail
  dsimp only
  split <;> simp

@[simp] theorem Dev.padView_fence (c st : Nat) : (s.fence c st).padView = s.padView := by
  unfold Dev.fence
  dsimp only
  split <;> simp

@[simp] theorem Dev.padView_startQueue (f : Nat) (c : ChainStart) : (s.startQueue f c).padView = s.padView := by
  unfold Dev.startQueue
  split
  · simp
  · rfl

@[simp] theorem Dev.padView_ferryFail (f : Nat) : (s.ferryFail f).padView = s.padView := by
  unfold Dev.ferryFail
  dsimp only
  split
  · simp
  · rw [foldl_keeps Dev.padView _ (fun u _ => u.padView_startQueue _ _)]
    simp

@[simp] theorem Dev.padView_isolate (e : Elem) : (s.isolate e).padView = s.padView := by
  cases e with
  | region r =>
    refine (Dev.each_keeps Dev.padView 8 _ (fun _ u => u.padView_fence _ _) _).trans ?_
    simp
  | _ => simp [Dev.isolate]

/-! ### A plan stopped (R368) -/

@[simp] theorem Dev.padView_popStop (h : Nat) : (s.popStop h).padView = s.padView := by
  unfold Dev.popStop
  split
  · split
    · rfl
    · simp only [Dev.padView_setF, Obj.popState_ofPads, Dev.padView_bump, Obj.popCounter_ofPads]
      refine foldl_keeps Dev.padView _ (fun _ _ => ?_) _ s
      rfl
  · rfl

@[simp] theorem Dev.padView_layerStop (l : Nat) : (s.layerStop l).padView = s.padView := by
  unfold Dev.layerStop
  split
  · simp [Dev.haloSettle]
  · rfl

@[simp] theorem Dev.padView_ferryStop (x : PlanSlot) (f : Nat) : (s.ferryStop x f).padView = s.padView := by
  unfold Dev.ferryStop
  extract_lets ends cut ended
  have hcut : cut.padView = s.padView := s.padView_updFerry f _
  split
  · simp [ended, hcut]
  · exact hcut

theorem Dev.padView_planStop {p : Nat} (hp : p < 16) (faulting : Bool) : (s.planStop p faulting).padView = s.padView := by
  unfold Dev.planStop
  extract_lets x shown marked popsStopped layersStopped released unstarted ferriesStopped
  calc _ = ferriesStopped.padView := foldl_keeps Dev.padView _ (fun u _ => u.padView_updWeir _ _) _ _
    _ = unstarted.padView := Dev.each_keeps Dev.padView 40 _ (fun _ u => u.padView_ferryStop x _) _
    _ = released.padView := rfl
    _ = layersStopped.padView := foldl_keeps Dev.padView _ (fun u _ => u.padView_updWeir _ _) _ _
    _ = popsStopped.padView := foldl_keeps Dev.padView _ (fun u _ => u.padView_layerStop _) _ _
    _ = marked.padView := foldl_keeps Dev.padView _ (fun u _ => u.padView_popStop _) _ _
    _ = shown.padView := Dev.padView_updPlan ..
    _ = s.padView := s.padView_wr _ (Obj.planState_ofPads hp)

theorem Dev.padView_planFault {p : Nat} (hp : p < 16) : (s.planFault p).padView = s.padView := by
  unfold Dev.planFault
  split
  · exact s.padView_planStop hp true
  · split
    · exact s.padView_updPlan p _
    · rfl

/-! ### A die stopped (R558) -/

/-- A stream homed on a compute die gives its blocks back there (R160). -/
theorem Dev.padView_streamRelease {n : Nat} (hn : n < 36) (hd : s.rd (Obj.homeDie n) < 4) : (s.streamRelease n).padView = s.padView := by
  have hfreed : (s.mereReleased n).padView = s.padView := by
    unfold Dev.mereReleased Dev.mereFree Dev.mereCount
    split
    · rfl
    · simp [Obj.mereBase_ofPads hn, Obj.mereBlocks_ofPads hn, Obj.mereBlocksFree_ofPads hd, Obj.mereLargestFree_ofPads hd]
  rw [Dev.streamRelease_eq, Dev.padView_setBit _ _ _ (Obj.streamState_ofPads hn)]
  exact hfreed

theorem Dev.padView_leaveDraining {n : Nat} (hn : n < 36) (hd : s.rd (Obj.homeDie n) < 4) : (s.leaveDraining n).padView = s.padView := by
  unfold Dev.leaveDraining
  split
  · rw [Dev.padView_streamRelease _ hn, Dev.padView_bumpBy _ _ (Obj.streamCounter_ofPads hn (by omega))]
    rwa [Dev.rd_bumpBy_other _ _ (by simp only [Obj.homeDie, Obj.streamCounter, Reg.at_key]; omega)]
  · rfl

theorem Dev.padView_streamFault {n : Nat} (hn : n < 36) (hd : s.rd (Obj.homeDie n) < 4) (err : Nat) : (s.streamFault n err).padView = s.padView := by
  unfold Dev.streamFault
  simp only [Dev.padView_setF, Dev.padView_wr, Obj.streamState_ofPads hn, Obj.hotListCount_ofPads hn]
  exact s.padView_leaveDraining hn hd

theorem Dev.padView_dieStop {d : Nat} (hd : d < 4) : (s.dieStop d).padView = s.padView := by
  unfold Dev.dieStop
  extract_lets dropped flushed drained
  have hflushed : flushed.padView = s.padView :=
    (Dev.each_keeps Dev.padView 32 _ (fun _ u => u.padView_flushCluster _) _).trans (s.padView_dropTiles _)
  have hdrained : drained.padView = s.padView := Dev.each_holds (fun u => u.padView = s.padView) hflushed fun n hn u hu => by
    split
    · next hhome => exact (u.padView_streamFault hn (by omega) 8).trans hu
    · exact hu
  exact Dev.each_holds (fun u => u.padView = s.padView) hdrained fun p hp u hu => by
    split
    · exact (u.padView_planFault hp).trans hu
    · exact hu

/-! ### The safe state (R557, R558) -/

@[simp] theorem Dev.padView_relayReplay (d : Nat) : (s.relayReplay d).padView = s.padView := by
  refine Dev.each_keeps Dev.padView 64 _ (fun _ _ => ?_) s
  rfl

/-- The recalibration of a path of F that begins. -/
theorem Dev.padView_recalibrated (f : Nat) (ds : List Nat) : (({ s with pathRecalF := f } : Dev).calibrate ds).padView = s.padView :=
  Dev.padView_calibrate ..

@[simp] theorem Dev.padView_relayMoved (before : Option Nat) : (s.relayMoved before).padView = s.padView := by
  unfold Dev.relayMoved
  split
  · rfl
  · cases before with
    | none => exact s.padView_recalibrated _ _
    | some d => exact ((s.relayReplay d).padView_recalibrated _ _).trans (s.padView_relayReplay d)

@[simp] theorem Dev.padView_finishFault (q : Nat) (f : FaultEntry → FaultEntry) : (s.finishFault q f).padView = s.padView := by
  unfold Dev.finishFault
  split <;> simp

@[simp] theorem Dev.padView_dropHead (q : Nat) : (s.dropHead q).padView = s.padView := by
  unfold Dev.dropHead
  split
  · split <;> simp
  · rfl

@[simp] theorem Dev.padView_safeState (d cause health : Nat) : (s.safeState d cause health).padView = s.padView := by
  unfold Dev.safeState
  split
  · rfl
  split
  · rw [Dev.padView_relayMoved]
    split <;> simp
  extract_lets before dropped counted shown stopped told alerted sent
  have hshown : shown.padView = s.padView := by simp [shown, counted, dropped]
  have hstopped : stopped.padView = shown.padView := by
    unfold stopped
    split
    · next hd => exact shown.padView_dieStop hd
    · rfl
  have htold : told.padView = stopped.padView := stopped.padView_sendTerminal d cause
  have halerted : alerted.padView = told.padView := by
    clear_value told
    rfl
  have hsent : sent.padView = alerted.padView := by
    unfold sent
    split
    · rfl
    · refine Dev.each_keeps Dev.padView 4 _ (fun h u => ?_) alerted
      split <;> simp
  rw [Dev.padView_relayMoved, hsent, halerted, htold, hstopped, hshown]

/-! ### Detections (R551 to R556) -/

@[simp] theorem Dev.padView_pushFault (q cls : Nat) (e : Elem) (detail owner : Nat) : (s.pushFault q cls e detail owner).padView = s.padView :=
  s.padView_updQueue q _

@[simp] theorem Dev.padView_mergeFault (q : Nat) (p : FaultEntry → Bool) : (s.mergeFault q p).padView = s.padView := by
  unfold Dev.mergeFault
  split <;> simp

@[simp] theorem Dev.padView_mergeDone (q : Nat) (e : Elem) : (s.mergeDone q e).padView = s.padView := by simp [Dev.mergeDone]

@[simp] theorem Dev.padView_escalate (q : Nat) (p : Elem) : (s.escalate q p).padView = s.padView := by
  unfold Dev.escalate
  extract_lets counted old spared named
  have hnamed : named.padView = s.padView := by
    have hspared : spared.padView = counted.padView := by
      unfold spared
      clear_value old
      split
      · split <;> simp
      · rfl
    simp [named, hspared, counted]
  split <;> simp [hnamed]

/-- A detection that its full queue cannot take puts a compute die into the safe state (R554). -/
@[simp] theorem Dev.padView_overflow (q : Nat) : (if q < 4 then s.safeState q 2 1 else s).padView = s.padView := by
  split <;> simp

@[simp] theorem Dev.padView_detectMain (q cls : Nat) (e : Elem) (detail : Nat) : (s.detectMain q cls e detail).padView = s.padView := by
  have hqueued : (if s.alreadyOut e then s.mergeDone q e
      else if 64 ≤ (s.queueOf q).entries.length then (if q < 4 then s.safeState q 2 1 else s)
      else s.pushFault q cls e detail 0xFF).padView = s.padView := by
    split
    · simp
    · split <;> simp
  unfold Dev.detectMain
  dsimp only
  split
  · simp
  split
  · simp
  split
  · split
    · split <;> simp
    · split
      · simp
      · exact hqueued
  · exact hqueued

@[simp] theorem Dev.padView_detectReport (q cls : Nat) (e : Elem) (detail owner : Nat) : (s.detectReport q cls e detail owner).padView = s.padView := by
  unfold Dev.detectReport
  dsimp only
  split
  · simp
  · split <;> simp

@[simp] theorem Dev.padView_dieLost (d detail : Nat) : (s.dieLost d detail).padView = s.padView := by
  unfold Dev.dieLost
  split
  · rfl
  · rw [Dev.each_keeps Dev.padView 6 _ (fun q u => ?_)]
    · simp
    · split
      · rfl
      · split <;> simp

@[simp] theorem Dev.padView_detectFor (q cls : Nat) (e : Elem) (detail owner : Nat) : (s.detectFor q cls e detail owner).padView = s.padView := by
  unfold Dev.detectFor
  extract_lets counted ms
  have hcounted : counted.padView = s.padView := by simp [counted]
  rw [← hcounted]
  split
  · split
    · simp
    · rw [Dev.padView_detectReport]
      rfl
  split
  · simp
  split
  · simp
  split <;> simp

/-- Nothing that follows a detection reaches the march passes or the scratchpads' registers. -/
@[simp] theorem Dev.padView_detect (cls : Nat) (e : Elem) (detail : Nat) : (s.detect cls e detail).padView = s.padView := s.padView_detectFor ..

end

end Sys2Proof.Machine
end

section
/-! Words of a scratchpad (R274, R275, R278 to R283): what a write of an extent reads back as, and what a read gives and leaves. -/

namespace Sys2Proof.Machine

open Sys2Proof

/-! ### An extent written -/

theorem padKey_add_ne (c a : Nat) {i j : Nat} (hi : i < 2 ^ 20) (hj : j < 2 ^ 20) (h : i ≠ j) : padKey c (a + i) ≠ padKey c (a + j) := by
  simp only [padKey]
  omega

/-- The bytes `bs`, numbered from `n` on, written from address `a` on. -/
def padWritten (c a n : Nat) (bs : List Byte) (p : List Host.Cell) : List Host.Cell :=
  (bs.zipIdx n).foldl (fun p b => Memory.put p (padKey c (a + b.2)) b.1) p

theorem padWritten_cons (c a n : Nat) (b : Byte) (bs : List Byte) (p : List Host.Cell) :
    padWritten c a n (b :: bs) p = padWritten c a (n + 1) bs (Memory.put p (padKey c (a + n)) b) := rfl

theorem byte_padWritten_other (c a k : Nat) : ∀ {n : Nat} {bs : List Byte} (p : List Host.Cell), (∀ j, n ≤ j → j < n + bs.length → k ≠ padKey c (a + j)) →
    Memory.byte (padWritten c a n bs p) k = Memory.byte p k := by
  intro n bs
  induction bs generalizing n with
  | nil => exact fun _ _ => rfl
  | cons b bs ih =>
    intro p h
    rw [List.length_cons] at h
    rw [padWritten_cons, ih _ (fun j hn hj => h j (by omega) (by omega)), Memory.byte_put_other _ _ (h n (by omega) (by omega))]

theorem byte_padWritten (c a : Nat) : ∀ {n : Nat} {bs : List Byte} (p : List Host.Cell), n + bs.length ≤ 2 ^ 20 → ∀ (i : Nat) (h : i < bs.length),
    Memory.byte (padWritten c a n bs p) (padKey c (a + (n + i))) = bs[i] := by
  intro n bs
  induction bs generalizing n with
  | nil => exact fun _ _ i h => absurd h (by simp)
  | cons b bs ih =>
    intro p hlen i hi
    rw [List.length_cons] at hlen hi
    rw [padWritten_cons]
    cases i with
    | zero =>
      rw [byte_padWritten_other _ _ _ _ (fun j hn hj => padKey_add_ne c a (by omega) (by omega) (by omega))]
      exact Memory.byte_put_same ..
    | succ i =>
      have hnext := ih (n := n + 1) (Memory.put p (padKey c (a + n)) b) (by omega) i (by omega)
      rwa [Nat.add_assoc n 1 i, Nat.add_comm 1 i] at hnext

/-- An extent no longer than a scratchpad reads back as it was written. -/
theorem Mem.padRead_padPut (m : Mem) (c a : Nat) {bs : List Byte} (h : bs.length ≤ 2 ^ 20) : (m.padPut c a bs).padRead c a bs.length = bs := by
  refine List.ext_getElem (by simp [Mem.padRead, upFrom]) fun i hi hi' => ?_
  have hbyte := byte_padWritten c a (n := 0) (bs := bs) m.pad (by omega) i hi'
  simpa [Mem.padRead, upFrom, Mem.padPut, padWritten] using hbyte

/-- A word written through a mask reads back as the masked word (R275). -/
theorem Mem.padRead_padMasked (m : Mem) (c a data mask : Nat) : (m.padMasked c a data mask).padRead c a 8 = maskedWord (m.padRead c a 8) data mask := by
  have hlen : (maskedWord (m.padRead c a 8) data mask).length = 8 := by simp [maskedWord]
  have hput := m.padRead_padPut c a (bs := maskedWord (m.padRead c a 8) data mask) (by omega)
  rw [hlen] at hput
  unfold Mem.padMasked
  dsimp only
  split <;> exact hput

theorem Mem.gddr_padMasked (m : Mem) (c a data mask : Nat) : (m.padMasked c a data mask).gddr = m.gddr := by
  unfold Mem.padMasked
  dsimp only
  split <;> rfl

/-! ### A read (R274, R278 to R283) -/

section
variable {s : State} {c m a : Nat} (k0 k1 : Check) (x y : Option PortWrite) (waited : Nat)

/-- During a pass over the scratchpad a read is held (R276). -/
theorem State.padAccess_held (hfree : s.dev.padFree c = false) : s.padAccess c m a k0 k1 x y waited = s := by
  simp [State.padAccess, hfree]

variable (hfree : s.dev.padFree c = true)
include hfree

/-- A read that no window grants is refused (R281, R283). -/
theorem State.padAccess_refused {n : Nat} (hn : n = if m = stewardMaster then 8 else 16) (hw : s.dev.padAllowed c m (a / n * n) n false = false) :
    s.padAccess c m a k0 k1 x y waited = { s with dev := (s.dev.padViolation c m (a / n * n)).emit (.padData c m 0 false false true) } := by
  unfold State.padAccess
  rw [← hn]
  simp [hfree, hw]

/-- The steward core reads one word. -/
theorem State.padAccess_steward (hw : s.dev.padAllowed c 18 (a / 8 * 8) 8 false = true) :
    s.padAccess c 18 a k0 k1 x y waited =
      (let r := s.padHalf c (a / 8 * 8) k0 x
       { r.s with dev := r.s.dev.emit (.padData c 18 r.data r.poisoned r.busy false) }) := by
  simp [State.padAccess, stewardMaster, hfree, hw]

/-- Any other master reads two words; a ferry port's waits are counted (R278). -/
theorem State.padAccess_row (hm : m ≠ 18) (hw : s.dev.padAllowed c m (a / 16 * 16) 16 false = true) :
    s.padAccess c m a k0 k1 x y waited =
      (let s := { s with dev := if m = 16 ∨ m = 17 then s.dev.bumpBy (Obj.portBWaits c) waited else s.dev }
       let r0 := s.padHalf c (a / 16 * 16) k0 x
       let r1 := r0.s.padHalf c (a / 16 * 16 + 8) k1 y
       { r1.s with dev := r1.s.dev.emit (.padData c m (r0.data + r1.data * 2 ^ 64) (r0.poisoned || r1.poisoned) (r0.busy || r1.busy) false) }) := by
  have hsame : (if m = 16 ∨ m = 17 then { s with dev := s.dev.bumpBy (Obj.portBWaits c) waited } else s) =
      { s with dev := if m = 16 ∨ m = 17 then s.dev.bumpBy (Obj.portBWaits c) waited else s.dev } := by
    split <;> rfl
  simp [State.padAccess, stewardMaster, hfree, hw, hm, hsame]

end

/-! ### A word read -/

/-- A sound word without Poison is given as it stands. -/
theorem State.padHalf_sound {s : State} {c a : Nat} (h : Tab.get false s.mem.padBad (padWordKey c a) = false) :
    s.padHalf c a .ok none = { s := s, data := ofLe (s.mem.padRead c a 8) } := by
  simp only [State.padHalf, State.padWord, h]
  rfl

/-- A word that cannot be corrected is given with Poison, which stays on it (R274). -/
theorem State.padHalf_uncorrectable (s : State) (c a : Nat) :
    s.padHalf c a .uncorrectable none =
      { s := { s with dev := s.dev.padUncorrectable c a, mem := { s.mem with padBad := Tab.put false s.mem.padBad (padWordKey c a) true } },
        data := ofLe (s.mem.padRead c a 8), poisoned := true } := by
  have hbad : (Tab.get false s.mem.padBad (padWordKey c a) || Check.uncorrectable == Check.uncorrectable) = true := by
    rw [Bool.or_eq_true]
    exact .inr rfl
  simp only [State.padHalf, State.padWord, hbad, if_true]

/-- A granted read of sound words gives them, and leaves the memories as they are. -/
theorem State.padAccess_sound {s : State} {c m a n : Nat} (waited : Nat) (hfree : s.dev.padFree c = true) (hn : n = if m = stewardMaster then 8 else 16)
    (hw : s.dev.padAllowed c m (a / n * n) n false = true) (h0 : Tab.get false s.mem.padBad (padWordKey c (a / n * n)) = false)
    (h1 : Tab.get false s.mem.padBad (padWordKey c (a / n * n + 8)) = false) : ∃ d : Dev, (d = s.dev ∨ d = s.dev.bumpBy (Obj.portBWaits c) waited) ∧
    s.padAccess c m a .ok .ok none none waited = { s with dev := d.emit (.padData c m
      (ofLe (s.mem.padRead c (a / n * n) 8) + (if n = 16 then ofLe (s.mem.padRead c (a / n * n + 8) 8) else 0) * 2 ^ 64) false false false) } := by
  by_cases hm : m = 18
  · subst hm
    have hn8 : n = 8 := hn.trans (if_pos rfl)
    subst hn8
    refine ⟨s.dev, .inl rfl, ?_⟩
    rw [State.padAccess_steward _ _ _ _ _ hfree hw, State.padHalf_sound h0, if_neg (by decide : ¬ 8 = 16), Nat.zero_mul, Nat.add_zero]
  · have hn16 : n = 16 := hn.trans (if_neg hm)
    subst hn16
    refine ⟨if m = 16 ∨ m = 17 then s.dev.bumpBy (Obj.portBWaits c) waited else s.dev, ?_, ?_⟩
    · split
      · exact .inr rfl
      · exact .inl rfl
    · rw [State.padAccess_row _ _ _ _ _ hfree hm hw, if_pos rfl]
      generalize (if m = 16 ∨ m = 17 then s.dev.bumpBy (Obj.portBWaits c) waited else s.dev) = d
      dsimp only
      rw [State.padHalf_sound (s := { s with dev := d }) h0, State.padHalf_sound (s := { s with dev := d }) h1, Bool.or_self]

/-! ### Errors counted (R274, R283) -/

section
variable (s : Dev) {c : Nat} (hc : c < 128) (a : Nat)
include hc

/-- A counter of a cluster is one of its scratchpad's registers. -/
theorem Reg.ofPads_of_cluster {i b : Nat} (h0 : 0x6030 ≤ i) (h1 : i ≤ 0x6039) : (Reg.at i (c + 1) b).ofPads = true := by
  simp only [Reg.ofPads, Bool.and_eq_true, decide_eq_true_eq]
  rw [Reg.at_key]
  omega

/-- A refused access is counted in its cluster, whatever its report leads to (R283). -/
theorem Dev.rd_padViolation (m : Nat) : (s.padViolation c m a).rd (Obj.regionViolations c) = (s.rd (Obj.regionViolations c) + 1) % 2 ^ 64 := by
  have hview : (s.padViolation c m a).padView = (s.bump (Obj.regionViolations c)).padView := Dev.padView_detectFor ..
  exact (Dev.rd_of_padView hview (Reg.ofPads_of_cluster hc (by omega) (by omega))).trans (Dev.rd_bump_same ..)

/-- A word that cannot be corrected is counted in its cluster, whatever its reports lead to (R274). -/
theorem Dev.rd_padUncorrectable :
    (s.padUncorrectable c a).rd (Obj.scratchUncorrectable c) = (s.rd (Obj.scratchUncorrectable c) + 1) % 2 ^ 64 := by
  have hview : (s.padUncorrectable c a).padView = (s.bump (Obj.scratchUncorrectable c)).padView := by
    unfold Dev.padUncorrectable
    extract_lets counted reported k x rated
    have hrated : rated.padView = counted.padView := counted.padView_detect ..
    split <;> simp [hrated, counted]
  exact (Dev.rd_of_padView hview (Reg.ofPads_of_cluster hc (by omega) (by omega))).trans (Dev.rd_bump_same ..)

end

end Sys2Proof.Machine
end

section
/-! March passes (R284, R287 to R291, R304, R305): how one starts, and what its end leaves. -/

namespace Sys2Proof.Machine

open Sys2Proof

/-! ### The start (R290, R304) -/

section
variable (destroys soft files pad : Bool) {slot : Nat}

/-- The fields of a MarchControl word that a pass's start depends on. -/
theorem marchWord_fields (hslot : slot < 32) : field (marchWord (if destroys then 1 else 2) soft files pad slot) 0 2 = (if destroys then 1 else 2) ∧
    field (marchWord (if destroys then 1 else 2) soft files pad slot) 5 5 = slot := by
  have hb : ∀ b : Bool, b2n b ≤ 1 := by decide
  have hsoft := hb soft
  have hfiles := hb files
  have hpad := hb pad
  unfold field marchWord
  split <;> omega

theorem marchValid_marchWord (hslot : slot ≤ 16 ∨ slot = 31) : marchValid (marchWord (if destroys then 1 else 2) soft files pad slot) = true := by
  obtain ⟨hcommand, hfield⟩ := marchWord_fields destroys soft files pad (slot := slot) (by omega)
  rw [marchValid, hcommand, hfield]
  cases destroys <;> simpa using hslot

end

section
variable {s : Dev} (q : Requester) (c : Nat) {v : Nat} (hv : marchValid v = true) (hcommand : field v 0 2 ≠ 0)
include hv hcommand

theorem Dev.marchWrite_refused (h : s.marchRefused c v = true) : s.marchWrite q c v = s.refuse q .state := by
  simp [Dev.marchWrite, hv, hcommand, h]

theorem Dev.marchWrite_started (h : s.marchRefused c v = false) :
    s.marchWrite q c v = ((s.wr (Obj.marchControl c) v).marchStart c v false).accept q := by
  simp [Dev.marchWrite, hv, hcommand, h]

/-- A pass that starts runs as MarchControl asked. -/
theorem Dev.march_marchWrite (h : s.marchRefused c v = false) : (s.marchWrite q c v).march c = some ⟨v, false⟩ := by
  rw [Dev.marchWrite_started q c hv hcommand h, Dev.march, Dev.accept_marches]
  exact Tab.get_put_same (s.wr (Obj.marchControl c) v).marches c (some ⟨v, false⟩)

end

/-- MarchStatus while a pass runs (R305). -/
theorem Dev.marchNow_running {s : Dev} {c : Nat} {m : March} (h : s.march c = some m) :
    field (s.marchNow c) 0 2 = 1 ∧ bitAt (s.marchNow c) 2 = decide (field m.control 0 2 = 1) := by
  simp only [Dev.marchNow, h]
  refine ⟨?_, ?_⟩
  · rw [field_setField_below _ _ (by omega), field_setField_same]
    rfl
  · rw [bitAt_eq_field, field_setField_same]
    cases decide (field m.control 0 2 = 1) <;> rfl

/-! ### What a pass finds (R291) -/

/-- One finding of a pass taken up: the device, and the elements that fail. -/
def marchTake (c v : Nat) (z : Dev × List Nat) (x : MarchFound) : Dev × List Nat :=
  ((z.1.marchElem c v x).1, if (z.1.marchElem c v x).2 then z.2 else z.2 ++ [x.elem.val])

/-- The findings of a pass taken up one by one. -/
def Dev.marchFold (s : Dev) (c v : Nat) (found : List MarchFound) : Dev × List Nat := found.foldl (marchTake c v) (s, [])

/-- The elements that fail, in order. -/
def Dev.marchBad (s : Dev) (c v : Nat) (found : List MarchFound) : List Nat := sortBy (fun a b => decide (a ≤ b)) (s.marchFold c v found).2

theorem mem_marchTake {c v n : Nat} {z : Dev × List Nat} (x : MarchFound) (h : n ∈ z.2) : n ∈ (marchTake c v z x).2 := by
  unfold marchTake
  split
  · exact h
  · exact List.mem_append_left _ h

section
variable (s : Dev) (c v : Nat)

theorem Dev.marchElem_untested {x : MarchFound} (h : marchTests v x.elem.val = false) : s.marchElem c v x = (s, true) := by
  simp [Dev.marchElem, h]

/-- A failing word is not mended by a spare column. -/
theorem Dev.marchElem_word {x : MarchFound} (h : marchTests v x.elem.val = true) (hw : x.word = true) : (s.marchElem c v x).2 = false := by
  simp [Dev.marchElem, h, hw]

/-- An element changes MarchStatus, and spare columns. -/
theorem Dev.marchElem_only (x : MarchFound) : s.regsKept (s.marchElem c v x).1 [(Obj.marchStatus c).key] ∧ (s.marchElem c v x).1.regions = s.regions := by
  unfold Dev.marchElem
  extract_lets e n spared counted left
  split
  · exact ⟨.refl s _, rfl⟩
  · have hspared : s.regsKept spared [(Obj.marchStatus c).key] := (Dev.regsKept.refl s _).of_dict rfl
    have hregions : spared.regions = s.regions := rfl
    clear_value spared
    refine ⟨(hspared.setF _ _ _ (List.mem_singleton_self _)).setF _ _ _ (List.mem_singleton_self _), ?_⟩
    simp only [left, counted, Dev.setF_regions, hregions]

theorem Dev.marchFold_only (found : List MarchFound) :
    s.regsKept (s.marchFold c v found).1 [(Obj.marchStatus c).key] ∧ (s.marchFold c v found).1.regions = s.regions := by
  refine foldl_holds (fun z : Dev × List Nat => s.regsKept z.1 [(Obj.marchStatus c).key] ∧ z.1.regions = s.regions) _ (fun z x hz => ?_) found ⟨.refl s _, rfl⟩
  obtain ⟨hkept, hregions⟩ := z.1.marchElem_only c v x
  exact ⟨hz.1.trans hkept, hregions.trans hz.2⟩

theorem Dev.marchFold_untested {found : List MarchFound} (h : ∀ x ∈ found, marchTests v x.elem.val = false) : s.marchFold c v found = (s, []) := by
  refine List.foldlRecOn found _ (motive := fun z => z = (s, [])) rfl fun z hz x hx => ?_
  rw [hz, marchTake, Dev.marchElem_untested _ _ _ (h x hx)]
  rfl

/-- A failing word that the pass tests makes its element fail. -/
theorem Dev.marchFold_fails {found : List MarchFound} {x : MarchFound} (hx : x ∈ found) (h : marchTests v x.elem.val = true) (hw : x.word = true) :
    x.elem.val ∈ (s.marchFold c v found).2 := by
  have hkeeps : ∀ (ys : List MarchFound) (z : Dev × List Nat), x.elem.val ∈ z.2 → x.elem.val ∈ (ys.foldl (marchTake c v) z).2 := fun ys z hz =>
    foldl_holds (fun z : Dev × List Nat => x.elem.val ∈ z.2) _ (fun z y hz => mem_marchTake y hz) ys hz
  obtain ⟨ys, zs, rfl⟩ := List.append_of_mem hx
  rw [Dev.marchFold, List.foldl_append, List.foldl_cons]
  refine hkeeps zs _ ?_
  rw [marchTake, Dev.marchElem_word _ _ _ h hw]
  simp

end

/-! ### The end (R284, R287, R291) -/

section
variable (s : Dev) (c : Nat)

@[simp] theorem Dev.padView_marchFault (e : Nat) : (s.marchFault c e).padView = s.padView := by
  unfold Dev.marchFault
  split
  · simp
  · split
    · rfl
    · split <;> simp

/-- The reports of failing elements leave what the pass showed. -/
theorem Dev.padView_marchFaults (u : Dev) (bad : List Nat) : (bad.foldl (fun s e => s.marchFault c e) u).padView = u.padView :=
  foldl_keeps Dev.padView _ (fun _ _ => Dev.padView_marchFault ..) _ _

/-- What a pass's end leaves of a device: the registers, the passes and the region registers. -/
def Dev.marchedView (s : Dev) : Tab Nat × Tab (Option March) × Tab Nat := (s.dict, s.marches, s.regions)

theorem Dev.marchedView_slotZero (k : Nat) : (s.slotZero c k).marchedView = s.marchedView := by
  unfold Dev.slotZero
  split <;> rfl

/-- MarchStatus as a pass ends: its State, its kind and its first failing element (R303). -/
def Dev.marchShown (s : Dev) (c : Nat) (bad : List Nat) (destructive : Bool) : Dev :=
  ((s.setF (Obj.marchStatus c) 0 2 (if bad = [] then 2 else 3)).setF (Obj.marchStatus c) 2 1 (b2n destructive)).setF (Obj.marchStatus c) 8 8 (bad.headD 0xFF)

theorem Dev.marchShown_shows {s t : Dev} {c : Nat} (h : s.regsKept t [(Obj.marchStatus c).key]) (bad : List Nat) (destructive : Bool) :
    (t.marchShown c bad destructive).getF (Obj.marchStatus c) 0 2 = (if bad = [] then 2 else 3) ∧
    (t.marchShown c bad destructive).getF (Obj.marchStatus c) 8 8 = bad.headD 0xFF % 256 ∧
    s.regsKept (t.marchShown c bad destructive) [(Obj.marchStatus c).key] ∧ (t.marchShown c bad destructive).regions = t.regions := by
  have hbits : (Obj.marchStatus c).bits = 32 := rfl
  have hmem : (Obj.marchStatus c).key ∈ [(Obj.marchStatus c).key] := List.mem_singleton_self _
  unfold Dev.marchShown
  refine ⟨?_, Dev.getF_setF_same _ _ _ (by omega), ((h.setF _ _ _ hmem).setF _ _ _ hmem).setF _ _ _ hmem, ?_⟩
  · rw [Dev.getF_setF_other _ _ _ (by omega) (by omega), Dev.getF_setF_other _ _ _ (by omega) (by omega), Dev.getF_setF_same _ _ _ (by omega)]
    split <;> rfl
  · simp only [Dev.setF_regions]

variable {m : March} (hm : m.retest = false) (found : List MarchFound)
include hm

/-- The end of a pass that is no retest: the registers show what it found, and then the failing elements are reported. -/
theorem Dev.marchEnd_shows : ∃ u : Dev, s.marchEnd c m found = (s.marchBad c m.control found).foldl (fun s e => s.marchFault c e) u ∧
    u.march c = none ∧ u.getF (Obj.marchStatus c) 0 2 = (if s.marchBad c m.control found = [] then 2 else 3) ∧
    u.getF (Obj.marchStatus c) 8 8 = (s.marchBad c m.control found).headD 0xFF % 256 ∧ u.regions = s.regions ∧
    s.regsKept u [(Obj.marchStatus c).key, (Obj.clusterHealth c).key] := by
  unfold Dev.marchEnd
  extract_lets v destructive r bad shown first freed slots health k
  have hbad : s.marchBad c m.control found = bad := rfl
  rw [hm, hbad]
  obtain ⟨hkept, hregions⟩ := s.marchFold_only c v found
  have hr : s.marchFold c v found = r := rfl
  rw [hr] at hkept hregions
  clear_value r bad
  obtain ⟨hstate, helem, hfirst, hfirstRegions⟩ := Dev.marchShown_shows hkept bad destructive
  have hslots : slots.marchedView = freed.marchedView := by
    refine Dev.each_keeps Dev.marchedView 17 _ (fun k u => ?_) freed
    split
    · rfl
    · have hzeroed : (if destructive then u.slotZero c k else u).marchedView = u.marchedView := by
        split
        · exact u.marchedView_slotZero c k
        · rfl
      generalize (if destructive then u.slotZero c k else u) = w at hzeroed
      dsimp only
      split <;> exact hzeroed
  have hhealth : health.marches = slots.marches ∧ health.regions = slots.regions ∧ slots.regsKept health [(Obj.clusterHealth c).key] := by
    unfold health
    split
    · exact ⟨rfl, rfl, (Dev.regsKept.refl slots _).setF _ _ _ (List.mem_singleton_self _)⟩
    · exact ⟨rfl, rfl, .refl slots _⟩
  clear_value health
  simp only [Dev.marchedView, Prod.mk.injEq] at hslots
  obtain ⟨hdict, hmarches, hslotRegions⟩ := hslots
  obtain ⟨hm', hr', hk'⟩ := hhealth
  have hstatus : health.rd (Obj.marchStatus c) = first.rd (Obj.marchStatus c) :=
    (hk' _ (by simp [Obj.marchStatus, Obj.clusterHealth])).trans (congrArg (dictRd · _) hdict)
  refine ⟨health, rfl, ?_, ?_, ?_, ?_, fun x hx => ?_⟩
  · rw [Dev.march, hm', hmarches]
    exact Tab.get_put_same first.marches c none
  · exact (Dev.getF_eq _ _ _ _ _ hstatus).trans hstate
  · exact (Dev.getF_eq _ _ _ _ _ hstatus).trans helem
  · exact hr'.trans (hslotRegions.trans (hfirstRegions.trans hregions))
  · simp only [List.mem_cons, List.not_mem_nil, or_false, not_or] at hx
    exact ((hk' x (by simpa using hx.2)).trans (congrArg (dictRd · x) hdict)).trans (hfirst x (by simpa using hx.1))

end

end Sys2Proof.Machine
end

section
/-! O34: what a read of a scratchpad, the start of a march pass and its end leave (R274 to R291, R303 to R305). -/

namespace Sys2Proof.Machine

open Sys2Proof

/-! ### The clear (R284) -/

theorem regionKey_in (c : Nat) {k w : Nat} (hk : k < 19) (hw : w < 8) : regionKey c 0 0 ≤ regionKey c k w ∧ regionKey c k w < regionKey (c + 1) 0 0 := by
  unfold regionKey
  omega

/-- The clear leaves a scratchpad zero and its region registers at reset, and nothing else changed. -/
theorem State.clearPad_shows (s : State) (c : Nat) :
    (∀ a, Memory.byte (s.clearPad c).mem.pad (padKey c a) = 0) ∧
    (∀ k w, k < 19 → w < 8 → Tab.get 0 (s.clearPad c).dev.regions (regionKey c k w) = 0) ∧
    (∀ k a, k ≠ c → Memory.byte (s.clearPad c).mem.pad (padKey k a) = Memory.byte s.mem.pad (padKey k a)) ∧
    (s.clearPad c).dev.padView = s.dev.padView ∧ s.dev.regsKept (s.clearPad c).dev [] ∧ (s.clearPad c).mem.gddr = s.mem.gddr ∧
    (s.clearPad c).pending = s.pending := by
  refine ⟨fun a => ?_, fun k w hk hw => ?_, fun k a hk => Mem.byte_padClear_out _ _ hk, rfl, fun _ _ => rfl, rfl, rfl⟩
  · have hcut : padKey c a = padKey c (a % 2 ^ 20) := by rw [padKey, padKey, Nat.mod_mod]
    rw [hcut]
    exact Mem.byte_padClear_in _ _ _ (Nat.mod_lt _ (by omega))
  · obtain ⟨hlo, hhi⟩ := regionKey_in c hk hw
    exact Tab.get_filter_gone _ _ _ _ fun _ => by simp; omega

/-! ### The end of a pass (R287, R288, R291) -/

section
variable (s : Dev) {c : Nat} {m : March} (hm : m.retest = false) {found : List MarchFound}
include hm

/-- A pass that finds nothing in what it tests passes. -/
theorem Dev.marchEnd_passes (h : ∀ x ∈ found, marchTests m.control x.elem.val = false) :
    (s.marchEnd c m found).march c = none ∧ (s.marchEnd c m found).getF (Obj.marchStatus c) 0 2 = 2 ∧
    (s.marchEnd c m found).getF (Obj.marchStatus c) 8 8 = 0xFF ∧ (s.marchEnd c m found).regions = s.regions ∧
    s.regsKept (s.marchEnd c m found) [(Obj.marchStatus c).key, (Obj.clusterHealth c).key] := by
  have hnone : s.marchBad c m.control found = [] := by
    rw [Dev.marchBad, s.marchFold_untested c _ h]
    rfl
  obtain ⟨u, hend, hshows⟩ := s.marchEnd_shows c hm found
  rw [hnone] at hend hshows
  rw [hend]
  exact hshows

/-- A pass that tests a failing word fails, and its first failing element stays shown while the failures are reported. -/
theorem Dev.marchEnd_fails (hc : c < 128) {x : MarchFound} (hx : x ∈ found) (ht : marchTests m.control x.elem.val = true) (hw : x.word = true) :
    (s.marchEnd c m found).march c = none ∧ (s.marchEnd c m found).getF (Obj.marchStatus c) 0 2 = 3 ∧
    (s.marchEnd c m found).getF (Obj.marchStatus c) 8 8 = (s.marchBad c m.control found).headD 0xFF % 256 := by
  have hsome : s.marchBad c m.control found ≠ [] := List.ne_nil_of_mem ((mem_sortBy _ _).2 (s.marchFold_fails c _ hx ht hw))
  obtain ⟨u, hend, hmarch, hstate, helem, -, -⟩ := s.marchEnd_shows c hm found
  rw [if_neg hsome] at hstate
  have hview : (s.marchEnd c m found).padView = u.padView := by rw [hend, Dev.padView_marchFaults]
  have hstatus : (s.marchEnd c m found).rd (Obj.marchStatus c) = u.rd (Obj.marchStatus c) :=
    Dev.rd_of_padView hview (Reg.ofPads_of_cluster hc (by omega) (by omega))
  exact ⟨(Dev.march_of_padView hview c).trans hmarch, (Dev.getF_eq _ _ _ _ _ hstatus).trans hstate, (Dev.getF_eq _ _ _ _ _ hstatus).trans helem⟩

end

/-- The one failing word that a pass finds names the failing element. -/
theorem Dev.marchBad_singleton (s : Dev) (c v : Nat) {x : MarchFound} (ht : marchTests v x.elem.val = true) (hw : x.word = true) :
    s.marchBad c v [x] = [x.elem.val] := by
  rw [Dev.marchBad, Dev.marchFold, List.foldl_cons, marchTake, s.marchElem_word c v ht hw]
  rfl

/-- A bank that a preserving pass finds holds a word that cannot be corrected. -/
theorem State.word_of_mem_badBanks {s : State} {c : Nat} {x : MarchFound} (hx : x ∈ s.badBanks c) : x.word = true := by
  unfold State.badBanks at hx
  obtain ⟨e, -, rfl⟩ := List.mem_map.1 hx
  rfl

section
variable {s : State} {c : Nat} {m : March} (h : s.dev.march c = some m)
include h

theorem State.marchEnd_destructive (hd : field m.control 0 2 = 1) (found : List MarchFound) :
    s.marchEnd c found = ({ s with dev := s.dev.marchEnd c m found } : State).clearPad c := by
  simp only [State.marchEnd, h, if_pos hd]

theorem State.marchEnd_preserving (hd : field m.control 0 2 ≠ 1) : s.marchEnd c [] = { s with dev := s.dev.marchEnd c m (s.badBanks c) } := by
  simp [State.marchEnd, h, hd]

end

/-! ### O34 -/

/-- The commands that start a pass, by their word. -/
theorem exec_marchStart {s : State} {q : Requester} {c : Fin 128} (destroys soft files pad : Bool) (slot : Fin 32)
    (h : s.dev.hears q (Obj.marchControl c.val) (marchWord (if destroys then 1 else 2) soft files pad slot.val)) :
    exec (if destroys then .marchDestructive q c soft files pad slot else .marchPreserving q c soft files pad slot) s =
      .next { s with dev := s.dev.fresh.marchWrite q c.val (marchWord (if destroys then 1 else 2) soft files pad slot.val) } := by
  cases destroys
  · exact State.asked_hears (fun d => d.marchWrite q c.val (marchWord 2 soft files pad slot.val)) h
  · exact State.asked_hears (fun d => d.marchWrite q c.val (marchWord 1 soft files pad slot.val)) h

theorem exec_scratchpadRead {s : State} {c : Fin 128} (hup : s.dev.up c.val) (m : Fin 19) (addr : BitVec 20) (k0 k1 : Check) (x y : Option PortWrite)
    (waited : Fin 9) : exec (.scratchpadRead c m addr k0 k1 (x, y) waited) s =
      .next (s.start.padAccess c.val m.val addr.toNat k0 k1 x y waited.val) :=
  State.runInM_up (fun s => s.padAccess c.val m.val addr.toNat k0 k1 x y waited.val) hup

theorem exec_marchPassEnd {s : State} {c : Fin 128} (hup : s.dev.up c.val) (found : List MarchFound) :
    exec (.marchPassEnd c found) s = .next (s.start.marchEnd c.val found) :=
  State.runInM_up (fun s => s.marchEnd c.val found) hup

/-- From an outcome to what its state has, the state given by an equation. -/
theorem nextHas_state {o : Host.Outcome State Fault Refusal} {t u : State} {p : State → Prop} (ho : o = .next t) (hu : t = u) (hp : p u) : nextHas o p :=
  ⟨_, ho, hu ▸ hp⟩

/-- Settles O34: a read by the forms of an access, and a pass by what its start and its end leave; no report that they lead to reaches what they show. -/
theorem scratchpadsReadAndMarch : Obligations.ScratchpadsReadAndMarch := by
  unfold Obligations.ScratchpadsReadAndMarch
  intro s c
  refine ⟨fun m addr waited hup hfree => ?held, fun m addr waited hup hfree => ?reads, fun q destroys soft files pad slot => ?starts,
    fun m hup hmarch => ?ends⟩
  case held => exact nextHas_state (exec_scratchpadRead hup ..) (State.padAccess_held (s := s.start) _ _ _ _ _ hfree) ⟨rfl, rfl, rfl⟩
  case reads =>
    intro n a
    refine ⟨fun hw h0 h1 => ?granted, fun hw => ?refused, fun w hm hw => ?collides, fun hm hw => ?uncorrectable⟩
    case granted =>
      obtain ⟨d, hd, he⟩ := State.padAccess_sound (s := s.start) (n := n) waited.val hfree rfl hw h0 h1
      refine nextHas_state (exec_scratchpadRead hup ..) he ⟨?_, ?_, rfl, rfl⟩
      · rcases hd with rfl | rfl <;> rfl
      · rcases hd with rfl | rfl
        · exact s.dev.regsKept_fresh _
        · exact (s.dev.regsKept_fresh _).bumpBy _ (List.mem_singleton_self _)
    case refused =>
      refine nextHas_state (exec_scratchpadRead hup ..) (State.padAccess_refused (s := s.start) (n := n) _ _ _ _ _ hfree rfl hw) ⟨?_, ?_, rfl, rfl⟩
      · exact List.mem_append_right _ (List.mem_singleton_self _)
      · exact Dev.rd_padViolation _ c.isLt _ _
    case collides =>
      obtain rfl : m = 18 := Fin.ext hm
      refine nextHas_state (exec_scratchpadRead hup ..) (State.padAccess_steward (s := s.start) _ _ _ _ _ hfree hw) ⟨⟨_, rfl⟩, ?_, ?_, ?_, ?_, rfl⟩
      · exact Mem.padRead_padMasked ..
      · exact Dev.rd_bump_same ..
      · exact (s.dev.regsKept_fresh _).bump (List.mem_singleton_self _)
      · exact Mem.gddr_padMasked ..
    case uncorrectable =>
      obtain rfl : m = 18 := Fin.ext hm
      have hread := (State.padAccess_steward (s := s.start) .uncorrectable .ok none none waited.val hfree hw).trans
        (by rw [State.padHalf_uncorrectable])
      refine nextHas_state (exec_scratchpadRead hup ..) hread ⟨?_, ?_, ?_, rfl, rfl, rfl⟩
      · exact List.mem_append_right _ (List.mem_singleton_self _)
      · exact Tab.get_put_same (d := false) s.mem.padBad (padWordKey c.val a) true
      · exact Dev.rd_padUncorrectable _ c.isLt _
  case starts =>
    intro v i hears hslot
    have hvalid : marchValid v = true := marchValid_marchWord destroys soft files pad hslot
    obtain ⟨hcommand, -⟩ := marchWord_fields destroys soft files pad slot.isLt
    have hne : field v 0 2 ≠ 0 := by
      rw [hcommand]
      split <;> omega
    refine ⟨fun hok => ?_, fun hno => ?_⟩
    · have hruns := Dev.march_marchWrite (s := s.dev.fresh) q c.val hvalid hne hok
      obtain ⟨hstate, hkind⟩ := Dev.marchNow_running hruns
      have hstart := Dev.marchWrite_started (s := s.dev.fresh) q c.val hvalid hne hok
      refine ⟨_, exec_marchStart destroys soft files pad slot hears, ?_, hruns, hstate, ?_, ?_, rfl, rfl⟩
      · rw [hstart]
        exact Dev.told_accept _ q
      · refine hkind.trans ?_
        rw [hcommand]
        cases destroys <;> rfl
      · rw [hstart]
        have hwritten := (s.dev.regsKept_fresh _).wr (r := Obj.marchControl c.val) v (List.mem_singleton_self _)
        exact (hwritten.of_dict (u := (s.dev.fresh.wr (Obj.marchControl c.val) v).marchStart c.val v false) rfl).accept q
    · refine ⟨_, exec_marchStart destroys soft files pad slot hears, ?_, ?_, rfl, rfl⟩
      all_goals rw [Dev.marchWrite_refused (s := s.dev.fresh) q c.val hvalid hne hno]
      · exact Dev.told_refuse _ q _
      · exact (s.dev.regsKept_fresh []).refuse q _
  case ends =>
    have hend := exec_marchPassEnd hup
    have hmarch' : s.start.dev.march c.val = some m := hmarch
    refine ⟨fun hr hnone => ?passes, fun x hr hd hx ht => ?fails, fun x hr hd ht hw => ?failsDestroying⟩
    case passes =>
      by_cases hd : field m.control 0 2 = 1
      · obtain ⟨hgone, hstate, helem, -, hkept⟩ := Dev.marchEnd_passes s.dev.fresh hr (c := c.val) (found := []) (fun _ hx => absurd hx List.not_mem_nil)
        obtain ⟨hzero, hreset, hothers, hview, hclear, hgddr, hpending⟩ :=
          State.clearPad_shows { s.start with dev := s.dev.fresh.marchEnd c.val m [] } c.val
        have hstatus := hclear (Obj.marchStatus c.val) List.not_mem_nil
        refine nextHas_state (hend []) (State.marchEnd_destructive hmarch' hd [])
          ⟨(Dev.march_of_padView hview _).trans hgone, (Dev.getF_eq _ _ _ _ _ hstatus).trans hstate, (Dev.getF_eq _ _ _ _ _ hstatus).trans helem,
            fun _ => ⟨hzero, hreset⟩, fun hne => absurd hd hne, hothers, ?_, hgddr, hpending⟩
        exact ((s.dev.regsKept_fresh _).trans hkept).trans fun r _ => hclear r List.not_mem_nil
      · obtain ⟨hgone, hstate, helem, hregions, hkept⟩ :=
          Dev.marchEnd_passes s.dev.fresh hr (c := c.val) (found := s.badBanks c.val) (hnone.resolve_left hd)
        exact nextHas_state (hend []) (State.marchEnd_preserving hmarch' hd)
          ⟨hgone, hstate, helem, fun hdestroys => absurd hdestroys hd, fun _ => ⟨rfl, hregions⟩, fun _ _ _ => rfl,
            (s.dev.regsKept_fresh _).trans hkept, rfl, rfl⟩
    case fails =>
      obtain ⟨hgone, hstate, -⟩ := Dev.marchEnd_fails s.dev.fresh hr c.isLt (found := s.badBanks c.val) hx ht (State.word_of_mem_badBanks hx)
      exact nextHas_state (hend []) (State.marchEnd_preserving hmarch' hd) ⟨hgone, hstate, rfl, rfl⟩
    case failsDestroying =>
      obtain ⟨hgone, hstate, helem⟩ := Dev.marchEnd_fails s.dev.fresh hr c.isLt (found := [x]) (List.mem_singleton_self _) ht hw
      rw [Dev.marchBad_singleton _ _ _ ht hw] at helem
      refine nextHas_state (hend [x]) (State.marchEnd_destructive hmarch' hd [x]) ⟨hgone, hstate, ?_, rfl, rfl⟩
      refine helem.trans (Nat.mod_eq_of_lt ?_)
      exact Nat.lt_trans x.elem.isLt (by decide)

end Sys2Proof.Machine
end
